-- ==== Sys2Proof/Word.lean ====
section
/-! DEFINITION. The word types of Jenuz-96: 32-bit registers (R15), bytes, and plain arithmetic on the numbers they spell. -/

namespace Sys2Proof

/-- A byte of the manager's memory (R15). -/
abbrev Byte := BitVec 8

/-- A 32-bit register or memory word (R15). -/
abbrev Word := BitVec 32

/-- Bits lo to lo + w − 1 of a number. -/
def bitsOf (n lo w : Nat) : Nat := n / 2 ^ lo % 2 ^ w

/-- Bit k of a number. -/
def bitOf (n k : Nat) : Bool := n.testBit k

/-- 1 for true, 0 for false. -/
def b01 (b : Bool) : Nat := if b then 1 else 0

/-- A w-bit number read as two's complement. -/
def signedOf (w n : Nat) : Int := if n % 2 ^ w < 2 ^ (w - 1) then (n % 2 ^ w : Nat) else (n % 2 ^ w : Nat) - (2 ^ w : Nat)

/-- An integer as a w-bit two's complement number. -/
def unsignedOf (w : Nat) (z : Int) : Nat := (z % (2 ^ w : Nat)).toNat

/-- An integer held between two limits. -/
def clampI (lo hi z : Int) : Int := if z < lo then lo else if hi < z then hi else z

/-- A number held at or below a limit (a counter that saturates). -/
def satN (hi n : Nat) : Nat := if hi < n then hi else n

end Sys2Proof
end

