-- ==== Sys2Proof/Syntax.lean ====
section
/-! DEFINITION. The commands of Jenuz-96: one constructor per row of spec/opcode_table.json. -/

namespace Sys2Proof

/-- R51: the conversions of the two sensors of a patch that scans at the present boundary, before trim. -/
structure ScanObs where
  field : Fin 96
  patch : Fin 36
  c0 : BitVec 12
  c1 : BitVec 12
  deriving DecidableEq, Repr

/-- R69, R75: a partial count of one event of one patch over an eighth of a pick. -/
structure CountObs where
  patch : Fin 36
  event : Fin 10
  n : BitVec 24
  deriving DecidableEq, Repr

/-- R70: a partial count of an interface event of a field: 0 to 3 name events 11 to 14. -/
structure IfaceObs where
  event : Fin 4
  n : BitVec 24
  deriving DecidableEq, Repr

/-- R203, R205: an output tag in a begin marker, with the producing wafer's address. -/
structure TagObs where
  tag : BitVec 64
  src : BitVec 16
  deriving DecidableEq, Repr

/-- R203: the StepTag word of a marker, and the timestamp that the sentinel adds to it. -/
structure Stamped where
  word : BitVec 64
  stamp : BitVec 64
  deriving DecidableEq, Repr

/-- R280: the bytes of a message's cells; R373: whether a cell of it arrived poisoned. -/
structure Cells where
  bytes : List Byte
  poison : Bool
  deriving DecidableEq, Repr

/-- R249: the statistics block of an end marker. -/
structure StatObs where
  count : BitVec 32
  nonfin : BitVec 32
  low : BitVec 32
  high : BitVec 32
  sum : BitVec 32
  deriving DecidableEq, Repr

/-- R65: the deepest level that each of the four detectors of a patch recorded in the pick that ends. -/
structure DepthObs where
  field : Fin 96
  patch : Fin 36
  d0 : BitVec 6
  d1 : BitVec 6
  d2 : BitVec 6
  d3 : BitVec 6
  deriving DecidableEq, Repr

/-- R256, R264: the comparators of the two sensors of a patch. -/
structure TripObs where
  field : Fin 96
  patch : Fin 36
  c0 : Bool
  c1 : Bool
  deriving DecidableEq, Repr

/-- R314: the access that a closing gate cuts: its address, the code of its master (R366), and whether it writes. -/
structure AccessObs where
  addr : BitVec 32
  master : Fin 9
  write : Bool
  deriving DecidableEq, Repr

/-- What one self-test slice found (R343 to R349). -/
inductive SliceObs where
  /-- The first failing check, none where all pass. -/
  | flag (fail : Option (BitVec 4))
  /-- R343: ADPLL counts at index 0, 24, 56, 88 and at stretch levels 1 to 4; locks in time. -/
  | clock (counts : List (BitVec 16)) (lock : Bool)
  /-- R344: errors of the conversions of TS0 at CAL_LO and CAL_HI, then of TS1, in 0.125 °C. -/
  | therm (errs : List (BitVec 12))
  /-- R345: crossing depths of DD0 to DD3 at levels 1, 6, 24 and 63, in 0.25 mV. -/
  | droop (depths : List (BitVec 10))
  /-- R346: the step of the sweep at which the filtered output rose. -/
  | trip (rise : Option (Fin 13))
  deriving DecidableEq, Repr

/-- R351: a slice of phase 1 on a patch, with what it found. -/
structure PatchObs where
  patch : Fin 36
  slice : BitVec 8
  obs : SliceObs
  deriving DecidableEq, Repr

/-- R352: a patch that fails a stress point, low or high. -/
structure PointObs where
  patch : Fin 36
  low : Bool
  deriving DecidableEq, Repr

/-- R351: what phase 1 of a stress test found: the failing check of FIELD_ENGINE, the domains whose LINK_LOOP failed, the
patch slices. Phases 3 and 5: the patches that fail points. -/
structure PhaseObs where
  engine : Option (BitVec 4)
  links : List (Fin 4)
  patches : List PatchObs
  points : List PointObs
  deriving DecidableEq, Repr

/-- R326: what the hashing engine and the verifier find of an image: SHA-384 of its key, and check 5. -/
structure SigObs where
  hash : BitVec 384
  sig : Bool
  deriving DecidableEq, Repr

/-- R321: what SFDP gives of the flash: a table with 1-1-4 read, its 4-byte opcodes, dummy cycles, log2 of its size. -/
structure SfdpObs where
  ok : Bool
  addr4 : Bool
  dummy : BitVec 4
  density : BitVec 8
  deriving DecidableEq, Repr

/-- R412: the PEC of a PMBus write. -/
inductive Pec where
  | absent | good | bad
  deriving DecidableEq, Repr

/-- The commands: a row of the table each. f is a field, p a patch, k a domain, sub a sub-pick, m a message. -/
inductive Instr where
  /-- R11. -/
  | resetNAssert
  /-- R318. strap: PMB_ADDR1 and PMB_ADDR0. -/
  | resetNRelease (strap : BitVec 2)
  /-- R15. m: master (0 to 7 a host context, 8 the core); a: address; write: a write; narrow: not of 32 bits. -/
  | malformedAccess (m : Fin 9) (a : BitVec 32) (write narrow : Bool)
  /-- R18. m: master; a: address of any register read; sub: sub-pick of the read. -/
  | pairLowRead (m : Fin 9) (a : BitVec 32) (sub : BitVec 12)
  /-- R18. m: master; a: address of the high word; v: data; sub: sub-pick of the write. -/
  | pairHighWrite (m : Fin 9) (a v : BitVec 32) (sub : BitVec 12)
  /-- R16. m: master; a: address; v: data; sub: sub-pick of the write. -/
  | registerWrite (m : Fin 9) (a v : BitVec 32) (sub : BitVec 12)
  /-- R24. depths: detector depths of the pick that ends; warm: patches with a RESTART comparator high. -/
  | pickBoundary (depths : List DepthObs) (warm : List TripObs)
  /-- R21. -/
  | boltBoundary
  /-- R27. word: pick word; crc: CRC symbols; spaced: 625 symbols after the last SOF, or first; clean: no code or
  disparity violation; at_: sub-picks from the last boundary to the SOF. -/
  | timingFrame (word : BitVec 64) (crc : BitVec 16) (spaced clean : Bool) (at_ : BitVec 13)
  /-- R30. -/
  | tbLock
  /-- R30. -/
  | tbAcqTimeout
  /-- R30. -/
  | tbLaneLost
  /-- R32. -/
  | tbHoldoverLimit
  /-- R34. -/
  | tbAlignStart
  /-- R34. -/
  | timeStep
  /-- R30. -/
  | tbAlignDone
  /-- R40. f: field; p: patch; ofs: difference of the sentinel's copy from the count. -/
  | countReload (f : Fin 96) (p : Fin 36) (ofs : Int)
  /-- R41. fields: mask of fields. -/
  | netReroute (fields : BitVec 96)
  /-- R41. fields: mask of fields. -/
  | netDelayMeasured (fields : BitVec 96)
  /-- R42. -/
  | actArm
  /-- R42. -/
  | actCancel
  /-- R42. -/
  | actFree
  /-- R43. i: slot. -/
  | actionApply (i : Fin 16)
  /-- R45. -/
  | armStop
  /-- R48. -/
  | armResume
  /-- R49. -/
  | stopCancel
  /-- R45. -/
  | globalStop
  /-- R48. -/
  | globalResume
  /-- R55. scans: conversions of the patches that scan; sub: sub-pick. -/
  | thermalScan (scans : List ScanObs) (sub : BitVec 12)
  /-- R61. f: field; p: patch; t: sensor. -/
  | suspectClear (f : Fin 96) (p : Fin 36) (t : Fin 2)
  /-- R112. f: field; p: patch; depth: level below which the rail fell. -/
  | stretchEntry (f : Fin 96) (p : Fin 36) (depth : BitVec 6)
  /-- R113. f: field; p: patch. -/
  | stretchRelease (f : Fin 96) (p : Fin 36)
  /-- R199. f: field; p: patch; depth: level below which the rail fell; sub: sub-pick. -/
  | floorCrossing (f : Fin 96) (p : Fin 36) (depth : BitVec 6) (sub : BitVec 12)
  /-- R67. f: field; p: patch; slack: smallest slack of the window, 2 ps. -/
  | pmSample (f : Fin 96) (p : Fin 36) (slack : BitVec 11)
  /-- R78. m: master; f: field; p: patch. -/
  | actLatchRead (m : Fin 9) (f : Fin 96) (p : Fin 36)
  /-- R141. f: field; e: eighth; cs: sentinel counts; is: interface counts. -/
  | eighthUpdate (f : Fin 96) (e : Fin 8) (cs : List CountObs) (is : List IfaceObs)
  /-- R131. f: field; k: domain; w: payload; crc: CRC symbols; clean: no code violation. -/
  | upFrame (f : Fin 96) (k : Fin 4) (w : BitVec 64) (crc : BitVec 16) (clean : Bool)
  /-- R130. f: field; k: domain. -/
  | upFrameMissing (f : Fin 96) (k : Fin 4)
  /-- R76. f: field. -/
  | meterReconcile (f : Fin 96)
  /-- R91. f: field; k: domain. -/
  | lSlewSample (f : Fin 96) (k : Fin 4)
  /-- R91. f: field. -/
  | lPowerSample (f : Fin 96)
  /-- R91. -/
  | lCapSample
  /-- R94. f: field, 96 for L-CAP; i: instance. -/
  | loopCommandEffect (f : Fin 97) (i : Fin 41)
  /-- R105. f: field; i: index written. -/
  | ceRearm (f : Fin 96) (i : BitVec 6)
  /-- R107. -/
  | buCeRearm
  /-- R105. f: field, 96 for L-CAP; i: instance. -/
  | rearmApply (f : Fin 97) (i : Fin 41)
  /-- R119. f: field; k: domain. -/
  | raiseComplete (f : Fin 96) (k : Fin 4)
  /-- R111. f: field; p: patch. -/
  | patchClockStart (f : Fin 96) (p : Fin 36)
  /-- R123. f: field; p: patch; v: MOFS. -/
  | mofsWrite (f : Fin 96) (p : Fin 36) (v : BitVec 6)
  /-- R123. f: field; p: patch. -/
  | mofsRaiseApply (f : Fin 96) (p : Fin 36)
  /-- R399. f: field; p: patch. -/
  | retire (f : Fin 96) (p : Fin 36)
  /-- R135. f: field; k: domain. -/
  | linkUp (f : Fin 96) (k : Fin 4)
  /-- R135. f: field; k: domain. -/
  | linkDegraded (f : Fin 96) (k : Fin 4)
  /-- R135. f: field; k: domain. -/
  | linkLost (f : Fin 96) (k : Fin 4)
  /-- R135. f: field; k: domain. -/
  | reenable (f : Fin 96) (k : Fin 4)
  /-- R135. f: field; k: domain. -/
  | linkAckSafe (f : Fin 96) (k : Fin 4)
  /-- R135. f: field; k: domain. -/
  | linkRecovered (f : Fin 96) (k : Fin 4)
  /-- R137. f: field; k: domain; m: mode. -/
  | modeReq (f : Fin 96) (k : Fin 4) (m : BitVec 2)
  /-- R307. -/
  | holdSafeEnter
  /-- R308. -/
  | holdSafeRelease
  /-- R153. f: field; k: domain. -/
  | domCeiling (f : Fin 96) (k : Fin 4)
  /-- R438. f: field; k: domain. -/
  | domCeilingLift (f : Fin 96) (k : Fin 4)
  /-- R155. -/
  | capEffective
  /-- R191. -/
  | capDeferEnd
  /-- R156. f: field; p: patch; w: hint word. -/
  | hintWrite (f : Fin 96) (p : Fin 36) (w : BitVec 64)
  /-- R159. f: field. -/
  | hintDrop (f : Fin 96)
  /-- R160. f: field. -/
  | heavyAhead (f : Fin 96)
  /-- R158. f: field. -/
  | lightAhead (f : Fin 96)
  /-- R171. f: field. -/
  | barrierAhead (f : Fin 96)
  /-- R190. f: field. -/
  | collectiveBegin (f : Fin 96)
  /-- R190. f: field. -/
  | collectiveEnd (f : Fin 96)
  /-- R158. f: field. -/
  | formatAhead (f : Fin 96)
  /-- R249. f: field. -/
  | watch (f : Fin 96)
  /-- R158. f: field. -/
  | hintEffect (f : Fin 96)
  /-- R158. f: field. -/
  | preposExpire (f : Fin 96)
  /-- R163. bank: bank: a host context, or 8 the core. -/
  | admitJob (bank : Fin 9)
  /-- R164. -/
  | admitResult
  /-- R167. bank: bank; job: job number. -/
  | release (bank : Fin 9) (job : BitVec 12)
  /-- R172. f: field; p: patch; t: tile; barrier: a barrier wait, else another wait. -/
  | barrierWaitEnter (f : Fin 96) (p : Fin 36) (t : BitVec 8) (barrier : Bool)
  /-- R181. f: field; p: patch; t: tile. -/
  | barrierWaitLeave (f : Fin 96) (p : Fin 36) (t : BitVec 8)
  /-- R175. f: field; k: domain. -/
  | floorHoldExpire (f : Fin 96) (k : Fin 4)
  /-- R186. f: field; k: domain. -/
  | nDomAdd (f : Fin 96) (k : Fin 4)
  /-- R188. m: message bytes. -/
  | barrierNotice (m : Cells)
  /-- R194. m: message bytes. -/
  | slackNotice (m : Cells)
  /-- R203, R212. f: field; p: patch; t: tile; tag: StepTag word, stamped; tags: output tags held. -/
  | beginMark (f : Fin 96) (p : Fin 36) (t : BitVec 8) (tag : Stamped) (tags : List TagObs)
  /-- R206. -/
  | beginGo
  /-- R210. f: field; p: patch; t: tile; tag: StepTag word, stamped; digest: digest; poison: POISON; o: statistics block. -/
  | endMark (f : Fin 96) (p : Fin 36) (t : BitVec 8) (tag : Stamped) (digest : BitVec 64) (poison : Bool) (o : StatObs)
  /-- R210. -/
  | markApply
  /-- R219. h: queue handle; takes: the queue takes a write. -/
  | hostNoticeRetry (h : BitVec 32) (takes : Bool)
  /-- R220. k: entry. -/
  | bastWindowExpire (k : BitVec 16)
  /-- R221. tag: output tag; dst: destination address. -/
  | destReport (tag : BitVec 64) (dst : BitVec 16)
  /-- R222. k: entry. -/
  | ledgerNoticeResend (k : BitVec 16)
  /-- R224. m: message bytes. -/
  | ledgerNotice (m : Cells)
  /-- R222. m: message bytes. -/
  | destAck (m : Cells)
  /-- R225. m: message bytes. -/
  | ledgerQuery (m : Cells)
  /-- R226. k: entry; peer: destination. -/
  | destGiveup (k : BitVec 16) (peer : BitVec 10)
  /-- R241. who: caller: a host context, or 8 the core; k: entry. -/
  | replaced (who : Fin 9) (k : BitVec 16)
  /-- R229. k: entry. -/
  | lgSel (k : BitVec 16)
  /-- R235. h: queue handle; takes: the queue takes a write. -/
  | runRequestRetry (h : BitVec 32) (takes : Bool)
  /-- R237. f: field; p: patch; t: tile; tag: StepTag word, stamped; isEnd: an end marker; digest: digest; poison: POISON. -/
  | runMarker (f : Fin 96) (p : Fin 36) (t : BitVec 8) (tag : Stamped) (isEnd : Bool) (digest : BitVec 64) (poison : Bool)
  /-- R237. i: record. -/
  | runLapse (i : BitVec 10)
  /-- R242. i: record. -/
  | verdictGiveup (i : BitVec 10)
  /-- R243. i: record. -/
  | repeatLapse (i : BitVec 10)
  /-- R251. who: caller; f: field; p: patch. -/
  | assayReq (who : Fin 9) (f : BitVec 7) (p : BitVec 6)
  /-- R251. -/
  | assayStart
  /-- R251. obs: what its slices found. -/
  | assayDone (obs : List SliceObs)
  /-- R252. i: record. -/
  | lgRpSel (i : BitVec 10)
  /-- R258. hot: patches with a TRIP comparator high; sub: sub-pick. -/
  | thermalTrip (hot : List TripObs) (sub : BitVec 12)
  /-- R261. sub: sub-pick. -/
  | coolantStop (sub : BitVec 12)
  /-- R259. f: field; p: patch; t: sensor. -/
  | tripOff (f : Fin 96) (p : Fin 36) (t : Fin 2)
  /-- R319. high: the new level. -/
  | coolOkChange (high : Bool)
  /-- R262. -/
  | coolStartDone
  /-- R264. -/
  | selvedgeRestart
  /-- R266. -/
  | restartComplete
  /-- R265. -/
  | selvedgeRelease
  /-- R269. f: field; k: channel; code: refresh code. -/
  | mr4Report (f : Fin 96) (k : Fin 32) (code : BitVec 5)
  /-- R269. f: field; k: channel. -/
  | mr4Lost (f : Fin 96) (k : Fin 32)
  /-- R271. e: engine; temps: temperatures, two's complement. -/
  | optTempReport (e : Fin 24) (temps : List (BitVec 8))
  /-- R271. e: engine. -/
  | optReportLost (e : Fin 24)
  /-- R274. a: address. -/
  | ppSelf (a : BitVec 16)
  /-- R275. m: message bytes. -/
  | heartbeat (m : Cells)
  /-- R277. i: peer. -/
  | peerAbsent (i : BitVec 10)
  /-- R275. i: peer. -/
  | peerEvict (i : BitVec 10)
  /-- R279. g: group. -/
  | grpAdd (g : BitVec 16)
  /-- R279. g: group. -/
  | grpRemove (g : BitVec 16)
  /-- R279. g: group. -/
  | grpClear (g : BitVec 16)
  /-- R288. m: message bytes. -/
  | ringPlace (m : Cells)
  /-- R289. -/
  | stagingPlace
  /-- R289. -/
  | stageLimitExpire
  /-- R290. v: HEAD. -/
  | ringHeadWrite (v : BitVec 12)
  /-- R284. i: peer; sub: sub-pick. -/
  | peerSend (i : BitVec 10) (sub : BitVec 12)
  /-- R300. i: peer. -/
  | peerSendCancel (i : BitVec 10)
  /-- R287. m: message bytes. -/
  | dlv (m : Cells)
  /-- R287. m: message bytes. -/
  | nack (m : Cells)
  /-- R287. i: peer; seq: sequence. -/
  | peerResend (i : BitVec 10) (seq : BitVec 16)
  /-- R285. i: peer; seq: sequence. -/
  | replyReservationExpire (i : BitVec 10) (seq : BitVec 16)
  /-- R292. m: message bytes. -/
  | loanGrant (m : Cells)
  /-- R293. m: message bytes. -/
  | loanReturn (m : Cells)
  /-- R293. i: entry. -/
  | loanEnd (i : Fin 32)
  /-- R293. i: entry less 32. -/
  | loanCreditTimeout (i : Fin 32)
  /-- R300. i: entry. -/
  | loanReturnCmd (i : Fin 32)
  /-- R295. v: cap; urgent: URGENT. -/
  | ppRackCap (v : BitVec 16) (urgent : Bool)
  /-- R298. m: message bytes; t2: sub-pick of arrival; t3: sub-pick of the reply. -/
  | timeReq (m : Cells) (t2 t3 : BitVec 12)
  /-- R298. m: message bytes; t4: sub-pick of arrival. -/
  | timeReply (m : Cells) (t4 : BitVec 12)
  /-- R300. i: peer. -/
  | ppPsel (i : BitVec 10)
  /-- R297. m: message bytes; sub: sub-pick. -/
  | imageOpen (m : Cells) (sub : BitVec 12)
  /-- R297. m: message bytes; sub: sub-pick. -/
  | imageChunk (m : Cells) (sub : BitVec 12)
  /-- R297. -/
  | imageSessionIdle
  /-- R335. o: what the engines find; sub: sub-pick. -/
  | imageVerifyDone (o : SigObs) (sub : BitVec 12)
  /-- R303. us: length of the WAIT it ends. -/
  | refclkQualify (us : BitVec 32)
  /-- R303. -/
  | refclkLost
  /-- R304. us: length of the WAIT it ends. -/
  | tbclkQualify (us : BitVec 32)
  /-- R304. -/
  | tbclkLost
  /-- R306. -/
  | pllEn
  /-- R305. -/
  | pllLock
  /-- R306. -/
  | pllNolock
  /-- R306. -/
  | pllUnlock
  /-- R306. -/
  | pllRelock
  /-- R306. -/
  | pllHoldTimeout
  /-- R306. -/
  | tbReturn
  /-- R310. -/
  | roscStop
  /-- R312. v: word written. -/
  | ckGate (v : BitVec 32)
  /-- R313. b: gate. -/
  | gateOpen (b : Fin 12)
  /-- R314. b: gate; cut: the access it cuts. -/
  | gateClose (b : Fin 12) (cut : Option AccessObs)
  /-- R316. patch: CK_CLKOUT_PATCH, else CK_CLKOUT; v: word written. -/
  | clkoutChange (patch : Bool) (v : BitVec 32)
  /-- R341. fail: failing slice and check; lane: LANE_LOOP passes. -/
  | kernelSelftest (fail : Option (BitVec 8 × BitVec 8)) (lane : Bool)
  /-- R330. a: signatures of slot A; b: of slot B; sfdp: the flash. -/
  | imageLoad (a b : SigObs) (sfdp : SfdpObs)
  /-- R330. -/
  | configLock
  /-- R336. -/
  | noImageRestart
  /-- R318. -/
  | stressStart
  /-- R351. f: field; o: what the phase found. -/
  | stressPhaseDone (f : Fin 96) (o : PhaseObs)
  /-- R351. f: field. -/
  | heatLimitExpire (f : Fin 96)
  /-- R352. f: field. -/
  | stressDone (f : Fin 96)
  /-- R318. f: field. -/
  | fieldBringUp (f : Fin 96)
  /-- R318. -/
  | ready
  /-- R331. -/
  | marginWrite
  /-- R337. key: key slot; purpose: purpose; len: length. -/
  | sigVerify (key purpose : BitVec 2) (len : BitVec 8)
  /-- R337. ok: the signature holds. -/
  | sigVerifyDone (ok : Bool)
  /-- R341. w: BT_SEL as written; tap: from the TAP. -/
  | sliceGo (w : BitVec 32) (tap : Bool)
  /-- R359. f: field or 0x7F. -/
  | sliceAbort (f : BitVec 7)
  /-- R354. f: field or 0x7F. -/
  | sliceRegionTake (f : BitVec 7)
  /-- R341. f: field or 0x7F. -/
  | sliceRegionTimeout (f : BitVec 7)
  /-- R355. f: field or 0x7F; obs: what it found. -/
  | sliceDone (f : BitVec 7) (obs : List SliceObs)
  /-- R341. f: field or 0x7F. -/
  | sliceOverrun (f : BitVec 7)
  /-- R358. w: word. -/
  | btImgData (w : BitVec 32)
  /-- R358. -/
  | btLoad
  /-- R368. sub: sub-pick. -/
  | faultRecord (sub : BitVec 12)
  /-- R368. c: class. -/
  | escalationTimeout (c : Fin 12)
  /-- R368. mask: classes. -/
  | faultAck (mask : BitVec 12)
  /-- R368. mask: classes. -/
  | faultClear (mask : BitVec 12)
  /-- R372. w: FC_FORCE as written. -/
  | faultForce (w : BitVec 32)
  /-- R373. v: level. -/
  | fcHpoison (v : Bool)
  /-- R373. mem: memory; off: address in it; field: field of a steward's memory; fixed: corrected. -/
  | sramError (mem : Fin 5) (off : BitVec 28) (field : BitVec 7) (fixed : Bool)
  /-- R369. h: queue handle; takes: the queue takes a write. -/
  | faultNoticeRetry (h : BitVec 32) (takes : Bool)
  /-- R370. rosc: timed on ROSC, no boundaries. -/
  | l4Reset (rosc : Bool)
  /-- R370. -/
  | l4CountClear
  /-- R379. -/
  | operatingHourTick
  /-- R380. -/
  | hourEnd
  /-- R384. n: number of records written. -/
  | recordSetWrite (n : BitVec 10)
  /-- R385. -/
  | ringScan
  /-- R386. -/
  | recorderShutdown
  /-- R389. -/
  | recorderClear
  /-- R389. -/
  | recorderClearDone
  /-- R388. seq: SEQ. -/
  | recordRead (seq : BitVec 32)
  /-- R388. -/
  | recordReadDone
  /-- R409. k: host context; a: address; write: a write. -/
  | hostAccessDenied (k : Fin 8) (a : BitVec 32) (write : Bool)
  /-- R413. pec: its PEC. -/
  | clearFaults (pec : Pec)
  /-- R413. -/
  | alertResponse
  /-- R414. -/
  | capability
  /-- R414. -/
  | statusByte
  /-- R415. -/
  | statusWord
  /-- R414. w: bits to clear; none: a read; pec: its PEC. -/
  | statusCml (w : Option (BitVec 8)) (pec : Pec)
  /-- R414. -/
  | pmbusRevision
  /-- R414. -/
  | mfrId
  /-- R414. -/
  | mfrModel
  /-- R414. -/
  | mfrRevision
  /-- R414. -/
  | mfrSerial
  /-- R412. cmd: code; write: a write; kind: 0 not allowed, 1 out of range, 2 PEC. -/
  | pmbusInvalidCommand (cmd : BitVec 8) (write : Bool) (kind : Fin 3)
  /-- R419. v: cap; urgent: URGENT; pec: its PEC. -/
  | mfrJzCapWrite (v : BitVec 15) (urgent : Bool) (pec : Pec)
  /-- R416. -/
  | mfrJzCapRead
  /-- R417. -/
  | mfrJzStatus
  /-- R416. -/
  | mfrJzFaults
  /-- R418. -/
  | mfrJzTelem
  /-- R418. -/
  | mfrJzCounts
  /-- R416. pec: its PEC. -/
  | mfrJzShutdown (pec : Pec)
  /-- R416. seq: SEQ. -/
  | mfrJzRecord (seq : BitVec 32)
  /-- R420. len: length; pec: its PEC. -/
  | mfrJzImgOpen (len : BitVec 32) (pec : Pec)
  /-- R420. off: offset; data: bytes; late: not programmable within 25 ms; pec: its PEC. -/
  | mfrJzImgChunk (off : BitVec 32) (data : List Byte) (late : Bool) (pec : Pec)
  /-- R416. -/
  | mfrJzImgStatus
  /-- R416. pec: its PEC. -/
  | mfrJzImgAbort (pec : Pec)
  /-- R421. challenge: challenge; sig: signature made. -/
  | mfrJzIdentity (challenge sig : List Byte)
  /-- R421. serial: serial in the token; ok: the signature holds; pec: its PEC. -/
  | mfrJzReturn (serial : List Byte) (ok : Bool) (pec : Pec)
  /-- R9. -/
  | tapReset
  /-- R429. pins: levels captured; cells: cells shifted in. -/
  | extest (pins cells : BitVec 27)
  /-- R427. -/
  | idcode
  /-- R427. pins: levels captured; cells: cells shifted in. -/
  | samplePreload (pins cells : BitVec 27)
  /-- R427. write: a write; a: address; v: data; sub: sub-pick. -/
  | mbus (write : Bool) (a v : BitVec 32) (sub : BitVec 12)
  /-- R427. root: root key hash to fuse; cal: calibration fuse; secver: SECVER fuses. -/
  | fuse (root : Option (BitVec 384)) (cal : Bool) (secver : BitVec 7)
  /-- R427. pub: public half. -/
  | idkey (pub : List Byte)
  /-- R422. -/
  | lcAdv
  /-- R427. code: instruction shifted in. -/
  | bypass (code : BitVec 8)
  /-- R373. -/
  | endpointRoutingPoison
  /-- R425. -/
  | traceArm
  /-- R432. -/
  | traceStop
  /-- R425. -/
  | traceStart
  /-- R262. -/
  | powerOn
  /-- R261. -/
  | coolOkHigh
  deriving DecidableEq, Repr

end Sys2Proof
end

