-- ==== Sys2Proof/Decode.lean ====
section
/-! DEFINITION. The command that a table word spells. No row of the table gives bits: a command of the block is no word. -/

namespace Sys2Proof

/-- The command of a table word: none, since no row has an encoding. Log entry 16. -/
def decodeTableWord (_nbits _w : Nat) : Option Instr := none

end Sys2Proof
end

