-- ==== Sys2Proof/Machine/Flags.lean ====
section
/-! DEFINITION. Computations shared by several chapters: rounding (R81), saturation (R82), cyclic redundancy checks
(R26, R161, R247), and byte layouts (R14: little-endian). -/

namespace Sys2Proof.Machine

/-- Integer division rounded half away from zero, for a positive divisor. -/
def divHalfAway (n : Int) (m : Nat) : Int :=
  if n < 0 then - ((2 * n.natAbs + m) / (2 * m) : Nat) else ((2 * n.natAbs + m) / (2 * m) : Nat)

/-- R81: rs(v, s), a right shift rounded half away from zero; v itself when s is 0. -/
def rs (v : Int) (s : Nat) : Int :=
  if s = 0 then v
  else if v < 0 then - ((v.natAbs + 2 ^ (s - 1)) / 2 ^ s : Nat) else ((v.natAbs + 2 ^ (s - 1)) / 2 ^ s : Nat)

/-- R82: the 32-bit range. -/
def sat32 (v : Int) : Int := clampI (-2147483648) 2147483647 v

/-- R83: saturation limits a value. -/
def limits32 (v : Int) : Bool := decide (sat32 v ≠ v)

/-- Natural division rounded up. -/
def divUp (n m : Nat) : Nat := (n + m - 1) / m

/-- One bit of a CRC-16 of polynomial 0x1021, most significant bit first. -/
def crc16Bit (c : Nat) : Nat := if c / 0x8000 % 2 = 1 then (c * 2 % 0x10000) ^^^ 0x1021 else c * 2 % 0x10000

def iterN {α : Type} (g : α → α) : Nat → α → α
  | 0, a => a
  | n + 1, a => iterN g n (g a)

/-- R26: CRC-16 over bytes, initial value 0xFFFF, no final inversion. -/
def crc16 (bytes : List Nat) : Nat := bytes.foldl (fun c b => iterN crc16Bit 8 (c ^^^ (b * 0x100))) 0xFFFF

/-- One bit of a reflected 32-bit CRC. -/
def crc32Bit (poly c : Nat) : Nat := if c % 2 = 1 then (c / 2) ^^^ poly else c / 2

/-- A reflected 32-bit CRC with initial value 0xFFFF_FFFF and final inversion. -/
def crc32With (poly : Nat) (bytes : List Nat) : Nat :=
  (bytes.foldl (fun c b => iterN (crc32Bit poly) 8 (c ^^^ b)) 0xFFFFFFFF) ^^^ 0xFFFFFFFF

/-- R161: CRC-32 of IEEE 802.3. -/
def crc32 (bytes : List Nat) : Nat := crc32With 0xEDB88320 bytes

/-- R247: CRC-32C (Castagnoli). -/
def crc32c (bytes : List Nat) : Nat := crc32With 0x82F63B78 bytes

/-- R14: the n little-endian bytes of a number. -/
def leBytes : Nat → Nat → List Nat
  | 0, _ => []
  | n + 1, v => v % 256 :: leBytes n (v / 256)

/-- R14: the number that little-endian bytes spell. -/
def ofBytes : List Nat → Nat
  | [] => 0
  | b :: bs => b % 256 + 256 * ofBytes bs

/-- The little-endian number of n bytes at an offset of a byte list. -/
def bytesAt (l : List Nat) (off n : Nat) : Nat := ofBytes ((l.drop off).take n)

/-- Sum of a list of naturals. -/
def sumN (l : List Nat) : Nat := l.foldl (· + ·) 0

/-- Sum of a list of integers. -/
def sumI (l : List Int) : Int := l.foldl (· + ·) 0

/-- Insertion into a list of integers in rising order. -/
def insertI (x : Int) : List Int → List Int
  | [] => [x]
  | y :: l => if x ≤ y then x :: y :: l else y :: insertI x l

/-- R57: the median, the higher of the two middle values of an even number; 0 of none. -/
def medianI (l : List Int) : Int :=
  let s := l.foldr insertI []
  s.getD (s.length / 2) 0

/-- The greatest of a list of integers, none of an empty one. -/
def maxI : List Int → Option Int
  | [] => none
  | x :: l => some (l.foldl max x)

/-- The least of a list of naturals, none of an empty one. -/
def minN : List Nat → Option Nat
  | [] => none
  | x :: l => some (l.foldl min x)

/-- The greatest of a list of naturals, 0 of an empty one. -/
def maxN (l : List Nat) : Nat := l.foldl max 0

/-- The list without repeats, keeping the first of each. -/
def distinct {α : Type} [DecidableEq α] (l : List α) : List α :=
  (l.foldl (fun acc x => if x ∈ acc then acc else x :: acc) []).reverse

end Sys2Proof.Machine
end

