-- ==== Sys2Proof/Machine/Float.lean ====
section
/-! DEFINITION. The FP32 arithmetic of a watched step's statistics (R249): comparison, addition and division by a count,
rounded to nearest even. A finite value is a sign and a magnitude in units of 2^-149. -/

namespace Sys2Proof.Machine

def fpNeg (b : Nat) : Bool := decide (2 ^ 31 ≤ b % 2 ^ 32)
def fpExp (b : Nat) : Nat := b / 2 ^ 23 % 256
def fpNaN (b : Nat) : Bool := fpExp b = 255 && b % 2 ^ 23 ≠ 0
def fpInf (b : Nat) : Bool := fpExp b = 255 && b % 2 ^ 23 = 0

/-- Magnitude of a finite value. -/
def fpMag (b : Nat) : Nat := if fpExp b = 0 then b % 2 ^ 23 else (b % 2 ^ 23 + 2 ^ 23) * 2 ^ (fpExp b - 1)

/-- The value as an integer; an infinity lies beyond every finite value. -/
def fpInt (b : Nat) : Int := if fpNeg b then - (fpMag b : Int) else fpMag b

/-- The word nearest to n / m, ties to even. -/
def fpRound (neg : Bool) (n m : Nat) : Nat :=
  let sh := (if n / m = 0 then 0 else Nat.log2 (n / m) + 1) - 24
  let u := m * 2 ^ sh
  let q := n / u
  let r := n % u
  let q := if u < 2 * r ∨ (2 * r = u ∧ q % 2 = 1) then q + 1 else q
  b01 neg * 2 ^ 31 + min (sh * 2 ^ 23 + q) 0x7F800000

/-- A quiet NaN; its sign and payload are free. -/
def fpQuiet (free : Nat) : Nat := 0x7FC00000 + free % 2 ^ 22 + free / 2 ^ 31 % 2 * 2 ^ 31

/-- R249: a is less than b as IEEE 754 values. -/
def fpLt (a b : Nat) : Bool := !fpNaN a && !fpNaN b && decide (fpInt a < fpInt b)

/-- R249: the sum of two words. -/
def fpAdd (free a b : Nat) : Nat :=
  if fpNaN a ∨ fpNaN b ∨ (fpInf a ∧ fpInf b ∧ fpNeg a ≠ fpNeg b) then fpQuiet free
  else if fpInf a then a else if fpInf b then b
  else
    let s := fpInt a + fpInt b
    if s = 0 then (if fpNeg a ∧ fpNeg b then 2 ^ 31 else 0) else fpRound (decide (s < 0)) s.natAbs 1

/-- R249: MEAN: the sum divided by the count, or a quiet NaN when the count is 0. -/
def fpMean (free sum count : Nat) : Nat :=
  if fpNaN sum ∨ count = 0 then fpQuiet free
  else if fpInf sum then sum else fpRound (fpNeg sum) (fpMag sum) count

end Sys2Proof.Machine
end

