-- ==== Sys2Proof/Config.lean ====
section
/-! DEFINITION. What one implementation fixes and the spec leaves open: the size of the part (R2) and the free values.
A free value is an opaque constant with no body: nothing can be proved of it, so a statement holds for every value. -/

namespace Sys2Proof.Config

/-- R2: the number of field stewards of Jenuz-96. -/
def nFields : Nat := 96

/-- A fresh free 32-bit value (a drawn number, an unstated value); the argument is the counter of State. Log entry 3. -/
opaque freeWord : Nat → Word

/-- Content of the 128 KB ROM by word address: the spec gives none. Log entry 4. -/
opaque romWord : Nat → Word

/-- R52: a thermal conversion after trim, for an offset and a gain trim not both 0. Log entry 5. -/
opaque trimWord : Nat → Nat → Nat → BitVec 12

end Sys2Proof.Config
end

