-- ==== Sys2Proof/Machine/Operands.lean ====
section
/-! DEFINITION. How instances are named and laid out: domains and patches of a field (R4, R5), the grid of fields (R437),
loop instances (R85), and the keys by which the model numbers them. -/

namespace Sys2Proof.Machine

/-- Key of a patch. -/
def pkey (f p : Nat) : Nat := f * 36 + p
/-- Key of a domain: its wafer-wide number (R5). -/
def dkey (f d : Nat) : Nat := f * 4 + d
/-- Key of a class of a field. -/
def ckey (f c : Nat) : Nat := f * 8 + c
/-- Key of a tile. -/
def tkey (f p t : Nat) : Nat := (f * 36 + p) * 256 + t
/-- Key of a loop instance; L-CAP is the instance of field 96. -/
def ikey (f i : Nat) : Nat := f * 64 + i

/-- R5: the domain of a patch. -/
def domOf (p : Nat) : Nat := (if p / 6 < 3 then 0 else 2) + (if p % 6 < 3 then 0 else 1)

/-- R5: the nine patches of a domain, ascending. -/
def patchesOf (d : Nat) : List Nat := (List.range 36).filter fun p => domOf p = d

/-- R437: (first field, first column, number of fields) of each row. -/
def gridRows : List (Nat × Nat × Nat) :=
  [(0, 3, 6), (6, 2, 8), (14, 1, 10), (24, 0, 12), (36, 0, 12), (48, 0, 12), (60, 0, 12), (72, 1, 10), (82, 2, 8), (90, 3, 6)]

/-- R437: row and column of a field. -/
def fieldPos (f : Nat) : Option (Nat × Nat) :=
  ((List.range 10).zip gridRows).findSome? fun (r, (f0, c0, n)) => if f0 ≤ f ∧ f < f0 + n then some (r, c0 + (f - f0)) else none

/-- R437: the field at a row and column; none off the wafer. -/
def fieldAt (r c : Nat) : Option Nat :=
  match gridRows[r]? with
  | none => none
  | some (f0, c0, n) => if c0 ≤ c ∧ c < c0 + n then some (f0 + (c - c0)) else none

/-- R437: the edge-adjacent patches of a patch, across field borders. -/
def neighbours (f p : Nat) : List (Nat × Nat) :=
  match fieldPos f with
  | none => []
  | some (r, c) =>
    let north := if 6 ≤ p then some (f, p - 6) else if r = 0 then none else (fieldAt (r - 1) c).map (·, p + 30)
    let south := if p < 30 then some (f, p + 6) else (fieldAt (r + 1) c).map (·, p - 30)
    let west := if p % 6 ≠ 0 then some (f, p - 1) else if c = 0 then none else (fieldAt r (c - 1)).map (·, p + 5)
    let east := if p % 6 ≠ 5 then some (f, p + 1) else (fieldAt r (c + 1)).map (·, p - 5)
    [north, south, east, west].filterMap id

/-- R85: loop type of a steward's instance: 0 L-SLEW, 1 L-POWER, 2 L-THERM. -/
def loopType (i : Nat) : Nat := if i < 4 then 0 else if i = 4 then 1 else 2

/-- R70: the class an event index goes to, for a patch that replays or not. -/
def classOfEvent (replay : Bool) (e : Nat) : Nat :=
  if e ≤ 10 then
    if replay then 7
    else if e ≤ 5 then 0 else if e = 6 ∨ e = 7 ∨ e = 10 then 1 else if e = 8 then 4 else 6
  else if e ≤ 12 then 2 else if e = 13 then 3 else 5

/-- R74: the tile-rail classes. -/
def isTileRail (c : Nat) : Bool := c = 0 || c = 1 || c = 4 || c = 6 || c = 7

end Sys2Proof.Machine
end

