-- ==== Sys2Proof/Machine/Regs.lean ====
section
/-! DEFINITION. The register fields of Jenuz-96 by the spec's own names (REGISTER_FIELD), each a bit range at a byte address.
The addresses follow R19 and the register maps of spec/01 to spec/17. Arguments: f a field, p a patch, d a domain,
and the index the register map names. -/

namespace Sys2Proof.Machine

/-- A register field: byte address of its 32-bit register, lowest bit, width. -/
structure Fld where
  addr : Nat
  lo : Nat
  w : Nat
  deriving DecidableEq, Repr

/-- R19: base of the ST_ block of field f. -/
def stBase (f : Nat) : Nat := 0x30000000 + f * 0x100000
/-- R19: base of the CE_ block of field f. -/
def ceBase (f : Nat) : Nat := stBase f + 0x10000
/-- R19: base of the PS_ block of patch p of field f. -/
def psBase (f p : Nat) : Nat := stBase f + 0x40000 + p * 0x1000

def TB_STATUS_MODE : Fld := ⟨0x20010000, 0, 3⟩
def TB_STATUS_H : Fld := ⟨0x20010000, 3, 1⟩
def TB_STATUS_RACK_FEAT : Fld := ⟨0x20010000, 4, 1⟩
def TB_STATUS_RACK_HOLD : Fld := ⟨0x20010000, 5, 1⟩
def TB_STATUS_STEPPED : Fld := ⟨0x20010000, 6, 1⟩
def TB_STATUS_AHEAD_LIMIT : Fld := ⟨0x20010000, 7, 1⟩
def TB_STATUS_ACT_MISSED : Fld := ⟨0x20010000, 8, 1⟩
def TB_STATUS_STATE_CONFLICT : Fld := ⟨0x20010000, 9, 1⟩
def TB_STATUS_STOPPED : Fld := ⟨0x20010000, 10, 1⟩
def TB_STATUS_STOP_ARMED : Fld := ⟨0x20010000, 11, 1⟩
def TB_STATUS_RESUME_ARMED : Fld := ⟨0x20010000, 12, 1⟩
def TB_NOW_LO_PICK_L : Fld := ⟨0x20010004, 12, 20⟩
def TB_NOW_LO_SUB : Fld := ⟨0x20010004, 0, 12⟩
def TB_NOW_HI_PICK_H : Fld := ⟨0x20010008, 0, 32⟩
def TB_NOW_Q_H : Fld := ⟨0x2001000C, 0, 1⟩
def TB_HOLD_BOLTS_BOLTS : Fld := ⟨0x20010010, 0, 32⟩
def TB_STEP_SIZE_PICKS : Fld := ⟨0x20010014, 0, 32⟩
def TB_LANE_ERR_COUNT : Fld := ⟨0x20010018, 0, 32⟩
def TB_ACT_SEL_SLOT : Fld := ⟨0x20010020, 0, 4⟩
def TB_ACT_ADDR_ADDR : Fld := ⟨0x20010024, 0, 32⟩
def TB_ACT_DATA_DATA : Fld := ⟨0x20010028, 0, 32⟩
def TB_ACT_AT_LO_AT_L : Fld := ⟨0x2001002C, 0, 32⟩
def TB_ACT_AT_HI_AT_H : Fld := ⟨0x20010030, 0, 20⟩
def TB_ACT_CMD_ARM : Fld := ⟨0x20010034, 0, 1⟩
def TB_ACT_CMD_CANCEL : Fld := ⟨0x20010034, 1, 1⟩
def TB_ACT_CMD_FREE : Fld := ⟨0x20010034, 2, 1⟩
def TB_STOP_AT_LO_AT_L : Fld := ⟨0x20010040, 0, 32⟩
def TB_STOP_AT_HI_AT_H : Fld := ⟨0x20010044, 0, 20⟩
def TB_RESUME_AT_LO_AT_L : Fld := ⟨0x20010048, 0, 32⟩
def TB_RESUME_AT_HI_AT_H : Fld := ⟨0x2001004C, 0, 20⟩
def TB_STOP_CMD_ARM_STOP : Fld := ⟨0x20010050, 0, 1⟩
def TB_STOP_CMD_ARM_RESUME : Fld := ⟨0x20010050, 1, 1⟩
def TB_STOP_CMD_CANCEL : Fld := ⟨0x20010050, 2, 1⟩
def PS_STATUS_CLK_ON (f : Nat) (p : Nat) : Fld := ⟨psBase f p, 0, 1⟩
def PS_STATUS_DD_ARMED (f : Nat) (p : Nat) : Fld := ⟨psBase f p, 1, 1⟩
def PS_STATUS_BAND (f : Nat) (p : Nat) : Fld := ⟨psBase f p, 2, 2⟩
def PS_STATUS_STRETCH (f : Nat) (p : Nat) : Fld := ⟨psBase f p, 4, 3⟩
def PS_STATUS_REPLAY (f : Nat) (p : Nat) : Fld := ⟨psBase f p, 7, 1⟩
def PS_STATUS_PM_VALID (f : Nat) (p : Nat) : Fld := ⟨psBase f p, 8, 1⟩
def PS_STATUS_SCAN_H (f : Nat) (p : Nat) : Fld := ⟨psBase f p, 9, 1⟩
def PS_TS_RAW (f : Nat) (p : Nat) (t : Nat) : Fld := ⟨psBase f p + 0x4 + t * 0x4, 0, 12⟩
def PS_TS_USED (f : Nat) (p : Nat) (t : Nat) : Fld := ⟨psBase f p + 0x4 + t * 0x4, 16, 12⟩
def PS_TS_SUBST (f : Nat) (p : Nat) (t : Nat) : Fld := ⟨psBase f p + 0x4 + t * 0x4, 28, 1⟩
def PS_TS_HEALTH_SUSPECT0 (f : Nat) (p : Nat) : Fld := ⟨psBase f p + 0xC, 0, 1⟩
def PS_TS_HEALTH_SUSPECT1 (f : Nat) (p : Nat) : Fld := ⟨psBase f p + 0xC, 1, 1⟩
def PS_TS_HEALTH_CNT0 (f : Nat) (p : Nat) : Fld := ⟨psBase f p + 0xC, 2, 3⟩
def PS_TS_HEALTH_CNT1 (f : Nat) (p : Nat) : Fld := ⟨psBase f p + 0xC, 5, 3⟩
def PS_TS_HEALTH_ISOLATED0 (f : Nat) (p : Nat) : Fld := ⟨psBase f p + 0xC, 8, 1⟩
def PS_TS_HEALTH_ISOLATED1 (f : Nat) (p : Nat) : Fld := ⟨psBase f p + 0xC, 9, 1⟩
def PS_TS_TRIM_OFS0 (f : Nat) (p : Nat) : Fld := ⟨psBase f p + 0x10, 0, 8⟩
def PS_TS_TRIM_GAIN0 (f : Nat) (p : Nat) : Fld := ⟨psBase f p + 0x10, 8, 8⟩
def PS_TS_TRIM_OFS1 (f : Nat) (p : Nat) : Fld := ⟨psBase f p + 0x10, 16, 8⟩
def PS_TS_TRIM_GAIN1 (f : Nat) (p : Nat) : Fld := ⟨psBase f p + 0x10, 24, 8⟩
def PS_SCAN_LO_PICK_L (f : Nat) (p : Nat) : Fld := ⟨psBase f p + 0x14, 12, 20⟩
def PS_SCAN_LO_SUB (f : Nat) (p : Nat) : Fld := ⟨psBase f p + 0x14, 0, 12⟩
def PS_SCAN_HI_PICK_H (f : Nat) (p : Nat) : Fld := ⟨psBase f p + 0x18, 0, 32⟩
def PS_DD_STRETCH_K (f : Nat) (p : Nat) : Fld := ⟨psBase f p + 0x20, 0, 6⟩
def PS_DD_FLOOR_FLOOR0 (f : Nat) (p : Nat) : Fld := ⟨psBase f p + 0x24, 0, 6⟩
def PS_DD_FLOOR_FLOOR1 (f : Nat) (p : Nat) : Fld := ⟨psBase f p + 0x24, 6, 6⟩
def PS_DD_FLOOR_FLOOR2 (f : Nat) (p : Nat) : Fld := ⟨psBase f p + 0x24, 12, 6⟩
def PS_DD_FLOOR_FLOOR3 (f : Nat) (p : Nat) : Fld := ⟨psBase f p + 0x24, 18, 6⟩
def PS_DD_FLOOR_FLOOR4 (f : Nat) (p : Nat) : Fld := ⟨psBase f p + 0x24, 24, 6⟩
def PS_DD_DEPTH_DEPTH0 (f : Nat) (p : Nat) : Fld := ⟨psBase f p + 0x28, 0, 6⟩
def PS_DD_DEPTH_DEPTH1 (f : Nat) (p : Nat) : Fld := ⟨psBase f p + 0x28, 8, 6⟩
def PS_DD_DEPTH_DEPTH2 (f : Nat) (p : Nat) : Fld := ⟨psBase f p + 0x28, 16, 6⟩
def PS_DD_DEPTH_DEPTH3 (f : Nat) (p : Nat) : Fld := ⟨psBase f p + 0x28, 24, 6⟩
def PS_DD_CNT_FLOOR_PICKS (f : Nat) (p : Nat) : Fld := ⟨psBase f p + 0x30, 0, 16⟩
def PS_DD_CNT_STRETCH_PICKS (f : Nat) (p : Nat) : Fld := ⟨psBase f p + 0x30, 16, 16⟩
def PS_PM_SLACK (f : Nat) (p : Nat) : Fld := ⟨psBase f p + 0x40, 0, 11⟩
def PS_PM_VALID (f : Nat) (p : Nat) : Fld := ⟨psBase f p + 0x40, 16, 1⟩
def PS_PM_SKIPPED (f : Nat) (p : Nat) : Fld := ⟨psBase f p + 0x40, 17, 1⟩
def PS_PM_NEG (f : Nat) (p : Nat) : Fld := ⟨psBase f p + 0x40, 18, 1⟩
def PS_PM_POINT_FIDX (f : Nat) (p : Nat) : Fld := ⟨psBase f p + 0x44, 0, 7⟩
def PS_PM_POINT_VID (f : Nat) (p : Nat) : Fld := ⟨psBase f p + 0x44, 8, 8⟩
def PS_PM_POINT_TEMP (f : Nat) (p : Nat) : Fld := ⟨psBase f p + 0x44, 16, 12⟩
def PS_ACT_PICK_PICK_L (f : Nat) (p : Nat) : Fld := ⟨psBase f p + 0x50, 0, 32⟩
def PS_ACT_COUNT (f : Nat) (p : Nat) (n : Nat) : Fld := ⟨psBase f p + 0x54 + n * 0x4, 0, 24⟩
def ST_SNS_BANDS_NEAR (f : Nat) : Fld := ⟨stBase f + 0x8000, 0, 8⟩
def ST_SNS_BANDS_CRIT (f : Nat) : Fld := ⟨stBase f + 0x8000, 8, 8⟩
def ST_SNS_BANDS_HYST (f : Nat) : Fld := ⟨stBase f + 0x8000, 16, 8⟩
def ST_SNS_XCHK_THRESH (f : Nat) : Fld := ⟨stBase f + 0x8004, 0, 8⟩
def ST_SNS_XCHK_SCANS (f : Nat) : Fld := ⟨stBase f + 0x8004, 8, 3⟩
def ST_SNS_XCHK_SUB_ADD (f : Nat) : Fld := ⟨stBase f + 0x8004, 16, 8⟩
def ST_SNS_XCHK_PARTNER_OFS (f : Nat) : Fld := ⟨stBase f + 0x8004, 24, 8⟩
def ST_SNS_THMK_K (f : Nat) : Fld := ⟨stBase f + 0x8008, 0, 16⟩
def ST_SNS_VBAND_VB1 (f : Nat) : Fld := ⟨stBase f + 0x800C, 0, 8⟩
def ST_SNS_VBAND_VB2 (f : Nat) : Fld := ⟨stBase f + 0x800C, 8, 8⟩
def ST_SNS_VBAND_VB3 (f : Nat) : Fld := ⟨stBase f + 0x800C, 16, 8⟩
def BU_CE_VBAND_VB1 : Fld := ⟨0x20038C48, 0, 8⟩
def BU_CE_VBAND_VB2 : Fld := ⟨0x20038C48, 8, 8⟩
def BU_CE_VBAND_VB3 : Fld := ⟨0x20038C48, 16, 8⟩
def ST_MTR_SCALE_S (f : Nat) : Fld := ⟨stBase f + 0x8010, 0, 16⟩
def ST_MTR_SCALE_AT_LIMIT (f : Nat) : Fld := ⟨stBase f + 0x8010, 16, 1⟩
def ST_MTR_SCALE_SKIPPED (f : Nat) : Fld := ⟨stBase f + 0x8010, 17, 1⟩
def ST_MTR_LIMITS_S_MIN (f : Nat) : Fld := ⟨stBase f + 0x8014, 0, 16⟩
def ST_MTR_LIMITS_S_MAX (f : Nat) : Fld := ⟨stBase f + 0x8014, 16, 16⟩
def ST_MTR_RATIO_R_LAST (f : Nat) : Fld := ⟨stBase f + 0x8018, 0, 16⟩
def ST_MTR_COEF_COEF (f : Nat) (e : Nat) (b : Nat) : Fld := ⟨stBase f + 0x8100 + e * 0x10 + b * 0x4, 0, 24⟩
def CE_B_B0_C (f : Nat) (s : Nat) (b : Nat) : Fld := ⟨ceBase f + s * 0x100 + b * 0x20, 0, 32⟩
def CE_B_B1_C (f : Nat) (s : Nat) (b : Nat) : Fld := ⟨ceBase f + 0x4 + s * 0x100 + b * 0x20, 0, 32⟩
def CE_B_B2_C (f : Nat) (s : Nat) (b : Nat) : Fld := ⟨ceBase f + 0x8 + s * 0x100 + b * 0x20, 0, 32⟩
def CE_B_A1_C (f : Nat) (s : Nat) (b : Nat) : Fld := ⟨ceBase f + 0xC + s * 0x100 + b * 0x20, 0, 32⟩
def CE_B_A2_C (f : Nat) (s : Nat) (b : Nat) : Fld := ⟨ceBase f + 0x10 + s * 0x100 + b * 0x20, 0, 32⟩
def BU_CE_B_B0_C (s : Nat) (b : Nat) : Fld := ⟨0x20038000 + s * 0x100 + b * 0x20, 0, 32⟩
def BU_CE_B_B1_C (s : Nat) (b : Nat) : Fld := ⟨0x20038004 + s * 0x100 + b * 0x20, 0, 32⟩
def BU_CE_B_B2_C (s : Nat) (b : Nat) : Fld := ⟨0x20038008 + s * 0x100 + b * 0x20, 0, 32⟩
def BU_CE_B_A1_C (s : Nat) (b : Nat) : Fld := ⟨0x2003800C + s * 0x100 + b * 0x20, 0, 32⟩
def BU_CE_B_A2_C (s : Nat) (b : Nat) : Fld := ⟨0x20038010 + s * 0x100 + b * 0x20, 0, 32⟩
def CE_B_SHIFTS_SH_B0 (f : Nat) (s : Nat) (b : Nat) : Fld := ⟨ceBase f + 0x14 + s * 0x100 + b * 0x20, 0, 5⟩
def CE_B_SHIFTS_SH_B1 (f : Nat) (s : Nat) (b : Nat) : Fld := ⟨ceBase f + 0x14 + s * 0x100 + b * 0x20, 5, 5⟩
def CE_B_SHIFTS_SH_B2 (f : Nat) (s : Nat) (b : Nat) : Fld := ⟨ceBase f + 0x14 + s * 0x100 + b * 0x20, 10, 5⟩
def CE_B_SHIFTS_SH_A1 (f : Nat) (s : Nat) (b : Nat) : Fld := ⟨ceBase f + 0x14 + s * 0x100 + b * 0x20, 15, 5⟩
def CE_B_SHIFTS_SH_A2 (f : Nat) (s : Nat) (b : Nat) : Fld := ⟨ceBase f + 0x14 + s * 0x100 + b * 0x20, 20, 5⟩
def BU_CE_B_SHIFTS_SH_B0 (s : Nat) (b : Nat) : Fld := ⟨0x20038014 + s * 0x100 + b * 0x20, 0, 5⟩
def BU_CE_B_SHIFTS_SH_B1 (s : Nat) (b : Nat) : Fld := ⟨0x20038014 + s * 0x100 + b * 0x20, 5, 5⟩
def BU_CE_B_SHIFTS_SH_B2 (s : Nat) (b : Nat) : Fld := ⟨0x20038014 + s * 0x100 + b * 0x20, 10, 5⟩
def BU_CE_B_SHIFTS_SH_A1 (s : Nat) (b : Nat) : Fld := ⟨0x20038014 + s * 0x100 + b * 0x20, 15, 5⟩
def BU_CE_B_SHIFTS_SH_A2 (s : Nat) (b : Nat) : Fld := ⟨0x20038014 + s * 0x100 + b * 0x20, 20, 5⟩
def CE_STATUS_STATE_CONFLICT (f : Nat) : Fld := ⟨ceBase f + 0x2000, 0, 1⟩
def CE_STATUS_NOLAW (f : Nat) : Fld := ⟨ceBase f + 0x2000, 1, 3⟩
def CE_STATUS_NOMODEL (f : Nat) : Fld := ⟨ceBase f + 0x2000, 4, 3⟩
def CE_FROZEN_LO_FROZEN (f : Nat) : Fld := ⟨ceBase f + 0x2004, 0, 32⟩
def CE_FROZEN_HI_FROZEN (f : Nat) : Fld := ⟨ceBase f + 0x2008, 0, 9⟩
def CE_SAT_LO_SAT (f : Nat) : Fld := ⟨ceBase f + 0x200C, 0, 32⟩
def CE_SAT_HI_SAT (f : Nat) : Fld := ⟨ceBase f + 0x2010, 0, 9⟩
def CE_REARM_INST (f : Nat) : Fld := ⟨ceBase f + 0x2014, 0, 6⟩
def CE_REGION_TB_OFS (f : Nat) : Fld := ⟨ceBase f + 0x2018, 0, 8⟩
def CE_REGION_TB_HYST (f : Nat) : Fld := ⟨ceBase f + 0x2018, 8, 8⟩
def CE_REGION_VHYST (f : Nat) : Fld := ⟨ceBase f + 0x2018, 16, 4⟩
def BU_CE_REGION_TB_OFS : Fld := ⟨0x20038C44, 0, 8⟩
def BU_CE_REGION_TB_HYST : Fld := ⟨0x20038C44, 8, 8⟩
def BU_CE_REGION_VHYST : Fld := ⟨0x20038C44, 16, 4⟩
def CE_CHAIN_N (f : Nat) (n : Nat) : Fld := ⟨ceBase f + 0x2100 + n * 0x40, 0, 3⟩
def CE_CHAIN_SLOT0 (f : Nat) (n : Nat) : Fld := ⟨ceBase f + 0x2100 + n * 0x40, 3, 5⟩
def CE_CHAIN_SLOT1 (f : Nat) (n : Nat) : Fld := ⟨ceBase f + 0x2100 + n * 0x40, 8, 5⟩
def CE_CHAIN_SLOT2 (f : Nat) (n : Nat) : Fld := ⟨ceBase f + 0x2100 + n * 0x40, 13, 5⟩
def CE_CHAIN_SLOT3 (f : Nat) (n : Nat) : Fld := ⟨ceBase f + 0x2100 + n * 0x40, 18, 5⟩
def BU_CE_CHAIN_N : Fld := ⟨0x20038800, 0, 3⟩
def BU_CE_CHAIN_SLOT0 : Fld := ⟨0x20038800, 3, 5⟩
def BU_CE_CHAIN_SLOT1 : Fld := ⟨0x20038800, 8, 5⟩
def BU_CE_CHAIN_SLOT2 : Fld := ⟨0x20038800, 13, 5⟩
def BU_CE_CHAIN_SLOT3 : Fld := ⟨0x20038800, 18, 5⟩
def CE_IO_IN_SHIFT (f : Nat) (n : Nat) : Fld := ⟨ceBase f + 0x2104 + n * 0x40, 0, 5⟩
def CE_IO_IN_SHIFT_NEAR (f : Nat) (n : Nat) : Fld := ⟨ceBase f + 0x2104 + n * 0x40, 5, 5⟩
def CE_IO_IN_SHIFT_CRIT (f : Nat) (n : Nat) : Fld := ⟨ceBase f + 0x2104 + n * 0x40, 10, 5⟩
def CE_IO_OUT_SHIFT (f : Nat) (n : Nat) : Fld := ⟨ceBase f + 0x2104 + n * 0x40, 16, 5⟩
def BU_CE_IO_IN_SHIFT : Fld := ⟨0x20038804, 0, 5⟩
def BU_CE_IO_IN_SHIFT_NEAR : Fld := ⟨0x20038804, 5, 5⟩
def BU_CE_IO_IN_SHIFT_CRIT : Fld := ⟨0x20038804, 10, 5⟩
def BU_CE_IO_OUT_SHIFT : Fld := ⟨0x20038804, 16, 5⟩
def CE_OLIM_OMIN (f : Nat) (n : Nat) : Fld := ⟨ceBase f + 0x2108 + n * 0x40, 0, 16⟩
def CE_OLIM_OMAX (f : Nat) (n : Nat) : Fld := ⟨ceBase f + 0x2108 + n * 0x40, 16, 16⟩
def BU_CE_OLIM_OMIN : Fld := ⟨0x20038808, 0, 16⟩
def BU_CE_OLIM_OMAX : Fld := ⟨0x20038808, 16, 16⟩
def CE_SAFE_SAFE (f : Nat) (n : Nat) : Fld := ⟨ceBase f + 0x210C + n * 0x40, 0, 16⟩
def BU_CE_SAFE_SAFE : Fld := ⟨0x2003880C, 0, 16⟩
def CE_MODEL_MN (f : Nat) (n : Nat) : Fld := ⟨ceBase f + 0x2110 + n * 0x40, 0, 2⟩
def CE_MODEL_MODE (f : Nat) (n : Nat) : Fld := ⟨ceBase f + 0x2110 + n * 0x40, 2, 1⟩
def CE_MODEL_MSLOT0 (f : Nat) (n : Nat) : Fld := ⟨ceBase f + 0x2110 + n * 0x40, 3, 5⟩
def CE_MODEL_MSLOT1 (f : Nat) (n : Nat) : Fld := ⟨ceBase f + 0x2110 + n * 0x40, 8, 5⟩
def CE_MODEL_MIN_SHIFT (f : Nat) (n : Nat) : Fld := ⟨ceBase f + 0x2110 + n * 0x40, 16, 5⟩
def CE_MODEL_MOUT_SHIFT (f : Nat) (n : Nat) : Fld := ⟨ceBase f + 0x2110 + n * 0x40, 24, 5⟩
def BU_CE_MODEL_MN : Fld := ⟨0x20038810, 0, 2⟩
def BU_CE_MODEL_MODE : Fld := ⟨0x20038810, 2, 1⟩
def BU_CE_MODEL_MSLOT0 : Fld := ⟨0x20038810, 3, 5⟩
def BU_CE_MODEL_MSLOT1 : Fld := ⟨0x20038810, 8, 5⟩
def BU_CE_MODEL_MIN_SHIFT : Fld := ⟨0x20038810, 16, 5⟩
def BU_CE_MODEL_MOUT_SHIFT : Fld := ⟨0x20038810, 24, 5⟩
def CE_PLAUS_BAND (f : Nat) (n : Nat) : Fld := ⟨ceBase f + 0x2114 + n * 0x40, 0, 16⟩
def BU_CE_PLAUS_BAND : Fld := ⟨0x20038814, 0, 16⟩
def CE_PLAUS_ABS_ABS (f : Nat) (n : Nat) : Fld := ⟨ceBase f + 0x2118 + n * 0x40, 0, 32⟩
def BU_CE_PLAUS_ABS_ABS : Fld := ⟨0x20038818, 0, 32⟩
def CE_SPARAM_TARGET (f : Nat) (n : Nat) : Fld := ⟨ceBase f + 0x211C + n * 0x40, 0, 16⟩
def BU_CE_SPARAM_TARGET : Fld := ⟨0x2003881C, 0, 16⟩
def CE_INST_STATUS_FROZEN (f : Nat) (i : Nat) : Fld := ⟨ceBase f + 0x4000 + i * 0x40, 0, 1⟩
def CE_INST_STATUS_SAT (f : Nat) (i : Nat) : Fld := ⟨ceBase f + 0x4000 + i * 0x40, 1, 1⟩
def CE_INST_STATUS_LIM (f : Nat) (i : Nat) : Fld := ⟨ceBase f + 0x4000 + i * 0x40, 2, 1⟩
def CE_INST_STATUS_REARM_PEND (f : Nat) (i : Nat) : Fld := ⟨ceBase f + 0x4000 + i * 0x40, 3, 1⟩
def CE_INST_STATUS_PCNT (f : Nat) (i : Nat) : Fld := ⟨ceBase f + 0x4000 + i * 0x40, 4, 5⟩
def CE_INST_STATUS_BANK (f : Nat) (i : Nat) : Fld := ⟨ceBase f + 0x4000 + i * 0x40, 9, 3⟩
def CE_INST_STATUS_STALE (f : Nat) (i : Nat) : Fld := ⟨ceBase f + 0x4000 + i * 0x40, 12, 1⟩
def BU_CE_INST_STATUS_FROZEN : Fld := ⟨0x20038C00, 0, 1⟩
def BU_CE_INST_STATUS_SAT : Fld := ⟨0x20038C00, 1, 1⟩
def BU_CE_INST_STATUS_LIM : Fld := ⟨0x20038C00, 2, 1⟩
def BU_CE_INST_STATUS_REARM_PEND : Fld := ⟨0x20038C00, 3, 1⟩
def BU_CE_INST_STATUS_PCNT : Fld := ⟨0x20038C00, 4, 5⟩
def BU_CE_INST_STATUS_BANK : Fld := ⟨0x20038C00, 9, 3⟩
def BU_CE_INST_STATUS_STALE : Fld := ⟨0x20038C00, 12, 1⟩
def CE_INST_IN_VALUE (f : Nat) (i : Nat) : Fld := ⟨ceBase f + 0x4004 + i * 0x40, 0, 32⟩
def CE_INST_PRED_VALUE (f : Nat) (i : Nat) : Fld := ⟨ceBase f + 0x400C + i * 0x40, 0, 32⟩
def BU_CE_INST_IN_VALUE : Fld := ⟨0x20038C04, 0, 32⟩
def BU_CE_INST_PRED_VALUE : Fld := ⟨0x20038C0C, 0, 32⟩
def CE_INST_OUT_U (f : Nat) (i : Nat) : Fld := ⟨ceBase f + 0x4008 + i * 0x40, 0, 16⟩
def CE_INST_OUT_U_NEXT (f : Nat) (i : Nat) : Fld := ⟨ceBase f + 0x4008 + i * 0x40, 16, 16⟩
def CE_INST_S1_STATE (f : Nat) (i : Nat) (j : Nat) : Fld := ⟨ceBase f + 0x4010 + i * 0x40 + j * 0x8, 0, 32⟩
def CE_INST_S2_STATE (f : Nat) (i : Nat) (j : Nat) : Fld := ⟨ceBase f + 0x4014 + i * 0x40 + j * 0x8, 0, 32⟩
def CE_INST_MS1_STATE (f : Nat) (i : Nat) (j : Nat) : Fld := ⟨ceBase f + 0x4030 + i * 0x40 + j * 0x8, 0, 32⟩
def CE_INST_MS2_STATE (f : Nat) (i : Nat) (j : Nat) : Fld := ⟨ceBase f + 0x4034 + i * 0x40 + j * 0x8, 0, 32⟩
def BU_CE_INST_S1_STATE (j : Nat) : Fld := ⟨0x20038C10 + j * 0x8, 0, 32⟩
def BU_CE_INST_S2_STATE (j : Nat) : Fld := ⟨0x20038C14 + j * 0x8, 0, 32⟩
def BU_CE_INST_MS1_STATE (j : Nat) : Fld := ⟨0x20038C30 + j * 0x8, 0, 32⟩
def BU_CE_INST_MS2_STATE (j : Nat) : Fld := ⟨0x20038C34 + j * 0x8, 0, 32⟩
def ST_OP_GUARD_RUN_GUARD (f : Nat) : Fld := ⟨stBase f + 0x100, 0, 6⟩
def ST_OP_GUARD_SENT_GUARD (f : Nat) : Fld := ⟨stBase f + 0x100, 8, 6⟩
def ST_OP_GUARD_VID_LO (f : Nat) : Fld := ⟨stBase f + 0x100, 16, 8⟩
def ST_OP_GUARD_VID_HI (f : Nat) : Fld := ⟨stBase f + 0x100, 24, 8⟩
def ST_OP_SLEW_SLEW_UP (f : Nat) : Fld := ⟨stBase f + 0x104, 0, 7⟩
def ST_OP_SLEW_SLEW_DN (f : Nat) : Fld := ⟨stBase f + 0x104, 8, 7⟩
def ST_OP_FPLAN_F_PLAN (f : Nat) : Fld := ⟨stBase f + 0x108, 0, 7⟩
def ST_OP_FPLAN_FMAX (f : Nat) : Fld := ⟨stBase f + 0x108, 8, 7⟩
def ST_OP_STRETCH_EN (f : Nat) : Fld := ⟨stBase f + 0x10C, 0, 1⟩
def ST_OP_STRETCH_DSTEP (f : Nat) : Fld := ⟨stBase f + 0x10C, 1, 4⟩
def ST_OP_STATUS_STATE_CONFLICT (f : Nat) : Fld := ⟨stBase f + 0x110, 0, 1⟩
def ST_OP_STATUS_RAIL_LIMIT (f : Nat) : Fld := ⟨stBase f + 0x110, 1, 1⟩
def ST_OP_STATUS_HOLD_SAFE (f : Nat) : Fld := ⟨stBase f + 0x110, 2, 1⟩
def ST_OP_VF_VMIN (f : Nat) (i : Nat) : Fld := ⟨stBase f + 0x200 + i * 0x4, 0, 8⟩
def ST_OP_PATCH_FIDX (f : Nat) (p : Nat) : Fld := ⟨stBase f + 0x400 + p * 0x4, 0, 7⟩
def ST_OP_PATCH_FREQ (f : Nat) (p : Nat) : Fld := ⟨stBase f + 0x400 + p * 0x4, 8, 7⟩
def ST_OP_PATCH_WAIT (f : Nat) (p : Nat) : Fld := ⟨stBase f + 0x400 + p * 0x4, 15, 1⟩
def ST_OP_PATCH_MOFS (f : Nat) (p : Nat) : Fld := ⟨stBase f + 0x400 + p * 0x4, 16, 6⟩
def ST_OP_PATCH_SENT (f : Nat) (p : Nat) : Fld := ⟨stBase f + 0x400 + p * 0x4, 22, 1⟩
def ST_OP_PATCH_STATE (f : Nat) (p : Nat) : Fld := ⟨stBase f + 0x400 + p * 0x4, 23, 2⟩
def ST_OP_PATCH_RETIRE (f : Nat) (p : Nat) : Fld := ⟨stBase f + 0x400 + p * 0x4, 25, 1⟩
def ST_OP_PATCH_RAIL_LIM (f : Nat) (p : Nat) : Fld := ⟨stBase f + 0x400 + p * 0x4, 26, 1⟩
def ST_LINK_STATUS_STATE (f : Nat) (d : Nat) : Fld := ⟨stBase f + 0x800 + d * 0x40, 0, 3⟩
def ST_LINK_STATUS_STALE (f : Nat) (d : Nat) : Fld := ⟨stBase f + 0x800 + d * 0x40, 3, 1⟩
def ST_LINK_STATUS_BAD (f : Nat) (d : Nat) : Fld := ⟨stBase f + 0x800 + d * 0x40, 4, 7⟩
def ST_LINK_STATUS_REG_HOLDING (f : Nat) (d : Nat) : Fld := ⟨stBase f + 0x800 + d * 0x40, 11, 1⟩
def ST_LINK_STATUS_REG_SAFE (f : Nat) (d : Nat) : Fld := ⟨stBase f + 0x800 + d * 0x40, 12, 1⟩
def ST_LINK_STATUS_XWIRE (f : Nat) (d : Nat) : Fld := ⟨stBase f + 0x800 + d * 0x40, 13, 1⟩
def ST_LINK_DOWN_VID (f : Nat) (d : Nat) : Fld := ⟨stBase f + 0x804 + d * 0x40, 0, 8⟩
def ST_LINK_DOWN_VREF (f : Nat) (d : Nat) : Fld := ⟨stBase f + 0x804 + d * 0x40, 8, 8⟩
def ST_LINK_DOWN_MODE (f : Nat) (d : Nat) : Fld := ⟨stBase f + 0x804 + d * 0x40, 16, 2⟩
def ST_LINK_DOWN_ACK_SAFE (f : Nat) (d : Nat) : Fld := ⟨stBase f + 0x804 + d * 0x40, 18, 1⟩
def ST_LINK_DOWN_SEQ (f : Nat) (d : Nat) : Fld := ⟨stBase f + 0x804 + d * 0x40, 24, 8⟩
def ST_LINK_UP0_VOUT (f : Nat) (d : Nat) : Fld := ⟨stBase f + 0x808 + d * 0x40, 0, 12⟩
def ST_LINK_UP0_IOUT (f : Nat) (d : Nat) : Fld := ⟨stBase f + 0x808 + d * 0x40, 16, 12⟩
def ST_LINK_UP1_TEMP (f : Nat) (d : Nat) : Fld := ⟨stBase f + 0x80C + d * 0x40, 0, 8⟩
def ST_LINK_UP1_STATUS (f : Nat) (d : Nat) : Fld := ⟨stBase f + 0x80C + d * 0x40, 8, 8⟩
def ST_LINK_UP1_SEQ_ECHO (f : Nat) (d : Nat) : Fld := ⟨stBase f + 0x80C + d * 0x40, 16, 8⟩
def ST_LINK_UP1_MODE_ECHO (f : Nat) (d : Nat) : Fld := ⟨stBase f + 0x80C + d * 0x40, 24, 2⟩
def ST_LINK_ERR_BAD_UP (f : Nat) (d : Nat) : Fld := ⟨stBase f + 0x810 + d * 0x40, 0, 16⟩
def ST_LINK_ERR_ECHO_LAG (f : Nat) (d : Nat) : Fld := ⟨stBase f + 0x810 + d * 0x40, 16, 16⟩
def ST_LINK_CMD_REENABLE (f : Nat) (d : Nat) : Fld := ⟨stBase f + 0x814 + d * 0x40, 0, 1⟩
def ST_LINK_CMD_MODE_REQ (f : Nat) (d : Nat) : Fld := ⟨stBase f + 0x814 + d * 0x40, 1, 2⟩
def BU_STATUS_STATE_CONFLICT : Fld := ⟨0x20030000, 0, 1⟩
def BU_STATUS_CAP_RANGE : Fld := ⟨0x20030000, 1, 1⟩
def BU_STATUS_CAP_DEFERRED : Fld := ⟨0x20030000, 2, 1⟩
def BU_STATUS_OPTICS_CUT : Fld := ⟨0x20030000, 3, 1⟩
def BU_STATUS_SAFE_SHARE : Fld := ⟨0x20030000, 4, 1⟩
def BU_CAP_CAP : Fld := ⟨0x20030004, 0, 16⟩
def BU_CAP_SOURCE : Fld := ⟨0x20030004, 16, 2⟩
def BU_CAP_SRC_TRAY : Fld := ⟨0x20030008, 0, 16⟩
def BU_CAP_SRC_RACK : Fld := ⟨0x20030008, 16, 16⟩
def BU_CAP_LIMITS_CAP_MIN : Fld := ⟨0x2003000C, 0, 16⟩
def BU_CAP_LIMITS_CAP_MAX : Fld := ⟨0x2003000C, 16, 16⟩
def BU_RESERVE_RESERVE : Fld := ⟨0x20030010, 0, 18⟩
def BU_GRANT_G : Fld := ⟨0x20030014, 0, 18⟩
def BU_FIELD_LIM_FIELD_MAX : Fld := ⟨0x20030018, 0, 12⟩
def BU_FIELD_LIM_TILE_MIN : Fld := ⟨0x20030018, 16, 16⟩
def BU_WAFER_E_LO_E_L : Fld := ⟨0x20030020, 0, 32⟩
def BU_WAFER_E_HI_E_H : Fld := ⟨0x20030024, 0, 32⟩
def BU_FIELD_WT (g : Nat) : Fld := ⟨0x20030100 + g * 0x4, 0, 9⟩
def BU_FIELD_INSERVICE (g : Nat) : Fld := ⟨0x20030100 + g * 0x4, 15, 1⟩
def BU_FIELD_ALLOT (g : Nat) : Fld := ⟨0x20030100 + g * 0x4, 16, 12⟩
def BU_ADM_CMD_CMD : Fld := ⟨0x20030400, 0, 2⟩
def BU_ADM_CMD_JOB : Fld := ⟨0x20030400, 4, 12⟩
def BU_ADM_RESULT_OUTCOME : Fld := ⟨0x20030404, 0, 2⟩
def BU_ADM_RESULT_DONE : Fld := ⟨0x20030404, 2, 1⟩
def BU_ADM_RESULT_BUSY : Fld := ⟨0x20030404, 3, 1⟩
def BU_ADM_RESULT_REASON : Fld := ⟨0x20030404, 4, 4⟩
def BU_ADM_RESULT_FPLAN : Fld := ⟨0x20030404, 8, 7⟩
def BU_ADM_RESULT_X : Fld := ⟨0x20030404, 16, 16⟩
def BU_JOB_JOB (j : Nat) : Fld := ⟨0x20030600 + j * 0x4, 0, 12⟩
def BU_JOB_VALID (j : Nat) : Fld := ⟨0x20030600 + j * 0x4, 12, 1⟩
def BU_JOB_TIGHT (j : Nat) : Fld := ⟨0x20030600 + j * 0x4, 13, 1⟩
def BU_JOB_PHASE (j : Nat) : Fld := ⟨0x20030600 + j * 0x4, 14, 4⟩
def BU_JOB_FPLAN (j : Nat) : Fld := ⟨0x20030600 + j * 0x4, 18, 7⟩
def BU_JOB_HINT_MISS (j : Nat) : Fld := ⟨0x20030600 + j * 0x4, 25, 7⟩
def ST_BUD_STATUS_HELD (f : Nat) : Fld := ⟨stBase f + 0x1000, 0, 8⟩
def ST_BUD_STATUS_NEAR (f : Nat) : Fld := ⟨stBase f + 0x1000, 8, 1⟩
def ST_BUD_STATUS_CRIT (f : Nat) : Fld := ⟨stBase f + 0x1000, 9, 1⟩
def ST_BUD_STATUS_DOM (f : Nat) : Fld := ⟨stBase f + 0x1000, 10, 1⟩
def ST_BUD_STATUS_OPTICS_CUT (f : Nat) : Fld := ⟨stBase f + 0x1000, 11, 1⟩
def ST_BUD_STATUS_STATE_CONFLICT (f : Nat) : Fld := ⟨stBase f + 0x1000, 16, 1⟩
def ST_BUD_SPLIT0_MATRIX (f : Nat) : Fld := ⟨stBase f + 0x1004, 0, 8⟩
def ST_BUD_SPLIT0_VECTOR (f : Nat) : Fld := ⟨stBase f + 0x1004, 8, 8⟩
def ST_BUD_SPLIT0_FABRIC (f : Nat) : Fld := ⟨stBase f + 0x1004, 16, 8⟩
def ST_BUD_SPLIT0_WADDING (f : Nat) : Fld := ⟨stBase f + 0x1004, 24, 8⟩
def ST_BUD_SPLIT1_REPLAY (f : Nat) : Fld := ⟨stBase f + 0x1008, 0, 8⟩
def ST_BUD_SPLIT1_LEND_KEEP (f : Nat) : Fld := ⟨stBase f + 0x1008, 8, 8⟩
def ST_BUD_SPLIT1_BOB_PICKS (f : Nat) : Fld := ⟨stBase f + 0x1008, 16, 4⟩
def ST_BUD_SPLIT1_DRAW_EN (f : Nat) : Fld := ⟨stBase f + 0x1008, 24, 8⟩
def ST_BUD_FIXED0_MEMA (f : Nat) : Fld := ⟨stBase f + 0x1014, 0, 16⟩
def ST_BUD_FIXED0_MEMB (f : Nat) : Fld := ⟨stBase f + 0x1014, 16, 16⟩
def ST_BUD_FIXED1_OPTICS (f : Nat) : Fld := ⟨stBase f + 0x1018, 0, 16⟩
def ST_BUD_FIXED1_OPT_FLOOR (f : Nat) : Fld := ⟨stBase f + 0x1018, 16, 8⟩
def ST_BUD_EMERG_EM_NEAR (f : Nat) : Fld := ⟨stBase f + 0x101C, 0, 5⟩
def ST_BUD_EMERG_EM_CRIT (f : Nat) : Fld := ⟨stBase f + 0x101C, 8, 5⟩
def ST_BUD_EMERG_EM_DOM (f : Nat) : Fld := ⟨stBase f + 0x101C, 16, 5⟩
def ST_BUD_EMERG_DOM_EXC (f : Nat) : Fld := ⟨stBase f + 0x101C, 24, 6⟩
def ST_BUD_BOBBIN_LEVEL (f : Nat) : Fld := ⟨stBase f + 0x1020, 0, 24⟩
def ST_BUD_CLS_ALLOT (f : Nat) (c : Nat) : Fld := ⟨stBase f + 0x1040 + c * 0x10, 0, 16⟩
def ST_BUD_DEBT_DEBT (f : Nat) (c : Nat) : Fld := ⟨stBase f + 0x1044 + c * 0x10, 0, 24⟩
def ST_BUD_FINAL_FINAL (f : Nat) (c : Nat) : Fld := ⟨stBase f + 0x1048 + c * 0x10, 0, 24⟩
def ST_BUD_CNT_HOLD_PICKS (f : Nat) (c : Nat) : Fld := ⟨stBase f + 0x104C + c * 0x10, 0, 16⟩
def ST_BUD_CNT_LOAN_PICKS (f : Nat) (c : Nat) : Fld := ⟨stBase f + 0x104C + c * 0x10, 16, 16⟩
def ST_HINT_STATUS_DEPTH (f : Nat) : Fld := ⟨stBase f + 0x1100, 0, 7⟩
def ST_HINT_STATUS_PREPOS (f : Nat) : Fld := ⟨stBase f + 0x1100, 8, 4⟩
def ST_HINT_STATUS_DRAIN (f : Nat) : Fld := ⟨stBase f + 0x1100, 16, 1⟩
def ST_HINT_DROP0_RESERVED (f : Nat) : Fld := ⟨stBase f + 0x1104, 0, 16⟩
def ST_HINT_DROP0_JOB_UNKNOWN (f : Nat) : Fld := ⟨stBase f + 0x1104, 16, 16⟩
def ST_HINT_DROP1_FULL (f : Nat) : Fld := ⟨stBase f + 0x1108, 0, 16⟩
def ST_HINT_DROP1_STATE (f : Nat) : Fld := ⟨stBase f + 0x1108, 16, 16⟩
def ST_HINT_DROP2_DRAIN (f : Nat) : Fld := ⟨stBase f + 0x110C, 0, 16⟩
def ST_HINT_CFG_HINT_HOLD (f : Nat) : Fld := ⟨stBase f + 0x1110, 0, 12⟩
def ST_HINT_CFG_MISS_STEP (f : Nat) : Fld := ⟨stBase f + 0x1110, 16, 8⟩
def ST_STEP_MAX_STEP (f : Nat) : Fld := ⟨stBase f + 0x2000, 0, 8⟩
def ST_STEP_MAX_RAMP_WIN (f : Nat) : Fld := ⟨stBase f + 0x2000, 8, 4⟩
def ST_WAD_CFG_FLOOR_PCT (f : Nat) : Fld := ⟨stBase f + 0x2004, 0, 7⟩
def ST_WAD_CFG_PRE_PICKS (f : Nat) : Fld := ⟨stBase f + 0x2004, 8, 4⟩
def ST_WAD_CFG_FLOOR_HOLD (f : Nat) : Fld := ⟨stBase f + 0x2004, 16, 12⟩
def ST_HED_TILE_I_TILE (f : Nat) : Fld := ⟨stBase f + 0x2008, 0, 10⟩
def ST_HED_STATE_STATE (f : Nat) (d : Nat) : Fld := ⟨stBase f + 0x2040 + d * 0x20, 0, 2⟩
def ST_HED_STATE_KIND (f : Nat) (d : Nat) : Fld := ⟨stBase f + 0x2040 + d * 0x20, 2, 1⟩
def ST_HED_STATE_FLOOR_ZERO (f : Nat) (d : Nat) : Fld := ⟨stBase f + 0x2040 + d * 0x20, 3, 1⟩
def ST_HED_STATE_SHEDS_LEFT (f : Nat) (d : Nat) : Fld := ⟨stBase f + 0x2040 + d * 0x20, 8, 8⟩
def ST_HED_CUR_I_PRE (f : Nat) (d : Nat) : Fld := ⟨stBase f + 0x2044 + d * 0x20, 0, 12⟩
def ST_HED_CUR_I_FLOOR (f : Nat) (d : Nat) : Fld := ⟨stBase f + 0x2044 + d * 0x20, 16, 12⟩
def ST_HED_REF_I_REF (f : Nat) (d : Nat) : Fld := ⟨stBase f + 0x2048 + d * 0x20, 0, 12⟩
def ST_HED_REF_I_HAT (f : Nat) (d : Nat) : Fld := ⟨stBase f + 0x2048 + d * 0x20, 16, 12⟩
def ST_HED_SLOPE_S_LIM (f : Nat) (d : Nat) : Fld := ⟨stBase f + 0x204C + d * 0x20, 0, 16⟩
def ST_HED_SLOPE_G_EFF (f : Nat) (d : Nat) : Fld := ⟨stBase f + 0x204C + d * 0x20, 16, 16⟩
def ST_HED_CNT_RAMPS (f : Nat) (d : Nat) : Fld := ⟨stBase f + 0x2050 + d * 0x20, 0, 16⟩
def ST_HED_CNT_GATED_PICKS (f : Nat) (d : Nat) : Fld := ⟨stBase f + 0x2050 + d * 0x20, 16, 16⟩
def ST_HED_SUM_UNARMED (f : Nat) (d : Nat) : Fld := ⟨stBase f + 0x2054 + d * 0x20, 0, 16⟩
def ST_HED_SUM_WAD_HELD (f : Nat) (d : Nat) : Fld := ⟨stBase f + 0x2054 + d * 0x20, 16, 16⟩
def BU_RACK_RACK_SLEW : Fld := ⟨0x20030A00, 0, 16⟩
def BU_RACK_NOTICE_AGE : Fld := ⟨0x20030A00, 16, 4⟩
def BU_COLL_CFG_GRACE : Fld := ⟨0x20030A04, 0, 4⟩
def BU_COLL_CFG_MATCH_EN : Fld := ⟨0x20030A04, 4, 1⟩
def BU_COLL_CFG_SLACK_STEP : Fld := ⟨0x20030A04, 8, 5⟩
def BU_COLL_CFG_SLACK_FLOOR : Fld := ⟨0x20030A04, 16, 7⟩
def BU_COLL_STATUS_OPEN : Fld := ⟨0x20030A08, 0, 6⟩
def BU_COLL_STATUS_DEFERRING : Fld := ⟨0x20030A08, 6, 1⟩
def BU_COLL_STATUS_GRACE_LEFT : Fld := ⟨0x20030A08, 8, 4⟩
def BU_COLL_STATUS_FULL_DROPS : Fld := ⟨0x20030A08, 16, 16⟩
def BU_SHARE_SHARE : Fld := ⟨0x20030A0C, 0, 16⟩
def BU_SHARE_N : Fld := ⟨0x20030A0C, 16, 5⟩
def BU_BAR_GROUP (k : Nat) : Fld := ⟨0x20030A40 + k * 0x8, 0, 16⟩
def BU_BAR_VALID (k : Nat) : Fld := ⟨0x20030A40 + k * 0x8, 16, 1⟩
def BU_BAR_N (k : Nat) : Fld := ⟨0x20030A40 + k * 0x8, 17, 5⟩
def BU_BAR_N_HEARD (k : Nat) : Fld := ⟨0x20030A40 + k * 0x8, 22, 5⟩
def BU_BAR_N_LISTED (k : Nat) : Fld := ⟨0x20030A40 + k * 0x8, 27, 5⟩
def BU_BAR_DOMAINS (k : Nat) : Fld := ⟨0x20030A44 + k * 0x8, 0, 9⟩
def BU_COLL_GROUP (k : Nat) : Fld := ⟨0x20030C00 + k * 0x8, 0, 16⟩
def BU_COLL_JOB (k : Nat) : Fld := ⟨0x20030C00 + k * 0x8, 16, 12⟩
def BU_COLL_VALID (k : Nat) : Fld := ⟨0x20030C00 + k * 0x8, 28, 1⟩
def BU_COLL_OPEN (k : Nat) : Fld := ⟨0x20030C00 + k * 0x8, 29, 1⟩
def BU_COLL_MATCHING (k : Nat) : Fld := ⟨0x20030C00 + k * 0x8, 30, 1⟩
def BU_COLL_F_SLOW (k : Nat) : Fld := ⟨0x20030C04 + k * 0x8, 0, 7⟩
def BU_COLL_M (k : Nat) : Fld := ⟨0x20030C04 + k * 0x8, 8, 7⟩
def BU_COLL_FIELDS (k : Nat) : Fld := ⟨0x20030C04 + k * 0x8, 16, 7⟩
def LG_STATUS_STATE_CONFLICT : Fld := ⟨0x20040000, 0, 1⟩
def LG_STATUS_GRANT : Fld := ⟨0x20040000, 1, 1⟩
def LG_STATUS_FULL : Fld := ⟨0x20040000, 2, 1⟩
def LG_CFG0_BAST_WIN : Fld := ⟨0x20040004, 0, 8⟩
def LG_CFG0_RETRY : Fld := ⟨0x20040004, 8, 4⟩
def LG_CFG0_LOW_MARK : Fld := ⟨0x20040004, 16, 16⟩
def LG_CFG1_DEST_GIVEUP : Fld := ⟨0x20040008, 0, 16⟩
def LG_CFG1_CREDIT : Fld := ⟨0x20040008, 16, 8⟩
def LG_FREE_FREE : Fld := ⟨0x2004000C, 0, 17⟩
def LG_MINFREE_MIN : Fld := ⟨0x20040010, 0, 17⟩
def LG_CNT_COUNT (k : Nat) : Fld := ⟨0x20040020 + k * 0x4, 0, 17⟩
def LG_PROXY_COUNT : Fld := ⟨0x20040040, 0, 17⟩
def LG_EVT0_MARKS : Fld := ⟨0x20040044, 0, 16⟩
def LG_EVT0_CLOSED : Fld := ⟨0x20040044, 16, 16⟩
def LG_EVT1_WAITS : Fld := ⟨0x20040048, 0, 16⟩
def LG_EVT1_FULL_PICKS : Fld := ⟨0x20040048, 16, 16⟩
def LG_EVT2_RESENT : Fld := ⟨0x2004004C, 0, 16⟩
def LG_EVT2_GIVEUP : Fld := ⟨0x2004004C, 16, 16⟩
def LG_EVT3_NOTE_DISC : Fld := ⟨0x20040050, 0, 16⟩
def LG_EVT3_PROTO : Fld := ⟨0x20040050, 16, 16⟩
def LG_SEL_INDEX : Fld := ⟨0x20040060, 0, 16⟩
def LG_ENT_WORD (k : Nat) : Fld := ⟨0x20040080 + k * 0x4, 0, 32⟩
def LG_HOSTQ_QHANDLE : Fld := ⟨0x200400C0, 0, 32⟩
def LG_CMD_CMD : Fld := ⟨0x200400C4, 0, 2⟩
def LG_CMD_INDEX : Fld := ⟨0x200400C4, 16, 16⟩
def LG_JOB_JOB (j : Nat) : Fld := ⟨0x20040400 + j * 0x10, 0, 12⟩
def LG_JOB_VALID (j : Nat) : Fld := ⟨0x20040400 + j * 0x10, 12, 1⟩
def LG_JOB_QHANDLE (j : Nat) : Fld := ⟨0x20040404 + j * 0x10, 0, 32⟩
def LG_JOB_WM_L (j : Nat) : Fld := ⟨0x20040408 + j * 0x10, 0, 32⟩
def LG_JOB_WM_H (j : Nat) : Fld := ⟨0x2004040C + j * 0x10, 0, 4⟩
def LG_JOB_PEND (j : Nat) : Fld := ⟨0x2004040C + j * 0x10, 16, 16⟩
def LG_RP_STATUS_STATE_CONFLICT : Fld := ⟨0x20041000, 0, 1⟩
def LG_RP_STATUS_REC_FULL : Fld := ⟨0x20041000, 1, 1⟩
def LG_RP_STATUS_ASSAY_FULL : Fld := ⟨0x20041000, 2, 1⟩
def LG_RP_STATUS_RECS : Fld := ⟨0x20041000, 16, 11⟩
def LG_RP_CFG0_RUN_WIN : Fld := ⟨0x20041004, 0, 8⟩
def LG_RP_CFG0_GIVEUP : Fld := ⟨0x20041004, 8, 8⟩
def LG_RP_CFG0_REPEAT_WIN : Fld := ⟨0x20041004, 16, 16⟩
def LG_RP_CFG1_STRIKE_MAX : Fld := ⟨0x20041008, 0, 4⟩
def LG_RP_CFG1_STRIKE_HOURS : Fld := ⟨0x20041008, 4, 12⟩
def LG_RP_CFG1_AUDIT_DEF : Fld := ⟨0x20041008, 16, 5⟩
def LG_RP_SALT_SALT : Fld := ⟨0x2004100C, 0, 32⟩
def LG_RP_QHANDLE_QHANDLE : Fld := ⟨0x20041010, 0, 32⟩
def LG_RP_CNT0_REPLAYS : Fld := ⟨0x20041020, 0, 16⟩
def LG_RP_CNT0_TIEBREAKS : Fld := ⟨0x20041020, 16, 16⟩
def LG_RP_CNT1_MATCHES : Fld := ⟨0x20041024, 0, 16⟩
def LG_RP_CNT1_REPLACED : Fld := ⟨0x20041024, 16, 16⟩
def LG_RP_CNT2_UNRESOLVED : Fld := ⟨0x20041028, 0, 16⟩
def LG_RP_CNT2_LAPSED : Fld := ⟨0x20041028, 16, 16⟩
def LG_RP_CNT3_STRIKES : Fld := ⟨0x2004102C, 0, 16⟩
def LG_RP_CNT3_RAISES : Fld := ⟨0x2004102C, 16, 16⟩
def LG_RP_CNT4_RETIRED : Fld := ⟨0x20041030, 0, 16⟩
def LG_RP_CNT4_AUDITS : Fld := ⟨0x20041030, 16, 16⟩
def LG_RP_SEL_INDEX : Fld := ⟨0x20041040, 0, 10⟩
def LG_RP_REC_WORD (k : Nat) : Fld := ⟨0x20041080 + k * 0x4, 0, 32⟩
def LG_ASSAY_REQ_FIELD : Fld := ⟨0x20041100, 0, 7⟩
def LG_ASSAY_REQ_PATCH : Fld := ⟨0x20041100, 8, 6⟩
def LG_ASSAY_STAT_DEPTH : Fld := ⟨0x20041104, 0, 4⟩
def LG_ASSAY_STAT_BUSY : Fld := ⟨0x20041104, 4, 1⟩
def LG_ASSAY_STAT_LAST_FAIL : Fld := ⟨0x20041104, 5, 1⟩
def LG_ASSAY_STAT_LAST_FIELD : Fld := ⟨0x20041104, 6, 7⟩
def LG_ASSAY_STAT_LAST_PATCH : Fld := ⟨0x20041104, 13, 6⟩
def LG_AUD_SHIFT (j : Nat) : Fld := ⟨0x20041400 + j * 0x4, 0, 5⟩
def LG_AUD_AUDITS (j : Nat) : Fld := ⟨0x20041400 + j * 0x4, 16, 16⟩
def LG_WATCH_HEAD_NEXT : Fld := ⟨0x20041A00, 0, 4⟩
def LG_WATCH_HEAD_OVER : Fld := ⟨0x20041A00, 16, 16⟩
def ST_RSV_LO_RSV (f : Nat) : Fld := ⟨stBase f + 0x3000, 0, 32⟩
def ST_RSV_HI_RSV (f : Nat) : Fld := ⟨stBase f + 0x3004, 0, 4⟩
def ST_RSV_BUSY_LO_BUSY (f : Nat) : Fld := ⟨stBase f + 0x3008, 0, 32⟩
def ST_RSV_BUSY_HI_BUSY (f : Nat) : Fld := ⟨stBase f + 0x300C, 0, 4⟩
def ST_RPL_PATCH_STRIKES (f : Nat) (p : Nat) : Fld := ⟨stBase f + 0x3100 + p * 0x4, 0, 3⟩
def ST_RPL_PATCH_REPEAT (f : Nat) (p : Nat) : Fld := ⟨stBase f + 0x3100 + p * 0x4, 3, 1⟩
def ST_RPL_PATCH_CONFIRM (f : Nat) (p : Nat) : Fld := ⟨stBase f + 0x3100 + p * 0x4, 4, 1⟩
def ST_RPL_PATCH_JUDGED (f : Nat) (p : Nat) : Fld := ⟨stBase f + 0x3100 + p * 0x4, 8, 16⟩
def JZ_SEL_STATUS_STATE : Fld := ⟨0x20000400, 0, 3⟩
def JZ_SEL_STATUS_OFF : Fld := ⟨0x20000400, 3, 1⟩
def JZ_SEL_STATUS_CAUSE_TRIP : Fld := ⟨0x20000400, 4, 1⟩
def JZ_SEL_STATUS_CAUSE_COOL : Fld := ⟨0x20000400, 5, 1⟩
def JZ_SEL_STATUS_COOL_OK : Fld := ⟨0x20000400, 6, 1⟩
def JZ_SEL_STATUS_TRIP_PIN : Fld := ⟨0x20000400, 7, 1⟩
def JZ_SEL_STATUS_STATE_CONFLICT : Fld := ⟨0x20000400, 8, 1⟩
def JZ_SEL_STATUS_STAMP_H : Fld := ⟨0x20000400, 9, 1⟩
def JZ_SEL_LIMITS_T_CTRL : Fld := ⟨0x20000404, 0, 11⟩
def JZ_SEL_LIMITS_TRIP : Fld := ⟨0x20000404, 16, 8⟩
def JZ_SEL_LIMITS_T_RESTART : Fld := ⟨0x20000404, 24, 8⟩
def JZ_SEL_TIME0_COOL_HOLD : Fld := ⟨0x20000408, 0, 16⟩
def JZ_SEL_TIME0_COOL_START : Fld := ⟨0x20000408, 16, 16⟩
def JZ_SEL_TIME1_COOL_TEMP : Fld := ⟨0x2000040C, 0, 16⟩
def JZ_SEL_TIME1_TRIP_LIMIT : Fld := ⟨0x2000040C, 16, 4⟩
def JZ_SEL_TIME1_TRIP_WINDOW : Fld := ⟨0x2000040C, 20, 12⟩
def JZ_SEL_COUNT_COOL_BOLTS : Fld := ⟨0x20000410, 0, 16⟩
def JZ_SEL_COUNT_OK_BOLTS : Fld := ⟨0x20000410, 16, 16⟩
def JZ_SEL_FIRST_FIELD : Fld := ⟨0x20000414, 0, 7⟩
def JZ_SEL_FIRST_PATCH : Fld := ⟨0x20000414, 8, 6⟩
def JZ_SEL_FIRST_SUSPECT_RULE : Fld := ⟨0x20000414, 14, 1⟩
def JZ_SEL_FIRST_VALID : Fld := ⟨0x20000414, 15, 1⟩
def JZ_SEL_FIRST_STOPS : Fld := ⟨0x20000414, 24, 8⟩
def JZ_SEL_STAMP_LO_PICK_L : Fld := ⟨0x20000418, 12, 20⟩
def JZ_SEL_STAMP_LO_SUB : Fld := ⟨0x20000418, 0, 12⟩
def JZ_SEL_STAMP_HI_PICK_H : Fld := ⟨0x2000041C, 0, 32⟩
def JZ_SEL_CMD_RELEASE : Fld := ⟨0x20000420, 0, 1⟩
def JZ_OPT_CFG_OPT_LO : Fld := ⟨0x20000430, 0, 8⟩
def JZ_OPT_CFG_OPT_HI : Fld := ⟨0x20000430, 8, 8⟩
def JZ_OPT_CFG_OPT_HYST : Fld := ⟨0x20000430, 16, 4⟩
def JZ_OPT_OUT_OUT : Fld := ⟨0x20000434, 0, 24⟩
def ST_TH_TRIP_LO_TRIP (f : Nat) : Fld := ⟨stBase f + 0x4000, 0, 32⟩
def ST_TH_TRIP_HI_TRIP (f : Nat) : Fld := ⟨stBase f + 0x4004, 0, 4⟩
def ST_MEM_CFG_WARM_SHARE (f : Nat) : Fld := ⟨stBase f + 0x4010, 0, 8⟩
def ST_MEM_CFG_MEM_HYST (f : Nat) : Fld := ⟨stBase f + 0x4010, 8, 4⟩
def ST_MEM_CFG_MR4_PERIOD (f : Nat) : Fld := ⟨stBase f + 0x4010, 16, 12⟩
def ST_MEM_NCH_NCH (f : Nat) : Fld := ⟨stBase f + 0x4024, 0, 6⟩
def PP_STATUS_STATE_CONFLICT : Fld := ⟨0x20080000, 0, 1⟩
def PP_STATUS_SELF_VALID : Fld := ⟨0x20080000, 1, 1⟩
def PP_STATUS_STAGED : Fld := ⟨0x20080000, 2, 1⟩
def PP_STATUS_TX_FULL : Fld := ⟨0x20080000, 3, 1⟩
def PP_SELF_ADDR : Fld := ⟨0x20080004, 0, 16⟩
def PP_SELF_INCARN_L : Fld := ⟨0x20080004, 16, 16⟩
def PP_CFG0_HB_PERIOD : Fld := ⟨0x20080008, 0, 4⟩
def PP_CFG0_MISS : Fld := ⟨0x20080008, 4, 4⟩
def PP_CFG0_GRANT_OFFER : Fld := ⟨0x20080008, 8, 4⟩
def PP_CFG0_EVICT : Fld := ⟨0x20080008, 16, 16⟩
def PP_CFG1_STAGE_LIMIT : Fld := ⟨0x2008000C, 0, 8⟩
def PP_CFG1_RESEND_DELAY : Fld := ⟨0x2008000C, 8, 8⟩
def PP_CFG1_RESEND_MAX : Fld := ⟨0x2008000C, 16, 4⟩
def PP_CFG1_REPLY_WAIT : Fld := ⟨0x2008000C, 24, 8⟩
def PP_CFG2_LOAN_TIMEOUT : Fld := ⟨0x20080010, 0, 8⟩
def PP_CFG2_CAP_FRESH : Fld := ⟨0x20080010, 8, 4⟩
def PP_CFG2_TIME_TOL : Fld := ⟨0x20080010, 12, 4⟩
def PP_CFG2_RTT_MAX : Fld := ⟨0x20080010, 16, 4⟩
def PP_CFG2_TIME_PERIOD : Fld := ⟨0x20080010, 20, 8⟩
def PP_TIME_LAST_OFS : Fld := ⟨0x20080014, 0, 16⟩
def PP_TIME_MISMATCH : Fld := ⟨0x20080014, 16, 16⟩
def PP_RING_BASE_BASE : Fld := ⟨0x20080020, 0, 32⟩
def PP_RING_HEAD_HEAD : Fld := ⟨0x20080024, 0, 12⟩
def PP_RING_TAIL_TAIL : Fld := ⟨0x20080028, 0, 12⟩
def PP_RING_RES_RES : Fld := ⟨0x2008002C, 0, 12⟩
def PP_RING_RES_RES_MAX : Fld := ⟨0x2008002C, 16, 12⟩
def PP_STAGE_CELLS : Fld := ⟨0x20080030, 0, 7⟩
def PP_STAGE_MSGS : Fld := ⟨0x20080030, 8, 7⟩
def PP_DROP_FORMAT : Fld := ⟨0x20080040, 0, 16⟩
def PP_DROP_STAGED : Fld := ⟨0x20080040, 16, 16⟩
def PP_DROP_X_FULL : Fld := ⟨0x20080044, 0, 16⟩
def PP_DROP_X_GRANT : Fld := ⟨0x20080044, 16, 16⟩
def PP_DROP_Y_LEDGER : Fld := ⟨0x20080048, 0, 16⟩
def PP_DROP_Y_TABLE : Fld := ⟨0x20080048, 16, 16⟩
def PP_DROP_Z_STATE : Fld := ⟨0x2008004C, 0, 16⟩
def PP_DROP_Z_LATE : Fld := ⟨0x2008004C, 16, 16⟩
def PP_TX_CMD_PEER : Fld := ⟨0x20080050, 0, 10⟩
def PP_TX_CMD_SEND : Fld := ⟨0x20080050, 10, 1⟩
def PP_TX_CMD_CANCEL : Fld := ⟨0x20080050, 11, 1⟩
def PP_TX_STATUS_RESULT : Fld := ⟨0x20080054, 0, 3⟩
def PP_TX_STATUS_HELD : Fld := ⟨0x20080054, 8, 8⟩
def PP_TX_STATUS_GIVEUP : Fld := ⟨0x20080054, 16, 16⟩
def PP_PSEL_INDEX : Fld := ⟨0x20080060, 0, 10⟩
def PP_PCNT_PRESENT : Fld := ⟨0x20080064, 0, 11⟩
def PP_PCNT_ABSENT : Fld := ⟨0x20080064, 11, 11⟩
def PP_PEER_ADDR : Fld := ⟨0x20080080, 0, 16⟩
def PP_PEER_STATE : Fld := ⟨0x20080080, 16, 2⟩
def PP_PEER_KIND : Fld := ⟨0x20080080, 18, 2⟩
def PP_PEER_GRANT : Fld := ⟨0x20080080, 20, 4⟩
def PP_PEER_INFLIGHT : Fld := ⟨0x20080080, 24, 4⟩
def PP_PEER_LEND : Fld := ⟨0x20080080, 28, 1⟩
def PP_PEER_INCARN : Fld := ⟨0x20080084, 0, 32⟩
def PP_PEER_LAST_HB : Fld := ⟨0x20080088, 0, 32⟩
def PP_PEER_REFS : Fld := ⟨0x2008008C, 0, 16⟩
def PP_PEER_SENT : Fld := ⟨0x20080090, 0, 32⟩
def PP_PEER_RCVD : Fld := ⟨0x20080094, 0, 32⟩
def PP_GRP_ADDR_ADDR : Fld := ⟨0x200800C0, 0, 16⟩
def PP_GRP_CMD_GROUP : Fld := ⟨0x200800C4, 0, 16⟩
def PP_GRP_CMD_CMD : Fld := ⟨0x200800C4, 16, 2⟩
def PP_GRP_STATUS_RESULT : Fld := ⟨0x200800C8, 0, 2⟩
def PP_GRP_STATUS_GROUPS : Fld := ⟨0x200800C8, 2, 7⟩
def PP_GRP_STATUS_MEMBERS : Fld := ⟨0x200800C8, 16, 13⟩
def PP_RACK_CAP_VALUE : Fld := ⟨0x200800D0, 0, 16⟩
def PP_RACK_CAP_URGENT : Fld := ⟨0x200800D0, 16, 1⟩
def PP_RACK_CAP_PASS : Fld := ⟨0x200800D0, 17, 1⟩
def PP_LOAN_CMD_ENTRY : Fld := ⟨0x200800D4, 0, 5⟩
def PP_LOAN_CMD_RETURN : Fld := ⟨0x200800D4, 5, 1⟩
def PP_SNAP_PICK_LO_AT_L : Fld := ⟨0x200800E0, 0, 32⟩
def PP_SNAP_PICK_HI_AT_H : Fld := ⟨0x200800E4, 0, 20⟩
def PP_SNAP_SEL_INDEX : Fld := ⟨0x200800E8, 0, 10⟩
def PP_SNAP_SENT_SENT : Fld := ⟨0x200800EC, 0, 32⟩
def PP_SNAP_RCVD_RCVD : Fld := ⟨0x200800F0, 0, 32⟩
def PP_LOAN_PEER (i : Nat) : Fld := ⟨0x20080100 + i * 0x10, 0, 10⟩
def PP_LOAN_VALID (i : Nat) : Fld := ⟨0x20080100 + i * 0x10, 10, 1⟩
def PP_LOAN_LENT (i : Nat) : Fld := ⟨0x20080100 + i * 0x10, 11, 1⟩
def PP_LOAN_AMOUNT (i : Nat) : Fld := ⟨0x20080104 + i * 0x10, 0, 18⟩
def PP_LOAN_LOAN_ID (i : Nat) : Fld := ⟨0x20080108 + i * 0x10, 0, 32⟩
def PP_LOAN_EXPIRY_L (i : Nat) : Fld := ⟨0x2008010C + i * 0x10, 0, 32⟩
def CK_STATUS_SEL : Fld := ⟨0x20020000, 0, 3⟩
def CK_STATUS_REF_Q : Fld := ⟨0x20020000, 3, 1⟩
def CK_STATUS_TB_Q : Fld := ⟨0x20020000, 4, 1⟩
def CK_STATUS_PLL_LOCK : Fld := ⟨0x20020000, 5, 1⟩
def CK_STATUS_PLL_SRC : Fld := ⟨0x20020000, 6, 1⟩
def CK_STATUS_HOLD_SAFE : Fld := ⟨0x20020000, 7, 1⟩
def CK_STATUS_ROSC_RUN : Fld := ⟨0x20020000, 8, 1⟩
def CK_STATUS_STATE_CONFLICT : Fld := ⟨0x20020000, 9, 1⟩
def CK_CFG_PREF_TB : Fld := ⟨0x20020004, 0, 1⟩
def CK_CFG_TB_RETURN : Fld := ⟨0x20020004, 8, 8⟩
def CK_QUAL_REF_QUAL : Fld := ⟨0x20020008, 0, 12⟩
def CK_QUAL_TB_QUAL : Fld := ⟨0x20020008, 16, 12⟩
def CK_CMD_PLL_EN : Fld := ⟨0x2002000C, 0, 1⟩
def CK_EVT_SWITCHES : Fld := ⟨0x20020010, 0, 16⟩
def CK_EVT_WAITS : Fld := ⟨0x20020010, 16, 16⟩
def CK_LOSS_SRC : Fld := ⟨0x20020014, 0, 2⟩
def CK_LOSS_VALID : Fld := ⟨0x20020014, 2, 1⟩
def CK_LOSS_TO_WAIT : Fld := ⟨0x20020014, 3, 1⟩
def CK_WAIT_TIME_US : Fld := ⟨0x20020018, 0, 32⟩
def CK_GATE_STAT_OPEN : Fld := ⟨0x20020024, 0, 12⟩
def CK_GATE_STAT_QUIESCE : Fld := ⟨0x20020024, 16, 12⟩
def CK_OUT_EN : Fld := ⟨0x20020030, 0, 1⟩
def CK_OUT_SRC : Fld := ⟨0x20020030, 1, 3⟩
def CK_OUT_DIV : Fld := ⟨0x20020030, 16, 16⟩
def CK_OUT_PATCH_FIELD : Fld := ⟨0x20020034, 0, 7⟩
def CK_OUT_PATCH_PATCH : Fld := ⟨0x20020034, 8, 6⟩
def CK_OUT_STAT_ACTIVE : Fld := ⟨0x20020038, 0, 1⟩
def CK_OUT_STAT_MIN_DIV : Fld := ⟨0x20020038, 1, 1⟩
def CK_OUT_STAT_CHANGING : Fld := ⟨0x20020038, 2, 1⟩
def NV_STATUS_STATE_CONFLICT : Fld := ⟨0x20090000, 0, 1⟩
def NV_STATUS_NO_IMAGE : Fld := ⟨0x20090000, 1, 1⟩
def NV_STATUS_FALLBACK : Fld := ⟨0x20090000, 2, 1⟩
def NV_STATUS_BUSY : Fld := ⟨0x20090000, 3, 1⟩
def NV_STATUS_ADDR4 : Fld := ⟨0x20090000, 4, 1⟩
def NV_STATUS_SFDP_OK : Fld := ⟨0x20090000, 5, 1⟩
def NV_DEV_READ_OP : Fld := ⟨0x20090004, 0, 8⟩
def NV_DEV_DUMMY : Fld := ⟨0x20090004, 8, 4⟩
def NV_DEV_DENSITY : Fld := ⟨0x20090004, 16, 8⟩
def NV_CFG_SCK_DIV : Fld := ⟨0x20090008, 0, 4⟩
def NV_SLOT_STATE_A : Fld := ⟨0x2009000C, 0, 3⟩
def NV_SLOT_STATE_B : Fld := ⟨0x2009000C, 3, 3⟩
def NV_SLOT_ACTIVE : Fld := ⟨0x2009000C, 6, 1⟩
def NV_SLOT_ACTIVE_VALID : Fld := ⟨0x2009000C, 7, 1⟩
def NV_SLOT_BOOTED : Fld := ⟨0x2009000C, 8, 1⟩
def NV_SLOT_SECVER_A : Fld := ⟨0x2009000C, 16, 8⟩
def NV_SLOT_SECVER_B : Fld := ⟨0x2009000C, 24, 8⟩
def NV_BOOT_PCYCLE : Fld := ⟨0x20090010, 0, 32⟩
def NV_FUSE_SECVER_FUSED : Fld := ⟨0x20090014, 0, 7⟩
def NV_FUSE_ROOT_SET : Fld := ⟨0x20090014, 7, 1⟩
def NV_XFER_STATE : Fld := ⟨0x20090020, 0, 2⟩
def NV_XFER_PATH : Fld := ⟨0x20090020, 2, 1⟩
def NV_XFER_RESULT : Fld := ⟨0x20090020, 4, 4⟩
def NV_XFER_IDLE : Fld := ⟨0x20090020, 16, 16⟩
def NV_XFER_LEN_LENGTH : Fld := ⟨0x20090024, 0, 24⟩
def NV_XFER_NEXT_NEXT : Fld := ⟨0x20090028, 0, 24⟩
def NV_ERR_WRITE_ERR : Fld := ⟨0x20090030, 0, 16⟩
def NV_ERR_CRC_ERR : Fld := ⟨0x20090030, 16, 16⟩
def NV_SIG_CMD_GO : Fld := ⟨0x20090040, 0, 1⟩
def NV_SIG_CMD_KEY : Fld := ⟨0x20090040, 1, 2⟩
def NV_SIG_CMD_PURPOSE : Fld := ⟨0x20090040, 3, 2⟩
def NV_SIG_CMD_LEN : Fld := ⟨0x20090040, 8, 8⟩
def NV_SIG_STATUS_BUSY : Fld := ⟨0x20090044, 0, 1⟩
def NV_SIG_STATUS_DONE : Fld := ⟨0x20090044, 1, 1⟩
def NV_SIG_STATUS_PASS : Fld := ⟨0x20090044, 2, 1⟩
def NV_SIG_STATUS_KEY_EMPTY : Fld := ⟨0x20090044, 3, 1⟩
def BT_STATUS_STATE_CONFLICT : Fld := ⟨0x20070000, 0, 1⟩
def BT_STATUS_KERNEL_OK : Fld := ⟨0x20070000, 1, 1⟩
def BT_STATUS_STRESS : Fld := ⟨0x20070000, 2, 1⟩
def BT_STATUS_RUNNING : Fld := ⟨0x20070000, 3, 7⟩
def BT_STATUS_TAP : Fld := ⟨0x20070000, 10, 1⟩
def BT_CFG0_SLICE_BUDGET : Fld := ⟨0x20070004, 0, 12⟩
def BT_CFG0_REGION_WAIT : Fld := ⟨0x20070004, 12, 8⟩
def BT_CFG0_RETEST_ALLOT : Fld := ⟨0x20070004, 20, 12⟩
def BT_CFG1_POINT_BOLTS : Fld := ⟨0x20070008, 0, 8⟩
def BT_CFG1_HOT_OFS : Fld := ⟨0x20070008, 8, 8⟩
def BT_CFG1_STRESS_RAISE : Fld := ⟨0x20070008, 16, 3⟩
def BT_CFG1_FIELD_RETIRE_MAX : Fld := ⟨0x20070008, 20, 4⟩
def BT_CFG1_STRESS_SUB : Fld := ⟨0x20070008, 24, 4⟩
def BT_CFG2_HEAT_LIMIT : Fld := ⟨0x2007000C, 0, 16⟩
def BT_CMD_SLICE : Fld := ⟨0x20070010, 0, 8⟩
def BT_CMD_FIELD : Fld := ⟨0x20070010, 8, 7⟩
def BT_CMD_PATCH : Fld := ⟨0x20070010, 16, 6⟩
def BT_CMD_GO : Fld := ⟨0x20070010, 22, 1⟩
def BT_CMD_ABORT : Fld := ⟨0x20070010, 23, 1⟩
def BT_CMD_BUDGET : Fld := ⟨0x20070010, 24, 8⟩
def BT_RESULT_SLICE : Fld := ⟨0x20070014, 0, 8⟩
def BT_RESULT_FIELD : Fld := ⟨0x20070014, 8, 7⟩
def BT_RESULT_PATCH : Fld := ⟨0x20070014, 16, 6⟩
def BT_RESULT_OUTCOME : Fld := ⟨0x20070014, 22, 2⟩
def BT_RESULT_DONE : Fld := ⟨0x20070014, 24, 1⟩
def BT_RESULT_CHECK : Fld := ⟨0x20070014, 28, 4⟩
def BT_KFAIL_SLICE : Fld := ⟨0x20070018, 0, 8⟩
def BT_KFAIL_CHECK : Fld := ⟨0x20070018, 8, 8⟩
def BT_KFAIL_VALID : Fld := ⟨0x20070018, 16, 1⟩
def BT_PASS_PASS (k : Nat) : Fld := ⟨0x20070020 + k * 0x4, 0, 32⟩
def BT_FSEL_FIELD : Fld := ⟨0x20070030, 0, 7⟩
def BT_FSTAT_PHASE : Fld := ⟨0x20070034, 0, 3⟩
def BT_FSTAT_RESULT : Fld := ⟨0x20070034, 3, 2⟩
def BT_FSTAT_HOT_SHORT : Fld := ⟨0x20070034, 5, 1⟩
def BT_FSTAT_RAISES : Fld := ⟨0x20070034, 6, 6⟩
def BT_FSTAT_RETIRED : Fld := ⟨0x20070034, 12, 6⟩
def BT_FSTAT_FAIL_SLICE : Fld := ⟨0x20070034, 18, 8⟩
def BT_CNT0_RUN : Fld := ⟨0x20070040, 0, 16⟩
def BT_CNT0_FAIL : Fld := ⟨0x20070040, 16, 16⟩
def BT_CNT1_ABANDONED : Fld := ⟨0x20070044, 0, 16⟩
def BT_CNT1_OVERRUN : Fld := ⟨0x20070044, 16, 16⟩
def BT_IMG_ADDR_WORD : Fld := ⟨0x20070050, 0, 21⟩
def BT_IMG_DATA_DATA : Fld := ⟨0x20070054, 0, 32⟩
def BT_LOAD_LOAD : Fld := ⟨0x20070058, 0, 1⟩
def FC_STATUS_STATE_CONFLICT : Fld := ⟨0x20050000, 0, 1⟩
def FC_STATUS_PIN : Fld := ⟨0x20050000, 1, 1⟩
def FC_STATUS_FORCE_BAD : Fld := ⟨0x20050000, 2, 1⟩
def FC_STATUS_L4_PREV : Fld := ⟨0x20050000, 3, 1⟩
def FC_CFG_ERR_LEVEL : Fld := ⟨0x20050004, 0, 3⟩
def FC_CFG_T_L1 : Fld := ⟨0x20050004, 8, 8⟩
def FC_CFG_T_L2 : Fld := ⟨0x20050004, 16, 8⟩
def FC_CFG_T_L3 : Fld := ⟨0x20050004, 24, 8⟩
def FC_ACK_ACK : Fld := ⟨0x20050018, 0, 12⟩
def FC_CLEAR_CLEAR : Fld := ⟨0x2005001C, 0, 12⟩
def FC_FORCE_SRC_FIELD : Fld := ⟨0x20050020, 0, 7⟩
def FC_FORCE_SRC_INDEX : Fld := ⟨0x20050020, 7, 10⟩
def FC_FORCE_SRC_SUB : Fld := ⟨0x20050020, 17, 2⟩
def FC_FORCE_SRC_JOB : Fld := ⟨0x20050020, 19, 12⟩
def FC_FORCE_SRC_JOB_VALID : Fld := ⟨0x20050020, 31, 1⟩
def FC_FORCE_VAL_VALUE : Fld := ⟨0x20050024, 0, 32⟩
def FC_FORCE_CLASS : Fld := ⟨0x20050028, 0, 4⟩
def FC_FORCE_TYPE : Fld := ⟨0x20050028, 4, 8⟩
def FC_FORCE_GO : Fld := ⟨0x20050028, 12, 1⟩
def FC_HQ_HEAD_NEXT : Fld := ⟨0x20050030, 0, 5⟩
def FC_HQ_HEAD_OVER : Fld := ⟨0x20050030, 16, 16⟩
def FC_HQ_TOTAL_TOTAL : Fld := ⟨0x20050034, 0, 32⟩
def FC_CAP_ADDR_ADDR (k : Nat) : Fld := ⟨0x20050100 + k * 0x10, 0, 32⟩
def FC_CAP_INFO_MASTER (k : Nat) : Fld := ⟨0x20050104 + k * 0x10, 0, 4⟩
def FC_CAP_INFO_ACCESS (k : Nat) : Fld := ⟨0x20050104 + k * 0x10, 4, 2⟩
def FC_CAP_INFO_TYPE (k : Nat) : Fld := ⟨0x20050104 + k * 0x10, 6, 8⟩
def FC_CAP_INFO_LEVEL (k : Nat) : Fld := ⟨0x20050104 + k * 0x10, 14, 3⟩
def FC_CAP_INFO_FORCED (k : Nat) : Fld := ⟨0x20050104 + k * 0x10, 17, 1⟩
def FC_CAP_INFO_H (k : Nat) : Fld := ⟨0x20050104 + k * 0x10, 18, 1⟩
def FC_CAP_INFO_VALID (k : Nat) : Fld := ⟨0x20050104 + k * 0x10, 19, 1⟩
def FC_CAP_INFO_MORE (k : Nat) : Fld := ⟨0x20050104 + k * 0x10, 20, 12⟩
def FC_CAP_TS_LO_STAMP (k : Nat) : Fld := ⟨0x20050108 + k * 0x10, 0, 32⟩
def FC_CAP_TS_HI_STAMP (k : Nat) : Fld := ⟨0x2005010C + k * 0x10, 0, 32⟩
def FC_CNT_RECORDS (c : Nat) : Fld := ⟨0x20050200 + c * 0x4, 0, 16⟩
def FC_CNT_ESCALATIONS (c : Nat) : Fld := ⟨0x20050200 + c * 0x4, 16, 16⟩
def FC_HOSTQ_QHANDLE : Fld := ⟨0x20050380, 0, 32⟩
def FC_HPOISON_ROUTING : Fld := ⟨0x20050384, 0, 1⟩
def FC_L4_CLASS : Fld := ⟨0x20050390, 0, 4⟩
def FC_L4_TYPE : Fld := ⟨0x20050390, 4, 8⟩
def FC_L4_FIELD : Fld := ⟨0x20050390, 12, 7⟩
def FC_L4_INDEX : Fld := ⟨0x20050390, 19, 10⟩
def FC_L4_COUNT : Fld := ⟨0x20050390, 29, 2⟩
def FC_L4_VALID : Fld := ⟨0x20050390, 31, 1⟩
def FC_L4_TS_LO_STAMP : Fld := ⟨0x20050394, 0, 32⟩
def FC_L4_TS_HI_STAMP : Fld := ⟨0x20050398, 0, 32⟩
def EV_STATUS_STATE_CONFLICT : Fld := ⟨0x20060000, 0, 1⟩
def EV_STATUS_SCANNED : Fld := ⟨0x20060000, 1, 1⟩
def EV_STATUS_PENDING : Fld := ⟨0x20060000, 2, 1⟩
def EV_STATUS_CLEARING : Fld := ⟨0x20060000, 3, 1⟩
def EV_STATUS_SHUT_DONE : Fld := ⟨0x20060000, 4, 1⟩
def EV_CMD_SHUTDOWN : Fld := ⟨0x20060004, 0, 1⟩
def EV_CMD_CLEAR : Fld := ⟨0x20060004, 1, 1⟩
def EV_CLEAR_KEY_KEY : Fld := ⟨0x20060008, 0, 32⟩
def EV_HOURS_HOURS : Fld := ⟨0x2006000C, 0, 32⟩
def EV_WSEQ_WSEQ : Fld := ⟨0x20060010, 0, 32⟩
def EV_HEAD_SEQ : Fld := ⟨0x20060014, 0, 32⟩
def EV_OLDEST_SEQ : Fld := ⟨0x20060018, 0, 32⟩
def EV_CURSOR_SEQ : Fld := ⟨0x20060020, 0, 32⟩
def EV_WIN_STAT_READY : Fld := ⟨0x20060024, 0, 1⟩
def EV_WIN_STAT_VALID : Fld := ⟨0x20060024, 1, 1⟩
def EV_WIN_STAT_REPEATS : Fld := ⟨0x20060024, 2, 6⟩
def EV_CNT_LOST_SETS : Fld := ⟨0x20060028, 0, 16⟩
def EV_CNT_CRC_BAD : Fld := ⟨0x20060028, 16, 16⟩
def EV_WIN_WORD (k : Nat) : Fld := ⟨0x20060040 + k * 0x4, 0, 32⟩
def ST_AGE_CFG0_KV (f : Nat) : Fld := ⟨stBase f + 0x5000, 0, 4⟩
def ST_AGE_CFG0_KF (f : Nat) : Fld := ⟨stBase f + 0x5000, 16, 12⟩
def ST_AGE_CFG1_KT (f : Nat) : Fld := ⟨stBase f + 0x5004, 0, 8⟩
def ST_AGE_CFG1_MIN_SAMPLES (f : Nat) : Fld := ⟨stBase f + 0x5004, 16, 12⟩
def ST_AGE_REF_FREF (f : Nat) : Fld := ⟨stBase f + 0x5008, 0, 7⟩
def ST_AGE_REF_TREF (f : Nat) : Fld := ⟨stBase f + 0x5008, 16, 11⟩
def ST_AGE_PATCH_TREND (f : Nat) (p : Nat) : Fld := ⟨stBase f + 0x5040 + p * 0x4, 0, 20⟩
def ST_AGE_PATCH_HOURS (f : Nat) (p : Nat) : Fld := ⟨stBase f + 0x5040 + p * 0x4, 20, 8⟩
def ST_AGE_PATCH_DECR (f : Nat) (p : Nat) : Fld := ⟨stBase f + 0x5040 + p * 0x4, 28, 1⟩
def JZ_AGE_CFG_PLAN_PERIOD : Fld := ⟨0x20000500, 0, 20⟩
def JZ_AGE_CFG_DRIFT_TRIG : Fld := ⟨0x20000500, 20, 12⟩
def JZ_SVC_CFG_MIN_FIELDS : Fld := ⟨0x20000504, 0, 7⟩
def JZ_SVC_CFG_RET_SHARE : Fld := ⟨0x20000504, 8, 10⟩
def JZ_AGE_STATUS_RETIRED : Fld := ⟨0x20000508, 0, 12⟩
def JZ_AGE_STATUS_RSEQ : Fld := ⟨0x20000508, 16, 16⟩
def JZ_SVC_STATUS_FIELDS : Fld := ⟨0x2000050C, 0, 1⟩
def JZ_SVC_STATUS_RETIRED : Fld := ⟨0x2000050C, 1, 1⟩
def JZ_SVC_STATUS_RAIL : Fld := ⟨0x2000050C, 2, 1⟩
def JZ_SVC_STATUS_LATCHED : Fld := ⟨0x2000050C, 4, 3⟩
def JZ_SVC_STATUS_REQUEST : Fld := ⟨0x2000050C, 7, 1⟩
def JZ_SVC_STATUS_HEALTHY : Fld := ⟨0x2000050C, 8, 7⟩
def JZ_AGE_CNT_RAISES : Fld := ⟨0x20000510, 0, 16⟩
def JZ_AGE_CNT_PROPOSED : Fld := ⟨0x20000510, 16, 16⟩
def JZ_RET_RET (g : Nat) : Fld := ⟨0x20000600 + g * 0x8, 0, 32⟩
def JZ_ID_NSTEW : Fld := ⟨0x20000000, 0, 8⟩
def JZ_ID_SITE : Fld := ⟨0x20000000, 8, 1⟩
def JZ_ID_REV : Fld := ⟨0x20000000, 16, 16⟩
def JZ_STATUS_KERNEL_OK : Fld := ⟨0x20000004, 0, 1⟩
def JZ_STATUS_READY : Fld := ⟨0x20000004, 1, 1⟩
def JZ_STATUS_LC : Fld := ⟨0x20000004, 2, 2⟩
def JZ_CONFIG_CONFIG_LOCK : Fld := ⟨0x20000008, 0, 1⟩
def JZ_HW_SELF_CTX : Fld := ⟨0x20000010, 0, 3⟩
def JZ_HW_SELF_CORE : Fld := ⟨0x20000010, 3, 1⟩
def JZ_HW_DENY_CNT : Fld := ⟨0x20000014, 0, 16⟩
def JZ_HW_DENY_LAST_CTX : Fld := ⟨0x20000014, 16, 3⟩
def JZ_HW_CTX_ENABLE (k : Nat) : Fld := ⟨0x20000020 + k * 0x4, 0, 1⟩
def JZ_HW_CTX_SYSTEM (k : Nat) : Fld := ⟨0x20000020 + k * 0x4, 1, 1⟩
def JZ_HW_CTX_WEIGHTS (k : Nat) : Fld := ⟨0x20000020 + k * 0x4, 2, 1⟩
def PM_STATUS_ADDR : Fld := ⟨0x200A0000, 0, 7⟩
def PM_STATUS_ALERT : Fld := ⟨0x200A0000, 7, 1⟩
def PM_STATUS_SESSION : Fld := ⟨0x200A0000, 8, 1⟩
def PM_CFG_PEC_REQ : Fld := ⟨0x200A0004, 0, 1⟩
def PM_CFG_ALERT_MASK : Fld := ⟨0x200A0004, 16, 16⟩
def PM_CNT_XFERS : Fld := ⟨0x200A0008, 0, 16⟩
def PM_CNT_PEC_ERR : Fld := ⟨0x200A0008, 16, 16⟩
def PM_LAST_CMD : Fld := ⟨0x200A000C, 0, 8⟩
def PM_LAST_WRITE : Fld := ⟨0x200A000C, 8, 1⟩
def PM_LAST_RESULT : Fld := ⟨0x200A000C, 9, 2⟩
def DB_STATUS_STATE_CONFLICT : Fld := ⟨0x200B0000, 0, 1⟩
def DB_STATUS_ARMED : Fld := ⟨0x200B0000, 1, 1⟩
def DB_STATUS_RUN : Fld := ⟨0x200B0000, 2, 1⟩
def DB_STATUS_DONE : Fld := ⟨0x200B0000, 3, 1⟩
def DB_STATUS_NEXT : Fld := ⟨0x200B0000, 4, 10⟩
def DB_TR_CFG_FIELD : Fld := ⟨0x200B0004, 0, 7⟩
def DB_TR_CFG_DOMAIN : Fld := ⟨0x200B0004, 7, 2⟩
def DB_TR_CFG_WRAP : Fld := ⟨0x200B0004, 9, 1⟩
def DB_TR_AT_LO_AT_L : Fld := ⟨0x200B0008, 0, 32⟩
def DB_TR_AT_HI_AT_H : Fld := ⟨0x200B000C, 0, 20⟩
def DB_TR_CMD_ARM : Fld := ⟨0x200B0010, 0, 1⟩
def DB_TR_CMD_STOP : Fld := ⟨0x200B0010, 1, 1⟩
def DB_FCNT_HELD_PICKS (g : Nat) : Fld := ⟨0x200B0100 + g * 0x10, 0, 32⟩
def DB_FCNT_EMERG_PICKS (g : Nat) : Fld := ⟨0x200B0104 + g * 0x10, 0, 32⟩
def DB_FCNT_STRETCH_PICKS (g : Nat) : Fld := ⟨0x200B0108 + g * 0x10, 0, 32⟩
def DB_FCNT_MARKS (g : Nat) : Fld := ⟨0x200B010C + g * 0x10, 0, 32⟩
def DB_TR_PICK (k : Nat) : Fld := ⟨0x200B4000 + k * 0x10, 0, 32⟩
def DB_TR_IOUT (k : Nat) : Fld := ⟨0x200B4004 + k * 0x10, 0, 12⟩
def DB_TR_VID (k : Nat) : Fld := ⟨0x200B4004 + k * 0x10, 12, 8⟩
def DB_TR_STATE (k : Nat) : Fld := ⟨0x200B4004 + k * 0x10, 20, 2⟩
def DB_TR_STRETCH (k : Nat) : Fld := ⟨0x200B4004 + k * 0x10, 22, 3⟩
def DB_TR_G_EFF (k : Nat) : Fld := ⟨0x200B4008 + k * 0x10, 0, 16⟩
def DB_TR_I_REF (k : Nat) : Fld := ⟨0x200B4008 + k * 0x10, 16, 12⟩
def DB_TR_HELD (k : Nat) : Fld := ⟨0x200B400C + k * 0x10, 0, 8⟩
def DB_TR_FMIN (k : Nat) : Fld := ⟨0x200B400C + k * 0x10, 8, 7⟩

/-! Fields that a register map gives by an index inside the register, and buffer words. -/

def TB_ACT_STATE_SLOT (i : Nat) : Fld := ⟨0x20010038, 2 * i, 2⟩
def PS_DD_CAL_CAL (f : Nat) (p : Nat) (i : Nat) : Fld := ⟨psBase f p + 0x2C, 8 * i, 6⟩
def PS_DD_DEPTH_DEPTH (f : Nat) (p : Nat) (i : Nat) : Fld := ⟨psBase f p + 0x28, 8 * i, 6⟩
def PS_DD_FLOOR_FLOOR (f : Nat) (p : Nat) (i : Nat) : Fld := ⟨psBase f p + 0x24, 6 * i, 6⟩
def PS_TS_HEALTH_SUSPECT (f : Nat) (p : Nat) (t : Nat) : Fld := ⟨psBase f p + 0x0C, t, 1⟩
def PS_TS_HEALTH_CNT (f : Nat) (p : Nat) (t : Nat) : Fld := ⟨psBase f p + 0x0C, 2 + 3 * t, 3⟩
def PS_TS_HEALTH_ISOLATED (f : Nat) (p : Nat) (t : Nat) : Fld := ⟨psBase f p + 0x0C, 8 + t, 1⟩
def PS_TS_TRIM_OFS (f : Nat) (p : Nat) (t : Nat) : Fld := ⟨psBase f p + 0x10, 16 * t, 8⟩
def PS_TS_TRIM_GAIN (f : Nat) (p : Nat) (t : Nat) : Fld := ⟨psBase f p + 0x10, 16 * t + 8, 8⟩
def ST_BUD_LEND_ROW (f : Nat) (a : Nat) : Fld := ⟨stBase f + 0x100C + a / 4 * 4, 8 * (a % 4), 8⟩
def ST_BUD_STATUS_HELDc (f : Nat) (c : Nat) : Fld := ⟨stBase f + 0x1000, c, 1⟩
def CE_CHAIN_SLOT (f : Nat) (n : Nat) (k : Nat) : Fld := ⟨ceBase f + 0x2100 + n * 0x40, 3 + 5 * k, 5⟩
def CE_MODEL_MSLOT (f : Nat) (n : Nat) (k : Nat) : Fld := ⟨ceBase f + 0x2110 + n * 0x40, 3 + 5 * k, 5⟩
def CE_FROZEN_BIT (f : Nat) (i : Nat) : Fld := ⟨ceBase f + 0x2004 + i / 32 * 4, i % 32, 1⟩
def CE_SAT_BIT (f : Nat) (i : Nat) : Fld := ⟨ceBase f + 0x200C + i / 32 * 4, i % 32, 1⟩
def CE_STATUS_NOLAW_BIT (f : Nat) (n : Nat) : Fld := ⟨ceBase f + 0x2000, 1 + n, 1⟩
def CE_STATUS_NOMODEL_BIT (f : Nat) (n : Nat) : Fld := ⟨ceBase f + 0x2000, 4 + n, 1⟩
def BU_CE_INST_OUT_U : Fld := ⟨0x20038C08, 0, 18⟩
def BU_CE_REARM_REARM : Fld := ⟨0x20038C40, 0, 1⟩
def BU_CE_REARM_STATE_CONFLICT : Fld := ⟨0x20038C40, 1, 1⟩
def BU_CE_UNEXT_U_NEXT : Fld := ⟨0x20038C4C, 0, 18⟩
def ST_MEM_ZONE (f : Nat) (k : Nat) : Fld := ⟨stBase f + 0x4014 + k / 16 * 4, 2 * (k % 16), 2⟩
def ST_MEM_MR4MAP (f : Nat) (c : Nat) : Fld := ⟨stBase f + 0x401C + c / 16 * 4, 2 * (c % 16), 2⟩
def ST_TH_TRIP (f : Nat) (p : Nat) : Fld := ⟨stBase f + 0x4000 + p / 32 * 4, p % 32, 1⟩
def ST_RSV (f : Nat) (p : Nat) : Fld := ⟨stBase f + 0x3000 + p / 32 * 4, p % 32, 1⟩
def ST_RSV_BUSY (f : Nat) (p : Nat) : Fld := ⟨stBase f + 0x3008 + p / 32 * 4, p % 32, 1⟩
def JZ_RET (g : Nat) (p : Nat) : Fld := ⟨0x20000600 + g * 8 + p / 32 * 4, p % 32, 1⟩
def JZ_OPT_OUT_ENGINE (e : Nat) : Fld := ⟨0x20000434, e, 1⟩
def LG_RP_CNT (k : Nat) : Fld := ⟨0x20041020 + k / 2 * 4, 16 * (k % 2), 16⟩
def LG_EVT (k : Nat) : Fld := ⟨0x20040044 + k / 2 * 4, 16 * (k % 2), 16⟩
def ST_HINT_DROP (f : Nat) (k : Nat) : Fld := ⟨stBase f + 0x1104 + k / 2 * 4, 16 * (k % 2), 16⟩
def CK_GATE_EN (b : Nat) : Fld := ⟨0x20020020, b, 1⟩
def CK_GATE_STAT_OPEN_BIT (b : Nat) : Fld := ⟨0x20020024, b, 1⟩
def CK_GATE_STAT_QUIESCE_BIT (b : Nat) : Fld := ⟨0x20020024, 16 + b, 1⟩
def BT_PASS_FIELD (g : Nat) : Fld := ⟨0x20070020 + g / 32 * 4, g % 32, 1⟩
def FC_STATE_LEVEL (c : Nat) : Fld := ⟨0x20050008 + c / 8 * 4, 4 * (c % 8), 3⟩
def FC_STATE_ACKED (c : Nat) : Fld := ⟨0x20050008 + c / 8 * 4, 4 * (c % 8) + 3, 1⟩
def FC_UNCLR_MAX (c : Nat) : Fld := ⟨0x20050010 + c / 8 * 4, 4 * (c % 8), 3⟩
def FC_UNCLR_ANY (c : Nat) : Fld := ⟨0x20050010 + c / 8 * 4, 4 * (c % 8) + 3, 1⟩
def FC_LVL (c : Nat) (t : Nat) : Fld := ⟨0x20050300 + c * 8 + t / 8 * 4, 3 * (t % 8), 3⟩
def FC_HQ_WORD (e : Nat) (k : Nat) : Fld := ⟨0x20050400 + e * 0x20 + k * 4, 0, 32⟩
def LG_WATCH_WORD (e : Nat) (k : Nat) : Fld := ⟨0x20041800 + e * 0x20 + k * 4, 0, 32⟩
def BU_ADM_BUF_WORD (k : Nat) : Fld := ⟨0x20030800 + k * 4, 0, 32⟩
def PP_TX_BUF_WORD (k : Nat) : Fld := ⟨0x20080800 + k * 4, 0, 32⟩
def NV_SIG_BUF_WORD (k : Nat) : Fld := ⟨0x20090100 + k * 4, 0, 32⟩
def BT_PAT_WORD (k : Nat) : Fld := ⟨0x20071000 + k * 4, 0, 32⟩
def PP_PEER_WORD (k : Nat) : Fld := ⟨0x20080080 + k * 4, 0, 32⟩
def JZ_JOB_OWN_OWNER (j : Nat) : Fld := ⟨0x20000040 + j / 8 * 4, 4 * (j % 8), 3⟩
def JZ_JOB_OWN_VALID (j : Nat) : Fld := ⟨0x20000040 + j / 8 * 4, 4 * (j % 8) + 3, 1⟩

end Sys2Proof.Machine
end

