-- ==== Sys2Proof/Machine/RegMap.lean ====
section
/-! DEFINITION. The register map: for every register of R19's blocks its fields with access type (R16) and reset value,
as the register tables of spec/01 to spec/17 give them, and the word each register holds at reset. -/

namespace Sys2Proof.Machine

/-- R16: access types. -/
inductive Acc where
  | ro | rw | w1c | w1s | wo | rwl
  deriving DecidableEq, Repr

/-- One field of a register table: lowest bit, width, access type, reset value. -/
structure FldRow where
  lo : Nat
  w : Nat
  acc : Acc
  reset : Nat
  deriving DecidableEq, Repr

/-- One row of a register map: offset in its block, the (stride, count) of each index, largest stride first, and the fields. -/
structure RegRow where
  off : Nat
  dims : List (Nat × Nat)
  fields : List FldRow
  deriving DecidableEq, Repr

/-- Which block of R19 a register lies in. -/
inductive Blk where
  | jz | tb | ck | bu | lg | fc | ev | bt | pp | nv | pm | db | st | ce | ps
  deriving DecidableEq, Repr

def rowsJZ0 : List RegRow := [
  ⟨0x0, [], [⟨0, 8, .ro, 96⟩, ⟨8, 1, .ro, 0⟩, ⟨16, 16, .ro, 0⟩]⟩,
  ⟨0x4, [], [⟨0, 1, .ro, 0⟩, ⟨1, 1, .ro, 0⟩, ⟨2, 2, .ro, 0⟩]⟩,
  ⟨0x8, [], [⟨0, 1, .w1s, 0⟩]⟩,
  ⟨0x10, [], [⟨0, 3, .ro, 0⟩, ⟨3, 1, .ro, 0⟩]⟩,
  ⟨0x14, [], [⟨0, 16, .w1c, 0⟩, ⟨16, 3, .ro, 0⟩]⟩,
  ⟨0x20, [(0x4, 8)], [⟨0, 1, .rwl, 0⟩, ⟨1, 1, .rwl, 0⟩, ⟨2, 1, .rwl, 0⟩]⟩,
  ⟨0x40, [(0x4, 8)], [⟨0, 32, .ro, 0⟩]⟩,
  ⟨0x400, [], [⟨0, 3, .ro, 0⟩, ⟨3, 1, .ro, 0⟩, ⟨4, 1, .ro, 0⟩, ⟨5, 1, .ro, 0⟩, ⟨6, 1, .ro, 0⟩, ⟨7, 1, .ro, 0⟩, ⟨8, 1, .w1c, 0⟩, ⟨9, 1, .ro, 0⟩]⟩,
  ⟨0x404, [], [⟨0, 11, .rwl, 760⟩, ⟨16, 8, .rwl, 112⟩, ⟨24, 8, .rwl, 80⟩]⟩,
  ⟨0x408, [], [⟨0, 16, .rwl, 5000⟩, ⟨16, 16, .rwl, 100⟩]⟩,
  ⟨0x40C, [], [⟨0, 16, .rwl, 1000⟩, ⟨16, 4, .rwl, 3⟩, ⟨20, 12, .rwl, 100⟩]⟩,
  ⟨0x410, [], [⟨0, 16, .ro, 0⟩, ⟨16, 16, .ro, 0⟩]⟩]
def rowsJZ1 : List RegRow := [
  ⟨0x414, [], [⟨0, 7, .ro, 0⟩, ⟨8, 6, .ro, 0⟩, ⟨14, 1, .ro, 0⟩, ⟨15, 1, .ro, 0⟩, ⟨24, 8, .ro, 0⟩]⟩,
  ⟨0x418, [], [⟨12, 20, .ro, 0⟩, ⟨0, 12, .ro, 0⟩]⟩,
  ⟨0x41C, [], [⟨0, 32, .ro, 0⟩]⟩,
  ⟨0x420, [], [⟨0, 1, .wo, 0⟩]⟩,
  ⟨0x430, [], [⟨0, 8, .rwl, 30⟩, ⟨8, 8, .rwl, 80⟩, ⟨16, 4, .rwl, 2⟩]⟩,
  ⟨0x434, [], [⟨0, 24, .ro, 0⟩]⟩,
  ⟨0x500, [], [⟨0, 20, .rwl, 100000⟩, ⟨20, 12, .rwl, 128⟩]⟩,
  ⟨0x504, [], [⟨0, 7, .rwl, 88⟩, ⟨8, 10, .rwl, 16⟩]⟩,
  ⟨0x508, [], [⟨0, 12, .ro, 0⟩, ⟨16, 16, .ro, 0⟩]⟩,
  ⟨0x50C, [], [⟨0, 1, .ro, 0⟩, ⟨1, 1, .ro, 0⟩, ⟨2, 1, .ro, 0⟩, ⟨4, 3, .ro, 0⟩, ⟨7, 1, .ro, 0⟩, ⟨8, 7, .ro, 0⟩]⟩,
  ⟨0x510, [], [⟨0, 16, .w1c, 0⟩, ⟨16, 16, .w1c, 0⟩]⟩,
  ⟨0x600, [(0x8, 96)], [⟨0, 32, .ro, 0⟩]⟩]
def rowsJZ2 : List RegRow := [
  ⟨0x604, [(0x8, 96)], [⟨0, 4, .ro, 0⟩]⟩]
/-- Register map of the JZ_ block. -/
def rowsJZ : List RegRow := rowsJZ0 ++ rowsJZ1 ++ rowsJZ2

def rowsTB0 : List RegRow := [
  ⟨0x0, [], [⟨0, 3, .ro, 0⟩, ⟨3, 1, .ro, 0⟩, ⟨4, 1, .ro, 0⟩, ⟨5, 1, .ro, 0⟩, ⟨6, 1, .w1c, 0⟩, ⟨7, 1, .ro, 0⟩, ⟨8, 1, .w1c, 0⟩, ⟨9, 1, .w1c, 0⟩, ⟨10, 1, .ro, 0⟩, ⟨11, 1, .ro, 0⟩, ⟨12, 1, .ro, 0⟩]⟩,
  ⟨0x4, [], [⟨12, 20, .ro, 0⟩, ⟨0, 12, .ro, 0⟩]⟩,
  ⟨0x8, [], [⟨0, 32, .ro, 0⟩]⟩,
  ⟨0xC, [], [⟨0, 1, .ro, 0⟩]⟩,
  ⟨0x10, [], [⟨0, 32, .ro, 0⟩]⟩,
  ⟨0x14, [], [⟨0, 32, .ro, 0⟩]⟩,
  ⟨0x18, [], [⟨0, 32, .w1c, 0⟩]⟩,
  ⟨0x20, [], [⟨0, 4, .rw, 0⟩]⟩,
  ⟨0x24, [], [⟨0, 32, .rw, 0⟩]⟩,
  ⟨0x28, [], [⟨0, 32, .rw, 0⟩]⟩,
  ⟨0x2C, [], [⟨0, 32, .rw, 0⟩]⟩,
  ⟨0x30, [], [⟨0, 20, .rw, 0⟩]⟩]
def rowsTB1 : List RegRow := [
  ⟨0x34, [], [⟨0, 1, .wo, 0⟩, ⟨1, 1, .wo, 0⟩, ⟨2, 1, .wo, 0⟩]⟩,
  ⟨0x38, [], [⟨0, 32, .ro, 0⟩]⟩,
  ⟨0x40, [], [⟨0, 32, .rw, 0⟩]⟩,
  ⟨0x44, [], [⟨0, 20, .rw, 0⟩]⟩,
  ⟨0x48, [], [⟨0, 32, .rw, 0⟩]⟩,
  ⟨0x4C, [], [⟨0, 20, .rw, 0⟩]⟩,
  ⟨0x50, [], [⟨0, 1, .wo, 0⟩, ⟨1, 1, .wo, 0⟩, ⟨2, 1, .wo, 0⟩]⟩]
/-- Register map of the TB_ block. -/
def rowsTB : List RegRow := rowsTB0 ++ rowsTB1

def rowsCK0 : List RegRow := [
  ⟨0x0, [], [⟨0, 3, .ro, 0⟩, ⟨3, 1, .ro, 0⟩, ⟨4, 1, .ro, 0⟩, ⟨5, 1, .ro, 0⟩, ⟨6, 1, .ro, 0⟩, ⟨7, 1, .ro, 1⟩, ⟨8, 1, .ro, 1⟩, ⟨9, 1, .w1c, 0⟩]⟩,
  ⟨0x4, [], [⟨0, 1, .rwl, 1⟩, ⟨8, 8, .rwl, 100⟩]⟩,
  ⟨0x8, [], [⟨0, 12, .rwl, 256⟩, ⟨16, 12, .rwl, 611⟩]⟩,
  ⟨0xC, [], [⟨0, 1, .wo, 0⟩]⟩,
  ⟨0x10, [], [⟨0, 16, .w1c, 0⟩, ⟨16, 16, .w1c, 0⟩]⟩,
  ⟨0x14, [], [⟨0, 2, .ro, 0⟩, ⟨2, 1, .ro, 0⟩, ⟨3, 1, .ro, 0⟩]⟩,
  ⟨0x18, [], [⟨0, 32, .ro, 0⟩]⟩,
  ⟨0x20, [], [⟨0, 1, .ro, 1⟩, ⟨1, 1, .ro, 1⟩, ⟨2, 1, .ro, 1⟩, ⟨3, 1, .rw, 1⟩, ⟨4, 1, .rw, 1⟩, ⟨5, 1, .ro, 1⟩, ⟨6, 1, .rw, 1⟩, ⟨7, 1, .rw, 1⟩, ⟨8, 1, .rw, 1⟩, ⟨9, 1, .rw, 1⟩, ⟨10, 1, .rw, 1⟩, ⟨11, 1, .rw, 1⟩]⟩,
  ⟨0x24, [], [⟨0, 12, .ro, 4095⟩, ⟨16, 12, .ro, 0⟩]⟩,
  ⟨0x30, [], [⟨0, 1, .rw, 0⟩, ⟨1, 3, .rw, 0⟩, ⟨16, 16, .rw, 0⟩]⟩,
  ⟨0x34, [], [⟨0, 7, .rw, 0⟩, ⟨8, 6, .rw, 0⟩]⟩,
  ⟨0x38, [], [⟨0, 1, .ro, 0⟩, ⟨1, 1, .ro, 0⟩, ⟨2, 1, .ro, 0⟩]⟩]
/-- Register map of the CK_ block. -/
def rowsCK : List RegRow := rowsCK0

def rowsBU0 : List RegRow := [
  ⟨0x0, [], [⟨0, 1, .w1c, 0⟩, ⟨1, 1, .w1c, 0⟩, ⟨2, 1, .ro, 0⟩, ⟨3, 1, .ro, 0⟩, ⟨4, 1, .ro, 0⟩]⟩,
  ⟨0x4, [], [⟨0, 16, .ro, 560⟩, ⟨16, 2, .ro, 0⟩]⟩,
  ⟨0x8, [], [⟨0, 16, .ro, 560⟩, ⟨16, 16, .ro, 560⟩]⟩,
  ⟨0xC, [], [⟨0, 16, .rwl, 120⟩, ⟨16, 16, .rwl, 560⟩]⟩,
  ⟨0x10, [], [⟨0, 18, .rwl, 6400⟩]⟩,
  ⟨0x14, [], [⟨0, 18, .ro, 0⟩]⟩,
  ⟨0x18, [], [⟨0, 12, .rwl, 3168⟩, ⟨16, 16, .rwl, 9600⟩]⟩,
  ⟨0x20, [], [⟨0, 32, .ro, 0⟩]⟩,
  ⟨0x24, [], [⟨0, 32, .ro, 0⟩]⟩,
  ⟨0x100, [(0x4, 96)], [⟨0, 9, .rw, 256⟩, ⟨15, 1, .ro, 0⟩, ⟨16, 12, .ro, 0⟩]⟩,
  ⟨0x400, [], [⟨0, 2, .wo, 0⟩, ⟨4, 12, .wo, 0⟩]⟩,
  ⟨0x404, [], [⟨0, 2, .ro, 0⟩, ⟨2, 1, .ro, 0⟩, ⟨3, 1, .ro, 0⟩, ⟨4, 4, .ro, 0⟩, ⟨8, 7, .ro, 0⟩, ⟨16, 16, .ro, 0⟩]⟩]
def rowsBU1 : List RegRow := [
  ⟨0x600, [(0x4, 64)], [⟨0, 12, .ro, 0⟩, ⟨12, 1, .ro, 0⟩, ⟨13, 1, .ro, 0⟩, ⟨14, 4, .ro, 0⟩, ⟨18, 7, .ro, 0⟩, ⟨25, 7, .ro, 0⟩]⟩,
  ⟨0x800, [(0x4, 128)], [⟨0, 32, .rw, 0⟩]⟩,
  ⟨0xA00, [], [⟨0, 16, .rwl, 400⟩, ⟨16, 4, .rwl, 4⟩]⟩,
  ⟨0xA04, [], [⟨0, 4, .rwl, 5⟩, ⟨4, 1, .rwl, 1⟩, ⟨8, 5, .rwl, 4⟩, ⟨16, 7, .rwl, 24⟩]⟩,
  ⟨0xA08, [], [⟨0, 6, .ro, 0⟩, ⟨6, 1, .ro, 0⟩, ⟨8, 4, .ro, 0⟩, ⟨16, 16, .w1c, 0⟩]⟩,
  ⟨0xA0C, [], [⟨0, 16, .ro, 0⟩, ⟨16, 5, .ro, 1⟩]⟩,
  ⟨0xA40, [(0x8, 32)], [⟨0, 16, .ro, 0⟩, ⟨16, 1, .ro, 0⟩, ⟨17, 5, .ro, 0⟩, ⟨22, 5, .ro, 0⟩, ⟨27, 5, .ro, 0⟩]⟩,
  ⟨0xA44, [(0x8, 32)], [⟨0, 9, .ro, 0⟩]⟩,
  ⟨0xC00, [(0x8, 32)], [⟨0, 16, .ro, 0⟩, ⟨16, 12, .ro, 0⟩, ⟨28, 1, .ro, 0⟩, ⟨29, 1, .ro, 0⟩, ⟨30, 1, .ro, 0⟩]⟩,
  ⟨0xC04, [(0x8, 32)], [⟨0, 7, .ro, 0⟩, ⟨8, 7, .ro, 0⟩, ⟨16, 7, .ro, 0⟩]⟩,
  ⟨0x8000, [(0x100, 8), (0x20, 8)], [⟨0, 32, .rwl, 0⟩]⟩,
  ⟨0x8004, [(0x100, 8), (0x20, 8)], [⟨0, 32, .rwl, 0⟩]⟩]
def rowsBU2 : List RegRow := [
  ⟨0x8008, [(0x100, 8), (0x20, 8)], [⟨0, 32, .rwl, 0⟩]⟩,
  ⟨0x800C, [(0x100, 8), (0x20, 8)], [⟨0, 32, .rwl, 0⟩]⟩,
  ⟨0x8010, [(0x100, 8), (0x20, 8)], [⟨0, 32, .rwl, 0⟩]⟩,
  ⟨0x8014, [(0x100, 8), (0x20, 8)], [⟨0, 5, .rwl, 0⟩, ⟨5, 5, .rwl, 0⟩, ⟨10, 5, .rwl, 0⟩, ⟨15, 5, .rwl, 0⟩, ⟨20, 5, .rwl, 0⟩]⟩,
  ⟨0x8018, [(0x100, 8), (0x20, 8)], [⟨0, 32, .ro, 0⟩]⟩,
  ⟨0x801C, [(0x100, 8), (0x20, 8)], [⟨0, 32, .ro, 0⟩]⟩,
  ⟨0x8800, [], [⟨0, 3, .rwl, 0⟩, ⟨3, 5, .rwl, 0⟩, ⟨8, 5, .rwl, 0⟩, ⟨13, 5, .rwl, 0⟩, ⟨18, 5, .rwl, 0⟩]⟩,
  ⟨0x8804, [], [⟨0, 5, .rwl, 0⟩, ⟨5, 5, .rwl, 0⟩, ⟨10, 5, .rwl, 0⟩, ⟨16, 5, .rwl, 0⟩]⟩,
  ⟨0x8808, [], [⟨0, 16, .rwl, 0⟩, ⟨16, 16, .rwl, 0⟩]⟩,
  ⟨0x880C, [], [⟨0, 16, .rwl, 0⟩]⟩,
  ⟨0x8810, [], [⟨0, 2, .rwl, 0⟩, ⟨2, 1, .rwl, 0⟩, ⟨3, 5, .rwl, 0⟩, ⟨8, 5, .rwl, 0⟩, ⟨16, 5, .rwl, 0⟩, ⟨24, 5, .rwl, 0⟩]⟩,
  ⟨0x8814, [], [⟨0, 16, .rwl, 9830⟩]⟩,
  ⟨0x8818, [], [⟨0, 32, .rwl, 0⟩]⟩,
  ⟨0x881C, [], [⟨0, 16, .rwl, 61440⟩]⟩]
def rowsBU3 : List RegRow := [
  ⟨0x8C00, [], [⟨0, 1, .ro, 0⟩, ⟨1, 1, .w1c, 0⟩, ⟨2, 1, .ro, 0⟩, ⟨3, 1, .ro, 0⟩, ⟨4, 5, .ro, 0⟩, ⟨9, 3, .ro, 0⟩, ⟨12, 1, .ro, 0⟩]⟩,
  ⟨0x8C04, [], [⟨0, 32, .ro, 0⟩]⟩,
  ⟨0x8C08, [], [⟨0, 18, .ro, 0⟩]⟩,
  ⟨0x8C0C, [], [⟨0, 32, .ro, 0⟩]⟩,
  ⟨0x8C10, [(0x8, 4)], [⟨0, 32, .ro, 0⟩]⟩,
  ⟨0x8C14, [(0x8, 4)], [⟨0, 32, .ro, 0⟩]⟩,
  ⟨0x8C30, [(0x8, 2)], [⟨0, 32, .ro, 0⟩]⟩,
  ⟨0x8C34, [(0x8, 2)], [⟨0, 32, .ro, 0⟩]⟩,
  ⟨0x8C40, [], [⟨0, 1, .wo, 0⟩, ⟨1, 1, .w1c, 0⟩]⟩,
  ⟨0x8C44, [], [⟨0, 8, .rwl, 80⟩, ⟨8, 8, .rwl, 8⟩, ⟨16, 4, .rwl, 4⟩]⟩,
  ⟨0x8C48, [], [⟨0, 8, .rwl, 60⟩, ⟨8, 8, .rwl, 90⟩, ⟨16, 8, .rwl, 120⟩]⟩,
  ⟨0x8C4C, [], [⟨0, 18, .ro, 0⟩]⟩]
/-- Register map of the BU_ block. -/
def rowsBU : List RegRow := rowsBU0 ++ rowsBU1 ++ rowsBU2 ++ rowsBU3

def rowsLG0 : List RegRow := [
  ⟨0x0, [], [⟨0, 1, .w1c, 0⟩, ⟨1, 1, .ro, 0⟩, ⟨2, 1, .ro, 0⟩]⟩,
  ⟨0x4, [], [⟨0, 8, .rwl, 2⟩, ⟨8, 4, .rwl, 1⟩, ⟨16, 16, .rwl, 8192⟩]⟩,
  ⟨0x8, [], [⟨0, 16, .rwl, 50⟩, ⟨16, 8, .rwl, 64⟩]⟩,
  ⟨0xC, [], [⟨0, 17, .ro, 65536⟩]⟩,
  ⟨0x10, [], [⟨0, 17, .w1c, 65536⟩]⟩,
  ⟨0x20, [(0x4, 8)], [⟨0, 17, .ro, 0⟩]⟩,
  ⟨0x40, [], [⟨0, 17, .ro, 0⟩]⟩,
  ⟨0x44, [], [⟨0, 16, .w1c, 0⟩, ⟨16, 16, .w1c, 0⟩]⟩,
  ⟨0x48, [], [⟨0, 16, .w1c, 0⟩, ⟨16, 16, .w1c, 0⟩]⟩,
  ⟨0x4C, [], [⟨0, 16, .w1c, 0⟩, ⟨16, 16, .w1c, 0⟩]⟩,
  ⟨0x50, [], [⟨0, 16, .w1c, 0⟩, ⟨16, 16, .w1c, 0⟩]⟩,
  ⟨0x60, [], [⟨0, 16, .rw, 0⟩]⟩]
def rowsLG1 : List RegRow := [
  ⟨0x80, [(0x4, 16)], [⟨0, 32, .ro, 0⟩]⟩,
  ⟨0xC0, [], [⟨0, 32, .rw, 0⟩]⟩,
  ⟨0xC4, [], [⟨0, 2, .wo, 0⟩, ⟨16, 16, .wo, 0⟩]⟩,
  ⟨0x400, [(0x10, 64)], [⟨0, 12, .ro, 0⟩, ⟨12, 1, .ro, 0⟩]⟩,
  ⟨0x404, [(0x10, 64)], [⟨0, 32, .rw, 0⟩]⟩,
  ⟨0x408, [(0x10, 64)], [⟨0, 32, .ro, 0⟩]⟩,
  ⟨0x40C, [(0x10, 64)], [⟨0, 4, .ro, 0⟩, ⟨16, 16, .ro, 0⟩]⟩,
  ⟨0x1000, [], [⟨0, 1, .w1c, 0⟩, ⟨1, 1, .ro, 0⟩, ⟨2, 1, .ro, 0⟩, ⟨16, 11, .ro, 0⟩]⟩,
  ⟨0x1004, [], [⟨0, 8, .rwl, 4⟩, ⟨8, 8, .rwl, 8⟩, ⟨16, 16, .rwl, 1000⟩]⟩,
  ⟨0x1008, [], [⟨0, 4, .rwl, 3⟩, ⟨4, 12, .rwl, 1000⟩, ⟨16, 5, .rwl, 16⟩]⟩,
  ⟨0x100C, [], [⟨0, 32, .ro, 0⟩]⟩,
  ⟨0x1010, [], [⟨0, 32, .rw, 0⟩]⟩]
def rowsLG2 : List RegRow := [
  ⟨0x1020, [], [⟨0, 16, .w1c, 0⟩, ⟨16, 16, .w1c, 0⟩]⟩,
  ⟨0x1024, [], [⟨0, 16, .w1c, 0⟩, ⟨16, 16, .w1c, 0⟩]⟩,
  ⟨0x1028, [], [⟨0, 16, .w1c, 0⟩, ⟨16, 16, .w1c, 0⟩]⟩,
  ⟨0x102C, [], [⟨0, 16, .w1c, 0⟩, ⟨16, 16, .w1c, 0⟩]⟩,
  ⟨0x1030, [], [⟨0, 16, .w1c, 0⟩, ⟨16, 16, .w1c, 0⟩]⟩,
  ⟨0x1040, [], [⟨0, 10, .rw, 0⟩]⟩,
  ⟨0x1080, [(0x4, 16)], [⟨0, 32, .ro, 0⟩]⟩,
  ⟨0x1100, [], [⟨0, 7, .wo, 0⟩, ⟨8, 6, .wo, 0⟩]⟩,
  ⟨0x1104, [], [⟨0, 4, .ro, 0⟩, ⟨4, 1, .ro, 0⟩, ⟨5, 1, .ro, 0⟩, ⟨6, 7, .ro, 0⟩, ⟨13, 6, .ro, 0⟩]⟩,
  ⟨0x1400, [(0x4, 64)], [⟨0, 5, .rw, 0⟩, ⟨16, 16, .w1c, 0⟩]⟩,
  ⟨0x1800, [(0x20, 16)], [⟨0, 12, .ro, 0⟩, ⟨12, 1, .w1c, 0⟩, ⟨13, 19, .ro, 0⟩]⟩,
  ⟨0x1804, [(0x20, 16), (0x4, 7)], [⟨0, 32, .ro, 0⟩]⟩]
def rowsLG3 : List RegRow := [
  ⟨0x1A00, [], [⟨0, 4, .ro, 0⟩, ⟨16, 16, .w1c, 0⟩]⟩]
/-- Register map of the LG_ block. -/
def rowsLG : List RegRow := rowsLG0 ++ rowsLG1 ++ rowsLG2 ++ rowsLG3

def rowsFC0 : List RegRow := [
  ⟨0x0, [], [⟨0, 1, .w1c, 0⟩, ⟨1, 1, .ro, 1⟩, ⟨2, 1, .w1c, 0⟩, ⟨3, 1, .ro, 0⟩]⟩,
  ⟨0x4, [], [⟨0, 3, .rwl, 1⟩, ⟨8, 8, .rwl, 20⟩, ⟨16, 8, .rwl, 5⟩, ⟨24, 8, .rwl, 1⟩]⟩,
  ⟨0x8, [], [⟨0, 32, .ro, 0⟩]⟩,
  ⟨0xC, [], [⟨0, 16, .ro, 0⟩]⟩,
  ⟨0x10, [], [⟨0, 32, .ro, 0⟩]⟩,
  ⟨0x14, [], [⟨0, 16, .ro, 0⟩]⟩,
  ⟨0x18, [], [⟨0, 12, .wo, 0⟩]⟩,
  ⟨0x1C, [], [⟨0, 12, .wo, 0⟩]⟩,
  ⟨0x20, [], [⟨0, 7, .rw, 127⟩, ⟨7, 10, .rw, 0⟩, ⟨17, 2, .rw, 0⟩, ⟨19, 12, .rw, 0⟩, ⟨31, 1, .rw, 0⟩]⟩,
  ⟨0x24, [], [⟨0, 32, .rw, 0⟩]⟩,
  ⟨0x28, [], [⟨0, 4, .wo, 0⟩, ⟨4, 8, .wo, 0⟩, ⟨12, 1, .wo, 0⟩]⟩,
  ⟨0x30, [], [⟨0, 5, .ro, 0⟩, ⟨16, 16, .w1c, 0⟩]⟩]
def rowsFC1 : List RegRow := [
  ⟨0x34, [], [⟨0, 32, .ro, 0⟩]⟩,
  ⟨0x100, [(0x10, 6)], [⟨0, 32, .ro, 0⟩]⟩,
  ⟨0x104, [(0x10, 6)], [⟨0, 4, .ro, 15⟩, ⟨4, 2, .ro, 0⟩, ⟨6, 8, .ro, 0⟩, ⟨14, 3, .ro, 0⟩, ⟨17, 1, .ro, 0⟩, ⟨18, 1, .ro, 0⟩, ⟨19, 1, .ro, 0⟩, ⟨20, 12, .ro, 0⟩]⟩,
  ⟨0x108, [(0x10, 6)], [⟨0, 32, .ro, 0⟩]⟩,
  ⟨0x10C, [(0x10, 6)], [⟨0, 32, .ro, 0⟩]⟩,
  ⟨0x200, [(0x4, 12)], [⟨0, 16, .w1c, 0⟩, ⟨16, 16, .w1c, 0⟩]⟩,
  ⟨0x300, [(0x8, 12)], [⟨0, 3, .rwl, 0⟩, ⟨3, 3, .rwl, 0⟩, ⟨6, 3, .rwl, 0⟩, ⟨9, 3, .rwl, 0⟩, ⟨12, 3, .rwl, 0⟩, ⟨15, 3, .rwl, 0⟩, ⟨18, 3, .rwl, 0⟩, ⟨21, 3, .rwl, 0⟩]⟩,
  ⟨0x304, [(0x8, 12)], [⟨0, 3, .rwl, 0⟩, ⟨3, 3, .rwl, 0⟩, ⟨6, 3, .rwl, 0⟩, ⟨9, 3, .rwl, 0⟩, ⟨12, 3, .rwl, 0⟩, ⟨15, 3, .rwl, 0⟩, ⟨18, 3, .rwl, 0⟩, ⟨21, 3, .rwl, 0⟩]⟩,
  ⟨0x380, [], [⟨0, 32, .rw, 0⟩]⟩,
  ⟨0x384, [], [⟨0, 1, .wo, 0⟩]⟩,
  ⟨0x390, [], [⟨0, 4, .ro, 0⟩, ⟨4, 8, .ro, 0⟩, ⟨12, 7, .ro, 0⟩, ⟨19, 10, .ro, 0⟩, ⟨29, 2, .ro, 0⟩, ⟨31, 1, .w1c, 0⟩]⟩,
  ⟨0x394, [], [⟨0, 32, .ro, 0⟩]⟩]
def rowsFC2 : List RegRow := [
  ⟨0x398, [], [⟨0, 32, .ro, 0⟩]⟩,
  ⟨0x400, [(0x20, 32), (0x4, 8)], [⟨0, 32, .ro, 0⟩]⟩]
/-- Register map of the FC_ block. -/
def rowsFC : List RegRow := rowsFC0 ++ rowsFC1 ++ rowsFC2

def rowsEV0 : List RegRow := [
  ⟨0x0, [], [⟨0, 1, .w1c, 0⟩, ⟨1, 1, .ro, 0⟩, ⟨2, 1, .ro, 0⟩, ⟨3, 1, .ro, 0⟩, ⟨4, 1, .ro, 0⟩]⟩,
  ⟨0x4, [], [⟨0, 1, .wo, 0⟩, ⟨1, 1, .wo, 0⟩]⟩,
  ⟨0x8, [], [⟨0, 32, .wo, 0⟩]⟩,
  ⟨0xC, [], [⟨0, 32, .ro, 0⟩]⟩,
  ⟨0x10, [], [⟨0, 32, .ro, 0⟩]⟩,
  ⟨0x14, [], [⟨0, 32, .ro, 0⟩]⟩,
  ⟨0x18, [], [⟨0, 32, .ro, 0⟩]⟩,
  ⟨0x20, [], [⟨0, 32, .rw, 0⟩]⟩,
  ⟨0x24, [], [⟨0, 1, .ro, 0⟩, ⟨1, 1, .ro, 0⟩, ⟨2, 6, .ro, 0⟩]⟩,
  ⟨0x28, [], [⟨0, 16, .w1c, 0⟩, ⟨16, 16, .w1c, 0⟩]⟩,
  ⟨0x40, [(0x4, 16)], [⟨0, 32, .ro, 0⟩]⟩]
/-- Register map of the EV_ block. -/
def rowsEV : List RegRow := rowsEV0

def rowsBT0 : List RegRow := [
  ⟨0x0, [], [⟨0, 1, .w1c, 0⟩, ⟨1, 1, .ro, 0⟩, ⟨2, 1, .ro, 0⟩, ⟨3, 7, .ro, 0⟩, ⟨10, 1, .ro, 0⟩]⟩,
  ⟨0x4, [], [⟨0, 12, .rwl, 200⟩, ⟨12, 8, .rwl, 10⟩, ⟨20, 12, .rwl, 800⟩]⟩,
  ⟨0x8, [], [⟨0, 8, .rwl, 50⟩, ⟨8, 8, .rwl, 80⟩, ⟨16, 3, .rwl, 2⟩, ⟨20, 4, .rwl, 4⟩, ⟨24, 4, .rwl, 0⟩]⟩,
  ⟨0xC, [], [⟨0, 16, .rwl, 8000⟩]⟩,
  ⟨0x10, [], [⟨0, 8, .wo, 0⟩, ⟨8, 7, .wo, 0⟩, ⟨16, 6, .wo, 0⟩, ⟨22, 1, .wo, 0⟩, ⟨23, 1, .wo, 0⟩, ⟨24, 8, .wo, 0⟩]⟩,
  ⟨0x14, [], [⟨0, 8, .ro, 0⟩, ⟨8, 7, .ro, 0⟩, ⟨16, 6, .ro, 0⟩, ⟨22, 2, .ro, 0⟩, ⟨24, 1, .ro, 0⟩, ⟨28, 4, .ro, 0⟩]⟩,
  ⟨0x18, [], [⟨0, 8, .ro, 0⟩, ⟨8, 8, .ro, 0⟩, ⟨16, 1, .ro, 0⟩]⟩,
  ⟨0x20, [(0x4, 3)], [⟨0, 32, .ro, 0⟩]⟩,
  ⟨0x30, [], [⟨0, 7, .rw, 0⟩]⟩,
  ⟨0x34, [], [⟨0, 3, .ro, 0⟩, ⟨3, 2, .ro, 0⟩, ⟨5, 1, .ro, 0⟩, ⟨6, 6, .ro, 0⟩, ⟨12, 6, .ro, 0⟩, ⟨18, 8, .ro, 0⟩]⟩,
  ⟨0x40, [], [⟨0, 16, .w1c, 0⟩, ⟨16, 16, .w1c, 0⟩]⟩,
  ⟨0x44, [], [⟨0, 16, .w1c, 0⟩, ⟨16, 16, .w1c, 0⟩]⟩]
def rowsBT1 : List RegRow := [
  ⟨0x50, [], [⟨0, 21, .rw, 0⟩]⟩,
  ⟨0x54, [], [⟨0, 32, .wo, 0⟩]⟩,
  ⟨0x58, [], [⟨0, 1, .wo, 0⟩]⟩,
  ⟨0x1000, [(0x4, 1024)], [⟨0, 32, .rw, 0⟩]⟩]
/-- Register map of the BT_ block. -/
def rowsBT : List RegRow := rowsBT0 ++ rowsBT1

def rowsPP0 : List RegRow := [
  ⟨0x0, [], [⟨0, 1, .w1c, 0⟩, ⟨1, 1, .ro, 0⟩, ⟨2, 1, .ro, 0⟩, ⟨3, 1, .ro, 0⟩]⟩,
  ⟨0x4, [], [⟨0, 16, .rw, 65535⟩, ⟨16, 16, .ro, 0⟩]⟩,
  ⟨0x8, [], [⟨0, 4, .rwl, 10⟩, ⟨4, 4, .rwl, 3⟩, ⟨8, 4, .rwl, 2⟩, ⟨16, 16, .rwl, 1000⟩]⟩,
  ⟨0xC, [], [⟨0, 8, .rwl, 100⟩, ⟨8, 8, .rwl, 100⟩, ⟨16, 4, .rwl, 8⟩, ⟨24, 8, .rwl, 10⟩]⟩,
  ⟨0x10, [], [⟨0, 8, .rwl, 50⟩, ⟨8, 4, .rwl, 10⟩, ⟨12, 4, .rwl, 2⟩, ⟨16, 4, .rwl, 8⟩, ⟨20, 8, .rwl, 100⟩]⟩,
  ⟨0x14, [], [⟨0, 16, .ro, 0⟩, ⟨16, 16, .w1c, 0⟩]⟩,
  ⟨0x20, [], [⟨0, 32, .rwl, 268697600⟩]⟩,
  ⟨0x24, [], [⟨0, 12, .rw, 0⟩]⟩,
  ⟨0x28, [], [⟨0, 12, .ro, 0⟩]⟩,
  ⟨0x2C, [], [⟨0, 12, .ro, 0⟩, ⟨16, 12, .rwl, 256⟩]⟩,
  ⟨0x30, [], [⟨0, 7, .ro, 0⟩, ⟨8, 7, .ro, 0⟩]⟩,
  ⟨0x40, [], [⟨0, 16, .w1c, 0⟩, ⟨16, 16, .w1c, 0⟩]⟩]
def rowsPP1 : List RegRow := [
  ⟨0x44, [], [⟨0, 16, .w1c, 0⟩, ⟨16, 16, .w1c, 0⟩]⟩,
  ⟨0x48, [], [⟨0, 16, .w1c, 0⟩, ⟨16, 16, .w1c, 0⟩]⟩,
  ⟨0x4C, [], [⟨0, 16, .w1c, 0⟩, ⟨16, 16, .w1c, 0⟩]⟩,
  ⟨0x50, [], [⟨0, 10, .wo, 0⟩, ⟨10, 1, .wo, 0⟩, ⟨11, 1, .wo, 0⟩]⟩,
  ⟨0x54, [], [⟨0, 3, .ro, 0⟩, ⟨8, 8, .ro, 0⟩, ⟨16, 16, .w1c, 0⟩]⟩,
  ⟨0x60, [], [⟨0, 10, .rw, 0⟩]⟩,
  ⟨0x64, [], [⟨0, 11, .ro, 0⟩, ⟨11, 11, .ro, 0⟩]⟩,
  ⟨0x80, [], [⟨0, 16, .ro, 0⟩, ⟨16, 2, .ro, 0⟩, ⟨18, 2, .ro, 0⟩, ⟨20, 4, .ro, 0⟩, ⟨24, 4, .ro, 0⟩, ⟨28, 1, .ro, 0⟩]⟩,
  ⟨0x84, [], [⟨0, 32, .ro, 0⟩]⟩,
  ⟨0x88, [], [⟨0, 32, .ro, 0⟩]⟩,
  ⟨0x8C, [], [⟨0, 16, .ro, 0⟩]⟩,
  ⟨0x90, [], [⟨0, 32, .ro, 0⟩]⟩]
def rowsPP2 : List RegRow := [
  ⟨0x94, [], [⟨0, 32, .ro, 0⟩]⟩,
  ⟨0xC0, [], [⟨0, 16, .rw, 0⟩]⟩,
  ⟨0xC4, [], [⟨0, 16, .wo, 0⟩, ⟨16, 2, .wo, 0⟩]⟩,
  ⟨0xC8, [], [⟨0, 2, .ro, 0⟩, ⟨2, 7, .ro, 0⟩, ⟨16, 13, .ro, 0⟩]⟩,
  ⟨0xD0, [], [⟨0, 16, .wo, 0⟩, ⟨16, 1, .wo, 0⟩, ⟨17, 1, .ro, 0⟩]⟩,
  ⟨0xD4, [], [⟨0, 5, .wo, 0⟩, ⟨5, 1, .wo, 0⟩]⟩,
  ⟨0xE0, [], [⟨0, 32, .ro, 0⟩]⟩,
  ⟨0xE4, [], [⟨0, 20, .ro, 0⟩]⟩,
  ⟨0xE8, [], [⟨0, 10, .rw, 0⟩]⟩,
  ⟨0xEC, [], [⟨0, 32, .ro, 0⟩]⟩,
  ⟨0xF0, [], [⟨0, 32, .ro, 0⟩]⟩,
  ⟨0x100, [(0x10, 64)], [⟨0, 10, .ro, 0⟩, ⟨10, 1, .ro, 0⟩, ⟨11, 1, .ro, 0⟩]⟩]
def rowsPP3 : List RegRow := [
  ⟨0x104, [(0x10, 64)], [⟨0, 18, .ro, 0⟩]⟩,
  ⟨0x108, [(0x10, 64)], [⟨0, 32, .ro, 0⟩]⟩,
  ⟨0x10C, [(0x10, 64)], [⟨0, 32, .ro, 0⟩]⟩,
  ⟨0x800, [(0x4, 256)], [⟨0, 32, .rw, 0⟩]⟩]
/-- Register map of the PP_ block. -/
def rowsPP : List RegRow := rowsPP0 ++ rowsPP1 ++ rowsPP2 ++ rowsPP3

def rowsNV0 : List RegRow := [
  ⟨0x0, [], [⟨0, 1, .w1c, 0⟩, ⟨1, 1, .ro, 0⟩, ⟨2, 1, .ro, 0⟩, ⟨3, 1, .ro, 0⟩, ⟨4, 1, .ro, 0⟩, ⟨5, 1, .ro, 0⟩]⟩,
  ⟨0x4, [], [⟨0, 8, .ro, 0⟩, ⟨8, 4, .ro, 0⟩, ⟨16, 8, .ro, 0⟩]⟩,
  ⟨0x8, [], [⟨0, 4, .rwl, 8⟩]⟩,
  ⟨0xC, [], [⟨0, 3, .ro, 0⟩, ⟨3, 3, .ro, 0⟩, ⟨6, 1, .ro, 0⟩, ⟨7, 1, .ro, 0⟩, ⟨8, 1, .ro, 0⟩, ⟨16, 8, .ro, 0⟩, ⟨24, 8, .ro, 0⟩]⟩,
  ⟨0x10, [], [⟨0, 32, .ro, 0⟩]⟩,
  ⟨0x14, [], [⟨0, 7, .ro, 0⟩, ⟨7, 1, .ro, 0⟩]⟩,
  ⟨0x20, [], [⟨0, 2, .ro, 0⟩, ⟨2, 1, .ro, 0⟩, ⟨4, 4, .ro, 0⟩, ⟨16, 16, .ro, 0⟩]⟩,
  ⟨0x24, [], [⟨0, 24, .ro, 0⟩]⟩,
  ⟨0x28, [], [⟨0, 24, .ro, 0⟩]⟩,
  ⟨0x30, [], [⟨0, 16, .w1c, 0⟩, ⟨16, 16, .w1c, 0⟩]⟩,
  ⟨0x40, [], [⟨0, 1, .wo, 0⟩, ⟨1, 2, .wo, 0⟩, ⟨3, 2, .wo, 0⟩, ⟨8, 8, .wo, 0⟩]⟩,
  ⟨0x44, [], [⟨0, 1, .ro, 0⟩, ⟨1, 1, .ro, 0⟩, ⟨2, 1, .ro, 0⟩, ⟨3, 1, .ro, 0⟩]⟩]
def rowsNV1 : List RegRow := [
  ⟨0x100, [(0x4, 56)], [⟨0, 32, .rw, 0⟩]⟩]
/-- Register map of the NV_ block. -/
def rowsNV : List RegRow := rowsNV0 ++ rowsNV1

def rowsPM0 : List RegRow := [
  ⟨0x0, [], [⟨0, 7, .ro, 0⟩, ⟨7, 1, .ro, 0⟩, ⟨8, 1, .ro, 0⟩]⟩,
  ⟨0x4, [], [⟨0, 1, .rwl, 1⟩, ⟨16, 16, .rwl, 6214⟩]⟩,
  ⟨0x8, [], [⟨0, 16, .w1c, 0⟩, ⟨16, 16, .w1c, 0⟩]⟩,
  ⟨0xC, [], [⟨0, 8, .ro, 0⟩, ⟨8, 1, .ro, 0⟩, ⟨9, 2, .ro, 0⟩]⟩]
/-- Register map of the PM_ block. -/
def rowsPM : List RegRow := rowsPM0

def rowsDB0 : List RegRow := [
  ⟨0x0, [], [⟨0, 1, .w1c, 0⟩, ⟨1, 1, .ro, 0⟩, ⟨2, 1, .ro, 0⟩, ⟨3, 1, .ro, 0⟩, ⟨4, 10, .ro, 0⟩]⟩,
  ⟨0x4, [], [⟨0, 7, .rw, 0⟩, ⟨7, 2, .rw, 0⟩, ⟨9, 1, .rw, 0⟩]⟩,
  ⟨0x8, [], [⟨0, 32, .rw, 0⟩]⟩,
  ⟨0xC, [], [⟨0, 20, .rw, 0⟩]⟩,
  ⟨0x10, [], [⟨0, 1, .wo, 0⟩, ⟨1, 1, .wo, 0⟩]⟩,
  ⟨0x100, [(0x10, 96)], [⟨0, 32, .w1c, 0⟩]⟩,
  ⟨0x104, [(0x10, 96)], [⟨0, 32, .w1c, 0⟩]⟩,
  ⟨0x108, [(0x10, 96)], [⟨0, 32, .w1c, 0⟩]⟩,
  ⟨0x10C, [(0x10, 96)], [⟨0, 32, .w1c, 0⟩]⟩,
  ⟨0x4000, [(0x10, 1024)], [⟨0, 32, .ro, 0⟩]⟩,
  ⟨0x4004, [(0x10, 1024)], [⟨0, 12, .ro, 0⟩, ⟨12, 8, .ro, 0⟩, ⟨20, 2, .ro, 0⟩, ⟨22, 3, .ro, 0⟩]⟩,
  ⟨0x4008, [(0x10, 1024)], [⟨0, 16, .ro, 0⟩, ⟨16, 12, .ro, 0⟩]⟩]
def rowsDB1 : List RegRow := [
  ⟨0x400C, [(0x10, 1024)], [⟨0, 8, .ro, 0⟩, ⟨8, 7, .ro, 0⟩]⟩]
/-- Register map of the DB_ block. -/
def rowsDB : List RegRow := rowsDB0 ++ rowsDB1

def rowsST0 : List RegRow := [
  ⟨0x100, [], [⟨0, 6, .rwl, 6⟩, ⟨8, 6, .rwl, 24⟩, ⟨16, 8, .rwl, 20⟩, ⟨24, 8, .rwl, 160⟩]⟩,
  ⟨0x104, [], [⟨0, 7, .rwl, 80⟩, ⟨8, 7, .rwl, 80⟩]⟩,
  ⟨0x108, [], [⟨0, 7, .rw, 56⟩, ⟨8, 7, .rwl, 88⟩]⟩,
  ⟨0x10C, [], [⟨0, 1, .rwl, 1⟩, ⟨1, 4, .rwl, 2⟩]⟩,
  ⟨0x110, [], [⟨0, 1, .w1c, 0⟩, ⟨1, 1, .ro, 0⟩, ⟨2, 1, .ro, 0⟩]⟩,
  ⟨0x200, [(0x4, 89)], [⟨0, 8, .rwl, 0⟩]⟩,
  ⟨0x400, [(0x4, 36)], [⟨0, 7, .ro, 0⟩, ⟨8, 7, .ro, 0⟩, ⟨15, 1, .ro, 0⟩, ⟨16, 6, .rw, 0⟩, ⟨22, 1, .ro, 0⟩, ⟨23, 2, .ro, 1⟩, ⟨25, 1, .w1s, 0⟩, ⟨26, 1, .ro, 0⟩]⟩,
  ⟨0x800, [(0x40, 4)], [⟨0, 3, .ro, 0⟩, ⟨3, 1, .ro, 0⟩, ⟨4, 7, .ro, 0⟩, ⟨11, 1, .ro, 0⟩, ⟨12, 1, .ro, 0⟩, ⟨13, 1, .w1c, 0⟩]⟩,
  ⟨0x804, [(0x40, 4)], [⟨0, 8, .ro, 0⟩, ⟨8, 8, .ro, 0⟩, ⟨16, 2, .ro, 1⟩, ⟨18, 1, .ro, 0⟩, ⟨24, 8, .ro, 0⟩]⟩,
  ⟨0x808, [(0x40, 4)], [⟨0, 12, .ro, 0⟩, ⟨16, 12, .ro, 0⟩]⟩,
  ⟨0x80C, [(0x40, 4)], [⟨0, 8, .ro, 0⟩, ⟨8, 8, .ro, 0⟩, ⟨16, 8, .ro, 0⟩, ⟨24, 2, .ro, 0⟩]⟩,
  ⟨0x810, [(0x40, 4)], [⟨0, 16, .w1c, 0⟩, ⟨16, 16, .w1c, 0⟩]⟩]
def rowsST1 : List RegRow := [
  ⟨0x814, [(0x40, 4)], [⟨0, 1, .wo, 0⟩, ⟨1, 2, .rw, 0⟩]⟩,
  ⟨0x1000, [], [⟨0, 8, .ro, 0⟩, ⟨8, 1, .ro, 0⟩, ⟨9, 1, .ro, 0⟩, ⟨10, 1, .ro, 0⟩, ⟨11, 1, .ro, 0⟩, ⟨16, 1, .w1c, 0⟩]⟩,
  ⟨0x1004, [], [⟨0, 8, .rwl, 160⟩, ⟨8, 8, .rwl, 32⟩, ⟨16, 8, .rwl, 16⟩, ⟨24, 8, .rwl, 32⟩]⟩,
  ⟨0x1008, [], [⟨0, 8, .rwl, 16⟩, ⟨8, 8, .rwl, 32⟩, ⟨16, 4, .rwl, 8⟩, ⟨24, 5, .rwl, 31⟩, ⟨29, 1, .ro, 0⟩, ⟨30, 2, .rwl, 3⟩]⟩,
  ⟨0x100C, [], [⟨0, 5, .rwl, 2⟩, ⟨5, 1, .ro, 0⟩, ⟨6, 2, .rwl, 1⟩, ⟨8, 5, .rwl, 1⟩, ⟨13, 1, .ro, 0⟩, ⟨14, 2, .rwl, 1⟩,
    ⟨16, 5, .rwl, 8⟩, ⟨21, 1, .ro, 0⟩, ⟨22, 2, .rwl, 0⟩, ⟨24, 5, .rwl, 4⟩, ⟨29, 1, .ro, 0⟩, ⟨30, 2, .rwl, 0⟩]⟩,
  ⟨0x1010, [], [⟨0, 5, .rwl, 0⟩, ⟨5, 1, .ro, 0⟩, ⟨6, 2, .rwl, 0⟩, ⟨8, 8, .ro, 0⟩, ⟨16, 5, .rwl, 3⟩, ⟨21, 1, .ro, 0⟩,
    ⟨22, 2, .rwl, 0⟩, ⟨24, 5, .rwl, 0⟩, ⟨29, 1, .ro, 0⟩, ⟨30, 2, .rwl, 0⟩]⟩,
  ⟨0x1014, [], [⟨0, 16, .rwl, 166⟩, ⟨16, 16, .rwl, 16⟩]⟩,
  ⟨0x1018, [], [⟨0, 16, .rwl, 100⟩, ⟨16, 8, .rwl, 128⟩]⟩,
  ⟨0x101C, [], [⟨0, 5, .rwl, 4⟩, ⟨8, 5, .rwl, 16⟩, ⟨16, 5, .rwl, 8⟩, ⟨24, 6, .rwl, 40⟩]⟩,
  ⟨0x1020, [], [⟨0, 24, .ro, 0⟩]⟩,
  ⟨0x1040, [(0x10, 8)], [⟨0, 16, .ro, 0⟩]⟩,
  ⟨0x1044, [(0x10, 8)], [⟨0, 24, .ro, 0⟩]⟩]
def rowsST2 : List RegRow := [
  ⟨0x1048, [(0x10, 8)], [⟨0, 24, .ro, 0⟩]⟩,
  ⟨0x104C, [(0x10, 8)], [⟨0, 16, .w1c, 0⟩, ⟨16, 16, .w1c, 0⟩]⟩,
  ⟨0x1100, [], [⟨0, 7, .ro, 0⟩, ⟨8, 4, .ro, 0⟩, ⟨16, 1, .ro, 0⟩]⟩,
  ⟨0x1104, [], [⟨0, 16, .w1c, 0⟩, ⟨16, 16, .w1c, 0⟩]⟩,
  ⟨0x1108, [], [⟨0, 16, .w1c, 0⟩, ⟨16, 16, .w1c, 0⟩]⟩,
  ⟨0x110C, [], [⟨0, 16, .w1c, 0⟩]⟩,
  ⟨0x1110, [], [⟨0, 12, .rwl, 64⟩, ⟨16, 8, .rwl, 64⟩]⟩,
  ⟨0x2000, [], [⟨0, 8, .rwl, 240⟩, ⟨8, 4, .rwl, 4⟩]⟩,
  ⟨0x2004, [], [⟨0, 7, .rwl, 60⟩, ⟨8, 4, .rwl, 8⟩, ⟨16, 12, .rwl, 256⟩]⟩,
  ⟨0x2008, [], [⟨0, 10, .rwl, 160⟩]⟩,
  ⟨0x2040, [(0x20, 4)], [⟨0, 2, .ro, 0⟩, ⟨2, 1, .ro, 0⟩, ⟨3, 1, .ro, 0⟩, ⟨8, 8, .ro, 0⟩]⟩,
  ⟨0x2044, [(0x20, 4)], [⟨0, 12, .ro, 0⟩, ⟨16, 12, .ro, 0⟩]⟩]
def rowsST3 : List RegRow := [
  ⟨0x2048, [(0x20, 4)], [⟨0, 12, .ro, 0⟩, ⟨16, 12, .ro, 0⟩]⟩,
  ⟨0x204C, [(0x20, 4)], [⟨0, 16, .ro, 0⟩, ⟨16, 16, .ro, 0⟩]⟩,
  ⟨0x2050, [(0x20, 4)], [⟨0, 16, .w1c, 0⟩, ⟨16, 16, .w1c, 0⟩]⟩,
  ⟨0x2054, [(0x20, 4)], [⟨0, 16, .w1c, 0⟩, ⟨16, 16, .w1c, 0⟩]⟩,
  ⟨0x3000, [], [⟨0, 32, .rwl, 2080⟩]⟩,
  ⟨0x3004, [], [⟨0, 4, .rwl, 0⟩]⟩,
  ⟨0x3008, [], [⟨0, 32, .ro, 0⟩]⟩,
  ⟨0x300C, [], [⟨0, 4, .ro, 0⟩]⟩,
  ⟨0x3100, [(0x4, 36)], [⟨0, 3, .ro, 0⟩, ⟨3, 1, .ro, 0⟩, ⟨4, 1, .ro, 0⟩, ⟨8, 16, .w1c, 0⟩]⟩,
  ⟨0x4000, [], [⟨0, 32, .w1c, 0⟩]⟩,
  ⟨0x4004, [], [⟨0, 4, .w1c, 0⟩]⟩,
  ⟨0x4010, [], [⟨0, 8, .rwl, 128⟩, ⟨8, 4, .rwl, 4⟩, ⟨16, 12, .rwl, 100⟩]⟩]
def rowsST4 : List RegRow := [
  ⟨0x4014, [], [⟨0, 32, .ro, 0⟩]⟩,
  ⟨0x4018, [], [⟨0, 32, .ro, 0⟩]⟩,
  ⟨0x401C, [], [⟨0, 32, .rwl, 2863311530⟩]⟩,
  ⟨0x4020, [], [⟨0, 32, .rwl, 2863311530⟩]⟩,
  ⟨0x4024, [], [⟨0, 6, .ro, 0⟩]⟩,
  ⟨0x5000, [], [⟨0, 4, .rwl, 1⟩, ⟨16, 12, .rwl, 24⟩]⟩,
  ⟨0x5004, [], [⟨0, 8, .rwl, 4⟩, ⟨16, 12, .rwl, 600⟩]⟩,
  ⟨0x5008, [], [⟨0, 7, .rwl, 56⟩, ⟨16, 11, .rwl, 680⟩]⟩,
  ⟨0x5040, [(0x4, 36)], [⟨0, 20, .ro, 0⟩, ⟨20, 8, .ro, 0⟩, ⟨28, 1, .ro, 0⟩]⟩,
  ⟨0x8000, [], [⟨0, 8, .rwl, 48⟩, ⟨8, 8, .rwl, 16⟩, ⟨16, 8, .rwl, 8⟩]⟩,
  ⟨0x8004, [], [⟨0, 8, .rwl, 64⟩, ⟨8, 3, .rwl, 4⟩, ⟨16, 8, .rwl, 24⟩, ⟨24, 8, .rwl, 0⟩]⟩,
  ⟨0x8008, [], [⟨0, 16, .rwl, 14746⟩]⟩]
def rowsST5 : List RegRow := [
  ⟨0x800C, [], [⟨0, 8, .rwl, 60⟩, ⟨8, 8, .rwl, 90⟩, ⟨16, 8, .rwl, 120⟩]⟩,
  ⟨0x8010, [], [⟨0, 16, .ro, 16384⟩, ⟨16, 1, .ro, 0⟩, ⟨17, 1, .ro, 0⟩]⟩,
  ⟨0x8014, [], [⟨0, 16, .rwl, 13107⟩, ⟨16, 16, .rwl, 20480⟩]⟩,
  ⟨0x8018, [], [⟨0, 16, .ro, 0⟩]⟩,
  ⟨0x8100, [(0x10, 16), (0x4, 4)], [⟨0, 24, .rwl, 0⟩]⟩]
/-- Register map of the ST_ block. -/
def rowsST : List RegRow := rowsST0 ++ rowsST1 ++ rowsST2 ++ rowsST3 ++ rowsST4 ++ rowsST5

def rowsCE0 : List RegRow := [
  ⟨0x0, [(0x100, 32), (0x20, 8)], [⟨0, 32, .rwl, 0⟩]⟩,
  ⟨0x4, [(0x100, 32), (0x20, 8)], [⟨0, 32, .rwl, 0⟩]⟩,
  ⟨0x8, [(0x100, 32), (0x20, 8)], [⟨0, 32, .rwl, 0⟩]⟩,
  ⟨0xC, [(0x100, 32), (0x20, 8)], [⟨0, 32, .rwl, 0⟩]⟩,
  ⟨0x10, [(0x100, 32), (0x20, 8)], [⟨0, 32, .rwl, 0⟩]⟩,
  ⟨0x14, [(0x100, 32), (0x20, 8)], [⟨0, 5, .rwl, 0⟩, ⟨5, 5, .rwl, 0⟩, ⟨10, 5, .rwl, 0⟩, ⟨15, 5, .rwl, 0⟩, ⟨20, 5, .rwl, 0⟩]⟩,
  ⟨0x18, [(0x100, 32), (0x20, 8)], [⟨0, 32, .ro, 0⟩]⟩,
  ⟨0x1C, [(0x100, 32), (0x20, 8)], [⟨0, 32, .ro, 0⟩]⟩,
  ⟨0x2000, [], [⟨0, 1, .w1c, 0⟩, ⟨1, 3, .ro, 0⟩, ⟨4, 3, .ro, 0⟩]⟩,
  ⟨0x2004, [], [⟨0, 32, .ro, 0⟩]⟩,
  ⟨0x2008, [], [⟨0, 9, .ro, 0⟩]⟩,
  ⟨0x200C, [], [⟨0, 32, .w1c, 0⟩]⟩,
  ⟨0x2010, [], [⟨0, 9, .w1c, 0⟩]⟩,
  ⟨0x2014, [], [⟨0, 6, .wo, 0⟩]⟩]
def rowsCE1 : List RegRow := [
  ⟨0x2018, [], [⟨0, 8, .rwl, 80⟩, ⟨8, 8, .rwl, 8⟩, ⟨16, 4, .rwl, 4⟩]⟩,
  ⟨0x2100, [(0x40, 3)], [⟨0, 3, .rwl, 0⟩, ⟨3, 5, .rwl, 0⟩, ⟨8, 5, .rwl, 0⟩, ⟨13, 5, .rwl, 0⟩, ⟨18, 5, .rwl, 0⟩]⟩,
  ⟨0x2104, [(0x40, 3)], [⟨0, 5, .rwl, 0⟩, ⟨5, 5, .rwl, 0⟩, ⟨10, 5, .rwl, 0⟩, ⟨16, 5, .rwl, 0⟩]⟩,
  ⟨0x2108, [(0x40, 3)], [⟨0, 16, .rwl, 0⟩, ⟨16, 16, .rwl, 0⟩]⟩,
  ⟨0x210C, [(0x40, 3)], [⟨0, 16, .rwl, 0⟩]⟩,
  ⟨0x2110, [(0x40, 3)], [⟨0, 2, .rwl, 0⟩, ⟨2, 1, .rwl, 0⟩, ⟨3, 5, .rwl, 0⟩, ⟨8, 5, .rwl, 0⟩, ⟨16, 5, .rwl, 0⟩, ⟨24, 5, .rwl, 0⟩]⟩,
  ⟨0x2114, [(0x40, 3)], [⟨0, 16, .rwl, 9830⟩]⟩,
  ⟨0x2118, [(0x40, 3)], [⟨0, 32, .rwl, 0⟩]⟩,
  ⟨0x211C, [(0x40, 3)], [⟨0, 16, .rwl, 61440⟩]⟩,
  ⟨0x4000, [(0x40, 41)], [⟨0, 1, .ro, 0⟩, ⟨1, 1, .w1c, 0⟩, ⟨2, 1, .ro, 0⟩, ⟨3, 1, .ro, 0⟩, ⟨4, 5, .ro, 0⟩, ⟨9, 3, .ro, 0⟩, ⟨12, 1, .ro, 0⟩]⟩,
  ⟨0x4004, [(0x40, 41)], [⟨0, 32, .ro, 0⟩]⟩,
  ⟨0x4008, [(0x40, 41)], [⟨0, 16, .ro, 0⟩, ⟨16, 16, .ro, 0⟩]⟩]
def rowsCE2 : List RegRow := [
  ⟨0x400C, [(0x40, 41)], [⟨0, 32, .ro, 0⟩]⟩,
  ⟨0x4010, [(0x40, 41), (0x8, 4)], [⟨0, 32, .ro, 0⟩]⟩,
  ⟨0x4014, [(0x40, 41), (0x8, 4)], [⟨0, 32, .ro, 0⟩]⟩,
  ⟨0x4030, [(0x40, 41), (0x8, 2)], [⟨0, 32, .ro, 0⟩]⟩,
  ⟨0x4034, [(0x40, 41), (0x8, 2)], [⟨0, 32, .ro, 0⟩]⟩]
/-- Register map of the CE_ block. -/
def rowsCE : List RegRow := rowsCE0 ++ rowsCE1 ++ rowsCE2

def rowsPS0 : List RegRow := [
  ⟨0x0, [], [⟨0, 1, .ro, 0⟩, ⟨1, 1, .ro, 0⟩, ⟨2, 2, .ro, 0⟩, ⟨4, 3, .ro, 0⟩, ⟨7, 1, .ro, 0⟩, ⟨8, 1, .ro, 0⟩, ⟨9, 1, .ro, 0⟩]⟩,
  ⟨0x4, [(0x4, 2)], [⟨0, 12, .ro, 0⟩, ⟨16, 12, .ro, 0⟩, ⟨28, 1, .ro, 0⟩]⟩,
  ⟨0xC, [], [⟨0, 1, .w1c, 0⟩, ⟨1, 1, .w1c, 0⟩, ⟨2, 3, .ro, 0⟩, ⟨5, 3, .ro, 0⟩, ⟨8, 1, .ro, 0⟩, ⟨9, 1, .ro, 0⟩]⟩,
  ⟨0x10, [], [⟨0, 8, .rwl, 0⟩, ⟨8, 8, .rwl, 0⟩, ⟨16, 8, .rwl, 0⟩, ⟨24, 8, .rwl, 0⟩]⟩,
  ⟨0x14, [], [⟨12, 20, .ro, 0⟩, ⟨0, 12, .ro, 0⟩]⟩,
  ⟨0x18, [], [⟨0, 32, .ro, 0⟩]⟩,
  ⟨0x20, [], [⟨0, 6, .rwl, 4⟩]⟩,
  ⟨0x24, [], [⟨0, 6, .ro, 6⟩, ⟨6, 6, .ro, 6⟩, ⟨12, 6, .ro, 6⟩, ⟨18, 6, .ro, 6⟩, ⟨24, 6, .ro, 6⟩]⟩,
  ⟨0x28, [], [⟨0, 6, .ro, 0⟩, ⟨8, 6, .ro, 0⟩, ⟨16, 6, .ro, 0⟩, ⟨24, 6, .ro, 0⟩]⟩,
  ⟨0x2C, [], [⟨0, 6, .ro, 0⟩, ⟨8, 6, .ro, 0⟩, ⟨16, 6, .ro, 0⟩, ⟨24, 6, .ro, 0⟩]⟩,
  ⟨0x30, [], [⟨0, 16, .w1c, 0⟩, ⟨16, 16, .w1c, 0⟩]⟩,
  ⟨0x40, [], [⟨0, 11, .ro, 0⟩, ⟨16, 1, .ro, 0⟩, ⟨17, 1, .ro, 0⟩, ⟨18, 1, .w1c, 0⟩]⟩]
def rowsPS1 : List RegRow := [
  ⟨0x44, [], [⟨0, 7, .ro, 0⟩, ⟨8, 8, .ro, 0⟩, ⟨16, 12, .ro, 0⟩]⟩,
  ⟨0x50, [], [⟨0, 32, .ro, 0⟩]⟩,
  ⟨0x54, [(0x4, 10)], [⟨0, 24, .ro, 0⟩]⟩]
/-- Register map of the PS_ block. -/
def rowsPS : List RegRow := rowsPS0 ++ rowsPS1

/-- The register map of a block. -/
def rowsOf : Blk → List RegRow
  | .jz => rowsJZ | .tb => rowsTB | .ck => rowsCK | .bu => rowsBU | .lg => rowsLG | .fc => rowsFC
  | .ev => rowsEV | .bt => rowsBT | .pp => rowsPP | .nv => rowsNV | .pm => rowsPM | .db => rowsDB
  | .st => rowsST | .ce => rowsCE | .ps => rowsPS

/-- Where an address lies: its block, the field and patch it belongs to (0 in central blocks), the offset in the block. -/
structure Place where
  blk : Blk
  f : Nat
  p : Nat
  off : Nat
  deriving DecidableEq, Repr

/-- The central blocks of R19 in order of their bases. -/
def centralBlk : Nat → Option Blk
  | 0 => some .jz | 1 => some .tb | 2 => some .ck | 3 => some .bu | 4 => some .lg | 5 => some .fc
  | 6 => some .ev | 7 => some .bt | 8 => some .pp | 9 => some .nv | 10 => some .pm | 11 => some .db
  | _ => none

/-- R19: the block an address lies in, if any; 96 steward blocks (R2). -/
def placeOf (a : Nat) : Option Place :=
  if 0x20000000 ≤ a ∧ a < 0x200C0000 then
    (centralBlk ((a - 0x20000000) / 0x10000)).map fun b => ⟨b, 0, 0, (a - 0x20000000) % 0x10000⟩
  else if 0x30000000 ≤ a ∧ a < 0x36000000 then
    let f := (a - 0x30000000) / 0x100000
    let o := (a - 0x30000000) % 0x100000
    if o < 0x10000 then some ⟨.st, f, 0, o⟩
    else if o < 0x20000 then some ⟨.ce, f, 0, o - 0x10000⟩
    else if 0x40000 ≤ o ∧ o < 0x64000 then some ⟨.ps, f, (o - 0x40000) / 0x1000, (o - 0x40000) % 0x1000⟩
    else none
  else none

/-- The indices an offset has in a row, largest stride first; none where the offset is not in the row. -/
def dimIx : List (Nat × Nat) → Nat → Option (List Nat)
  | [], r => if r = 0 then some [] else none
  | (s, c) :: ds, r => if r / s < c then (dimIx ds (r % s)).map (r / s :: ·) else none

/-- Does an offset belong to a row of a register map? -/
def RegRow.has (r : RegRow) (o : Nat) : Bool :=
  decide (r.off ≤ o) && (dimIx r.dims (o - r.off)).isSome

/-- The fields of the register at an address; none where no block decodes the address (R15). -/
def fieldsAt (a : Nat) : Option (List FldRow) :=
  match placeOf a with
  | none => none
  | some pl => ((rowsOf pl.blk).find? fun r => r.has pl.off).map (·.fields)

/-- The word that a list of fields holds at reset. -/
def fieldsReset (l : List FldRow) : Nat := l.foldl (fun n r => n + r.reset % 2 ^ r.w * 2 ^ r.lo) 0

end Sys2Proof.Machine
end

