-- ==== Sys2Proof/Machine/Tab.lean ====
section
/-! DEFINITION. Sparse tables by number: the one plain-data form in which the model keeps registers, memory cells and
everything that comes in numbered copies. A table is a list of (key, value) pairs with keys rising and no entry equal to
what an unlisted key reads as, so that equal contents are equal data. -/

namespace Sys2Proof.Machine

/-- A sparse table: key and value pairs. -/
abbrev Tab (α : Type) := List (Nat × α)

/-- The value at key k, where dv is what an unlisted key reads as. -/
def tget {α : Type} (dv : α) : Tab α → Nat → α
  | [], _ => dv
  | (k, v) :: t, a => if k = a then v else tget dv t a

/-- The table without its entry at key k. -/
def tdel {α : Type} (k : Nat) (t : Tab α) : Tab α := t.filter fun x => x.1 ≠ k

/-- A new entry, at its place in the order of keys. -/
def tins {α : Type} (k : Nat) (v : α) : Tab α → Tab α
  | [] => [(k, v)]
  | x :: t => if k < x.1 then (k, v) :: x :: t else x :: tins k v t

/-- The table with value v at key k; the canonical form is kept. -/
def tput {α : Type} [DecidableEq α] (dv : α) (k : Nat) (v : α) (t : Tab α) : Tab α :=
  if v = dv then tdel k t else tins k v (tdel k t)

/-- The table with the value at key k changed by g. -/
def tupd {α : Type} [DecidableEq α] (dv : α) (k : Nat) (g : α → α) (t : Tab α) : Tab α :=
  tput dv k (g (tget dv t k)) t

/-- The table with every listed value changed by g; values that become the unlisted one are dropped. -/
def tmap {α : Type} [DecidableEq α] (dv : α) (g : α → α) : Tab α → Tab α
  | [] => []
  | (k, v) :: t => if g v = dv then tmap dv g t else (k, g v) :: tmap dv g t

/-- The canonical form: keys strictly rising from lo on, no entry at its unlisted value. -/
def Tab.wf {α : Type} [DecidableEq α] (dv : Nat → α) : Nat → Tab α → Bool
  | _, [] => true
  | lo, (k, v) :: t => decide (lo ≤ k) && decide (v ≠ dv k) && Tab.wf dv (k + 1) t

end Sys2Proof.Machine
end

