-- ==== Sys2Proof/Machine/State.lean ====
section
/-! DEFINITION. The state of Jenuz-96 as plain data: its registers (one sparse table by byte address, read at their reset
values where unlisted), the state the spec gives it beside the registers, chapter by chapter, its fuses and the queue of
waiting commands. -/

namespace Sys2Proof.Machine

/-- Who accesses a register or memory (R362, R366, R408, R410). -/
inductive Master where
  | core | tap | host (ctx : Fin 8) | pmbus | peerPort | nvm | testEngine | ledger | steward
  deriving DecidableEq, Repr

/-- R366: the code of a master in a capture. -/
def Master.code : Master → Nat
  | .core => 0 | .tap => 1 | .host _ => 2 | .pmbus => 3 | .peerPort => 4 | .nvm => 5 | .testEngine => 6
  | .ledger => 7 | .steward => 8

/-- Which shadow a master owns (R409): each host context, the core and the TAP. -/
def Master.shadowIx : Master → Nat
  | .core => 8 | .tap => 9 | .host k => k.val | .pmbus => 10 | .peerPort => 11 | .nvm => 12 | .testEngine => 13
  | .ledger => 14 | .steward => 15

/-- What leaves Jenuz other than by a register or a pin, newest first: the model's own record of it. Log entry 8. -/
inductive Out where
  /-- A notice written to a host queue: handle and two 64-bit words. -/
  | hostNotice (queue w0 w1 : Nat)
  /-- A message given to the peer endpoint: type code, destination address, header and body bytes. -/
  | peerMsg (typ dst : Nat) (bytes : List Nat)
  /-- R221: ACCEPT (true) or HOLD answer to a destination report; and the word that a held entry is sewn. -/
  | destAnswer (entry dst : Nat) (accept : Bool)
  | entrySewn (entry : Nat)
  /-- R205: the output tag a sentinel shows a tile, with UNSEWN; and the word to all sentinels that a held tag is SEWN. -/
  | outTag (field patch tile tag : Nat) (unsewn : Bool)
  | tagSewn (tag src : Nat)
  /-- A GO (true) or WAIT answer to the begin of a tile (R206). -/
  | stepAnswer (field patch tile : Nat) (go : Bool)
  /-- R126, R130: the down frame of a domain: payload bytes 0 to 5 and the two bytes of the CRC-16. -/
  | downFrame (domain : Nat) (bytes : List Nat)
  /-- R271: the link-degraded signal of an optical engine to the host fabric. -/
  | linkDegraded (engine : Nat) (on : Bool)
  /-- R407: the ring interrupt (false) or the bolt interrupt (true) of the management core. -/
  | interrupt (bolt : Bool)
  /-- The n_dom broadcast of the central manager to the stewards (R186). -/
  | shareSent (share nDom : Nat)
  deriving DecidableEq, Repr

/-- R9: the input pins whose levels the state keeps. The levels of the output pins follow from the registers. -/
structure Pins where
  resetN : Bool
  coolOk : Bool
  /-- R12: the strap value sampled at the release of RESET_N. -/
  strap : Nat
  deriving DecidableEq, Repr

/-- R42: the state of an action slot, coded as TB_ACT_STATE codes it. -/
inductive SlotState where
  | free | armed | done | missed
  deriving DecidableEq, Repr

/-- R42: one action slot. -/
structure Slot where
  addr : Nat
  data : Nat
  /-- R18: the low word of P as last written; P takes effect with its high word. -/
  lo : Nat
  at_ : Nat
  st : SlotState
  deriving DecidableEq, Repr

def Slot.init : Slot := ⟨0, 0, 0, 0, .free⟩

/-- R27: the latest frame of the lane that met the first three conditions, and the frame periods since. -/
structure LaneRef where
  count : Nat
  periods : Nat
  deriving DecidableEq, Repr

/-- The timebase unit's own state (chapter 01). Counts of boundaries never wrap; see R22. -/
structure TimeS where
  /-- R20: count of the present pick. -/
  count : Nat
  /-- Count of the pick before. -/
  prevCount : Nat
  /-- Boundaries that occurred since reset (timers that run through a stop, R45). -/
  nb : Nat
  /-- Boundaries outside a global stop since reset (the other timers of R22). -/
  nbRun : Nat
  /-- R27: reference for continuity. -/
  lane : Option LaneRef
  /-- R30: consecutive valid and invalid frames. -/
  valid : Nat
  invalid : Nat
  /-- R34: Δ of the latest valid frame less the corrections made since and that of the present pick, in sub-picks. -/
  delta : Int
  /-- R30: the count of the latest valid frame, adopted at lock. -/
  laneCount : Nat
  /-- R30, R440: the count the next boundary loads instead of advancing. -/
  load : Option Nat
  /-- R34: picks the next boundary steps forward beyond one. -/
  step : Nat
  /-- R34: sub-picks by which the present pick is shortened (positive) or lengthened. -/
  adj : Int
  /-- R30: boundaries were last LOCKED at this count of nb. -/
  lastLocked : Nat
  /-- R30: boundary at which REFCLK qualified in ACQUIRING. -/
  acqFrom : Option Nat
  /-- R30: the LOCAL event of this holdover has been recorded. -/
  localDone : Bool
  /-- R33: RACK_FEAT sets at the next bolt boundary. -/
  featPend : Bool
  /-- R30: mode to resume after NO_SOURCE (MODE code). -/
  heldMode : Nat
  /-- R40: sentinels whose copy disagrees, key field × 36 + patch: difference of the copy from the count. -/
  copyOfs : Tab Int
  /-- R41: fields cut off by a re-route; true once their delay is measured. -/
  rerouted : Tab (Option Bool)
  /-- R42: the sixteen action slots. -/
  slots : Tab Slot
  /-- R18: pair values in effect: stop pick and resume pick. -/
  stopAt : Nat
  resumeAt : Nat
  /-- R45, R48: the picks of the armed stop and resume. -/
  armStop : Nat
  armResume : Nat
  /-- R48: this boundary is the resume pick, so no loop sample is taken. -/
  resumed : Bool
  /-- R25: the present boundary made a forward step. -/
  stepped : Bool
  /-- The BOLT_BOUNDARY work of the present boundary is done. -/
  boltDone : Bool
  /-- R350: the lane receiver is disabled for this start. -/
  laneOff : Bool
  deriving DecidableEq, Repr

def TimeS.init : TimeS :=
  { count := 0, prevCount := 0, nb := 0, nbRun := 0, lane := none, valid := 0, invalid := 0, delta := 0, laneCount := 0, load := none
    step := 0, adj := 0, lastLocked := 0, acqFrom := none, localDone := false, featPend := false, heldMode := 0
    copyOfs := [], rerouted := [], slots := [], stopAt := 0, resumeAt := 0, armStop := 0, armResume := 0
    resumed := false, stepped := false, boltDone := true, laneOff := false }

/-- What Jenuz keeps of one patch beside its PS_ and ST_OP_ registers (chapters 02, 04, 05, 16). -/
structure PatchS where
  /-- R56: count of the pick of the latest reading. -/
  readAt : Option Nat
  /-- R55: boundary count (nb) at which the patch last scanned; none: the first scan of a start is still to come. -/
  scannedAt : Option Nat
  /-- R61: boundary count at which the sensor was marked suspect. -/
  suspAt0 : Option Nat
  suspAt1 : Option Nat
  /-- R69: counts of the pick being reported, by event index 0 to 9. -/
  acc : List Nat
  /-- R70: REPLAY in the pick before. -/
  replayPrev : Bool
  /-- R69: the counts latched at the last boundary: those of the pick before. Its last eighth, which is reported in the present
  pick, joins them. -/
  last : List Nat
  /-- R70: the patch clock ran in the present pick; its STATIC count is taken. -/
  ran : Bool
  statDone : Bool
  /-- R93: L-THERM has sampled since the last reset. -/
  sampled : Bool
  /-- R57: tile-rail energy of the bolt in progress and of the last complete bolt, 2^-24 token. -/
  boltE : Nat
  lastE : Nat
  /-- R65: stretch entered, floor crossed in the present pick; timestamp of the first crossing. -/
  stretched : Bool
  /-- R65: some detector crossed the stretch threshold in the present pick. -/
  crossed : Bool
  /-- R377: the deepest stretch level reached in the pick. -/
  stretchMax : Nat
  floored : Bool
  floorAt : Option Nat
  /-- R68: the path monitor window of the present bolt was disturbed. R67: F-index, VID and patch temperature in it. -/
  pmDirty : Bool
  pmPoint : Nat × Nat × Int
  /-- R111: boundary count at which the stopped clock was asked to start. -/
  starting : Option Nat
  /-- R109: F-index of the run that the patch runs, if any. -/
  runIdx : Option Nat
  /-- R119: boundary count (nb) at which the waiting raise began to wait. -/
  waitAt : Nat
  /-- R123: margin offset in force; the register holds the one last written. -/
  mofs : Nat
  /-- R153: emergency ceilings: near band, critical band, domain current; the band they stand for; the reading (its
  count) that was the latest at bring-up, whose band they ignore (R268). -/
  nearCeil : Option Nat
  critCeil : Option Nat
  domCeil : Option Nat
  bandActed : Nat
  bandHold : Option Nat
  /-- R200: steps open at some time in the previous pick, and steps that ended in the present one. -/
  stepsPrev : List (Nat × Nat)
  stepsEnded : List (Nat × Nat)
  /-- R118: stopped because index 0 does not fit under VID_HI. -/
  railStop : Bool
  /-- R392: sum of normalised slack of the hour (2 ps), and its samples. -/
  slackSum : Int
  slackN : Nat
  /-- R393: the trend has been started in this start. -/
  trended : Bool
  /-- R307: clock stopped by hold-safe. -/
  held : Bool
  deriving DecidableEq, Repr

def PatchS.init : PatchS :=
  { readAt := none, scannedAt := none, suspAt0 := none, suspAt1 := none, acc := [], replayPrev := false, last := [], ran := false, statDone := false, sampled := false, boltE := 0
    lastE := 0, stretched := false, crossed := false, stretchMax := 0, floored := false, floorAt := none, pmDirty := false, pmPoint := (0, 0, 0), starting := none, runIdx := none, waitAt := 0
    mofs := 0, nearCeil := none, critCeil := none, domCeil := none, bandActed := 0, bandHold := none
    stepsPrev := [], stepsEnded := [], railStop := false, slackSum := 0, slackN := 0, trended := false, held := false }


/-- R119: a slew in progress: the boundary that first sent the target, its frame's sequence, ΔV in codes,
and whether telemetry has confirmed it. -/
structure Slew where
  from_ : Nat
  seq : Nat
  dv : Nat
  seen : Bool
  /-- A lowering: V_ref is the new target already, and only the voltage band waits (R72). -/
  down : Bool
  deriving DecidableEq, Repr

/-- R91 to R105: what the control engine keeps of one loop instance beside its CE_INST_ registers. -/
structure InstS where
  /-- R103: the next sample is exempt from comparison. -/
  exempt : Bool
  /-- R91: the instance has computed a command. -/
  hasLast : Bool
  /-- R99: a region is in force. -/
  hasRegion : Bool
  /-- R101: u_prev. -/
  uPrev : Int
  /-- R102: FB at the last scan and the model outputs since. -/
  predBase : Int
  thSum : Int
  /-- Boundary count at which the instance last sampled. -/
  sampledAt : Option Nat
  deriving DecidableEq, Repr

def InstS.init : InstS := ⟨true, false, false, 0, 0, 0, none⟩

/-- R171: the arming of a tile. -/
structure TileArm where
  job : Nat
  light : Bool
  level : Nat
  group : Nat
  deriving DecidableEq, Repr

/-- R172: the wait a tile is in. -/
inductive WaitKind where
  | none | barrier | other
  deriving DecidableEq, Repr

/-- What the sentinel holds of one tile: the job of its last begin marker (R166), its wait, its arming,
its wadding level w_t, whether it wads, whether the heddle gates it. -/
structure TileS where
  job : Option Nat
  wait : WaitKind
  arm : Option TileArm
  wt : Nat
  wads : Bool
  /-- R142, R195: its wadding is stopped by a hold or by a global stop, and resumes at w_t when that ends. -/
  paused : Bool
  gated : Bool
  /-- R212: job and sequence of the tile's present step, and of the last step whose end was issued. -/
  cur : Option (Nat × Nat)
  prev : Option (Nat × Nat)
  deriving DecidableEq, Repr

def TileS.init : TileS := ⟨none, .none, none, 0, false, false, false, none, none⟩

/-- What a steward keeps of one voltage domain beside its ST_LINK_ and ST_HED_ registers (chapters 04, 05, 06). -/
structure DomS where
  /-- R135: consecutive valid up frames in the present state. -/
  good : Nat
  /-- R129: no valid up frame since reset or since the link left LOST. R131: an up frame has been recorded since reset. -/
  fresh : Bool
  heard : Bool
  /-- R130: the up frame of the present pick has been taken. -/
  upSeen : Bool
  /-- R119: the slew in progress. -/
  slew : Option Slew
  /-- R132: the mode, RETENTION or OFF, that the rail has not come back from. -/
  railAt : Option Nat
  /-- R132: the slew out of RETENTION or OFF that the patch clocks wait for. -/
  railSlew : Option Slew
  /-- R127: the slew rate of the last down frame. -/
  slewSent : Nat
  /-- R135: the domain's heddles are closed by a lost link. -/
  shut : Bool
  /-- R72: the higher of the two targets during a slew. -/
  bandVid : Nat
  /-- The same of the pick before. -/
  bandPrev : Nat
  /-- R135: the loss was caused by a period without boundaries. -/
  noBoundary : Bool
  /-- R136: returned to INIT by the hand-back of a stress test. -/
  handBack : Bool
  /-- R135: ACK_SAFE is sent. -/
  ackSafe : Bool
  /-- R438: picks above 2,200 in the run, picks spent above, consecutive picks at or below 2,000, reduction in force,
  the last reported pick asks for the reduction. -/
  overRun : Nat
  overAll : Nat
  quiet : Nat
  domCut : Bool
  domDue : Bool
  /-- R153: MATRIX held in the domain in the present pick. -/
  matrixHeld : Bool
  /-- R177, R441: planner quantities in 1/64 of 0.05 A. -/
  iRef : Int
  iHat : Int
  gEff1 : Int
  sDn : Nat
  sUp : Nat
  /-- R175: I_pre and I_FLOOR in 0.05 A, FB samples of the last picks, newest first. -/
  iPre : Nat
  iFloor : Nat
  fbs : List Nat
  /-- R175: release expected at this count; the hint had LEAD 0. -/
  eRel : Option Nat
  lead0 : Bool
  /-- R175: E_rel + FLOOR_HOLD has passed. -/
  relPast : Bool
  /-- R179: level accumulator in 1/256 of a level; R183: carry; R180: pending. -/
  acc : Nat
  carry : Int
  pending : Nat
  /-- R182: armed tiles when DECAY was entered. -/
  nArmed : Nat
  /-- R186: counted in n_dom. -/
  counted : Bool
  /-- R183: sheds released in the ramp, and those released but not yet started with their slot. -/
  released : List Nat
  toStart : List (Nat × Nat)
  deriving DecidableEq, Repr

def DomS.init : DomS :=
  { good := 0, fresh := true, heard := false, upSeen := false, slew := none, railAt := none, railSlew := none, slewSent := 0, shut := false, bandVid := 0, bandPrev := 0, noBoundary := false, handBack := false
    ackSafe := false, overRun := 0, overAll := 0, quiet := 0, domCut := false
    domDue := false, matrixHeld := false, iRef := 0, iHat := 0, gEff1 := 0, sDn := 0, sUp := 0, iPre := 0
    iFloor := 0, fbs := [], eRel := none, lead0 := false, relPast := false, acc := 0, carry := 0, pending := 0, nArmed := 0
    counted := false, released := [], toStart := [] }

/-- Why a field is stopped. -/
inductive FieldStop where
  | none | level3 | level4 | retired | selfTest | lock
  deriving DecidableEq, Repr

/-- R156: a waiting hint: word, receipt pick, patch of the writing tile. -/
structure HintE where
  word : Nat
  recv : Nat
  patch : Nat
  deriving DecidableEq, Repr

/-- R158: a hint whose effect waits for its effect pick. -/
structure HintDue where
  at_ : Nat
  hint : HintE
  deriving DecidableEq, Repr

/-- R158, R160: a pre-position of a domain by a job. -/
structure Prepos where
  dom : Nat
  job : Nat
  level : Nat
  start : Nat
  until_ : Nat
  deriving DecidableEq, Repr

/-- What Jenuz keeps of one field beside its ST_ registers. -/
structure FieldS where
  /-- R328: the field map: enabled, tier A channels with their numbers, optical engines, tier B. -/
  enable : Bool
  nch : Nat
  chans : List Nat
  optics : List Nat
  memb : Nat
  /-- R318: brought up and in service. -/
  up : Bool
  stop : FieldStop
  /-- R367: the stop is to be carried out at the next boundary. -/
  stopDue : Bool
  /-- R346: heddle closed by a stop. -/
  shut : Bool
  /-- R76: sums of the bolt being reported: Vout × Iout, tile-rail estimates (2^-8 token), and whether it is skipped. -/
  eMeas : Nat
  eEst : Nat
  eSkip : Bool
  /-- R76: S applied from the next bolt boundary; R77: run of out-of-limit reconciliations. -/
  sNext : Option Nat
  sOut : Nat
  /-- S of the pick before. -/
  sPrev : Nat
  /-- R91: picks with the final tile-rail estimate of the field, in 2^-8 token, and its tile-rail allotment in them, newest first. -/
  finals : List (Nat × Nat × Nat)
  /-- R75: the pick whose counts arrive, and the pick whose estimate is to become final. -/
  curPick : Nat
  estPick : Nat
  /-- R91: the tile-rail allotment in force in the previous pick. -/
  allotPrev : Nat
  /-- R140: the update that makes the last pick final has come. -/
  debtIn : Bool
  /-- R150: tile-rail allotment that rises at the next boundary; R270, R271: MEMA reduced, OPTICS cut for an engine. -/
  allotRise : Option Nat
  memaCut : Option Nat
  /-- A change of MEMA or a cut of OPTICS falls due at the next boundary. -/
  fixDue : Bool
  optEng : Bool
  /-- R170: the OPTICS allotment in force is a cut one. -/
  optCut : Bool
  /-- R148: the weight in force, as of the last bolt boundary. -/
  wt : Nat
  /-- R166: jobs with a pre-position in force in the pick before. -/
  prePrev : List Nat
  /-- R156: waiting hints, effects due, pre-positions, hints read in the present pick. -/
  hints : List HintE
  due : List HintDue
  prepos : List Prepos
  read : Nat
  /-- R194: slack-matching ceiling in force. -/
  slack : Option Nat
  /-- R118: fields refused at CONFIG_LOCK (R116, R151). -/
  refused : Bool
  /-- R351: the field passed its last stress test. -/
  passed : Bool
  deriving DecidableEq, Repr

def FieldS.init : FieldS :=
  { enable := false, nch := 0, chans := [], optics := [], memb := 0, up := false, stop := .none, stopDue := false
    shut := false, eMeas := 0, eEst := 0, eSkip := false, sNext := none, sOut := 0, sPrev := 0x4000, finals := [], curPick := 0, estPick := 0
    allotPrev := 0, debtIn := false, allotRise := none, memaCut := none, fixDue := false, optEng := false, optCut := false, wt := 256, prePrev := [], hints := [], due := [], prepos := [], read := 0, slack := none
    refused := false, passed := false }

/-- R140 to R145: one activity class of one field, in 2^-8 token unless said. -/
structure ClassB where
  /-- R74: raw energy of the present and of the previous pick, unscaled, 2^-24 token, and the carry. -/
  rawCur : Nat
  rawPrev : Nat
  carry : Nat
  borrowed : Nat
  lent : Nat
  drawn : Nat
  /-- Available at the end of the previous pick; known debt of the present one. -/
  availPrev : Nat
  known : Nat
  /-- R150: allotment that rises at the next boundary. -/
  rise : Option Nat
  deriving DecidableEq, Repr

def ClassB.init : ClassB := ⟨0, 0, 0, 0, 0, 0, 0, 0, none⟩

/-- R162: one phase of a load descriptor. -/
structure Phase where
  peak : Nat
  mean : Nat
  peakDom : Nat
  fProf : Nat
  primary : Nat
  formats : Nat
  replay : Nat
  duration : Nat
  /-- R164, R165: plan index of the phase. -/
  plan : Nat
  deriving DecidableEq, Repr

/-- R167: an entry of the job table. -/
structure JobE where
  job : Nat
  owner : Option Nat
  fields : List Nat
  waferMean : Nat
  phases : List Phase
  phase : Nat
  tight : Bool
  misses : Nat
  /-- R166: a miss has been recorded in the present bolt. -/
  missTold : Bool
  /-- R217: sewn watermark sequence and its last notice. -/
  wm : Nat
  wmTold : Nat
  /-- R248: the audit shift in effect. -/
  shift : Nat
  deriving DecidableEq, Repr

/-- R164: an admission command under evaluation. -/
structure AdmCmd where
  bank : Nat
  words : List Nat
  deriving DecidableEq, Repr

/-- R191: a deferred cap value, the windows open at its acceptance that are still open (job and group), the boundary (nbRun)
of the GRACE-th bolt boundary after its acceptance, and whether a further value has come since the last bolt boundary. -/
structure CapDefer where
  val : Nat
  wins : List (Nat × Nat)
  due : Nat
  again : Bool
  deriving DecidableEq, Repr

/-- R154, R155, R191, R192: one source of the cap. -/
structure CapSrc where
  /-- Value in force. -/
  val : Nat
  /-- Value accepted in the present bolt, effective at its end, and whether it carried URGENT. -/
  next : Option (Nat × Bool)
  defer : Option CapDefer
  /-- R192: it has sent an urgent value while the other source's deferral runs: its later values stand on their own. -/
  own : Bool
  deriving DecidableEq, Repr

/-- R190: a collective window. -/
structure Win where
  job : Nat
  group : Nat
  open_ : Bool
  began : List Nat
  ended : List Nat
  /-- R193: F_slow last computed and last sent (or at opening). -/
  fSlow : Option Nat
  sent : Option Nat
  /-- R194: latest SLACK_NOTICE of each member. -/
  heard : List (Nat × Nat)
  m : Option Nat
  matching : Bool
  deriving DecidableEq, Repr

/-- R188: a barrier group this wafer has armed tiles of or has heard of, with bolts since each peer was heard, and its learnt
count at the last bolt boundary. -/
structure BarGroup where
  group : Nat
  heard : List (Nat × Nat)
  n : Nat
  deriving DecidableEq, Repr

/-- The central budget unit's own state (chapters 05 and 06). -/
structure BudgetS where
  tray : CapSrc
  rack : CapSrc
  /-- R91, R92: final estimates of all classes of all fields by pick, 2^-8 token, newest first: the last 1,001 picks. -/
  capFin : List (Nat × Nat)
  /-- R418: the sum of the last complete bolt. -/
  boltE : Nat
  /-- R168: wafer energy in 2^-8 token. -/
  waferE : Nat
  /-- R291 to R294: net of the loans applied to SP. -/
  loanIn : Nat
  loanOut : Nat
  jobs : Tab (Option JobE)
  adm : Option AdmCmd
  /-- R167, R171: jobs released since the last boundary, whose armings, pre-positions and windows end at the next. -/
  gone : List Nat
  /-- R411: result and descriptor buffer of each bank, key bank and bank × 128 + word. -/
  admRes : Tab Word
  admBuf : Tab Word
  wins : Tab (Option Win)
  bars : Tab (Option BarGroup)
  /-- R411: jobs with the context that owns them and their fields, as at the last boundary. -/
  owns : List (Nat × Nat × List Nat)
  nDom : Nat
  /-- R439: OPTICS cuts in force by field: reduced allotment. -/
  opticsRoom : Tab (Option Nat)
  deriving DecidableEq, Repr

def CapSrc.init : CapSrc := ⟨560, none, none, false⟩
def BudgetS.init : BudgetS :=
  { tray := .init, rack := .init, capFin := [], boltE := 0, waferE := 0, loanIn := 0, loanOut := 0, jobs := [], adm := none, gone := []
    admRes := [], admBuf := [], wins := [], bars := [], owns := [], nDom := 0, opticsRoom := [] }

/-- R209: state of a ledger entry. -/
inductive EState where
  | open_ | sewn | basted | tainted | replaying | tiebreak | unpicked | poisoned
  deriving DecidableEq, Repr

/-- R209: code of a state. -/
def EState.code : EState → Nat
  | .open_ => 0 | .sewn => 1 | .basted => 2 | .tainted => 3 | .replaying => 4 | .tiebreak => 5 | .unpicked => 6 | .poisoned => 7

/-- R209: CAUSE. -/
inductive Cause where
  | none | floor | stop | uv | audit | producer | replaced | poison | jobEnd | proto
  deriving DecidableEq, Repr

/-- R209: code of a cause. -/
def Cause.code : Cause → Nat
  | .none => 0 | .floor => 1 | .stop => 2 | .uv => 3 | .audit => 4 | .producer => 5 | .replaced => 6 | .poison => 7
  | .jobEnd => 8 | .proto => 9

/-- R218: kinds of job notice, coded in the notice. -/
inductive NoteKind where
  | watermark | reexec | replace | poisoned | closed | withdrawn
  deriving DecidableEq, Repr

/-- R218: code of a notice kind. -/
def NoteKind.code : NoteKind → Nat
  | .watermark => 1 | .reexec => 2 | .replace => 3 | .poisoned => 4 | .closed => 5 | .withdrawn => 6

/-- R249: statistics of a watched step: COUNT, NONFINITE, and MIN, MAX, SUM as FP32 words (none before the first block). -/
structure Stats where
  count : Nat
  nonfin : Nat
  vals : Option (Nat × Nat × Nat)
  deriving DecidableEq, Repr

/-- R221, R222: a destination wafer of an entry: peer index, DACK, boundary (nbRun) of the last notice sent. -/
structure Dest where
  peer : Nat
  dack : Nat
  sentAt : Option Nat
  deriving DecidableEq, Repr

/-- R209: a ledger entry, with what the rules of chapter 07 need beside its words. -/
structure Entry where
  st : EState
  ended : Bool
  suspect : Bool
  remote : Bool
  closed : Bool
  /-- R212: producers referenced, each with its GEN at the reference. -/
  prods : List (Nat × Nat)
  gen : Nat
  /-- R218: a WITHDRAWN notice is owed; the generation it names. -/
  wdraw : Bool
  wgen : Nat
  cause : Cause
  job : Nat
  seq : Nat
  foot : Nat
  begun : Nat
  endCnt : Nat
  field : Nat
  digest : Nat
  rslot : Option Nat
  spick : Nat
  dests : List Dest
  /-- Proxy: INDEX on the producing wafer (R209). -/
  rIndex : Nat
  /-- R220: outside-stop boundaries at which STATE last changed. -/
  since : Nat
  /-- All boundaries at which STATE last changed (R210: freed at the boundary after, at the earliest). -/
  nbAt : Nat
  /-- R218: job notices owed, WITHDRAWN apart. -/
  notes : List NoteKind
  /-- R210: REEXEC of this unpicking has been delivered. -/
  reDone : Bool
  /-- R220: the closure has been told and counted. -/
  closedTold : Bool
  /-- R202: tiles that have begun and ended, patch × 256 + tile. -/
  begTiles : List Nat
  endTiles : List Nat
  /-- R221: data waits at the endpoint under HOLD. -/
  held : Bool
  /-- R234: F-index of the original at the first mark, or at the end of an audited step; patches on which marks arose. -/
  oFidx : Option Nat
  marked : List Nat
  /-- R249: statistics, for a watched step. -/
  stats : Option Stats
  /-- R227: its job has ended; it stays until its destinations have acknowledged. -/
  ending : Bool := false
  /-- R203, R224: a proxy's producing wafer, as the host fabric presents its address. -/
  src : Nat := 0xFFFF
  deriving DecidableEq, Repr

/-- R200: a suspect mark on its way to the ledger. -/
structure Mark where
  cause : Cause
  field : Nat
  patches : List Nat
  steps : List (Nat × Nat)
  /-- F-index of each of the patches at the mark (R234). -/
  fidx : List Nat
  deriving DecidableEq, Repr

/-- R203: an output tag a tile holds: INDEX, GEN, SEQ [31:0], JOB (R205), and the producing wafer's address. -/
structure OutTag where
  index : Nat
  gen : Nat
  seq : Nat
  job : Nat
  src : Nat
  deriving DecidableEq, Repr

/-- R203: a begin marker: field, patch, tile, StepTag and the tags held, and the sentinel's timestamp. -/
structure BeginM where
  field : Nat
  patch : Nat
  tile : Nat
  tag : Nat
  tags : List OutTag
  stamp : Nat := 0
  deriving DecidableEq, Repr

/-- R203: an end marker as the sentinel forwards it. -/
structure EndM where
  field : Nat
  patch : Nat
  tile : Nat
  tag : Nat
  digest : Nat
  poison : Bool
  stats : StatObs
  stamp : Nat := 0
  deriving DecidableEq, Repr

/-- R237: a marker of a run as the sentinel forwards it. -/
structure RunM where
  field : Nat
  patch : Nat
  tile : Nat
  tag : Nat
  isEnd : Bool
  digest : Nat
  poison : Bool
  stamp : Nat := 0
  deriving DecidableEq, Repr

/-- R208, R228: an event that waits for the next boundary: it came in a global stop, or after an event of a later class. -/
inductive LEvent where
  | begin_ (m : BeginM)
  | end_ (m : EndM)
  | report (t : OutTag) (dst : Nat)
  | run (m : RunM)
  | replaced (who entry : Nat)
  deriving DecidableEq, Repr

/-- R208: the class of an event. Marks are class 2 and LEDGER notices class 5; both wait in queues of their own. -/
def LEvent.cls : LEvent → Nat
  | .begin_ _ => 1 | .end_ _ => 3 | .report .. => 4 | .run _ => 6 | .replaced .. => 7

/-- The tile whose marker an event is. -/
def LEvent.tile : LEvent → Option (Nat × Nat × Nat)
  | .begin_ m => some (m.field, m.patch, m.tile)
  | .end_ m => some (m.field, m.patch, m.tile)
  | .run m => some (m.field, m.patch, m.tile)
  | .report .. | .replaced .. => none

/-- The ledger (chapter 07). -/
structure LedgerS where
  ents : Tab (Option Entry)
  marks : List Mark
  /-- R206: begins answered WAIT, oldest first. -/
  waits : List BeginM
  /-- R208: entries whose state changed at the present boundary, and at the boundary before. -/
  changed : List Nat
  prev : List Nat
  /-- R227: jobs released since the last boundary. -/
  ended : List Nat
  /-- R229: the entries as they stood at the last boundary, for LG_SEL; words of the latched entry. -/
  shown : Tab (Option Entry)
  window : List Word
  /-- R208: the highest class of event applied at the present boundary; the events that wait, in their order of arrival. -/
  cls : Nat
  later : List LEvent
  /-- R224: UNPICK notices acknowledged that wait for a free entry, each with its CAUSE. Log entry 40. -/
  unplaced : List (OutTag × Nat)
  /-- R199: marks of steps that have no entry yet because their begins wait. -/
  early : List Mark
  deriving DecidableEq, Repr

def LedgerS.init : LedgerS := ⟨[], [], [], [], [], [], [], [], 0, [], [], []⟩

/-- R234: PHASE of a replay record. -/
inductive RPhase where
  | queued | replay | tiebreak | decided | repeat_ | confirm
  deriving DecidableEq, Repr

def RPhase.code : RPhase → Nat
  | .queued => 0 | .replay => 1 | .tiebreak => 2 | .decided => 3 | .repeat_ => 4 | .confirm => 5

/-- R234: a region of a run: field, patches in ascending order, F-index of the run. -/
structure Region where
  field : Nat
  patches : List Nat
  fidx : Nat
  deriving DecidableEq, Repr

/-- R234: VERDICT. -/
inductive Verdict where
  | none | matched | origRight | origWrong | unresolved | givenUp
  deriving DecidableEq, Repr

def Verdict.code : Verdict → Nat
  | .none => 0 | .matched => 1 | .origRight => 2 | .origWrong => 3 | .unresolved => 4 | .givenUp => 5

/-- R237: a run that is requested: its RUNTYPE, region, boundaries (nbRun) at the request, the tiles that have begun and
ended (position × 256 + tile), and the partial digests by position. -/
structure Run where
  kind : Nat
  reg : Region
  reqAt : Nat
  beg : List Nat
  fin : List Nat
  sums : List Nat
  deriving DecidableEq, Repr

/-- R234: a replay record, with what R237 to R244 need beside its words. -/
structure RRec where
  entry : Nat
  phase : RPhase
  audit : Bool
  orig : Region
  rep : Option Region
  tie : Option Region
  run : Option Run
  /-- R234: patches on which a mark arose; the whole footprint where full. -/
  marked : List Nat
  full : Bool
  rWrong : List Nat
  oWrong : List Nat
  verdict : Verdict
  dR : Nat
  dT : Nat
  reqPick : Nat
  handPick : Nat
  runs : Nat
  /-- Job, sequence and footprint of the step; they outlive the entry. -/
  job : Nat
  seq : Nat
  foot : Nat
  /-- R242: boundaries (nbRun) at the hand-off. -/
  handAt : Option Nat
  /-- R238, R239: partial digests of the replay and of the tie-break by position. -/
  pR : List Nat
  pT : List Nat
  /-- R237: k of the field orders at which the next search starts. -/
  kR : Nat
  kT : Nat
  /-- R243, R244: the judged region, the winner's partials, the positions still judged, boundaries (nbRun) at the
  request, which stands until the region's patches are free. -/
  judged : Option Region
  winP : List Nat
  jPos : List Nat
  repAt : Option Nat
  deriving DecidableEq, Repr

/-- R235: a run request that the host queue has not taken: its two words, its record and whether it is a RUN. -/
structure RunReq where
  w0 : Nat
  w1 : Nat
  record : Nat
  isRun : Bool
  deriving DecidableEq, Repr

/-- R242, R251: an assay: field and patch, whether P2 requested it, and the RELEASE to write when it ends. -/
structure Assay where
  field : Nat
  patch : Nat
  asked : Bool
  rel : Option RunReq
  deriving DecidableEq, Repr

/-- The replay scheduler (chapter 08). -/
structure ReplayS where
  recs : Tab (Option RRec)
  owed : List RunReq
  /-- R234: entries that wait for a free record. -/
  waiting : List Nat
  /-- R252: the records as they stood at the last boundary, for LG_RP_SEL; words of the latched record. -/
  shown : Tab (Option RRec)
  window : List Word
  /-- R245: strike logs in 0.01 h, by field × 36 + patch. -/
  strikes : Tab (List Nat)
  /-- R251: requests waiting; R242: verdict assays waiting; the assay that runs. -/
  assays : List (Nat × Nat)
  verdictAssays : List Assay
  assaying : Option Assay
  /-- R246, R230: patches held, with the record that holds them (none: an assay). -/
  holds : Tab (Option (Option Nat))
  /-- R249: steps still to watch, by field × 4096 + job. -/
  watch : Tab Nat
  deriving DecidableEq, Repr

def ReplayS.init : ReplayS := ⟨[], [], [], [], [], [], [], [], none, [], []⟩

/-- R256, R264, R265: what the selvedge keeps beside its registers; it outlives a reset (R263). -/
structure SelS where
  /-- R262, R264: boundaries for which COOL_OK has been high, from the first after it rose; none: it is low. -/
  okFor : Option Nat
  /-- R319: part of that time passed without boundaries, and was counted on ROSC. -/
  onRosc : Bool
  /-- R264: boundaries for which every patch has been cool in a stop, from the first at which they were; none: one is not. -/
  coolFor : Option Nat
  /-- R265: operating hours (0.01 h) of its stops. -/
  stops : List Nat
  /-- R256: the TRIP comparators of both sensors, latched, by field and patch. -/
  hot : List (Nat × Nat × Bool × Bool)
  /-- R256: the TRIP_OFF comparators that are latched high, by field, patch and sensor. -/
  off : List (Nat × Nat × Nat)
  deriving DecidableEq, Repr

/-- R269: a tier A channel: consecutive reports that call for a cooler zone, and the boundary (nbRun) of the last one. -/
structure ChanS where
  cooler : Nat
  seen : Nat
  deriving DecidableEq, Repr

def SelS.init : SelS := { okFor := none, onRosc := true, coolFor := none, stops := [], hot := [], off := [] }
def ChanS.init : ChanS := ⟨0, 0⟩

/-- R337: what a pass of the signature engine latched: purpose, key slot, COUNTER, STAMP; VALUE and URGENT of a CAP_SET;
LENGTH of an IMAGE_OPEN. -/
structure SigPass where
  purpose : Nat
  key : Nat
  counter : Nat
  stamp : Nat
  value : Nat
  urgent : Bool
  len : Nat
  deriving DecidableEq, Repr
/-- R275: state of a peer entry in use. -/
inductive PeerSt where
  | listed | present | absent
  deriving DecidableEq, Repr

/-- R300: code of a state; FREE is 0. -/
def PeerSt.code : PeerSt → Nat
  | .listed => 1 | .present => 2 | .absent => 3

/-- R275: an entry of the peer table in use. -/
structure Peer where
  addr : Nat
  st : PeerSt
  kind : Nat
  grant : Nat
  incarn : Nat
  /-- Count of the pick at whose boundary the last HEARTBEAT was applied. -/
  lastHb : Nat
  /-- Bolt boundaries since the last HEARTBEAT; bolts with REFS 0; a HEARTBEAT was applied at the present boundary. -/
  silent : Nat
  idle : Nat
  hbNow : Bool
  sent : Nat
  rcvd : Nat
  /-- R226: boundaries (nbRun) at which the entry became ABSENT. -/
  absentAt : Nat := 0
  deriving DecidableEq, Repr

/-- R275: a HEARTBEAT received and not yet applied. -/
structure Heart where
  src : Nat
  incarn : Nat
  grant : Nat
  kind : Nat
  deriving DecidableEq, Repr

/-- R284, R287: a request of the outbound store: in flight, or waiting for its resend since a boundary (nbRun). -/
structure TxReq where
  peer : Nat
  typ : Nat
  seq : Nat
  bytes : List Nat
  flying : Bool
  nackAt : Nat
  resends : Nat
  deriving DecidableEq, Repr

/-- R285: a cell reserved for the reply of a request; nbRun at the first send; AMOUNT and LOAN_ID of a LOAN_REQ. -/
structure Resv where
  peer : Nat
  typ : Nat
  seq : Nat
  id : Nat
  amount : Nat
  at_ : Nat
  deriving DecidableEq, Repr

/-- R288: a message, or a SKIP, that stands in the ring. -/
structure RingMsg where
  pos : Nat
  cells : Nat
  skip : Bool
  deriving DecidableEq, Repr

/-- R289: a staged message: its bytes, SRC and SEQ, and nbRun at its arrival. -/
structure Staged where
  src : Nat
  seq : Nat
  bytes : List Nat
  at_ : Nat
  deriving DecidableEq, Repr

/-- R291 to R293: an entry of the loan table. -/
structure Loan where
  peer : Nat
  amount : Nat
  id : Nat
  expiry : Nat
  /-- Applied to SP; boundaries (nbRun) at which it was; RETURN written; the lender was reset (R278). -/
  inForce : Bool
  at_ : Nat
  ending : Bool
  /-- Lent: tokens returned and not yet credited; the peer was reset, so all is credited. -/
  returned : Nat
  deriving DecidableEq, Repr

/-- The peer port (chapter 10). -/
structure PeerS where
  /-- R276: INCARN, drawn at each start. -/
  incarn : Nat
  tab : Tab (Option Peer)
  /-- R279: memberships, group and peer index, as commanded and as in effect. -/
  grps : List (Nat × Nat)
  grpsEff : List (Nat × Nat)
  hbs : List Heart
  tx : List TxReq
  resv : List Resv
  ring : List RingMsg
  staged : List Staged
  /-- R286: the ledger's inbound queue: SRC and the 48 body bytes. -/
  ledQ : List (Nat × List Nat)
  loans : Tab (Option Loan)
  /-- R294: LOAN_GRANT and LOAN_RETURN messages that a global stop holds. -/
  loanQ : List (List Nat)
  /-- R45, R278: peers that restarted in a global stop; their proxies and loans are handled at the resume pick. -/
  resets : List Nat
  /-- R298: TIME_REQs not yet answered, peer and T1 with its H; where the round-robin goes on. -/
  timeReqs : List (Nat × Nat × Bool)
  rr : Nat
  /-- R300: the table as at the last boundary, in-flight and reference counts too; the words PP_PSEL latched. -/
  shown : Tab (Option Peer)
  shownFly : List Nat
  shownRefs : Tab Nat
  latched : List Word
  /-- R299: the snapshot at the last global stop: SENT and RCVD of each entry, key peer × 2. -/
  snap : Tab Nat
  snapAt : Nat
  /-- R337: the unconsumed pass of the signature engine. -/
  pass : Option SigPass
  /-- R295: the last COUNTER accepted under each key since this start. -/
  counters : Tab (Option Nat)
  /-- R309: what the port would have sent in WAIT. -/
  hold : List Out := []
  deriving DecidableEq, Repr

def PeerS.init : PeerS :=
  { incarn := 0, tab := [], grps := [], grpsEff := [], hbs := [], tx := [], resv := [], ring := [], staged := [], ledQ := []
    loans := [], loanQ := [], resets := [], timeReqs := [], rr := 0, shown := [], shownFly := [], shownRefs := [], latched := [], snap := [], snapAt := 0, pass := none, counters := [] }



/-- The clock unit's own state (chapter 11): hold-safe as WAIT or the loss of ROSC asserts it (R307, R310), and the
boundary (nb) at which TBCLK last qualified (R306). -/
structure ClkS where
  held : Bool
  tbQualAt : Nat
  deriving DecidableEq, Repr

def ClkS.init : ClkS := ⟨false, 0⟩



/-- The start-up sequence (chapter 12). -/
structure StartS where
  /-- R318: the step in progress, 1 to 9, and the boundary (nb) at which it began. -/
  step : Nat
  since : Nat
  /-- R318: the tests of step 7 have begun; the bring-up of step 8 has ended. -/
  begun : Bool
  brought : Bool
  /-- R320: the kernel has failed; only RESET_N ends this. -/
  dead : Bool
  deriving DecidableEq, Repr

def StartS.init : StartS := ⟨1, 0, false, false, false⟩

/-- R337: a message verification in progress. -/
structure SigReq where
  key : Nat
  purpose : Nat
  msg : List Nat
  deriving DecidableEq, Repr

/-- R297, R335, R420: the image session: its path, its sender on the peer plane, its slot (1: slot B), LENGTH, the next
offset, the boundary (nbRun) of its last chunk, and whether the image is being verified. -/
structure Session where
  peer : Bool
  sender : Option Nat
  slotB : Bool
  len : Nat
  next : Nat
  last : Nat
  verifying : Bool
  deriving DecidableEq, Repr

/-- R331: what a margin record holds of a patch beside its offset in force, its RETIRED flag and its strikes: MOFS of the
record, MOFS_NEXT, PLAN_HOURS, PM_BASE. -/
structure MargS where
  mofs : Nat
  next : Option Nat
  plan : Nat
  base : Int
  deriving DecidableEq, Repr

def MargS.init : MargS := ⟨0, none, 0, 0⟩

/-- The NVM and its controller (R321 to R337). -/
structure NvmS where
  /-- R323: the flash by byte address; an unlisted byte is erased and reads 0xFF. -/
  flash : List Host.Cell
  /-- R329: public keys of the four key slots. -/
  keys : Tab (Option (List Nat))
  sig : Option SigReq
  session : Option Session
  /-- R331: boundary (nb) of the first change the margin area does not hold yet. -/
  margDue : Option Nat
  marg : Tab MargS
  deriving DecidableEq, Repr

def NvmS.init : NvmS := ⟨[], [], none, none, none, []⟩



/-- R340, R341: a slice that waits for its region or runs: its boundary (nbRun) of GO or of taking the region, its budget
in picks, and the settings saved (R354). -/
structure Slice where
  id : Nat
  field : Nat
  patch : Nat
  run : Bool
  at_ : Nat
  budget : Nat
  saved : List (Nat × Word)
  /-- R122, R356: the sentinel guard it works at is known complete. -/
  go : Bool := false
  deriving DecidableEq, Repr

/-- R351, R352: the stress test of a field. -/
structure Stress where
  /-- BT_FSTAT.PHASE: 0 none, 1 to 6, 7 done; RESULT. -/
  phase : Nat
  result : Nat
  hotShort : Bool
  raises : Nat
  failSlice : Nat
  failed : Bool
  retest : Bool
  /-- Boundaries (nbRun) at which the test and the phase began. -/
  from_ : Nat
  phaseAt : Nat
  /-- Raises per patch, and patches returned from a proposed offset. -/
  raised : Tab Nat
  returned : List Nat
  deriving DecidableEq, Repr

def Stress.init : Stress := ⟨0, 0, false, 0, 0, false, false, 0, 0, [], []⟩

/-- The self-test engine (chapter 13). -/
structure TestS where
  slices : List Slice
  stress : Tab Stress
  /-- R341: the next 64 KB segment of SRAM to scrub. -/
  scrub : Nat
  deriving DecidableEq, Repr

def TestS.init : TestS := ⟨[], [], 0⟩


/-- R362: the twelve fault classes. -/
inductive FClass where
  | elec | therm | clock | ctrl | sense | peer | bus | mem | ledger | config | secure | selftest
  deriving DecidableEq, Repr

/-- R362: code of a class. -/
def FClass.code : FClass → Nat
  | .elec => 0 | .therm => 1 | .clock => 2 | .ctrl => 3 | .sense => 4 | .peer => 5 | .bus => 6 | .mem => 7
  | .ledger => 8 | .config => 9 | .secure => 10 | .selftest => 11

/-- A report waiting for the collector: what its source said, and the boundary count at which it arose. -/
structure Report where
  cls : Nat
  typ : Nat
  field : Nat
  index : Nat
  sub : Nat
  value : Nat
  job : Option Nat
  addr : Nat
  master : Nat
  access : Nat
  forced : Bool
  at_ : Nat
  deriving DecidableEq, Repr

/-- R364: an accepted record. -/
structure Rec where
  cls : Nat
  typ : Nat
  level : Nat
  forced : Bool
  h : Bool
  field : Nat
  index : Nat
  sub : Nat
  value : Nat
  job : Option Nat
  stamp : Nat
  deriving DecidableEq, Repr

/-- R366: what a host notice carries (R369); owed until written or its class is cleared. -/
structure Owed where
  cls : Nat
  w0 : Nat
  w1 : Nat
  deriving DecidableEq, Repr

/-- R368: what the collector keeps per class beside FC_STATE and FC_UNCLR. -/
structure ClassS where
  /-- Boundary count at which the escalation timer was set; none while stopped. -/
  timer : Option Nat
  /-- No bolt boundary since the present level was set: records join. -/
  joining : Bool
  /-- Fields named by records since the class left IDLE. -/
  fields : List Nat
  /-- A record of the central manager is among them. -/
  central : Bool
  /-- The class's latest record. -/
  latest : Option Rec
  deriving DecidableEq, Repr

def ClassS.init : ClassS := ⟨none, false, [], false, none⟩

/-- The fault collector's own state (chapter 14). -/
structure FaultS where
  raised : List Report
  cls : Tab ClassS
  owed : List Owed
  /-- R370: boundary count at which L4 was reached; the reset is due at the second bolt boundary after it. -/
  l4 : Option Nat
  /-- R370: bolt boundaries since L4. -/
  l4Bolts : Nat
  /-- R370: bolts of READY since the last L4. -/
  readyBolts : Nat
  deriving DecidableEq, Repr

def FaultS.init : FaultS := ⟨[], [], [], none, 0, 0⟩



/-- R378: a histogram definition: source, EXTREME, LO and W. -/
structure HDef where
  src : Nat
  ext : Bool
  lo : Int
  w : Nat
  deriving DecidableEq, Repr

/-- R382: an extreme: value, LOC, H and timestamp. -/
structure Ext where
  val : Int
  loc : Nat
  h : Bool
  stamp : Nat
  deriving DecidableEq, Repr

/-- R378: the accumulator of one definition of one field. -/
structure Hist where
  bins : List Nat
  total : Nat
  max : Option Ext
  min : Option Ext
  deriving DecidableEq, Repr

def Hist.init : Hist := ⟨[], 0, none, none⟩

/-- R378: the ROM's definitions. -/
def romDefs : List HDef :=
  [⟨0, true, 480, 24⟩, ⟨1, true, 0, 2⟩, ⟨2, false, 0, 1⟩, ⟨3, false, 0, 6⟩, ⟨4, false, 20, 10⟩, ⟨5, true, 0, 160⟩]

/-- The event recorder (chapter 15). -/
structure RecS where
  defs : List HDef
  /-- R377, R378: accumulators by field × 16 + definition. R382: the nine COUNTS of a field, field × 9 + k. -/
  hist : Tab Hist
  cnt : Tab Nat
  /-- R382: the WAFER quantities: BU_WAFER_E at the start of the period, bolts, least and greatest cap, selvedge stops. -/
  energy0 : Nat
  capBolts : Nat
  deferBolts : Nat
  holdBolts : Nat
  caps : Option (Nat × Nat)
  stops : Nat
  /-- R382: some tile-rail class was held in the present bolt. -/
  heldBolt : Bool
  /-- R381: some pick of the period was timed in holdover; the period began at a shutdown. -/
  hSeen : Bool
  cut : Bool
  /-- EV_HOURS at the start of the period, and as the margin copy header gave it at this start (R379). -/
  since : Nat
  hours0 : Nat
  /-- R379: boundaries (nb) at the last unit counted. -/
  hourAt : Nat
  /-- R380: records to be written, oldest first: their first 56 bytes with SEQ zero. -/
  pend : List (List Nat)
  /-- R384: one more than the SEQ of the newest record of a series, by KIND × 4096 + DEF × 128 + FIELD. R381: the next SEQ. -/
  series : Tab Nat
  next : Nat
  /-- R389: the clear key stands; sectors that the clear has still to erase. -/
  keyOk : Bool
  clear : List Nat
  /-- R386: an orderly shutdown is due at the next boundary. -/
  shutDue : Bool
  /-- R388: a read of EV_CURSOR is in progress. -/
  reading : Bool
  deriving DecidableEq, Repr

def RecS.init : RecS :=
  { defs := romDefs, hist := [], cnt := [], energy0 := 0, capBolts := 0, deferBolts := 0, holdBolts := 0, caps := none, stops := 0, heldBolt := false
    hSeen := false, cut := false, since := 0, hours0 := 0, hourAt := 0, pend := [], series := [], next := 0, keyOk := false
    clear := [], shutDue := false, reading := false }



/-- R422: the life cycle. -/
inductive LifeCycle where
  | blank | test | field | ret
  deriving DecidableEq, Repr

/-- Management access (chapter 17). -/
structure MgmtS where
  /-- R422: the life cycle that applies, taken from the fuses at the fall of RESET_N. -/
  lc : LifeCycle
  /-- R414: STATUS_CML; R413: STATUS_WORD as it last stood; the bytes the slave last answered. -/
  cml : Nat
  word : Nat
  reply : List Nat
  /-- R427 to R429: the TAP's instruction, its data register as captured, the boundary register, EXTEST in effect. -/
  ir : Nat
  dr : Nat
  bsr : Nat
  extest : Bool
  /-- R18, R425: the start pick written; the pick at which the armed trace starts; STOP has been written. -/
  traceSet : Nat
  traceAt : Nat
  traceStop : Bool
  /-- R382: CAUSE of this start. -/
  cause : Nat
  deriving DecidableEq, Repr

def MgmtS.init : MgmtS := ⟨.blank, 0, 0, [], 1, 0, 0, false, 0, 0, false, 0⟩


/-- The fuses and what only the fuse commands and the READY commit touch (R333, R422, R430). -/
structure Fuses where
  lc : LifeCycle
  rootSet : Bool
  /-- R326: the root key hash, SHA-384, where it is fused. -/
  rootHash : Nat
  keySet : Bool
  keyKilled : Bool
  calibrated : Bool
  secver : Nat
  site : Nat
  rev : Nat
  deriving DecidableEq, Repr

/-- Everything of Jenuz but its fuses and the waiting commands. -/
structure Dev where
  /-- Registers by byte address; an unlisted one reads its reset value. -/
  regs : Tab Word
  /-- Manager SRAM by byte offset. -/
  sram : List Host.Cell
  /-- R18, R409: shadows by master and high address: the word and the H bit. -/
  shadow : Tab (Word × Bool)
  /-- R15, R18: the word the last register access answered. -/
  busData : Word
  pins : Pins
  time : TimeS
  pat : Tab PatchS
  dom : Tab DomS
  fld : Tab FieldS
  cls : Tab ClassB
  tile : Tab TileS
  inst : Tab InstS
  bud : BudgetS
  led : LedgerS
  rp : ReplayS
  fc : FaultS
  pp : PeerS
  clk : ClkS
  start : StartS
  nv : NvmS
  test : TestS
  ev : RecS
  mg : MgmtS
  sel : SelS
  /-- R269: tier A channels by field × 32 + channel. R271: boundary (nbRun) of an optical engine's last report. -/
  chan : Tab ChanS
  opt : Tab Nat
  out : List Out
  /-- R219, R235, R369: host queues, by handle, that refuse a write (full, without a reader, or invalid), as last seen. -/
  hostFull : List Nat
  /-- Counter of the free values taken: the model's own field. Log entry 3. -/
  fresh : Nat
  deriving DecidableEq, Repr

/-- The state of the machine: the commands that wait, first in first out, the fuses, and the rest. -/
structure State where
  pending : List Instr
  fuses : Fuses
  dev : Dev
  deriving DecidableEq, Repr

/-- Everything of Jenuz at reset but its fuses: every register at its reset value, nothing in progress. RESET_N has risen
and its release is not yet synchronised: step 1 of R318. Log entries 6 to 11. -/
def Dev.init : Dev :=
  { regs := [], sram := [], shadow := [], busData := 0, pins := ⟨true, false, 0⟩, time := .init, pat := [], dom := [], fld := []
    cls := [], tile := [], inst := [], bud := .init, led := .init, rp := .init, fc := .init, pp := .init, clk := .init
    start := .init, nv := .init, test := .init, ev := .init, mg := .init, sel := .init, chan := [], opt := [], out := []
    hostFull := [], fresh := 0 }

/-- The state right after reset: no command waits; a device from manufacture, nothing fused (R422; log entry 12). -/
def State.reset : State := ⟨[], ⟨.blank, false, 0, false, false, false, 0, 0, 0⟩, .init⟩

/-- Why a command stops. No command of the table stops: the type has no constructor. -/
inductive Fault : Type where
  deriving DecidableEq, Repr

/-- Why a command is refused. -/
inductive Refusal where
  /-- The command has no meaning in this model yet; raised by the dispatcher only; safe. -/
  | notModelled (mnemonic : String)
  deriving DecidableEq, Repr

end Sys2Proof.Machine
end

