-- ==== Sys2Proof/Machine/Ops.lean ====
section
/-! DEFINITION. The named operations every meaning is built from: reading and writing register fields, the numbered parts
of the state, timers (R22), timestamps (R36), fault reports (R362), suspect marks (R200), free values. -/

namespace Sys2Proof.Machine

/-- R363: the rows of the table of types: class, type, default level, lowest and highest level. -/
def typeRows : List (Nat × Nat × Nat × Nat × Nat) :=
  [(0,1,0,0,4),(0,2,1,1,4),(0,3,1,0,4),(0,4,0,0,4),(0,5,1,1,4),(0,6,1,1,4),(0,7,0,0,4),
   (1,1,2,2,4),(1,2,2,2,4),(1,3,2,2,4),(1,4,0,0,4),(1,5,1,0,4),(1,6,0,0,4),(1,7,1,0,4)] ++
  [(2,1,1,0,4),(2,2,0,0,4),(2,3,1,0,4),(2,4,0,0,4),(2,5,1,1,4),(2,6,1,1,4),(2,7,0,0,4),(2,8,0,0,4),(2,9,1,0,4),
   (2,10,0,0,4),(2,11,0,0,4),(2,12,0,0,4),(3,1,0,0,4),(3,2,1,1,4),(3,3,2,0,4)] ++
  [(4,1,0,0,4),(4,2,1,0,4),(4,3,1,0,4),(4,4,1,0,4),(4,5,1,0,4),(5,1,0,0,4),(5,2,0,0,4),(5,3,0,0,4),(5,4,0,0,4),
   (6,1,1,0,4),(6,2,1,0,4),(7,1,0,0,4),(7,2,4,4,4),(7,3,2,2,4),(7,4,4,4,4)] ++
  [(8,1,2,2,4),(8,2,0,0,4),(9,1,1,0,4),(9,2,1,0,4),(9,3,1,0,4),(9,4,1,0,4),(10,1,1,0,4),(10,2,0,0,4),
   (11,1,4,4,4),(11,2,3,3,4),(11,3,3,3,4),(11,4,0,0,4),(11,5,1,0,4),(11,6,1,0,4),(11,7,0,0,4)]

/-- R363: default, lowest and highest level of a type; none for a type without a row. -/
def typeRow (c t : Nat) : Option (Nat × Nat × Nat) :=
  (typeRows.find? fun r => r.1 = c && r.2.1 = t).map fun r => r.2.2

/-- R363: the reset word of FC_LVL_c: types 0 to 7 (hi = 0) or 8 to 15 (hi = 1). -/
def lvlReset (c hi : Nat) : Nat :=
  sumN ((List.range 8).map fun t => ((typeRow c (8 * hi + t)).map (·.1)).getD 0 * 2 ^ (3 * t))

/-- Reset words that depend on the index of the register: per-loop settings (R106, R107), the levels of R363, R248's
AUDIT_DEF, and the host context 0 (R432's table). -/
def resetSpecial (a : Nat) : Option Nat :=
  match placeOf a with
  | none => none
  | some pl =>
    match pl.blk with
    | .ce =>
      if pl.off = 0x2108 then some (0x00F0FF10) else if pl.off = 0x2148 then some 0x0000FFA8
      else if pl.off = 0x2188 then some 0x00580000
      else if pl.off = 0x210C then some 60 else if pl.off = 0x214C then some 0xFFE0 else if pl.off = 0x218C then some 24
      else if pl.off = 0x2110 then some 4
      else if pl.off = 0x2118 then some 200 else if pl.off = 0x2158 then some 400 else if pl.off = 0x2198 then some 16
      else if pl.off = 0x4108 then some 0xFFE0FFE0
      else if 0x4140 ≤ pl.off ∧ pl.off < 0x4A40 ∧ pl.off % 0x40 = 8 then some 0x00180018
      else none
    | .bu =>
      if pl.off = 0x880C then some 49152 else if pl.off = 0x8818 then some 4000
      else if pl.off = 0x8C08 ∨ pl.off = 0x8C4C then some 163200 else none
    | .fc => if 0x300 ≤ pl.off ∧ pl.off < 0x360 then some (lvlReset ((pl.off - 0x300) / 8) (pl.off / 4 % 2)) else none
    | .lg => if 0x1400 ≤ pl.off ∧ pl.off < 0x1500 then some 16 else none
    | .jz => if pl.off = 0x20 then some 7 else none
    | _ => none

/-- The word a register reads where nothing has been written: its reset value (R49 and the other register tables). -/
def resetWord (a : Nat) : Word :=
  BitVec.ofNat 32 (match resetSpecial a with
    | some w => w
    | none => match fieldsAt a with
      | some fs => fieldsReset fs
      | none => 0)

/-- The stored word of a register. -/
def Dev.reg (d : Dev) (a : Nat) : Word := tget (resetWord a) d.regs a

/-- Store a register word. -/
def Dev.setReg (a : Nat) (v : Word) (d : Dev) : Dev := { d with regs := tput (resetWord a) a v d.regs }

/-- A field of a word. -/
def fldGet (fl : Fld) (w : Word) : Nat := bitsOf w.toNat fl.lo fl.w

/-- A word with a field replaced. -/
def fldSet (fl : Fld) (v : Nat) (w : Word) : Word :=
  BitVec.ofNat 32 (w.toNat / 2 ^ (fl.lo + fl.w) * 2 ^ (fl.lo + fl.w) + v % 2 ^ fl.w * 2 ^ fl.lo + w.toNat % 2 ^ fl.lo)

/-- Read a register field as a number. -/
def Dev.rd (d : Dev) (fl : Fld) : Nat := fldGet fl (d.reg fl.addr)

/-- Read a one-bit field. -/
def Dev.rdB (d : Dev) (fl : Fld) : Bool := d.rd fl ≠ 0

/-- Read a field as two's complement. -/
def Dev.rdS (d : Dev) (fl : Fld) : Int := signedOf fl.w (d.rd fl)

/-- Write a register field. -/
def Dev.wr (fl : Fld) (v : Nat) (d : Dev) : Dev := d.setReg fl.addr (fldSet fl v (d.reg fl.addr))

/-- Write a one-bit field. -/
def Dev.wrB (fl : Fld) (b : Bool) (d : Dev) : Dev := d.wr fl (b01 b)

/-- Write a field as two's complement. -/
def Dev.wrS (fl : Fld) (z : Int) (d : Dev) : Dev := d.wr fl (unsignedOf fl.w z)

/-- Add to a counter field, held at its highest value. -/
def Dev.add (fl : Fld) (n : Nat) (d : Dev) : Dev := d.wr fl (satN (2 ^ fl.w - 1) (d.rd fl + n))

/-- Count one in a saturating counter field. -/
def Dev.inc (fl : Fld) (d : Dev) : Dev := d.add fl 1

/-- Apply a step for each number below n, in rising order. -/
def forN (n : Nat) (g : Nat → Dev → Dev) (d : Dev) : Dev := (List.range n).foldl (fun d i => g i d) d

/-- Apply a step for each element of a list, in order. -/
def forL {α : Type} (l : List α) (g : α → Dev → Dev) (d : Dev) : Dev := l.foldl (fun d x => g x d) d

/-- Apply a step if a condition holds. -/
def onlyIf (b : Bool) (g : Dev → Dev) (d : Dev) : Dev := if b then g d else d

/-! Numbered parts of the state. -/

def Dev.pt (d : Dev) (f p : Nat) : PatchS := tget PatchS.init d.pat (pkey f p)
def Dev.updPt (f p : Nat) (g : PatchS → PatchS) (d : Dev) : Dev := { d with pat := tupd PatchS.init (pkey f p) g d.pat }
def Dev.dm (d : Dev) (f k : Nat) : DomS := tget DomS.init d.dom (dkey f k)
def Dev.updDm (f k : Nat) (g : DomS → DomS) (d : Dev) : Dev := { d with dom := tupd DomS.init (dkey f k) g d.dom }
def Dev.fd (d : Dev) (f : Nat) : FieldS := tget FieldS.init d.fld f
def Dev.updFd (f : Nat) (g : FieldS → FieldS) (d : Dev) : Dev := { d with fld := tupd FieldS.init f g d.fld }
def Dev.cl (d : Dev) (f c : Nat) : ClassB := tget ClassB.init d.cls (ckey f c)
def Dev.updCl (f c : Nat) (g : ClassB → ClassB) (d : Dev) : Dev := { d with cls := tupd ClassB.init (ckey f c) g d.cls }
def Dev.ti (d : Dev) (f p t : Nat) : TileS := tget TileS.init d.tile (tkey f p t)
def Dev.updTi (f p t : Nat) (g : TileS → TileS) (d : Dev) : Dev := { d with tile := tupd TileS.init (tkey f p t) g d.tile }
def Dev.ins (d : Dev) (f i : Nat) : InstS := tget InstS.init d.inst (ikey f i)
def Dev.updIn (f i : Nat) (g : InstS → InstS) (d : Dev) : Dev := { d with inst := tupd InstS.init (ikey f i) g d.inst }
def Dev.ent (d : Dev) (k : Nat) : Option Entry := tget none d.led.ents k
def Dev.setEnt (k : Nat) (e : Option Entry) (d : Dev) : Dev := { d with led := { d.led with ents := tput none k e d.led.ents } }
def Dev.recd (d : Dev) (k : Nat) : Option RRec := tget none d.rp.recs k
def Dev.setRecd (k : Nat) (r : Option RRec) (d : Dev) : Dev := { d with rp := { d.rp with recs := tput none k r d.rp.recs } }
def Dev.job (d : Dev) (j : Nat) : Option JobE := tget none d.bud.jobs j
def Dev.setJob (j : Nat) (e : Option JobE) (d : Dev) : Dev := { d with bud := { d.bud with jobs := tput none j e d.bud.jobs } }

/-- The admitted jobs with their entries of the job table. -/
def Dev.jobList (d : Dev) : List (Nat × JobE) := d.bud.jobs.filterMap fun (j, e) => e.map (j, ·)

/-- The entry of an admitted job number. -/
def Dev.jobNo (d : Dev) (n : Nat) : Option (Nat × JobE) := d.jobList.find? fun x => x.2.job = n

/-- The live ledger entries. -/
def Dev.live (d : Dev) : List (Nat × Entry) := d.led.ents.filterMap fun (k, e) => e.map (k, ·)

/-- The replay records in use. -/
def Dev.recList (d : Dev) : List (Nat × RRec) := d.rp.recs.filterMap fun (k, r) => r.map (k, ·)

/-- The tiles of a patch that the state lists, with their numbers. -/
def Dev.tilesOf (d : Dev) (f p : Nat) : List (Nat × TileS) :=
  d.tile.filterMap fun (k, t) => if k / 256 = pkey f p then some (k % 256, t) else none

/-- The tiles of a domain that the state lists, with patch and number. -/
def Dev.tilesOfDom (d : Dev) (f k : Nat) : List (Nat × Nat × TileS) :=
  (patchesOf k).flatMap fun p => (d.tilesOf f p).map fun (n, t) => (p, n, t)

/-- Fields the field map enables (R328). -/
def Dev.enabled (d : Dev) : List Nat := (List.range Config.nFields).filter fun f => (d.fd f).enable

/-- R97, R148: a field brought up and not stopped. -/
def Dev.inService (d : Dev) (f : Nat) : Bool := (d.fd f).up && (d.fd f).stop = .none

/-- Fields in service. -/
def Dev.serving (d : Dev) : List Nat := (List.range Config.nFields).filter d.inService

/-- R158, R160: the pre-positions of a field in force at a count. -/
def Dev.preposAt (d : Dev) (f c : Nat) : List Prepos := (d.fd f).prepos.filter fun x => x.start ≤ c ∧ c < x.until_

/-- R46: the manager is stopped. -/
def Dev.stopped (d : Dev) : Bool := d.rdB TB_STATUS_STOPPED

/-- R21: a periodic period of n picks begins at the present boundary, at its count or by a forward step (R25). -/
def Dev.periodic (d : Dev) (n : Nat) : Bool := d.time.count % n = 0 || d.time.stepped

/-- R22: a timer of n boundaries set at s has expired, by the boundaries outside global stops. -/
def Dev.expired (d : Dev) (s n : Nat) : Bool := decide (s + 1 + n ≤ d.time.nbRun)

/-- R22: a timer of n boundaries that an event of the boundary s set has expired: the example of R220 counts from s. -/
def Dev.passed (d : Dev) (s n : Nat) : Bool := decide (s + n ≤ d.time.nbRun)

/-- R45: a timer that runs through a global stop has expired. -/
def Dev.expiredAll (d : Dev) (s n : Nat) : Bool := decide (s + 1 + n ≤ d.time.nb)

/-- 0 acts as n. -/
def orDef (v n : Nat) : Nat := if v = 0 then n else v

/-- R36: the timestamp of a sub-pick of the present pick. -/
def Dev.stamp (d : Dev) (sub : Nat) : Nat := d.time.count % 2 ^ 52 * 4096 + sub % 4096

/-- R37: H of a timestamp taken now. -/
def Dev.hNow (d : Dev) : Bool := d.rdB TB_STATUS_H

/-- A fresh free value; nothing is known of it. Log entry 3. -/
def Dev.free (d : Dev) : Word := Config.freeWord d.fresh
def Dev.takeFree (d : Dev) : Dev := { d with fresh := d.fresh + 1 }

/-- Something leaves Jenuz. -/
def Dev.emit (o : Out) (d : Dev) : Dev := { d with out := o :: d.out }

/-- R362: FIELD of a record of the central manager. -/
def central : Nat := 0x7F

/-- A report of a fault with no more than its class, type and source. -/
def Dev.report (d : Dev) (c : FClass) (t field index : Nat) : Report :=
  { cls := c.code, typ := t, field, index, sub := 0, value := 0, job := none, addr := 0, master := 15, access := 3
    forced := false, at_ := d.time.nb }

/-- A source reports a fault; the collector accepts it in FAULT_RECORD. -/
def Dev.raiseR (r : Report) (d : Dev) : Dev := { d with fc := { d.fc with raised := d.fc.raised ++ [r] } }

/-- A source reports a fault with no more than its class, type and source. -/
def Dev.raise (c : FClass) (t field index : Nat) (d : Dev) : Dev := d.raiseR (d.report c t field index)

/-- R42: which registers are RWL registers: those whose writable fields are all RWL. -/
def isRWL (fs : List FldRow) : Bool :=
  fs.any (·.acc = .rwl) && fs.all fun r => r.acc = .rwl || r.acc = .ro || r.acc = .wo

/-- R318: READY. -/
def Dev.ready (d : Dev) : Bool := d.rdB JZ_STATUS_READY

/-- R330: CONFIG_LOCK is set. -/
def Dev.locked (d : Dev) : Bool := d.rdB JZ_CONFIG_CONFIG_LOCK

/-- R365: the 16-bit counters of a block saturate; a bit of a bitmap field. -/
def Dev.bit (d : Dev) (fl : Fld) (i : Nat) : Bool := bitOf (d.rd fl) i

/-- A change of everything but the queue and the fuses. -/
def State.onDev (g : Dev → Dev) (s : State) : State := { s with dev := g s.dev }

/-- A change of the timebase unit's own state. -/
def Dev.updTime (g : TimeS → TimeS) (d : Dev) : Dev := { d with time := g d.time }

/-! Suspect marks (R199, R200). -/

/-! R201: a StepTag. -/
def tagJob (t : Nat) : Nat := t % 4096
def tagSeq (t : Nat) : Nat := t / 4096 % 2 ^ 36
def tagFoot (t : Nat) : Nat := t / 2 ^ 48 % 2 ^ 16
def footTiles (foot : Nat) : Nat := foot % 4096
def footSpan (foot : Nat) : Nat := foot / 4096

/-- The steps begun on a patch: job and sequence of its tiles' present steps. -/
def Dev.openSteps (d : Dev) (f p : Nat) : List (Nat × Nat) := distinct ((d.tilesOf f p).filterMap fun x => x.2.cur)

/-- The begins of a patch that the ledger has not applied: they wait for GO, or for the next boundary. -/
def Dev.beginsOut (d : Dev) (f p : Nat) : List BeginM :=
  (d.led.waits ++ d.led.later.filterMap fun x => match x with | .begin_ m => some m | _ => none).filter fun m =>
    m.field = f && m.patch = p

/-- R199: the steps open on a patch, from the tile cycle in which a tile issues the begin marker. -/
def Dev.markSteps (d : Dev) (f p : Nat) : List (Nat × Nat) :=
  distinct (d.openSteps f p ++ (d.beginsOut f p).map fun m => (tagJob m.tag, tagSeq m.tag))

/-- R200: a mark that names some steps sets out for the ledger. -/
def Dev.sendMark (c : Cause) (f : Nat) (ps : List Nat) (steps : List (Nat × Nat)) (d : Dev) : Dev :=
  if steps = [] then d
  else { d with led := { d.led with marks := d.led.marks ++
    [{ cause := c, field := f, patches := ps, steps, fidx := ps.map fun p => d.rd (ST_OP_PATCH_FIDX f p) }] } }

/-- R199, R200: mark the steps open on some patches of a field; the ledger applies the mark later. -/
def Dev.markOpen (c : Cause) (f : Nat) (ps : List Nat) (d : Dev) : Dev :=
  d.sendMark c f ps (distinct (ps.flatMap fun p => d.markSteps f p))

/-! The margin area's working copy (R331) and the recorder's counts (R382), which several chapters change. -/

def Dev.updNv (g : NvmS → NvmS) (d : Dev) : Dev := { d with nv := g d.nv }

def Dev.marg (d : Dev) (f p : Nat) : MargS := tget MargS.init d.nv.marg (pkey f p)
def setMarg (f p : Nat) (g : MargS → MargS) (d : Dev) : Dev := d.updNv fun x => { x with marg := tupd MargS.init (pkey f p) g x.marg }

/-- R331: a change that the margin area must hold. -/
def margDirty (d : Dev) : Dev := d.updNv fun x => { x with margDue := match x.margDue with | some t => some t | none => some d.time.nb }

/-- R382: the COUNTS of a field: 2 MARKS, 3 TS_SUSPECT, 4 STRIKES, 5 RAISES, 6 RETIRED. -/
def countRec (f k : Nat) (d : Dev) : Dev := { d with ev := { d.ev with cnt := tupd 0 (f * 9 + k) (fun n => satN 0xFFFFFFFF (n + 1)) d.ev.cnt } }

/-- R313, R314: the block of a gate accepts accesses. -/
def Dev.gateOk (d : Dev) (b : Nat) : Bool :=
  d.rdB (CK_GATE_EN b) && d.rdB (CK_GATE_STAT_OPEN_BIT b) && !d.rdB (CK_GATE_STAT_QUIESCE_BIT b)

/-- R311, R424: a counter of the debug block, which holds its value while the block's gate is closed. -/
def dbInc (fl : Fld) (d : Dev) : Dev := if d.gateOk 11 then d.inc fl else d

/-! The error pin (R371), STATUS_WORD (R415) and the alert (R413). -/

/-- R371: ERR_LEVEL in effect. -/
def Dev.errLevel (d : Dev) : Nat := min 4 (d.rd FC_CFG_ERR_LEVEL)

/-- R371: a class holds an uncleared record at or above ERR_LEVEL. -/
def Dev.classErr (d : Dev) (c : Nat) : Bool := d.rdB (FC_UNCLR_ANY c) && decide (d.errLevel ≤ d.rd (FC_UNCLR_MAX c))

/-- R9, R10, R310, R320, R371: JZ_ERR_N is driven low. -/
def Dev.errLow (d : Dev) : Bool :=
  !d.pins.resetN || !d.rdB JZ_STATUS_KERNEL_OK || !d.rdB CK_STATUS_ROSC_RUN || (List.range 12).any d.classErr

/-- R191: a cap decrease is deferred. -/
def Dev.capDeferred (d : Dev) : Bool := d.bud.tray.defer.isSome || d.bud.rack.defer.isSome

/-- R417: byte 1 of MFR_JZ_STATUS. -/
def Dev.mfrByte1 (d : Dev) : Nat :=
  d.rd JZ_SVC_STATUS_REQUEST + d.rd JZ_SVC_STATUS_LATCHED * 2 + b01 d.errLow * 16
    + b01 (d.rd TB_STATUS_MODE = 2 ∨ d.rd TB_STATUS_MODE = 3) * 32 + b01 d.capDeferred * 64 + d.rd EV_STATUS_SHUT_DONE * 128

/-- R415: STATUS_WORD. -/
def Dev.statusWord (d : Dev) : Nat :=
  let notReady := b01 (!d.ready)
  let off := b01 (!d.ready || d.rd JZ_SEL_STATUS_STATE ≠ 1)
  let temp := b01 (d.rdB JZ_SEL_STATUS_CAUSE_TRIP || d.classErr 1)
  let cml := b01 (d.mg.cml ≠ 0)
  let high := d.rd JZ_SEL_STATUS_CAUSE_COOL * 2 + notReady * 8 + b01 (d.mfrByte1 ≠ 0) * 16
  b01 (high ≠ 0 ∧ off = 0 ∧ temp = 0 ∧ cml = 0) + cml * 2 + temp * 4 + off * 64 + high * 256

/-- R318, R320, R338, R412: the PMBus slave works from the end of step 2, unless the kernel has failed. -/
def Dev.slaveOn (d : Dev) : Bool := d.pins.resetN && decide (3 ≤ d.start.step) && !d.start.dead

/-- A change of the selvedge's own state. -/
def Dev.updSel (g : SelS → SelS) (d : Dev) : Dev := { d with sel := g d.sel }

/-- A change of management state. -/
def Dev.updMg (g : MgmtS → MgmtS) (d : Dev) : Dev := { d with mg := g d.mg }

/-- R413: the alert goes low where a bit of STATUS_WORD that ALERT_MASK selects has changed from 0 to 1. -/
def settle (d : Dev) : Dev :=
  if d.slaveOn then
    let w := d.statusWord
    if w = d.mg.word then d
    else
      let rises := (List.range 16).any fun i => bitOf w i && !bitOf d.mg.word i && d.bit PM_CFG_ALERT_MASK i
      onlyIf rises (·.wrB PM_STATUS_ALERT true) (d.updMg fun m => { m with word := w })
  else d

/-- A command that completes whatever RESET_N is: the next state is the change applied, with the alert as it then stands. -/
def always (g : Dev → Dev) (s : State) : Host.Outcome State Fault Refusal := .next (s.onDev fun d => settle (g d))

/-- R9, R11, R320: Jenuz is not held in reset: RESET_N is high, and the service kernel has not failed since it rose. -/
def Dev.released (d : Dev) : Bool := d.pins.resetN && !d.start.dead

/-- A command that completes: the next state is the change applied; while Jenuz is held in reset nothing changes. -/
def done (g : Dev → Dev) (s : State) : Host.Outcome State Fault Refusal := always (onlyIf s.dev.released g) s

end Sys2Proof.Machine
end

