-- ==== Sys2Proof/Machine/Time.lean ====
section
/-! DEFINITION. Chapter 01, time: the timing lane (R26 to R29), the modes of the timebase unit (R30 to R35), the
sentinels' counts (R39 to R41), the action slots (R42) and the arming of a stop and a resume (R45 to R48). What a pick
boundary does with them is in Boundary. -/

namespace Sys2Proof.Machine

/-! R49: codes of TB_STATUS.MODE. -/
def ACQUIRING : Nat := 0
def LOCKED : Nat := 1
def HOLDOVER : Nat := 2
def ALIGNING : Nat := 3
def NO_SOURCE : Nat := 4

/-- The mode of the timebase unit. -/
def Dev.mode (d : Dev) : Nat := d.rd TB_STATUS_MODE

/-- A command refused for the present state sets the block's STATE_CONFLICT. -/
def conflict (fl : Fld) (d : Dev) : Dev := d.wrB fl true

/-- R26: count of the pick that a pick word opens, and RACK_HOLD. -/
def frameCount (word : BitVec 64) : Nat := bitsOf word.toNat 0 52
def frameHold (word : BitVec 64) : Bool := bitOf word.toNat 52

/-- R27: the first three conditions: spacing, no code or disparity violation, and the CRC-16 of the pick word. -/
def frameSound (word : BitVec 64) (crc : BitVec 16) (spaced clean : Bool) : Bool :=
  spaced && clean && crc16 (leBytes 8 word.toNat) = crc.toNat

/-- R27: the fourth condition: continuity among the lane's own frames. -/
def frameContinuous (d : Dev) (c : Nat) : Bool :=
  match d.time.lane with
  | none => true
  | some r => c = r.count + r.periods + 1

/-- R27: a frame is valid. The frame opens the pick after the present one. -/
def frameValid (d : Dev) (word : BitVec 64) (crc : BitVec 16) (spaced clean : Bool) : Bool :=
  frameSound word crc spaced clean && frameContinuous d (frameCount word)
    && (d.mode ≠ LOCKED || frameCount word = d.time.count + 1)

/-- R27: the reference for continuity after a frame period. -/
def laneAfter (sound : Bool) (c : Nat) (l : Option LaneRef) : Option LaneRef :=
  if sound then some ⟨c, 0⟩ else l.map fun r => { r with periods := r.periods + 1 }

/-- R34: Δ in sub-picks: the lane's count at the SOF less the local timestamp there, which is `local_` sub-picks after
the boundary that opened the present pick. -/
def frameDelta (d : Dev) (c local_ : Nat) : Int := (c : Int) * 4096 - ((d.time.count * 4096 + local_ : Nat) : Int)

/-- R34: the part of the present pick's correction that the pick still makes after sub-pick at_. -/
def adjLeft (adj : Int) (at_ : Nat) : Int := adj * ((4096 - at_ : Nat) : Int) / 4096

/-- R27 to R30: a timing frame arrives. Of a correction under way the present pick still makes its rest. -/
def timingFrame (word : BitVec 64) (crc : BitVec 16) (spaced clean : Bool) (at_ : BitVec 13) (d : Dev) : Dev :=
  if d.time.laneOff then d else
  let c := frameCount word
  let lane := laneAfter (frameSound word crc spaced clean) c d.time.lane
  if frameValid d word crc spaced clean then
    (d.wrB TB_STATUS_RACK_HOLD (frameHold word)).updTime fun t =>
      { t with lane := lane, valid := t.valid + 1, invalid := 0, laneCount := c, delta := frameDelta d c at_.toNat - adjLeft t.adj at_.toNat }
  else
    (d.inc TB_LANE_ERR_COUNT).updTime fun t => { t with lane := lane, valid := 0, invalid := t.invalid + 1 }

/-- R30: TB_STATUS at an entry to LOCKED. -/
def enterLocked (d : Dev) : Dev :=
  ((d.wr TB_STATUS_MODE LOCKED).wrB TB_STATUS_H false).updTime fun t =>
    { t with lastLocked := t.nb, localDone := false, adj := 0, step := 0 }

/-- R30, R440: ACQUIRING to LOCKED; the next boundary loads the lane's count. -/
def tbLock (d : Dev) : Dev :=
  if d.mode = ACQUIRING ∧ 16 ≤ d.time.valid then
    ((enterLocked d).wrB TB_STATUS_RACK_FEAT true).updTime fun t => { t with load := some t.laneCount, delta := 0 }
  else d

/-- R30: ACQUIRING to HOLDOVER after 100 bolts on REFCLK. -/
def tbAcqTimeout (d : Dev) : Dev :=
  match d.time.acqFrom with
  | some s =>
    if d.mode = ACQUIRING ∧ d.expiredAll s 100000 then
      (((d.wr TB_STATUS_MODE HOLDOVER).wrB TB_STATUS_H true).wrB TB_STATUS_RACK_FEAT false).raise .clock 1 central 0
    else d
  | none => d

/-- R30: LOCKED or ALIGNING to HOLDOVER; corrections made are kept. -/
def tbLaneLost (d : Dev) : Dev :=
  if (d.mode = LOCKED ∨ d.mode = ALIGNING) ∧ 16 ≤ d.time.invalid then
    ((d.wr TB_STATUS_MODE HOLDOVER).updTime fun t => { t with adj := 0, step := 0, featPend := false }).raise .clock 2 central 0
  else d

/-- R30, R32: 1,000 bolts since the last LOCKED pick. Where no pick was ever LOCKED the limit counts from the first boundary.
DESIGN CHOICE, log entry 114. -/
def tbHoldoverLimit (d : Dev) : Dev :=
  if d.mode = HOLDOVER ∧ d.time.localDone = false ∧ d.expiredAll d.time.lastLocked 1000000 then
    ((d.wrB TB_STATUS_RACK_FEAT false).updTime fun t => { t with localDone := true }).raise .clock 3 central 0
  else d

/-- R35: Δ is more negative than −1,000,000 picks. -/
def tooFarAhead (delta : Int) : Bool := decide (delta < -(1000000 * 4096))

/-- R34, R35: HOLDOVER to ALIGNING, unless the lane is too far behind. AHEAD_LIMIT clears when an alignment starts.
DESIGN CHOICE, log entry 115. -/
def tbAlignStart (d : Dev) : Dev :=
  if d.mode = HOLDOVER ∧ 16 ≤ d.time.valid then
    if tooFarAhead d.time.delta then
      onlyIf (!d.rdB TB_STATUS_AHEAD_LIMIT) (·.raise .clock 5 central 0)
        ((d.wrB TB_STATUS_AHEAD_LIMIT true).wrB TB_STATUS_RACK_FEAT false)
    else (d.wr TB_STATUS_MODE ALIGNING).wrB TB_STATUS_AHEAD_LIMIT false
  else d

/-- R34: the whole picks of Δ are stepped over at the next boundary, which carries the step out. -/
def timeStep (d : Dev) : Dev :=
  if d.mode = ALIGNING ∧ 4096 ≤ d.time.delta then d.updTime fun t => { t with step := (t.delta / 4096).toNat } else d

/-- R30: Δ is zero within one sub-pick. -/
def tbAlignDone (d : Dev) : Dev :=
  if d.mode = ALIGNING ∧ (d.time.delta + d.time.adj).natAbs ≤ 1 then (enterLocked d).updTime fun t => { t with featPend := true } else d

/-- R40: the comparison of a bolt boundary found a sentinel's copy off by `ofs` picks; it is reloaded at the next one. -/
def countReload (f p : Nat) (ofs : Int) (d : Dev) : Dev :=
  if d.time.count % 1000 ≠ 0 ∨ tget none d.time.rerouted f ≠ none ∨ ofs = 0 ∨ tget 0 d.time.copyOfs (pkey f p) ≠ 0 then d
  else (d.updTime fun t => { t with copyOfs := tput 0 (pkey f p) ofs t.copyOfs }).raise .clock 11 f p

/-- Set a mark on the fields of a mask whose present mark satisfies a condition. -/
def markFields (fields : BitVec 96) (ok : Option Bool → Bool) (v : Bool) (l : Tab (Option Bool)) : Tab (Option Bool) :=
  (List.range 96).foldl (fun l f => if bitOf fields.toNat f && ok (tget none l f) then tput none f (some v) l else l) l

/-- R41: the manager net routes around a dead steward; the fields keep their own counts. -/
def netReroute (fields : BitVec 96) (d : Dev) : Dev :=
  d.updTime fun t => { t with rerouted := markFields fields (fun _ => true) false t.rerouted }

/-- R41: the delay of the new path is measured; the comparison resumes at the next bolt boundary. -/
def netDelayMeasured (fields : BitVec 96) (d : Dev) : Dev :=
  d.updTime fun t => { t with rerouted := markFields fields (·.isSome) true t.rerouted }

/-! R42: action slots. -/

def Dev.slot (d : Dev) (i : Nat) : Slot := tget Slot.init d.time.slots i
def Dev.updSlot (i : Nat) (g : Slot → Slot) (d : Dev) : Dev := d.updTime fun t => { t with slots := tupd Slot.init i g t.slots }
def Dev.actSel (d : Dev) : Nat := d.rd TB_ACT_SEL_SLOT

/-- R42: the address names a register with an RW, RWL, W1C or W1S field. -/
def writable (a : Nat) : Bool :=
  a % 4 = 0 && match fieldsAt a with
    | none => false
    | some fs => fs.any fun r => r.acc = .rw || r.acc = .rwl || r.acc = .w1c || r.acc = .w1s

/-- R42: the address names an RWL register. -/
def rwlReg (a : Nat) : Bool :=
  match fieldsAt a with
  | none => false
  | some fs => isRWL fs

/-- R42: the arming of a slot is accepted. -/
def armable (d : Dev) (s : Slot) : Bool :=
  decide (d.time.count + 2 ≤ s.at_) && writable s.addr && !(rwlReg s.addr && d.locked) && s.st = .free

/-- R42: TB_ACT_CMD.ARM. -/
def actArm (d : Dev) : Dev :=
  if armable d (d.slot d.actSel) then d.updSlot d.actSel fun s => { s with st := .armed }
  else conflict TB_STATUS_STATE_CONFLICT d

/-- R49: TB_ACT_CMD.CANCEL. -/
def actCancel (d : Dev) : Dev :=
  d.updSlot d.actSel fun s => if s.st = .armed then { s with st := .free } else s

/-- R49: TB_ACT_CMD.FREE. -/
def actFree (d : Dev) : Dev :=
  d.updSlot d.actSel fun s => if s.st = .done ∨ s.st = .missed then { s with st := .free } else s

/-- R45, R48: TB_STOP_CMD.ARM_STOP. The pick is the one TB_STOP_AT names now; writing it again does not move an armed stop.
DESIGN CHOICE, log entry 116. -/
def armStop (d : Dev) : Dev :=
  if d.stopped ∨ d.time.stopAt < d.time.count + 2 then conflict TB_STATUS_STATE_CONFLICT d
  else (d.wrB TB_STATUS_STOP_ARMED true).updTime fun t => { t with armStop := t.stopAt }

/-- R48: TB_STOP_CMD.ARM_RESUME; log entry 116. -/
def armResume (d : Dev) : Dev :=
  if !d.stopped ∨ d.time.resumeAt < d.time.count + 2 ∨ d.time.resumeAt % 1000 ≠ 0 then conflict TB_STATUS_STATE_CONFLICT d
  else (d.wrB TB_STATUS_RESUME_ARMED true).updTime fun t => { t with armResume := t.resumeAt }

/-- R49: TB_STOP_CMD.CANCEL. -/
def stopCancel (d : Dev) : Dev := (d.wrB TB_STATUS_STOP_ARMED false).wrB TB_STATUS_RESUME_ARMED false

/-! The commands. -/

/-- R27. -/
def execTimingFrame (word : BitVec 64) (crc : BitVec 16) (spaced clean : Bool) (at_ : BitVec 13) (s : State) :
    Host.Outcome State Fault Refusal := done (timingFrame word crc spaced clean at_) s
/-- R30. -/
def execTbLock (s : State) : Host.Outcome State Fault Refusal := done tbLock s
/-- R30. -/
def execTbAcqTimeout (s : State) : Host.Outcome State Fault Refusal := done tbAcqTimeout s
/-- R30. -/
def execTbLaneLost (s : State) : Host.Outcome State Fault Refusal := done tbLaneLost s
/-- R30, R32. -/
def execTbHoldoverLimit (s : State) : Host.Outcome State Fault Refusal := done tbHoldoverLimit s
/-- R34, R35. -/
def execTbAlignStart (s : State) : Host.Outcome State Fault Refusal := done tbAlignStart s
/-- R34. -/
def execTimeStep (s : State) : Host.Outcome State Fault Refusal := done timeStep s
/-- R30. -/
def execTbAlignDone (s : State) : Host.Outcome State Fault Refusal := done tbAlignDone s
/-- R40. -/
def execCountReload (f : Fin 96) (p : Fin 36) (ofs : Int) (s : State) : Host.Outcome State Fault Refusal :=
  done (countReload f.val p.val ofs) s
/-- R41. -/
def execNetReroute (fields : BitVec 96) (s : State) : Host.Outcome State Fault Refusal := done (netReroute fields) s
/-- R41. -/
def execNetDelayMeasured (fields : BitVec 96) (s : State) : Host.Outcome State Fault Refusal := done (netDelayMeasured fields) s
/-- R42. -/
def execActArm (s : State) : Host.Outcome State Fault Refusal := done actArm s
/-- R49. -/
def execActCancel (s : State) : Host.Outcome State Fault Refusal := done actCancel s
/-- R49. -/
def execActFree (s : State) : Host.Outcome State Fault Refusal := done actFree s
/-- R45. -/
def execArmStop (s : State) : Host.Outcome State Fault Refusal := done armStop s
/-- R48. -/
def execArmResume (s : State) : Host.Outcome State Fault Refusal := done armResume s
/-- R49. -/
def execStopCancel (s : State) : Host.Outcome State Fault Refusal := done stopCancel s

end Sys2Proof.Machine
end

