-- ==== Sys2Proof/Machine/Engine.lean ====
section
/-! DEFINITION. Chapter 03, the control engine: sections (R80 to R83), chains (R84 to R90), one sample of a loop
instance (R88 to R104), regions (R98, R99), commands and their safe values (R91, R94), re-arming (R105). L-CAP's engine
is the same code over its own registers (R107). The loops' own inputs are in Loops. -/

namespace Sys2Proof.Machine

/-- A loop instance: its key, how a record names it, its type (0 L-SLEW, 1 L-POWER, 2 L-THERM, 3 L-CAP) and where its
slots, settings, instance registers, region settings and voltage bands lie (R85, R106, R107). -/
structure LoopRef where
  key : Nat
  field : Nat
  index : Nat
  typ : Nat
  slots : Nat
  sets : Nat
  inst : Nat
  region : Nat
  vband : Nat
  deriving DecidableEq, Repr

/-- R85: instance i of field f. -/
def loopRef (f i : Nat) : LoopRef :=
  { key := ikey f i, field := f, index := i, typ := loopType i, slots := ceBase f
    sets := ceBase f + 0x2100 + loopType i * 0x40, inst := ceBase f + 0x4000 + i * 0x40
    region := ceBase f + 0x2018, vband := stBase f + 0x800C }

/-- R107: L-CAP. -/
def capRef : LoopRef :=
  { key := ikey 96 0, field := central, index := 0, typ := 3, slots := 0x20038000, sets := 0x20038800
    inst := 0x20038C00, region := 0x20038C44, vband := 0x20038C48 }

namespace LoopRef

/-! Fields of CE_INST_STATUS. -/
def frozen (l : LoopRef) : Fld := ⟨l.inst, 0, 1⟩
def sat (l : LoopRef) : Fld := ⟨l.inst, 1, 1⟩
def lim (l : LoopRef) : Fld := ⟨l.inst, 2, 1⟩
def rearmPend (l : LoopRef) : Fld := ⟨l.inst, 3, 1⟩
def pcnt (l : LoopRef) : Fld := ⟨l.inst, 4, 5⟩
def bank (l : LoopRef) : Fld := ⟨l.inst, 9, 3⟩
def stale (l : LoopRef) : Fld := ⟨l.inst, 12, 1⟩
/-! The other instance registers. -/
def inWord (l : LoopRef) : Fld := ⟨l.inst + 4, 0, 32⟩
def pred (l : LoopRef) : Fld := ⟨l.inst + 0xC, 0, 32⟩
def s1 (l : LoopRef) (j : Nat) : Fld := ⟨l.inst + 0x10 + j * 8, 0, 32⟩
def s2 (l : LoopRef) (j : Nat) : Fld := ⟨l.inst + 0x14 + j * 8, 0, 32⟩
def ms1 (l : LoopRef) (j : Nat) : Fld := ⟨l.inst + 0x30 + j * 8, 0, 32⟩
def ms2 (l : LoopRef) (j : Nat) : Fld := ⟨l.inst + 0x34 + j * 8, 0, 32⟩
/-- R107: L-CAP's commands have 18 bits and U_NEXT a register of its own. -/
def u (l : LoopRef) : Fld := ⟨l.inst + 8, 0, if l.typ = 3 then 18 else 16⟩
def uNext (l : LoopRef) : Fld := if l.typ = 3 then ⟨0x20038C4C, 0, 18⟩ else ⟨l.inst + 8, 16, 16⟩
/-! Settings of the loop type. -/
def chainN (l : LoopRef) : Fld := ⟨l.sets, 0, 3⟩
def chainSlot (l : LoopRef) (k : Nat) : Fld := ⟨l.sets, 3 + 5 * k, 5⟩
def inShift (l : LoopRef) (band : Nat) : Fld := ⟨l.sets + 4, 5 * band, 5⟩
def outShift (l : LoopRef) : Fld := ⟨l.sets + 4, 16, 5⟩
def omin (l : LoopRef) : Fld := ⟨l.sets + 8, 0, 16⟩
def omax (l : LoopRef) : Fld := ⟨l.sets + 8, 16, 16⟩
def safe (l : LoopRef) : Fld := ⟨l.sets + 0xC, 0, 16⟩
def modelN (l : LoopRef) : Fld := ⟨l.sets + 0x10, 0, 2⟩
def modelMode (l : LoopRef) : Fld := ⟨l.sets + 0x10, 2, 1⟩
def modelSlot (l : LoopRef) (k : Nat) : Fld := ⟨l.sets + 0x10, 3 + 5 * k, 5⟩
def minShift (l : LoopRef) : Fld := ⟨l.sets + 0x10, 16, 5⟩
def moutShift (l : LoopRef) : Fld := ⟨l.sets + 0x10, 24, 5⟩
def plausBand (l : LoopRef) : Fld := ⟨l.sets + 0x14, 0, 16⟩
def plausAbs (l : LoopRef) : Fld := ⟨l.sets + 0x18, 0, 32⟩
def target (l : LoopRef) : Fld := ⟨l.sets + 0x1C, 0, 16⟩
/-- R80: coefficient k (0 B0, 1 B1, 2 B2, 3 A1, 4 A2) of a slot's bank, and its shift. -/
def coef (l : LoopRef) (slot b k : Nat) : Fld := ⟨l.slots + slot * 0x100 + b * 0x20 + 4 * k, 0, 32⟩
def shift (l : LoopRef) (slot b k : Nat) : Fld := ⟨l.slots + slot * 0x100 + b * 0x20 + 0x14, 5 * k, 5⟩

end LoopRef

/-- The own state of the instance that a reference names. -/
def Dev.lins (d : Dev) (l : LoopRef) : InstS := tget InstS.init d.inst l.key
def Dev.updLins (l : LoopRef) (g : InstS → InstS) (d : Dev) : Dev := { d with inst := tupd InstS.init l.key g d.inst }

/-- R87: length of the law chain; 5 to 7 act as 4. -/
def Dev.lawLen (d : Dev) (l : LoopRef) : Nat := min 4 (d.rd l.chainN)
/-- R106: length of the model chain; 3 acts as 2. -/
def Dev.modelLen (d : Dev) (l : LoopRef) : Nat := min 2 (d.rd l.modelN)

/-- R91: the command in force and the pending one. -/
def Dev.cmd (d : Dev) (l : LoopRef) : Int := if l.typ = 3 then (d.rd l.u : Int) else d.rdS l.u
def Dev.cmdNext (d : Dev) (l : LoopRef) : Int := if l.typ = 3 then (d.rd l.uNext : Int) else d.rdS l.uNext

/-- R83: a saturation limited a value. -/
def setSat (l : LoopRef) (limited : Bool) (d : Dev) : Dev :=
  if limited && !d.rdB l.sat then (d.wrB l.sat true).raise .ctrl 1 l.field l.index else d

/-! R272: states of the selvedge. -/
def selWait : Nat := 0
def selRun : Nat := 1
def selStopped : Nat := 2
def selRestart : Nat := 3
def selLatched : Nat := 4
def Dev.selState (d : Dev) : Nat := d.rd JZ_SEL_STATUS_STATE

/-- The selvedge holds the wafer stopped. -/
def Dev.selStop (d : Dev) : Bool := d.selState = selStopped || d.selState = selLatched

/-- R80, R81: one rounded product of a section. -/
def term (d : Dev) (l : LoopRef) (slot b k : Nat) (x : Int) : Int := rs (x * d.rdS (l.coef slot b k)) (d.rd (l.shift slot b k))

/-- R80: the sum before saturation that gives the output y of a section. -/
def secSum (d : Dev) (l : LoopRef) (slot b : Nat) (x st1 : Int) : Int := term d l slot b 0 x + st1
/-- R80: the sums before saturation that give the new states of a section. -/
def secSum1 (d : Dev) (l : LoopRef) (slot b : Nat) (x yf st2 : Int) : Int := term d l slot b 1 x - term d l slot b 3 yf + st2
def secSum2 (d : Dev) (l : LoopRef) (slot b : Nat) (x yf : Int) : Int := term d l slot b 2 x - term d l slot b 4 yf

/-- R80, R82: store the new states of a section, fed back by yf. -/
def secStore (l : LoopRef) (f1 f2 : Fld) (slot b : Nat) (x yf : Int) (d : Dev) : Dev :=
  let a1 := secSum1 d l slot b x yf (d.rdS f2)
  let a2 := secSum2 d l slot b x yf
  setSat l (limits32 a1 || limits32 a2) ((d.wrS f1 (sat32 a1)).wrS f2 (sat32 a2))

/-- R80: evaluate a section that is not limited: the state after it, and y. -/
def secRun (l : LoopRef) (f1 f2 : Fld) (slot b : Nat) (x : Int) (d : Dev) : Dev × Int :=
  let a := secSum d l slot b x (d.rdS f1)
  (secStore l f1 f2 slot b x (sat32 a) (setSat l (limits32 a) d), sat32 a)

/-- R84, R88: the sections of a chain from j on, each fed the output of the one before. -/
def chainRun (l : LoopRef) (f1 f2 : Nat → Fld) (b : Nat) : Nat → List Nat → Int → Dev → Dev × Int
  | _, [], x, d => (d, x)
  | j, slot :: rest, x, d =>
    let r := secRun l (f1 j) (f2 j) slot b x d
    chainRun l f1 f2 b (j + 1) rest r.2 r.1

/-- The slots of the law chain and of the model. -/
def Dev.lawSlots (d : Dev) (l : LoopRef) : List Nat := (List.range (d.lawLen l)).map fun k => d.rd (l.chainSlot k)
def Dev.modelSlots (d : Dev) (l : LoopRef) : List Nat := (List.range (d.modelLen l)).map fun k => d.rd (l.modelSlot k)

/-- R91: the safe value; sp is the set-point of L-CAP. -/
def Dev.safeCmd (d : Dev) (l : LoopRef) (sp : Int) (last : Option Int) : Int :=
  if l.typ = 0 then
    match last with
    | none => 0
    | some g => clampI (-(d.rdS l.safe)) (d.rdS l.safe) g
  else
    let v := if l.typ = 3 then sp * (d.rd l.safe : Int) / 65536 else d.rdS l.safe
    match last with
    | none => v
    | some g => min g v

/-- R91: the last command, if the instance has computed one. -/
def Dev.lastCmd (d : Dev) (l : LoopRef) : Option Int := if (d.lins l).hasLast then some (d.cmd l) else none

/-- R98, R73: the voltage band that a VID target selects directly. -/
def vbOf (v1 v2 v3 vid : Nat) : Nat := if v3 ≤ vid then 3 else if v2 ≤ vid then 2 else if v1 ≤ vid then 1 else 0

/-- The k-th voltage band boundary, k from 1 to 3. -/
def Dev.vb (d : Dev) (l : LoopRef) (k : Nat) : Nat := d.rd ⟨l.vband, 8 * (k - 1), 8⟩

/-- R99: the voltage band at a period boundary. -/
def Dev.nextVb (d : Dev) (l : LoopRef) (cur : Option Nat) (vid : Nat) : Nat :=
  match cur with
  | none => vbOf (d.vb l 1) (d.vb l 2) (d.vb l 3) vid
  | some b =>
    if b < 3 ∧ d.vb l (b + 1) ≤ vid then b + 1
    else if 0 < b ∧ vid + d.rd ⟨l.region, 16, 4⟩ ≤ d.vb l b then b - 1 else b

/-- R98: T_CTRL. -/
def Dev.tCtrl (d : Dev) : Nat := d.rd JZ_SEL_LIMITS_T_CTRL

/-- R98, R99: the temperature band at a period boundary. -/
def Dev.nextTb (d : Dev) (l : LoopRef) (cur : Option Nat) (temp : Int) : Nat :=
  let lim : Int := (d.tCtrl : Int) - d.rd ⟨l.region, 0, 8⟩
  if lim ≤ temp then 1
  else if cur = some 1 ∧ lim - (d.rd ⟨l.region, 8, 8⟩ : Nat) ≤ temp then 1 else 0

/-- What a loop hands the engine at a sample: feedback and set-point in error units, what selects the region, whether
the sample is exempt from comparison beside the rules of the engine, and the band that picks the input shift (R93). -/
structure SampleIn where
  fb : Int
  sp : Int
  vid : Nat
  temp : Int
  stale : Bool
  band : Nat
  deriving DecidableEq, Repr

/-- R99, R100: choose the region. -/
def chooseBank (l : LoopRef) (x : SampleIn) (d : Dev) : Dev :=
  let cur := if (d.lins l).hasRegion then some (d.rd l.bank) else none
  (d.wr l.bank (d.nextVb l (cur.map (· / 2)) x.vid * 2 + d.nextTb l (cur.map (· % 2)) x.temp)).updLins l
    fun i => { i with hasRegion := true }

/-- R103: the comparison's band. -/
def Dev.plausLimit (d : Dev) (l : LoopRef) : Int :=
  rs ((d.rd l.plausBand : Int) * ((d.rdS l.pred).natAbs : Int)) 16 + (d.rd l.plausAbs : Int)

/-- R103: compare feedback with the prediction; PCNT and STALE. With the check off (MN = 0) a sample that is not exempt clears
STALE. DESIGN CHOICE, log entry 121. -/
def compare (l : LoopRef) (x : SampleIn) (d : Dev) : Dev :=
  let i := d.lins l
  let d' := d.updLins l fun i => { i with exempt := false }
  if i.exempt || x.stale then d'.wrB l.stale true
  else
    let d' := d'.wrB l.stale false
    if d.modelLen l = 0 then d'
    else if d.plausLimit l < ((x.fb - d.rdS l.pred).natAbs : Int) then d'.wr l.pcnt (satN 16 (d.rd l.pcnt + 1))
    else d'.wr l.pcnt 0

/-- R104: the instance is implausible. -/
def freeze (l : LoopRef) (x : SampleIn) (dev : Nat) (d : Dev) : Dev :=
  let d' := (d.wrB l.frozen true).wrS l.uNext (d.safeCmd l x.sp (d.lastCmd l))
  d'.raiseR { d.report .ctrl 2 l.field l.index with value := dev % 2 ^ 32 }

/-- R89: the command limits; R107: L-CAP's are 0 and its set-point. -/
def Dev.cmdLimits (d : Dev) (l : LoopRef) (sp : Int) : Int × Int := if l.typ = 3 then (0, sp) else (d.rdS l.omin, d.rdS l.omax)

/-- R88 to R90: the law: error, sections, output stage. -/
def law (l : LoopRef) (x : SampleIn) (d : Dev) : Dev :=
  let e := (x.sp - x.fb) * (2 ^ d.rd (l.inShift x.band) : Nat)
  let d := setSat l (limits32 e) (d.wrS l.inWord (sat32 e))
  let b := d.rd l.bank
  let slots := d.lawSlots l
  match slots.getLast? with
  | none => (d.wrS l.uNext (d.safeCmd l x.sp (d.lastCmd l))).wrB l.lim false
  | some slot =>
    let j := slots.length - 1
    let r := chainRun l l.s1 l.s2 b 0 slots.dropLast (sat32 e) d
    let d := r.1
    let a := secSum d l slot b r.2 (d.rdS (l.s1 j))
    let y := sat32 a
    let sh := d.rd l.outShift
    let lims := d.cmdLimits l x.sp
    let u := clampI lims.1 lims.2 (rs y sh)
    let limited := decide (u ≠ rs y sh)
    let yf := if limited then u * (2 ^ sh : Nat) else y
    let d := secStore l (l.s1 j) (l.s2 j) slot b r.2 yf (setSat l (limits32 a) d)
    (d.wrS l.uNext u).wrB l.lim limited

/-- R101: advance the model by an input v: the state after it, and m. -/
def modelRun (l : LoopRef) (v : Int) (d : Dev) : Dev × Int :=
  let x := v * (2 ^ d.rd l.minShift : Nat)
  let r := chainRun l l.ms1 l.ms2 (d.rd l.bank) 0 (d.modelSlots l) (sat32 x) (setSat l (limits32 x) d)
  (r.1, rs r.2 (d.rd l.moutShift))

/-- R101: the prediction for the next sample, for the loops whose model runs at the sample. -/
def predict (l : LoopRef) (x : SampleIn) (d : Dev) : Dev :=
  let uNow := d.cmd l
  let v := if d.rdB l.modelMode then uNow else uNow - (d.lins l).uPrev
  let r := modelRun l v d
  (setSat l (limits32 (x.fb + r.2)) (r.1.wrS l.pred (sat32 (x.fb + r.2)))).updLins l fun i => { i with uPrev := uNow }

/-- R102: the prediction starts afresh from this scan. -/
def predictTherm (l : LoopRef) (x : SampleIn) (d : Dev) : Dev :=
  (d.wrS l.pred (sat32 x.fb)).updLins l fun i => { i with predBase := x.fb, thSum := 0 }

/-- R102: one 25-pick step of the L-THERM model. -/
def thermStep (l : LoopRef) (d : Dev) : Dev :=
  if d.rdB l.frozen || d.modelLen l = 0 then d else
  let i := d.lins l
  let uNow := d.cmd l
  let v := if d.rdB l.modelMode then uNow else uNow - i.uPrev
  let r := modelRun l v d
  let p := i.predBase + (i.thSum + r.2)
  (setSat l (limits32 p) (r.1.wrS l.pred (sat32 p))).updLins l fun k => { k with uPrev := uNow, thSum := i.thSum + r.2 }

/-- R88 to R104: one sample of an instance that is due; nothing if it is frozen or has sampled at this boundary. At the sample
whose PCNT reaches 16 neither law nor model is evaluated. DESIGN CHOICE, log entry 122. -/
def sample (l : LoopRef) (x : SampleIn) (d : Dev) : Dev :=
  if d.rdB l.frozen || (d.lins l).sampledAt = some d.time.nb then d else
  let dev := (x.fb - d.rdS l.pred).natAbs
  let d := compare l x (chooseBank l x (d.updLins l fun i => { i with sampledAt := some d.time.nb }))
  if d.rd l.pcnt = 16 then freeze l x dev d
  else
    let d := (law l x d).updLins l fun i => { i with hasLast := true }
    if d.modelLen l = 0 then d
    else if l.typ = 2 then predictTherm l x d else predict l x d

/-- R94: the pending command takes effect. -/
def takeEffect (l : LoopRef) (d : Dev) : Dev := d.wr l.u (d.rd l.uNext)

/-- R105: zero all section and model states. -/
def zeroStates (l : LoopRef) (d : Dev) : Dev :=
  forN 2 (fun j d => (d.wr (l.ms1 j) 0).wr (l.ms2 j) 0) (forN 4 (fun j d => (d.wr (l.s1 j) 0).wr (l.s2 j) 0) d)

/-- R105: a re-arm is requested, or refused. -/
def rearmReq (l : LoopRef) (confl : Fld) (d : Dev) : Dev :=
  if d.rdB l.frozen then d.wrB l.rearmPend true else conflict confl d

/-- R105: the re-arm at the instance's period boundary; the exempt sample follows. A product u × 2^OUT_SHIFT beyond 32 bits is
kept modulo 2^32 (DESIGN CHOICE, log entry 123); the held command is the one of the period before (R101). -/
def rearmApply (l : LoopRef) (d : Dev) : Dev :=
  if d.rdB l.frozen && d.rdB l.rearmPend then
    let d := zeroStates l d
    let d := onlyIf (d.lawLen l ≠ 0) (fun d => d.wrS (l.s1 (d.lawLen l - 1)) (d.cmd l * (2 ^ d.rd l.outShift : Nat))) d
    (((d.wr l.pcnt 0).wrB l.frozen false).wrB l.rearmPend false).updLins l fun i => { i with exempt := true, uPrev := d.cmd l }
  else d

/-- R91, R97, R266: an instance starts from zero state, its commands at the safe value taken with no last command, its
first sample exempt; sp is the set-point of L-CAP. The command it starts with is u_prev of its first sample. DESIGN CHOICE, log
entry 124. -/
def restartLoop (l : LoopRef) (sp : Int) (d : Dev) : Dev :=
  let d := zeroStates l d
  let v := d.safeCmd l sp none
  let d := ((((d.wrS l.u v).wrS l.uNext v).wr l.pcnt 0).wrB l.frozen false).wrB l.rearmPend false
  d.updLins l fun _ => { InstS.init with uPrev := v }

/-- R103: the next sample of an instance is exempt. -/
def exemptNext (l : LoopRef) (d : Dev) : Dev := d.updLins l fun i => { i with exempt := true }

/-- The 41 instances of a field. -/
def forLoops (f : Nat) (g : LoopRef → Dev → Dev) (d : Dev) : Dev := forN 41 (fun i => g (loopRef f i)) d

/-- R105: CE_REARM of a field. -/
def ceRearm (f i : Nat) (d : Dev) : Dev :=
  if i ≤ 40 then rearmReq (loopRef f i) (CE_STATUS_STATE_CONFLICT f) d else conflict (CE_STATUS_STATE_CONFLICT f) d

/-- R107: BU_CE_REARM.REARM. -/
def buCeRearm (d : Dev) : Dev := rearmReq capRef BU_CE_REARM_STATE_CONFLICT d

/-- R105: CE_REARM. -/
def execCeRearm (f : Fin 96) (i : BitVec 6) (s : State) : Host.Outcome State Fault Refusal := done (ceRearm f.val i.toNat) s
/-- R107: BU_CE_REARM. -/
def execBuCeRearm (s : State) : Host.Outcome State Fault Refusal := done buCeRearm s

end Sys2Proof.Machine
end

