-- ==== Sys2Proof/Machine/Hist.lean ====
section
/-! DEFINITION. Chapter 15, histograms: bins (R378) and adding a sample to the accumulators of a field. -/

namespace Sys2Proof.Machine

def Dev.updEv (g : RecS → RecS) (d : Dev) : Dev := { d with ev := g d.ev }

/-- R378: the bin of a value. -/
def binOf (h : HDef) (v : Int) : Nat := if v < h.lo + h.w then 0 else min 15 ((v - h.lo) / (max 1 h.w : Nat)).toNat

/-- One more in a bin. -/
def bumpBin (bins : List Nat) (k : Nat) : List Nat := (List.range 16).map fun i => bins.getD i 0 + b01 (i = k)

/-- R377, R378: a sample joins an accumulator; a tie keeps the earlier extreme. -/
def Hist.add (h : HDef) (x : Hist) (e : Ext) : Hist :=
  { bins := bumpBin x.bins (binOf h e.val)
    total := x.total + 1
    max := if h.ext then (match x.max with | some m => if m.val < e.val then some e else some m | none => some e) else none
    min := if h.ext then (match x.min with | some m => if e.val < m.val then some e else some m | none => some e) else none }

/-- R377: a sample of a source joins every definition of that source. -/
def addSample (f src : Nat) (e : Ext) (d : Dev) : Dev :=
  d.updEv fun x => { x with hist := (x.defs.zip (List.range 16)).foldl (fun t h =>
    if h.1.src = src then tupd Hist.init (f * 16 + h.2) (fun a => Hist.add h.1 a e) t else t) x.hist }

/-- R377: a sample taken at the present boundary, with its location. -/
def Dev.sampleNow (d : Dev) (v : Int) (loc : Nat) : Ext := ⟨v, loc, d.hNow, d.stamp 0⟩

end Sys2Proof.Machine
end

