-- ==== Sys2Proof/Machine/Sensing.lean ====
section
/-! DEFINITION. Chapter 02: thermal scans with cross-check, substitution and band (R51 to R61), the path monitors (R67,
R68, R392), and the meter's reconciliation (R76, R77). -/

namespace Sys2Proof.Machine

/-- R18, R36: store a timestamp in a pair of registers, low word and high word. -/
def putStamp (lo hi : Nat) (stamp : Nat) (d : Dev) : Dev := (d.wr ⟨lo, 0, 32⟩ stamp).wr ⟨hi, 0, 32⟩ (stamp / 2 ^ 32)

/-- R40, R41: the count as a sentinel holds it. -/
def Dev.sentCount (d : Dev) (f p : Nat) : Nat := ((d.time.count : Int) + tget 0 d.time.copyOfs (pkey f p)).toNat

/-- R38: a timestamp taken by a sentinel. -/
def Dev.sentStamp (d : Dev) (f p sub : Nat) : Nat := d.sentCount f p % 2 ^ 52 * 4096 + sub % 4096

/-- R51, R78: a reading of a sensor, RAW and USED. -/
def Dev.raw (d : Dev) (f p t : Nat) : Int := d.rdS (PS_TS_RAW f p t)
def Dev.used (d : Dev) (f p t : Nat) : Int := d.rdS (PS_TS_USED f p t)

/-- R53: the patch temperature. -/
def Dev.temp (d : Dev) (f p : Nat) : Int := max (d.used f p 0) (d.used f p 1)

/-- The highest patch temperature of some patches of a field. -/
def Dev.tempMax (d : Dev) (f : Nat) (ps : List Nat) : Int := (maxI (ps.map (d.temp f))).getD 0

/-- R52: RAW of a conversion after trim; the spec does not say how the two trims combine, so with a trim other than 0
the value is free. Log entry 5. -/
def Dev.trimmed (d : Dev) (f p t : Nat) (conv : BitVec 12) : Nat :=
  let ofs := d.rd (PS_TS_TRIM_OFS f p t)
  let gain := d.rd (PS_TS_TRIM_GAIN f p t)
  if ofs = 0 ∧ gain = 0 then conv.toNat
  else (Config.trimWord ofs gain conv.toNat).toNat % 4096

/-- R54: the scan period of a band. -/
def scanPeriod (band : Nat) : Nat := if band = 0 then 1000 else if band = 1 then 100 else 25

/-- R54, R55: the band after a scan at which the patch temperature is t. -/
def nextBand (tCtrl near crit hyst : Nat) (band : Nat) (t : Int) : Nat :=
  if (tCtrl : Int) - crit ≤ t then 2
  else if band = 2 ∧ (tCtrl : Int) - crit - hyst ≤ t then 2
  else if band = 2 then 1
  else if (tCtrl : Int) - near ≤ t then 1
  else if band = 1 ∧ (tCtrl : Int) - near - hyst ≤ t then 1 else 0

/-- R21, R55: is the patch's scan due at the present boundary? It scans once at each boundary of its band's period. -/
def Dev.scanDue (d : Dev) (f p : Nat) : Bool :=
  match (d.pt f p).scannedAt with
  | none => d.time.count % 1000 = 0 && decide (21 ≤ d.time.nb)
  | some n => decide (n ≠ d.time.nb) && d.periodic (scanPeriod (d.rd (PS_STATUS_BAND f p)))

/-- R61: boundary at which the sensor was marked suspect. -/
def PatchS.suspAt (x : PatchS) (t : Nat) : Option Nat := if t = 0 then x.suspAt0 else x.suspAt1

/-- R58, R61: the suspect latch. -/
def Dev.suspect (d : Dev) (f p t : Nat) : Bool := d.rdB (PS_TS_HEALTH_SUSPECT f p t)

/-- R61: suspect as it stood at the start of the present boundary. -/
def Dev.suspectBefore (d : Dev) (f p t : Nat) : Bool := d.suspect f p t && (d.pt f p).suspAt t ≠ some d.time.nb

/-- R56: a reference sensor is healthy at the present check. -/
def Dev.healthy (d : Dev) (f p t : Nat) : Bool :=
  !d.suspectBefore f p t && d.inService f
    && match (d.pt f p).readAt with
      | none => false
      | some r => decide (d.time.count ≤ r + 1000)

/-- R57: correction of a reading of patch q for the power of patch p, in 0.125 °C: K × (W_p − W_q), limited to ±32 °C.
Energies are in 2^-24 token over a bolt. -/
def gradient (k : Nat) (ep eq : Nat) : Int := clampI (-256) 256 (divHalfAway ((k : Int) * ((ep : Int) - eq)) (4096 * 1000 * 2 ^ 24))

/-- R56, R57: the corrected healthy references of a sensor. -/
def Dev.references (d : Dev) (f p t : Nat) : List Int :=
  let partner := if d.healthy f p (1 - t) then [d.raw f p (1 - t) + d.rdS (ST_SNS_XCHK_PARTNER_OFS f)] else []
  partner ++ (neighbours f p).flatMap fun (g, q) =>
    ([0, 1].filter (d.healthy g q)).map fun u =>
      d.raw g q u + gradient (d.rd (ST_SNS_THMK_K f)) (d.pt f p).lastE (d.pt g q).lastE

/-- R57: the disagreement of a sensor with the median of its references. -/
def disagreement (raw : Int) (refs : List Int) : Nat := (raw - medianI refs).natAbs

/-- R51: record the readings of one patch. -/
def recordRaw (sub : Nat) (o : ScanObs) (d : Dev) : Dev :=
  let f := o.field.val
  let p := o.patch.val
  let d := (d.wr (PS_TS_RAW f p 0) (d.trimmed f p 0 o.c0)).wr (PS_TS_RAW f p 1) (d.trimmed f p 1 o.c1)
  let d := putStamp (psBase f p + 0x14) (psBase f p + 0x18) (d.sentStamp f p sub) d
  (d.wrB (PS_STATUS_SCAN_H f p) d.hNow).updPt f p fun x => { x with readAt := some d.time.count }

/-- R58: mark a sensor suspect. -/
def markSuspect (f p t : Nat) (d : Dev) : Dev :=
  let d := (d.wrB (PS_TS_HEALTH_SUSPECT f p t) true).updPt f p fun x =>
    if t = 0 then { x with suspAt0 := some d.time.nb } else { x with suspAt1 := some d.time.nb }
  countRec f 3 (d.raiseR { d.report .sense 1 f p with sub := t })

/-- R61: clear the suspect mark of a sensor. -/
def clearSuspect (f p t : Nat) (d : Dev) : Dev :=
  (d.wrB (PS_TS_HEALTH_SUSPECT f p t) false).updPt f p fun x =>
    if t = 0 then { x with suspAt0 := none } else { x with suspAt1 := none }

/-- R58: the disagreement count after a check, and the mark. -/
def crossCheck (f p t : Nat) (refs : List Int) (d : Dev) : Dev :=
  let cnt := PS_TS_HEALTH_CNT f p t
  if d.rd (ST_SNS_XCHK_THRESH f) < disagreement (d.raw f p t) refs then
    let n := satN 7 (d.rd cnt + 1)
    onlyIf (decide (orDef (d.rd (ST_SNS_XCHK_SCANS f)) 1 ≤ n) && !d.suspect f p t) (markSuspect f p t) (d.wr cnt n)
  else d.wr cnt 0

/-- R53, R59, R60: the value Jenuz works with, and whether it is substituted. -/
def Dev.usedValue (d : Dev) (f p t : Nat) (refs : List Int) : Int × Bool :=
  match maxI refs with
  | some m => if d.suspect f p t then (m + d.rd (ST_SNS_XCHK_SUB_ADD f), true) else (d.raw f p t, false)
  | none =>
    let lim : Int := (d.tCtrl + d.rd (ST_SNS_BANDS_NEAR f) : Nat)
    if !d.suspect f p t && decide (lim < d.raw f p t) then (d.raw f p t, false) else (lim, true)

/-- R58 to R60: judge one sensor against its references, as they stood at the start of the boundary. A substitute outside the
12-bit range of USED is held at its end. DESIGN CHOICE, log entry 117. -/
def judgeSensor (f p t : Nat) (d : Dev) : Dev :=
  let refs := d.references f p t
  let iso := PS_TS_HEALTH_ISOLATED f p t
  let d' := if refs = [] then onlyIf (!d.rdB iso) (·.raiseR { d.report .sense 2 f p with sub := t }) (d.wrB iso true)
    else crossCheck f p t refs (d.wrB iso false)
  let v := d'.usedValue f p t refs
  (d'.wrS (PS_TS_USED f p t) (clampI (-2048) 2047 v.1)).wrB (PS_TS_SUBST f p t) v.2

/-- R53 to R55: the band of a patch, which sets the phase of its next scan. -/
def bandScan (f p : Nat) (d : Dev) : Dev :=
  let b := nextBand d.tCtrl (d.rd (ST_SNS_BANDS_NEAR f)) (d.rd (ST_SNS_BANDS_CRIT f)) (d.rd (ST_SNS_BANDS_HYST f))
    (d.rd (PS_STATUS_BAND f p)) (d.temp f p)
  (d.wr (PS_STATUS_BAND f p) b).updPt f p fun x => { x with scannedAt := some d.time.nb }

/-- R46, R97, R260: loops of a field sample at the present boundary. -/
def Dev.loopsOn (d : Dev) (f : Nat) : Bool := d.inService f && !d.stopped && !d.selStop && !d.time.resumed && decide (0 < d.time.nb)

/-- R117 to R119: the VID target of a domain. -/
def Dev.vidOf (d : Dev) (f k : Nat) : Nat := d.rd (ST_LINK_DOWN_VID f k)

/-- R91, R93, R98: the L-THERM sample of a patch at its scan; `band` is the band in force before it, which picks the shift of
every sample but the first after a reset. -/
def thermSample (f p band : Nat) (d : Dev) : Dev :=
  if d.loopsOn f then
    sample (loopRef f (5 + p))
      { fb := d.temp f p, sp := d.tCtrl, vid := d.vidOf f (domOf p), temp := d.temp f p
        stale := d.rdB (PS_TS_SUBST f p 0) || d.rdB (PS_TS_SUBST f p 1), band := if (d.pt f p).sampled then band else 0 }
      (d.updPt f p fun x => { x with sampled := true })
  else d

/-- R54, R91: band and loop of one patch after its sensors are judged. -/
def finishScan (o : ScanObs) (d : Dev) : Dev :=
  let band := d.rd (PS_STATUS_BAND o.field.val o.patch.val)
  thermSample o.field.val o.patch.val band (bandScan o.field.val o.patch.val d)

/-- R55, R61: the scans of the present boundary: every reading is recorded before any is judged. -/
def thermalScan (scans : List ScanObs) (sub : Nat) (d : Dev) : Dev :=
  let due := scans.filter fun o => d.scanDue o.field.val o.patch.val
  let d := forL due (recordRaw sub) d
  let d := forL due (fun o d => judgeSensor o.field.val o.patch.val 1 (judgeSensor o.field.val o.patch.val 0 d)) d
  forL due finishScan d

/-! Path monitors. -/

/-- R392: a slack sample moved to the reference operating point, in 1/16 ps. -/
def Dev.normSlack (d : Dev) (f : Nat) (slack : Int) (fidx vid : Nat) (temp : Int) : Int :=
  let vref : Int := (d.rd (ST_OP_VF_VMIN f (min 88 (d.rd (ST_AGE_REF_FREF f)))) + d.rd (ST_OP_GUARD_RUN_GUARD f) : Nat)
  slack * 32 + (orDef (d.rd (ST_AGE_CFG0_KV f)) 1 : Int) * 32 * (vref - vid)
    + (d.rd (ST_AGE_CFG0_KF f) : Int) * ((fidx : Int) - min 88 (d.rd (ST_AGE_REF_FREF f)))
    + rs ((d.rd (ST_AGE_CFG1_KT f) : Int) * (temp - d.rd (ST_AGE_REF_TREF f))) 3

/-- R68: the path monitor window of the present bolt is disturbed. A change that takes effect at the boundary opening pick 0
counts as in the window. DESIGN CHOICE, log entry 118. -/
def dirtyWindow (f p : Nat) (d : Dev) : Dev :=
  if d.time.count % 1000 ≤ 3 then d.updPt f p fun x => { x with pmDirty := true } else d

/-- R67, R68: what a boundary leaves of the window: at its first pick it is clean unless the clock stands or the stretch level
is not 0, and at pick 4 the operating point of its picks is kept. -/
def windowPick (f p : Nat) (d : Dev) : Dev :=
  let c := d.time.count
  let ill := !d.rdB (PS_STATUS_CLK_ON f p) || decide (d.rd (PS_STATUS_STRETCH f p) ≠ 0) || decide (3 < c % 1000)
  let d := onlyIf (c % 1000 = 0 || decide (c / 1000 ≠ d.time.prevCount / 1000)) (·.updPt f p fun x => { x with pmDirty := ill }) d
  onlyIf (c % 1000 = 4) (fun d => d.updPt f p fun x =>
    { x with pmPoint := (d.rd (ST_OP_PATCH_FIDX f p), d.vidOf f (domOf p), d.temp f p) }) d

/-- R67, R68, R377, R392: the result of a window, or its discarding. -/
def pmSample (f p : Nat) (slack : BitVec 11) (d : Dev) : Dev :=
  if d.time.count % 1000 ≠ 4 then d
  else if (d.pt f p).pmDirty then d.wrB (PS_PM_SKIPPED f p) true
  else
    let s := signedOf 11 slack.toNat
    let (fidx, vid, temp) := (d.pt f p).pmPoint
    let d := (((d.wr (PS_PM_SLACK f p) slack.toNat).wrB (PS_PM_VALID f p) true).wrB (PS_PM_SKIPPED f p) false).wrB
      (PS_STATUS_PM_VALID f p) true
    let d := ((d.wr (PS_PM_POINT_FIDX f p) fidx).wr (PS_PM_POINT_VID f p) vid).wrS (PS_PM_POINT_TEMP f p) temp
    let d := onlyIf (decide (s < 0)) (fun d => (d.wrB (PS_PM_NEG f p) true).raise .sense 3 f p) d
    let n := d.normSlack f s fidx vid temp
    let d := addSample f 7 (d.sampleNow s p) d
    d.updPt f p fun x => { x with slackSum := x.slackSum + n, slackN := x.slackN + 1 }

/-! The meter. -/

/-- R76: S_new before limiting; m is the sum of Vout × Iout codes (1/4,000 token), e the estimate in 2^-8 token. -/
def scaleNew (s m e : Nat) : Nat := (2 * (s * (3 * e * 4000 + 256 * m)) + 4 * 4000 * e) / (2 * (4 * 4000 * e))

/-- R76: r = E_meas / E_est in Q2.14, rounded half away from zero and saturating. -/
def ratioOf (m e : Nat) : Nat := satN 0xFFFF ((2 * (m * 256 * 16384) + 4000 * e) / (2 * (4000 * e)))

/-- R77: less than 1,000 tokens measured or estimated, or the bolt disturbed. -/
def meterSkips (skip : Bool) (m e : Nat) : Bool := skip || decide (m < 4000000) || decide (e < 256000)

/-- R76, R77: reconcile a field's meter in the first pick of a bolt. -/
def meterReconcile (f : Nat) (d : Dev) : Dev :=
  let x := d.fd f
  if d.time.count % 1000 ≠ 0 || d.stopped then d else
  let d := d.updFd f fun x => { x with eMeas := 0, eEst := 0, eSkip := false }
  if meterSkips x.eSkip x.eMeas x.eEst then d.wrB (ST_MTR_SCALE_SKIPPED f) true
  else
    let s := d.rd (ST_MTR_SCALE_S f)
    let sn := scaleNew s x.eMeas x.eEst
    let lo := d.rd (ST_MTR_LIMITS_S_MIN f)
    let hi := d.rd (ST_MTR_LIMITS_S_MAX f)
    let out := decide (sn < lo) || decide (hi < sn)
    let n := if out then satN 16 (x.sOut + 1) else 0
    let d := ((d.wrB (ST_MTR_SCALE_SKIPPED f) false).wr (ST_MTR_RATIO_R_LAST f) (ratioOf x.eMeas x.eEst)).updFd f fun y =>
      { y with sNext := some (if sn < lo then lo else if hi < sn then hi else sn), sOut := n }
    if n = 16 then onlyIf (!d.rdB (ST_MTR_SCALE_AT_LIMIT f)) (·.raise .sense 4 f 0) (d.wrB (ST_MTR_SCALE_AT_LIMIT f) true)
    else onlyIf (!out) (·.wrB (ST_MTR_SCALE_AT_LIMIT f) false) d

/-- R55. -/
def execThermalScan (scans : List ScanObs) (sub : BitVec 12) (s : State) : Host.Outcome State Fault Refusal :=
  done (thermalScan scans sub.toNat) s
/-- R61. -/
def execSuspectClear (f : Fin 96) (p : Fin 36) (t : Fin 2) (s : State) : Host.Outcome State Fault Refusal :=
  done (clearSuspect f.val p.val t.val) s
/-- R67. -/
def execPmSample (f : Fin 96) (p : Fin 36) (slack : BitVec 11) (s : State) : Host.Outcome State Fault Refusal :=
  done (pmSample f.val p.val slack) s
/-- R76. -/
def execMeterReconcile (f : Fin 96) (s : State) : Host.Outcome State Fault Refusal := done (meterReconcile f.val) s

end Sys2Proof.Machine
end

