-- ==== Sys2Proof/Machine/VF.lean ====
section
/-! DEFINITION. Chapter 04, voltage and frequency: what a boundary does with F-indices, targets and modes (R108 to R124),
clock stretch (R112 to R114), the step link (R125 to R132), the link states (R135 to R137), and retirement (R399). -/

namespace Sys2Proof.Machine

/-! R138: patch states. -/
def psRunning : Nat := 0
def psStopped : Nat := 1
def psRetired : Nat := 2
def psHeld : Nat := 3

def Dev.pstate (d : Dev) (f p : Nat) : Nat := d.rd (ST_OP_PATCH_STATE f p)
def Dev.runs (d : Dev) (f p : Nat) : Bool := d.pstate f p = psRunning
def Dev.fidx (d : Dev) (f p : Nat) : Nat := d.rd (ST_OP_PATCH_FIDX f p)

/-- R399: a patch is retired, from the write of RETIRE on; its clock stops at the next boundary (R111). -/
def Dev.retired (d : Dev) (f p : Nat) : Bool := d.rdB (ST_OP_PATCH_RETIRE f p)

/-! R138: link states. -/
def linkInit : Nat := 0
def linkUp : Nat := 1
def linkDegraded : Nat := 2
def linkLost : Nat := 3
def linkRecovering : Nat := 4

def Dev.link (d : Dev) (f k : Nat) : Nat := d.rd (ST_LINK_STATUS_STATE f k)

/-! R127: modes of a down frame. -/
def modeRun : Nat := 0
def modeHold : Nat := 1
def modeRetention : Nat := 2
def modeOff : Nat := 3

/-- R258, R259: line 1 of R137. -/
def Dev.selMode (d : Dev) : Option Nat :=
  if d.selStop then some (if d.rdB JZ_SEL_STATUS_OFF then modeOff else modeRetention) else none

/-- R135, R195, R307, R367: a tile's wadding is off: its level is 0, which consumes a light arming (R171). -/
def TileS.off (t : TileS) : TileS :=
  { t with wads := false, paused := false, wt := 0, arm := t.arm.filter fun a => !a.light }

/-- R135, R307: wadding of a domain goes off. -/
def stopWadding (f k : Nat) (d : Dev) : Dev :=
  forL (d.tilesOfDom f k) (fun x d => if x.2.2.wads || x.2.2.paused then d.updTi f x.1 x.2.1 TileS.off else d) d

/-- R46, R142, R195: wadding of some patches of a domain stops; its levels stand. -/
def pauseWadding (f k : Nat) (ok : Nat → Bool) (d : Dev) : Dev :=
  forL ((d.tilesOfDom f k).filter fun x => x.2.2.wads && ok x.1)
    (fun x d => d.updTi f x.1 x.2.1 fun t => { t with wads := false, paused := true }) d

/-- R111: a patch clock stops: open steps are marked STOP (R200), a waiting raise is dropped, the detectors disarm. -/
def stopClock (st : Nat) (f p : Nat) (d : Dev) : Dev :=
  let d' := d.updPt f p fun x => { x with starting := none }
  if d.pstate f p ≠ psRunning then (if d.pstate f p = psRetired then d' else d'.wr (ST_OP_PATCH_STATE f p) st)
  else
    let d' := (d'.markOpen .stop f [p]).wr (ST_OP_PATCH_STATE f p) st
    let d' := ((d'.wrB (PS_STATUS_CLK_ON f p) false).wrB (PS_STATUS_DD_ARMED f p) false).wr (PS_STATUS_STRETCH f p) 0
    dirtyWindow f p (d'.wrB (ST_OP_PATCH_WAIT f p) false)

/-- R116: Vmin(p, i) in VID codes, with the margin offset in force. -/
def Dev.vmin (d : Dev) (f p i : Nat) : Nat := d.rd (ST_OP_VF_VMIN f (min 88 i)) + (d.pt f p).mofs

/-- R117: the guard of a patch. -/
def Dev.guard (d : Dev) (f p : Nat) : Nat :=
  if d.rdB (ST_OP_PATCH_SENT f p) then d.rd (ST_OP_GUARD_SENT_GUARD f) else d.rd (ST_OP_GUARD_RUN_GUARD f)

/-- R117, R127: a code held between VID_LO and VID_HI, and between 20 and 160 in every frame. -/
def Dev.vidClamp (d : Dev) (f v : Nat) : Nat := min (max (min (max v (d.rd (ST_OP_GUARD_VID_LO f))) (d.rd (ST_OP_GUARD_VID_HI f))) 20) 160

/-- R118: the rail ceiling; none when index 0 does not fit. -/
def Dev.railCeil (d : Dev) (f p : Nat) : Option Nat :=
  ((List.range 89).filter fun i => d.vmin f p i + d.guard f p ≤ d.rd (ST_OP_GUARD_VID_HI f)).getLast?

/-- R138: a slew rate setting, 1 to 80. -/
def slewRate (v : Nat) : Nat := if v = 0 ∨ 80 < v then 80 else v

/-- The least of the ceilings that are in force. -/
def minOpts (l : List (Option Nat)) : Option Nat := minN (l.filterMap id)

/-- R109, R153, R194: the ceilings of a patch beside its plan index and its rail ceiling. -/
def Dev.ceiling (d : Dev) (f p : Nat) : Int :=
  let x := d.pt f p
  let c : Int := min (d.cmd (loopRef f (5 + p))) (min 88 (d.rd (ST_OP_FPLAN_FMAX f)) : Nat)
  match minOpts [x.nearCeil, x.critCeil, x.domCeil, (d.fd f).slack] with
  | none => c
  | some m => min c m

/-- R138: F_PLAN; values above 88 act as 88. -/
def Dev.fplan (d : Dev) (f : Nat) : Nat := min 88 (d.rd (ST_OP_FPLAN_F_PLAN f))

/-- R109: the first line of the list: the plan index with the L-POWER command, or the index of a run. -/
def Dev.baseIdx (d : Dev) (f p : Nat) : Int :=
  match (d.pt f p).runIdx with
  | some r => r
  | none => (d.fplan f : Int) + d.cmd (loopRef f 4)

/-- R109: what a patch would request but for its rail ceiling. -/
def Dev.wants (d : Dev) (f p : Nat) : Int := min (d.baseIdx f p) (d.ceiling f p)

/-- R109: the resolved request, for a rail ceiling r. -/
def Dev.request (d : Dev) (f p r : Nat) : Nat := (min (d.wants f p) r).toNat

/-- R160: the index a pre-position names for a patch: its request (R109) with the L-POWER command taken as 0. -/
def Dev.preIdx (d : Dev) (f p r : Nat) : Nat := (min (min (((d.pt f p).runIdx.getD (d.fplan f) : Nat) : Int) (d.ceiling f p)) r).toNat

/-- R123, R404: raised margin offsets take effect at a bolt boundary, and at the resume pick. -/
def mofsApply (f p : Nat) (d : Dev) : Dev :=
  if (d.time.count % 1000 = 0 ∨ d.time.resumed = true) ∧ (d.pt f p).mofs ≠ d.rd (ST_OP_PATCH_MOFS f p) then
    d.updPt f p fun x => { x with mofs := d.rd (ST_OP_PATCH_MOFS f p) }
  else d

/-- R123, R396: the margin offset of a patch is raised from inside Jenuz; a decrease proposed for it falls. -/
def raiseMofs (f p n : Nat) (d : Dev) : Dev :=
  let d := d.wr (ST_OP_PATCH_MOFS f p) (satN 63 (d.rd (ST_OP_PATCH_MOFS f p) + n))
  countRec f 5 (margDirty (setMarg f p (fun m => { m with next := none }) d))

/-- R123: a write of MOFS that lowers it after the lock. -/
def Dev.mofsRefused (d : Dev) (f p v : Nat) : Bool := d.locked && decide (v < d.rd (ST_OP_PATCH_MOFS f p))

/-- R123: a write of MOFS. -/
def mofsWrite (f p v : Nat) (d : Dev) : Dev :=
  if d.mofsRefused f p v then conflict (ST_OP_STATUS_STATE_CONFLICT f) d
  else d.wr (ST_OP_PATCH_MOFS f p) v

/-! Slews (R119). -/

/-- R119: the time rule: k boundaries after the frame's, 0.9 µs and ΔV / rate have passed. -/
def slewTimeUp (d : Dev) (rate : Nat) (s : Slew) : Bool :=
  decide (9 * rate + 200 * s.dv < 10 * rate * (d.time.nb - s.from_))

/-- R119: the slew is known complete. -/
def slewKnown (d : Dev) (f : Nat) (s : Slew) : Bool :=
  s.seen || slewTimeUp d (slewRate (if s.down then d.rd (ST_OP_SLEW_SLEW_DN f) else d.rd (ST_OP_SLEW_SLEW_UP f))) s

/-- VOUT code of a VID code (R115, R128). -/
def voutOf (vid : Nat) : Nat := 800 + 4 * vid

/-- R64: the floor of a stretch level for a patch: the factor of level s is num / den. -/
def floorOf (d : Dev) (f p : Nat) (num den : Nat) : Nat :=
  let j := divUp (den * (32 + d.fidx f p)) num - 32
  let k := d.rd (ST_LINK_DOWN_VREF f (domOf p)) - d.vmin f p j
  if k < 1 then 1 else if 63 < k then 63 else k

/-- R112: the period factors of the stretch levels. -/
def stretchFactor (s : Nat) : Nat × Nat := if s = 0 then (1, 1) else if s = 1 then (9, 8) else if s = 2 then (5, 4) else if s = 3 then (3, 2) else (2, 1)

/-- R64: rewrite the floors of a patch. -/
def setFloors (f p : Nat) (d : Dev) : Dev :=
  forN 5 (fun s d => d.wr (PS_DD_FLOOR_FLOOR f p s) (floorOf d f p (stretchFactor s).1 (stretchFactor s).2)) d

/-- R119: the present target of a domain is known complete: V_ref stands at it. -/
def Dev.targetMet (d : Dev) (f k : Nat) : Bool :=
  match (d.dm f k).slew with
  | some s => s.down
  | none => true

/-- R119: the slew of a domain is complete: V_ref moves to the target. -/
def endSlew (f k : Nat) (d : Dev) : Dev :=
  match (d.dm f k).slew with
  | none => d
  | some s =>
    if s.down then
      if slewKnown d f s then d.updDm f k fun x => { x with slew := none, bandVid := d.vidOf f k } else d
    else if d.link f k = linkUp ∧ slewKnown d f s then
      forL (patchesOf k) (setFloors f)
        ((d.updDm f k fun x => { x with slew := none, bandVid := d.vidOf f k }).wr (ST_LINK_DOWN_VREF f k) (d.vidOf f k))
    else d

/-- R119, R121: a raise that waited at an earlier boundary completes where its domain's target is known complete. -/
def completeRaise (f k p : Nat) (d : Dev) : Dev :=
  if d.runs f p ∧ d.rdB (ST_OP_PATCH_WAIT f p) ∧ (d.pt f p).waitAt < d.time.nb ∧ d.link f k = linkUp ∧ d.targetMet f k then
    setFloors f p (dirtyWindow f p ((d.wr (ST_OP_PATCH_FIDX f p) (d.rd (ST_OP_PATCH_FREQ f p))).wrB (ST_OP_PATCH_WAIT f p) false))
  else d

/-- R119: the slew of a domain ends and its waiting raises are done. -/
def completeSlew (f k : Nat) (d : Dev) : Dev := forL (patchesOf k) (completeRaise f k) (endSlew f k d)

/-- R132: the slew out of RETENTION or OFF is complete. -/
def completeRail (f k : Nat) (d : Dev) : Dev :=
  match (d.dm f k).railSlew with
  | none => d
  | some s => if d.link f k = linkUp ∧ slewKnown d f s then d.updDm f k fun x => { x with railAt := none, railSlew := none } else d

/-- R119: RAISE_COMPLETE. -/
def raiseComplete (f k : Nat) (d : Dev) : Dev := if d.stopped then d else completeSlew f k d

/-! Emergency reductions (R153). -/

/-- R153: near- and critical-band ceilings of a running patch whose band has changed since they were last set. -/
def bandCeil (f p : Nat) (d : Dev) : Dev :=
  let x := d.pt f p
  let b := d.rd (PS_STATUS_BAND f p)
  if !d.runs f p || (x.bandHold.isSome && x.bandHold = x.readAt) || b = x.bandActed then d else
  let i := d.fidx f p
  d.updPt f p fun x => { x with
    bandActed := b
    bandHold := none
    nearCeil := if b = 0 then none else if b = 1 then some (i - d.rd (ST_BUD_EMERG_EM_NEAR f)) else x.nearCeil
    critCeil := if b = 2 then some (i - d.rd (ST_BUD_EMERG_EM_CRIT f)) else none }

/-- R153, R438: the domain-current reduction falls due: ceilings and the MATRIX hold of this pick. -/
def domCeilApply (f k : Nat) (d : Dev) : Dev :=
  let x := d.dm f k
  let d := d.updDm f k fun y => { y with matrixHeld := x.domDue, domDue := false }
  if x.domDue then
    forL (patchesOf k) (fun p d => if d.runs f p
      then d.updPt f p fun y => { y with domCeil := some (d.fidx f p - d.rd (ST_BUD_EMERG_EM_DOM f)) } else d) d
  else d

/-- R170: DOM_EXC in effect. -/
def Dev.domExc (d : Dev) (f : Nat) : Nat := let v := d.rd (ST_BUD_EMERG_DOM_EXC f); if v = 0 ∨ 49 < v then 40 else v

/-- R153, R438: the trigger holds, or the reduction is repeated. -/
def domTrigger (d : Dev) (f k : Nat) : Bool :=
  let x := d.dm f k
  let i := d.rd (ST_LINK_UP0_IOUT f k)
  !d.rdB (ST_LINK_STATUS_STALE f k) && decide (2200 < i) && (x.domCut || decide (2800 < i) || decide (d.domExc f ≤ x.overRun))

/-- R153: DOM_CEILING: the reduction is due at the next boundary. -/
def domCeiling (f k : Nat) (d : Dev) : Dev :=
  if d.stopped || !domTrigger d f k then d else
  let x := d.dm f k
  let d := d.updDm f k fun y => { y with domDue := true, domCut := true, overAll := if x.domCut then x.overAll else x.overRun }
  if x.domCut then d else d.raiseR { d.report .elec 7 f k with value := d.rd (ST_LINK_UP0_IOUT f k) }

/-- R438: DOM_CEILING_LIFT. -/
def domLift (f k : Nat) (d : Dev) : Dev :=
  let x := d.dm f k
  if x.domCut && decide (x.overAll ≤ x.quiet) then
    forL (patchesOf k) (fun p d => d.updPt f p fun y => { y with domCeil := none })
      (d.updDm f k fun y => { y with domCut := false, domDue := false, overAll := 0, quiet := 0 })
  else d

/-! The self-test engine's hold on domains and patches (R345, R351). -/

/-- R351: the stress test of a field. -/
def Dev.stressOf (d : Dev) (f : Nat) : Stress := tget Stress.init d.test.stress f

/-- R351: a stress test runs on the field. -/
def Dev.inStress (d : Dev) (f : Nat) : Bool := decide (1 ≤ (d.stressOf f).phase) && decide ((d.stressOf f).phase ≤ 6)

/-- R351: the patterns of a stress test run in the field: phases 2 to 5. -/
def Dev.stressRuns (d : Dev) (f : Nat) : Bool := decide (2 ≤ (d.stressOf f).phase) && decide ((d.stressOf f).phase ≤ 5)

/-- R351: a domain at the low or the high point of index i. -/
def Dev.pointVid (d : Dev) (f k i : Nat) (low : Bool) : Nat :=
  let ps := (patchesOf k).filter fun p => !d.retired f p
  d.vidClamp f (if low then maxN (ps.map fun p => d.vmin f p i) - d.rd BT_CFG1_STRESS_SUB else d.rd (ST_OP_GUARD_VID_HI f))

/-- R351: the indices of the points. -/
def Dev.pointIx (d : Dev) (f : Nat) : List Nat := [0, 24, 56, 88, min 88 (d.rd (ST_OP_FPLAN_F_PLAN f))]

/-- R351: the VID that the stress test sets in a domain, from phase 3 on: each point stands POINT_BOLTS bolts. -/
def Dev.stressVid (d : Dev) (f k : Nat) : Option Nat :=
  let s := d.stressOf f
  if s.phase = 3 ∨ s.phase = 5 then
    let n := min 9 ((d.time.nbRun - s.phaseAt) / (1000 * (if d.rd BT_CFG1_POINT_BOLTS = 0 then 1 else d.rd BT_CFG1_POINT_BOLTS)))
    some (d.pointVid f k ((d.pointIx f).getD (n / 2) 0) (n % 2 = 0))
  else if s.phase = 4 then some (d.pointVid f k 88 false) else none

/-- R345: PATCH_DROOP runs on the patch: its detectors are disconnected from stretch and from step marking. -/
def Dev.droopTest (d : Dev) (f p : Nat) : Bool := d.test.slices.any fun s => s.run && s.id = 0x12 && s.field = f && s.patch = p

/-! What a boundary does with one domain. -/

/-- R137: the mode of the next down frame, by precedence; R136 for a link in INIT, but for the test frames of phase 2 of a
stress test (R351). -/
def Dev.modeFor (d : Dev) (f k : Nat) : Nat :=
  match d.selMode with
  | some m => m
  | none =>
    if d.link f k = linkInit then (if (d.stressOf f).phase = 2 then modeRun else if (d.dm f k).handBack then modeRetention else modeOff)
    else if d.rdB (ST_OP_STATUS_HOLD_SAFE f) then modeHold
    else if d.link f k = linkLost then modeHold
    else if d.link f k = linkRecovering then (if (d.dm f k).ackSafe then modeRun else modeHold)
    else let r := d.rd (ST_LINK_CMD_MODE_REQ f k); if r = 2 ∨ r = 3 then r else modeRun

/-- R111, R124, R132: a stopped patch would start: its field serves, its link is UP, RUN is sent, nothing holds it. -/
def Dev.wouldStart (d : Dev) (f p : Nat) : Bool :=
  d.inService f && d.pstate f p = psStopped && !d.retired f p && !(d.pt f p).held
    && !d.rdB (ST_OP_STATUS_HOLD_SAFE f) && d.link f (domOf p) = linkUp && d.modeFor f (domOf p) = modeRun

/-- R119, R122: the target that a patch's guard asks for is known complete. -/
def Dev.guardMet (d : Dev) (f p : Nat) : Bool :=
  d.targetMet f (domOf p) && decide (d.vmin f p (d.fidx f p) + d.guard f p ≤ d.rd (ST_LINK_DOWN_VREF f (domOf p)))

/-- R142, R153: a REPLAY hold of the field or of the patch: no new replay, tie-break, repeat, audit or assay work issues. -/
def Dev.replayHeld (d : Dev) (f p : Nat) : Bool := d.rdB (ST_BUD_STATUS_HELDc f 7) || (d.pt f p).critCeil.isSome

/-- R118: it may start, if index 0 fits under VID_HI. -/
def Dev.mayStart (d : Dev) (f p : Nat) : Bool := d.wouldStart f p && (d.railCeil f p).isSome

/-- R111, R132, R135: a running patch must stop at this boundary. -/
def Dev.mustStop (d : Dev) (f p : Nat) : Bool :=
  !d.inService f || (d.link f (domOf p) ≠ linkUp && d.link f (domOf p) ≠ linkDegraded)
    || d.modeFor f (domOf p) = modeRetention || d.modeFor f (domOf p) = modeOff

/-- R118: index 0 does not fit under VID_HI: the patch is stopped and named once. -/
def railStopPatch (f p : Nat) (d : Dev) : Dev :=
  let told := (d.pt f p).railStop
  let d := (stopClock psStopped f p d).updPt f p fun x => { x with railStop := true }
  onlyIf (!told) (·.raise .elec 3 f p) ((d.wrB (ST_OP_PATCH_RAIL_LIM f p) true).wrB (ST_OP_STATUS_RAIL_LIMIT f) true)

/-- R109, R118 to R121: resolve the request of a running patch and lower its index, or let it wait. -/
def resolve (f p : Nat) (d : Dev) : Dev :=
  if !d.runs f p then d.wrB (ST_OP_PATCH_WAIT f p) false else
  match d.railCeil f p with
  | none => railStopPatch f p d
  | some r =>
    let q := d.request f p r
    let d := (d.wr (ST_OP_PATCH_FREQ f p) q).wrB (ST_OP_PATCH_RAIL_LIM f p) (decide ((r : Int) < d.wants f p))
    if q ≤ d.fidx f p then
      onlyIf (decide (q < d.fidx f p)) (dirtyWindow f p) ((d.wr (ST_OP_PATCH_FIDX f p) q).wrB (ST_OP_PATCH_WAIT f p) false)
    else
      (d.wrB (ST_OP_PATCH_WAIT f p) (d.link f (domOf p) = linkUp)).updPt f p fun x =>
        { x with waitAt := if d.rdB (ST_OP_PATCH_WAIT f p) then x.waitAt else d.time.nb }

/-- R117: what one patch asks of its domain's target, where prev is its index before this boundary. -/
def Dev.needs (d : Dev) (f p prev : Nat) : Option Nat :=
  if (d.pt f p).starting.isSome then some (d.vmin f p 0 + d.guard f p)
  else if d.runs f p then
    let i := max prev (max (d.fidx f p) (if d.rdB (ST_OP_PATCH_WAIT f p) then d.rd (ST_OP_PATCH_FREQ f p) else 0))
    let v := d.vmin f p i + d.guard f p
    let pre := (d.preposAt f d.time.count).any fun x => x.dom = domOf p
    match pre, d.railCeil f p with
    | true, some r => some (max v (d.vmin f p (d.preIdx f p r) + d.rd (ST_OP_GUARD_RUN_GUARD f)))
    | _, _ => some v
  else none

/-- R117: the target of a domain; prev gives each patch's index before this boundary. -/
def Dev.target (d : Dev) (f k : Nat) (prev : Nat → Nat) : Nat :=
  match d.stressVid f k with
  | some v => v
  | none =>
  let l := (patchesOf k).filterMap fun p => d.needs f p (prev p)
  let idle := d.rd (ST_OP_VF_VMIN f 0) + d.rd (ST_OP_GUARD_RUN_GUARD f)
  d.vidClamp f (if l = [] ∨ d.link f k = linkInit then idle else maxN l)

/-- R135: the target for F-index 0 that a recovering domain is sent: every patch that may restart is covered. -/
def Dev.target0 (d : Dev) (f k : Nat) : Nat :=
  let l := ((patchesOf k).filter fun p => !d.retired f p).map fun p => d.vmin f p 0 + d.guard f p
  d.vidClamp f (max (maxN l) (d.rd (ST_OP_VF_VMIN f 0) + d.rd (ST_OP_GUARD_RUN_GUARD f)))

/-- R63, R119: a target of a domain; a rise starts a slew, a fall moves V_ref at once. -/
def setTarget (f k t : Nat) (d : Dev) : Dev :=
  let old := d.vidOf f k
  let vref := d.rd (ST_LINK_DOWN_VREF f k)
  if t = old then d
  else
    let seq := (d.rd (ST_LINK_DOWN_SEQ f k) + 1) % 256
    let d := forL (patchesOf k) (dirtyWindow f) (d.wr (ST_LINK_DOWN_VID f k) t)
    if t ≤ vref then
      (d.wr (ST_LINK_DOWN_VREF f k) t).updDm f k fun x =>
        { x with slew := some ⟨d.time.nb, seq, vref - t, false, true⟩, bandVid := max old (max t vref) }
    else d.updDm f k fun x => { x with slew := some ⟨d.time.nb, seq, t - vref, false, false⟩, bandVid := max old t }

/-- R126, R127: the 48-bit payload of the last down frame of a domain. -/
def Dev.downPayload (d : Dev) (f k : Nat) : Nat :=
  d.vidOf f k + (d.dm f k).slewSent * 2 ^ 8 + d.rd (ST_LINK_DOWN_MODE f k) * 2 ^ 16
    + b01 (d.rdB (ST_LINK_DOWN_ACK_SAFE f k)) * 2 ^ 18 + d.rd (ST_LINK_DOWN_SEQ f k) * 2 ^ 24 + dkey f k * 2 ^ 32

/-- R126: symbols 1 to 8 of the last down frame: the payload bytes and their CRC-16, low byte first. -/
def Dev.downBytes (d : Dev) (f k : Nat) : List Nat :=
  let b := leBytes 6 (d.downPayload f k)
  b ++ leBytes 2 (crc16 b)

/-- R130, R127: the down frame of this pick: mode, sequence, slew rate, ACK_SAFE. -/
def downFrame (f k vidBefore mode : Nat) (d : Dev) : Dev :=
  let rate := if d.selMode.isSome then 80
    else slewRate (if vidBefore < d.vidOf f k then d.rd (ST_OP_SLEW_SLEW_UP f) else d.rd (ST_OP_SLEW_SLEW_DN f))
  let seq := (d.rd (ST_LINK_DOWN_SEQ f k) + 1) % 256
  let d := ((((d.wr (ST_LINK_DOWN_MODE f k) mode).wrB (ST_LINK_DOWN_ACK_SAFE f k)
    ((d.dm f k).ackSafe && d.link f k = linkRecovering)).wr (ST_LINK_DOWN_SEQ f k) seq)).updDm f k fun x => { x with slewSent := rate }
  d.emit (.downFrame (dkey f k) (d.downBytes f k))

/-- R132: RETENTION or OFF takes the rail away; a RUN after it, or a RUN with a new target, starts the slew that the clocks
wait for; a HOLD between them starts none and ends none. -/
def railMode (f k vidBefore mode : Nat) (d : Dev) : Dev :=
  if mode = modeRetention ∨ mode = modeOff then d.updDm f k fun x => { x with railAt := some mode, railSlew := none }
  else match (d.dm f k).railAt with
  | none => d
  | some m =>
    if mode ≠ modeRun then d.updDm f k fun x => { x with railSlew := none }
    else if (d.dm f k).railSlew.isNone ∨ vidBefore ≠ d.vidOf f k then
      let dv := if m = modeRetention then d.vidOf f k - 20 else d.vidOf f k + 200
      d.updDm f k fun x => { x with railSlew := some ⟨d.time.nb, (d.rd (ST_LINK_DOWN_SEQ f k) + 1) % 256, dv, false, false⟩ }
    else d

/-- R66: arm or disarm the detectors of a patch. -/
def armDetectors (f p : Nat) (d : Dev) : Dev :=
  let k := domOf p
  d.wrB (PS_STATUS_DD_ARMED f p)
    (d.runs f p && d.rd (ST_LINK_DOWN_MODE f k) ≠ modeRetention && d.rd (ST_LINK_DOWN_MODE f k) ≠ modeOff && (d.dm f k).railAt.isNone)

/-- R111, R117, R399: a patch that has been retired leaves its domain's target and its clock stops at the boundary. -/
def retireDue (f p : Nat) (d : Dev) : Dev :=
  if d.retired f p ∧ d.pstate f p ≠ psRetired then (stopClock psStopped f p d).wr (ST_OP_PATCH_STATE f p) psRetired else d

/-- R111, R118: whether a stopped patch asks to start: from this boundary on, or not; where even index 0 does not fit it is
named. -/
def askStart (f p : Nat) (d : Dev) : Dev :=
  if d.mayStart f p then
    if (d.pt f p).starting = none then d.updPt f p fun x => { x with starting := some d.time.nb, railStop := false } else d
  else if d.wouldStart f p then railStopPatch f p d
  else d.updPt f p fun x => { x with starting := none }

/-- R63, R109 to R121, R130 to R137: one domain at a pick boundary outside a global stop. -/
def domBoundary (f k : Nat) (d : Dev) : Dev :=
  let ps := patchesOf k
  let d := forL ps (fun p d => retireDue f p (mofsApply f p d)) d
  let d := if d.link f k = linkLost ∧ (d.dm f k).noBoundary
    then ((d.wr (ST_LINK_STATUS_STATE f k) linkRecovering).wr (ST_LINK_STATUS_BAD f k) 0).updDm f k
      fun x => { x with good := 0, fresh := true, ackSafe := false, noBoundary := false } else d
  let d := forL ps (fun p d => if d.runs f p && d.mustStop f p then stopClock psStopped f p d else d) d
  let d := completeRail f k (completeSlew f k (domCeilApply f k (forL ps (bandCeil f) d)))
  let d := forL ps (askStart f) d
  let prev := ps.map fun p => (p, d.fidx f p)
  let vidBefore := d.vidOf f k
  let d := forL ps (resolve f) d
  let t := if d.link f k = linkRecovering then d.target0 f k
    else d.target f k fun p => ((prev.find? fun x => x.1 = p).map (·.2)).getD 0
  let mode := d.modeFor f k
  let d := downFrame f k vidBefore mode (railMode f k vidBefore mode (setTarget f k t d))
  forL ps (fun p d => armDetectors f p (setFloors f p d)) d

/-- R46: one domain at a boundary during a global stop: one frame per pick with the VID and mode of the cut; a
field stop overrides the mode (R375). -/
def domBoundaryStopped (f k : Nat) (d : Dev) : Dev :=
  let mode :=
    if d.selMode.isSome ∨ d.rdB (ST_OP_STATUS_HOLD_SAFE f) ∨ d.link f k = linkLost ∨ d.link f k = linkRecovering ∨ (d.fd f).stop ≠ .none
    then d.modeFor f k else d.rd (ST_LINK_DOWN_MODE f k)
  let d := forL (patchesOf k) (retireDue f) d
  let d := forL (patchesOf k) (fun p d => if d.runs f p && d.link f k = linkLost then stopClock psStopped f p d else d) d
  downFrame f k (d.vidOf f k) mode (railMode f k (d.vidOf f k) mode d)

/-- R138, R153: the summary bits of a field's operating points. -/
def opSummary (f : Nat) (d : Dev) : Dev :=
  let ps := (List.range 36).filter (d.runs f)
  let d := d.wrB (ST_OP_STATUS_RAIL_LIMIT f) ((List.range 36).any fun p => d.rdB (ST_OP_PATCH_RAIL_LIM f p))
  let d := d.wrB (ST_BUD_STATUS_NEAR f) (ps.any fun p => (d.pt f p).nearCeil.isSome)
  let d := d.wrB (ST_BUD_STATUS_CRIT f) (ps.any fun p => (d.pt f p).critCeil.isSome)
  d.wrB (ST_BUD_STATUS_DOM f) ((List.range 4).any fun k => (d.dm f k).domCut)

/-- The operating points and links of a field at a pick boundary. -/
def opBoundary (f : Nat) (d : Dev) : Dev :=
  if d.stopped then forN 4 (domBoundaryStopped f) d else opSummary f (forN 4 (domBoundary f) d)

/-- R111: a patch asked to start at an earlier boundary than the present one. -/
def PatchS.asked (x : PatchS) (nb : Nat) : Bool :=
  match x.starting with
  | some s => decide (s < nb)
  | none => false

/-- R111: PATCH_CLOCK_START, at a boundary after the one at which the clock was asked to start (log entry 119): the ADPLL has
locked, and the domain's target, with the patch at index 0, is known complete; the patch starts at F-index 0. -/
def patchClockStart (f p : Nat) (d : Dev) : Dev :=
  let k := domOf p
  if (d.pt f p).asked d.time.nb && d.mayStart f p && !d.stopped && (d.dm f k).railAt.isNone && d.targetMet f k
      && decide (d.vmin f p 0 + d.guard f p ≤ d.rd (ST_LINK_DOWN_VREF f k)) then
    let d := (d.updPt f p fun x => { x with starting := none }).wr (ST_OP_PATCH_STATE f p) psRunning
    let d := ((d.wr (ST_OP_PATCH_FIDX f p) 0).wrB (PS_STATUS_CLK_ON f p) true).updPt f p fun x => { x with ran := true }
    setFloors f p (armDetectors f p d)
  else d

/-! Clock stretch (R112 to R114). -/

/-- R114: stretch is on for a patch. -/
def Dev.stretchOn (d : Dev) (f p : Nat) : Bool :=
  d.rd (PS_DD_STRETCH_K f p) ≠ 0 && d.rdB (ST_OP_STRETCH_EN f) && d.rdB (PS_STATUS_DD_ARMED f p) && !d.droopTest f p

/-- R112: entry threshold of stretch level n. -/
def Dev.stretchThr (d : Dev) (f p n : Nat) : Nat := d.rd (PS_DD_STRETCH_K f p) + (n - 1) * orDef (d.rd (ST_OP_STRETCH_DSTEP f)) 1

/-- R112: the deepest level called for by a rail below level `depth`; a threshold above 63 is never reached. -/
def Dev.stretchCall (d : Dev) (f p depth : Nat) : Nat :=
  maxN ((List.range 5).filter fun n => n ≠ 0 ∧ d.stretchThr f p n ≤ 63 ∧ d.stretchThr f p n ≤ depth)

/-- R65: the stretch threshold of a patch is crossed, whatever level is in force; 0 is no threshold. -/
def Dev.crosses (d : Dev) (f p depth : Nat) : Bool :=
  d.rdB (PS_STATUS_DD_ARMED f p) && !d.droopTest f p && d.rd (PS_DD_STRETCH_K f p) ≠ 0 && decide (d.rd (PS_DD_STRETCH_K f p) ≤ depth)

/-- R112, R65: STRETCH_ENTRY: a detector finds the rail below level `depth`. -/
def stretchEntry (f p depth : Nat) (d : Dev) : Dev :=
  let d := onlyIf (d.crosses f p depth) (·.updPt f p fun x => { x with crossed := true }) d
  let n := d.stretchCall f p depth
  if d.stretchOn f p ∧ d.rd (PS_STATUS_STRETCH f p) < n then
    let first := !(d.pt f p).stretched
    let d := (dirtyWindow f p (d.wr (PS_STATUS_STRETCH f p) n)).updPt f p fun x => { x with stretched := true, stretchMax := max x.stretchMax n }
    onlyIf first (·.inc (PS_DD_CNT_STRETCH_PICKS f p)) d
  else d

/-- R113: STRETCH_RELEASE: one level less. -/
def stretchRelease (f p : Nat) (d : Dev) : Dev := d.wr (PS_STATUS_STRETCH f p) (d.rd (PS_STATUS_STRETCH f p) - 1)

/-- R62: the floor of the stretch level in force; 0 acts as 1. -/
def Dev.floorNow (d : Dev) (f p : Nat) : Nat := orDef (d.rd (PS_DD_FLOOR_FLOOR f p (d.rd (PS_STATUS_STRETCH f p)))) 1

/-- R65, R199: FLOOR_CROSSING by a detector that finds the rail below level `depth`. -/
def floorCrossing (f p depth sub : Nat) (d : Dev) : Dev :=
  if d.rdB (PS_STATUS_DD_ARMED f p) ∧ d.droopTest f p = false ∧ d.floorNow f p ≤ depth then
    let first := !(d.pt f p).floored
    let d := d.updPt f p fun x =>
      { x with floored := true, floorAt := if first then some (d.sentStamp f p sub) else x.floorAt }
    (onlyIf first (·.inc (PS_DD_CNT_FLOOR_PICKS f p)) d).markOpen .floor f [p]
  else d

/-! The step link upwards (R128 to R131, R135). -/

/-- R128: the fields of an up payload. -/
def upVout (w : BitVec 64) : Nat := bitsOf w.toNat 0 12
def upIout (w : BitVec 64) : Nat := bitsOf w.toNat 12 12
def upTemp (w : BitVec 64) : Nat := bitsOf w.toNat 24 8
def upStatus (w : BitVec 64) : Nat := bitsOf w.toNat 32 8
def upSeq (w : BitVec 64) : Nat := bitsOf w.toNat 40 8
def upDom (w : BitVec 64) : Nat := bitsOf w.toNat 48 9
def upMode (w : BitVec 64) : Nat := bitsOf w.toNat 57 2

/-- R131: a frame is valid by itself. -/
def upSound (w : BitVec 64) (crc : BitVec 16) (clean : Bool) : Bool :=
  clean && crc16 (leBytes 8 w.toNat) = crc.toNat && bitsOf w.toNat 59 5 = 0 && decide (upDom w < 384)

/-- R131: the sequence echo has not moved since the previous frame while the regulator runs. -/
def upLags (d : Dev) (f k : Nat) (w : BitVec 64) : Bool :=
  (d.dm f k).heard && upMode w = modeRun && upSeq w = d.rd (ST_LINK_UP1_SEQ_ECHO f k)

/-- R71, R135, R438: a bad or missing up frame. -/
def badUp (f k : Nat) (d : Dev) : Dev :=
  let d := ((d.inc (ST_LINK_ERR_BAD_UP f k)).wr (ST_LINK_STATUS_BAD f k) (satN 64 (d.rd (ST_LINK_STATUS_BAD f k) + 1))).wrB
    (ST_LINK_STATUS_STALE f k) true
  let d := d.updDm f k fun x => { x with good := 0, quiet := if d.stopped then x.quiet else 0 }
  if d.stopped then d else d.updFd f fun x => { x with eSkip := true }

/-- R119: telemetry confirms a slew. -/
def confirms (w : BitVec 64) (vid : Nat) (s : Slew) : Bool :=
  decide ((upSeq w + 256 - s.seq) % 256 < 128) && upMode w = modeRun
    && bif s.down then decide (upVout w ≤ voutOf vid + 4) else decide (voutOf vid ≤ upVout w + 4)

/-- R129: an ELEC event for a status bit that goes from clear to set. -/
def statusEvent (f k old new bit typ : Nat) (d : Dev) : Dev :=
  if bitOf new bit && !bitOf old bit then d.raise .elec typ f k else d

/-- R200: mark the steps open at any time during the reported pick on the running patches of a domain. -/
def uvMark (f k : Nat) (d : Dev) : Dev :=
  let ps := (patchesOf k).filter (d.runs f)
  d.sendMark .uv f ps (distinct (ps.flatMap fun p => (d.pt f p).stepsPrev))

/-- R76, R438: telemetry of a good frame goes to the meter and the domain-current counts, except in a global stop. -/
def upCount (f k : Nat) (w : BitVec 64) (d : Dev) : Dev :=
  if d.stopped then d else
  let i := upIout w
  (d.updFd f fun x => { x with eMeas := x.eMeas + upVout w * i }).updDm f k fun x => { x with
    overRun := if 2200 < i then x.overRun + 1 else 0
    overAll := if x.domCut ∧ 2200 < i then x.overAll + 1 else x.overAll
    quiet := if i ≤ 2000 then x.quiet + 1 else 0 }

/-- R71, R128 to R131: the values of a good frame. -/
def goodUp (f k : Nat) (w : BitVec 64) (d : Dev) : Dev :=
  let st := upStatus w
  let old := if (d.dm f k).fresh then 0 else d.rd (ST_LINK_UP1_STATUS f k)
  let d := (d.wr (ST_LINK_UP0_VOUT f k) (upVout w)).wr (ST_LINK_UP0_IOUT f k) (upIout w)
  let d := (((d.wr (ST_LINK_UP1_TEMP f k) (upTemp w)).wr (ST_LINK_UP1_STATUS f k) st).wr (ST_LINK_UP1_SEQ_ECHO f k) (upSeq w)).wr
    (ST_LINK_UP1_MODE_ECHO f k) (upMode w)
  let d := (((d.wr (ST_LINK_STATUS_BAD f k) 0).wrB (ST_LINK_STATUS_STALE f k) false).wrB (ST_LINK_STATUS_REG_HOLDING f k) (bitOf st 1)).wrB
    (ST_LINK_STATUS_REG_SAFE f k) (bitOf st 0)
  let d := statusEvent f k old st 6 6 (statusEvent f k old st 5 5 (statusEvent f k old st 4 4 d))
  let vid := d.vidOf f k
  let d := d.updDm f k fun x => { x with
    fresh := false
    heard := true
    good := if d.link f k = linkDegraded ∧ bitOf st 1 = true then 0 else x.good + 1
    noBoundary := x.noBoundary && bitOf st 0
    slew := x.slew.map fun s => { s with seen := s.seen || confirms w vid s }
    railSlew := x.railSlew.map fun s => { s with seen := s.seen || confirms w vid s } }
  upCount f k w (onlyIf (bitOf st 4 && !d.stopped) (uvMark f k) d)

/-- R130, R131: an up frame arrives. -/
def upFrame (f k : Nat) (w : BitVec 64) (crc : BitVec 16) (clean : Bool) (d : Dev) : Dev :=
  if (d.dm f k).upSeen then d else
  let d := d.updDm f k fun x => { x with upSeen := true }
  if !upSound w crc clean then badUp f k d
  else if upDom w ≠ dkey f k then badUp f k ((d.wrB (ST_LINK_STATUS_XWIRE f k) true).inc (ST_LINK_ERR_ECHO_LAG f k))
  else if upLags d f k w then badUp f k (d.inc (ST_LINK_ERR_ECHO_LAG f k))
  else goodUp f k w d

/-- R130: no valid up frame by sub-pick 3,891. -/
def upFrameMissing (f k : Nat) (d : Dev) : Dev :=
  if (d.dm f k).upSeen then d else badUp f k (d.updDm f k fun x => { x with upSeen := true })

/-! R135: link states. -/

def setLink (f k s : Nat) (d : Dev) : Dev := (d.wr (ST_LINK_STATUS_STATE f k) s).updDm f k fun x => { x with good := 0 }

/-- R121, R135: cancel the waiting raises of a domain. -/
def cancelRaises (f k : Nat) (d : Dev) : Dev := forL (patchesOf k) (fun p d => d.wrB (ST_OP_PATCH_WAIT f p) false) d

def linkUpDo (f k : Nat) (d : Dev) : Dev :=
  if 16 ≤ (d.dm f k).good ∧ (d.link f k = linkInit ∨ (d.link f k = linkDegraded ∧ d.rdB (ST_LINK_STATUS_REG_HOLDING f k) = false))
  then (setLink f k linkUp d).updDm f k fun x => { x with handBack := false, shut := false } else d

def linkDegradedDo (f k : Nat) (d : Dev) : Dev :=
  if d.link f k = linkUp ∧ (8 ≤ d.rd (ST_LINK_STATUS_BAD f k) ∨ d.rdB (ST_LINK_STATUS_REG_HOLDING f k))
  then (cancelRaises f k (setLink f k linkDegraded d)).raise .elec 1 f k else d

/-- R135: the conditions of a loss. -/
def linkLoses (d : Dev) (f k : Nat) : Bool :=
  ((d.link f k = linkUp || d.link f k = linkDegraded)
    && (decide (64 ≤ d.rd (ST_LINK_STATUS_BAD f k)) || d.rdB (ST_LINK_STATUS_REG_SAFE f k) || bitOf (d.rd (ST_LINK_UP1_STATUS f k)) 6))
  || (d.link f k = linkRecovering && decide (64 ≤ d.rd (ST_LINK_STATUS_BAD f k)))

def linkLostDo (f k : Nat) (d : Dev) : Dev :=
  if linkLoses d f k then
    let quiet := (d.dm f k).noBoundary
    let d := stopWadding f k (cancelRaises f k (setLink f k linkLost d))
    let d := d.updDm f k fun x => { x with ackSafe := false, shut := true, slew := none }
    onlyIf (!quiet) (·.raise .elec 2 f k) d
  else d

def reenable (f k : Nat) (d : Dev) : Dev :=
  if d.link f k = linkLost then
    ((setLink f k linkRecovering d).wr (ST_LINK_STATUS_BAD f k) 0).updDm f k fun x =>
      { x with fresh := true, ackSafe := false, noBoundary := false }
  else conflict (ST_OP_STATUS_STATE_CONFLICT f) d

def linkAckSafe (f k : Nat) (d : Dev) : Dev :=
  if d.link f k = linkRecovering ∧ 16 ≤ (d.dm f k).good then d.updDm f k fun x => { x with ackSafe := true } else d

/-- R135: VOUT within 4 of the target. -/
def voutNear (d : Dev) (f k : Nat) : Bool :=
  decide (voutOf (d.vidOf f k) ≤ d.rd (ST_LINK_UP0_VOUT f k) + 4) && decide (d.rd (ST_LINK_UP0_VOUT f k) ≤ voutOf (d.vidOf f k) + 4)

def linkRecovered (f k : Nat) (d : Dev) : Dev :=
  if d.link f k = linkRecovering ∧ d.rd (ST_LINK_STATUS_BAD f k) = 0 ∧ 0 < (d.dm f k).good
      ∧ d.rdB (ST_LINK_STATUS_REG_SAFE f k) = false ∧ d.rd (ST_LINK_UP1_MODE_ECHO f k) = modeRun ∧ voutNear d f k then
    ((setLink f k linkUp d).wr (ST_LINK_DOWN_VREF f k) (d.vidOf f k)).updDm f k fun x =>
      { x with ackSafe := false, shut := false, slew := none, bandVid := d.vidOf f k }
  else d

/-- R137, R138: a write of MODE_REQ. -/
def modeReq (f k m : Nat) (d : Dev) : Dev :=
  if m = 1 then conflict (ST_OP_STATUS_STATE_CONFLICT f) d else d.wr (ST_LINK_CMD_MODE_REQ f k) m

/-- R135, R138: a write of ST_LINK_CMD, refused whole where either part of it is. -/
def linkCmd (f k : Nat) (re : Bool) (m : Nat) (d : Dev) : Dev :=
  if m = 1 ∨ (re ∧ d.link f k ≠ linkLost) then conflict (ST_OP_STATUS_STATE_CONFLICT f) d
  else onlyIf re (reenable f k) (modeReq f k m d)

/-! Hold-safe (R124, R307, R308) and retirement (R399, R400). -/

/-- R307: hold-safe at one steward; nothing changes where it is asserted already, as it is until the field is brought up
(log entry 9). -/
def holdSafeField (f : Nat) (d : Dev) : Dev :=
  if d.rdB (ST_OP_STATUS_HOLD_SAFE f) || !(d.fd f).up then d else
  let d := d.wrB (ST_OP_STATUS_HOLD_SAFE f) true
  let d := forN 36 (fun p d => (stopClock psHeld f p d).wr (ST_OP_PATCH_FIDX f p) 0) d
  let d := forN 4 (fun k d => cancelRaises f k (stopWadding f k d)) d
  d.updFd f fun x => { x with shut := true }

/-- R307: HOLD_SAFE_ENTER at every steward. -/
def holdSafeEnter (d : Dev) : Dev :=
  let d := forN 96 holdSafeField d
  { d with clk := { d.clk with held := true } }

/-- R308: hold-safe is lifted from one field: its patches may restart; its loops' next samples are exempt. -/
def holdSafeLift (f : Nat) (d : Dev) : Dev :=
  let d := d.wrB (ST_OP_STATUS_HOLD_SAFE f) false
  let d := forN 36 (fun p d => if d.pstate f p = psHeld then d.wr (ST_OP_PATCH_STATE f p) psStopped else d) d
  forLoops f exemptNext (d.updFd f fun x => { x with shut := x.stop ≠ .none })

/-- R308: after a WAIT in service: the first bolt boundary after boundaries resume. -/
def holdSafeRelease (d : Dev) : Dev :=
  if d.clk.held && d.rdB CK_STATUS_ROSC_RUN && d.mode ≠ NO_SOURCE && d.time.count % 1000 = 0 && !d.stopped then
    let d := exemptNext capRef (forL d.serving holdSafeLift d)
    { d with clk := { d.clk with held := false } }
  else d

/-- R156: a steward enters drain state: every hint that waits is discarded and counted. -/
def drainHints (f : Nat) (d : Dev) : Dev :=
  (d.add (ST_HINT_DROP2_DRAIN f) (d.fd f).hints.length).updFd f fun x => { x with hints := [] }

/-- R367: a field stop: heddles closed, wadding stopped, hint queue drained; the clocks stop at the next boundary. -/
def stopField (c : FieldStop) (f : Nat) (d : Dev) : Dev :=
  if (d.fd f).stop ≠ .none then d else
  let d := forN 4 (stopWadding f) d
  (drainHints f d).updFd f fun x => { x with stop := c, stopDue := true, shut := true }

/-- R354, R367: the part of a field stop done at the boundary: RETENTION is requested for its domains, unless a stress test has
taken the field. -/
def stopFieldDue (f : Nat) (d : Dev) : Dev :=
  if (d.fd f).stopDue then
    onlyIf (!d.inStress f) (forN 4 fun k d => d.wr (ST_LINK_CMD_MODE_REQ f k) modeRetention)
      (forN 36 (stopClock psStopped f) (d.updFd f fun x => { x with stopDue := false }))
  else d

/-- R401: retired patches of a field. -/
def Dev.retiredOf (d : Dev) (f : Nat) : List Nat := (List.range 36).filter fun p => d.bit (JZ_RET f p) 0

/-- R111, R399: a patch is retired; a clock that runs stops at the next boundary. -/
def retirePatch (f p : Nat) (d : Dev) : Dev :=
  if d.retired f p then d else
  let d := onlyIf (!d.runs f p) (fun d => (stopClock psStopped f p d).wr (ST_OP_PATCH_STATE f p) psRetired) d
  let d := countRec f 6 (margDirty (d.wrB (ST_OP_PATCH_RETIRE f p) true))
  let d := (d.wrB (JZ_RET f p) true).wr JZ_AGE_STATUS_RSEQ ((d.rd JZ_AGE_STATUS_RSEQ + 1) % 65536)
  let d := (d.wr JZ_AGE_STATUS_RETIRED (sumN ((List.range 96).map fun g => (d.retiredOf g).length))).raise .selftest 6 f p
  if (d.fd f).up ∧ (d.fd f).stop = .none ∧ d.rd BT_CFG1_FIELD_RETIRE_MAX < (d.retiredOf f).length
  then (stopField .retired f d).raise .selftest 2 f 0 else d

/-! The commands. -/

def execRaiseComplete (f : Fin 96) (k : Fin 4) (s : State) : Host.Outcome State Fault Refusal := done (raiseComplete f.val k.val) s
def execPatchClockStart (f : Fin 96) (p : Fin 36) (s : State) : Host.Outcome State Fault Refusal := done (patchClockStart f.val p.val) s
def execMofsWrite (f : Fin 96) (p : Fin 36) (v : BitVec 6) (s : State) : Host.Outcome State Fault Refusal :=
  done (mofsWrite f.val p.val v.toNat) s
def execMofsRaiseApply (f : Fin 96) (p : Fin 36) (s : State) : Host.Outcome State Fault Refusal := done (mofsApply f.val p.val) s
def execRetire (f : Fin 96) (p : Fin 36) (s : State) : Host.Outcome State Fault Refusal := done (retirePatch f.val p.val) s
def execStretchEntry (f : Fin 96) (p : Fin 36) (depth : BitVec 6) (s : State) : Host.Outcome State Fault Refusal :=
  done (stretchEntry f.val p.val depth.toNat) s
def execStretchRelease (f : Fin 96) (p : Fin 36) (s : State) : Host.Outcome State Fault Refusal := done (stretchRelease f.val p.val) s
def execFloorCrossing (f : Fin 96) (p : Fin 36) (depth : BitVec 6) (sub : BitVec 12) (s : State) : Host.Outcome State Fault Refusal :=
  done (floorCrossing f.val p.val depth.toNat sub.toNat) s
def execUpFrame (f : Fin 96) (k : Fin 4) (w : BitVec 64) (crc : BitVec 16) (clean : Bool) (s : State) :
    Host.Outcome State Fault Refusal := done (upFrame f.val k.val w crc clean) s
def execUpFrameMissing (f : Fin 96) (k : Fin 4) (s : State) : Host.Outcome State Fault Refusal := done (upFrameMissing f.val k.val) s
def execLinkUp (f : Fin 96) (k : Fin 4) (s : State) : Host.Outcome State Fault Refusal := done (linkUpDo f.val k.val) s
def execLinkDegraded (f : Fin 96) (k : Fin 4) (s : State) : Host.Outcome State Fault Refusal := done (linkDegradedDo f.val k.val) s
def execLinkLost (f : Fin 96) (k : Fin 4) (s : State) : Host.Outcome State Fault Refusal := done (linkLostDo f.val k.val) s
def execReenable (f : Fin 96) (k : Fin 4) (s : State) : Host.Outcome State Fault Refusal := done (reenable f.val k.val) s
def execLinkAckSafe (f : Fin 96) (k : Fin 4) (s : State) : Host.Outcome State Fault Refusal := done (linkAckSafe f.val k.val) s
def execLinkRecovered (f : Fin 96) (k : Fin 4) (s : State) : Host.Outcome State Fault Refusal := done (linkRecovered f.val k.val) s
def execModeReq (f : Fin 96) (k : Fin 4) (m : BitVec 2) (s : State) : Host.Outcome State Fault Refusal := done (modeReq f.val k.val m.toNat) s
def execHoldSafeEnter (s : State) : Host.Outcome State Fault Refusal := done holdSafeEnter s
def execHoldSafeRelease (s : State) : Host.Outcome State Fault Refusal := done holdSafeRelease s
def execDomCeiling (f : Fin 96) (k : Fin 4) (s : State) : Host.Outcome State Fault Refusal := done (domCeiling f.val k.val) s
def execDomCeilingLift (f : Fin 96) (k : Fin 4) (s : State) : Host.Outcome State Fault Refusal := done (domLift f.val k.val) s

end Sys2Proof.Machine
end

