-- ==== Sys2Proof/Machine/Enforce.lean ====
section
/-! DEFINITION. Chapters 02 and 05: from counts to energy (R69, R70, R72, R74, R75), the class enforcer of a field (R140
to R146), its windows for the loops (R91, R92), and the samples of L-SLEW, L-POWER and L-CAP. -/

namespace Sys2Proof.Machine

/-- R170: the allotment in force of a class, tokens per pick; latest debt and final estimate, 2^-8 token. -/
def Dev.allot (d : Dev) (f c : Nat) : Nat := d.rd (ST_BUD_CLS_ALLOT f c)
def Dev.debt (d : Dev) (f c : Nat) : Nat := d.rd (ST_BUD_DEBT_DEBT f c)
def Dev.final (d : Dev) (f c : Nat) : Nat := d.rd (ST_BUD_FINAL_FINAL f c)
def Dev.held (d : Dev) (f c : Nat) : Bool := d.rdB (ST_BUD_STATUS_HELDc f c)

/-- Every field of the part. -/
def allFields : List Nat := List.range Config.nFields

/-- R149, R151, R170: share of a class in the split of a field. -/
def Dev.share (d : Dev) (f c : Nat) : Nat :=
  if c = 0 then d.rd (ST_BUD_SPLIT0_MATRIX f) else if c = 1 then d.rd (ST_BUD_SPLIT0_VECTOR f)
  else if c = 4 then d.rd (ST_BUD_SPLIT0_FABRIC f) else if c = 6 then d.rd (ST_BUD_SPLIT0_WADDING f)
  else if c = 7 then d.rd (ST_BUD_SPLIT1_REPLAY f) else 0

/-- R152: the fixed allotments of the image. -/
def Dev.fixMema (d : Dev) (f : Nat) : Nat := d.rd (ST_BUD_FIXED0_MEMA f)
def Dev.fixMemb (d : Dev) (f : Nat) : Nat := d.rd (ST_BUD_FIXED0_MEMB f)
def Dev.fixOpt (d : Dev) (f : Nat) : Nat := d.rd (ST_BUD_FIXED1_OPTICS f)

/-- R153, R439: the least OPTICS allotment under a cut. -/
def Dev.optFloor (d : Dev) (f : Nat) : Nat := divUp (d.fixOpt f * d.rd (ST_BUD_FIXED1_OPT_FLOOR f)) 256

/-- R270: MEMA, with a reduction for memory temperature. -/
def Dev.memaNow (d : Dev) (f : Nat) : Nat := match (d.fd f).memaCut with | some a => min a (d.fixMema f) | none => d.fixMema f

/-- R153, R439: OPTICS, with a cut for an engine and a cut for room; the lower applies. -/
def Dev.optNow (d : Dev) (f : Nat) : Nat :=
  let e := if (d.fd f).optEng then min (d.optFloor f) (d.fixOpt f) else d.fixOpt f
  match tget none d.bud.opticsRoom f with
  | some r => min e r
  | none => e

/-- R139: the five tile-rail classes. -/
def tileClasses : List Nat := [0, 1, 4, 6, 7]

/-- R74: energy scaled by S for a tile-rail class, 2^-24 token. -/
def scaled (c s raw : Nat) : Nat := if isTileRail c then raw * s / 2 ^ 14 else raw

/-- R74: estimate in 2^-8 token and the carry it leaves. -/
def estimate (c s raw carry : Nat) : Nat := (scaled c s raw + carry) / 2 ^ 16
def carryAfter (c s raw carry : Nat) : Nat := (scaled c s raw + carry) % 2 ^ 16

/-- R75: the running estimate of the present pick. -/
def Dev.runningEst (d : Dev) (f c : Nat) : Nat := estimate c (d.rd (ST_MTR_SCALE_S f)) (d.cl f c).rawCur (d.cl f c).carry

/-- R140. -/
def Dev.available (d : Dev) (f c : Nat) : Nat :=
  let x := d.cl f c
  d.allot f c * 256 + x.borrowed + x.drawn - x.lent
def Dev.spend (d : Dev) (f c : Nat) : Nat :=
  d.runningEst f c + (if (d.fd f).debtIn then d.debt f c else (d.cl f c).known)

/-- R72, R73: the voltage band of a VID target. -/
def Dev.bandOf (d : Dev) (f vid : Nat) : Nat :=
  vbOf (d.rd (ST_SNS_VBAND_VB1 f)) (d.rd (ST_SNS_VBAND_VB2 f)) (d.rd (ST_SNS_VBAND_VB3 f)) vid

/-- R72: energy of n counts of an event at a voltage band, 2^-24 token; events 11 to 14 use the band-0 word. -/
def Dev.energyOf (d : Dev) (f e band n : Nat) : Nat := n * d.rd (ST_MTR_COEF_COEF f e (if 11 ≤ e then 0 else band))

/-- R72: the VID code whose band a domain's counts take, in the present pick or the one before. -/
def Dev.countVid (d : Dev) (f k : Nat) (prev : Bool) : Nat :=
  let x := d.dm f k
  if prev then x.bandPrev else if x.slew.isSome then x.bandVid else d.vidOf f k

/-- R74: add raw energy to a class, of the present pick or the one before. -/
def addRaw (f c : Nat) (prev : Bool) (n : Nat) (d : Dev) : Dev :=
  d.updCl f c fun x => if prev then { x with rawPrev := x.rawPrev + n } else { x with rawCur := x.rawCur + n }

/-- An element of a list replaced. -/
def setNth (l : List Nat) (n i v : Nat) : List Nat := (List.range n).map fun j => if j = i then v else l.getD j 0

/-- R69: a 24-bit saturating counter. -/
def bump24 (l : List Nat) (e n : Nat) : List Nat := setNth l 10 e (satN 0xFFFFFF (l.getD e 0 + n))

/-- R50, R69: partial counts of one event of one patch, of the present pick or the one before, reach its counter. -/
def bumpCount (f : Nat) (prev : Bool) (o : CountObs) (d : Dev) : Dev :=
  d.updPt f o.patch.val fun x =>
    if prev then { x with last := bump24 x.last o.event.val o.n.toNat } else { x with acc := bump24 x.acc o.event.val o.n.toNat }

/-- R69, R70, R74: they are attributed and metered, except in a global stop, which holds every meter (R45). -/
def takeCount (f : Nat) (prev : Bool) (o : CountObs) (d : Dev) : Dev :=
  let p := o.patch.val
  let e := o.event.val
  let d := bumpCount f prev o d
  if d.stopped then d else
  let rep := if prev then (d.pt f p).replayPrev else d.rdB (PS_STATUS_REPLAY f p)
  let c := classOfEvent rep e
  let n := d.energyOf f e (d.bandOf f (d.countVid f (domOf p) prev)) o.n.toNat
  let s := if prev then (d.fd f).sPrev else d.rd (ST_MTR_SCALE_S f)
  (addRaw f c prev n d).updPt f p fun x => { x with boltE := x.boltE + scaled c s n }

/-- R70: STATIC of the patches whose clock has run in the present pick, counted once. -/
def takeStatic (f : Nat) (d : Dev) : Dev :=
  forL ((List.range 36).filter fun p => (d.pt f p).ran && !(d.pt f p).statDone) (fun p d =>
    let c := classOfEvent (d.rdB (PS_STATUS_REPLAY f p)) 10
    let n := d.energyOf f 10 (d.bandOf f (d.countVid f (domOf p) false)) 1
    (addRaw f c false n d).updPt f p fun x =>
      { x with statDone := true, boltE := x.boltE + scaled c (d.rd (ST_MTR_SCALE_S f)) n }) d

/-- R70: partial interface counts of a field arrive. -/
def takeIface (f : Nat) (prev : Bool) (o : IfaceObs) (d : Dev) : Dev :=
  let e := 11 + o.event.val
  addRaw f (classOfEvent false e) prev (d.energyOf f e 0 o.n.toNat) d

/-! The bobbin and loans. -/

/-- R145: capacity of the bobbin, 2^-8 token. -/
def Dev.bobCap (d : Dev) (f : Nat) : Nat :=
  d.rd (ST_BUD_SPLIT1_BOB_PICKS f) * sumN ((List.range 8).map (d.allot f)) * 256

/-- R145: tokens beyond the capacity are discarded. -/
def bobTrim (f : Nat) (d : Dev) : Dev :=
  if d.bobCap f < d.rd (ST_BUD_BOBBIN_LEVEL f) then d.wr (ST_BUD_BOBBIN_LEVEL f) (d.bobCap f) else d

def bobFill (f n : Nat) (d : Dev) : Dev := d.wr (ST_BUD_BOBBIN_LEVEL f) (satN (min (d.bobCap f) 0xFFFFFF) (d.rd (ST_BUD_BOBBIN_LEVEL f) + n))

/-- R144: class a may lend to class b. -/
def Dev.mayLend (d : Dev) (f a b : Nat) : Bool :=
  a ≠ b && a ≠ 5 && b ≠ 5 && bitOf (d.rd (ST_BUD_LEND_ROW f a)) b && (d.cl f a).borrowed = 0

/-- R144: what lender a can lend at present, 2^-8 token. -/
def Dev.loanOf (d : Dev) (f a : Nat) : Nat :=
  let keep := (rs ((d.allot f a * 256 * d.rd (ST_BUD_SPLIT1_LEND_KEEP f) : Nat) : Int) 8).toNat
  d.allot f a * 256 - (d.cl f a).lent - keep - d.spend f a

/-- R144: class b borrows, once in a pick and not after lending. -/
def borrow (f b : Nat) (d : Dev) : Dev :=
  if (d.cl f b).borrowed ≠ 0 ∨ (d.cl f b).lent ≠ 0 then d else
  let lenders := (List.range 8).filter fun a => d.mayLend f a b
  let total := sumN (lenders.map (d.loanOf f))
  if total = 0 then d else
  let d' := forL lenders (fun a d' => d'.updCl f a fun x => { x with lent := x.lent + d.loanOf f a }) d
  (d'.updCl f b fun x => { x with borrowed := x.borrowed + total }).inc (ST_BUD_CNT_LOAN_PICKS f b)

/-- R145: class c draws what it needs, as far as the bobbin holds. -/
def draw (f c : Nat) (d : Dev) : Dev :=
  if bitOf (d.rd (ST_BUD_SPLIT1_DRAW_EN f)) c ∧ c ≠ 5 then
    let n := min (d.spend f c - d.available f c) (d.rd (ST_BUD_BOBBIN_LEVEL f))
    (d.wr (ST_BUD_BOBBIN_LEVEL f) (d.rd (ST_BUD_BOBBIN_LEVEL f) - n)).updCl f c fun x => { x with drawn := x.drawn + n }
  else d

/-- R142: a class is held for the rest of the pick; under a WADDING hold no tile of the field wads. -/
def holdClass (f c : Nat) (d : Dev) : Dev :=
  if d.held f c then d else
  let d := (d.wrB (ST_BUD_STATUS_HELDc f c) true).inc (ST_BUD_CNT_HOLD_PICKS f c)
  if c = 6 then forN 4 (fun k => pauseWadding f k fun _ => true) d else d

/-- R141: test one class: loans, bobbin, hold. A draw that covers the spend leaves the class running. -/
def testClass (f c : Nat) (d : Dev) : Dev :=
  if d.spend f c < d.available f c then d else
  let d := borrow f c d
  if d.spend f c < d.available f c then d else
  let need := d.spend f c - d.available f c
  let d := draw f c d
  if c = 5 ∨ (0 < need ∧ d.spend f c ≤ d.available f c) then d else holdClass f c d

/-- R141: the classes in index order. -/
def testClasses (f : Nat) (d : Dev) : Dev := forN 8 (testClass f) d

/-! Final estimates (R75, R143, R145, R166). -/

/-- R143, R145: class c at the update that makes the estimate of the pick before final. -/
def finalClass (f c : Nat) (d : Dev) : Dev :=
  let x := d.cl f c
  let s := (d.fd f).sPrev
  let est := estimate c s x.rawPrev x.carry
  let old := d.debt f c
  let d := d.updCl f c fun x => { x with carry := carryAfter c s x.rawPrev x.carry, rawPrev := 0 }
  let d := (d.wr (ST_BUD_FINAL_FINAL f c) (satN 0xFFFFFF est)).wr (ST_BUD_DEBT_DEBT f c) (satN 0xFFFFFF (est + old - x.availPrev))
  onlyIf (c ≠ 5) (bobFill f (x.availPrev - est - old)) d

/-- R166: a job misses a hint; the first in a bolt is recorded. -/
def missHint (j : Nat) (d : Dev) : Dev :=
  match d.job j with
  | none => d
  | some e =>
    let d := d.setJob j (some { e with misses := satN 127 (e.misses + 1), missTold := true })
    if e.missTold then d else d.raiseR { d.report .ctrl 3 central 0 with job := some e.job }

/-- R166: an unhinted rise of MATRIX charges the field's tight jobs. -/
def checkRise (f before : Nat) (d : Dev) : Dev :=
  if before + d.rd (ST_HINT_CFG_MISS_STEP f) * d.allot f 0 < d.final f 0 then
    forL (d.jobList.filter fun x => x.2.tight ∧ f ∈ x.2.fields ∧ x.2.job ∉ (d.fd f).prePrev) (fun x => missHint x.1) d
  else d

/-- R91, R92: a final estimate joins those of its pick. -/
def addFinal (pick e : Nat) : List (Nat × Nat) → List (Nat × Nat)
  | [] => [(pick, e)]
  | x :: l => if x.1 = pick then (pick, x.2 + e) :: l else (pick, e) :: x :: l

/-- R75, R91, R168: the estimate of the pick before becomes final. -/
def makeFinal (f : Nat) (d : Dev) : Dev :=
  let before := d.final f 0
  let d := forN 8 (finalClass f) d
  let tile := sumN (tileClasses.map (d.final f))
  let all := sumN ((List.range 8).map (d.final f))
  let d := d.updFd f fun x => { x with
    debtIn := true
    finals := ((x.estPick, tile, x.allotPrev) :: x.finals).take 9
    eEst := x.eEst + tile }
  checkRise f before { d with bud := { d.bud with
    capFin := (addFinal (d.fd f).estPick all d.bud.capFin).take 1002, waferE := d.bud.waferE + all } }

/-- R57: the bolt energies of the patches at the end of a bolt; the picks before a resume make no complete bolt. -/
def boltEnergies (f : Nat) (d : Dev) : Dev :=
  if d.time.count % 1000 = 0 then
    forN 36 (fun p d => d.updPt f p fun x => { x with lastE := if d.time.resumed then x.lastE else x.boltE, boltE := 0 }) d
  else d

/-! What a pick boundary does with a field's enforcer. -/

/-- R140, R142, R146, R150: class c at a pick boundary: the hold lifts, loans end, a risen allotment applies. -/
def classBoundary (f c : Nat) (d : Dev) : Dev :=
  let av := d.available f c
  let old := d.debt f c
  let x := d.cl f c
  let d := (d.updCl f c fun x => { x with
    rawPrev := x.rawCur, rawCur := 0, borrowed := 0, lent := 0, drawn := 0, availPrev := av, known := old - av, rise := none })
  let d := d.wrB (ST_BUD_STATUS_HELDc f c) false
  match x.rise with
  | some a => d.wr (ST_BUD_CLS_ALLOT f c) a
  | none => d

/-- R69, R75: the enforcer of a field at a pick boundary, before its class test. -/
def enforceBoundary (f : Nat) (d : Dev) : Dev :=
  let d := takeStatic f (if (d.fd f).debtIn then d else makeFinal f d)
  let tile := sumN (tileClasses.map (d.allot f))
  let pre := (d.preposAt f d.time.prevCount).map (·.job)
  let rise := (d.fd f).allotRise
  let cut := decide (d.optNow f < d.fixOpt f)
  let s := d.rd (ST_MTR_SCALE_S f)
  let d := forN 8 (classBoundary f) d
  let d := forN 36 (fun p d => d.updPt f p fun x => { x with replayPrev := d.rdB (PS_STATUS_REPLAY f p) }) d
  let d := forN 4 (fun k d => d.updDm f k fun x => { x with bandPrev := d.countVid f k false }) d
  let d := match rise with
    | some a => d.wr (BU_FIELD_ALLOT f) a
    | none => d
  d.updFd f fun x => { x with
    optCut := x.optCut && cut, debtIn := false, allotPrev := tile, prePrev := pre, allotRise := none, sPrev := s, estPick := x.curPick, curPick := d.time.count }

/-- R70: the patches whose clock runs as the pick opens. -/
def ranBoundary (f : Nat) (d : Dev) : Dev :=
  forN 36 (fun p d => d.updPt f p fun x => { x with ran := d.runs f p, statDone := false }) d

/-! Loop samples (R91, R92). -/

/-- R91: the L-SLEW sample of domain k of a field. -/
def slewSample (f k : Nat) (d : Dev) : Dev :=
  if d.loopsOn f then
    sample (loopRef f k)
      { fb := d.rd (ST_LINK_UP0_IOUT f k), sp := divHalfAway (d.dm f k).iRef 64, vid := d.vidOf f k
        temp := d.tempMax f (patchesOf k), stale := d.rdB (ST_LINK_STATUS_STALE f k), band := 0 } d
  else d

/-- R98: the highest VID target of a field. -/
def Dev.vidMax (d : Dev) (f : Nat) : Nat := maxN ((List.range 4).map (d.vidOf f))

/-- R91: pick q lies in the window of n picks that ends at P − 2. -/
def inWindow (P n q : Nat) : Bool := decide (P ≤ q + n + 1) && decide (q + 2 ≤ P)

/-- R91: the picks of L-POWER's window. -/
def Dev.powerWin (d : Dev) (f : Nat) : List (Nat × Nat × Nat) := (d.fd f).finals.filter fun x => inWindow d.time.count 8 x.1

/-- R91: L-CAP's window: the final estimates of its picks, 2^-8 token. -/
def Dev.capWin (d : Dev) : Nat := sumN ((d.bud.capFin.filter fun x => inWindow d.time.count 1000 x.1).map (·.2))

/-- R91, R92: the L-POWER sample of a field. The feedback is rounded down to whole tokens. DESIGN CHOICE, log entry 120. -/
def powerSample (f : Nat) (d : Dev) : Dev :=
  if d.loopsOn f && d.periodic 8 then
    let w := d.powerWin f
    let fb := sumN (w.map (·.2.1)) / 256
    let sp := d.rd (loopRef f 4).target * sumN (w.map (·.2.2)) / 65536
    sample (loopRef f 4)
      { fb, sp, vid := d.vidMax f, temp := d.tempMax f (List.range 36), stale := false, band := 0 } d
  else d

/-- R155: the effective cap, 50 W. -/
def Dev.cap (d : Dev) : Nat := min d.bud.tray.val d.bud.rack.val

/-- R147, R291: the set-point SP in tokens per pick, with the loans in force. -/
def Dev.sp (d : Dev) : Nat :=
  min (d.cap * 400 + d.bud.loanIn - d.bud.loanOut - d.rd BU_RESERVE_RESERVE)
    (d.rd BU_CAP_LIMITS_CAP_MAX * 400 - d.rd BU_RESERVE_RESERVE)

/-- R91, R92: the L-CAP sample. -/
def capSample (d : Dev) : Dev :=
  if !d.stopped && !d.time.resumed && !d.selStop && decide (0 < d.time.nb) && d.periodic 1000 then
    let fb := divHalfAway (d.capWin : Int) (256 * 1000)
    let fs := d.enabled
    sample capRef
      { fb, sp := d.sp, vid := maxN (fs.map d.vidMax), temp := (maxI (fs.map fun f => d.tempMax f (List.range 36))).getD 0
        stale := false, band := 0 } d
  else d

/-- R94: LOOP_COMMAND_EFFECT: the pending command of an instance takes effect where its period begins. -/
def loopEffect (l : LoopRef) (d : Dev) : Dev :=
  if (d.lins l).sampledAt = some d.time.nb then d else takeEffect l d

/-- R48, R94: the instance's period begins at the present boundary; every one does at a resume. -/
def Dev.beginsPeriod (d : Dev) (f i : Nat) : Bool :=
  d.time.resumed || (if i < 4 then true else if i = 4 then d.periodic 8 else d.scanDue f (i - 5))

/-- R94, R97: LOOP_COMMAND_EFFECT for an instance of a steward. -/
def stewardEffect (f i : Nat) (d : Dev) : Dev :=
  if d.inService f && !d.stopped && !d.selStop && d.beginsPeriod f i then loopEffect (loopRef f i) d else d

/-- R94: LOOP_COMMAND_EFFECT for L-CAP; only a global stop delays it. -/
def capEffect (d : Dev) : Dev :=
  if !d.stopped && d.periodic 1000 then loopEffect capRef d else d

/-- R105: REARM_APPLY at the instance's period boundary. -/
def rearmSteward (f i : Nat) (d : Dev) : Dev :=
  if d.loopsOn f && d.beginsPeriod f i then rearmApply (loopRef f i) d else d
def rearmCap (d : Dev) : Dev := if !d.stopped && !d.selStop && d.periodic 1000 then rearmApply capRef d else d

/-! The commands. A loop instance is named by its field and index; field 96 names L-CAP. -/

def execLSlewSample (f : Fin 96) (k : Fin 4) (s : State) : Host.Outcome State Fault Refusal := done (slewSample f.val k.val) s
def execLPowerSample (f : Fin 96) (s : State) : Host.Outcome State Fault Refusal := done (powerSample f.val) s
def execLCapSample (s : State) : Host.Outcome State Fault Refusal := done capSample s
def execLoopCommandEffect (f : Fin 97) (i : Fin 41) (s : State) : Host.Outcome State Fault Refusal :=
  done (if f.val = 96 then capEffect else stewardEffect f.val i.val) s
def execRearmApply (f : Fin 97) (i : Fin 41) (s : State) : Host.Outcome State Fault Refusal :=
  done (if f.val = 96 then rearmCap else rearmSteward f.val i.val) s

end Sys2Proof.Machine
end

