-- ==== Sys2Proof/Machine/Heddle.lean ====
section
/-! DEFINITION. Chapter 06 within a field: arming and waiting of tiles (R171, R172, R181), the slope planner (R174 to
R180), the sheds of a ramp (R182 to R185), and a domain's share of the rack feed (R186). -/

namespace Sys2Proof.Machine

/-! R196: planner states. -/
def plIdle : Nat := 0
def plDecay : Nat := 1
def plFloor : Nat := 2
def plRamp : Nat := 3
def Dev.plan (d : Dev) (f k : Nat) : Nat := d.rd (ST_HED_STATE_STATE f k)

/-- R171: under a barrier arming; armed at all. -/
def TileS.barrierArm (t : TileS) : Bool := match t.arm with | some a => !a.light | none => false
def TileS.lightArm (t : TileS) : Bool := match t.arm with | some a => a.light | none => false

/-- R142, R153: armed wadding of a patch is stopped by a hold. -/
def Dev.wadHeld (d : Dev) (f p : Nat) : Bool := d.held f 6 || (d.pt f p).critCeil.isSome

/-- R142, R153: MATRIX or VECTOR starts of a domain are held. -/
def Dev.startHeld (d : Dev) (f k : Nat) : Bool := d.held f 0 || d.held f 1 || (d.dm f k).matrixHeld

/-- R46, R135, R307: a heddle that covers the domain is closed. -/
def Dev.heddleShut (d : Dev) (f k : Nat) : Bool := d.stopped || (d.fd f).shut || (d.dm f k).shut || d.selStop

/-- R171: arm the tiles of a job in some domains of a field. -/
def armTiles (f job : Nat) (ks : List Nat) (light : Bool) (level group : Nat) (d : Dev) : Dev :=
  forL ks (fun k d => forL ((d.tilesOfDom f k).filter fun x => x.2.2.job = some job) (fun x d =>
    d.updTi f x.1 x.2.1 fun t => { t with arm := some { job, light, level, group } }) d) d

/-- R171: the armings of released jobs end. -/
def disarmJob (f job : Nat) (d : Dev) : Dev :=
  forN 4 (fun k d => forL ((d.tilesOfDom f k).filter fun x => (x.2.2.arm.map (·.job)) = some job) (fun x d =>
    d.updTi f x.1 x.2.1 fun t => { t with arm := none, wads := false, paused := false, wt := 0, gated := false }) d) d

/-- R172: a tile enters a wait. An armed tile starts wadding; an unarmed entry into barrier wait is counted. -/
def waitEnter (f p t : Nat) (barrier : Bool) (d : Dev) : Dev :=
  let k := domOf p
  let x := d.ti f p t
  let kind := if barrier then WaitKind.barrier else WaitKind.other
  match x.arm with
  | some a =>
    if a.light || barrier then
      let go := !d.heddleShut f k && !d.wadHeld f p
      d.updTi f p t fun x =>
        let x := { x with wait := kind, wads := go, paused := !go, wt := a.level }
        if a.light ∧ a.level = 0 then x.off else x
    else d.updTi f p t fun x => { x with wait := kind }
  | none =>
    let d := d.updTi f p t fun x => { x with wait := kind }
    if barrier then
      let d := d.inc (ST_HED_SUM_UNARMED f k)
      match x.job.bind d.jobNo with
      | some (j, e) => if e.tight then missHint j d else d
      | none => d
    else d

/-- R182: shed of a tile. -/
def shedOf (t : Nat) : Nat := t / 16

/-- R183: number of a shed in the domain's order: round × 9 + rank of its patch. -/
def shedIx (p s : Nat) : Nat := s * 9 + ((patchesOf (domOf p)).findIdx? (· = p)).getD 0

/-- R183: patch and shed of a number in a domain's order. -/
def shedAt (k i : Nat) : Nat × Nat := ((patchesOf k).getD (i % 9) 0, i / 9)

/-- R46, R181, R183, R184: a tile leaves its wait. Under a barrier arming it is gated, unless its shed has started and nothing
holds its start; a shed whose late tile is held must be released again. -/
def waitLeave (f p t : Nat) (d : Dev) : Dev :=
  let k := domOf p
  let x := d.ti f p t
  if x.barrierArm && x.wait = .barrier then
    let i := shedIx p (shedOf t)
    let started := decide (d.plan f k = plRamp) && decide (i ∈ (d.dm f k).released) && decide (i ∉ (d.dm f k).toStart.map (·.2))
    if started ∧ d.startHeld f k = false ∧ d.heddleShut f k = false then
      d.updTi f p t fun x => { x with wait := .none, arm := none, wads := false, paused := false, wt := 0 }
    else
      onlyIf started (·.updDm f k fun y => { y with released := y.released.filter (· ≠ i) })
        (d.updTi f p t fun x => { x with wait := .none, gated := true })
  else d.updTi f p t fun x => { x with wait := .none, wads := false, paused := false }

/-! Shares and slopes (R180, R186), in 1/64 of 0.05 A per pick. -/

/-- R186: the domain's share of the rack feed; 0 until the domain is counted. -/
def Dev.sRack (d : Dev) (f k : Nat) : Nat :=
  if (d.dm f k).counted ∧ d.bud.nDom ≠ 0 then
    orDef (d.rd BU_RACK_RACK_SLEW) 1 * 51200 / (d.rd BU_SHARE_N * d.bud.nDom * (200 + d.vidOf f k))
  else 0

def Dev.stepMax (d : Dev) (f : Nat) : Nat := orDef (d.rd (ST_STEP_MAX_STEP f)) 1 * 64
def Dev.sDn (d : Dev) (f k : Nat) : Nat := min (d.stepMax f) (d.sRack f k)
def Dev.sUp (d : Dev) (f k : Nat) : Nat :=
  min (min (d.stepMax f) (divUp (d.dm f k).pending (orDef (d.rd (ST_STEP_MAX_RAMP_WIN f)) 1))) (d.sRack f k)

/-- R177: the L-SLEW command in force. -/
def Dev.gCmd (d : Dev) (f k : Nat) : Int := d.cmd (loopRef f k) * 64

/-- R177: G_eff for a planner state. -/
def gEff (state : Nat) (g : Int) (sDn sUp : Nat) (iFloor iHat : Int) : Int :=
  if state = plDecay then (if sDn = 0 then 0 else max (max (min g 0) (-(sDn : Int))) (iFloor - iHat))
  else if state = plRamp then min (max g 0) sUp else 0

/-! Estimated steps of sheds (R182). -/

/-- R182: the highest LEVEL of the job's pre-positions in force for the domain. -/
def Dev.preLevel (d : Dev) (f k job : Nat) : Option Nat :=
  match ((d.preposAt f d.time.count).filter fun x => x.dom = k ∧ x.job = job).map (·.level) with
  | [] => none
  | l => some (maxN l)

/-- R182: T of a tile as a fraction, in 1/64 of 0.05 A. -/
def Dev.targetT (d : Dev) (f k : Nat) (t : TileS) : Nat × Nat :=
  let n := max 1 (d.dm f k).nArmed
  match t.arm.bind fun a => d.preLevel f k a.job with
  | some level => (level * d.rd BU_FIELD_LIM_FIELD_MAX * 64000, 1020 * (200 + d.vidOf f k) * n)
  | none => ((d.dm f k).iPre * 64, n)

/-- R182: the estimated step of one tile, in 1/64 of 0.05 A, as a fraction. -/
def Dev.tileStep (d : Dev) (f k : Nat) (t : TileS) : Nat × Nat :=
  let T := d.targetT f k t
  (T.1 * 6375 - orDef (d.rd (ST_HED_TILE_I_TILE f)) 1 * t.wt * 8 * T.2, T.2 * 6375)

/-- Sum of fractions, rounded down. -/
def sumFrac (l : List (Nat × Nat)) : Nat :=
  let s := l.foldl (fun a x => if a.2 = x.2 then (a.1 + x.1, a.2) else (a.1 * x.2 + x.1 * a.2, a.2 * x.2)) (0, 1)
  s.1 / s.2

/-- R182: tiles that a shed's release concerns: gated, or still in barrier wait under a barrier arming. -/
def TileS.waits (t : TileS) : Bool := t.gated || (t.barrierArm && t.wait = .barrier)

/-- The waiting tiles of a domain. -/
def Dev.waiting (d : Dev) (f k : Nat) : List (Nat × Nat × TileS) := (d.tilesOfDom f k).filter fun x => x.2.2.waits

/-- R182: the estimated step of shed i of a domain; none when it has no waiting tile. -/
def Dev.shedStep (d : Dev) (f k i : Nat) : Option Nat :=
  let ps := shedAt k i
  match (d.waiting f k).filter fun x => x.1 = ps.1 ∧ shedOf x.2.1 = ps.2 with
  | [] => none
  | l => some (sumFrac (l.map fun x => d.tileStep f k x.2.2))

/-- R183: walk the order; the sheds released within budget b, and what is left of it. -/
def shedWalk (d : Dev) (f k : Nat) : List Nat → Nat → List Nat × Nat
  | [], b => ([], b)
  | i :: rest, b =>
    match d.shedStep f k i with
    | none => shedWalk d f k rest b
    | some st => if b < st then ([], b) else let r := shedWalk d f k rest (b - st); (i :: r.1, r.2)

/-- R183: the gated tiles of a shed start and drop their wadding. -/
def startShed (f k i : Nat) (d : Dev) : Dev :=
  let ps := shedAt k i
  forL ((d.tilesOfDom f k).filter fun x => x.1 = ps.1 ∧ shedOf x.2.1 = ps.2 ∧ x.2.2.gated) (fun x d =>
    d.updTi f x.1 x.2.1 fun t => { t with gated := false, arm := none, wads := false, paused := false, wt := 0 }) d

/-- R183, R184: sheds whose slot has come start, unless a hold blocks them. -/
def startSheds (f k slots : Nat) (d : Dev) : Dev :=
  if d.startHeld f k || d.heddleShut f k then d else
  let due := (d.dm f k).toStart.filter fun x => x.1 < slots
  (forL due (fun x => startShed f k x.2) d).updDm f k fun y => { y with toStart := y.toStart.filter fun x => slots ≤ x.1 }

/-- R184: as the pick ends, before its holds lift: the slots that are left come, and sheds that a hold has blocked return to the
gated set. -/
def settleSheds (f k : Nat) (d : Dev) : Dev :=
  let d := startSheds f k 16 d
  d.updDm f k fun y => { y with released := y.released.filter (· ∉ y.toStart.map (·.2)), toStart := [] }

/-- R183: release sheds for a pick of RAMP; those of slot 0 start at once. -/
def releaseSheds (f k : Nat) (d : Dev) : Dev :=
  let x := d.dm f k
  if d.sRack f k = 0 then d else
  let order := (List.range 144).filter (· ∉ x.released)
  let b := (x.gEff1 + x.carry).toNat
  let r := shedWalk d f k order b
  let n := r.1.length
  let left := maxN ((order.filter (· ∉ r.1)).filterMap (d.shedStep f k))
  startSheds f k 1 <| d.updDm f k fun y => { y with
    released := y.released ++ r.1
    toStart := (r.1.zip (List.range n)).map fun q => (q.2 * 16 / n, q.1)
    carry := (min r.2 left : Nat) }

/-! The planner at a boundary. -/

/-- R175: mean of samples rounded half away from zero. -/
def meanOf (l : List Nat) : Nat := (divHalfAway (sumN l : Nat) l.length).toNat

/-- R175, R195: E_rel + FLOOR_HOLD has come and has not been told yet. -/
def Dev.relPasses (d : Dev) (f k : Nat) : Bool :=
  !(d.dm f k).relPast && match (d.dm f k).eRel with | some e => decide (e + d.rd (ST_WAD_CFG_FLOOR_HOLD f) ≤ d.time.count) | none => false

/-- R174, R175: entry to DECAY. -/
def enterDecay (f k : Nat) (d : Dev) : Dev :=
  let x := d.dm f k
  let tiles := d.tilesOfDom f k
  let light := (tiles.filter (·.2.2.wads)).all (·.2.2.lightArm)
  let l := x.fbs.take (orDef (d.rd (ST_WAD_CFG_PRE_PICKS f)) 1)
  let iPre := if l = [] then d.rd (ST_LINK_UP0_IOUT f k) else meanOf l
  let pct := min 100 (d.rd (ST_WAD_CFG_FLOOR_PCT f))
  let zero := light || x.lead0 || x.relPast || d.relPasses f k
  let iFloor := if zero then 0 else (divHalfAway (iPre * pct : Nat) 100).toNat
  let d := ((d.wr (ST_HED_STATE_STATE f k) plDecay).wrB (ST_HED_STATE_KIND f k) light).wrB (ST_HED_STATE_FLOOR_ZERO f k) (iFloor = 0)
  d.updDm f k fun x => { x with
    iPre, iFloor, nArmed := (tiles.filter fun t => t.2.2.arm.isSome).length, iRef := (iPre * 64 : Nat), acc := 0 }

/-- R180, R195: the job and group of a tile's arming: what makes two armings the same. -/
def TileS.armOf (t : TileS) : Option (Nat × Nat) := t.arm.map fun a => (a.job, a.group)

/-- R180: the tiles that pending covers: those gated, and those of the same arming still in barrier wait. -/
def Dev.pendingTiles (d : Dev) (f k : Nat) : List (Nat × Nat × TileS) :=
  let ws := d.waiting f k
  let rel := (ws.filter (·.2.2.gated)).map (·.2.2.armOf)
  ws.filter fun x => x.2.2.gated || decide (x.2.2.armOf ∈ rel)

/-- R174: entry to RAMP; pending is computed once. -/
def enterRamp (f k : Nat) (d : Dev) : Dev :=
  let pend := sumFrac ((d.pendingTiles f k).map fun x => d.tileStep f k x.2.2)
  (d.wr (ST_HED_STATE_STATE f k) plRamp).updDm f k fun x => { x with pending := pend, carry := 0, released := [], toStart := [], acc := 0 }

/-- R174: entry to IDLE. -/
def enterIdle (f k : Nat) (d : Dev) : Dev :=
  (d.wr (ST_HED_STATE_STATE f k) plIdle).updDm f k fun x => { x with carry := 0, released := [], toStart := [], acc := 0, pending := 0 }

/-- R174: the floor falls to 0; FLOOR returns to DECAY. -/
def floorZero (f k : Nat) (d : Dev) : Dev :=
  ((d.wrB (ST_HED_STATE_FLOOR_ZERO f k) true).wr (ST_HED_STATE_STATE f k) plDecay).updDm f k fun x => { x with iFloor := 0 }

/-- R174, R175: E_rel + FLOOR_HOLD passes, or the arming was light in FLOOR. -/
def floorExpire (f k : Nat) (d : Dev) : Dev :=
  let st := d.plan f k
  if d.relPasses f k then
    onlyIf (st = plFloor || st = plDecay) (floorZero f k) (d.updDm f k fun x => { x with relPast := true })
  else if st = plFloor ∧ d.rdB (ST_HED_STATE_KIND f k) then floorZero f k d
  else d

/-- R174, R195: a ramp from IDLE: I_REF starts from FB. T keeps I_pre and the count of the last DECAY; where there was none they
are taken now. DESIGN CHOICE, log entry 125. -/
def rampIdle (f k : Nat) (d : Dev) : Dev :=
  let fb := d.rd (ST_LINK_UP0_IOUT f k)
  let n := (d.tilesOfDom f k).countP (·.2.2.arm.isSome)
  enterRamp f k (d.updDm f k fun x =>
    { x with iRef := (fb * 64 : Nat), iPre := if x.nArmed = 0 then fb else x.iPre, nArmed := if x.nArmed = 0 then n else x.nArmed })

/-- R174: the planner's transition at a boundary. -/
def plannerMove (f k : Nat) (d : Dev) : Dev :=
  let tiles := d.tilesOfDom f k
  let wads := tiles.any (·.2.2.wads)
  let gated := tiles.any (·.2.2.gated)
  let st := d.plan f k
  if d.link f k ≠ linkUp ∧ d.link f k ≠ linkDegraded ∨ d.rdB (ST_OP_STATUS_HOLD_SAFE f) ∨ d.selStop then enterIdle f k d
  else if st = plIdle then
    if wads then enterDecay f k d
    else if gated then rampIdle f k d
    else d
  else if st = plRamp then
    if tiles.any (·.2.2.waits) then d
    else
      let d := d.inc (ST_HED_CNT_RAMPS f k)
      if tiles.any fun t => t.2.2.wads && t.2.2.lightArm then enterDecay f k d else enterIdle f k d
  else if gated then enterRamp f k d
  else if !wads then enterIdle f k d
  else
    let d := floorExpire f k d
    let x := d.dm f k
    if st = plDecay ∧ (x.iHat ≤ (x.iFloor * 64 : Nat) ∨ (tiles.filter (·.2.2.wads)).all (·.2.2.wt = 0))
    then (d.wr (ST_HED_STATE_STATE f k) plFloor).updDm f k fun x => { x with acc := 0 } else d

/-- R176: I_REF for the sample of this boundary. -/
def setRef (f k sDn sUp : Nat) (d : Dev) : Dev :=
  let st := d.plan f k
  d.updDm f k fun x => { x with
    iRef :=
      if st = plIdle then (d.rd (ST_LINK_UP0_IOUT f k) * 64 : Nat)
      else if st = plDecay then max ((x.iFloor * 64 : Nat) : Int) (x.iRef - sDn)
      else if st = plFloor then (x.iFloor * 64 : Nat)
      else x.iRef + sUp }

/-- R177: G_eff of this pick, then Î for the next. -/
def setGeff (f k sDn sUp : Nat) (d : Dev) : Dev :=
  let x := d.dm f k
  let g := gEff (d.plan f k) (d.gCmd f k) sDn sUp (x.iFloor * 64 : Nat) x.iHat
  d.updDm f k fun x => { x with gEff1 := g, iHat := (d.rd (ST_LINK_UP0_IOUT f k) * 64 : Nat) + x.gEff1 + g }

/-- R179: lower the wadding of a domain in a pick of DECAY. -/
def decayWadding (f k : Nat) (d : Dev) : Dev :=
  let x := d.dm f k
  if d.plan f k = plDecay ∧ x.gEff1 < 0 then
    let tiles := (d.tilesOfDom f k).filter fun t => t.2.2.wads ∧ 0 < t.2.2.wt
    let n := tiles.length
    if n = 0 then d else
    -- |G_eff| / 1280 A × 255 × 256 / (n × I_TILE × 0.25 mA), in 1/256 of a level
    let acc := x.acc + x.gEff1.natAbs * 255 * 256 * 4000 / (1280 * n * orDef (d.rd (ST_HED_TILE_I_TILE f)) 1)
    let dw := acc / 256
    let d := d.updDm f k fun y => { y with acc := acc % 256 }
    forL tiles (fun t d => d.updTi f t.1 t.2.1 fun y =>
      let w := y.wt - dw
      if w = 0 ∧ y.lightArm then y.off else { y with wt := w }) d
  else d

/-- R196: the planner's registers. -/
def planRegs (f k sDn sUp : Nat) (d : Dev) : Dev :=
  let x := d.dm f k
  let st := d.plan f k
  let lim := if st = plDecay then sDn else if st = plRamp then sUp else d.sRack f k
  let left := ((List.range 144).filter fun i => i ∉ x.released ∧ (d.shedStep f k i).isSome).length
  let d := (d.wr (ST_HED_CUR_I_PRE f k) (satN 4095 x.iPre)).wr (ST_HED_CUR_I_FLOOR f k) (satN 4095 x.iFloor)
  let d := (d.wr (ST_HED_REF_I_REF f k) (clampI 0 4095 (divHalfAway x.iRef 64)).toNat).wr (ST_HED_REF_I_HAT f k)
    (clampI 0 4095 (divHalfAway x.iHat 64)).toNat
  let d := (d.wr (ST_HED_SLOPE_S_LIM f k) (satN 65535 lim)).wrS (ST_HED_SLOPE_G_EFF f k) x.gEff1
  d.wr (ST_HED_STATE_SHEDS_LEFT f k) (if st = plRamp then left else 0)

/-- R142, R153, R196: picks with armed wadding stopped by a hold, and picks with a gated tile. -/
def heddleCounts (f k : Nat) (d : Dev) : Dev :=
  let tiles := d.tilesOfDom f k
  let d := onlyIf (tiles.any fun x => x.2.2.paused && d.wadHeld f x.1) (·.inc (ST_HED_SUM_WAD_HELD f k)) d
  onlyIf (tiles.any (·.2.2.gated)) (·.inc (ST_HED_CNT_GATED_PICKS f k)) d

/-- R153, R195: tiles of a held patch stop wadding; those that nothing holds any more resume at their level. -/
def resumeWadding (f k : Nat) (d : Dev) : Dev :=
  let d := pauseWadding f k (d.wadHeld f) d
  if d.heddleShut f k then d else
  forL ((d.tilesOfDom f k).filter fun x => x.2.2.paused && !d.wadHeld f x.1)
    (fun x d => d.updTi f x.1 x.2.1 fun t => { t with wads := true, paused := false }) d

/-- R174 to R185: the planner and heddle of one domain at a boundary. -/
def plannerBoundary (f k : Nat) (d : Dev) : Dev :=
  let d := plannerMove f k (resumeWadding f k d)
  let sDn := d.sDn f k
  let sUp := d.sUp f k
  let d := setGeff f k sDn sUp (setRef f k sDn sUp d)
  let d := decayWadding f k d
  let d := onlyIf (d.plan f k = plRamp) (releaseSheds f k) d
  planRegs f k sDn sUp (d.updDm f k fun x => { x with fbs := (d.rd (ST_LINK_UP0_IOUT f k) :: x.fbs).take 16 })

/-- R186: a domain contains an armed tile. -/
def Dev.armedDom (d : Dev) (f k : Nat) : Bool := (d.tilesOfDom f k).any fun x => x.2.2.arm.isSome

/-- R186: the share in mW per pick. -/
def Dev.shareMw (d : Dev) : Nat := orDef (d.rd BU_RACK_RACK_SLEW) 1 * 100 / max 1 (d.rd BU_SHARE_N)

/-- R186: N_DOM_ADD: a domain newly holding an armed tile is counted, and the new share is sent. -/
def nDomAdd (f k : Nat) (d : Dev) : Dev :=
  if d.armedDom f k ∧ (d.dm f k).counted = false then
    let d := d.updDm f k fun x => { x with counted := true }
    let d := { d with bud := { d.bud with nDom := d.bud.nDom + 1 } }
    d.emit (.shareSent d.shareMw d.bud.nDom)
  else d

/-- R141: an eighth update; e = 7 brings the last eighth of the pick before. Every field is metered and enforced in every state
(R148); in a global stop only the counters work (R45, R50). Slots of sheds that began before the update start (R183). -/
def eighthUpdate (f e : Nat) (cs : List CountObs) (is : List IfaceObs) (d : Dev) : Dev :=
  if d.stopped then forL cs (bumpCount f (e = 7)) d
  else if e = 7 then
    if (d.fd f).debtIn then d else
    testClasses f (boltEnergies f (makeFinal f (forL is (takeIface f true) (forL cs (takeCount f true) d))))
  else
    let d := forN 4 (fun k => startSheds f k (2 * e + 2)) d
    testClasses f (onlyIf (e = 0) (takeStatic f) (forL is (takeIface f false) (forL cs (takeCount f false) d)))

def execEighthUpdate (f : Fin 96) (e : Fin 8) (cs : List CountObs) (is : List IfaceObs) (s : State) :
    Host.Outcome State Fault Refusal := done (eighthUpdate f.val e.val cs is) s
def execBarrierWaitEnter (f : Fin 96) (p : Fin 36) (t : BitVec 8) (barrier : Bool) (s : State) : Host.Outcome State Fault Refusal :=
  done (waitEnter f.val p.val t.toNat barrier) s
def execBarrierWaitLeave (f : Fin 96) (p : Fin 36) (t : BitVec 8) (s : State) : Host.Outcome State Fault Refusal :=
  done (waitLeave f.val p.val t.toNat) s
def execFloorHoldExpire (f : Fin 96) (k : Fin 4) (s : State) : Host.Outcome State Fault Refusal := done (floorExpire f.val k.val) s
def execNDomAdd (f : Fin 96) (k : Fin 4) (s : State) : Host.Outcome State Fault Refusal := done (nDomAdd f.val k.val) s

end Sys2Proof.Machine
end

