-- ==== Sys2Proof/Machine/PeerBase.lean ====
section
/-! DEFINITION. The peer table and the sending of messages (R275, R277, R280, R282): what the ledger, the budget unit and
the peer port share. -/

namespace Sys2Proof.Machine

/-- R19: base of the PP_ block's TX buffer words; a peer entry by index. -/
def Dev.peer (d : Dev) (i : Nat) : Option Peer := tget none d.pp.tab i
def Dev.setPeer (i : Nat) (x : Option Peer) (d : Dev) : Dev := { d with pp := { d.pp with tab := tput none i x d.pp.tab } }
def Dev.updPeer (i : Nat) (g : Peer → Peer) (d : Dev) : Dev := d.setPeer i ((d.peer i).map g)
def Dev.updPP (g : PeerS → PeerS) (d : Dev) : Dev := { d with pp := g d.pp }

/-- The entries in use, with their indices. -/
def Dev.peers (d : Dev) : List (Nat × Peer) := d.pp.tab.filterMap fun (i, x) => x.map (i, ·)

/-- R275: the index of an address in the table. -/
def Dev.peerIx (d : Dev) (addr : Nat) : Option Nat := (d.peers.find? fun x => x.2.addr = addr).map (·.1)

/-- The least number from n on that a rising list does not hold. -/
def firstGap : Nat → List Nat → Nat
  | n, [] => n
  | n, k :: l => if k = n then firstGap (n + 1) l else n

/-- The lowest key below a bound at which a table holds nothing. -/
def freeKey {α : Type} (bound : Nat) (t : Tab (Option α)) : Option Nat :=
  let n := firstGap 0 (t.filterMap fun x => if x.2.isSome then some x.1 else none)
  if n < bound then some n else none

/-- R275: the lowest FREE index. -/
def Dev.freePeer (d : Dev) : Option Nat := freeKey 1024 d.pp.tab

/-- The loans in use, with their indices: 0 to 31 borrowed, 32 to 63 lent. -/
def Dev.loanList (d : Dev) : List (Nat × Loan) := d.pp.loans.filterMap fun (i, x) => x.map (i, ·)

/-- R275: REFS of an entry: group memberships, ledger entries naming it as destination or as a proxy's producer, loans. -/
def Dev.refs (d : Dev) (i : Nat) : Nat :=
  let held := fun (e : Entry) => if e.remote then b01 (some e.src = (d.peer i).map (·.addr)) else (e.dests.filter (·.peer = i)).length
  (d.pp.grps.filter (·.2 = i)).length + sumN (d.live.map fun x => held x.2)
    + (d.loanList.filter (·.2.peer = i)).length

/-- R274, R300: PP_SELF has been written. -/
def Dev.selfValid (d : Dev) : Bool := d.rdB PP_STATUS_SELF_VALID
def Dev.selfAddr (d : Dev) : Nat := d.rd PP_SELF_ADDR

/-- R277: the members of a group that the table lists and has not marked absent. -/
def Dev.members (d : Dev) (g : Nat) : List Nat :=
  distinct ((d.pp.grpsEff.filter fun x => x.1 = g && (match d.peer x.2 with
    | some y => y.st ≠ .absent && (y.addr ≠ d.selfAddr) | none => false)).map (·.2))

/-- R282: class of each type, and whether a length in cells may be taken; none for a type that is not listed. -/
def msgType (t : Nat) : Option (Nat × Nat × Nat) :=
  if t = 1 ∨ t = 2 ∨ t = 3 ∨ t = 4 ∨ t = 5 ∨ t = 7 ∨ t = 0x0A then some (0, 1, 1)
  else if t = 6 ∨ t = 8 then some (0, 3, 3) else if t = 9 then some (0, 1, 16)
  else if t = 0x10 then some (1, 1, 1) else if t = 0x20 ∨ t = 0x21 then some (2, 1, 1)
  else if t = 0x30 ∨ t = 0x3E ∨ t = 0x3F then some (3, 1, 1) else none

/-- R282: requests, which need a slot grant and expect a reply. -/
def isRequest (t : Nat) : Bool := t = 1 || t = 6 || t = 8 || t = 9

/-- R280: the header's 16 bytes. -/
def msgHeader (t cls cells : Nat) (h : Bool) (src dst seq stamp : Nat) : List Nat :=
  [t, cls + (cells - 1) * 4 + b01 h * 64] ++ leBytes 2 src ++ leBytes 2 dst ++ leBytes 2 seq ++ leBytes 8 stamp

/-- Bytes filled with zeros up to whole cells. -/
def padCells (cells : Nat) (l : List Nat) : List Nat := (l ++ List.replicate (64 * cells - l.length) 0).take (64 * cells)

/-- R260, R274: the port can send: PP_SELF is written and the fabric is powered. -/
def Dev.portUp (d : Dev) : Bool := d.selfValid && !d.selStop

/-- R309: a message goes out; in WAIT the port sends nothing, and the message stands until boundaries resume. Log entry 134. -/
def post (o : Out) (d : Dev) : Dev :=
  if d.rd CK_STATUS_SEL = 5 then d.updPP fun p => { p with hold := p.hold ++ [o] } else d.emit o

/-- R309: boundaries have resumed: what the port held in WAIT goes out. -/
def postHeld (d : Dev) : Dev :=
  let l := d.pp.hold
  if l = [] then d else onlyIf d.portUp (forL l Dev.emit) (d.updPP fun p => { p with hold := [] })

/-- R280, R299: SENT counts a message towards a peer of the table. -/
def countSent (dst : Nat) (d : Dev) : Dev :=
  match d.peerIx dst with
  | some i => d.updPeer i fun x => { x with sent := (x.sent + 1) % 2 ^ 32 }
  | none => d

/-- SENT towards an address after one more message; an address outside the table has no count. -/
def Dev.nextSeq (d : Dev) (dst : Nat) : Nat :=
  match (d.peerIx dst).bind d.peer with
  | some x => (x.sent + 1) % 2 ^ 16
  | none => 0

/-- R280: the bytes of a one-cell message of Jenuz, stamped at a sub-pick of the present pick. -/
def Dev.message (d : Dev) (t dst seq sub : Nat) (body : List Nat) : List Nat :=
  padCells 1 (msgHeader t (((msgType t).map (·.1)).getD 0) 1 d.hNow d.selfAddr dst seq (d.stamp sub) ++ body)

/-- Send a one-cell message; it advances SENT. -/
def sendMsg (t dst sub : Nat) (body : List Nat) (d : Dev) : Dev :=
  if d.portUp then
    let bytes := d.message t dst (d.nextSeq dst) sub body
    post (.peerMsg t dst bytes) (countSent dst d)
  else d

/-- Send a port cell, DLV or NACK, for a request: it does not advance SENT (R280, R283). -/
def sendCell (t dst sub ackSeq reason : Nat) (d : Dev) : Dev :=
  if d.portUp then
    post (.peerMsg t dst (d.message t dst (match (d.peerIx dst).bind d.peer with | some x => x.sent % 2 ^ 16 | none => 0) sub
      (leBytes 2 ackSeq ++ [reason]))) d
  else d

/-- Send a message to the peer of an index of the table. -/
def sendPeer (t i : Nat) (body : List Nat) (d : Dev) : Dev :=
  match d.peer i with
  | some x => sendMsg t x.addr 0 body d
  | none => d

end Sys2Proof.Machine
end

