-- ==== Sys2Proof/Machine/Ledger.lean ====
section
/-! DEFINITION. The ledger's entries (chapter 07): their states (R210), references and withdrawal (R212, R214), the bast
window (R220), host notices (R217 to R219), destinations and proxies (R221 to R226), job end (R227). -/

namespace Sys2Proof.Machine

def Dev.updLed (g : LedgerS → LedgerS) (d : Dev) : Dev := { d with led := g d.led }
def updEnt (i : Nat) (g : Entry → Entry) (d : Dev) : Dev :=
  match d.ent i with
  | some e => d.setEnt i (some (g e))
  | none => d

/-- R210: the live entry of a key. -/
def Dev.keyIx (d : Dev) (job seq : Nat) : Option Nat :=
  (d.live.find? fun x => !x.2.remote && x.2.job = job && x.2.seq = seq).map (·.1)

/-- R207: entries free, the lowest of them, grant mode. -/
def Dev.freeEnts (d : Dev) : Nat := 65536 - d.live.length
def Dev.freeEnt (d : Dev) : Option Nat := freeKey 65536 d.led.ents
def Dev.grantMode (d : Dev) : Bool := decide (d.freeEnts < d.rd LG_CFG0_LOW_MARK)

/-- R209: CONS of an entry in a table: the references consumers hold on it. -/
def consIn (ents : Tab (Option Entry)) (i : Nat) : Nat :=
  sumN (ents.map fun x => match x.2 with | some e => (e.prods.filter (·.1 = i)).length | none => 0)
def Dev.cons (d : Dev) (i : Nat) : Nat := consIn d.led.ents i

/-- R229: an event counter of LG_EVT0 to LG_EVT3: 0 MARKS, 1 CLOSED, 2 WAITS, 3 FULL_PICKS, 4 RESENT, 5 GIVEUP,
6 NOTE_DISC, 7 PROTO. -/
def evt (k : Nat) (d : Dev) : Dev := d.inc (LG_EVT k)

/-- R214, R220: BASTED or TAINTED. -/
def EState.basty : EState → Bool
  | .basted | .tainted => true
  | _ => false

/-! Host notices (R217 to R219). -/

/-- R229: the queue handle of a job. -/
def Dev.qhandle (d : Dev) (job : Nat) : Nat :=
  match d.jobNo job with
  | some (j, _) => d.rd (LG_JOB_QHANDLE j)
  | none => 0

/-- R219, R229: a queue takes a write. -/
def Dev.takes (d : Dev) (h : Nat) : Bool := h ≠ 0 && !d.hostFull.contains h

/-- R218: word 0 of a notice. -/
def noteWord0 (kind : NoteKind) (job seq gen : Nat) (c : Cause) : Nat :=
  kind.code + job * 2 ^ 4 + seq * 2 ^ 16 + gen * 2 ^ 52 + c.code * 2 ^ 56

/-- R218: word 1 of a WITHDRAWN notice of entry i: SOURCE, the producing wafer's address, and INDEX there. -/
def withdrawnWord1 (i : Nat) (e : Entry) : Nat := e.src + (if e.remote then e.rIndex else i) * 2 ^ 16

/-- R219: offer the owed notices of an entry to their queues. None is derived during a stop (R228). -/
def offerNotes (i : Nat) (d : Dev) : Dev :=
  if d.stopped then d else
  match d.ent i with
  | none => d
  | some e =>
    let h := d.qhandle e.job
    let d := if e.notes ≠ [] ∧ d.takes h then
        (forL e.notes (fun k d => d.emit (.hostNotice h (noteWord0 k e.job e.seq e.gen e.cause) 0)) d).setEnt i
          (some { e with notes := [], reDone := e.reDone || e.notes.contains .reexec })
      else d
    let q := d.rd LG_HOSTQ_QHANDLE
    if e.wdraw ∧ d.takes q then
      updEnt i (fun e => { e with wdraw := false })
        (d.emit (.hostNotice q (noteWord0 .withdrawn e.job e.seq e.wgen e.cause) (withdrawnWord1 i e)))
    else d

/-! LEDGER notices to destinations (R222, R223). -/

/-- R205: the output tag of an entry with a GEN. -/
def outTag (i gen seq job : Nat) : Nat := i + gen * 2 ^ 16 + seq % 2 ^ 32 * 2 ^ 20 + job * 2 ^ 52

/-- R223: the body of a LEDGER notice: TAG, KIND, ACKED, CAUSE, FREED. -/
def Dev.noticeBody (d : Dev) (tag kind acked cause : Nat) (freed : Bool) : List Nat :=
  leBytes 8 tag ++ [kind, acked, cause, b01 freed + 2 * b01 d.hNow, 0, 0, 0, 0] ++ leBytes 8 (d.stamp 0)

/-- R222: the notice an entry owes: KIND, GEN, and the DACK that settles it. -/
def Entry.owes (e : Entry) : Option (Nat × Nat × Nat) :=
  if e.remote then none else
  match e.st with
  | .unpicked | .poisoned => some (2, e.wgen, 1)
  | .sewn => if e.gen = 0 then some (1, 0, 2) else some (3, e.gen, 2)
  | _ => none

/-- The bytes of the owed notice. -/
def Dev.owedBody (d : Dev) (i : Nat) (e : Entry) (kind gen : Nat) : List Nat :=
  d.noticeBody (outTag i gen e.seq e.job) kind 0 (if kind = 2 then e.cause.code else 0) false

/-- R226: notices go to a destination that the peer table does not mark absent. -/
def Dev.reachable (d : Dev) (p : Nat) : Bool := match d.peer p with | some x => x.st ≠ .absent | none => false

/-- R222: send the owed notice to every destination still owed it that passes a test. -/
def sendOwed (i : Nat) (due : Dest → Bool) (resend : Bool) (d : Dev) : Dev :=
  if d.stopped then d else
  match d.ent i with
  | none => d
  | some e =>
    match e.owes with
    | none => d
    | some (kind, gen, need) =>
      let go := fun x : Dest => decide (x.dack < need) && d.reachable x.peer && due x
      let d := forL (e.dests.filter go) (fun x d => onlyIf resend (evt 4) (sendPeer 0x10 x.peer (d.owedBody i e kind gen) d)) d
      updEnt i (fun e => { e with dests := e.dests.map fun x => if go x then { x with sentAt := some d.time.nbRun } else x }) d

/-- R222: the owed notice is due again RETRY bolts after it was last sent. -/
def Dev.resendDue (d : Dev) (x : Dest) : Bool :=
  match x.sentAt with
  | some t => d.passed t (1000 * orDef (d.rd LG_CFG0_RETRY) 1)
  | none => true

/-! The tags the tiles send and hold (R205). -/

/-- R205: the latest step of a tile. -/
def Dev.lastStep (d : Dev) (f p t : Nat) : Option (Nat × Nat) := (d.ti f p t).cur.or (d.ti f p t).prev

/-- R205: the output tag that the sentinel shows a tile while the tile's latest step is not SEWN: while UNSEWN is set. -/
def Dev.tileTag (d : Dev) (f p t : Nat) : Option Nat :=
  (d.lastStep f p t).bind fun x => (d.keyIx x.1 x.2).bind fun i => (d.ent i).bind fun e =>
    if e.st = .sewn then none else some (outTag i e.gen e.seq e.job)

/-- R205, R210: the sentinels of a step show its tiles their tag, or that the step is sewn. -/
def tellTiles (i : Nat) (e : Entry) (d : Dev) : Dev :=
  forL (e.begTiles.filter fun x => d.lastStep e.field (x / 256) (x % 256) = some (e.job, e.seq))
    (fun x d => d.emit (.outTag e.field (x / 256) (x % 256) (outTag i e.gen e.seq e.job) (e.st ≠ .sewn))) d

/-- R205: the sentinels report to the tiles that hold it that a tag is SEWN. -/
def tellSewn (i : Nat) (e : Entry) (d : Dev) : Dev :=
  d.emit (.tagSewn (outTag (if e.remote then e.rIndex else i) e.gen e.seq e.job) e.src)

/-! States (R210, R214). -/

/-- R210, R214: an entry changes state at the present boundary. -/
def moveEnt (i : Nat) (st : EState) (c : Cause) (d : Dev) : Dev :=
  match d.ent i with
  | none => d
  | some e =>
    if e.st = st then d else
    let out := st = .unpicked || st = .poisoned
    let e' := { e with
      st, cause := c, spick := d.time.count % 2 ^ 32, since := d.time.nbRun, nbAt := d.time.nb
      closed := e.closed && st.basty, prods := if st = .sewn then [] else e.prods, reDone := false
      gen := if out then satN 15 (e.gen + 1) else e.gen, wgen := if out then e.gen else e.wgen, wdraw := e.wdraw || out
      dests := if out && !e.remote then e.dests.map fun x => { x with dack := 0, sentAt := none } else e.dests
      held := e.held && st ≠ .sewn && !out
      notes := (if st = .poisoned then [.poisoned] else if st = .unpicked ∧ c = .replaced then [.replace] else [])
        ++ (if st.basty then e.notes.filter (· = .closed) else []) }
    let d := (d.setEnt i (some e')).updLed fun l => { l with changed := l.changed ++ [i] }
    let d := onlyIf (st = .sewn && e.held) (·.emit (.entrySewn i)) d
    let d := onlyIf (decide (st = EState.sewn)) (tellSewn i e') (onlyIf (st = .sewn || out) (tellTiles i e') d)
    offerNotes i (sendOwed i (fun x => x.sentAt.isNone || st = .sewn) false d)

/-- R215, R362: the job of a poisoned entry is reported. -/
def tellPoison (i job : Nat) (d : Dev) : Dev :=
  d.raiseR { d.report .mem 3 central 0 with job := some job, addr := i, master := Master.ledger.code }

/-- R210, R215: an entry becomes POISONED; a SEWN entry stays as it is. -/
def poisonEnt (i : Nat) (c : Cause) (d : Dev) : Dev :=
  match d.ent i with
  | none => d
  | some e =>
    if e.st = .sewn ∨ e.st = .poisoned then d
    else onlyIf (c ≠ .proto) (tellPoison i e.job) (moveEnt i .poisoned c d)

/-- R220: an entry is closed to new consumers; its first closure is told and counted. -/
def closeEnt (i : Nat) (d : Dev) : Dev :=
  match d.ent i with
  | none => d
  | some e =>
    if e.closed ∨ !e.st.basty then d else
    let d := (d.setEnt i (some { e with closed := true, closedTold := true
                                        notes := if e.closedTold then e.notes else e.notes ++ [.closed] })).updLed
      fun l => { l with changed := l.changed ++ [i] }
    offerNotes i (onlyIf (!e.closedTold) (evt 1) d)

/-- R214, R224: a producer that poisons its consumers. -/
def Entry.poisons (e : Entry) : Bool :=
  e.st = .poisoned || (e.remote && e.st = .unpicked && (e.cause = .poison || e.cause = .jobEnd))

/-- R210: a producer that taints its consumers. -/
def Entry.taints (e : Entry) : Bool :=
  e.st = .basted || e.st = .tainted || e.st = .replaying || e.st = .tiebreak || (e.remote && e.st ≠ .sewn)

/-- R220: an entry that references a closed one is closed too. -/
def closeIf (i : Nat) (ps : List (Entry × Nat)) (d : Dev) : Dev := if ps.any (·.1.closed) then closeEnt i d else d

/-- R210, R214: re-evaluation of an entry against its producers. -/
def evalEnt (i : Nat) (d : Dev) : Dev :=
  match d.ent i with
  | none => d
  | some e =>
    if e.remote ∨ e.st = .sewn ∨ e.st = .poisoned then d else
    let ps := e.prods.filterMap fun (k, g) => (d.ent k).map (·, g)
    if ps.any (·.1.poisons) then poisonEnt i .poison d
    else
      let d := if (e.st = .open_ ∨ e.st = .tainted ∨ e.st = .basted) ∧ ps.any (fun x => decide (x.2 < x.1.gen))
        then moveEnt i .unpicked .producer d else d
      let sewn := ps.all (·.1.st = .sewn)
      match d.ent i with
      | none => d
      | some e =>
        if e.st = .unpicked then
          if e.cause = .producer ∧ sewn ∧ !e.reDone ∧ !e.notes.contains .reexec then
            offerNotes i (d.setEnt i (some { e with notes := e.notes ++ [.reexec] }))
          else d
        else
          let d :=
            if e.st = .open_ then
              if ps.any (·.1.taints) then moveEnt i .tainted e.cause d
              else if e.ended ∧ sewn then moveEnt i .sewn e.cause d else d
            else if e.st = .tainted ∧ sewn then moveEnt i (if e.ended then .sewn else .open_) e.cause d
            else d
          closeIf i ps d

/-- R212: an entry releases the references to producers that are SEWN, or gone. -/
def releaseSewn (i : Nat) (d : Dev) : Dev :=
  updEnt i (fun e => { e with prods := e.prods.filter fun y => match d.ent y.1 with | some z => z.st ≠ .sewn | none => false }) d

/-- R208, R212, R214: re-evaluation of every entry that references one whose state changed at the boundary before. -/
def reevaluate (d : Dev) : Dev :=
  let ch := d.led.prev
  let d := forL (d.live.filter fun x => x.2.prods.any fun y => ch.contains y.1) (fun x d => releaseSewn x.1 (evalEnt x.1 d)) d
  d.updLed fun l => { l with prev := l.changed, changed := [] }

/-- R220: BAST_WINDOW_EXPIRE for an entry. -/
def bastExpire (i : Nat) (d : Dev) : Dev :=
  match d.ent i with
  | none => d
  | some e =>
    if !d.stopped && e.st.basty && !e.closed && d.passed e.since (1000 * orDef (d.rd LG_CFG0_BAST_WIN) 1) then closeEnt i d else d

/-- R210, R224, R227: an entry that is freed at this boundary. -/
def Dev.mayFree (d : Dev) (i : Nat) (e : Entry) : Bool :=
  decide (e.nbAt < d.time.nb) &&
    (if e.ending && e.st ≠ .sewn then e.dests.all fun x => decide (1 ≤ x.dack)
     else e.notes.isEmpty && !e.wdraw && d.cons i = 0 &&
      (if e.remote then e.st = .sewn || e.st = .unpicked else e.st = .sewn && e.dests.all (·.dack = 2)))

/-- R210, R227: entries are freed; a notice that an entry of an ended job still owes is discarded and counted. -/
def freeSewn (d : Dev) : Dev :=
  forL (d.live.filter fun x => d.mayFree x.1 x.2) (fun x d => (d.add (LG_EVT 6) (x.2.notes.length + b01 x.2.wdraw)).setEnt x.1 none) d

/-- R229: the fewest free entries. -/
def noteFree (d : Dev) : Dev := d.wr LG_MINFREE_MIN (min (d.rd LG_MINFREE_MIN) d.freeEnts)

/-! Proxies (R210, R212, R224, R225). -/

/-- R224: the proxy for a tag's producer on another wafer. -/
def Dev.proxyIx (d : Dev) (t : OutTag) : Option Nat :=
  (d.live.find? fun x => x.2.remote && x.2.src = t.src && x.2.rIndex = t.index && x.2.job = t.job && x.2.seq = t.seq % 2 ^ 32).map (·.1)

/-- R209, R210: a new entry. -/
def Dev.newEntry (d : Dev) (job seq foot field : Nat) : Entry :=
  { st := .open_, ended := false, suspect := false, remote := false, closed := false, prods := [], gen := 0
    wdraw := false, wgen := 0, cause := .none, job, seq, foot, begun := 0, endCnt := 0, field, digest := 0, rslot := none
    spick := d.time.count % 2 ^ 32, dests := [], rIndex := 0, since := d.time.nbRun, nbAt := d.time.nb, notes := []
    reDone := false, closedTold := false, begTiles := [], endTiles := [], held := false, oFidx := none, marked := []
    stats := none }

/-- R209, R210: allocate a proxy in a state with a GEN; DEST0 names the producing peer, where the table lists it. -/
def newProxy (t : OutTag) (st : EState) (gen : Nat) (d : Dev) : Dev × Option Nat :=
  match d.freeEnt with
  | none => (d, none)
  | some i =>
    let e := { d.newEntry t.job (t.seq % 2 ^ 32) 0 0 with
      st, gen, remote := true, src := t.src, rIndex := t.index, dests := (d.peerIx t.src).toList.map fun p => ⟨p, 0, none⟩ }
    (noteFree (d.setEnt i (some e)), some i)

/-- R225: the QUERY of a proxy allocated by a begin. -/
def sendQuery (t : OutTag) (d : Dev) : Dev :=
  sendMsg 0x10 t.src 0 (d.noticeBody (outTag t.index t.gen t.seq t.job) 4 0 0 false) d

/-- R224: a proxy moves; what it withdraws is named by wgen. -/
def moveProxy (i : Nat) (st : EState) (gen : Nat) (c : Cause) (wd : Option Nat) (d : Dev) : Dev :=
  let d := updEnt i (fun e => { e with
    st, gen := satN 15 gen, cause := c, spick := d.time.count % 2 ^ 32, since := d.time.nbRun, nbAt := d.time.nb
    closed := e.closed && st.basty, wdraw := e.wdraw || wd.isSome, wgen := wd.getD e.wgen
    notes := if st.basty then e.notes else [] }) d
  let d := match d.ent i with
    | some e => onlyIf (decide (st = EState.sewn)) (tellSewn i e) d
    | none => d
  offerNotes i (d.updLed fun l => { l with changed := l.changed ++ [i] })

/-- R209: the CAUSE of a code. -/
def causeOf (n : Nat) : Cause :=
  match n with
  | 1 => .floor | 2 => .stop | 3 => .uv | 4 => .audit | 5 => .producer | 6 => .replaced | 7 => .poison | 8 => .jobEnd | 9 => .proto
  | _ => .none

/-- R224: UNPICK (g) acts on the proxy of a producer. -/
def proxyUnpick (i g : Nat) (c : Cause) (d : Dev) : Dev :=
  match d.ent i with
  | none => d
  | some e =>
    if (e.st = .basted ∨ e.st = .sewn) ∧ e.gen ≤ g then moveProxy i .unpicked (g + 1) c (some g) d else d

/-- R224: what a SEW, UNPICK or REEXEC with GEN g does. -/
def actNotice (t : OutTag) (kind cause : Nat) (d : Dev) : Dev :=
  match d.proxyIx t with
  | none =>
    if kind = 2 then
      match newProxy t .unpicked (satN 15 (t.gen + 1)) d with
      | (d, some i) => moveProxy i .unpicked (t.gen + 1) (causeOf cause) (some t.gen) d
      | (d, none) => d.updLed fun l => { l with unplaced := l.unplaced ++ [(t, cause)] }
    else d
  | some i =>
    match d.ent i with
    | none => d
    | some e =>
      if t.gen < e.gen then d
      else if kind = 2 then proxyUnpick i t.gen (causeOf cause) d
      else if kind = 1 then (if e.st = .basted ∧ t.gen = e.gen then moveProxy i .sewn e.gen e.cause none d else d)
      else if e.st = .basted ∨ e.st = .unpicked then
        if e.gen < t.gen then moveProxy i .sewn t.gen e.cause (some (t.gen - 1)) d else moveProxy i .sewn e.gen e.cause none d
      else d

/-- R224: a received SEW, UNPICK or REEXEC is acknowledged and acts. An UNPICK that needs a proxy and finds no entry free
waits for one. Log entry 40. -/
def ledgerNotice (t : OutTag) (kind cause : Nat) (d : Dev) : Dev :=
  sendMsg 0x10 t.src 0 (d.noticeBody (outTag t.index t.gen t.seq t.job) 4 kind 0 false) (actNotice t kind cause d)

/-- The UNPICK notices that wait for a free entry act once there is one. -/
def placeUnpicks (d : Dev) : Dev :=
  let l := d.led.unplaced
  forL l (fun x => actNotice x.1 2 x.2) (d.updLed fun l => { l with unplaced := [] })

/-- R222: DEST-ACK advances the destination's DACK. -/
def destAck (src : Nat) (t : OutTag) (acked : Nat) (d : Dev) : Dev :=
  match d.ent t.index, d.peerIx src with
  | some e, some p =>
    if e.remote ∨ e.job ≠ t.job ∨ e.seq % 2 ^ 32 ≠ t.seq % 2 ^ 32 then d else
    let up := if acked = 2 ∧ (e.st = .unpicked ∨ e.st = .poisoned) ∧ t.gen = e.wgen then 1
      else if (acked = 1 ∨ acked = 3) ∧ e.st = .sewn ∧ t.gen = e.gen then 2 else 0
    updEnt t.index (fun e => { e with dests := e.dests.map fun x => if x.peer = p then { x with dack := max x.dack up } else x }) d
  | _, _ => d

/-- R225: a QUERY: send again, record the sender, or answer that the entry is freed. -/
def ledgerQuery (src : Nat) (t : OutTag) (d : Dev) : Dev :=
  match d.ent t.index with
  | some e =>
    if e.remote ∨ e.job ≠ t.job ∨ e.seq % 2 ^ 32 ≠ t.seq % 2 ^ 32 then
      sendMsg 0x10 src 0 (d.noticeBody (outTag t.index t.gen t.seq t.job) 1 0 0 true) d
    else
      let once := match e.owes with
        | some (kind, gen, _) => sendMsg 0x10 src 0 (d.owedBody t.index e kind gen) d
        | none => d
      match d.peerIx src with
      | none => once
      | some p =>
        if e.dests.any (·.peer = p) then
          sendOwed t.index (·.peer = p) false (updEnt t.index (fun e => { e with
            dests := e.dests.map fun x => if x.peer = p then { x with dack := 0 } else x }) d)
        else if e.dests.length < 16 then
          sendOwed t.index (·.peer = p) false (updEnt t.index (fun e => { e with dests := e.dests ++ [⟨p, 0, none⟩] }) d)
        else once
  | none => sendMsg 0x10 src 0 (d.noticeBody (outTag t.index t.gen t.seq t.job) 1 0 0 true) d

/-- R208, R228: an event must wait for the next boundary: in a global stop, after an event of a later class, and after a marker of
the same tile that waits. -/
def Dev.eventWaits (d : Dev) (e : LEvent) : Bool :=
  d.stopped || decide (e.cls < d.led.cls) || (e.tile.isSome && d.led.later.any fun x => x.tile = e.tile)

/-- R208, R228: an event of a class is applied at the present boundary, or waits for the next one. Log entry 132. -/
def inOrder (e : LEvent) (g : Dev → Dev) (d : Dev) : Dev :=
  if d.eventWaits e then d.updLed fun l => { l with later := l.later ++ [e] }
  else g (d.updLed fun l => { l with cls := e.cls })

/-- R221: the answer HOLD; an entry that is sewn already has the endpoint told at once. -/
def holdData (i dst : Nat) (e : Entry) (d : Dev) : Dev :=
  let d := d.emit (.destAnswer i dst false)
  if e.st = .sewn then d.emit (.entrySewn i) else d.setEnt i (some { e with held := true })

/-- R221: the answer to a tag and a destination wafer that the host fabric endpoint reports. -/
def reportNow (t : OutTag) (dst : Nat) (d : Dev) : Dev :=
  match d.ent t.index with
  | none => d.emit (.destAnswer t.index dst true)
  | some e =>
    if e.remote ∨ e.job ≠ t.job ∨ e.seq % 2 ^ 32 ≠ t.seq % 2 ^ 32 then d.emit (.destAnswer t.index dst true) else
    match d.peerIx dst with
    | some p =>
      if e.dests.any (·.peer = p) then d.emit (.destAnswer t.index dst true)
      else if e.dests.length < 16 then
        sendOwed t.index (·.peer = p) false
          ((updEnt t.index (fun e => { e with dests := e.dests ++ [⟨p, 0, none⟩] }) d).emit (.destAnswer t.index dst true))
      else holdData t.index dst e d
    | none => holdData t.index dst e d

/-- R221, R228: the host fabric endpoint reports a tag and a destination wafer. -/
def destReport (t : OutTag) (dst : Nat) (d : Dev) : Dev := inOrder (.report t dst) (reportNow t dst) d

/-- R226: a peer of the table has been ABSENT for DEST_GIVEUP bolts. -/
def Dev.longAbsent (d : Dev) (p : Nat) : Bool :=
  match d.peer p with
  | some x => x.st = .absent && d.passed x.absentAt (1000 * orDef (d.rd LG_CFG1_DEST_GIVEUP) 1)
  | none => false

/-- R226: DEST_GIVEUP: a destination absent for DEST_GIVEUP bolts is given up. -/
def destGiveup (i peer : Nat) (d : Dev) : Dev :=
  match d.ent i with
  | none => d
  | some e =>
    let due := fun x : Dest => x.peer = peer && x.dack ≠ 2 && !e.remote
    if !d.stopped && d.longAbsent peer && e.dests.any due then
      (evt 5 (updEnt i (fun e => { e with dests := e.dests.map fun x => if due x then { x with dack := 2 } else x }) d)).raiseR
        { d.report .ledger 2 central peer with addr := i, master := Master.ledger.code }
    else d

/-- R222: LEDGER_NOTICE_RESEND for an entry. -/
def noticeResend (i : Nat) (d : Dev) : Dev := sendOwed i d.resendDue true d

/-- R226: a peer is back, and receives the owed notices again. -/
def destsBack (p : Nat) (d : Dev) : Dev := forL d.live (fun x d => sendOwed x.1 (·.peer = p) false d) d

/-- R278: a peer has been reset: its proxies that are not SEWN are handled as on UNPICK with CAUSE JOB_END. -/
def proxiesReset (p : Nat) (d : Dev) : Dev :=
  forL (d.live.filter fun x => x.2.remote && x.2.st ≠ .sewn && (d.peer p).map (·.addr) = some x.2.src)
    (fun x d => if x.2.st = .basted then proxyUnpick x.1 x.2.gen .jobEnd d else
      (updEnt x.1 (fun e => { e with cause := .jobEnd }) d).updLed fun l => { l with changed := l.changed ++ [x.1] }) d

/-! Watermarks and job end (R217, R227). -/

/-- R217: the sewn watermark of a job. -/
def Dev.watermark (d : Dev) (job : Nat) : Nat :=
  match minN ((d.live.filter fun x => !x.2.remote && x.2.job = job && x.2.st ≠ .sewn).map (·.2.seq)) with
  | some s => s
  | none => 2 ^ 36 - 1

/-- R217: WATERMARK: publish it and, where it has moved, tell the host. -/
def watermark (j : Nat) (d : Dev) : Dev :=
  match d.job j with
  | none => d
  | some e =>
    let w := d.watermark e.job
    let h := d.rd (LG_JOB_QHANDLE j)
    if w ≠ e.wmTold ∧ d.takes h then
      (d.setJob j (some { e with wm := w, wmTold := w })).emit
        (.hostNotice h (noteWord0 .watermark e.job w 0 .none) (d.time.count % 2 ^ 52))
    else d.setJob j (some { e with wm := w })

/-- R219: owed notices are offered again. -/
def offerAll (d : Dev) : Dev := forL d.live (fun x d => if x.2.notes ≠ [] ∨ x.2.wdraw then offerNotes x.1 d else d) d

/-- R222, R227: a destination has not acknowledged what the entry owes it, or would owe it once withdrawn. -/
def Entry.unsettled (e : Entry) : Bool :=
  e.dests.any fun x => decide (x.dack < if e.st = .unpicked ∨ e.st = .poisoned then 1 else 2)

/-- R227: what becomes of one entry of a released job. -/
def endEntry (job i : Nat) (e : Entry) (d : Dev) : Dev :=
  let owed := e.notes.length + b01 e.wdraw
  let d := d.add (LG_EVT 6) owed
  let d := updEnt i (fun e => { e with notes := [], wdraw := false }) d
  let d := if e.st = .sewn then d else
    forL (d.live.filter fun x => x.2.job ≠ job && x.2.prods.any (·.1 = i)) (fun x d => poisonEnt x.1 .jobEnd d) d
  if e.remote ∨ !e.unsettled then d.setEnt i none
  else if e.st = .sewn then updEnt i (fun e => { e with ending := true }) d
  else
    let d := if e.st = .poisoned then updEnt i (fun e => { e with cause := .jobEnd }) d else moveEnt i .poisoned .jobEnd d
    updEnt i (fun e => { e with notes := [], ending := true }) d

/-- R227: the ledger handles the end of a job, at the boundary after its RELEASE. -/
def endJobEntries (job : Nat) (d : Dev) : Dev :=
  let d := forL (d.live.filter (·.2.job = job)) (fun x d => endEntry job x.1 x.2 d) d
  let mine := d.led.waits.filter fun m => tagJob m.tag = job
  let d := forL mine (fun m d => evt 7 (d.emit (.stepAnswer m.field m.patch m.tile true))) d
  let d := d.updLed fun l => { l with waits := l.waits.filter fun m => tagJob m.tag ≠ job
                                      early := l.early.filter fun m => !m.steps.any (·.1 = job) }
  { d with tile := tmap TileS.init (fun t => match t.cur with
      | some c => if c.1 = job then { t with cur := none } else t
      | none => t) d.tile }

/-- R227: all jobs released since the last boundary. -/
def endJobs (d : Dev) : Dev :=
  let l := d.led.ended
  forL l endJobEntries (d.updLed fun l => { l with ended := [] })

/-! Views (R209, R229). -/

/-- The 160 bits of the destination indices, and the DACK fields. -/
def destBits (l : List Dest) : Nat := sumN ((l.zip (List.range 16)).map fun (x, i) => x.peer % 1024 * 2 ^ (10 * i))
def dackBits (l : List Dest) : Nat := sumN ((l.zip (List.range 16)).map fun (x, i) => x.dack % 4 * 2 ^ (2 * i))

/-- R209: word w of an entry of a table. -/
def entWord (ents : Tab (Option Entry)) (i : Nat) (e : Entry) (w : Nat) : Nat :=
  let prod := fun k => ((e.prods[k]?).map (·.1)).getD 0
  if w = 0 then
    e.st.code + 8 + 16 * b01 e.ended + 32 * b01 e.suspect + 64 * b01 e.remote + 128 * b01 e.closed + 2 ^ 8 * e.prods.length
      + 2 ^ 11 * e.dests.length + 2 ^ 16 * e.gen + 2 ^ 20 * b01 (!e.notes.isEmpty) + 2 ^ 21 * b01 e.wdraw + 2 ^ 22 * e.cause.code
  else if w = 1 then e.job + e.seq % 2 ^ 20 * 2 ^ 12
  else if w = 2 then e.seq / 2 ^ 20 % 2 ^ 16 + e.foot * 2 ^ 16
  else if w = 3 then e.begun + e.endCnt * 2 ^ 12 + e.field * 2 ^ 24
  else if w = 4 then (if e.remote then e.rIndex else e.digest % 2 ^ 32)
  else if w = 5 then (if e.remote then e.seq / 2 ^ 32 else e.digest / 2 ^ 32)
  else if w = 6 then prod 0 + prod 1 * 2 ^ 16
  else if w = 7 then prod 2 + prod 3 * 2 ^ 16
  else if w = 8 then satN 0xFFFF (consIn ents i) + (e.rslot.getD 0xFFFF) * 2 ^ 16
  else if w = 9 then e.spick
  else if w = 10 then dackBits e.dests
  else destBits e.dests / 2 ^ (32 * (w - 11)) % 2 ^ 32

end Sys2Proof.Machine
end

