-- ==== Sys2Proof/Machine/Replay.lean ====
section
/-! DEFINITION. The replay scheduler (chapter 08): regions (R230 to R233), records (R234), run requests (R235 to R237), the
vote (R238 to R242), strikes, repeats and confirms (R243 to R245), audits (R247, R248). -/

namespace Sys2Proof.Machine

def Dev.updRp (g : ReplayS → ReplayS) (d : Dev) : Dev := { d with rp := g d.rp }
def updRec (i : Nat) (g : RRec → RRec) (d : Dev) : Dev :=
  match d.recd i with
  | some r => d.setRecd i (some (g r))
  | none => d

/-- R252: a counter of LG_RP_CNT0 to LG_RP_CNT4: 0 REPLAYS, 1 TIEBREAKS, 2 MATCHES, 3 REPLACED, 4 UNRESOLVED, 5 LAPSED,
6 STRIKES, 7 RAISES, 8 RETIRED, 9 AUDITS. -/
def rcnt (k : Nat) (d : Dev) : Dev := d.inc (LG_RP_CNT k)

/-! Reserve patches and regions (R230 to R233). -/

def Dev.reserve (d : Dev) (f p : Nat) : Bool := d.rdB (ST_RSV f p)
def Dev.reserveOf (d : Dev) (f : Nat) : List Nat := (List.range 36).filter (d.reserve f)

/-- R232: RSV_MAX. -/
def Dev.rsvMax (d : Dev) : Nat := maxN ((List.range 96).map fun f => (d.reserveOf f).length)

/-- R230, R246: who holds a patch: a record, or an assay. -/
def Dev.holder (d : Dev) (f p : Nat) : Option (Option Nat) := tget none d.rp.holds (pkey f p)

/-- R354, R360: a slice holds the patch: it runs there, or as a TAP slice in the patch's domain. -/
def Dev.sliceOn (d : Dev) (f p : Nat) : Bool :=
  d.test.slices.any fun s => s.run && s.field = f && decide (0x10 ≤ s.id) && s.id ≠ 0x20 && s.id ≠ 0x21 && s.id ≠ 0x30
    && (s.patch = p || (decide (0x80 ≤ s.id) && domOf s.patch = domOf p))

/-- R251, R242: an assay of the patch is requested, waiting or running, or a slice holds it. -/
def Dev.underAssay (d : Dev) (f p : Nat) : Bool :=
  d.sliceOn f p || d.rp.assays.contains (f, p) || d.rp.verdictAssays.any (fun a => a.field = f && a.patch = p)
    || (match d.rp.assaying with | some a => a.field = f && a.patch = p | none => false)

/-- R230, R246: a patch fit for a run: in service, running, link UP, not in the critical band. -/
def Dev.fit (d : Dev) (f p : Nat) : Bool :=
  d.inService f && d.runs f p && d.link f (domOf p) = linkUp && d.rd (PS_STATUS_BAND f p) ≠ 2

/-- R230: available. -/
def Dev.runFree (d : Dev) (f p : Nat) : Bool := d.fit f p && d.holder f p = none && !d.underAssay f p

/-- R233: the first field of an order, from k on, with enough available reserve patches: k, field, region. -/
def Dev.findRegion (d : Dev) (base k0 need : Nat) (bad : Nat → Bool) : Option (Nat × Nat × List Nat) :=
  (List.range 96).findSome? fun j =>
    let k := (k0 + j) % 96
    let f := (base + k) % 96
    let ps := (d.reserveOf f).filter (d.runFree f)
    if !bad f && need ≤ ps.length then some (k, f, ps.take need) else none

/-- R237: a patch is taken by a record for a run of a kind at an F-index. -/
def takePatch (f p i kind fidx : Nat) (d : Dev) : Dev :=
  let d := d.updRp fun r => { r with holds := tput none (pkey f p) (some (some i)) r.holds }
  let d := ((d.wrB (ST_RSV_BUSY f p) true).wrB (ST_OP_PATCH_SENT f p) (kind ≠ 3)).wrB (PS_STATUS_REPLAY f p) true
  d.updPt f p fun x => { x with runIdx := some fidx }

/-- R122: the run on a patch is over; it goes back to the run guard. -/
def idlePatch (f p : Nat) (d : Dev) : Dev :=
  ((d.wrB (ST_OP_PATCH_SENT f p) false).wrB (PS_STATUS_REPLAY f p) false).updPt f p fun x => { x with runIdx := none }

/-- A patch is released. -/
def dropPatch (f p : Nat) (d : Dev) : Dev :=
  idlePatch f p ((d.updRp fun r => { r with holds := tput none (pkey f p) none r.holds }).wrB (ST_RSV_BUSY f p) false)

/-! Requests to the host (R235, R236). -/

/-- Bit mask of some patches. -/
def patchMask (ps : List Nat) : Nat := sumN (ps.map fun p => 2 ^ p)

/-- R235: a request: RUN of a type, or RELEASE (type 0). -/
def runReq (kind i : Nat) (r : RRec) (f : Nat) (ps : List Nat) : RunReq :=
  { w0 := (if kind = 0 then 2 else 1) + kind * 2 ^ 4 + r.job * 2 ^ 8 + r.seq * 2 ^ 20 + f * 2 ^ 56
    w1 := patchMask ps + i * 2 ^ 36, record := i, isRun := kind ≠ 0 }

/-- R235: write a request, or keep it owed. -/
def writeReq (q : RunReq) (d : Dev) : Dev :=
  let h := d.rd LG_RP_QHANDLE_QHANDLE
  if d.takes h then d.emit (.hostNotice h q.w0 q.w1) else d.updRp fun r => { r with owed := r.owed ++ [q] }

/-- R235: owed requests are offered again. -/
def offerReqs (d : Dev) : Dev :=
  let l := d.rp.owed
  forL l writeReq (d.updRp fun r => { r with owed := [] })

/-- R236: release a region of a record; a RUN the host has not taken is withdrawn instead. -/
def releaseRegion (i : Nat) (g : Region) (d : Dev) : Dev :=
  match d.recd i with
  | none => d
  | some r =>
    let mine := g.patches.filter fun p => d.holder g.field p = some (some i)
    if mine = [] then d else
    let d := forL mine (dropPatch g.field) d
    let q := runReq 0 i r g.field g.patches
    let owedRun := d.rp.owed.any fun x => x.isRun && x.record = i && x.w1 = q.w1
    if owedRun then d.updRp fun x => { x with owed := x.owed.filter fun y => !(y.isRun && y.record = i && y.w1 = q.w1) }
    else writeReq q d

/-! Records (R234). -/

/-- R232: the footprint of an entry: its patches in ascending order. -/
def Entry.footprint (e : Entry) : List Nat := (List.range 36).filter fun p => e.begTiles.any (· / 256 = p)

/-- The entry of a record, if it still stands for the record's step. -/
def Dev.recEnt (d : Dev) (r : RRec) : Option Entry :=
  match d.ent r.entry with
  | some e => if e.job = r.job ∧ e.seq = r.seq ∧ !e.remote then some e else none
  | none => none

/-- R234: allocate a record for an entry, or let it wait for one. -/
def allocRec (k : Nat) (audit full : Bool) (d : Dev) : Dev :=
  match d.ent k with
  | none => d
  | some e =>
    match freeKey 1024 d.rp.recs with
    | none => d.updRp fun r => { r with waiting := r.waiting ++ [k] }
    | some i =>
      let r : RRec := {
        entry := k, phase := .queued, audit, orig := ⟨e.field, e.footprint, e.oFidx.getD 0⟩, rep := none, tie := none, run := none
        marked := e.marked, full, rWrong := [], oWrong := [], verdict := .none, dR := 0, dT := 0, reqPick := 0, handPick := 0
        runs := 0, job := e.job, seq := e.seq, foot := e.foot, handAt := none, pR := [], pT := [], kR := 0, kT := 0
        judged := none, winP := [], jPos := [], repAt := none }
      updEnt k (fun e => { e with rslot := some i }) (d.setRecd i (some r))

/-- R243: the repeat and confirm marks of some positions of a region are cleared. -/
def clearJudged (r : RRec) (d : Dev) : Dev :=
  match r.judged with
  | none => d
  | some g => forL r.jPos (fun j d => match g.patches[j]? with
      | some p => (d.wrB (ST_RPL_PATCH_REPEAT g.field p) false).wrB (ST_RPL_PATCH_CONFIRM g.field p) false
      | none => d) d

/-- A record is freed: what it still holds is released, and the next entry that waits takes a record. -/
def dropRec (i : Nat) (d : Dev) : Dev :=
  match d.recd i with
  | none => d
  | some r =>
    let regs := [r.run.map (·.reg), r.rep, r.tie, r.judged].filterMap id
    let d := clearJudged r (forL regs (releaseRegion i) d)
    let d := updEnt r.entry (fun e => if e.rslot = some i then { e with rslot := none } else e) (d.setRecd i none)
    match d.rp.waiting.dropWhile fun k => match d.ent k with | some e => e.st ≠ .basted | none => true with
    | [] => d.updRp fun x => { x with waiting := [] }
    | k :: l => allocRec k (match d.ent k with | some e => e.cause = .audit | none => false) true (d.updRp fun x => { x with waiting := l })

/-- R234: positions of the original that are marked. -/
def RRec.markedPos (r : RRec) : List Nat :=
  (List.range r.orig.patches.length).filter fun j => r.full || r.audit || (match r.orig.patches[j]? with
    | some p => r.marked.contains p | none => false)

/-! Runs (R237). -/

/-- R237: a run of a kind is requested on a region. -/
def startRun (i kind : Nat) (g : Region) (d : Dev) : Dev :=
  match d.recd i with
  | none => d
  | some r =>
    let run : Run := { kind, reg := g, reqAt := d.time.nbRun, beg := [], fin := [], sums := List.replicate g.patches.length 0 }
    let d := forL g.patches (fun p d => takePatch g.field p i kind g.fidx d) d
    let d := d.setRecd i (some { r with
      run := some run, runs := satN 15 (r.runs + 1), reqPick := d.time.count % 2 ^ 32
      phase := if kind = 1 then .replay else if kind = 2 then .tiebreak else if kind = 3 then .repeat_ else .confirm
      rep := if kind = 1 then some g else r.rep, tie := if kind = 2 then some g else r.tie })
    writeReq (runReq kind i r g.field g.patches) d

/-- R244: the raises of the positions to be confirmed have taken effect. -/
def raisesDone (d : Dev) (r : RRec) : Bool :=
  match r.judged with
  | none => false
  | some g => r.jPos.all fun j => match g.patches[j]? with
    | some p => (d.pt g.field p).mofs = d.rd (ST_OP_PATCH_MOFS g.field p)
    | none => true

/-- R237, R243: the run a record waits to request. -/
def Dev.wantsRun (d : Dev) (r : RRec) : Option Nat :=
  if r.run.isSome then none
  else match r.phase with
    | .queued => if r.handAt.isSome then some 1 else none
    | .replay => some 1
    | .tiebreak => some 2
    | .repeat_ => some 3
    | .confirm => if raisesDone d r then some 4 else none
    | .decided => none

/-- R233, R237: request the run a record waits for, if a region is to be had. -/
def tryRun (i : Nat) (d : Dev) : Dev :=
  match d.recd i with
  | none => d
  | some r =>
    let need := footSpan r.foot + 1
    match d.wantsRun r with
    | none => d
    | some kind =>
      if kind = 1 then
        match d.findRegion (r.orig.field + 48) r.kR need (· = r.orig.field) with
        | some (k, f, ps) => startRun i 1 ⟨f, ps, r.orig.fidx⟩ (d.setRecd i (some { r with kR := k }))
        | none => d
      else if kind = 2 then
        match d.findRegion (r.orig.field + 24) r.kT need (fun f => f = r.orig.field || (r.rep.map (·.field)) = some f) with
        | some (k, f, ps) => startRun i 2 ⟨f, ps, r.orig.fidx⟩ (d.setRecd i (some { r with kT := k }))
        | none => d
      else match r.judged with
        | some g =>
          if g.patches.all fun p => d.fit g.field p && !d.underAssay g.field p && (d.holder g.field p = none || d.holder g.field p = some (some i))
          then startRun i kind g d else d
        | none => d

/-- Insertion by hand-off boundary, then entry index (R246). -/
def insertRec (x : Nat × RRec) : List (Nat × RRec) → List (Nat × RRec)
  | [] => [x]
  | y :: l =>
    let a := x.2.handAt.getD (2 ^ 64); let b := y.2.handAt.getD (2 ^ 64)
    if a < b ∨ (a = b ∧ x.2.entry ≤ y.2.entry) then x :: y :: l else y :: insertRec x l

/-- R210, R211: an entry is handed to the scheduler: BASTED, ENDED, producers sewn. -/
def handReady (d : Dev) (e : Entry) : Bool :=
  e.st = .basted && !e.remote && e.ended && e.prods.all fun y => match d.ent y.1 with | some z => z.st = .sewn | none => true

/-- R210: hand-offs, and the runs that are now possible, in the order of R246. -/
def schedule (d : Dev) : Dev :=
  if d.stopped then d else
  let d := forL d.recList (fun x d => match d.recEnt x.2 with
    | some e => if x.2.phase = .queued ∧ x.2.handAt.isNone ∧ handReady d e then
        updRec x.1 (fun r => { r with handAt := some d.time.nbRun, handPick := d.time.count % 2 ^ 32
                                      orig := { r.orig with patches := e.footprint }, marked := distinct (r.marked ++ e.marked) }) d else d
    | none => d) d
  forL (d.recList.foldr insertRec []) (fun x d => tryRun x.1 d) d

/-- R237: a REPLAY or TIEBREAK run is abandoned; it is requested again in the next eligible field of its order. -/
def abandonRun (i : Nat) (d : Dev) : Dev :=
  match d.recd i with
  | none => d
  | some r =>
    match r.run with
    | none => d
    | some run =>
      let d := rcnt 5 (releaseRegion i run.reg d)
      updRec i (fun r => { r with
        run := none, kR := if run.kind = 1 then (r.kR + 1) % 96 else r.kR, kT := if run.kind = 2 then (r.kT + 1) % 96 else r.kT
        rep := if run.kind = 1 then none else r.rep, tie := if run.kind = 2 then none else r.tie }) d

/-! Strikes and raises (R243 to R245). -/

/-- R244, R245: MOFS of a patch is raised by 1; a patch at 63 is retired at once. -/
def raiseOne (f p : Nat) (d : Dev) : Dev :=
  if 63 ≤ d.rd (ST_OP_PATCH_MOFS f p) then retirePatch f p d
  else rcnt 7 ((raiseMofs f p 1 d).raiseR { d.report .selftest 7 f p with value := d.rd (ST_OP_PATCH_MOFS f p) + 1 })

def Dev.strikesOf (d : Dev) (f p : Nat) : List Nat := tget [] d.rp.strikes (pkey f p)
def setStrikes (f p : Nat) (l : List Nat) (d : Dev) : Dev := d.updRp fun r => { r with strikes := tput [] (pkey f p) l r.strikes }

/-- R245: strikes within the last STRIKE_HOURS operating hours. -/
def Dev.recentStrikes (d : Dev) (f p : Nat) : List Nat :=
  (d.strikesOf f p).filter fun t => decide (d.rd EV_HOURS_HOURS ≤ t + 100 * orDef (d.rd LG_RP_CFG1_STRIKE_HOURS) 1)

/-- R245: the newest strikes of a log that its record in the margin area holds (R331): as many as STRIKE_MAX can ask for. -/
def newestStrikes (l : List Nat) : List Nat := l.drop (l.length - 15)

/-- R245: a strike is recorded. -/
def strike (f p : Nat) (d : Dev) : Dev :=
  let earlier := d.recentStrikes f p
  let d := countRec f 4 (margDirty (rcnt 6 (setStrikes f p (newestStrikes (d.strikesOf f p ++ [d.rd EV_HOURS_HOURS])) d)))
  if orDef (d.rd LG_RP_CFG1_STRIKE_MAX) 1 ≤ earlier.length then raiseOne f p (setStrikes f p [] d) else d

/-- R243: the patches at some positions of a region are judged wrong: strikes, and a REPEAT of the region. -/
def judge (i : Nat) (g : Region) (winP pos : List Nat) (d : Dev) : Dev :=
  let d := forL pos (fun j d => match g.patches[j]? with
    | some p => strike g.field p (d.inc (ST_RPL_PATCH_JUDGED g.field p))
    | none => d) d
  let jPos := pos.filter fun j => match g.patches[j]? with
    | some p => !d.rdB (ST_RPL_PATCH_REPEAT g.field p) && !d.rdB (ST_RPL_PATCH_CONFIRM g.field p) && !d.retired g.field p
    | none => false
  let d := forL jPos (fun j d => match g.patches[j]? with
    | some p => d.wrB (ST_RPL_PATCH_REPEAT g.field p) true | none => d) d
  updRec i (fun r => { r with phase := if jPos = [] then .decided else .repeat_, judged := some g, winP, jPos, repAt := some d.time.nbRun }) d

/-- A record has nothing left to do: no repeat, and no region kept for REPLACED. -/
def endIfDone (i : Nat) (d : Dev) : Dev :=
  match d.recd i with
  | some r => if r.phase = .decided ∧ !(r.verdict = .origWrong ∧ (r.rep.isSome ∨ r.tie.isSome)) then dropRec i d else d
  | none => d

/-- R244: the repeat or confirm is over: its region is released. -/
def endRepeat (i : Nat) (d : Dev) : Dev :=
  match d.recd i with
  | none => d
  | some r =>
    let d := clearJudged r (match r.judged with | some g => releaseRegion i g d | none => d)
    endIfDone i (updRec i (fun r => { r with run := none, phase := .decided, judged := none, jPos := [] }) d)

/-- R244: retire patches by confirm. -/
def retireConfirmed (g : Region) (pos : List Nat) (d : Dev) : Dev :=
  forL pos (fun j d => match g.patches[j]? with
    | some p => if d.retired g.field p then d else rcnt 8 (retirePatch g.field p d)
    | none => d) d

/-- R243, R244, R246: the repeat or confirm of the judged patches at some positions lapses; with the last of them the region is
released. -/
def lapseAt (i : Nat) (pos : List Nat) (d : Dev) : Dev :=
  match d.recd i with
  | none => d
  | some r =>
    let d := onlyIf (r.phase = .repeat_) (rcnt 5) d
    let d := match r.phase, r.judged with
      | .confirm, some g => retireConfirmed g pos d
      | _, _ => d
    let left := r.jPos.filter fun j => !pos.contains j
    if left = [] then endRepeat i d
    else updRec i (fun r => { r with jPos := left }) (clearJudged { r with jPos := pos } d)

/-- R243, R244: the whole repeat or confirm of a record lapses. -/
def lapseRepeat (i : Nat) (d : Dev) : Dev :=
  match d.recd i with
  | none => d
  | some r => lapseAt i r.jPos d

/-- R246: the run of a repeat or confirm is abandoned; it is requested again on the same region. -/
def againRepeat (i : Nat) (d : Dev) : Dev :=
  match d.recd i with
  | none => d
  | some r =>
    match r.run, r.judged with
    | some run, some g => updRec i (fun r => { r with run := none, repAt := some d.time.nbRun })
        (onlyIf (run.kind = 3) (rcnt 5) (forL g.patches (idlePatch g.field) d))
    | _, _ => d

/-- R244: positions still judged whose partial differs from the winner's. -/
def wrongAgain (r : RRec) (sums : List Nat) : List Nat := r.jPos.filter fun j => sums.getD j 0 ≠ r.winP.getD j 0

/-- R244: a REPEAT run has completed. -/
def repeatResult (i : Nat) (sums : List Nat) (d : Dev) : Dev :=
  match d.recd i with
  | none => d
  | some r =>
    match r.judged with
    | none => d
    | some g =>
      let wrong := wrongAgain r sums
      let d := clearJudged r d
      if wrong = [] then endRepeat i d else
      let d := forL wrong (fun j d => match g.patches[j]? with
        | some p => setStrikes g.field p [] (raiseOne g.field p d) | none => d) d
      let left := wrong.filter fun j => match g.patches[j]? with | some p => !d.retired g.field p | none => false
      let d := forL left (fun j d => match g.patches[j]? with
        | some p => d.wrB (ST_RPL_PATCH_CONFIRM g.field p) true | none => d) d
      let d := forL g.patches (idlePatch g.field) d
      let d := updRec i (fun r => { r with run := none, phase := .confirm, jPos := left, repAt := none }) d
      if left = [] then endRepeat i d else d

/-- R244: a CONFIRM run has completed. -/
def confirmResult (i : Nat) (sums : List Nat) (d : Dev) : Dev :=
  match d.recd i with
  | none => d
  | some r => endRepeat i (match r.judged with | some g => retireConfirmed g (wrongAgain r sums) d | none => d)

/-! The vote (R238 to R242). -/

/-- R242: the patches of the three regions go to assay; the record is freed. -/
def unresolvedAssays (i : Nat) (r : RRec) (d : Dev) : Dev :=
  let mk := fun (g : Region) (load : Bool) => g.patches.map fun p =>
    ({ field := g.field, patch := p, asked := false, rel := if load then some (runReq 0 i r g.field [p]) else none } : Assay)
  let l := mk r.orig false ++ (match r.rep with | some g => mk g true | none => []) ++ (match r.tie with | some g => mk g true | none => [])
  let l := l.filter fun a => !d.retired a.field a.patch
  let d := forL l (fun a d => idlePatch a.field a.patch
    ((d.updRp fun x => { x with holds := tput none (pkey a.field a.patch) (some none) x.holds }).wrB (ST_RSV_BUSY a.field a.patch) true)) d
  d.updRp fun x => { x with verdictAssays := x.verdictAssays ++ l.filter fun a =>
    !(x.verdictAssays.any fun b => b.field = a.field && b.patch = a.patch) }

/-- R238, R239: the verdict on a record whose tie-break, or matching replay, has completed. -/
def decide_ (i : Nat) (v : Verdict) (d : Dev) : Dev :=
  match d.recd i with
  | none => d
  | some r =>
    let d := updRec i (fun r => { r with verdict := v, phase := .decided, run := none }) d
    match v with
    | .matched => dropRec i (moveEnt r.entry .sewn .none (rcnt 2 d))
    | .origRight =>
      let pos := (List.range r.pR.length).filter fun j => r.pR.getD j 0 ≠ r.pT.getD j 0
      let d := moveEnt r.entry .sewn .none (updRec i (fun r => { r with rWrong := pos }) d)
      let d := match r.tie with | some g => releaseRegion i g d | none => d
      endIfDone i (match r.rep with
        | some g => judge i g r.pT pos d
        | none => d)
    | .origWrong =>
      let pos := r.markedPos
      let d := moveEnt r.entry .unpicked .replaced (rcnt 3 (updRec i (fun r => { r with oWrong := pos }) d))
      judge i r.orig r.pT pos d
    | .unresolved =>
      dropRec i (unresolvedAssays i r (poisonEnt r.entry (match d.ent r.entry with | some e => e.cause | none => .none) (rcnt 4 d)))
    | .givenUp =>
      dropRec i (poisonEnt r.entry (match d.ent r.entry with | some e => e.cause | none => .none) (rcnt 4 d))
    | .none => d

/-- R237: the run of a record is complete. -/
def completeRun (i : Nat) (d : Dev) : Dev :=
  match d.recd i with
  | none => d
  | some r =>
    match r.run with
    | none => d
    | some run =>
      let sum := sumN run.sums % 2 ^ 64
      let ran := d.fidx run.reg.field (run.reg.patches.headD 0)
      let d := forL run.reg.patches (idlePatch run.reg.field) d
      let dig := match d.recEnt r with | some e => e.digest | none => 0
      let d :=
        if run.kind = 1 then
          let d := rcnt 0 (updRec i (fun r => { r with run := none, pR := run.sums, dR := sum, rep := some { run.reg with fidx := ran } }) d)
          if sum = dig then decide_ i .matched d
          else moveEnt r.entry .tiebreak (match d.ent r.entry with | some e => e.cause | none => .none)
            (updRec i (fun r => { r with phase := .tiebreak }) d)
        else if run.kind = 2 then
          let d := rcnt 1 (updRec i (fun r => { r with run := none, pT := run.sums, dT := sum, tie := some { run.reg with fidx := ran } }) d)
          decide_ i (if sum = dig then .origRight else if sum = r.dR then .origWrong else .unresolved) d
        else if run.kind = 3 then repeatResult i run.sums (updRec i (fun r => { r with run := none }) d)
        else confirmResult i run.sums (updRec i (fun r => { r with run := none }) d)
      schedule d

/-! What ends or breaks a record (R237, R242, R243, R246). -/

/-- R237: RUN_LAPSE. -/
def runLapse (i : Nat) (d : Dev) : Dev :=
  match d.recd i with
  | some r => match r.run with
    | some run => if !d.stopped && decide (run.kind ≤ 2) && d.passed run.reqAt (1000 * orDef (d.rd LG_RP_CFG0_RUN_WIN) 1)
        then schedule (abandonRun i d) else d
    | none => d
  | none => d

/-- R242: VERDICT_GIVEUP. -/
def verdictGiveup (i : Nat) (d : Dev) : Dev :=
  match d.recd i with
  | some r => match r.handAt with
    | some t => if !d.stopped && r.verdict = .none && d.passed t (1000 * orDef (d.rd LG_RP_CFG0_GIVEUP) 1)
        then schedule (decide_ i .givenUp d) else d
    | none => d
  | none => d

/-- R243: REPEAT_LAPSE: the repeat or confirm has not begun in time. -/
def repeatLapse (i : Nat) (d : Dev) : Dev :=
  match d.recd i with
  | some r =>
    let begun := match r.run with | some run => !run.beg.isEmpty | none => false
    let due := match r.repAt with | some t => d.passed t (1000 * orDef (d.rd LG_RP_CFG0_REPEAT_WIN) 1) | none => false
    if !d.stopped && (r.phase = .repeat_ || r.phase = .confirm) && !begun && due
    then schedule (lapseRepeat i d) else d
  | none => d

/-- R246: a region patch stops, is retired, loses its link or enters the critical band during a run: the run is abandoned, and
the repeat or confirm of a judged patch lapses. -/
def runBroken (i : Nat) (d : Dev) : Dev :=
  match d.recd i with
  | none => d
  | some r =>
    match r.run with
    | none => d
    | some run =>
      let bad := (List.range run.reg.patches.length).filter fun j => match run.reg.patches[j]? with
        | some p => !d.fit run.reg.field p
        | none => false
      if bad = [] then d
      else if run.kind ≤ 2 then abandonRun i d
      else
        let lost := r.jPos.filter bad.contains
        againRepeat i (if lost = [] then d else lapseAt i lost d)

/-- R211, R241, R246: a record whose entry has gone or changed, or whose job has ended. -/
def recordSettle (i : Nat) (d : Dev) : Dev :=
  match d.recd i with
  | none => d
  | some r =>
    let e := d.recEnt r
    let live : Bool := match e with | some e => e.st = .basted || e.st = .replaying || e.st = .tiebreak | none => false
    if r.verdict = .none then (if live then d else dropRec i d)
    else
      let replacing : Bool := match e with | some e => e.st = .unpicked && e.cause = .replaced | none => false
      let d := if r.verdict = .origWrong ∧ !replacing then
          updRec i (fun r => { r with rep := none, tie := none })
            (forL ([r.rep, r.tie].filterMap id) (releaseRegion i) d)
        else d
      let d := if (d.jobNo r.job).isNone ∧ (r.phase = .repeat_ ∨ r.phase = .confirm) then lapseRepeat i d else d
      endIfDone i d

/-- What the scheduler does at a pick boundary. -/
def replayBoundary (d : Dev) : Dev :=
  if d.stopped then d else
  let ids := d.recList.map (·.1)
  let d := forL ids (fun i d => repeatLapse i (runLapse i (verdictGiveup i (runBroken i (recordSettle i d))))) d
  offerReqs (schedule d)

/-! Audits (R247, R248). -/

/-- R247: the step is chosen for audit. -/
def Dev.audited (d : Dev) (job seq : Nat) : Bool :=
  match d.jobNo job with
  | none => false
  | some (_, e) =>
    let s := min e.shift (d.rd LG_RP_CFG1_AUDIT_DEF)
    crc32c (leBytes 4 (d.rd LG_RP_SALT_SALT) ++ leBytes 2 job ++ leBytes 6 seq) % 2 ^ s = 0

/-- R248: a write of SHIFT applies from the next boundary. -/
def auditBoundary (d : Dev) : Dev :=
  forL d.jobList (fun x d => d.setJob x.1 (some { x.2 with shift := d.rd (LG_AUD_SHIFT x.1) })) d

/-- R234: O_FIDX of a mark on some patches, with the F-index of each: that of the step's lowest patch among them. -/
def Entry.markFidx (e : Entry) (l : List (Nat × Nat)) : Nat :=
  match l.find? fun x => e.footprint.contains x.1 with
  | some x => x.2
  | none => (l.map (·.2)).headD 0

/-- R200, R210, R234: an entry is marked suspect on some patches, each with its F-index. -/
def suspectEnt (k : Nat) (c : Cause) (l : List (Nat × Nat)) (d : Dev) : Dev :=
  let ps := l.map (·.1)
  match d.ent k with
  | none => d
  | some e =>
    if e.remote then d
    else if e.st = .open_ ∨ e.st = .tainted then
      let d := d.setEnt k (some { e with suspect := true, oFidx := some (e.markFidx l), marked := distinct (e.marked ++ ps) })
      allocRec k (c = .audit) false (moveEnt k .basted c d)
    else if e.st = .basted ∧ e.suspect then
      let d := d.setEnt k (some { e with marked := distinct (e.marked ++ ps) })
      match e.rslot with
      | some i => updRec i (fun r => { r with marked := distinct (r.marked ++ ps) }) d
      | none => d
    else d

/-! Views (R234, R252). -/

/-- R234: word w of a record. -/
def recWord (r : RRec) (w : Nat) : Nat :=
  let mask := fun g : Option Region => match g with | some g => patchMask g.patches | none => 0
  let fld := fun g : Option Region => match g with | some g => g.field | none => 0x7F
  let fx := fun g : Option Region => match g with | some g => g.fidx | none => 0
  let rep := if r.rep.isSome then r.rep else (r.run.bind fun x => if x.kind = 1 then some x.reg else none)
  let o := patchMask r.orig.patches
  let pos := fun l : List Nat => sumN (l.map fun j => 2 ^ j) % 2 ^ 16
  if w = 0 then r.entry + r.phase.code * 2 ^ 16 + b01 r.audit * 2 ^ 20 + 2 ^ 21
  else if w = 1 then r.orig.field + fld rep * 2 ^ 8 + fld r.tie * 2 ^ 16 + r.orig.fidx * 2 ^ 24
  else if w = 2 then o % 2 ^ 32
  else if w = 3 then o / 2 ^ 32 + mask rep / 2 ^ 32 * 2 ^ 4 + mask r.tie / 2 ^ 32 * 2 ^ 8 + fx rep * 2 ^ 12 + fx r.tie * 2 ^ 19
  else if w = 4 then mask rep % 2 ^ 32
  else if w = 5 then mask r.tie % 2 ^ 32
  else if w = 6 then pos r.markedPos + pos r.rWrong * 2 ^ 16
  else if w = 7 then pos r.oWrong + r.verdict.code * 2 ^ 16
  else if w = 8 then r.dR % 2 ^ 32 else if w = 9 then r.dR / 2 ^ 32
  else if w = 10 then r.dT % 2 ^ 32 else if w = 11 then r.dT / 2 ^ 32
  else if w = 12 then r.reqPick else if w = 13 then r.handPick
  else if w = 14 then (match r.run with | some x => x.fin.length | none => 0) + r.runs * 2 ^ 12
  else 0

end Sys2Proof.Machine
end

