-- ==== Sys2Proof/Machine/Markers.lean ====
section
/-! DEFINITION. What the ledger and the replay scheduler do with applied markers, marks, reports and host commands
(R203 to R212, R215, R228, R237, R249). -/

namespace Sys2Proof.Machine

/-- R205: an output tag. -/
def outTagOf (o : TagObs) : OutTag :=
  let t := o.tag.toNat
  { index := t % 2 ^ 16, gen := t / 2 ^ 16 % 16, seq := t / 2 ^ 20 % 2 ^ 32, job := t / 2 ^ 52, src := o.src.toNat }

/-- R215: a protocol error: counted, reported, and the entry concerned poisoned (a SEWN one stays). -/
def protoErr (f p job : Nat) (k : Option Nat) (d : Dev) : Dev :=
  let d := evt 7 (d.raiseR { d.report .ledger 1 f p with
    job := some job, addr := k.getD 0xFFFF + f * 2 ^ 16 + p * 2 ^ 24, master := Master.ledger.code })
  match k with
  | some k => poisonEnt k .proto d
  | none => d

/-! References at a begin (R212). -/

/-- R203: the tag names a producer of this wafer. -/
def Dev.localTag (d : Dev) (t : OutTag) : Bool := t.src = 0xFFFF || (d.selfValid && t.src = d.selfAddr)

/-- R212, R224: the entry a tag names, with the GEN it is referenced at, where it needs a reference: a SEWN producer of this
wafer needs none, nor does a SEWN proxy of the tag's own GEN. -/
def Dev.tagRef (d : Dev) (own : Option Nat) (t : OutTag) : Option (Nat × Nat) :=
  let found := if d.localTag t then
      (match d.ent t.index with
        | some e => if !e.remote ∧ e.job = t.job ∧ e.seq % 2 ^ 32 = t.seq then some (t.index, e) else none
        | none => none)
    else (d.proxyIx t).bind fun k => (d.ent k).map (k, ·)
  match found with
  | none => none
  | some (k, e) => if some k = own ∨ (e.st = .sewn ∧ (e.gen = t.gen ∨ (!e.remote ∧ e.gen < t.gen))) then none else some (k, t.gen)

/-- R210: a tag of another wafer without a proxy. -/
def Dev.needsProxy (d : Dev) (t : OutTag) : Bool := !d.localTag t && (d.proxyIx t).isNone

/-- R212: the previous step of the tile, whenever it is not SEWN. -/
def Dev.prevRef (d : Dev) (own : Option Nat) (m : BeginM) : Option (Nat × Nat) :=
  match (d.ti m.field m.patch m.tile).prev.bind fun x => d.keyIx x.1 x.2 with
  | none => none
  | some k => match d.ent k with
    | some e => if some k = own ∨ e.st = .sewn then none else some (k, e.gen)
    | none => none

/-- R212: the references a begin adds, but for proxies yet to be allocated. -/
def Dev.newRefs (d : Dev) (own : Option Nat) (m : BeginM) : List (Nat × Nat) :=
  (m.tags.filterMap (d.tagRef own)) ++ (d.prevRef own m).toList

/-- The producers an entry holds before the begin; none where the begin re-begins it (R210). -/
def Dev.heldRefs (d : Dev) (own : Option Nat) : List (Nat × Nat) :=
  match own.bind d.ent with
  | some e => if e.st = .unpicked then [] else e.prods
  | none => []

/-- R206, R207, R210, R212, R220, R242, R251: the causes for which a begin waits. -/
def Dev.beginWaits (d : Dev) (m : BeginM) : Bool :=
  let own := d.keyIx (tagJob m.tag) (tagSeq m.tag)
  let held := (d.heldRefs own).map (·.1)
  let fresh := distinct ((d.newRefs own m).map (·.1) |>.filter fun k => !held.contains k)
  let proxies := (distinct ((m.tags.filter d.needsProxy).map fun t => { t with gen := 0 })).length
  d.underAssay m.field m.patch
    || (match own.bind d.ent with | some e => e.st = .unpicked && !e.reDone | none => false)
    || decide (4 < held.length + fresh.length + proxies)
    || decide (d.freeEnts < proxies + b01 own.isNone)
    || (d.newRefs own m).any fun y => match d.ent y.1 with | some e => e.closed && e.st.basty | none => false

/-- R212: a reference enters a list; a producer held already keeps the least GEN at which it was referenced. -/
def addProd (x : Nat × Nat) (l : List (Nat × Nat)) : List (Nat × Nat) :=
  if l.any (·.1 = x.1) then l.map fun y => if y.1 = x.1 then (y.1, min y.2 x.2) else y else l ++ [x]

/-- R212: a reference enters an entry. -/
def addRef (k : Nat) (x : Nat × Nat) (d : Dev) : Dev := updEnt k (fun e => { e with prods := addProd x e.prods }) d

/-- R212, R224: one tag's reference enters an entry; a tag of another wafer makes or moves its proxy. -/
def addTag (k : Nat) (t : OutTag) (d : Dev) : Dev :=
  if d.needsProxy t then
    match newProxy t .basted t.gen d with
    | (d, some i) => addRef k (i, t.gen) (sendQuery t d)
    | (d, none) => d
  else match d.tagRef (some k) t with
    | none => d
    | some (i, g) => match d.ent i with
      | some e => addRef k (i, g) (if e.remote ∧ e.gen < g then moveProxy i .basted g e.cause none d else d)
      | none => d

/-! Marks (R200, R210). -/

/-- R210: one step that a mark names becomes BASTED. A step whose begins all wait has no entry to mark yet: the mark waits with
them. -/
def markStep (m : Mark) (s : Nat × Nat) (d : Dev) : Dev :=
  let early : Bool := d.led.waits.any fun w => tagJob w.tag = s.1 && tagSeq w.tag = s.2
  let wait := fun d : Dev => onlyIf early (·.updLed fun l => { l with early := l.early ++ [{ m with steps := [s] }] }) d
  match d.keyIx s.1 s.2 with
  | none => wait d
  | some k => match d.ent k with
    | none => d
    | some e =>
      if e.st = .open_ ∨ e.st = .tainted ∨ (e.st = .basted ∧ e.suspect) then
        evalEnt k (evt 0 (countRec m.field 2 (dbInc (DB_FCNT_MARKS m.field) (suspectEnt k m.cause (m.patches.zip m.fidx) d))))
      else onlyIf (decide (e.st = EState.unpicked)) wait d

/-- R200: a mark is applied to the steps it names. -/
def markNow (m : Mark) (d : Dev) : Dev := forL m.steps (markStep m) d

/-- R199: the marks that waited for a step's begin. -/
def earlyMarks (job seq : Nat) (d : Dev) : Dev :=
  let mine := fun m : Mark => m.steps.contains (job, seq)
  let l := d.led.early.filter mine
  forL l markNow (d.updLed fun l => { l with early := l.early.filter fun m => !mine m })

/-- R208: the marks on their way from a patch are applied: a sentinel forwards them before any later marker of the patch. -/
def marksFor (f p : Nat) (d : Dev) : Dev :=
  let mine := fun m : Mark => m.field = f && m.patches.contains p
  let l := d.led.marks.filter mine
  forL l markNow (d.updLed fun l => { l with marks := l.marks.filter fun m => !mine m })

/-! BEGIN and END. -/

/-- R249: a step whose first begin is applied is watched. -/
def takeWatch (f job : Nat) (d : Dev) : Dev × Option Stats :=
  let key := f * 4096 + job
  let n := tget 0 d.rp.watch key
  if n = 0 then (d, none) else (d.updRp fun r => { r with watch := tput 0 key (n - 1) r.watch }, some ⟨0, 0, none⟩)

/-- R205: the sentinel shows the tile of a begin the tag of its step. -/
def showTag (m : BeginM) (d : Dev) : Dev :=
  match d.tileTag m.field m.patch m.tile with
  | some t => d.emit (.outTag m.field m.patch m.tile t true)
  | none => d

/-- R212: a begin marker that does not wait is applied to its entry. -/
def applyBegin (m : BeginM) (d : Dev) : Dev :=
  let job := tagJob m.tag
  let seq := tagSeq m.tag
  let foot := tagFoot m.tag
  let own := d.keyIx job seq
  let reBegin : Bool := match own.bind d.ent with | some e => e.st = .unpicked | none => false
  let bad := footTiles foot = 0 || decide (d.rsvMax < footSpan foot + 1) || (d.ti m.field m.patch m.tile).cur.isSome
    || (d.led.waits.any fun w => w.field = m.field && w.patch = m.patch && w.tile = m.tile)
    || (match own.bind d.ent with
        | some e => e.foot ≠ foot || e.field ≠ m.field || e.st = .sewn
            || (!reBegin && (decide (footTiles e.foot ≤ e.begun) || e.begTiles.contains (m.patch * 256 + m.tile)))
        | none => false)
  if bad then protoErr m.field m.patch job own d else
  let prev := d.prevRef own m
  let (d, k) := match own with
    | some k => (if reBegin then
        moveEnt k .open_ .none (updEnt k (fun e => { e with
          begun := 0, endCnt := 0, ended := false, digest := 0, suspect := false, prods := [], begTiles := [], endTiles := []
          oFidx := none, marked := [], stats := e.stats.map fun _ => ⟨0, 0, none⟩ }) d) else d, k)
    | none =>
      let k := d.freeEnt.getD 0
      let (d, st) := takeWatch m.field job d
      (noteFree (d.setEnt k (some { d.newEntry job seq foot m.field with stats := st })), k)
  let d := updEnt k (fun e => { e with begun := e.begun + 1, begTiles := e.begTiles ++ [m.patch * 256 + m.tile] }) d
  let d := d.updTi m.field m.patch m.tile fun x => { x with cur := some (job, seq), job := some job }
  let d := forL m.tags (addTag k) d
  let d := match prev with
    | some x => addRef k x d
    | none => d
  earlyMarks job seq (evalEnt k (showTag m d))

/-- R227, R231: markers that the ledger discards: of no admitted job, or from a reserve patch. -/
def Dev.discards (d : Dev) (f p tag : Nat) : Bool := (d.jobNo (tagJob tag)).isNone || d.reserve f p

/-- R237: the run whose markers a patch routes to its record. -/
def Dev.runOf (d : Dev) (f p tag : Nat) : Option (Nat × RRec × Run) :=
  d.recList.findSome? fun (i, r) => match r.run with
    | some run => if run.reg.field = f ∧ run.reg.patches.contains p ∧ r.job = tagJob tag ∧ r.seq = tagSeq tag then some (i, r, run) else none
    | none => none

/-- R206: the steward of a field has CREDIT distinct keys in begin markers not yet applied. -/
def Dev.creditOut (d : Dev) (f : Nat) : Bool :=
  decide (orDef (d.rd LG_CFG1_CREDIT) 1 ≤ (distinct ((List.range 36).flatMap fun p => (d.beginsOut f p).map fun w => w.tag % 2 ^ 48)).length)

/-- R206: a begin marker is applied, or waits. -/
def beginNow (m : BeginM) (d : Dev) : Dev :=
  if d.discards m.field m.patch m.tag then evt 7 d
  else if d.beginWaits m then
    (evt 2 (d.updLed fun l => { l with waits := l.waits ++ [m] })).emit (.stepAnswer m.field m.patch m.tile false)
  else
    let told := m.tags ≠ [] || d.grantMode || d.creditOut m.field
    let d := schedule (applyBegin m d)
    if told then d.emit (.stepAnswer m.field m.patch m.tile true) else d

/-- R206, R208: BEGIN. The markers of a requested run go to its record (R237), and not to the ledger. -/
def begin_ (m : BeginM) (d : Dev) : Dev :=
  if (d.runOf m.field m.patch m.tag).isSome then d else inOrder (.begin_ m) (beginNow m) d

/-- R206: BEGIN_GO: the waiting begins whose cause of waiting has ended. -/
def retryWaits (d : Dev) : Dev :=
  if d.stopped then d else
  let l := d.led.waits
  schedule (forL l (fun m d =>
    if d.beginWaits m then d.updLed fun l => { l with waits := l.waits ++ [m] }
    else (applyBegin m d).emit (.stepAnswer m.field m.patch m.tile true)) (d.updLed fun l => { l with waits := [] }))

/-- R249: the statistics of one more end marker. -/
def addStats (free : Nat) (o : StatObs) (s : Stats) : Stats :=
  let vals := match s.vals with
    | none => (o.low.toNat, o.high.toNat, o.sum.toNat)
    | some (lo, hi, sum) => (if fpLt o.low.toNat lo then o.low.toNat else lo, if fpLt hi o.high.toNat then o.high.toNat else hi,
        fpAdd free sum o.sum.toNat)
  { count := (s.count + o.count.toNat) % 2 ^ 32, nonfin := (s.nonfin + o.nonfin.toNat) % 2 ^ 32, vals := some vals }

/-- R250: WATCH_RECORD: the combined statistics go to the next slot of the ring. -/
def watchRecord (e : Entry) (s : Stats) (d : Dev) : Dev :=
  let n := d.rd LG_WATCH_HEAD_NEXT
  let d := onlyIf (bitOf (d.rd (LG_WATCH_WORD n 0)) 12) (·.inc LG_WATCH_HEAD_OVER) d
  let (lo, hi, sum) := s.vals.getD (0, 0, 0)
  let d := (d.wr (LG_WATCH_WORD n 0) (e.job + 2 ^ 12)).wr (LG_WATCH_WORD n 1) (e.seq % 2 ^ 32)
  let d := (d.wr (LG_WATCH_WORD n 2) (e.seq / 2 ^ 32 + e.field * 2 ^ 4)).wr (LG_WATCH_WORD n 3) s.count
  let d := ((d.wr (LG_WATCH_WORD n 4) s.nonfin).wr (LG_WATCH_WORD n 5) lo).wr (LG_WATCH_WORD n 6) hi
  let d := d.wr (LG_WATCH_WORD n 7) (fpMean d.free.toNat sum s.count)
  d.takeFree.wr LG_WATCH_HEAD_NEXT ((n + 1) % 16)

/-- R247: AUDIT_SELECT: at the end that makes a clean step ENDED. -/
def auditSelect (k p : Nat) (d : Dev) : Dev :=
  match d.ent k with
  | none => d
  | some e =>
    if e.ended ∧ !e.suspect ∧ (e.st = .open_ ∨ e.st = .tainted) ∧ d.audited e.job e.seq then
      let d := rcnt 9 (suspectEnt k .audit (e.footprint.map fun q => (q, d.fidx e.field p)) d)
      match d.jobNo e.job with
      | some (j, _) => d.inc (LG_AUD_AUDITS j)
      | none => d
    else d

/-- R210: an end marker is applied. -/
def endNow (m : EndM) (d : Dev) : Dev :=
  let f := m.field
  let p := m.patch
  if d.discards f p m.tag then evt 7 d
  else
    let job := tagJob m.tag
    let seq := tagSeq m.tag
    let tk := p * 256 + m.tile
    match d.keyIx job seq with
    | none => protoErr f p job none d
    | some k => match d.ent k with
      | none => d
      | some e =>
        if e.field ≠ f ∨ !e.begTiles.contains tk ∨ e.endTiles.contains tk ∨ footTiles e.foot ≤ e.endCnt ∨ e.foot ≠ tagFoot m.tag ∨ e.st = .sewn then
          protoErr f p job (some k) d
        else
          let ended : Bool := e.endCnt + 1 = footTiles e.foot
          let stats := e.stats.map (addStats d.free.toNat m.stats)
          let d := onlyIf e.stats.isSome Dev.takeFree d
          let e' := { e with endCnt := e.endCnt + 1, endTiles := e.endTiles ++ [tk], digest := (e.digest + m.digest) % 2 ^ 64, ended, stats }
          let d := d.setEnt k (some e')
          let d := d.updTi f p m.tile fun x => { x with cur := none, prev := some (job, seq) }
          let d := d.updPt f p fun x => { x with stepsEnded := distinct (x.stepsEnded ++ [(job, seq)]) }
          let d := if m.poison then poisonEnt k .poison d else d
          let d := match ended, stats with
            | true, some s => watchRecord e' s d
            | _, _ => d
          schedule (evalEnt k (auditSelect k p d))

/-- R208: END. Marks on their way from the tile's patch are applied before it. -/
def end_ (m : EndM) (d : Dev) : Dev :=
  if (d.runOf m.field m.patch m.tag).isSome then d
  else if 3 ≤ d.led.cls ∧ d.led.marks.any (fun x => x.field = m.field && x.patches.contains m.patch) then
    d.updLed fun l => { l with later := l.later ++ [.end_ m] }
  else inOrder (.end_ m) (fun d => endNow m (marksFor m.field m.patch d)) d

/-- R200, R208, R210: MARK_APPLY: the oldest mark on its way is applied to the steps it names; in a global stop, and after an
event of a later class at the present boundary, it stays on its way. -/
def markApply (d : Dev) : Dev :=
  if d.stopped ∨ 2 < d.led.cls then d else
  match d.led.marks with
  | [] => d
  | m :: l => schedule (markNow m (d.updLed fun x => { x with marks := l, cls := 2 }))

/-! RUN_MARKER (R237, R246). -/

/-- R246: a protocol error in a run's markers. -/
def runProto (i f p job entry kind : Nat) (d : Dev) : Dev :=
  let d := evt 7 (d.raiseR { d.report .ledger 1 f p with
    job := some job, addr := entry + f * 2 ^ 16 + p * 2 ^ 24, master := Master.ledger.code })
  schedule (if kind ≤ 2 then abandonRun i d else lapseRepeat i d)

/-- R122, R142, R237: the tiles of a run may start: at the sentinel guard the raised target of every patch of its region is known
complete, and no hold stops the work. -/
def Dev.runMayStart (d : Dev) (run : Run) : Bool :=
  run.reg.patches.all fun p => d.guardMet run.reg.field p && !d.replayHeld run.reg.field p

/-- R237: a marker of a requested run. A begin waits for the guard and for the hold. -/
def runNow (m : RunM) (d : Dev) : Dev :=
  let f := m.field
  let p := m.patch
  match d.runOf f p m.tag with
  | none => evt 7 d
  | some (i, r, run) =>
    let j := (run.reg.patches.findIdx? (· = p)).getD 0
    let tk := j * 256 + m.tile
    if tagFoot m.tag ≠ r.foot then runProto i f p r.job r.entry run.kind d
    else if !m.isEnd then
      if !d.runMayStart run then d.updLed fun l => { l with later := l.later ++ [.run m] }
      else if run.beg.contains tk ∨ footTiles r.foot ≤ run.beg.length then runProto i f p r.job r.entry run.kind d
      else
        let d := updRec i (fun r => { r with run := some { run with beg := run.beg ++ [tk] } }) d
        match d.recEnt r with
        | some e => if run.kind = 1 ∧ e.st = .basted then moveEnt r.entry .replaying e.cause d else d
        | none => d
    else if !run.beg.contains tk ∨ run.fin.contains tk then runProto i f p r.job r.entry run.kind d
    else
      let run' := { run with fin := run.fin ++ [tk], sums := run.sums.set j ((run.sums.getD j 0 + m.digest) % 2 ^ 64) }
      let d := updRec i (fun r => { r with run := some run' }) d
      if m.poison then
        let sewn : Bool := match d.recEnt r with | some e => e.st = .sewn || e.st = .poisoned | none => true
        schedule (dropRec i (if sewn then tellPoison r.entry r.job d else poisonEnt r.entry .poison d))
      else if run'.fin.length = footTiles r.foot then completeRun i d else d

/-- R208, R237: RUN_MARKER. -/
def runMarker (m : RunM) (d : Dev) : Dev := inOrder (.run m) (runNow m) d

/-! Host commands (R228, R229, R252). -/

/-- R228: the caller's job: host context k, or 8 for the core. -/
def Dev.ownsJob (d : Dev) (who job : Nat) : Bool :=
  who = 8 || (match d.jobNo job with | some (_, e) => e.owner = some who | none => false)

/-- R210, R241: REPLACED is carried out, or refused. -/
def replacedNow (who k : Nat) (d : Dev) : Dev :=
  match d.ent k with
  | some e =>
    if e.st = .unpicked && e.cause = .replaced && d.ownsJob who e.job then
      let d := moveEnt k .sewn .none d
      schedule (match e.rslot with | some i => recordSettle i d | none => d)
    else conflict LG_STATUS_STATE_CONFLICT d
  | none => conflict LG_STATUS_STATE_CONFLICT d

/-- R208, R228: REPLACED. -/
def replaced (who k : Nat) (d : Dev) : Dev :=
  if !d.ready then conflict LG_STATUS_STATE_CONFLICT d else inOrder (.replaced who k) (replacedNow who k) d

/-! The events that waited for the boundary (R208). -/

/-- An event is applied, or waits on. -/
def applyEvent : LEvent → Dev → Dev
  | .begin_ m => begin_ m
  | .end_ m => end_ m
  | .report t dst => destReport t dst
  | .run m => runMarker m
  | .replaced who k => replaced who k

/-- R208: the waiting events of some classes, in the order of the classes. -/
def LEvent.ofClasses (cs : List Nat) (l : List LEvent) : List LEvent := cs.flatMap fun c => l.filter (·.cls = c)

/-- R208: the marks that precede the ends among some events. -/
def marksBefore (l : List LEvent) (d : Dev) : Dev :=
  forL l (fun x d => match x with | .end_ m => marksFor m.field m.patch d | _ => d) d

/-- R208, R228: the events that waited are applied at a boundary outside a global stop, in the order of their classes; LEDGER
notices, class 5, are applied by `notices`. -/
def eventsBoundary (notices : Dev → Dev) (d : Dev) : Dev :=
  let l := d.led.later
  let d := d.updLed fun x => { x with cls := 0, later := [] }
  let d := marksBefore l (forL (LEvent.ofClasses [1] l) applyEvent d)
  let d := notices (forL (LEvent.ofClasses [3, 4] l) applyEvent d)
  forL (LEvent.ofClasses [6, 7] l) applyEvent d

/-- R229: LG_SEL latches an entry as it stood at the last boundary. -/
def lgSel (k : Nat) (d : Dev) : Dev :=
  (d.wr LG_SEL_INDEX k).updLed fun l => { l with window := match tget none l.shown k with
    | some e => (List.range 16).map fun w => BitVec.ofNat 32 (entWord l.shown k e w)
    | none => List.replicate 16 0 }

/-- R252: LG_RP_SEL latches a record as it stood at the last boundary. -/
def lgRpSel (i : Nat) (d : Dev) : Dev :=
  (d.wr LG_RP_SEL_INDEX i).updRp fun r => { r with window := match tget none r.shown i with
    | some x => (List.range 16).map fun w => BitVec.ofNat 32 (recWord x w)
    | none => List.replicate 16 0 }

/-- R219, R235, R369: how a host queue stands: whether it takes a write. -/
def queueSeen (h : Nat) (takes : Bool) (d : Dev) : Dev :=
  { d with hostFull := if takes then d.hostFull.filter (· ≠ h) else if d.hostFull.contains h then d.hostFull else h :: d.hostFull }

/-- R219: HOST_NOTICE_RETRY: at a bolt boundary the owed notices are offered again. -/
def noticeRetry (h : Nat) (takes : Bool) (d : Dev) : Dev :=
  let d := queueSeen h takes d
  if !d.stopped && d.time.count % 1000 = 0 then
    forL (d.jobList.map (·.1)) (fun j d => match d.job j with
      | some e => if e.wm ≠ e.wmTold then watermark j d else d | none => d) (offerAll d)
  else d

/-- R235: RUN_REQUEST_RETRY. -/
def requestRetry (h : Nat) (takes : Bool) (d : Dev) : Dev :=
  let d := queueSeen h takes d
  if d.stopped then d else offerReqs d

/-! The commands. -/

def beginM (f : Fin 96) (p : Fin 36) (t : BitVec 8) (tag : BitVec 64) (tags : List TagObs) (stamp : BitVec 64) : BeginM :=
  { field := f.val, patch := p.val, tile := t.toNat, tag := tag.toNat, tags := (tags.take 4).map outTagOf, stamp := stamp.toNat }
def endM (f : Fin 96) (p : Fin 36) (t : BitVec 8) (tag digest : BitVec 64) (poison : Bool) (o : StatObs) (stamp : BitVec 64) : EndM :=
  { field := f.val, patch := p.val, tile := t.toNat, tag := tag.toNat, digest := digest.toNat, poison, stats := o, stamp := stamp.toNat }
def runM (f : Fin 96) (p : Fin 36) (t : BitVec 8) (tag : BitVec 64) (isEnd : Bool) (digest : BitVec 64) (poison : Bool)
    (stamp : BitVec 64) : RunM :=
  { field := f.val, patch := p.val, tile := t.toNat, tag := tag.toNat, isEnd, digest := digest.toNat, poison, stamp := stamp.toNat }

def execBegin (f : Fin 96) (p : Fin 36) (t : BitVec 8) (tag : Stamped) (tags : List TagObs) (s : State) :
    Host.Outcome State Fault Refusal := done (begin_ (beginM f p t tag.word tags tag.stamp)) s
def execBeginGo (s : State) : Host.Outcome State Fault Refusal := done retryWaits s
def execEnd (f : Fin 96) (p : Fin 36) (t : BitVec 8) (tag : Stamped) (digest : BitVec 64) (poison : Bool) (o : StatObs)
    (s : State) : Host.Outcome State Fault Refusal := done (end_ (endM f p t tag.word digest poison o tag.stamp)) s
def execMarkApply (s : State) : Host.Outcome State Fault Refusal := done markApply s
def execHostNoticeRetry (h : BitVec 32) (takes : Bool) (s : State) : Host.Outcome State Fault Refusal :=
  done (noticeRetry h.toNat takes) s
def execBastWindowExpire (k : BitVec 16) (s : State) : Host.Outcome State Fault Refusal := done (bastExpire k.toNat) s
def execDestReport (tag : BitVec 64) (dst : BitVec 16) (s : State) : Host.Outcome State Fault Refusal :=
  done (destReport (outTagOf ⟨tag, 0xFFFF⟩) dst.toNat) s
def execLedgerNoticeResend (k : BitVec 16) (s : State) : Host.Outcome State Fault Refusal := done (noticeResend k.toNat) s
def execDestGiveup (k : BitVec 16) (peer : BitVec 10) (s : State) : Host.Outcome State Fault Refusal :=
  done (destGiveup k.toNat peer.toNat) s
def execReplaced (who : Fin 9) (k : BitVec 16) (s : State) : Host.Outcome State Fault Refusal := done (replaced who.val k.toNat) s
def execLgSel (k : BitVec 16) (s : State) : Host.Outcome State Fault Refusal := done (lgSel k.toNat) s
def execRunRequestRetry (h : BitVec 32) (takes : Bool) (s : State) : Host.Outcome State Fault Refusal :=
  done (requestRetry h.toNat takes) s
def execRunMarker (f : Fin 96) (p : Fin 36) (t : BitVec 8) (tag : Stamped) (isEnd : Bool) (digest : BitVec 64) (poison : Bool)
    (s : State) : Host.Outcome State Fault Refusal := done (runMarker (runM f p t tag.word isEnd digest poison tag.stamp)) s
def execRunLapse (i : BitVec 10) (s : State) : Host.Outcome State Fault Refusal := done (runLapse i.toNat) s
def execVerdictGiveup (i : BitVec 10) (s : State) : Host.Outcome State Fault Refusal := done (verdictGiveup i.toNat) s
def execRepeatLapse (i : BitVec 10) (s : State) : Host.Outcome State Fault Refusal := done (repeatLapse i.toNat) s
def execLgRpSel (i : BitVec 10) (s : State) : Host.Outcome State Fault Refusal := done (lgRpSel i.toNat) s

end Sys2Proof.Machine
end

