-- ==== Sys2Proof/Machine/Jobs.lean ====
section
/-! DEFINITION. Chapters 05 and 06, the jobs: hints (R156 to R160), admission and release (R161 to R167), the two sources
of the cap (R154, R155, R191, R192), and collective windows with slack matching (R190, R193, R194). -/

namespace Sys2Proof.Machine

/-- A change of the budget unit's own state. -/
def Dev.updBud (g : BudgetS → BudgetS) (d : Dev) : Dev := { d with bud := g d.bud }

/-! Hints. -/

/-- R156: the steward is in reset or in drain state. -/
def Dev.draining (d : Dev) (f : Nat) : Bool := !d.inService f || d.selStop

/-- R157: the fields of a hint word. -/
def hintOp (w : Nat) : Nat := bitsOf w 60 4
def hintLead (w : Nat) : Nat := bitsOf w 48 12
def hintLevel (w : Nat) : Nat := bitsOf w 40 8
def hintClass (w : Nat) : Nat := bitsOf w 36 4
def hintJob (w : Nat) : Nat := bitsOf w 24 12
def hintArg (w : Nat) : Nat := bitsOf w 0 24

/-- R156: a tile writes a hint. -/
def hintWrite (f p : Nat) (w : Nat) (d : Dev) : Dev :=
  if d.draining f then d.inc (ST_HINT_DROP2_DRAIN f)
  else if 64 ≤ (d.fd f).hints.length then d.inc (ST_HINT_DROP1_FULL f)
  else d.updFd f fun x => { x with hints := x.hints ++ [⟨w, d.time.count, p⟩] }

/-- R158: width of ARG of an OP; none for a reserved OP. -/
def hintWidth (op : Nat) : Option Nat :=
  if op = 1 ∨ op = 2 ∨ op = 6 then some 4 else if op = 3 ∨ op = 4 ∨ op = 5 ∨ op = 7 then some 16 else none

/-- R159: legal in form. -/
def hintFormed (w : Nat) : Bool :=
  match hintWidth (hintOp w) with
  | none => false
  | some n => decide (hintClass w < 8) && decide (hintArg w < 2 ^ n) && (hintOp w ≠ 6 || decide (hintArg w ≤ 6))

/-- R159: the hint's job is admitted with this field. -/
def Dev.hintJobHere (d : Dev) (f w : Nat) : Option (Nat × JobE) :=
  match d.jobNo (hintJob w) with
  | some (j, e) => if f ∈ e.fields then some (j, e) else none
  | none => none

/-- R158: the next phase of a job, in cyclic order after the present one, with a primary format. -/
def nextPhase (e : JobE) (fmt : Nat) : Option Nat :=
  let n := e.phases.length
  ((List.range n).map fun k => (e.phase + 1 + k) % n).find? fun i => (e.phases[i]?.map (·.primary)) = some fmt

/-- R159: the counter of ST_HINT_DROP that a hint read now is counted in; none for a hint that is not dropped. A
collective hint is judged against the windows at its effect. -/
def Dev.hintDrops (d : Dev) (f w : Nat) : Option Fld :=
  if !hintFormed w then some (ST_HINT_DROP0_RESERVED f)
  else match d.hintJobHere f w with
    | none => some (ST_HINT_DROP0_JOB_UNKNOWN f)
    | some (_, e) => if hintOp w = 6 ∧ (nextPhase e (hintArg w)).isNone then some (ST_HINT_DROP1_STATE f) else none

/-- R156: the hint that the reader takes next; up to 4 in a pick, none in a global stop. -/
def Dev.nextHint (d : Dev) (f : Nat) : Option HintE :=
  if d.stopped || d.draining f || decide (4 ≤ (d.fd f).read) then none else (d.fd f).hints.head?

/-- The reader takes a hint. -/
def takeHint (f : Nat) (d : Dev) : Dev := d.updFd f fun x => { x with hints := x.hints.tail, read := x.read + 1 }

/-- R159: the reader drops the front hint, if it is one to drop. -/
def hintDrop (f : Nat) (d : Dev) : Dev :=
  match d.nextHint f with
  | none => d
  | some h =>
    match d.hintDrops f h.word with
    | some c => takeHint f (d.inc c)
    | none => d

/-- R158, R159: the effect pick of a hint read now. -/
def Dev.hintAt (d : Dev) (h : HintE) : Nat :=
  let e := h.recv + hintLead h.word
  if d.time.count < e then e else d.time.count + 1

/-- R158: the domains of a mask; 0 names the domain of the sending patch. -/
def hintDoms (h : HintE) : List Nat :=
  if hintArg h.word % 16 = 0 then [domOf h.patch] else (List.range 4).filter (bitOf (hintArg h.word))

/-- Run the reader on the front hint if it is a legal hint of an operation. -/
def readHint (f op : Nat) (g : HintE → Dev → Dev) (d : Dev) : Dev :=
  match d.nextHint f with
  | none => d
  | some h => if hintOp h.word = op ∧ (d.hintDrops f h.word).isNone then g h (takeHint f d) else d

/-- R158, R160: pre-position the masked domains for a tile-rail class. -/
def heavyAhead (f : Nat) (d : Dev) : Dev :=
  readHint f 1 (fun h d =>
    if isTileRail (hintClass h.word) then
      d.updFd f fun x => { x with prepos := x.prepos ++ (hintDoms h).map fun k =>
        ⟨k, hintJob h.word, hintLevel h.word, d.time.count + 1, d.hintAt h + d.rd (ST_HINT_CFG_HINT_HOLD f)⟩ }
    else d) d

/-- R158: a hint whose effect waits for its effect pick. -/
def defer_ (f : Nat) (h : HintE) (d : Dev) : Dev := d.updFd f fun x => { x with due := x.due ++ [⟨d.hintAt h, h⟩] }

def lightAhead (f : Nat) (d : Dev) : Dev := readHint f 2 (defer_ f) d

/-- R171, R175: arm the job's tiles in the field; the latest receipt gives the domains' expected release. -/
def barrierAhead (f : Nat) (d : Dev) : Dev :=
  readHint f 3 (fun h d =>
    let job := hintJob h.word
    let ks := (List.range 4).filter fun k => (d.tilesOfDom f k).any fun x => x.2.2.job = some job
    let d := armTiles f job ks false (hintLevel h.word) (hintArg h.word) d
    forL ks (fun k d => d.updDm f k fun x => { x with
      eRel := some (h.recv + hintLead h.word), lead0 := decide (hintLead h.word = 0), relPast := false }) d) d

def collectiveBegin (f : Nat) (d : Dev) : Dev := readHint f 4 (defer_ f) d
def collectiveEnd (f : Nat) (d : Dev) : Dev := readHint f 5 (defer_ f) d
def formatAhead (f : Nat) (d : Dev) : Dev := readHint f 6 (defer_ f) d
def watchHint (f : Nat) (d : Dev) : Dev := readHint f 7 (defer_ f) d

/-! Windows. -/

def Dev.win (d : Dev) (i : Nat) : Option Win := tget none d.bud.wins i
def Dev.setWin (i : Nat) (w : Option Win) (d : Dev) : Dev := d.updBud fun b => { b with wins := tput none i w b.wins }
def Dev.winList (d : Dev) : List (Nat × Win) := d.bud.wins.filterMap fun (i, w) => w.map (i, ·)
def Dev.openWins (d : Dev) : List (Nat × Win) := d.winList.filter (·.2.open_)

/-- The open window of a pair. -/
def Dev.winOf (d : Dev) (job group : Nat) : Option (Nat × Win) :=
  d.openWins.find? fun x => x.2.job = job && x.2.group = group

/-- R193: what a patch would request without the slack-matching ceiling. -/
def Dev.slowReq (d : Dev) (f p : Nat) : Nat :=
  let x := d.pt f p
  let c : Int := min (d.cmd (loopRef f (5 + p))) (min 88 (d.rd (ST_OP_FPLAN_FMAX f)) : Nat)
  let c := match minOpts [x.nearCeil, x.critCeil, x.domCeil, d.railCeil f p] with
    | none => c
    | some m => min c m
  (min (d.baseIdx f p) c).toNat

/-- R193: F_slow of a window's fields; none without a running patch that does no replay work. -/
def Dev.fSlow (d : Dev) (fields : List Nat) : Option Nat :=
  minN (fields.flatMap fun f => ((List.range 36).filter fun p => d.runs f p && !d.rdB (PS_STATUS_REPLAY f p)).map (d.slowReq f))

/-- R190: COLLECTIVE_BEGIN takes effect in a field; false where it is not legal in the present state (R159). -/
def collBegin (f job group : Nat) (d : Dev) : Dev :=
  match d.winOf job group with
  | some (i, w) =>
    if f ∈ w.began ∧ f ∉ w.ended then d.inc (ST_HINT_DROP1_STATE f)
    else d.setWin i (some { w with began := (w.began.filter (· ≠ f)) ++ [f], ended := w.ended.filter (· ≠ f) })
  | none =>
    match freeKey 32 d.bud.wins with
    | none => d.inc BU_COLL_STATUS_FULL_DROPS
    | some i => d.setWin i (some { job, group, open_ := true, began := [f], ended := [], fSlow := d.fSlow [f], sent := d.fSlow [f]
                                   heard := [], m := none, matching := false })

/-- R190, R191: a window closes; no deferral waits for it longer. Its entry is freed at the next boundary (R194). -/
def closeWin (i : Nat) (d : Dev) : Dev :=
  match d.win i with
  | none => d
  | some w =>
    let cut := fun (s : CapSrc) => { s with defer := s.defer.map fun x => { x with wins := x.wins.filter (· ≠ (w.job, w.group)) } }
    (d.setWin i (some { w with open_ := false })).updBud fun b => { b with tray := cut b.tray, rack := cut b.rack }

/-- R190: COLLECTIVE_END takes effect in a field. -/
def collEnd (f job group : Nat) (d : Dev) : Dev :=
  match d.winOf job group with
  | some (i, w) =>
    if f ∈ w.began ∧ f ∉ w.ended then
      let w := { w with ended := w.ended ++ [f] }
      onlyIf (w.began.all fun g => g ∈ w.ended) (closeWin i) (d.setWin i (some w))
    else d.inc (ST_HINT_DROP1_STATE f)
  | none => d.inc (ST_HINT_DROP1_STATE f)

/-- R194: entries of windows that closed before the present boundary are freed. -/
def freeWins (d : Dev) : Dev := forL (d.winList.filter fun x => !x.2.open_) (fun x => Dev.setWin x.1 none) d

/-! The job table. -/

/-- The plan index of a job's present phase. -/
def JobE.planIx (e : JobE) : Nat := ((e.phases[e.phase]?).map (·.plan)).getD 0

/-- R164, R167: F_PLAN of fields: the least present plan index of the jobs there, 56 when none remain. -/
def setPlans (fields : List Nat) (d : Dev) : Dev :=
  forL fields (fun f d => d.wr (ST_OP_FPLAN_F_PLAN f)
    ((minN ((d.jobList.filter fun x => f ∈ x.2.fields).map fun x => x.2.planIx)).getD 56)) d

/-- R158: FORMAT_AHEAD takes effect. -/
def formatEffect (f w : Nat) (d : Dev) : Dev :=
  match d.jobNo (hintJob w) with
  | some (j, e) =>
    match nextPhase e (hintArg w) with
    | some i => setPlans e.fields (d.setJob j (some { e with phase := i }))
    | none => d.inc (ST_HINT_DROP1_STATE f)
  | none => d

/-- R158: the effect of a hint at its effect pick. -/
def hintEffect1 (f : Nat) (h : HintE) (d : Dev) : Dev :=
  let w := h.word
  let job := hintJob w
  match d.hintJobHere f w with
  | none => d
  | some _ =>
    if hintOp w = 2 then
      armTiles f job (hintDoms h) true (hintLevel w) 0
        (d.updFd f fun x => { x with prepos := x.prepos.filter fun y => !(y.job = job && y.dom ∈ hintDoms h) })
    else if hintOp w = 4 then collBegin f job (hintArg w) d
    else if hintOp w = 5 then collEnd f job (hintArg w) d
    else if hintOp w = 6 then formatEffect f w d
    else { d with rp := { d.rp with watch := tupd 0 (f * 4096 + job) (fun n => satN 65535 (n + max 1 (hintArg w))) d.rp.watch } }

/-- Due hints of a field in the order of their effect picks, those of one pick in the order they were read. -/
def insertDue (x : HintDue) : List HintDue → List HintDue
  | [] => [x]
  | y :: l => if y.at_ ≤ x.at_ then y :: insertDue x l else x :: y :: l

/-- R158: HINT_EFFECT: the hints whose effect pick has come. -/
def hintEffect (f : Nat) (d : Dev) : Dev :=
  if d.stopped then d else
  let now := ((d.fd f).due.filter fun x => x.at_ ≤ d.time.count).foldl (fun l x => insertDue x l) []
  let d := d.updFd f fun x => { x with due := x.due.filter fun y => d.time.count < y.at_ }
  forL now (fun x => hintEffect1 f x.hint) d

/-- R158: PREPOS_EXPIRE: the pre-positions whose end has come. -/
def preposExpire (f : Nat) (d : Dev) : Dev :=
  if d.stopped then d else d.updFd f fun x => { x with prepos := x.prepos.filter fun y => d.time.count < y.until_ }

/-! Admission. -/

/-- R161, R162: a load descriptor. -/
structure Descr where
  job : Nat
  fields : List Nat
  peak : Nat
  mean : Nat
  tightOk : Bool
  phases : List Phase
  deriving DecidableEq, Repr

/-- R162: a phase record; none where it is malformed. -/
def phaseOf (b : List Nat) : Option Phase :=
  let p : Phase := { peak := bytesAt b 0 2, mean := bytesAt b 2 2, peakDom := bytesAt b 4 2, fProf := bytesAt b 6 1, primary := bytesAt b 7 1
                     formats := bytesAt b 8 1, replay := bytesAt b 9 1, duration := bytesAt b 10 2, plan := bytesAt b 6 1 }
  if p.fProf ≤ 88 ∧ p.primary ≤ 6 ∧ bytesAt b 12 4 = 0 then some p else none

/-- R161, R164: read a descriptor; none where it is malformed. -/
def descrOf (words : List Nat) : Option Descr :=
  let b := words.flatMap (leBytes 4)
  let n := bytesAt b 5 1
  let size := 32 + 16 * n
  let map := bytesAt b 8 12
  let phases := ((List.range n).map fun k => phaseOf ((b.drop (32 + 16 * k)).take 16)).filterMap id
  if bytesAt b 0 4 = 0x31444C51 ∧ bytesAt b 4 1 = 1 ∧ 1 ≤ n ∧ n ≤ 16 ∧ bytesAt b 6 2 < 4096 ∧ map ≠ 0 ∧ bytesAt b 28 4 < 2
      ∧ phases.length = n ∧ bytesAt b size 4 = crc32 (b.take size) then
    some { job := bytesAt b 6 2, fields := (List.range 96).filter (bitOf map), peak := bytesAt b 20 4, mean := bytesAt b 24 4
           tightOk := bitOf (bytesAt b 28 4) 0, phases }
  else none

/-- R148: F_FIX, from the allotments in force. -/
def Dev.fFix (d : Dev) : Nat := sumN ((List.range Config.nFields).map fun f => d.allot f 2 + d.allot f 3 + d.allot f 5)

/-- R148: the weight of a field for division: the one of the last bolt boundary, while the field takes part. -/
def Dev.weight (d : Dev) (f : Nat) : Nat := if d.inService f && !d.selStop then (d.fd f).wt else 0
def Dev.weights (d : Dev) : Nat := sumN ((List.range Config.nFields).map d.weight)

/-- R163: room, L_FIELD, L_CAP. -/
def Dev.room (d : Dev) : Int := (d.sp : Int) - d.fFix
def Dev.lField (d : Dev) (fields : List Nat) : Nat :=
  (minN (fields.map fun f => min (d.rd BU_FIELD_LIM_FIELD_MAX) (d.room.toNat * d.weight f / max 1 d.weights))).getD 0
def Dev.lCap (d : Dev) : Int := d.room - sumN (d.jobList.map fun x => x.2.waferMean)

/-- R163: a ratio v / lim, with the REASON that names its limit; a limit of 0 or less is exceeded by any v above 0. -/
structure Ratio where
  v : Nat
  lim : Nat
  why : Nat
  deriving DecidableEq, Repr

/-- The first ratio is greater than the second; a ratio with nothing above the line is 0. -/
def Ratio.above (a b : Ratio) : Bool := if b.v = 0 then a.v ≠ 0 else decide (b.v * a.lim < a.v * b.lim)

/-- The ratio in Q4.12, rounded up; none where it is infinite. -/
def Ratio.x (a : Ratio) : Option Nat := if a.v = 0 then some 0 else if a.lim = 0 then none else some (divUp (a.v * 4096) a.lim)

/-- R163: the ratios of a descriptor, in the order of their reasons. -/
def Dev.ratios (d : Dev) (e : Descr) : List Ratio :=
  let lf := d.lField e.fields
  e.phases.map (fun p => ⟨p.peak, lf, 1⟩) ++ e.phases.map (fun p => ⟨p.peakDom, 2200, 2⟩) ++ [⟨e.peak, d.lCap.toNat, 3⟩]

/-- R163: the greatest, the first of equals. -/
def greatest : List Ratio → Ratio
  | [] => ⟨0, 1, 1⟩
  | a :: l => l.foldl (fun m x => if x.above m then x else m) a

/-- R165: V(i). -/
def Dev.planV (d : Dev) (fields : List Nat) (i : Nat) : Nat :=
  200 + maxN (fields.map fun f => d.rd (ST_OP_VF_VMIN f i) + d.rd (ST_OP_GUARD_RUN_GUARD f))

/-- R165: every prediction for index i of a phase fits its limit. -/
def Dev.planFits (d : Dev) (e : Descr) (p : Phase) (i : Nat) : Bool :=
  let v := d.planV e.fields i
  let v0 := d.planV e.fields p.fProf
  let num := (32 + i) * v * v
  let den := (32 + p.fProf) * v0 * v0
  decide (divUp (p.peak * num) den ≤ d.lField e.fields)
    && decide (divUp (p.peakDom * (32 + i) * v) ((32 + p.fProf) * v0) ≤ 2200)
    && decide ((divUp (e.peak * num) den : Int) ≤ d.lCap)

/-- R165: the highest index from F_PROF down that fits. -/
def Dev.tightPlan (d : Dev) (e : Descr) (p : Phase) : Option Nat :=
  (List.range (p.fProf + 1)).reverse.find? (d.planFits e p)

/-- R164: an outcome: OUTCOME, REASON, x and the phases entered with their plan indices. -/
structure Verd where
  outcome : Nat
  reason : Nat
  x : Nat
  phases : List Phase
  deriving DecidableEq, Repr

/-- R164: judge a well-formed descriptor. -/
def Dev.judgeAdm (d : Dev) (e : Descr) : Verd :=
  let g := greatest (d.ratios e)
  let x := g.x.getD 0xFFFF
  if x ≤ 4096 then ⟨0, 0, x, e.phases⟩
  else if x ≤ 4608 then
    if e.tightOk then
      let ps := e.phases.filterMap fun p => (d.tightPlan e p).map fun i => { p with plan := i }
      if ps.length = e.phases.length then ⟨1, 0, x, ps⟩ else ⟨2, 8, x, []⟩
    else ⟨2, 4, x, []⟩
  else ⟨2, g.why, satN 0xFFFF x, []⟩

/-- R411: the result of a bank. -/
def setResult (bank outcome : Nat) (doneBit : Bool) (reason fplan x : Nat) (d : Dev) : Dev :=
  let w : Word := BitVec.ofNat 32 (outcome + 4 * b01 doneBit + 16 * reason + 256 * fplan + 65536 * satN 0xFFFF x)
  d.updBud fun b => { b with admRes := tput 0 bank w b.admRes }

/-- R164, R167: a command refused for the present state. -/
def admConflict (bank : Nat) (d : Dev) : Dev := conflict BU_STATUS_STATE_CONFLICT (setResult bank 3 true 0 0 0 d)

/-- R163, R167: BU_ADM_CMD ADMIT from a host context, or the core (bank 8). -/
def admitCmd (bank : Nat) (d : Dev) : Dev :=
  if d.bud.adm.isSome || !d.ready then admConflict bank d
  else
    let words := (List.range 128).map fun k => (tget (0 : Word) d.bud.admBuf (bank * 128 + k)).toNat
    (setResult bank 0 false 0 0 0 d).updBud fun b => { b with adm := some ⟨bank, words⟩ }

/-- R164: enter a job in the lowest free entry. -/
def enterJob (slot bank : Nat) (e : Descr) (v : Verd) (d : Dev) : Dev :=
  setPlans e.fields ((d.wr (LG_AUD_SHIFT slot) (d.rd LG_RP_CFG1_AUDIT_DEF)).setJob slot (some
    { job := e.job, owner := if bank < 8 then some bank else none, fields := e.fields, waferMean := e.mean, phases := v.phases, phase := 0
      tight := v.outcome = 1, misses := 0, missTold := false, wm := 0, wmTold := 0, shift := d.rd LG_RP_CFG1_AUDIT_DEF }))

/-- R164: ADMIT_RESULT: the evaluation completes. -/
def admitResult (d : Dev) : Dev :=
  match d.bud.adm with
  | none => d
  | some a =>
    let d := d.updBud fun b => { b with adm := none }
    match descrOf a.words with
    | none => setResult a.bank 2 true 5 0 0 d
    | some e =>
      if (d.jobNo e.job).isSome then admConflict a.bank d
      else if e.fields.any fun f => d.draining f then setResult a.bank 2 true 6 0 0 d
      else match freeKey 64 d.bud.jobs with
        | none => setResult a.bank 2 true 7 0 0 d
        | some slot =>
          let v := d.judgeAdm e
          if v.outcome = 2 then setResult a.bank 2 true v.reason 0 v.x d
          else setResult a.bank v.outcome true 0 ((v.phases.head?.map (·.plan)).getD 0) v.x (enterJob slot a.bank e v d)

/-- R167, R227: a job leaves the table. -/
def endJob (slot : Nat) (d : Dev) : Dev :=
  match d.job slot with
  | none => d
  | some e =>
    let d := setPlans e.fields (d.setJob slot none)
    let d := d.wr (LG_JOB_QHANDLE slot) 0
    let d := onlyIf (e.wm ≠ e.wmTold) (·.inc (LG_EVT 6)) d
    { d with bud := { d.bud with gone := d.bud.gone ++ [e.job] }, led := { d.led with ended := d.led.ended ++ [e.job] } }

/-- R167, R411: BU_ADM_CMD RELEASE from a host context, or the core (8). -/
def release (bank job : Nat) (d : Dev) : Dev :=
  if d.bud.adm.isSome || !d.ready then admConflict bank d
  else match d.jobNo job with
    | none => admConflict bank d
    | some (j, e) => if bank < 8 ∧ e.owner ≠ some bank then admConflict bank d else setResult bank 0 true 0 0 0 (endJob j d)

/-- R167, R171, R190: at the boundary after a release, the job's armings, pre-positions, hints and windows end. -/
def goneBoundary (d : Dev) : Dev :=
  let d := forL d.bud.gone (fun job d =>
    let d := forL ((d.winList.filter fun x => x.2.job = job && x.2.open_).map (·.1)) closeWin d
    forN Config.nFields (fun f d =>
      let x := d.fd f
      let d := if x.prepos = [] ∧ x.due = [] then d else d.updFd f fun x => { x with
        prepos := x.prepos.filter (·.job ≠ job), due := x.due.filter fun y => hintJob y.hint.word ≠ job }
      if (d.tile.any fun t => t.1 / 9216 = f && (t.2.arm.map (·.job)) = some job) then disarmJob f job d else d) d) d
  d.updBud fun b => { b with gone := [] }

/-- R411: ownership as in effect from the present boundary. -/
def ownsBoundary (d : Dev) : Dev :=
  d.updBud fun b => { b with owns := d.jobList.filterMap fun x => x.2.owner.map fun k => (x.2.job, k, x.2.fields) }

/-! The cap. -/

/-- R154: a value is in range. -/
def Dev.capRange (d : Dev) (v : Nat) : Bool := decide (d.rd BU_CAP_LIMITS_CAP_MIN ≤ v) && decide (v ≤ d.rd BU_CAP_LIMITS_CAP_MAX)

/-- The latest value of a source. -/
def CapSrc.latest (s : CapSrc) : Nat :=
  match s.defer, s.next with
  | some x, _ => x.val
  | none, some x => x.1
  | none, none => s.val

/-- R155, R191, R192: a source after it accepts a value; `other` is the other source, `wins` the open windows, `due` the
boundary of the GRACE-th bolt boundary, `cap` the cap in force. A value that does not lower the source or the cap waits for no
window; a lower one joins the deferral that runs, unless the source stands on its own. Log entry 50. -/
def CapSrc.take (s other : CapSrc) (v : Nat) (urgent : Bool) (wins : List (Nat × Nat)) (due cap : Nat) : CapSrc :=
  let keep := match s.next with | some (_, true) => s.next | _ => none
  if urgent then { s with next := some (v, true), defer := none, own := other.defer.isSome }
  else if s.val ≤ v then { s with next := some (v, false), defer := none }
  else match s.defer, if s.own then none else other.defer with
    | some x, _ => { s with next := keep, defer := some { x with val := v, again := true } }
    | none, some y => { s with next := keep, defer := some { y with val := v, again := true } }
    | none, none =>
      if wins ≠ [] ∧ min v (if s.own then other.val else other.latest) < cap
      then { s with next := keep, defer := some ⟨v, wins, due, false⟩ }
      else { s with next := some (v, false) }

/-- R191: a further value of the other source, one that does not stand on its own, has come during this one's deferral. -/
def CapSrc.heed (s : CapSrc) (joint : Bool) : CapSrc :=
  if joint then { s with defer := s.defer.map fun x => { x with again := true } } else s

/-- R154, R191, R192: a source offers a value; a value out of range is refused whole. -/
def setCap (rack : Bool) (v : Nat) (urgent : Bool) (d : Dev) : Dev :=
  if !d.capRange v then d.wrB BU_STATUS_CAP_RANGE true else
  let wins := d.openWins.map fun x => (x.2.job, x.2.group)
  let due := d.time.nbRun + 1000 * orDef (d.rd BU_COLL_CFG_GRACE) 1 - d.time.count % 1000
  if rack then
    (d.wr BU_CAP_SRC_RACK v).updBud fun b =>
      { b with rack := b.rack.take b.tray v urgent wins due d.cap, tray := b.tray.heed (!urgent && !b.rack.own) }
  else
    (d.wr BU_CAP_SRC_TRAY v).updBud fun b =>
      { b with tray := b.tray.take b.rack v urgent wins due d.cap, rack := b.rack.heed (!urgent && !b.tray.own) }

/-- A source whose accepted value comes in force. -/
def CapSrc.apply (s : CapSrc) : CapSrc := match s.next with | some (v, _) => { s with val := v, next := none } | none => s

/-- R155: CAP_EFFECTIVE, at a bolt boundary. -/
def capEffective (d : Dev) : Dev :=
  if d.stopped || d.time.count % 1000 ≠ 0 then d
  else d.updBud fun b => { b with tray := b.tray.apply, rack := b.rack.apply }

/-- R191: a further value has come during the deferral. -/
def CapSrc.again (s : CapSrc) : Bool := match s.defer with | some x => x.again | none => false

/-- R191: the deferral of a source at a bolt boundary (nbRun): it ends, where its windows have closed, its grace has run out or
`past` is set. -/
def CapSrc.settle (s : CapSrc) (now : Nat) (past : Bool) : CapSrc :=
  match s.defer with
  | none => s
  | some x =>
    if x.due ≤ now ∨ x.wins = [] ∨ past then { s with val := x.val, defer := none }
    else { s with defer := some { x with again := false } }

/-- R191: CAP_DEFER_END: deferrals whose windows have closed, whose grace has run out, or whose latest values give no
lower cap: together, but for a source that stands on its own (R192), which is compared with the value in force of the other.
`cap` is the cap in force before this boundary. -/
def capDeferEnd (cap : Nat) (d : Dev) : Dev :=
  if d.stopped || d.time.count % 1000 ≠ 0 then d
  else
    d.updBud fun b =>
      let apart := b.tray.own || b.rack.own
      let past := fun (s o : CapSrc) =>
        if apart then s.again && decide (cap ≤ min s.latest o.val)
        else (s.again || o.again) && decide (cap ≤ min s.latest o.latest)
      let tray := b.tray.settle d.time.nbRun (past b.tray b.rack)
      let rack := b.rack.settle d.time.nbRun (past b.rack b.tray)
      { b with tray := { tray with own := tray.own && rack.defer.isSome }, rack := { rack with own := rack.own && tray.defer.isSome } }

/-- R155, R191: the cap at a bolt boundary: values accepted in the bolt, then deferrals. -/
def capBolt (d : Dev) : Dev := capDeferEnd d.cap (capEffective d)

/-! Slack matching. -/

/-- R194: the ceiling of a window, if it applies one. -/
def Dev.winCeil (d : Dev) (w : Win) : Option Nat :=
  if w.matching then w.m.map fun m => max m (d.rd BU_COLL_CFG_SLACK_FLOOR) else none

/-- R194: the slack-matching ceiling of a field. -/
def Dev.fieldSlack (d : Dev) (f : Nat) : Option Nat :=
  let ws := (d.winList.map (·.2)).filter fun w => f ∈ w.began
  let jobs := (d.jobList.filter fun x => f ∈ x.2.fields).map (·.2.job)
  if ws ≠ [] && jobs.all (fun j => ws.any (·.job = j)) && ws.all (fun w => (d.winCeil w).isSome) then
    some (maxN (ws.filterMap d.winCeil))
  else none

/-- R32, R194: slack matching is on. -/
def Dev.matchOn (d : Dev) : Bool := d.rdB TB_STATUS_RACK_FEAT && d.rdB BU_COLL_CFG_MATCH_EN

/-- R32, R194: set the slack-matching ceilings of the fields. A window that closes at this boundary still counts: its entry goes,
and its ceiling lifts, at the next. -/
def slackCeilings (d : Dev) : Dev :=
  let fs := if d.matchOn then distinct (d.winList.flatMap (·.2.began)) else []
  let d := { d with fld := tmap FieldS.init (fun x => { x with slack := none }) d.fld }
  forL fs (fun f d' => d'.updFd f fun x => { x with slack := d.fieldSlack f }) d

/-- The absolute difference of two numbers. -/
def absDiff (a b : Nat) : Nat := (a - b) + (b - a)

/-- R193: SLACK_NOTICE_SEND for a window at a bolt boundary. -/
def slackWin (i : Nat) (d : Dev) : Dev :=
  match d.win i with
  | none => d
  | some w =>
    if !w.open_ then d else
    let fs := d.fSlow w.began
    let far := match fs, w.sent with
      | some a, some b => decide (orDef (d.rd BU_COLL_CFG_SLACK_STEP) 1 ≤ absDiff a b)
      | some _, none => true
      | none, _ => false
    let send := far && d.rdB TB_STATUS_RACK_FEAT
    let m := minOpts (fs :: w.heard.map fun x => some x.2)
    let low := match fs, m with
      | some a, some b => decide (b < a)
      | _, _ => false
    let d := d.setWin i (some { w with fSlow := fs, sent := if send then fs else w.sent, m, matching := w.matching || low })
    onlyIf send (forL (d.members w.group) fun j => sendPeer 5 j (leBytes 2 w.group ++ [fs.getD 0])) d

/-- R193, R194: the windows at a bolt boundary. -/
def slackBolt (d : Dev) : Dev := slackCeilings (forL (d.openWins.map (·.1)) slackWin d)

/-- R194: a SLACK_NOTICE of a member arrives. -/
def slackHear (src group fslow : Nat) (d : Dev) : Dev :=
  if !d.rdB TB_STATUS_RACK_FEAT then d else
  forL ((d.openWins.filter fun x => x.2.group = group)) (fun x d => d.setWin x.1 (some
    { x.2 with heard := (x.2.heard.filter (·.1 ≠ src)) ++ [(src, fslow)] })) d

/-! Barrier groups. -/

def Dev.barList (d : Dev) : List (Nat × BarGroup) := d.bud.bars.filterMap fun (i, b) => b.map (i, ·)

/-- R186: barrier groups with armed tiles on this wafer. -/
def Dev.armedGroups (d : Dev) : List Nat :=
  distinct (d.tile.filterMap fun x => x.2.arm.bind fun a => if a.light then none else some a.group)

/-- R197: domains with a tile armed under a group. -/
def Dev.groupDoms (d : Dev) (g : Nat) : Nat :=
  (distinct (d.tile.filterMap fun x => x.2.arm.bind fun a =>
    if !a.light && a.group = g then some (x.1 / 9216 * 4 + domOf (x.1 / 256 % 36)) else none)).length

/-- R188: the peers heard of in a group, by address; ages are bolts since. -/
def Dev.heardOf (d : Dev) (g : Nat) : List (Nat × Nat) := ((d.barList.find? fun x => x.2.group = g).map (·.2.heard)).getD []

/-- R188: the learnt count of a group. -/
def Dev.learnt (d : Dev) (g : Nat) : Nat :=
  let listed := (d.members g).filterMap fun i => (d.peer i).map (·.addr)
  min 16 (1 + (distinct ((d.heardOf g).map (·.1) ++ listed)).length)

/-- R188: a BARRIER_NOTICE of a peer is heard. -/
def barrierHear (src group : Nat) (d : Dev) : Dev :=
  let put := fun (l : List (Nat × Nat)) => (l.filter (·.1 ≠ src)) ++ [(src, 0)]
  match d.barList.find? fun x => x.2.group = group with
  | some (i, b) => d.updBud fun s => { s with bars := tput none i (some { b with heard := put b.heard }) s.bars }
  | none =>
    match freeKey 32 d.bud.bars with
    | some i => d.updBud fun s => { s with bars := tput none i (some ⟨group, [(src, 0)], 1⟩) s.bars }
    | none => d

/-- R188, R197: the entries at a bolt boundary: peers not heard for NOTICE_AGE bolts go, groups newly armed come. -/
def barsBolt (d : Dev) : Dev :=
  let age := orDef (d.rd BU_RACK_NOTICE_AGE) 1
  let armed := d.armedGroups
  let d := d.updBud fun s => { s with bars := tmap none (fun b => b.bind fun b =>
    let b := { b with heard := (b.heard.map fun x => (x.1, x.2 + 1)).filter fun x => x.2 ≤ age }
    if b.heard = [] ∧ b.group ∉ armed then none else some b) s.bars }
  forL armed (fun g d => if d.barList.any fun x => x.2.group = g then d else
    match freeKey 32 d.bud.bars with
    | some i => d.updBud fun s => { s with bars := tput none i (some ⟨g, [], 1⟩) s.bars }
    | none => d) d

/-- R32, R186: n. -/
def Dev.nShare (d : Dev) : Nat :=
  if d.rdB TB_STATUS_RACK_FEAT then max 1 (maxN (d.armedGroups.map d.learnt)) else 16

/-- R186: SHARE_UPDATE: share and n_dom at a bolt boundary, sent to the stewards. -/
def shareUpdate (d : Dev) : Dev :=
  let d := d.updBud fun s => { s with bars := tmap none (fun b => b.map fun b => { b with n := d.learnt b.group }) s.bars }
  let d := d.wr BU_SHARE_N d.nShare
  let d := d.wr BU_SHARE_SHARE (satN 0xFFFF d.shareMw)
  let doms := distinct (d.tile.filterMap fun x => if x.2.arm.isSome then some (x.1 / 9216 * 4 + domOf (x.1 / 256 % 36)) else none)
  let d := { d with dom := tmap DomS.init (fun x => { x with counted := false }) d.dom }
  let d := forL doms (fun k d => d.updDm (k / 4) (k % 4) fun x => { x with counted := true }) d
  (d.updBud fun b => { b with nDom := doms.length }).emit (.shareSent d.shareMw doms.length)

/-- R187: BARRIER_NOTICE_SEND. -/
def barrierSend (d : Dev) : Dev :=
  if d.rdB TB_STATUS_RACK_FEAT then
    forL d.armedGroups (fun g d => forL (d.members g) (fun i =>
      sendPeer 4 i (leBytes 2 g ++ leBytes 2 d.bud.nDom ++ leBytes 4 d.shareMw)) d) d
  else d

/-! The commands. -/

def execHintWrite (f : Fin 96) (p : Fin 36) (w : BitVec 64) (s : State) : Host.Outcome State Fault Refusal :=
  done (hintWrite f.val p.val w.toNat) s
def execHintDrop (f : Fin 96) (s : State) : Host.Outcome State Fault Refusal := done (hintDrop f.val) s
def execHeavyAhead (f : Fin 96) (s : State) : Host.Outcome State Fault Refusal := done (heavyAhead f.val) s
def execLightAhead (f : Fin 96) (s : State) : Host.Outcome State Fault Refusal := done (lightAhead f.val) s
def execBarrierAhead (f : Fin 96) (s : State) : Host.Outcome State Fault Refusal := done (barrierAhead f.val) s
def execCollectiveBegin (f : Fin 96) (s : State) : Host.Outcome State Fault Refusal := done (collectiveBegin f.val) s
def execCollectiveEnd (f : Fin 96) (s : State) : Host.Outcome State Fault Refusal := done (collectiveEnd f.val) s
def execFormatAhead (f : Fin 96) (s : State) : Host.Outcome State Fault Refusal := done (formatAhead f.val) s
def execWatch (f : Fin 96) (s : State) : Host.Outcome State Fault Refusal := done (watchHint f.val) s
def execHintEffect (f : Fin 96) (s : State) : Host.Outcome State Fault Refusal := done (hintEffect f.val) s
def execPreposExpire (f : Fin 96) (s : State) : Host.Outcome State Fault Refusal := done (preposExpire f.val) s
def execAdmit (bank : Fin 9) (s : State) : Host.Outcome State Fault Refusal := done (admitCmd bank.val) s
def execAdmitResult (s : State) : Host.Outcome State Fault Refusal := done admitResult s
def execRelease (bank : Fin 9) (job : BitVec 12) (s : State) : Host.Outcome State Fault Refusal := done (release bank.val job.toNat) s
def execCapEffective (s : State) : Host.Outcome State Fault Refusal := done capEffective s
def execCapDeferEnd (s : State) : Host.Outcome State Fault Refusal := done (fun d => capDeferEnd d.cap d) s

end Sys2Proof.Machine
end

