-- ==== Sys2Proof/Machine/Divide.lean ====
section
/-! DEFINITION. R148 to R153, R439: the division of the cap among fields and classes at a bolt boundary. -/

namespace Sys2Proof.Machine

/-- R439: D, the tokens that the room lacks with every OPTICS allotment at its fixed value. -/
def Dev.roomLack (d : Dev) : Nat :=
  let fix := sumN (allFields.map fun f => d.memaNow f + d.fixMemb f + d.fixOpt f)
  ((d.rd BU_FIELD_LIM_TILE_MIN : Int) - ((d.sp : Int) - fix)).toNat

/-- R439: OPTICS_ROOM_CUT. -/
def opticsRoomCut (d : Dev) : Dev :=
  let lack := d.roomLack
  let all := sumN (allFields.map d.fixOpt)
  let cuts : Tab (Option Nat) := if lack = 0 ∨ all = 0 then [] else allFields.foldl (fun t f =>
    tput none f (some (max (d.optFloor f) (d.fixOpt f - divUp (lack * d.fixOpt f) all))) t) []
  d.updBud fun b => { b with opticsRoom := cuts }

/-- R149: F_FIX with the values that apply from this boundary. -/
def Dev.newFix (d : Dev) : Nat := sumN (allFields.map fun f => d.memaNow f + d.fixMemb f + d.optNow f)

/-- R150: a class allotment falls now, or rises at the next pick. -/
def setAllot (f c a : Nat) (d : Dev) : Dev :=
  if a < d.allot f c then (d.wr (ST_BUD_CLS_ALLOT f c) a).updCl f c fun x => { x with rise := none }
  else d.updCl f c fun x => { x with rise := if d.allot f c < a then some a else none }

/-- R150: the same of the tile-rail allotment that BU_FIELD_f shows. -/
def setFieldAllot (f a : Nat) (d : Dev) : Dev :=
  if a < d.rd (BU_FIELD_ALLOT f) then (d.wr (BU_FIELD_ALLOT f) a).updFd f fun x => { x with allotRise := none }
  else d.updFd f fun x => { x with allotRise := if d.rd (BU_FIELD_ALLOT f) < a then some a else none }

/-- R351: the allotment against which MATRIX is held while a field is under stress. -/
def Dev.stressAllot (d : Dev) (f : Nat) : Nat :=
  if (d.stressOf f).retest then d.rd BT_CFG0_RETEST_ALLOT
  else min (d.rd BU_FIELD_LIM_FIELD_MAX) (((d.sp : Int) - d.newFix).toNat / max 1 d.enabled.length)

/-- R150, R170: OPTICS at its present value; a fall below the fixed value is a cut. -/
def setOptics (f : Nat) (d : Dev) : Dev :=
  (setAllot f 5 (d.optNow f) d).updFd f fun x => { x with optCut := x.optCut || decide (d.optNow f < d.fixOpt f) }

/-- R149: the allotments of one field, for a grant g and the sum of the weights. -/
def divideField (g ws f : Nat) (d : Dev) : Dev :=
  let gf := min (d.rd BU_FIELD_LIM_FIELD_MAX) (g * d.weight f / max 1 ws)
  let d := forL tileClasses (fun c d => setAllot f c (if c = 0 ∧ d.stressRuns f then d.stressAllot f else gf * d.share f c / 256) d) d
  let d := setOptics f (setAllot f 3 (d.fixMemb f) (setAllot f 2 (d.memaNow f) d))
  bobTrim f (setFieldAllot f gf (d.wrB (BU_FIELD_INSERVICE f) (d.inService f && !d.selStop)))

/-- R153: an optical engine of a field is outside its window. -/
def Dev.engineOut (d : Dev) (f : Nat) : Bool := (d.fd f).optics.any fun e => d.bit JZ_OPT_OUT_OUT e

/-- R153, R270: the MEMA or OPTICS change that falls due at a pick boundary. A lifted cut of OPTICS waits for the bolt. The
bobbin keeps within the capacity of what remains (R145). -/
def fixBoundary (f : Nat) (d : Dev) : Dev :=
  if (d.fd f).fixDue then
    let d := d.updFd f fun x => { x with fixDue := false }
    let d := (d.wr (ST_BUD_CLS_ALLOT f 2) (d.memaNow f)).updCl f 2 fun x => { x with rise := none }
    bobTrim f (if d.optNow f < d.allot f 5 then setOptics f d else d)
  else d

/-- R149: BUDGET_DIVIDE, after the cap and the loans of this boundary have been applied. -/
def budgetDivide (d : Dev) : Dev :=
  let d := forL allFields (fun f d => d.updFd f fun x => { x with optEng := d.engineOut f, wt := min 256 (d.rd (BU_FIELD_WT f)) }) d
  let d := opticsRoomCut d
  let g := (min (d.cmd capRef) ((d.sp : Int) - d.newFix)).toNat
  let ws := d.weights
  forL allFields (divideField g ws) (d.wr BU_GRANT_G g)

end Sys2Proof.Machine
end

