-- ==== Sys2Proof/Machine/Mem.lean ====
section
/-! DEFINITION. The manager SRAM (R15, R19): 512 KB of bytes from 0x1000_0000, kept by byte offset. A byte that nothing has
written reads 0 (a choice of the model; log entry 6). -/

namespace Sys2Proof.Machine

/-- Size of the SRAM in bytes. -/
def sramSize : Nat := 0x80000

/-- The byte at an offset. -/
def Dev.byte (d : Dev) (off : Nat) : Byte := tget 0 d.sram off

/-- Write a byte at an offset. -/
def putByte (off : Nat) (b : Byte) (d : Dev) : Dev := { d with sram := tput 0 off b d.sram }

/-- R14: the little-endian word at an offset. -/
def Dev.memWord (d : Dev) (off : Nat) : Word :=
  BitVec.ofNat 32 (ofBytes ((List.range 4).map fun i => (d.byte (off + i)).toNat))

/-- Write bytes from an offset on. -/
def putBytes (off : Nat) : List Nat → Dev → Dev
  | [], d => d
  | b :: bs, d => putBytes (off + 1) bs (putByte off (BitVec.ofNat 8 b) d)

/-- R14: write a little-endian word at an offset. -/
def putWord (off : Nat) (w : Word) (d : Dev) : Dev := putBytes off (leBytes 4 w.toNat) d

/-- The canonical form: offsets rising within the SRAM, no byte listed at the value an unlisted one reads as. -/
def Memory.wf (m : List Host.Cell) : Bool := Tab.wf (fun _ => (0 : Byte)) 0 m

end Sys2Proof.Machine
end

