-- ==== Sys2Proof/Machine/Peers.lean ====
section
/-! DEFINITION. Chapter 10, the peer port: what a received message does (R274, R281, R286), the peer table and groups
(R275 to R279), the inbound ring and staging (R288 to R290), requests and their resends (R284, R285, R287), budget loans
(R291 to R294), the rack cap hand-over (R295) and the time cross-check (R298). -/

namespace Sys2Proof.Machine

/-! The format of a message (R280 to R283). -/

def mType (m : List Nat) : Nat := bytesAt m 0 1
def mCells (m : List Nat) : Nat := bitsOf (bytesAt m 1 1) 2 4 + 1
def mClass (m : List Nat) : Nat := bitsOf (bytesAt m 1 1) 0 2
def mH (m : List Nat) : Bool := bitOf (bytesAt m 1 1) 6
def mSrc (m : List Nat) : Nat := bytesAt m 2 2
def mDst (m : List Nat) : Nat := bytesAt m 4 2
def mSeq (m : List Nat) : Nat := bytesAt m 6 2
def mStamp (m : List Nat) : Nat := bytesAt m 8 8
/-- R283: n bytes of the body at an offset. -/
def mBody (m : List Nat) (off n : Nat) : Nat := bytesAt m (16 + off) n

/-- R283: the bytes of the body from an offset to another are zero. -/
def bodyZero (m : List Nat) (lo hi : Nat) : Bool := ((m.drop (16 + lo)).take (hi - lo)).all (· = 0)

/-- R223: a LEDGER body with a listed KIND and no reserved byte set. -/
def ledgerBodyOk (m : List Nat) : Bool :=
  let kind := mBody m 8 1
  decide (1 ≤ kind) && decide (kind ≤ 4) && decide (mBody m 9 1 ≤ 3) && (kind = 4 || mBody m 9 1 = 0)
    && (kind = 2 || mBody m 10 1 = 0) && decide (mBody m 11 1 < 4) && bodyZero m 12 16 && bodyZero m 24 48

/-- R283: reserved bits and bytes of the body are zero. -/
def bodyOk (m : List Nat) : Bool :=
  let t := mType m
  let n := 64 * mCells m - 16
  if t = 1 ∨ t = 3 then bodyZero m 8 n
  else if t = 2 then bodyZero m 16 n
  else if t = 4 then bodyZero m 8 n
  else if t = 5 then bodyZero m 3 n
  else if t = 6 then decide (mBody m 2 1 < 2) && bodyZero m 4 8 && bodyZero m 112 n
  else if t = 8 then bodyZero m 4 8 && bodyZero m 112 n
  else if t = 9 then
    let len := mBody m 4 2
    decide (1 ≤ len) && decide (len ≤ 992) && mCells m = divUp (32 + len) 64 && bodyZero m 6 16 && bodyZero m (16 + len) n
  else if t = 0x10 then ledgerBodyOk m
  else if t = 0x20 then bodyZero m 1 n
  else if t = 0x21 then decide (mBody m 17 1 < 4) && bodyZero m 18 n
  else if t = 0x30 then decide (mBody m 4 1 < 16) && decide (mBody m 5 1 < 16) && bodyZero m 6 n
  else if t = 0x3E then bodyZero m 2 n
  else if t = 0x3F then bodyZero m 3 n
  else false

/-- R281, R282: TYPE, CLASS, CELLS and reserved bits of a message, as it may be received or sent. -/
def formOk (m : List Nat) : Bool :=
  match msgType (mType m) with
  | some (c, lo, hi) =>
    m.length = 64 * mCells m && mClass m = c && decide (lo ≤ mCells m) && decide (mCells m ≤ hi) && decide (bytesAt m 1 1 < 128)
  | none => false

/-- R281: the message is malformed or unexpected for this port. -/
def Dev.badMsg (d : Dev) (m : List Nat) : Bool :=
  !formOk m || mDst m ≠ d.selfAddr || mSrc m = 0xFFFF || mType m = 7 || mType m = 0x0A || !bodyOk m

/-- R260, R274, R281: a message arrives: without PP_SELF it is dropped; a malformed one is dropped and counted; a well-formed
one of the type named is handled. -/
def receive (t : Nat → Bool) (m : List Nat) (g : Dev → Dev) (d : Dev) : Dev :=
  if d.selStop then d
  else if !d.selfValid then d.inc PP_DROP_Y_TABLE
  else if d.badMsg m then d.inc PP_DROP_FORMAT
  else if t (mType m) then g d else d

/-- R362, R373: SHARED_POISON: of the host's routing tables, or of a cell from a peer that arrived at the peer port. -/
def sharedPoison (cell : Option Nat) (d : Dev) : Dev := d.raiseR { d.report .mem 4 central 0 with addr := cell.getD 0xFFFFFFFF }

/-- R299: a message of a peer landed in the ring or a table. -/
def countRcvd (src : Nat) (d : Dev) : Dev :=
  match d.peerIx src with
  | some i => d.updPeer i fun x => { x with rcvd := (x.rcvd + 1) % 2 ^ 32 }
  | none => d

/-! The peer table. -/

/-- R275: HEARTBEAT: it is applied at the next boundary. -/
def heartbeat (m : List Nat) (d : Dev) : Dev :=
  receive (· = 0x30) m (·.updPP fun p => { p with hbs := p.hbs ++
    [{ src := mSrc m, incarn := mBody m 0 4, grant := mBody m 4 1, kind := bitsOf (mBody m 5 1) 2 2 }] }) d

/-- R278: what a restart of a peer does to its proxies and loans. -/
def resetNow (i : Nat) (d : Dev) : Dev :=
  (proxiesReset i d).updPP fun p => { p with
    loans := tmap none (fun l => l.map fun l => if l.peer = i then { l with ending := true } else l) p.loans }

/-- R45, R278: the peer has restarted; the ledger and the loans of a global stop's cut follow at the resume pick. -/
def peerReset (i : Nat) (d : Dev) : Dev :=
  (if d.stopped then d.updPP fun p => { p with resets := p.resets ++ [i] } else resetNow i d).raise .peer 3 central i

/-- R275: a HEARTBEAT is applied. -/
def applyHeart (h : Heart) (d : Dev) : Dev :=
  let fresh := fun (x : Peer) => { x with
    st := PeerSt.present, kind := h.kind, grant := h.grant, incarn := h.incarn, lastHb := d.time.count, silent := 0, idle := 0
    hbNow := true, rcvd := (x.rcvd + 1) % 2 ^ 32 }
  match d.peerIx h.src with
  | none =>
    match d.freePeer with
    | some i => d.setPeer i (some (fresh { addr := h.src, st := .present, kind := 0, grant := 0, incarn := 0, lastHb := 0, silent := 0, idle := 0
                                           hbNow := true, sent := 0, rcvd := 0 }))
    | none => d.inc PP_DROP_Y_TABLE
  | some i =>
    match d.peer i with
    | none => d
    | some x =>
      let was := x.st
      let d' := d.setPeer i (some (fresh x))
      if was = .listed then d'
      else if x.incarn ≠ h.incarn then onlyIf (was = .absent) (destsBack i) (peerReset i d')
      else if was = .absent then destsBack i (d'.raise .peer 2 central i)
      else d'

/-- R275: the HEARTBEATs received since the last boundary. -/
def heartsBoundary (d : Dev) : Dev :=
  let l := d.pp.hbs
  let d := d.updPP fun p => { p with hbs := [], tab := tmap none (fun x => x.map fun x => { x with hbNow := false }) p.tab }
  forL l applyHeart d

/-- R284, R285: requests are given up: their reservations are released. -/
def giveUp (l : List TxReq) (d : Dev) : Dev :=
  (d.add PP_TX_STATUS_GIVEUP l.length).updPP fun p => { p with
    tx := p.tx.filter fun x => x ∉ l
    resv := p.resv.filter fun r => !l.any fun x => x.peer = r.peer && x.seq = r.seq }

/-- R277: PEER_ABSENT, when its bolt boundaries without a HEARTBEAT have passed. -/
def peerAbsent (i : Nat) (d : Dev) : Dev :=
  match d.peer i with
  | none => d
  | some x =>
    if x.st = .present ∧ orDef (d.rd PP_CFG0_MISS) 1 * orDef (d.rd PP_CFG0_HB_PERIOD) 1 + 1 ≤ x.silent then
      let d := d.setPeer i (some { x with st := .absent, grant := 0, idle := 0, absentAt := d.time.nbRun })
      let d := giveUp (d.pp.tx.filter fun t => t.peer = i && t.flying) d
      d.raise .peer 1 central i
    else d

/-- R275: PEER_EVICT: an entry without references for EVICT bolts is freed. -/
def peerEvict (i : Nat) (d : Dev) : Dev :=
  match d.peer i with
  | none => d
  | some x =>
    if x.st ≠ .present ∧ d.refs i = 0 ∧ d.rd PP_CFG0_EVICT ≤ x.idle then
      (d.setPeer i none).updPP fun p => { p with timeReqs := p.timeReqs.filter (·.1 ≠ i), tx := p.tx.filter (·.peer ≠ i)
                                                 resv := p.resv.filter (·.peer ≠ i) }
    else d

/-- R275, R277: the table at a bolt boundary outside a global stop. -/
def peersBolt (d : Dev) : Dev :=
  let step := fun (i : Nat) (x : Peer) => { x with
    silent := if x.hbNow then 0 else x.silent + 1
    idle := if x.st ≠ .present ∧ d.refs i = 0 then x.idle + 1 else 0 }
  forL (d.peers.map (·.1)) (fun i d' => peerEvict i (peerAbsent i (match d'.peer i with
    | some x => d'.setPeer i (some (step i x))
    | none => d'))) d

/-- R276: HEARTBEAT_SEND at a bolt boundary. -/
def heartbeatSend (d : Dev) : Dev :=
  if d.ready ∧ d.time.count / 1000 % orDef (d.rd PP_CFG0_HB_PERIOD) 1 = 0 then
    forL (d.peers.map (·.1)) (fun i => sendPeer 0x30 i (leBytes 4 d.pp.incarn ++
      [d.rd PP_CFG0_GRANT_OFFER, 1 + 2 * b01 (d.rdB TB_STATUS_RACK_FEAT)])) d
  else d

/-- R274, R318: PP_SELF is written once, from step 8 of a start on. -/
def ppSelf (a : Nat) (d : Dev) : Dev :=
  if d.selfValid ∨ d.start.step < 8 then conflict PP_STATUS_STATE_CONFLICT d
  else if a = 0xFFFF then d
  else (d.wr PP_SELF_ADDR a).wrB PP_STATUS_SELF_VALID true

/-- R300: PP_PSEL latches an entry as it stood at the last boundary. -/
def Dev.peerWords (d : Dev) (i : Nat) : List Word :=
  match tget none d.pp.shown i with
  | none => List.replicate 6 0
  | some x =>
    let fly := d.pp.shownFly.filter (· = i)
    let lend := d.pp.grpsEff.any fun g => g.1 = 0xFFFF && g.2 = i
    [x.addr + x.st.code * 2 ^ 16 + x.kind * 2 ^ 18 + x.grant * 2 ^ 20 + satN 15 fly.length * 2 ^ 24 + b01 lend * 2 ^ 28,
     x.incarn, x.lastHb % 2 ^ 32, satN 0xFFFF (tget 0 d.pp.shownRefs i), x.sent, x.rcvd].map (BitVec.ofNat 32)
def ppPsel (i : Nat) (d : Dev) : Dev := (d.wr PP_PSEL_INDEX i).updPP fun p => { p with latched := d.peerWords i }

/-! Groups (R279). -/

/-- The groups defined. -/
def Dev.groups (d : Dev) : List Nat := distinct (d.pp.grps.map (·.1))

def grpResult (r : Nat) (d : Dev) : Dev := d.wr PP_GRP_STATUS_RESULT r

/-- R279: ADD of the address in PP_GRP_ADDR. -/
def grpAdd (g : Nat) (d : Dev) : Dev :=
  let a := d.rd PP_GRP_ADDR_ADDR
  if !d.ready then conflict PP_STATUS_STATE_CONFLICT d
  else if (match d.peerIx a with | some i => d.pp.grps.contains (g, i) | none => false) then grpResult 0 d
  else if g ∉ d.groups ∧ 64 ≤ d.groups.length then grpResult 2 d
  else if 4096 ≤ d.pp.grps.length then grpResult 3 d
  else match d.peerIx a, d.freePeer with
    | some i, _ => grpResult 0 (d.updPP fun p => { p with grps := p.grps ++ [(g, i)] })
    | none, some i =>
      let d := d.setPeer i (some { addr := a, st := .listed, kind := 0, grant := 0, incarn := 0, lastHb := 0, silent := 0, idle := 0
                                   hbNow := false, sent := 0, rcvd := 0 })
      grpResult 0 (d.updPP fun p => { p with grps := p.grps ++ [(g, i)] })
    | none, none => grpResult 1 (d.inc PP_DROP_Y_TABLE)

/-- R279: REMOVE of the address in PP_GRP_ADDR. -/
def grpRemove (g : Nat) (d : Dev) : Dev :=
  match d.peerIx (d.rd PP_GRP_ADDR_ADDR) with
  | some i =>
    if d.ready ∧ (g, i) ∈ d.pp.grps then grpResult 0 (d.updPP fun p => { p with grps := p.grps.filter (· ≠ (g, i)) })
    else conflict PP_STATUS_STATE_CONFLICT d
  | none => conflict PP_STATUS_STATE_CONFLICT d

/-- R279: CLEAR of a group. -/
def grpClear (g : Nat) (d : Dev) : Dev :=
  if d.ready ∧ g ∈ d.groups then grpResult 0 (d.updPP fun p => { p with grps := p.grps.filter (·.1 ≠ g) })
  else conflict PP_STATUS_STATE_CONFLICT d

/-- R279: group changes take effect at a bolt boundary. -/
def groupsBolt (d : Dev) : Dev := d.updPP fun p => { p with grpsEff := p.grps }

/-! Notices (R286). -/

/-- R188, R286: a BARRIER_NOTICE; a group is known when it is defined or has armed tiles here. -/
def barrierNotice (m : List Nat) (d : Dev) : Dev :=
  receive (· = 4) m (fun d =>
    let g := mBody m 0 2
    if !d.rdB TB_STATUS_RACK_FEAT then d
    else if (d.pp.grpsEff.any (·.1 = g)) || d.armedGroups.contains g then countRcvd (mSrc m) (barrierHear (mSrc m) g d)
    else d.inc PP_DROP_Z_STATE) d

/-- R194, R286: a SLACK_NOTICE. -/
def slackNotice (m : List Nat) (d : Dev) : Dev :=
  receive (· = 5) m (fun d =>
    let g := mBody m 0 2
    if !d.rdB TB_STATUS_RACK_FEAT then d
    else if d.pp.grpsEff.any (·.1 = g) || d.openWins.any (·.2.group = g) then countRcvd (mSrc m) (slackHear (mSrc m) g (mBody m 2 1) d)
    else d.inc PP_DROP_Z_STATE) d

/-- R205: the output tag in a LEDGER body. -/
def mTag (m : List Nat) : OutTag :=
  let t := mBody m 0 8
  { index := t % 2 ^ 16, gen := t / 2 ^ 16 % 16, seq := t / 2 ^ 20 % 2 ^ 32, job := t / 2 ^ 52, src := mSrc m }

/-- R223 to R225: what one LEDGER body does. -/
def ledgerBody (src : Nat) (m : List Nat) (d : Dev) : Dev :=
  let kind := mBody m 8 1
  if kind ≠ 4 then ledgerNotice (mTag m) kind (mBody m 10 1) d
  else if mBody m 9 1 = 0 then ledgerQuery src (mTag m) d
  else destAck src (mTag m) (mBody m 9 1) d

/-- R208, R228, R286: a LEDGER message; a global stop holds it in the inbound queue, as does an event of a later class. -/
def ledgerMsg (ok : Nat → Nat → Bool) (m : List Nat) (d : Dev) : Dev :=
  receive (· = 0x10) m (fun d =>
    if !ok (mBody m 8 1) (mBody m 9 1) then d
    else if d.stopped ∨ 5 < d.led.cls then
      if d.pp.ledQ.length < 256 then countRcvd (mSrc m) (d.updPP fun p => { p with ledQ := p.ledQ ++ [(mSrc m, m)] })
      else d.inc PP_DROP_Y_LEDGER
    else countRcvd (mSrc m) (ledgerBody (mSrc m) m (d.updLed fun l => { l with cls := 5 }))) d

/-- R208, R228: the LEDGER messages that wait in the inbound queue. -/
def ledgerQueued (d : Dev) : Dev :=
  let l := d.pp.ledQ
  if l = [] then d
  else forL l (fun x => ledgerBody x.1 x.2) ((d.updPP fun p => { p with ledQ := [] }).updLed fun l => { l with cls := 5 })

/-! The ring (R288 to R290). -/

/-- Byte offset of the ring in the SRAM. -/
def Dev.ringBase (d : Dev) : Nat := if d.rd PP_RING_BASE_BASE = 0x10000000 then 0 else 0x40000

def Dev.ringHead (d : Dev) : Nat := d.rd PP_RING_HEAD_HEAD
def Dev.ringTail (d : Dev) : Nat := d.rd PP_RING_TAIL_TAIL
/-- R288: free cells of the ring. -/
def Dev.ringFree (d : Dev) : Nat := (d.ringHead + 4096 - d.ringTail - 1) % 4096

/-- Put a message at a cell; TAIL stands just past it, and the ring interrupt is raised (R407). -/
def ringPut (pos : Nat) (m : List Nat) (skip : Bool) (d : Dev) : Dev :=
  let n := divUp m.length 64
  let d := putBytes (d.ringBase + 64 * pos) m d
  ((d.wr PP_RING_TAIL_TAIL ((pos + n) % 4096)).updPP fun p => { p with ring := p.ring ++ [⟨pos, n, skip⟩] }).emit (.interrupt false)

/-- R288: a SKIP cell: TYPE 0xFF, the rest of the header zero. -/
def skipCell : List Nat := 0xFF :: List.replicate 63 0

/-- R288: place a request; none where it must wait in staging. -/
def ringPlace (m : List Nat) (d : Dev) : Option Dev :=
  let n := divUp m.length 64
  let end_ := 4096 - d.ringTail
  let res := d.pp.resv.length
  let free := d.ringFree
  if n ≤ end_ ∧ n + res ≤ free then some (ringPut d.ringTail m false d)
  else if end_ < n ∧ n + res + end_ ≤ free then
    some (ringPut 0 m false ((ringPut d.ringTail skipCell true d).wr PP_RING_TAIL_TAIL 0))
  else none

/-- R287: the port answers a request with DLV, or NACK and a reason. -/
def answerDlv (m : List Nat) (d : Dev) : Dev := sendCell 0x3E (mSrc m) 0 (mSeq m) 0 d
def answerNack (m : List Nat) (reason : Nat) (d : Dev) : Dev := sendCell 0x3F (mSrc m) 0 (mSeq m) reason d

/-- Cells in staging. -/
def Dev.stagedCells (d : Dev) : Nat := sumN (d.pp.staged.map fun x => x.bytes.length / 64)

/-- R284, R288, R289: a request arrives. -/
def ringArrive (m : List Nat) (d : Dev) : Dev :=
  receive isRequest m (fun d =>
    if (d.peerIx (mSrc m)).isNone ∨ d.rd PP_CFG0_GRANT_OFFER ≤ (d.pp.staged.filter (·.src = mSrc m)).length then
      answerNack m 3 (d.inc PP_DROP_X_GRANT)
    else match ringPlace m d with
      | some d => answerDlv m (countRcvd (mSrc m) d)
      | none =>
        if d.stagedCells + mCells m ≤ 64 then d.updPP fun p => { p with staged := p.staged ++
          [{ src := mSrc m, seq := mSeq m, bytes := m, at_ := d.time.nbRun }] }
        else answerNack m 2 (d.inc PP_DROP_X_FULL)) d

/-- R289: the oldest staged message is placed once there is room. -/
def stagingPlace (d : Dev) : Dev :=
  match d.pp.staged with
  | [] => d
  | x :: l =>
    match ringPlace x.bytes d with
    | some d => answerDlv x.bytes (countRcvd x.src (d.updPP fun p => { p with staged := l }))
    | none => d

/-- R289: messages staged longer than STAGE_LIMIT are discarded and NACKed. -/
def stageExpire (d : Dev) : Dev :=
  let n := orDef (d.rd PP_CFG1_STAGE_LIMIT) 1
  let old := d.pp.staged.filter fun x => d.expired x.at_ n
  let d := d.updPP fun p => { p with staged := p.staged.filter fun x => !d.expired x.at_ n }
  forL old (fun x d => answerNack x.bytes 1 (d.inc PP_DROP_STAGED)) d

/-- R290: how many messages of the ring end at a write of HEAD; none for an index that is no message boundary. -/
def ringBoundary (tail v : Nat) : List RingMsg → Option Nat
  | [] => if v = tail then some 0 else none
  | x :: l => if x.pos = v then some 0 else (ringBoundary tail v l).map (· + 1)

/-- R290: a write of PP_RING_HEAD. -/
def ringHeadWrite (v : Nat) (d : Dev) : Dev :=
  match ringBoundary d.ringTail v d.pp.ring with
  | some k => (d.wr PP_RING_HEAD_HEAD v).updPP fun p => { p with ring := p.ring.drop k }
  | none => conflict PP_STATUS_STATE_CONFLICT d

/-! Sending (R284, R285, R287). -/

/-- R284: requests in flight to a peer. -/
def Dev.flying (d : Dev) (i : Nat) : Nat := (d.pp.tx.filter fun x => x.peer = i && x.flying).length

/-- Cells of the outbound store in use; it has 128. -/
def Dev.txCells (d : Dev) : Nat := sumN (d.pp.tx.map fun x => x.bytes.length / 64)

/-- R291: peer i is in the lending set, and loans may pass. -/
def Dev.mayLoan (d : Dev) (i : Nat) : Bool := d.rdB TB_STATUS_RACK_FEAT && d.pp.grpsEff.contains (0xFFFF, i)

/-- The message in PP_TX_BUF. -/
def Dev.txBuf (d : Dev) : List Nat :=
  let b := (List.range 256).flatMap fun k => leBytes 4 (d.reg (PP_TX_BUF_WORD k).addr).toNat
  b.take (64 * (bitsOf (bytesAt b 1 1) 2 4 + 1))

/-- R280, R300: the port fills SRC, DST, SEQ, STAMP and H. -/
def Dev.filled (d : Dev) (m : List Nat) (dst sub : Nat) : List Nat :=
  msgHeader (mType m) (mClass m) (mCells m) d.hNow d.selfAddr dst (d.nextSeq dst) (d.stamp sub) ++ m.drop 16

def txResult (r : Nat) (d : Dev) : Dev := d.wr PP_TX_STATUS_RESULT r

/-- R291, R292: a lent entry, debited at the next bolt boundary, where the LOAN_GRANT is sent. -/
def lendOut (i : Nat) (m : List Nat) (d : Dev) : Dev :=
  let amount := mBody m 0 4
  let owed := sumN ((d.loanList.filter fun x => 32 ≤ x.1 ∧ x.2.inForce = false).map (·.2.amount))
  let slot := (firstGap 32 ((d.loanList.filter fun x => 32 ≤ x.1).map (·.1)))
  if d.mayLoan i ∧ slot < 64 ∧ (d.rd BU_FIELD_LIM_TILE_MIN : Int) ≤ d.room - owed - amount then
    let l : Loan := { peer := i, amount, id := mBody m 4 4, expiry := 0, inForce := false, at_ := 0, ending := false, returned := 0 }
    txResult 0 (d.updPP fun p => { p with loans := tput none slot (some l) p.loans })
  else conflict PP_STATUS_STATE_CONFLICT d

/-- R284, R285, R300: PP_TX_CMD SEND. -/
def peerSend (i sub : Nat) (d : Dev) : Dev :=
  let m := d.txBuf
  let t := mType m
  if !formOk m || !bodyOk m && t ≠ 7 && t ≠ 0x0A || t = 0x3E || t = 0x3F then txResult 5 d
  else match d.peer i with
    | none => txResult 3 d
    | some x =>
      if !d.portUp then txResult 3 d
      else if t = 2 ∧ mBody m 0 4 ≠ 0 then lendOut i m d
      else if !isRequest t then
        let bytes := d.filled m x.addr sub
        txResult 0 (post (.peerMsg t x.addr bytes) (countSent x.addr d))
      else if x.st ≠ .present then txResult 3 d
      else if t = 1 ∧ !d.mayLoan i then conflict PP_STATUS_STATE_CONFLICT d
      else if x.grant ≤ d.flying i then txResult 1 d
      else if d.rd PP_RING_RES_RES_MAX ≤ d.pp.resv.length ∨ d.ringFree ≤ d.pp.resv.length then txResult 2 d
      else if 128 < d.txCells + mCells m then txResult 4 d
      else
        let bytes := d.filled m x.addr sub
        let seq := d.nextSeq x.addr
        let d := post (.peerMsg t x.addr bytes) (countSent x.addr d)
        txResult 0 (d.updPP fun p => { p with
          tx := p.tx ++ [{ peer := i, typ := t, seq, bytes, flying := true, nackAt := 0, resends := 0 }]
          resv := p.resv ++ [{ peer := i, typ := t, seq, id := mBody m 4 4, amount := mBody m 0 4, at_ := d.time.nbRun }] })

/-- R300: PP_TX_CMD CANCEL: the oldest request to the peer that awaits its resend is given up. -/
def peerSendCancel (i : Nat) (d : Dev) : Dev :=
  match d.pp.tx.find? fun x => x.peer = i && !x.flying with
  | some x => giveUp [x] d
  | none => conflict PP_STATUS_STATE_CONFLICT d

/-- R284, R287: a DLV returns the slot of a request. -/
def dlv (m : List Nat) (d : Dev) : Dev :=
  receive (· = 0x3E) m (fun d => match d.peerIx (mSrc m) with
    | some i => d.updPP fun p => { p with tx := p.tx.filter fun x => !(x.peer = i && x.seq = mBody m 0 2 && x.flying) }
    | none => d) d

/-- R287: a NACK returns the slot; the request waits for its resend. -/
def nack (m : List Nat) (d : Dev) : Dev :=
  receive (· = 0x3F) m (fun d => match d.peerIx (mSrc m) with
    | some i =>
      let back := fun (x : TxReq) =>
        if x.peer = i ∧ x.seq = mBody m 0 2 ∧ x.flying then { x with flying := false, nackAt := d.time.nbRun } else x
      d.updPP fun p => { p with tx := p.tx.map back }
    | none => d) d

/-- R287: PEER_RESEND: RESEND_DELAY picks after a NACK the request is sent again, or given up after RESEND_MAX resends. -/
def peerResend (i seq : Nat) (d : Dev) : Dev :=
  match d.pp.tx.find? fun x => x.peer = i && x.seq = seq && !x.flying, d.peer i with
  | some x, some y =>
    if !d.expired x.nackAt (orDef (d.rd PP_CFG1_RESEND_DELAY) 1) then d
    else if d.rd PP_CFG1_RESEND_MAX ≤ x.resends then (giveUp [x] d).raise .peer 4 central i
    else if d.portUp ∧ d.flying i < y.grant then
      post (.peerMsg x.typ y.addr x.bytes)
        (d.updPP fun p => { p with tx := p.tx.map fun z => if z = x then { x with flying := true, resends := x.resends + 1 } else z })
    else d
  | _, _ => d

/-- R285: a reply reservation lasts REPLY_WAIT bolts from the first send. -/
def resvExpire (i seq : Nat) (d : Dev) : Dev :=
  d.updPP fun p => { p with resv := p.resv.filter fun r =>
    !(r.peer = i && r.seq = seq && d.expired r.at_ (1000 * orDef (d.rd PP_CFG1_REPLY_WAIT) 1)) }

/-! Loans (R291 to R294). -/

def Dev.loan (d : Dev) (i : Nat) : Option Loan := tget none d.pp.loans i
def Dev.setLoan (i : Nat) (l : Option Loan) (d : Dev) : Dev := d.updPP fun p => { p with loans := tput none i l p.loans }

/-- R293: LOAN_TIMEOUT; values below 3 act as 3. -/
def Dev.loanTimeout (d : Dev) : Nat := max 3 (d.rd PP_CFG2_LOAN_TIMEOUT)

/-- The lowest borrowed entry of the loan table that is free; 32 where there is none. -/
def Dev.freeLoan (d : Dev) : Nat := firstGap 0 ((d.loanList.filter fun x => x.1 < 32).map (·.1))

/-- R292: a grant of peer i answers an outstanding request in time. -/
def Dev.grantOk (d : Dev) (i : Nat) (m : List Nat) : Bool :=
  (d.pp.resv.any fun r => r.typ = 1 && r.peer = i && r.id = mBody m 4 4) && decide (d.time.count ≤ mStamp m / 4096 + 1000)

/-- R285, R288: a grant lands at the tail of the ring, in the cell reserved for it. -/
def grantLand (i : Nat) (m : List Nat) (d : Dev) : Dev :=
  let d := d.updPP fun p => { p with resv := p.resv.filter fun r => !(r.typ = 1 && r.peer = i && r.id = mBody m 4 4) }
  countRcvd (mSrc m) (ringPut d.ringTail m false d)

/-- R292: a grant enters the loan table; one of no tokens refuses and enters nothing. -/
def grantInstall (i : Nat) (m : List Nat) (d : Dev) : Dev :=
  let amount := mBody m 0 4
  if amount = 0 then d
  else if 32 ≤ d.freeLoan then d.inc PP_DROP_Z_LATE
  else d.setLoan d.freeLoan (some { peer := i, amount, id := mBody m 4 4, expiry := mBody m 8 8, inForce := false, at_ := 0, ending := false, returned := 0 })

/-- R47, R292, R294: a grant that names an outstanding request, in time and with room in the table, is installed; in a global stop
it lands in the ring, and is installed at the resume pick. -/
def takeGrant (m : List Nat) (d : Dev) : Dev :=
  match d.peerIx (mSrc m) with
  | none => d.inc PP_DROP_Z_LATE
  | some i =>
    if !d.grantOk i m || (!d.stopped && mBody m 0 4 ≠ 0 && decide (32 ≤ d.freeLoan)) then d.inc PP_DROP_Z_LATE
    else if d.stopped then grantLand i m (d.updPP fun p => { p with loanQ := p.loanQ ++ [m] })
    else grantLand i m (grantInstall i m d)

/-- R293: a LOAN_RETURN for a lent entry is credited at the next bolt boundary. -/
def takeReturn (m : List Nat) (d : Dev) : Dev :=
  match d.loanList.find? fun x => decide (32 ≤ x.1) && x.2.id = mBody m 4 4 && some x.2.peer = d.peerIx (mSrc m) && x.2.inForce with
  | some (k, l) => countRcvd (mSrc m) (d.setLoan k (some { l with returned := l.returned + mBody m 0 4 }))
  | none => d.inc PP_DROP_Z_STATE

/-- R294: a LOAN_GRANT or LOAN_RETURN; one that arrives in a global stop is applied at the resume pick. -/
def loanMsg (t : Nat) (m : List Nat) (d : Dev) : Dev :=
  receive (· = t) m (fun d =>
    if t = 2 then takeGrant m d
    else if d.stopped then d.updPP fun p => { p with loanQ := p.loanQ ++ [m] }
    else takeReturn m d) d

/-- R278, R294: the loan messages, and the restarts of peers, that a global stop held. -/
def loansResume (d : Dev) : Dev :=
  let ms := d.pp.loanQ
  let rs := d.pp.resets
  let take := fun (m : List Nat) (d : Dev) => if mType m = 2 then
      (match d.peerIx (mSrc m) with | some i => grantInstall i m d | none => d) else takeReturn m d
  forL rs resetNow (forL ms take (d.updPP fun p => { p with loanQ := [], resets := [] }))

/-- A change of the loans in SP. -/
def addLoanIn (n : Int) (d : Dev) : Dev := d.updBud fun b => { b with loanIn := ((b.loanIn : Int) + n).toNat }
def addLoanOut (n : Int) (d : Dev) : Dev := d.updBud fun b => { b with loanOut := ((b.loanOut : Int) + n).toNat }

/-- R292, R293: a LOAN_RETURN is sent. -/
def sendReturn (peer amount id : Nat) (d : Dev) : Dev := sendPeer 3 peer (leBytes 4 amount ++ leBytes 4 id) d

/-- R293: the count has reached EXPIRY − 1,000. -/
def Dev.loanExpired (d : Dev) (l : Loan) : Bool := decide (l.expiry ≤ d.time.count + 1000)

/-- R293: a borrowed loan ends at this bolt boundary. -/
def Dev.loanEnds (d : Dev) (l : Loan) : Bool :=
  (l.inForce && d.passed l.at_ (1000 * (d.loanTimeout - 2))) || d.loanExpired l || !d.rdB TB_STATUS_RACK_FEAT || l.ending
    || (match d.peer l.peer with | some x => x.st = .absent | none => true)

/-- R293: LOAN_END of a borrowed entry, at a bolt boundary. -/
def loanEnd (i : Nat) (d : Dev) : Dev :=
  match d.loan i with
  | none => d
  | some l =>
    if d.stopped || d.time.count % 1000 ≠ 0 || decide (32 ≤ i) || !d.loanEnds l then d
    else
      let d' := onlyIf l.inForce (addLoanIn (-(l.amount : Int))) (d.setLoan i none)
      onlyIf (!d.loanExpired l) (sendReturn l.peer l.amount l.id) d'

/-- R292, R293: credit of a lent entry, in part where only a part came back. -/
def loanCredit (i : Nat) (d : Dev) : Dev :=
  match d.loan i with
  | none => d
  | some l =>
    if i < 32 ∨ !l.inForce then d
    else
      let n := if l.ending ∨ d.passed l.at_ (1000 * d.loanTimeout) then l.amount else min l.amount l.returned
      if n = 0 then d
      else addLoanOut (-(n : Int)) (d.setLoan i (if n = l.amount then none else some { l with amount := l.amount - n, returned := 0 }))

/-- R293: LOAN_CREDIT_TIMEOUT of a lent entry, at a bolt boundary. -/
def loanCreditTimeout (i : Nat) (d : Dev) : Dev :=
  match d.loan i with
  | none => d
  | some l => if !d.stopped && d.time.count % 1000 = 0 && d.passed l.at_ (1000 * d.loanTimeout) then loanCredit i d else d

/-- R32, R292: a lent entry is debited and its LOAN_GRANT sent; without rack features it lapses. -/
def loanDebit (i : Nat) (d : Dev) : Dev :=
  match d.loan i with
  | none => d
  | some l =>
    if i < 32 ∨ l.inForce then d
    else if !d.rdB TB_STATUS_RACK_FEAT then d.setLoan i none
    else
      let expiry := d.time.count + d.loanTimeout * 1000
      let d := addLoanOut l.amount (d.setLoan i (some { l with inForce := true, at_ := d.time.nbRun, expiry }))
      sendPeer 2 l.peer (leBytes 4 l.amount ++ leBytes 4 l.id ++ leBytes 8 expiry) d

/-- R147, R292: a borrowed loan is installed, as far as SP has room; the excess is sent back. -/
def loanInstall (i : Nat) (d : Dev) : Dev :=
  match d.loan i with
  | none => d
  | some l =>
    if 32 ≤ i ∨ l.inForce then d
    else
      let room := d.rd BU_CAP_LIMITS_CAP_MAX * 400 + d.bud.loanOut - d.cap * 400 - d.bud.loanIn
      let n := min l.amount room
      let d := addLoanIn n (d.setLoan i (if n = 0 then none else some { l with amount := n, inForce := true, at_ := d.time.nbRun }))
      onlyIf (decide (n < l.amount)) (sendReturn l.peer (l.amount - n) l.id) d

/-- R294: LOAN_APPLY: the loan events of a bolt boundary, in their order. -/
def loansBolt (d : Dev) : Dev :=
  let ix := d.loanList.map (·.1)
  forL ix loanInstall (forL ix loanDebit (forL ix loanCredit (forL ix loanEnd d)))

/-- R300: PP_LOAN_CMD RETURN. -/
def loanReturnCmd (i : Nat) (d : Dev) : Dev :=
  match d.loan i with
  | some l => if i < 32 then d.setLoan i (some { l with ending := true }) else conflict PP_STATUS_STATE_CONFLICT d
  | none => conflict PP_STATUS_STATE_CONFLICT d

/-- R295: STAMP lies within CAP_FRESH bolts of the local count. -/
def Dev.freshStamp (d : Dev) (stamp : Nat) : Bool :=
  absDiff (stamp / 4096) (d.time.count % 2 ^ 52) ≤ 1000 * orDef (d.rd PP_CFG2_CAP_FRESH) 1

/-- R295: COUNTER exceeds the last accepted under the key. -/
def Dev.newCounter (d : Dev) (key counter : Nat) : Bool :=
  match tget none d.pp.counters key with | some c => decide (c < counter) | none => true

/-- R295: PP_RACK_CAP accepts the VALUE and URGENT of the CAP_SET that the signature engine has passed, new and fresh. -/
def ppRackCap (v : Nat) (urgent : Bool) (d : Dev) : Dev :=
  match d.pp.pass with
  | some x =>
    if x.purpose = 1 ∧ x.value = v ∧ x.urgent = urgent ∧ d.newCounter x.key x.counter = true ∧ d.freshStamp x.stamp = true then
      setCap true v urgent ((d.updPP fun p => { p with pass := none, counters := tput none x.key (some x.counter) p.counters }).wrB NV_SIG_STATUS_PASS false)
    else conflict PP_STATUS_STATE_CONFLICT d
  | none => conflict PP_STATUS_STATE_CONFLICT d

/-! The time cross-check (R298). -/

/-- R298: the PRESENT wafer managers in the order of the round-robin. -/
def Dev.timePeers (d : Dev) : List Nat :=
  let l := (d.peers.filter fun x => x.2.st = .present && x.2.kind = 0).map (·.1)
  ((l.filter fun i => d.pp.rr ≤ i) ++ (l.filter fun i => i < d.pp.rr)).take 16

/-- R298: TIME_REQ_SEND at a bolt boundary. -/
def timeReqSend (d : Dev) : Dev :=
  let n := d.rd PP_CFG2_TIME_PERIOD
  if n ≠ 0 ∧ d.time.count / 1000 % n = 0 ∧ d.portUp then
    let l := d.timePeers
    let d := forL l (fun i => sendPeer 0x20 i [d.mode]) d
    d.updPP fun p => { p with
      timeReqs := (p.timeReqs.filter fun x => x.1 ∉ l) ++ l.map fun i => (i, d.stamp 0, d.hNow)
      rr := ((l.getLast?).map (· + 1)).getD p.rr }
  else d

/-- R298: a TIME_REQ is answered at once; T2 and T3 are sub-picks of the present pick. -/
def timeReq (m : List Nat) (t2 t3 : Nat) (d : Dev) : Dev :=
  receive (· = 0x20) m (fun d =>
    sendMsg 0x21 (mSrc m) t3 (leBytes 8 (mStamp m) ++ leBytes 8 (d.stamp t2) ++ [d.mode, b01 (mH m) + 2 * b01 d.hNow]) d) d

/-- R298: a TIME_REPLY, received at sub-pick t4. -/
def timeReply (m : List Nat) (t4 : Nat) (d : Dev) : Dev :=
  receive (· = 0x21) m (fun d =>
    match d.pp.timeReqs.find? fun x => some x.1 = d.peerIx (mSrc m) && x.2.1 = mBody m 0 8 with
    | none => d.inc PP_DROP_FORMAT
    | some x =>
      let d := d.updPP fun p => { p with timeReqs := p.timeReqs.filter (· ≠ x) }
      let T1 : Int := x.2.1
      let T2 : Int := mBody m 8 8
      let T3 : Int := mStamp m
      let T4 : Int := d.stamp t4
      let rtt := (T4 - T1) - (T3 - T2)
      let twice := (T2 - T1) - (T4 - T3)
      if rtt > d.rd PP_CFG2_RTT_MAX * 4096 ∨ x.2.2 ∨ bitsOf (mBody m 17 1) 0 2 ≠ 0 ∨ mH m ∨ d.hNow then d
      else
        let d := d.wrS PP_TIME_LAST_OFS (clampI (-32768) 32767 (divHalfAway twice 2))
        if d.rd PP_CFG2_TIME_TOL * 8192 < twice.natAbs then (d.inc PP_TIME_MISMATCH).raise .clock 12 central x.1 else d) d

/-! At every boundary, and at a global stop. -/

/-- R300: what PP_PSEL latches is as at the boundary. -/
def peersShown (d : Dev) : Dev :=
  d.updPP fun p => { p with
    shown := p.tab, shownFly := (p.tx.filter (·.flying)).map (·.peer), shownRefs := d.peers.foldl (fun t x => tput 0 x.1 (d.refs x.1) t) [] }

/-- R299: PEER_SNAPSHOT. -/
def peerSnapshot (d : Dev) : Dev :=
  let snap : Tab Nat := d.peers.foldl (fun t x => tput 0 (2 * x.1 + 1) x.2.rcvd (tput 0 (2 * x.1) x.2.sent t)) []
  d.updPP fun p => { p with snap, snapAt := d.time.count }

/-! The commands. A message is the bytes of its cells. -/

def nats (m : List Byte) : List Nat := m.map (·.toNat)

/-- R373: a message whose cells arrived poisoned is reported, and taken no further (log entry 131); the port of a selvedge stop
is unpowered (R260). -/
def arrive (m : Cells) (g : List Nat → Dev → Dev) (d : Dev) : Dev :=
  if !m.poison then g (nats m.bytes) d
  else if d.selStop then d else sharedPoison (some (mSrc (nats m.bytes))) d

def execBarrierNotice (m : Cells) (s : State) : Host.Outcome State Fault Refusal := done (arrive m barrierNotice) s
def execSlackNotice (m : Cells) (s : State) : Host.Outcome State Fault Refusal := done (arrive m slackNotice) s
def execLedgerNotice (m : Cells) (s : State) : Host.Outcome State Fault Refusal :=
  done (arrive m (ledgerMsg (fun k _ => k ≠ 4))) s
def execDestAck (m : Cells) (s : State) : Host.Outcome State Fault Refusal :=
  done (arrive m (ledgerMsg (fun k a => k = 4 && a ≠ 0))) s
def execLedgerQuery (m : Cells) (s : State) : Host.Outcome State Fault Refusal :=
  done (arrive m (ledgerMsg (fun k a => k = 4 && a = 0))) s
def execPpSelf (a : BitVec 16) (s : State) : Host.Outcome State Fault Refusal := done (ppSelf a.toNat) s
def execHeartbeat (m : Cells) (s : State) : Host.Outcome State Fault Refusal := done (arrive m heartbeat) s
def execPeerAbsent (i : BitVec 10) (s : State) : Host.Outcome State Fault Refusal := done (peerAbsent i.toNat) s
def execPeerEvict (i : BitVec 10) (s : State) : Host.Outcome State Fault Refusal := done (peerEvict i.toNat) s
def execGrpAdd (g : BitVec 16) (s : State) : Host.Outcome State Fault Refusal := done (grpAdd g.toNat) s
def execGrpRemove (g : BitVec 16) (s : State) : Host.Outcome State Fault Refusal := done (grpRemove g.toNat) s
def execGrpClear (g : BitVec 16) (s : State) : Host.Outcome State Fault Refusal := done (grpClear g.toNat) s
def execRingPlace (m : Cells) (s : State) : Host.Outcome State Fault Refusal := done (arrive m ringArrive) s
def execStagingPlace (s : State) : Host.Outcome State Fault Refusal := done stagingPlace s
def execStageLimitExpire (s : State) : Host.Outcome State Fault Refusal := done stageExpire s
def execRingHeadWrite (v : BitVec 12) (s : State) : Host.Outcome State Fault Refusal := done (ringHeadWrite v.toNat) s
def execPeerSend (i : BitVec 10) (sub : BitVec 12) (s : State) : Host.Outcome State Fault Refusal := done (peerSend i.toNat sub.toNat) s
def execPeerSendCancel (i : BitVec 10) (s : State) : Host.Outcome State Fault Refusal := done (peerSendCancel i.toNat) s
def execDlv (m : Cells) (s : State) : Host.Outcome State Fault Refusal := done (arrive m dlv) s
def execNack (m : Cells) (s : State) : Host.Outcome State Fault Refusal := done (arrive m nack) s
def execPeerResend (i : BitVec 10) (seq : BitVec 16) (s : State) : Host.Outcome State Fault Refusal := done (peerResend i.toNat seq.toNat) s
def execReplyReservationExpire (i : BitVec 10) (seq : BitVec 16) (s : State) : Host.Outcome State Fault Refusal :=
  done (resvExpire i.toNat seq.toNat) s
def execLoanGrant (m : Cells) (s : State) : Host.Outcome State Fault Refusal := done (arrive m (loanMsg 2)) s
def execLoanReturn (m : Cells) (s : State) : Host.Outcome State Fault Refusal := done (arrive m (loanMsg 3)) s
def execLoanEnd (i : Fin 32) (s : State) : Host.Outcome State Fault Refusal := done (loanEnd i.val) s
def execLoanCreditTimeout (i : Fin 32) (s : State) : Host.Outcome State Fault Refusal := done (loanCreditTimeout (32 + i.val)) s
def execLoanReturnCmd (i : Fin 32) (s : State) : Host.Outcome State Fault Refusal := done (loanReturnCmd i.val) s
def execPpRackCap (v : BitVec 16) (urgent : Bool) (s : State) : Host.Outcome State Fault Refusal := done (ppRackCap v.toNat urgent) s
def execTimeReq (m : Cells) (t2 t3 : BitVec 12) (s : State) : Host.Outcome State Fault Refusal :=
  done (arrive m fun m => timeReq m t2.toNat t3.toNat) s
def execTimeReply (m : Cells) (t4 : BitVec 12) (s : State) : Host.Outcome State Fault Refusal :=
  done (arrive m fun m => timeReply m t4.toNat) s
def execPpPsel (i : BitVec 10) (s : State) : Host.Outcome State Fault Refusal := done (ppPsel i.toNat) s

end Sys2Proof.Machine
end

