-- ==== Sys2Proof/Machine/Thermal.lean ====
section
/-! DEFINITION. Chapter 09: the trip rule and the selvedge's stop (R257 to R263, R265, R267), tier A memory temperature
(R269, R270) and the optical engines' window (R271). The restart is in Start. -/

namespace Sys2Proof.Machine

/-- R257, R346: the trip rule treats a sensor as suspect: it is, or one of its comparators is being swept. -/
def Dev.tripSus (d : Dev) (f p t : Nat) : Bool :=
  d.suspect f p t || d.test.slices.any fun s =>
    s.run && s.field = f && s.patch = p && decide (0x13 + 3 * t ≤ s.id) && decide (s.id ≤ 0x15 + 3 * t)

/-- R257: a patch meets the trip rule, for the TRIP comparators of its sensors. -/
def Dev.trips (d : Dev) (f p : Nat) (c0 c1 : Bool) : Bool :=
  (c0 && c1) || (c0 && d.tripSus f p 1) || (c1 && d.tripSus f p 0)

/-- R265: stops within TRIP_WINDOW operating hours, the present one not counted. -/
def Dev.recentStops (d : Dev) : List Nat :=
  d.sel.stops.filter fun t => decide (d.rd EV_HOURS_HOURS < t + d.rd JZ_SEL_TIME1_TRIP_WINDOW ∨ t = d.rd EV_HOURS_HOURS)

/-- R258: heddles close, wadding stops, every patch clock stops. -/
def stopWafer (d : Dev) : Dev :=
  forL d.enabled (fun f d => forN 36 (stopClock psStopped f) (forN 4 (stopWadding f) d)) d

/-- R258: the tripping patches of a stop. -/
def latchTrips (l : List (Nat × Nat)) (d : Dev) : Dev :=
  let d := forL allFields (fun f d => (d.wr (ST_TH_TRIP_LO_TRIP f) 0).wr (ST_TH_TRIP_HI_TRIP f) 0) d
  forL l (fun x d => d.wrB (ST_TH_TRIP x.1 x.2) true) d

/-- R258, R265, R267: the selvedge stops the wafer; the mode becomes RETENTION, also where a restart from OFF ends so. -/
def selStopNow (d : Dev) : Dev :=
  let latched := decide (orDef (d.rd JZ_SEL_TIME1_TRIP_LIMIT) 1 ≤ d.recentStops.length + 1)
  let d := stopWafer d
  let d := ((d.wr JZ_SEL_STATUS_STATE (if latched then selLatched else selStopped)).wrB JZ_SEL_STATUS_TRIP_PIN true).inc JZ_SEL_FIRST_STOPS
  let d := d.wrB JZ_SEL_STATUS_OFF false
  { d with sel := { d.sel with coolFor := none, stops := d.recentStops ++ [d.rd EV_HOURS_HOURS] }, ev := { d.ev with stops := d.ev.stops + 1 } }

/-- R272: the first tripping patch of a stop. -/
def setFirst (x : Option (Nat × Nat × Bool)) (d : Dev) : Dev :=
  match x with
  | some (f, p, s) => ((((d.wr JZ_SEL_FIRST_FIELD f).wr JZ_SEL_FIRST_PATCH p).wrB JZ_SEL_FIRST_SUSPECT_RULE s).wrB JZ_SEL_FIRST_VALID true)
  | none => (((d.wr JZ_SEL_FIRST_FIELD 0).wr JZ_SEL_FIRST_PATCH 0).wrB JZ_SEL_FIRST_SUSPECT_RULE false).wrB JZ_SEL_FIRST_VALID false

/-- R272: the timestamp of the stop. -/
def stampStop (sub : Nat) (d : Dev) : Dev :=
  (putStamp JZ_SEL_STAMP_LO_SUB.addr JZ_SEL_STAMP_HI_PICK_H.addr (d.stamp sub) d).wrB JZ_SEL_STATUS_STAMP_H d.hNow

/-- R257: the patches that meet the trip rule, for the comparators as they are latched. -/
def Dev.tripping (d : Dev) : List (Nat × Nat × Bool × Bool) := d.sel.hot.filter fun x => d.trips x.1 x.2.1 x.2.2.1 x.2.2.2

/-- R257, R258, R267, R268: the latched TRIP comparators are evaluated; the lowest-numbered patch that meets the rule is the
first. -/
def tripEval (sub : Nat) (d : Dev) : Dev :=
  let l := d.tripping
  match minN (l.map fun x => pkey x.1 x.2.1) with
  | none => d
  | some k =>
    let f := k / 36
    let p := k % 36
    let bySus := !(l.any fun x => x.1 = f && x.2.1 = p && x.2.2.1 && x.2.2.2)
    if d.selStop then
      if d.rdB JZ_SEL_STATUS_CAUSE_TRIP then d
      else
        let d := (setFirst (some (f, p, bySus)) (d.wrB JZ_SEL_STATUS_CAUSE_TRIP true)).raise .therm 1 f p
        (latchTrips (l.map fun x => (x.1, x.2.1)) d).updSel fun x => { x with coolFor := none }
    else
      let d := latchTrips (l.map fun x => (x.1, x.2.1)) (selStopNow d)
      ((setFirst (some (f, p, bySus)) (stampStop sub d)).wrB JZ_SEL_STATUS_CAUSE_TRIP true).raise .therm 1 f p

/-- R256, R257: THERMAL_TRIP: the TRIP comparators of the patches at which one is high are latched and evaluated. -/
def thermalTrip (hot : List (Nat × Nat × Bool × Bool)) (sub : Nat) (d : Dev) : Dev := tripEval sub (d.updSel fun x => { x with hot })

/-- R261, R267: COOLANT_STOP: COOL_OK has been low for 50 µs. -/
def coolantStop (sub : Nat) (d : Dev) : Dev :=
  if d.pins.coolOk then d else
  let d := (d.wrB JZ_SEL_STATUS_COOL_OK false).updSel fun x => { x with okFor := none }
  if d.selStop then
    if d.rdB JZ_SEL_STATUS_CAUSE_COOL then d
    else (d.wrB JZ_SEL_STATUS_CAUSE_COOL true).raise .therm 2 central 0
  else if d.selState = selWait then d
  else ((setFirst none (stampStop sub (latchTrips [] (selStopNow d)))).wrB JZ_SEL_STATUS_CAUSE_COOL true).raise .therm 2 central 0

/-- R132, R259: the rail of a domain is at RETENTION: RETENTION is the mode sent, and no reading is above code 20. Log entry
128. -/
def Dev.railRetained (d : Dev) (f k : Nat) : Bool :=
  (d.dm f k).railAt = some modeRetention
    && (d.rdB (ST_LINK_STATUS_STALE f k) || decide (d.rd (ST_LINK_UP0_VOUT f k) ≤ voutOf 20 + 4))

/-- R259: a latched TRIP_OFF comparator is evaluated. -/
def offEval (x : Nat × Nat × Nat) (d : Dev) : Dev :=
  if d.selStop && !d.rdB JZ_SEL_STATUS_OFF && !d.suspect x.1 x.2.1 x.2.2 && d.railRetained x.1 (domOf x.2.1) then
    (d.wrB JZ_SEL_STATUS_OFF true).raise .therm 3 x.1 x.2.1
  else d

/-- R256, R259: TRIP_OFF: the comparator of a sensor goes high, is latched and evaluated. -/
def tripOff (f p t : Nat) (d : Dev) : Dev :=
  offEval (f, p, t) (d.updSel fun x => { x with off := distinct (x.off ++ [(f, p, t)]) })

/-- R319: COOL_OK changes; a count of it starts again. -/
def coolOkChange (high : Bool) (d : Dev) : Dev :=
  { d with pins := { d.pins with coolOk := high }, sel := { d.sel with okFor := none } }

/-- R261: COOL_OK has stayed high for 50 µs. -/
def coolOkHigh (d : Dev) : Dev :=
  if d.pins.coolOk then
    (d.wrB JZ_SEL_STATUS_COOL_OK true).updSel fun x => match x.okFor with
      | some _ => x
      | none => { x with okFor := some 0, onRosc := decide (d.time.nb = 0) || d.mode = NO_SOURCE }
  else d

/-- R22: COOL_OK has been high for a timer of n bolts. -/
def Dev.okBolts (d : Dev) (n : Nat) : Bool :=
  d.rdB JZ_SEL_STATUS_COOL_OK && match d.sel.okFor with | some m => decide (1000 * orDef n 1 < m) | none => false

/-- R262, R319: COOL_START_DONE. Time without boundaries is counted on ROSC, outside the model: then the command itself says that
the count is reached. -/
def coolStartDone (d : Dev) : Dev :=
  let counted := d.okBolts (d.rd JZ_SEL_TIME0_COOL_START) || (d.sel.onRosc && d.sel.okFor.isSome)
  if d.selState = selWait && d.rdB JZ_SEL_STATUS_COOL_OK && counted && d.tripping.isEmpty then d.wr JZ_SEL_STATUS_STATE selRun else d

/-- R265: JZ_SEL_CMD.RELEASE. -/
def selRelease (d : Dev) : Dev :=
  if d.selState = selLatched then d.wr JZ_SEL_STATUS_STATE selStopped else conflict JZ_SEL_STATUS_STATE_CONFLICT d

/-- R260, R268: the jobs end at a stop; in a global stop they are in the cut, and end at the resume. -/
def stopJobs (d : Dev) : Dev :=
  if d.stopped || !(d.selStop || d.selState = selRestart) then d else forL (d.jobList.map (·.1)) endJob d

/-- R260: STOP_BOUNDARY: at each boundary while the wafer is stopped. -/
def stopBoundary (d : Dev) : Dev :=
  let d := stopJobs d
  if !d.selStop then d else
  let d := forL allFields (fun f d => forL [2, 3, 4, 5] (holdClass f) (onlyIf (!(d.fd f).hints.isEmpty) (drainHints f) d)) d
  d.wrB JZ_STATUS_READY false

/-- R264: a patch is cool, for its RESTART comparators. -/
def Dev.coolPatch (d : Dev) (f p : Nat) (c0 c1 : Bool) : Bool :=
  let s0 := d.suspect f p 0
  let s1 := d.suspect f p 1
  if s0 && s1 then decide (d.temp f p < 8 * d.rd JZ_SEL_LIMITS_T_RESTART) else (!c0 || s0) && (!c1 || s1)

/-- R264: every patch of the wafer is cool; `warm` names the patches at which a RESTART comparator is high. -/
def Dev.allCool (d : Dev) (warm : List (Nat × Nat × Bool × Bool)) : Bool :=
  warm.all (fun x => d.coolPatch x.1 x.2.1 x.2.2.1 x.2.2.2) &&
    allFields.all fun f => (List.range 36).all fun p => d.coolPatch f p false false

/-- R256: the manager samples the latches: an output whose sensor is below the RESTART threshold clears. -/
def sampleLatches (warm : List (Nat × Nat × Bool × Bool)) (s : SelS) : SelS :=
  let high := fun (f p t : Nat) => warm.any fun x => x.1 = f && x.2.1 = p && (if t = 0 then x.2.2.1 else x.2.2.2)
  { s with
    hot := (s.hot.map fun x => (x.1, x.2.1, x.2.2.1 && high x.1 x.2.1 0, x.2.2.2 && high x.1 x.2.1 1)).filter fun x => x.2.2.1 || x.2.2.2
    off := s.off.filter fun x => high x.1 x.2.1 x.2.2 }

/-- R22, R264: the coolant and cooling counts at a boundary outside a global stop. -/
def coolCounts (cool : Bool) (d : Dev) : Dev :=
  let n := b01 (!d.stopped)
  d.updSel fun x => { x with
    okFor := x.okFor.map (· + n)
    coolFor := if d.selStop && cool then some (match x.coolFor with | some m => m + n | none => 0) else none }

/-- R256, R264, R268: what a boundary does in the selvedge: its counts, its latches, and the rules of R257 and R259 with the
suspect marks as they stand. -/
def coolBoundary (warm : List (Nat × Nat × Bool × Bool)) (d : Dev) : Dev :=
  let d := (coolCounts (d.allCool warm) d).updSel (sampleLatches warm)
  forL d.sel.off offEval (tripEval 0 d)

/-- R264: the conditions of a restart, at a bolt boundary. -/
def Dev.mayRestart (d : Dev) : Bool :=
  let cooled := match d.sel.coolFor with
    | some n => !d.rdB JZ_SEL_STATUS_CAUSE_TRIP || decide (1000 * orDef (d.rd JZ_SEL_TIME1_COOL_TEMP) 1 ≤ n)
    | none => false
  let flows := d.rdB JZ_SEL_STATUS_COOL_OK && (!d.rdB JZ_SEL_STATUS_CAUSE_COOL || d.okBolts (d.rd JZ_SEL_TIME0_COOL_HOLD))
  d.selState = selStopped && d.time.count % 1000 = 0 && cooled && flows

/-! Tier A memory (R269, R270). -/

def Dev.zone (d : Dev) (f k : Nat) : Nat := d.rd (ST_MEM_ZONE f k)
def Dev.chn (d : Dev) (f k : Nat) : ChanS := tget ChanS.init d.chan (f * 32 + k)
def setChn (f k : Nat) (x : ChanS) (d : Dev) : Dev := { d with chan := tput ChanS.init (f * 32 + k) x d.chan }

/-- R270: MEMA for the zones of the field's channels; none for a field with no channels. -/
def Dev.memaFor (d : Dev) (f : Nat) : Option Nat :=
  let n := d.rd (ST_MEM_NCH_NCH f)
  if n = 0 then none
  else
    let zs := (List.range n).map (d.zone f)
    some (d.fixMema f * (256 * (zs.filter (· = 0)).length + d.rd (ST_MEM_CFG_WARM_SHARE f) * (zs.filter (· = 1)).length) / (256 * n))

/-- R270: a channel's zone; MEMA follows at the next boundary. -/
def setZone (f k z : Nat) (d : Dev) : Dev :=
  let d := d.wr (ST_MEM_ZONE f k) z
  d.updFd f fun x => { x with memaCut := d.memaFor f, fixDue := true }

/-- R269: MR4_REPORT. -/
def mr4Report (f k code : Nat) (d : Dev) : Dev :=
  if d.rd (ST_MEM_NCH_NCH f) ≤ k then d else
  let want := min 2 (d.rd (ST_MEM_MR4MAP f code))
  let shown := d.zone f k
  let now := min 2 shown
  let seen := d.time.nbRun
  if now ≤ want then
    let d := setChn f k ⟨0, seen⟩ d
    let d := if want = shown then d else setZone f k want d
    onlyIf (want = 2 && decide (now < 2)) (·.raise .therm 5 f k) d
  else
    let n := (d.chn f k).cooler + 1
    if orDef (d.rd (ST_MEM_CFG_MEM_HYST f)) 1 ≤ n then
      onlyIf (now = 2) (·.raise .therm 6 f k) (setZone f k (now - 1) (setChn f k ⟨0, seen⟩ d))
    else
      let d := setChn f k ⟨n, seen⟩ d
      if now = shown then d else setZone f k now d

/-- R269: MR4_LOST: no valid report for 4 periods. -/
def mr4Lost (f k : Nat) (d : Dev) : Dev :=
  if k < d.rd (ST_MEM_NCH_NCH f) ∧ d.zone f k ≠ 3 ∧ d.expired (d.chn f k).seen (4 * orDef (d.rd (ST_MEM_CFG_MR4_PERIOD f)) 1) then
    (setZone f k 3 (setChn f k { d.chn f k with cooler := 0 } d)).raise .sense 5 f k
  else d

/-! Optical engines (R271). -/

/-- R153, R271: an engine leaves its window, and the host fabric is told. -/
def optLeave (e : Nat) (d : Dev) : Dev :=
  let d := (d.wrB (JZ_OPT_OUT_ENGINE e) true).raise .therm 7 central e
  let d := forL (d.enabled.filter fun f => e ∈ (d.fd f).optics) (fun f d => d.updFd f fun x => { x with optEng := true, fixDue := true }) d
  d.emit (.linkDegraded e true)

/-- R271: OPT_TEMP_REPORT: the laser and modulator temperatures of an engine, in 1 °C. -/
def optReport (e : Nat) (temps : List Int) (d : Dev) : Dev :=
  let lo := d.rdS JZ_OPT_CFG_OPT_LO
  let hi := d.rdS JZ_OPT_CFG_OPT_HI
  let h : Int := d.rd JZ_OPT_CFG_OPT_HYST
  let d := { d with opt := tput 0 e d.time.nbRun d.opt }
  if d.bit JZ_OPT_OUT_OUT e then
    if temps.all fun t => decide (lo + h ≤ t) && decide (t ≤ hi - h) then (d.wrB (JZ_OPT_OUT_ENGINE e) false).emit (.linkDegraded e false) else d
  else if temps.any fun t => decide (t < lo) || decide (hi < t) then optLeave e d else d

/-- R271: OPT_REPORT_LOST: no valid report for 4 periods of 100 picks. -/
def optLost (e : Nat) (d : Dev) : Dev :=
  if !d.bit JZ_OPT_OUT_OUT e ∧ d.expired (tget 0 d.opt e) 400 then optLeave e d else d

/-! The commands. -/

/-- The comparators of one patch. -/
def tripOf (x : TripObs) : Nat × Nat × Bool × Bool := (x.field.val, x.patch.val, x.c0, x.c1)

/-- R263: the selvedge acts while RESET_N is low too; nothing is recorded then. -/
def selvedge (g : Dev → Dev) (d : Dev) : Dev := if d.pins.resetN then g d else { g d with fc := d.fc }

def execThermalTrip (hot : List TripObs) (sub : BitVec 12) (s : State) : Host.Outcome State Fault Refusal :=
  always (selvedge (thermalTrip (hot.map tripOf) sub.toNat)) s
def execCoolantStop (sub : BitVec 12) (s : State) : Host.Outcome State Fault Refusal := always (selvedge (coolantStop sub.toNat)) s
def execTripOff (f : Fin 96) (p : Fin 36) (t : Fin 2) (s : State) : Host.Outcome State Fault Refusal := always (selvedge (tripOff f.val p.val t.val)) s
def execCoolOkChange (high : Bool) (s : State) : Host.Outcome State Fault Refusal := always (selvedge (coolOkChange high)) s
def execCoolOkHigh (s : State) : Host.Outcome State Fault Refusal := always (selvedge coolOkHigh) s
def execCoolStartDone (s : State) : Host.Outcome State Fault Refusal := always (selvedge coolStartDone) s
def execSelvedgeRelease (s : State) : Host.Outcome State Fault Refusal := done selRelease s
def execMr4Report (f : Fin 96) (k : Fin 32) (code : BitVec 5) (s : State) : Host.Outcome State Fault Refusal :=
  done (mr4Report f.val k.val code.toNat) s
def execMr4Lost (f : Fin 96) (k : Fin 32) (s : State) : Host.Outcome State Fault Refusal := done (mr4Lost f.val k.val) s
def execOptTempReport (e : Fin 24) (temps : List (BitVec 8)) (s : State) : Host.Outcome State Fault Refusal :=
  done (optReport e.val (temps.map (·.toInt))) s
def execOptReportLost (e : Fin 24) (s : State) : Host.Outcome State Fault Refusal := done (optLost e.val) s

end Sys2Proof.Machine
end

