-- ==== Sys2Proof/Machine/Clocks.lean ====
section
/-! DEFINITION. Chapter 11: qualification and loss of REFCLK and TBCLK (R302 to R304), the source selector (R306), WAIT
with hold-safe (R307 to R309), the loss of ROSC (R310), the block gates (R312 to R314) and the clock output (R315, R316). -/

namespace Sys2Proof.Machine

/-! R317: codes of CK_STATUS.SEL. -/
def ckBoot : Nat := 0
def ckLocking : Nat := 1
def ckOnTb : Nat := 2
def ckOnRef : Nat := 3
def ckHolding : Nat := 4
def ckWait : Nat := 5

def Dev.ckSel (d : Dev) : Nat := d.rd CK_STATUS_SEL

/-- The PLL runs: MCLK comes from it. -/
def Dev.onPll (d : Dev) : Bool := d.ckSel = ckOnTb || d.ckSel = ckOnRef || d.ckSel = ckHolding

/-- R31, R440: boundaries occur: on the PLL, or on a qualified source while MCLK is still on ROSC; in ACQUIRING the first of
them waits for REFCLK. Time stops in NO_SOURCE only. -/
def Dev.boundaries (d : Dev) : Bool :=
  d.mode ≠ NO_SOURCE && (d.onPll || d.rdB CK_STATUS_REF_Q || (d.rdB CK_STATUS_TB_Q && (d.mode ≠ ACQUIRING || d.time.acqFrom.isSome)))

/-- R306: the input of a start of the PLL: TBCLK (true) where it is preferred or alone qualified. -/
def Dev.ckPick (d : Dev) : Option Bool :=
  if d.rdB CK_STATUS_TB_Q ∧ (d.rdB CK_CFG_PREF_TB ∨ !d.rdB CK_STATUS_REF_Q) then some true
  else if d.rdB CK_STATUS_REF_Q then some false else none

/-- Whether an input is qualified. -/
def Dev.qualified (d : Dev) (tb : Bool) : Bool := if tb then d.rdB CK_STATUS_TB_Q else d.rdB CK_STATUS_REF_Q

/-- R306: LOCKING on, or HOLDING to, an input. -/
def pllTo (sel : Nat) (tb : Bool) (d : Dev) : Dev :=
  ((d.wr CK_STATUS_SEL sel).wrB CK_STATUS_PLL_SRC tb).wrB CK_STATUS_PLL_LOCK false

/-- R30: no qualified source remains: the mode is held, no boundary occurs, and the CLOCK fault NO_SOURCE is raised. -/
def noSource (d : Dev) : Dev :=
  if d.mode = NO_SOURCE then d
  else (((d.updTime fun t => { t with heldMode := d.mode }).updSel fun x => { x with onRosc := true }).wr TB_STATUS_MODE NO_SOURCE).raise
    .clock 6 central 0

/-- R30: a source is there again: boundaries resume in the mode held. -/
def sourceBack (d : Dev) : Dev := if d.mode = NO_SOURCE then d.wr TB_STATUS_MODE d.time.heldMode else d

/-- R135: the links that a period without boundaries will find LOST, those not LOST already. -/
def linksStand (d : Dev) : Dev :=
  forL d.serving (fun f d => forN 4 (fun k d =>
    onlyIf (d.link f k ≠ linkLost) (·.updDm f k fun x => { x with noBoundary := true }) d) d) d

/-- R307, R309: the selector enters WAIT: MCLK from ROSC, hold-safe, no boundaries, the count stands. -/
def toWait (d : Dev) : Dev :=
  let d := ((d.wr CK_STATUS_SEL ckWait).wrB CK_STATUS_PLL_LOCK false).inc CK_EVT_WAITS
  holdSafeEnter (linksStand (noSource d))

/-- R306: WAIT after a loss, with the fault NO_SOURCE. -/
def lossToWait (d : Dev) : Dev :=
  toWait (onlyIf (d.mode = NO_SOURCE) (·.raise .clock 6 central 0) (d.wrB CK_LOSS_TO_WAIT true))

/-- R317: CK_LOSS. -/
def noteLoss (src : Nat) (d : Dev) : Dev := ((d.wr CK_LOSS_SRC src).wrB CK_LOSS_VALID true).wrB CK_LOSS_TO_WAIT false

/-- R309, R317: the length of the WAIT that ends, in microseconds on ROSC. -/
def waitEnds (us : Nat) (d : Dev) : Dev := onlyIf (d.ckSel = ckWait) (·.wr CK_WAIT_TIME_US us) d

/-- R303, R306, R440: REFCLK qualifies. -/
def refQualify (us : Nat) (d : Dev) : Dev :=
  if d.rdB CK_STATUS_REF_Q ∨ !d.rdB CK_STATUS_ROSC_RUN then d else
  let d := d.wrB CK_STATUS_REF_Q true
  let acq := d.mode = ACQUIRING || (d.mode = NO_SOURCE && d.time.heldMode = ACQUIRING)
  let d := onlyIf (acq && d.time.acqFrom.isNone) (·.updTime fun t => { t with acqFrom := some t.nb }) d
  if d.ckSel = ckWait then pllTo ckLocking false (waitEnds us d) else if d.ckSel = ckBoot then sourceBack d else d

/-- R304, R306, R350: TBCLK qualifies, unless its receiver is disabled for this start. -/
def tbQualify (us : Nat) (d : Dev) : Dev :=
  if d.rdB CK_STATUS_TB_Q ∨ !d.rdB CK_STATUS_ROSC_RUN ∨ d.time.laneOff then d else
  let d := { d.wrB CK_STATUS_TB_Q true with clk := { d.clk with tbQualAt := d.time.nb } }
  if d.ckSel = ckWait then pllTo ckLocking true (waitEnds us d) else if d.ckSel = ckBoot then sourceBack d else d

/-- R306: the other input while the PLL does not lock; WAIT where it is not qualified. -/
def noLock (tb : Bool) (d : Dev) : Dev :=
  let d := d.raise .clock 9 central 0
  if d.qualified (!tb) then pllTo ckLocking (!tb) d else toWait d

/-- R306: an input is lost. -/
def ckLost (tb : Bool) (d : Dev) : Dev :=
  if !d.qualified tb then d else
  let d := noteLoss (b01 tb) (d.wrB (if tb then CK_STATUS_TB_Q else CK_STATUS_REF_Q) false)
  let event := fun (d : Dev) => d.raise .clock (if tb then 7 else 8) central 0
  let used := d.rdB CK_STATUS_PLL_SRC = tb
  if d.ckSel = ckLocking ∧ used then
    let d := onlyIf (!d.qualified (!tb)) (·.wrB CK_LOSS_TO_WAIT true) d
    noLock tb d
  else if d.onPll ∧ used then
    if d.qualified (!tb) then event (pllTo ckHolding (!tb) d) else lossToWait d
  else onlyIf (d.ckSel = ckBoot && !d.qualified (!tb)) noSource (event d)

/-- R306: CK_CMD.PLL_EN; R318: it is written at step 5. -/
def pllEn (d : Dev) : Dev :=
  if d.ckSel ≠ ckBoot then conflict CK_STATUS_STATE_CONFLICT d
  else match d.ckPick with
    | some tb => pllTo ckLocking tb d
    | none => toWait d

/-- R318: step 5 ends when the PLL has locked. -/
def stepSix (d : Dev) : Dev :=
  if d.start.step = 5 then { d with start := { d.start with step := 6, since := d.time.nb } } else d

/-- R306: MCLK comes from the PLL on its input. -/
def pllOn (d : Dev) : Dev :=
  ((d.wr CK_STATUS_SEL (if d.rdB CK_STATUS_PLL_SRC then ckOnTb else ckOnRef)).wrB CK_STATUS_PLL_LOCK true).inc CK_EVT_SWITCHES

/-- R30, R306: the PLL locks; boundaries resume in the mode held. -/
def pllLock (d : Dev) : Dev :=
  if d.ckSel = ckLocking then
    stepSix (sourceBack (pllOn d))
  else d

/-- R306: no lock within 50 µs. -/
def pllNolock (d : Dev) : Dev := if d.ckSel = ckLocking then noLock (d.rdB CK_STATUS_PLL_SRC) d else d

/-- R306: unlock with the input still qualified. -/
def pllUnlock (d : Dev) : Dev :=
  if d.ckSel = ckOnTb ∨ d.ckSel = ckOnRef then
    (pllTo ckHolding (d.rdB CK_STATUS_PLL_SRC) (noteLoss 2 d)).raise .clock 10 central 0
  else d

/-- R306: the PLL relocks within 100 µs. -/
def pllRelock (d : Dev) : Dev := if d.ckSel = ckHolding then pllOn d else d

/-- R306: no relock within 100 µs. -/
def pllHoldTimeout (d : Dev) : Dev := if d.ckSel = ckHolding then lossToWait d else d

/-- R306: the planned return to TBCLK, at a bolt boundary. -/
def tbReturn (d : Dev) : Dev :=
  if d.ckSel = ckOnRef ∧ d.time.count % 1000 = 0 ∧ d.rdB CK_CFG_PREF_TB ∧ d.rdB CK_STATUS_TB_Q
      ∧ d.expiredAll d.clk.tbQualAt (1000 * orDef (d.rd CK_CFG_TB_RETURN) 1) then pllTo ckHolding true d
  else d

/-- R310: ROSC stops: hold-safe, JZ_ERR_N low, until a reset. -/
def roscStop (d : Dev) : Dev := holdSafeEnter (d.wrB CK_STATUS_ROSC_RUN false)

/-! Gates (R312 to R314). -/

/-- R312: a slice or assay is outstanding. -/
def Dev.sliceOut (d : Dev) : Bool :=
  !d.test.slices.isEmpty || d.test.stress.any (fun x => decide (1 ≤ x.2.phase) && decide (x.2.phase ≤ 6))
    || !d.rp.assays.isEmpty || !d.rp.verdictAssays.isEmpty || d.rp.assaying.isSome

/-- R312: the gate of block b may close now. -/
def Dev.mayClose (d : Dev) (b : Nat) : Bool :=
  if b = 3 ∨ b = 4 ∨ b = 8 then !d.ready else if b = 7 then !d.sliceOut else true

/-- R312: the gates that have an enable bit of their own. -/
def gated : List Nat := [3, 4, 6, 7, 8, 9, 10, 11]

/-- R312 to R314: a write of CK_GATE, refused whole where it would close a gate that may not close. -/
def ckGate (v : Nat) (d : Dev) : Dev :=
  let closing := gated.filter fun b => d.rdB (CK_GATE_EN b) && !bitOf v b
  if closing.all d.mayClose then
    let d := forL gated (fun b d => d.wrB (CK_GATE_EN b) (bitOf v b)) d
    forL closing (fun b d => d.wrB (CK_GATE_STAT_QUIESCE_BIT b) (d.rdB (CK_GATE_STAT_OPEN_BIT b))) d
  else conflict CK_STATUS_STATE_CONFLICT d

/-- R313: sixteen MCLK cycles after its bit is set a gate opens. -/
def gateOpen (b : Nat) (d : Dev) : Dev :=
  if b < 12 ∧ d.rdB (CK_GATE_EN b) ∧ !d.rdB (CK_GATE_STAT_QUIESCE_BIT b) then d.wrB (CK_GATE_STAT_OPEN_BIT b) true else d

/-- R314: a gate closes; an access it cuts raises GATE_CUT. -/
def gateClose (b : Nat) (cut : Option (Nat × Nat × Bool)) (d : Dev) : Dev :=
  if d.rdB (CK_GATE_STAT_QUIESCE_BIT b) then
    let d := (d.wrB (CK_GATE_STAT_QUIESCE_BIT b) false).wrB (CK_GATE_STAT_OPEN_BIT b) false
    match cut with
    | some (a, m, w) => d.raiseR { d.report .bus 2 central 0 with addr := a, master := m, access := b01 w }
    | none => d
  else d

/-! The clock output (R315, R316). -/

/-- R315: least divisor of a source; none of 6 and 7. -/
def leastDiv (src : Nat) : Option Nat := [2, 1, 2, 8, 1, 1][src]?

/-- R316: the selected source is present. -/
def Dev.outPresent (d : Dev) : Bool :=
  let src := d.rd CK_OUT_SRC
  let f := d.rd CK_OUT_PATCH_FIELD
  let p := d.rd CK_OUT_PATCH_PATCH
  if src = 0 then d.rdB CK_STATUS_ROSC_RUN else if src = 1 then d.rdB CK_STATUS_REF_Q else if src = 2 then d.rdB CK_STATUS_TB_Q
  else if src = 3 then d.onPll || d.rdB CK_STATUS_ROSC_RUN
  else if src = 4 then decide (f < 96) && decide (p < 36) && d.rdB (PS_STATUS_CLK_ON f p)
  else if src = 5 then d.boundaries else false

/-- R317: CK_OUT_STAT: ACTIVE and MIN_DIV; a change of setting is one step, so CHANGING reads 0. -/
def Dev.outStat (d : Dev) : Nat :=
  let min := match leastDiv (d.rd CK_OUT_SRC) with | some n => decide (d.rd CK_OUT_DIV + 1 < n) | none => false
  b01 (d.rdB CK_OUT_EN && d.outPresent) + 2 * b01 min

/-- R315, R316: a write of CK_OUT or CK_OUT_PATCH restarts the output on the new setting. -/
def clkoutChange (patch : Bool) (v : Nat) (d : Dev) : Dev :=
  if patch then (d.wr CK_OUT_PATCH_FIELD v).wr CK_OUT_PATCH_PATCH (v / 2 ^ 8)
  else ((d.wr CK_OUT_EN v).wr CK_OUT_SRC (v / 2)).wr CK_OUT_DIV (v / 2 ^ 16)

/-- R315: the divisor in effect. -/
def Dev.clkDiv (d : Dev) : Nat := max (d.rd CK_OUT_DIV + 1) ((leastDiv (d.rd CK_OUT_SRC)).getD 1)

/-- R316: the level of JZ_CLKOUT in the n-th source cycle since the output restarted; with divisor 1 it is the source's own. The
cycles of the pick strobe are numbered by the count, so its rising edges fall on multiples of the divisor. -/
def Dev.clkHigh (d : Dev) (n : Nat) (source : Bool) : Bool :=
  let n := if d.rd CK_OUT_SRC = 5 then d.time.count else n
  d.released && d.rdB CK_OUT_EN && d.outPresent
    && (if d.clkDiv = 1 then source else decide (n % d.clkDiv < divUp d.clkDiv 2))

/-! The commands. -/

def execRefclkQualify (us : BitVec 32) (s : State) : Host.Outcome State Fault Refusal := done (refQualify us.toNat) s
def execRefclkLost (s : State) : Host.Outcome State Fault Refusal := done (ckLost false) s
def execTbclkQualify (us : BitVec 32) (s : State) : Host.Outcome State Fault Refusal := done (tbQualify us.toNat) s
def execTbclkLost (s : State) : Host.Outcome State Fault Refusal := done (ckLost true) s
def execPllEn (s : State) : Host.Outcome State Fault Refusal := done pllEn s
def execPllLock (s : State) : Host.Outcome State Fault Refusal := done pllLock s
def execPllNolock (s : State) : Host.Outcome State Fault Refusal := done pllNolock s
def execPllUnlock (s : State) : Host.Outcome State Fault Refusal := done pllUnlock s
def execPllRelock (s : State) : Host.Outcome State Fault Refusal := done pllRelock s
def execPllHoldTimeout (s : State) : Host.Outcome State Fault Refusal := done pllHoldTimeout s
def execTbReturn (s : State) : Host.Outcome State Fault Refusal := done tbReturn s
def execRoscStop (s : State) : Host.Outcome State Fault Refusal := done roscStop s
def execCkGate (v : BitVec 32) (s : State) : Host.Outcome State Fault Refusal := done (ckGate v.toNat) s
def execGateOpen (b : Fin 12) (s : State) : Host.Outcome State Fault Refusal := done (gateOpen b.val) s
def execGateClose (b : Fin 12) (cut : Option AccessObs) (s : State) : Host.Outcome State Fault Refusal :=
  done (gateClose b.val (cut.map fun x => (x.addr.toNat, x.master.val, x.write))) s
def execClkoutChange (patch : Bool) (v : BitVec 32) (s : State) : Host.Outcome State Fault Refusal := done (clkoutChange patch v.toNat) s

end Sys2Proof.Machine
end

