-- ==== Sys2Proof/Machine/Nvm.lean ====
section
/-! DEFINITION. Chapter 12, the NVM: the flash (R321, R323), its header (R324), the image and its checks (R325 to R329),
settings (R327), the margin area (R331), slots and image sessions (R297, R335), and the signature engine (R337). -/

namespace Sys2Proof.Machine

/-- A byte of the flash; erased bytes read 0xFF. -/
def Dev.nvByte (d : Dev) (a : Nat) : Nat := (tget 0xFF d.nv.flash a).toNat
def Dev.nvBytes (d : Dev) (a n : Nat) : List Nat := (List.range n).map fun i => d.nvByte (a + i)
def Dev.nvNum (d : Dev) (a n : Nat) : Nat := ofBytes (d.nvBytes a n)

/-- Program bytes: bits only go from 1 to 0. -/
def nvProg (a : Nat) : List Nat → Dev → Dev
  | [], d => d
  | b :: bs, d => nvProg (a + 1) bs (d.updNv fun x => { x with flash := tput 0xFF a (BitVec.ofNat 8 (d.nvByte a &&& b)) x.flash })

/-- Erase n bytes. -/
def nvErase (a n : Nat) (d : Dev) : Dev := d.updNv fun x => { x with flash := x.flash.filter fun c => c.1 < a ∨ a + n ≤ c.1 }

/-! The header (R324). -/

/-- R324: codes of slot states. -/
def slEmpty : Nat := 0
def slWriting : Nat := 1
def slPending : Nat := 2
def slActive : Nat := 3
def slPrevious : Nat := 4
def slBad : Nat := 5

/-- R324: the fields of a header record; a pair holds slot A's value and slot B's. -/
structure Hdr where
  seq : Nat
  active : Nat
  st : Nat × Nat
  sec : Nat × Nat
  len : Nat × Nat
  pcycle : Nat
  deriving DecidableEq, Repr

def pick2 (b : Bool) (x : Nat × Nat) : Nat := if b then x.2 else x.1
def set2 (b : Bool) (v : Nat) (x : Nat × Nat) : Nat × Nat := if b then (x.1, v) else (v, x.2)

def hdrBytes (h : Hdr) : List Nat :=
  let l := leBytes 4 0x484E5A4A ++ leBytes 4 h.seq ++ [h.active, h.st.1, h.st.2, 0] ++ leBytes 4 h.sec.1 ++ leBytes 4 h.sec.2
    ++ leBytes 4 h.len.1 ++ leBytes 4 h.len.2 ++ leBytes 4 h.pcycle ++ List.replicate 28 0
  l ++ leBytes 4 (crc32 l)

/-- R324: a header copy, where it is valid. -/
def Dev.hdrCopy (d : Dev) (c : Nat) : Option Hdr :=
  let a := c * 0x1000
  let b := d.nvBytes a 64
  if bytesAt b 0 4 = 0x484E5A4A ∧ bytesAt b 60 4 = crc32 (b.take 60) then
    some ⟨bytesAt b 4 4, bytesAt b 8 1, (bytesAt b 9 1, bytesAt b 10 1), (bytesAt b 12 4, bytesAt b 16 4), (bytesAt b 20 4, bytesAt b 24 4), bytesAt b 28 4⟩
  else none

/-- R324: the header in force and the copy that holds it. -/
def Dev.hdrNow (d : Dev) : Option (Nat × Hdr) :=
  match d.hdrCopy 0, d.hdrCopy 1 with
  | some a, some b => if a.seq < b.seq then some (1, b) else some (0, a)
  | some a, none => some (0, a)
  | none, some b => some (1, b)
  | none, none => none

/-- R339: each header or margin copy found invalid counts. -/
def countBad (ok : List Bool) (d : Dev) : Dev := d.add NV_ERR_CRC_ERR (ok.filter fun b => !b).length

/-- The header in force; with neither copy valid, both slots stand as if PENDING. -/
def Dev.hdr (d : Dev) : Hdr :=
  match d.hdrNow with
  | some (_, h) => h
  | none => ⟨0, 0xFF, (slPending, slPending), (0, 0), (0x800000, 0x800000), 0⟩

/-- R339: NV_SLOT shows the header. -/
def showHdr (h : Hdr) (d : Dev) : Dev :=
  (((((d.wr NV_SLOT_STATE_A h.st.1).wr NV_SLOT_STATE_B h.st.2).wr NV_SLOT_ACTIVE h.active).wrB NV_SLOT_ACTIVE_VALID (h.active < 2)).wr
    NV_SLOT_SECVER_A h.sec.1).wr NV_SLOT_SECVER_B h.sec.2

/-- R324: write the header to the other copy. -/
def putHdr (h : Hdr) (d : Dev) : Dev :=
  let (c, seq) := match d.hdrNow with | some (c, x) => (1 - c, x.seq + 1) | none => (0, 1)
  showHdr h (nvProg (c * 0x1000) (hdrBytes { h with seq := seq % 2 ^ 32 }) (nvErase (c * 0x1000) 0x1000 d))

/-! The image (R325 to R329). -/

def slotBase (b : Bool) : Nat := if b then 0x900000 else 0x100000

/-- R325: the directory: type, offset, length, CRC of each section. -/
def Dev.sections (d : Dev) (b : Bool) : List (Nat × Nat × Nat × Nat) :=
  let a := slotBase b
  (List.range (d.nvNum (a + 24) 2)).map fun i =>
    let e := a + 32 + 16 * i
    (d.nvNum e 2, d.nvNum (e + 4) 4, d.nvNum (e + 8) 4, d.nvNum (e + 12) 4)

def noRepeat (l : List Nat) : Bool := (distinct l).length = l.length

/-- R328: the FIELD_MAP names no channel, engine or interface twice. -/
def mapUnique (m : List Nat) : Bool :=
  let recs := (List.range 96).map fun f => (m.drop (96 * f)).take 96
  noRepeat (recs.flatMap fun r => (List.range (bytesAt r 1 1)).map fun i => bytesAt r (4 + 2 * i) 2)
    && noRepeat (recs.flatMap fun r => (List.range 32).filter fun e => bitOf (bytesAt r 68 4) e)
    && noRepeat (recs.flatMap fun r => (List.range 64).filter fun i => bitOf (bytesAt r 72 8) i)

/-- The bytes of the first section of a type. -/
def Dev.section (d : Dev) (b : Bool) (typ : Nat) : List Nat :=
  match (d.sections b).find? (·.1 = typ) with
  | some s => d.nvBytes (slotBase b + s.2.1) s.2.2.1
  | none => []

/-- R326: checks 1 and 2. -/
def Dev.imgCheck1 (d : Dev) (b : Bool) (limit : Nat) : Bool :=
  let a := slotBase b
  let len := d.nvNum (a + 8) 4
  d.nvNum a 4 = 0x4D495A4A && d.nvNum (a + 4) 2 = 1 && d.nvNum (a + 6) 2 = 96 && len % 4 = 0 && decide (len ≤ limit) && decide (len ≤ 0x800000)

def disjoint : List (Nat × Nat) → Bool
  | [] => true
  | x :: l => (l.all fun y => decide (x.1 + x.2 ≤ y.1) || decide (y.1 + y.2 ≤ x.1)) && disjoint l

def Dev.imgCheck2 (d : Dev) (b : Bool) : Bool :=
  let a := slotBase b
  let len := d.nvNum (a + 8) 4
  let n := d.nvNum (a + 24) 2
  let ss := d.sections b
  let count := fun t => (ss.filter (·.1 = t)).length
  decide (1 ≤ n) && decide (n ≤ 64)
    && ss.all (fun s => decide (32 + 16 * n ≤ s.2.1) && decide (s.2.1 + s.2.2.1 + 192 ≤ len) && decide (1 ≤ s.1) && decide (s.1 ≤ 4))
    && disjoint (ss.map fun s => (s.2.1, s.2.2.1))
    && count 2 = 1 && decide (count 3 ≤ 1) && decide (count 4 ≤ 1) && mapUnique (d.section b 2)

/-- R326: the first check that an image fails; the hashing and signature of checks 4 and 5 come from outside the model. -/
def Dev.imgFails (d : Dev) (fz : Fuses) (b : Bool) (limit : Nat) (o : SigObs) (signed : Bool) : Option Nat :=
  if !d.imgCheck1 b limit then some 1
  else if !d.imgCheck2 b then some 2
  else if !((d.sections b).all fun s => crc32 (d.nvBytes (slotBase b + s.2.1) s.2.2.1) = s.2.2.2) then some 3
  else if !signed then none
  else if !(fz.rootSet && decide (o.hash.toNat = fz.rootHash)) then some 4
  else if !o.sig then some 5
  else if d.mg.lc = .field ∧ d.nvNum (slotBase b + 12) 4 < fz.secver then some 6
  else none

/-- R326, R362: the report of a failed check. -/
def failReport (b : Bool) (n : Nat) (d : Dev) : Dev :=
  let c := if n ≤ 3 then FClass.config else FClass.secure
  d.raiseR { d.report c 1 central 0 with addr := b01 b * 2 ^ 31 + n, master := Master.nvm.code, access := 0 }

/-! Settings (R327). -/

/-- R327: an address that a setting may name: a register of R19's blocks with an RW or RWL field. -/
def settable (a : Nat) : Bool :=
  a % 4 = 0 && decide (a < 2 ^ 32) && match fieldsAt a with
    | some fs => fs.any fun r => r.acc = .rw || r.acc = .rwl
    | none => false

/-- R327: the writes of a SETTINGS section, in order, with whether the rule admits the record they come from. -/
def settingsOf (en : List Nat) : Nat → List Nat → List (Nat × Nat × Bool)
  | 0, _ => []
  | fuel + 1, l =>
    if l.length < 12 then (if l = [] then [] else [(bytesAt l 4 4, 0, false)])
    else
      let kind := bytesAt l 0 1
      let count := bytesAt l 2 2
      let a := bytesAt l 4 4
      let v := bytesAt l 8 4
      let rest := l.drop 12
      if kind = 1 then (a, v, true) :: settingsOf en fuel rest
      else if kind = 2 ∧ a < 0x100000 then (en.map fun f => (stBase f + a, v, true)) ++ settingsOf en fuel rest
      else if kind = 3 ∧ a < 0x1000 then
        (en.flatMap fun f => (List.range 36).map fun p => (psBase f p + a, v, true)) ++ settingsOf en fuel rest
      else if kind = 4 ∧ 1 ≤ count ∧ count ≤ 1024 ∧ 4 * count ≤ rest.length then
        ((List.range count).map fun i => (a + 4 * i, bytesAt rest (4 * i) 4, true)) ++ settingsOf en fuel (rest.drop (4 * count))
      else [(a, v, false)]

/-- The writable fields of a register take a word; the others keep theirs. -/
def writeFields (a : Nat) (v : Nat) (d : Dev) : Dev :=
  match fieldsAt a with
  | none => d
  | some fs => (fs.filter fun r => r.acc = .rw || r.acc = .rwl).foldl (fun d r => d.wr ⟨a, r.lo, r.w⟩ (v / 2 ^ r.lo)) d

/-- R330, step 2: every setting of every block returns to its reset value. -/
def resetSettings (d : Dev) : Dev := forL d.regs (fun x => writeFields x.1 (resetWord x.1).toNat) d

/-- R330, step 3: FIELD_MAP (R328). -/
def takeMap (m : List Nat) (d : Dev) : Dev :=
  forN 96 (fun f d =>
    let r := (m.drop (96 * f)).take 96
    let n := min 32 (bytesAt r 1 1)
    (d.updFd f fun x => { x with
      enable := bitOf (bytesAt r 0 1) 0
      nch := n
      chans := (List.range n).map fun i => bytesAt r (4 + 2 * i) 2
      optics := (List.range 24).filter fun e => bitOf (bytesAt r 68 4) e
      memb := bytesAt r 72 8 }).wr (ST_MEM_NCH_NCH f) n) d

/-- R330, step 3: KEYS (R329). -/
def takeKeys (k : List Nat) (d : Dev) : Dev :=
  d.updNv fun x => { x with keys := (List.range 4).foldl (fun t i =>
    let e := (k.drop (100 * i)).take 100
    tput none i (if e ≠ [] ∧ bitOf (bytesAt e 0 1) 0 then some ((e.drop 4).take 96) else none) t) [] }

/-! The margin area (R331). -/

/-- R331: bytes of a margin record; while a proposed offset is under test MOFS is the one it may return to. -/
def Dev.marginRec (d : Dev) (f p : Nat) : List Nat :=
  let m := d.marg f p
  let st := (tget [] d.rp.strikes (pkey f p)).take 15
  let mofs := d.rd (ST_OP_PATCH_MOFS f p)
  [if m.next = some mofs then m.mofs else mofs, m.next.getD 0xFF, b01 (d.bit (JZ_RET f p) 0), st.length] ++ leBytes 4 m.plan
    ++ leBytes 2 (unsignedOf 16 m.base) ++ List.replicate 6 0 ++ (st ++ List.replicate (15 - st.length) 0).flatMap (leBytes 4)
    ++ List.replicate 52 0

def margBase (c : Nat) : Nat := 0x1100000 + c * 0x80000

/-- R331: a margin copy is valid. -/
def Dev.margOk (d : Dev) (c : Nat) : Bool :=
  d.nvNum (margBase c) 4 = 0x4D4E5A4A && d.nvNum (margBase c + 12) 4 = crc32 (d.nvBytes (margBase c + 64) (3456 * 128))

/-- R331: the copy of the margin area in force, with its MSEQ. -/
def Dev.margNow (d : Dev) : Option (Nat × Nat) :=
  let ok := d.margOk
  let q := fun c => d.nvNum (margBase c + 4) 4
  if ok 0 ∧ ok 1 then (if q 0 < q 1 then some (1, q 1) else some (0, q 0))
  else if ok 0 then some (0, q 0) else if ok 1 then some (1, q 1) else none

/-- R312, R331, R397: MARGIN_WRITE: the margin area is written to the other copy; behind a closed gate it waits. -/
def marginWrite (d : Dev) : Dev :=
  if d.nv.margDue.isNone || !d.gateOk 9 then d else
  let (c, q) := match d.margNow with | some (c, q) => (1 - c, q + 1) | none => (0, 1)
  let body := (List.range 3456).flatMap fun k => d.marginRec (k / 36) (k % 36)
  let head := leBytes 4 0x4D4E5A4A ++ leBytes 4 q ++ leBytes 4 (d.rd EV_HOURS_HOURS) ++ leBytes 4 (crc32 body) ++ List.replicate 48 0
  let d := nvProg (margBase c) (head ++ body) (nvErase (margBase c) 0x80000 d)
  d.updNv fun x => { x with margDue := none }

/-- R331: step 4 takes the margin plan of one patch from its record. -/
def takeMargin (f p : Nat) (r : List Nat) (d : Dev) : Dev :=
  let next := bytesAt r 1 1
  let v := if next = 0xFF then bytesAt r 0 1 else next
  let n := min 15 (bytesAt r 3 1)
  let d := (d.wr (ST_OP_PATCH_MOFS f p) v).updPt f p fun x => { x with mofs := v % 64 }
  let d := setMarg f p (fun _ => ⟨bytesAt r 0 1 % 64, if next = 0xFF then none else some (next % 64), bytesAt r 4 4, signedOf 16 (bytesAt r 8 2)⟩) d
  let d := { d with rp := { d.rp with strikes := tput [] (pkey f p) ((List.range n).map fun i => bytesAt r (16 + 4 * i) 4) d.rp.strikes } }
  if bitOf (bytesAt r 2 1) 0 then
    ((d.wr (ST_OP_PATCH_STATE f p) psRetired).wrB (ST_OP_PATCH_RETIRE f p) true).wrB (JZ_RET f p) true
  else d

/-- R330, step 5. -/
def takeMargins (d : Dev) : Dev :=
  let now := d.margNow
  let d := countBad [d.margOk 0, d.margOk 1] d
  match now with
  | none => d
  | some (c, _) =>
    let d := forN 3456 (fun k => takeMargin (k / 36) (k % 36) (d.nvBytes (margBase c + 64 + 128 * k) 128)) d
    d.wr JZ_AGE_STATUS_RETIRED (sumN ((List.range 96).map fun g => (d.retiredOf g).length))

/-! Sessions and slots (R297, R335). -/

/-- R283: codes of IMAGE_ACK.RESULT. -/
def imOk : Nat := 0
def imNoSession : Nat := 1
def imOrder : Nat := 2
def imWriteErr : Nat := 3
def imVerified : Nat := 4
def imVerifyFail : Nat := 5
def imBusy : Nat := 6
def imAuth : Nat := 7
def imStale : Nat := 8

/-- R335: the slot a session opens on: the one that is not ACTIVE; with none ACTIVE, slot A. -/
def Dev.inactive (d : Dev) : Bool := d.hdr.active = 0

/-- R339: NV_XFER, _LEN and _NEXT show the session. -/
def showXfer (d : Dev) : Dev :=
  match d.nv.session with
  | some s => (((d.wr NV_XFER_STATE (if s.verifying then 2 else 1)).wrB NV_XFER_PATH s.peer).wr NV_XFER_LEN_LENGTH s.len).wr NV_XFER_NEXT_NEXT s.next
  | none => d.wr NV_XFER_STATE 0

def xferResult (r : Nat) (d : Dev) : Dev := d.wr NV_XFER_RESULT r

/-- R335: a session opens: the slot is erased and WRITING. -/
def openSession (peer : Bool) (sender : Option Nat) (len : Nat) (d : Dev) : Dev :=
  let b := d.inactive
  let h := d.hdr
  let d := nvErase (slotBase b) 0x800000 d
  let d := putHdr { h with st := set2 b slWriting h.st, len := set2 b len h.len } d
  showXfer (xferResult imOk (d.updNv fun x => { x with session := some ⟨peer, sender, b, len, 0, d.time.nbRun, false⟩ }))

/-- R335: a session ends early, or its image fails: the slot is BAD. -/
def badSession (s : Session) (check : Nat) (d : Dev) : Dev :=
  let h := d.hdr
  let d := failReport s.slotB check (putHdr { h with st := set2 s.slotB slBad h.st } d)
  showXfer (xferResult imVerifyFail (d.updNv fun x => { x with session := none }))

/-- R297, R420: image bytes at an offset; the answer. -/
def writeChunk (off : Nat) (data : List Nat) (d : Dev) : Dev × Nat :=
  match d.nv.session with
  | none => (d, imNoSession)
  | some s =>
    if s.verifying ∨ !d.gateOk 9 then (d, imBusy)
    else if off ≠ s.next then (d, imOrder)
    else if s.len < off + data.length ∨ 0x800000 < off + data.length then (d, imWriteErr)
    else
      let next := off + data.length
      let d := nvProg (slotBase s.slotB + off) data d
      (showXfer (d.updNv fun x => { x with session := some { s with next, last := d.time.nbRun, verifying := next = s.len } }), imOk)

/-- R283: an IMAGE_ACK. -/
def imageAck (dst result counter sub : Nat) (d : Dev) : Dev :=
  sendMsg 0x0A dst sub ([result, 0, 0, 0] ++ leBytes 4 (d.rd NV_XFER_NEXT_NEXT) ++ leBytes 8 counter) d

/-- R297, R312: IMAGE_OPEN: a message whose LENGTH, KEY and COUNTER the signature engine has passed opens the session for its
sender; a session the engine opened on that pass becomes its sender's. -/
def imageOpen (m : List Nat) (sub : Nat) (d : Dev) : Dev :=
  let src := mSrc m
  let len := mBody m 0 3
  let key := mBody m 3 1
  let counter := mBody m 8 8
  let ack := fun r (d : Dev) => imageAck src r counter sub d
  if mType m ≠ 8 ∨ d.badMsg m then d
  else if !d.gateOk 9 then ack imBusy d
  else match d.pp.pass with
    | none => ack (if d.nv.session.isSome then imBusy else imAuth) d
    | some x =>
      if x.purpose ≠ 2 ∨ x.len ≠ len ∨ x.key ≠ key ∨ x.counter ≠ counter then ack (if d.nv.session.isSome then imBusy else imAuth) d
      else
        let d := (d.updPP fun p => { p with pass := none }).wrB NV_SIG_STATUS_PASS false
        let mine := match d.nv.session with | some s => s.peer && s.sender.isNone && s.len = len | none => false
        if d.nv.session.isSome && !mine then ack imBusy d
        else if !d.newCounter key counter ∨ !d.freshStamp x.stamp then
          ack imStale (match d.nv.session with | some s => badSession s 0 d | none => d)
        else
          let d := d.updPP fun p => { p with counters := tput none key (some counter) p.counters }
          ack imOk (if mine then d.updNv fun y => { y with session := y.session.map fun s => { s with sender := some src } }
            else openSession true (some src) len d)

/-- R297: IMAGE_CHUNK. The last chunk is answered when verification completes. -/
def imageChunk (m : List Nat) (sub : Nat) (d : Dev) : Dev :=
  let src := mSrc m
  if mType m ≠ 9 ∨ d.badMsg m then d
  else
    let mine := match d.nv.session with | some s => s.peer && s.sender = some src | none => false
    if !mine then imageAck src (if d.gateOk 9 then imNoSession else imBusy) 0 sub d
    else
      let (d', r) := writeChunk (mBody m 0 4) ((m.drop 32).take (mBody m 4 2)) d
      let last : Bool := match d'.nv.session with | some s => s.verifying | none => false
      if r = imOk && last then d'
      else imageAck src r 0 sub d'

/-- R297: IMAGE_IDLE. -/
def imageIdle : Nat := 100

/-- R297: IMAGE_SESSION_IDLE: a session with no chunk for IMAGE_IDLE bolts ends. -/
def imageSessionIdle (d : Dev) : Dev :=
  match d.nv.session with
  | some s => if !s.verifying && d.expired s.last (1000 * imageIdle) then badSession s 0 d else d
  | none => d

/-- R335: IMAGE_VERIFY_DONE. -/
def imageVerifyDone (fz : Fuses) (o : SigObs) (sub : Nat) (d : Dev) : Dev :=
  match d.nv.session with
  | none => d
  | some s =>
    if !s.verifying then d else
    let answer := fun r (d : Dev) => match s.peer, s.sender with
      | true, some src => imageAck src r 0 sub d
      | _, _ => d
    match d.imgFails fz s.slotB s.len o true with
    | some n => answer imVerifyFail (badSession s n d)
    | none =>
      let h := d.hdr
      let d := putHdr { h with st := set2 s.slotB slPending h.st, sec := set2 s.slotB (d.nvNum (slotBase s.slotB + 12) 4) h.sec } d
      answer imVerified (showXfer (xferResult imVerified (d.updNv fun x => { x with session := none })))

/-! The signature engine (R337). -/

def NV_SIG_MSG (k : Nat) : Fld := ⟨0x20090100 + 4 * k, 0, 32⟩

/-- R337: the message bytes in NV_SIG_BUF. -/
def Dev.sigMsg (d : Dev) (n : Nat) : List Nat := ((List.range 32).flatMap fun k => leBytes 4 (d.rd (NV_SIG_MSG k))).take n

/-- R337: SIG_VERIFY: NV_SIG_CMD GO. -/
def sigVerify (key purpose len : Nat) (d : Dev) : Dev :=
  if d.nv.sig.isSome ∨ purpose = 3 ∨ len = 0 ∨ 128 < len ∨ (purpose = 1 ∧ len ≠ 28) then conflict NV_STATUS_STATE_CONFLICT d
  else
    let d := ((d.wrB NV_SIG_STATUS_BUSY true).wrB NV_SIG_STATUS_DONE false).wrB NV_SIG_STATUS_PASS false
    let d := d.wrB NV_SIG_STATUS_KEY_EMPTY (tget none d.nv.keys key).isNone
    (d.updPP fun p => { p with pass := none }).updNv fun x => { x with sig := some ⟨key, purpose, d.sigMsg len⟩ }

/-- R337: SIG_VERIFY_DONE: `ok` is what the verifier finds. -/
def sigVerifyDone (ok : Bool) (d : Dev) : Dev :=
  match d.nv.sig with
  | none => d
  | some r =>
    let pass := ok && (tget none d.nv.keys r.key).isSome
    let d := ((d.updNv fun x => { x with sig := none }).wrB NV_SIG_STATUS_BUSY false).wrB NV_SIG_STATUS_DONE true
    if !pass then d else
    let m := r.msg
    let x : SigPass := { purpose := r.purpose, key := r.key, counter := bytesAt m 20 8, stamp := bytesAt m 4 8, value := bytesAt m 12 2
                         urgent := bitOf (bytesAt m 14 1) 0, len := bytesAt m 12 3 }
    let d := (d.wrB NV_SIG_STATUS_PASS true).updPP fun p => { p with pass := some x }
    if r.purpose = 2 ∧ d.nv.session.isNone then openSession true none x.len d else d

/-! The commands. -/

def execImageOpen (m : Cells) (sub : BitVec 12) (s : State) : Host.Outcome State Fault Refusal := done (arrive m fun m => imageOpen m sub.toNat) s
def execImageChunk (m : Cells) (sub : BitVec 12) (s : State) : Host.Outcome State Fault Refusal := done (arrive m fun m => imageChunk m sub.toNat) s
def execImageSessionIdle (s : State) : Host.Outcome State Fault Refusal := done imageSessionIdle s
def execImageVerifyDone (o : SigObs) (sub : BitVec 12) (s : State) : Host.Outcome State Fault Refusal :=
  done (imageVerifyDone s.fuses o sub.toNat) s
def execMarginWrite (s : State) : Host.Outcome State Fault Refusal := done marginWrite s
def execSigVerify (key purpose : BitVec 2) (len : BitVec 8) (s : State) : Host.Outcome State Fault Refusal :=
  done (sigVerify key.toNat purpose.toNat len.toNat) s
def execSigVerifyDone (ok : Bool) (s : State) : Host.Outcome State Fault Refusal := done (sigVerifyDone ok) s

end Sys2Proof.Machine
end

