-- ==== Sys2Proof/Machine/SelfTest.lean ====
section
/-! DEFINITION. Chapter 13, the self-test engine: slices and where they may run (R340, R341, R357), what they check (R343 to
R350), taking and returning a region (R354), failures (R355), events that end slices (R356), the stress test (R351 to R353),
assays (R242, R251) and TAP slices (R360). What an instrument measured comes with the command. -/

namespace Sys2Proof.Machine

def Dev.updTest (g : TestS → TestS) (d : Dev) : Dev := { d with test := g d.test }
def updStress (f : Nat) (g : Stress → Stress) (d : Dev) : Dev := d.updTest fun t => { t with stress := tupd Stress.init f g t.stress }

/-- R359: the outcomes. -/
def outPass : Nat := 0
def outFail : Nat := 1
def outAbandoned : Nat := 2
def outOverrun : Nat := 3

/-- R359: BT_RESULT and the counters for a slice that has ended. -/
def showResult (id f p outcome check : Nat) (d : Dev) : Dev :=
  let d := (((d.wr BT_RESULT_SLICE id).wr BT_RESULT_FIELD f).wr BT_RESULT_PATCH p).wr BT_RESULT_OUTCOME outcome
  let d := (d.wrB BT_RESULT_DONE true).wr BT_RESULT_CHECK check
  if outcome = outAbandoned then d.inc BT_CNT1_ABANDONED
  else if outcome = outOverrun then d.inc BT_CNT1_OVERRUN
  else onlyIf (outcome = outFail) (·.inc BT_CNT0_FAIL) (d.inc BT_CNT0_RUN)

/-! What the slices check (R343 to R346). -/

/-- R343: a count of the ADPLL output divided by 16 over 16 picks against num / den MHz, within 0.5 %. -/
def countOk (c num den : Nat) : Bool := decide (200 * ((c * den : Nat) - (num : Int)).natAbs ≤ num)

/-- R343: the points: indices 0, 24, 56, 88 and stretch levels 1 to 4 at index 56, as MHz fractions. -/
def clockPoints : List (Nat × Nat) := [(400, 1), (700, 1), (1100, 1), (1500, 1), (8800, 9), (4400, 5), (2200, 3), (1100, 2)]

/-- The number of the first element that fails a test. -/
def firstBad {α : Type} (ok : α → Bool) (l : List α) : Option Nat := l.findIdx? fun x => !ok x

/-- R343: the first failing point of PATCH_CLOCK. -/
def clockFail (counts : List (BitVec 16)) (lock : Bool) : Option Nat :=
  if !lock then some 0
  else firstBad (fun (x : Nat × (Nat × Nat)) => countOk x.1 x.2.1 x.2.2)
    ((List.range 8).map fun i => ((counts.getD i 0).toNat, clockPoints.getD i (1, 1)))

/-- R345: the errors e_k of one detector in 0.25 mV, from its crossing depths at levels 1, 6, 24 and 63. -/
def droopErrs (depths : List (BitVec 10)) (i : Nat) : List Int :=
  (List.range 4).map fun j => ((depths.getD (4 * i + j) 0).toNat : Int) - 10 * (([1, 6, 24, 63].getD j 0 : Nat) : Int)

/-- R345: CAL of a detector. -/
def droopCal (depths : List (BitVec 10)) (i : Nat) : Int := rs (sumI (droopErrs depths i)) 3

/-- R345: the first detector that fails. -/
def droopFail (depths : List (BitVec 10)) : Option Nat :=
  firstBad (fun i => decide (-32 ≤ droopCal depths i) && decide (droopCal depths i ≤ 31)
    && (droopErrs depths i).all fun e => decide ((e - 2 * droopCal depths i).natAbs ≤ 10)) (List.range 4)

/-- The first failing check of a slice, by what it found. -/
def obsFails : SliceObs → Option Nat
  | .flag x => x.map (·.toNat)
  | .clock counts lock => clockFail counts lock
  | .therm errs => firstBad (fun i => decide ((signedOf 12 (errs.getD i 0).toNat).natAbs ≤ 8)) (List.range 4)
  | .droop depths => droopFail depths
  | .trip rise => match rise with
    | some i => if 2 ≤ i.val ∧ i.val ≤ 10 then none else some 0
    | none => some 0

/-- R344: PATCH_THERM of one sensor. -/
def thermFail (o : SliceObs) (t : Nat) : Bool :=
  match o with
  | .therm errs => [0, 1].any fun j => decide (8 < (signedOf 12 (errs.getD (2 * t + j) 0).toNat).natAbs)
  | _ => (obsFails o).isSome

/-- R345: a passing sweep writes CAL. -/
def writeCal (f p : Nat) (o : SliceObs) (d : Dev) : Dev :=
  match o with
  | .droop depths => if (droopFail depths).isNone then forN 4 (fun i d => d.wrS (PS_DD_CAL_CAL f p i) (droopCal depths i)) d else d
  | _ => d

/-- R352, R355, R61: a sensor's slice failed or passed. -/
def sensorResult (f p t : Nat) (bad : Bool) (d : Dev) : Dev :=
  if bad then (if d.suspect f p t then d else markSuspect f p t d)
  else if d.suspect f p t then clearSuspect f p t d else d

/-- R352, R355: what PATCH_CLOCK, PATCH_DROOP and PATCH_PATTERN leave behind. -/
def clockResult (f p id : Nat) (o : SliceObs) (d : Dev) : Dev :=
  if id = 0x10 ∨ id = 0x12 ∨ id = 0x19 then (if (obsFails o).isSome then retirePatch f p d else writeCal f p o d) else d

/-- The slices of one sensor: PATCH_THERM and its three of PATCH_TRIP. -/
def sensorSlices (t : Nat) : List Nat := [0x11, 0x13 + 3 * t, 0x14 + 3 * t, 0x15 + 3 * t]

/-- R61, R352: the sensors of a patch after a set of slices: a failure of any marks the sensor; it must pass all four to lose a
mark. Log entry 133. -/
def sensorsResult (f p : Nat) (l : List (Nat × SliceObs)) (d : Dev) : Dev :=
  forN 2 (fun t d =>
    let bad := fun (x : Nat × SliceObs) => if x.1 = 0x11 then thermFail x.2 t else (obsFails x.2).isSome
    let mine := l.filter fun x => (sensorSlices t).contains x.1
    if mine.any bad then sensorResult f p t true d
    else if (sensorSlices t).all fun id => mine.any (·.1 = id) then sensorResult f p t false d else d) d

/-- R352, R355: what one patch slice leaves behind. -/
def patchResult (f p id : Nat) (o : SliceObs) (d : Dev) : Dev :=
  if id = 0x10 ∨ id = 0x12 ∨ id = 0x19 then clockResult f p id o d
  else if id = 0x11 then sensorResult f p 1 (thermFail o 1) (sensorResult f p 0 (thermFail o 0) d)
  else if 0x13 ≤ id ∧ id ≤ 0x18 then sensorResult f p ((id - 0x13) / 3) (obsFails o).isSome d
  else d

/-! Slices (R340, R341, R354). -/

def isPatchSlice (id : Nat) : Bool := decide (0x10 ≤ id) && decide (id ≤ 0x1F) || decide (0x80 ≤ id)
def isCentral (id : Nat) : Bool := id = 1 || id = 2 || id = 0x30
/-- The field a slice counts for; central slices count for the manager. -/
def sliceField (id f : Nat) : Nat := if isCentral id then central else f

/-- R340: the slice that runs or waits on a field. -/
def Dev.sliceAt (d : Dev) (f : Nat) : Option Slice := d.test.slices.find? (·.field = f)
def Dev.assayIn (d : Dev) (f : Nat) : Bool := match d.rp.assaying with | some a => a.field = f | none => false

/-- R341: the patch of a slice in service serves. -/
def Dev.patchServes (d : Dev) (f p : Nat) : Bool := decide (f < 96) && decide (p < 36) && d.inService f && d.runs f p

/-- R340, R341, R357: the slice may run. -/
def Dev.sliceMay (d : Dev) (id f p : Nat) : Bool :=
  let svc := d.ready
  let normal := d.rd (PS_STATUS_BAND f p) = 0
  let free := (d.sliceAt (sliceField id f)).isNone && !d.inStress f && !d.assayIn f
  free && if id = 1 ∨ id = 2 then svc
    else if id = 0x30 then svc && !d.rdB CK_STATUS_TB_Q
    else if id = 0x10 ∨ id = 0x12 ∨ id = 0x19 ∨ id = 0x1F then svc && d.patchServes f p
    else if id = 0x11 then svc && d.patchServes f p && normal
    else if 0x13 ≤ id ∧ id ≤ 0x18 then
      svc && d.patchServes f p && normal && d.selState = selRun && !d.suspect f p (1 - (id - 0x13) / 3)
    else if id = 0x20 then svc && decide (f < 96) && d.inService f
    else if id = 0x21 then svc && decide (f < 96) && d.link f (p % 4) = linkLost
    else if id = 0x40 then
      svc && decide (f < 96) && (d.fd f).enable && !(d.fd f).refused
        && !(d.test.stress.any fun x => x.2.retest && decide (1 ≤ x.2.phase) && decide (x.2.phase ≤ 6))
    else if 0x80 ≤ id then d.mg.lc ≠ .field && d.patchServes f p
    else false

/-- R341: the budget of a slice in picks. -/
def Dev.sliceBudget (d : Dev) (id units : Nat) : Nat :=
  let b := orDef (d.rd BT_CFG0_SLICE_BUDGET) 1
  if isCentral id then 200 else if id = 0x21 then 400 else if id = 0x1F then 10 * b
  else if 0x80 ≤ id then 100 * orDef units 1 else b

/-- R354: the registers saved for a patch: stretch, floors, calibration, the activity counter latch. -/
def saveAddrs (f p : Nat) : List Nat := ([0x20, 0x24, 0x2C] ++ (List.range 11).map fun i => 0x50 + 4 * i).map (psBase f p + ·)

/-- R122, R347: the slices that run PATCH_PATTERN, at the sentinel guard. -/
def atGuard (id : Nat) : Bool := id = 0x19 || id = 0x1F

/-- R354, R117: a slice takes its region. -/
def takeRegion (s : Slice) (d : Dev) : Dev :=
  let saved := if isPatchSlice s.id then (saveAddrs s.field s.patch).map fun a => (a, d.reg a) else []
  let d := d.updTest fun t => { t with
    slices := t.slices.map fun x => if x.field = s.field then { s with run := true, at_ := d.time.nbRun, saved } else x
    scrub := if s.id = 1 then (t.scrub + 1) % 8 else t.scrub }
  if atGuard s.id then
    let d := d.wrB (ST_OP_PATCH_SENT s.field s.patch) true
    onlyIf (s.id = 0x1F) (·.wrB (PS_STATUS_REPLAY s.field s.patch) true) d
  else d

/-- R354, R360: the patches that a slice takes: a TAP slice holds the patches of its patch's domain. -/
def Slice.patches (s : Slice) : List Nat := if 0x80 ≤ s.id then patchesOf (domOf s.patch) else [s.patch]

/-- R246, R344, R354: the region of a slice can be taken at this boundary; PATCH_THERM starts only at a scan boundary of the normal
band. -/
def Dev.regionFree (d : Dev) (s : Slice) : Bool :=
  !d.stopped
    && (!isPatchSlice s.id || s.patches.all fun p => (d.openSteps s.field p).isEmpty && (d.holder s.field p).isNone)
    && (s.id ≠ 0x11 || (d.rd (PS_STATUS_BAND s.field s.patch) = 0 && d.periodic 1000))

/-- R137, R351: a stress test begins on a field, which does not serve until it is brought up again; its frames carry RUN. Log entry
129. -/
def stressBegin (retest : Bool) (f : Nat) (d : Dev) : Dev :=
  updStress f (fun _ => { Stress.init with phase := 1, retest, from_ := d.time.nbRun, phaseAt := d.time.nbRun })
    (forN 4 (fun k d => d.wr (ST_LINK_CMD_MODE_REQ f k) modeRun) (d.updFd f fun x => { x with up := false, passed := false }))

/-- R354: FIELD_ENGINE or STRESS on a field in service takes the whole field, which is stopped. Log entry 135. -/
def takeField (f : Nat) (d : Dev) : Dev := onlyIf (d.inService f) (stopField .selfTest f) d

/-- R341, R353, R354, R357: SLICE_GO: a write of BT_CMD with GO. -/
def sliceGo (w : Nat) (tap : Bool) (d : Dev) : Dev :=
  let id := bitsOf w 0 8
  let f := bitsOf w 8 7
  let p := bitsOf w 16 6
  if (d.rdB BT_STATUS_TAP && !tap) || (tap && d.mg.lc = .field) || !d.sliceMay id f p then conflict BT_STATUS_STATE_CONFLICT d
  else if id = 0x40 then stressBegin true f (takeField f d)
  else
    let d := onlyIf (id = 0x20) (takeField f) d
    let s : Slice := ⟨id, sliceField id f, p, false, d.time.nbRun, d.sliceBudget id (bitsOf w 24 8), [], false⟩
    let d := d.updTest fun t => { t with slices := t.slices ++ [s] }
    if isPatchSlice id ∨ d.stopped then d else takeRegion s d

/-- R354: the region of a slice is given back. -/
def giveBack (s : Slice) (keepCal : Bool) (d : Dev) : Dev :=
  let d := d.updTest fun t => { t with slices := t.slices.filter (·.field ≠ s.field) }
  if !isPatchSlice s.id || !s.run then d else
  let d := forL s.saved (fun x d => if keepCal ∧ x.1 = psBase s.field s.patch + 0x2C then d else d.setReg x.1 x.2) d
  setFloors s.field s.patch (idlePatch s.field s.patch d)

/-- R356, R359: a slice ends without a verdict. -/
def dropSlice (outcome : Nat) (s : Slice) (d : Dev) : Dev := showResult s.id s.field s.patch outcome 0 (giveBack s false d)

/-- R360: the descriptor of a TAP slice that ends it as FAIL, with its index; descriptors run up to LAST. -/
def Dev.patFail (d : Dev) : Nat → Nat → Option Nat
  | 0, _ => none
  | fuel + 1, i =>
    let w := (d.rd (BT_PAT_WORD (8 * i)))
    let fmt := bitsOf w 0 8
    let fidx := bitsOf w 8 8
    let vid := bitsOf w 16 8
    if 7 < fmt ∨ 88 < fidx ∨ vid < 20 ∨ 160 < vid then some (i % 16)
    else if bitOf w 25 then none else d.patFail fuel (i + 1)

/-- R355: a failure in service of a slice that is not of a patch. -/
def failService (s : Slice) (d : Dev) : Dev :=
  if s.id = 1 ∨ s.id = 2 then d.raise .selftest 1 central 0
  else if s.id = 0x30 then (d.updTime fun t => { t with laneOff := true }).raise .selftest 5 central 0
  else if s.id = 0x20 then d.raise .selftest 3 s.field 0
  else if s.id = 0x21 then d.raise .selftest 4 s.field (s.patch % 4)
  else d

/-! Assays (R242, R251, R354). -/

/-- The parts of PATCH_ASSAY, in order (R341). -/
def assayParts : List Nat := [0x10, 0x11, 0x12, 0x13, 0x14, 0x15, 0x16, 0x17, 0x18, 0x19]

/-- The results of the parts of an assay: whether one failed, the first failing check, and what they leave behind. -/
def assayFails (obs : List SliceObs) : Option Nat := ((assayParts.zip obs).findSome? fun x => (obsFails x.2))
def assayResults (f p : Nat) (obs : List SliceObs) (d : Dev) : Dev :=
  sensorsResult f p (assayParts.zip obs) (forL (assayParts.zip obs) (fun x d => clockResult f p x.1 x.2 d) d)

/-- R242, R251: the assay that runs is over: the patch is released. -/
def endAssay (a : Assay) (d : Dev) : Dev :=
  let d := d.updRp fun r => { r with assaying := none }
  let d := if a.asked then idlePatch a.field a.patch d else dropPatch a.field a.patch d
  match a.rel with
  | some q => writeReq q d
  | none => d

/-- R356: an assay is abandoned. -/
def dropAssay (a : Assay) (d : Dev) : Dev :=
  let d := match d.sliceAt a.field with
    | some s => if s.id = 0x1F then giveBack s false d else d
    | none => d
  showResult 0x1F a.field a.patch outAbandoned 0 (endAssay a d)

/-- R411: the fields a caller's jobs occupy; the core's are all. -/
def Dev.fieldsOf (d : Dev) (who : Nat) : List Nat :=
  if 8 ≤ who then List.range 96 else distinct ((d.bud.owns.filter (·.2.1 = who)).flatMap (·.2.2))

/-- R251: ASSAY_REQ. -/
def assayReq (who f p : Nat) (d : Dev) : Dev :=
  if f ∉ d.fieldsOf who ∨ 36 ≤ p ∨ d.retired f p ∨ 8 ≤ d.rp.assays.length then
    conflict LG_RP_STATUS_STATE_CONFLICT d
  else d.updRp fun r => { r with assays := r.assays ++ [(f, p)] }

/-- R242, R251: the assay that is next: verdict assays first. -/
def Dev.nextAssay (d : Dev) : Option Assay :=
  match d.rp.verdictAssays, d.rp.assays with
  | a :: _, _ => some a
  | [], (f, p) :: _ => some ⟨f, p, true, none⟩
  | [], [] => none

/-- R142, R242, R251: ASSAY_START: the next assay starts once no step is open on its patch and REPLAY is not held there; one whose patch no longer serves is
abandoned. -/
def assayStart (d : Dev) : Dev :=
  if d.stopped || d.rp.assaying.isSome then d else
  match d.nextAssay.filter fun a => !d.replayHeld a.field a.patch with
  | none => d
  | some a =>
    let take := fun (d : Dev) => d.updRp fun r => { r with
      assaying := some a
      verdictAssays := if a.asked then r.verdictAssays else r.verdictAssays.drop 1
      assays := if a.asked then r.assays.drop 1 else r.assays }
    if !d.patchServes a.field a.patch then dropAssay a (take d)
    else if !(d.openSteps a.field a.patch).isEmpty || (d.sliceAt a.field).isSome
        || (a.asked && (d.holder a.field a.patch).isSome) then d
    else
      let s : Slice := ⟨0x1F, a.field, a.patch, false, d.time.nbRun, d.sliceBudget 0x1F 0, [], false⟩
      takeRegion s ((take d).updTest fun t => { t with slices := t.slices ++ [s] })

/-- R122, R251, R354, R355: ASSAY_DONE. -/
def assayDone (obs : List SliceObs) (d : Dev) : Dev :=
  match d.rp.assaying with
  | none => d
  | some a =>
    match d.sliceAt a.field with
    | none => d
    | some s =>
      if s.id ≠ 0x1F ∨ s.go = false then d else
      let bad := assayFails obs
      let d := giveBack s true (assayResults a.field a.patch obs d)
      let d := showResult 0x1F a.field a.patch (if bad.isSome then outFail else outPass) (bad.getD 0) (endAssay a d)
      ((d.wrB LG_ASSAY_STAT_LAST_FAIL bad.isSome).wr LG_ASSAY_STAT_LAST_FIELD a.field).wr LG_ASSAY_STAT_LAST_PATCH a.patch

/-! The slice commands. -/

/-- R359: SLICE_ABORT. -/
def sliceAbort (f : Nat) (d : Dev) : Dev :=
  match d.rp.assaying, d.sliceAt f with
  | some a, _ => if a.field = f then dropAssay a d else
    match d.sliceAt f with
    | some s => dropSlice outAbandoned s d
    | none => conflict BT_STATUS_STATE_CONFLICT d
  | none, some s => dropSlice outAbandoned s d
  | none, none =>
    if d.inStress f ∧ (d.stressOf f).retest then
      showResult 0x40 f 0 outAbandoned 0 (forN 4 (fun k d => (setLink f k linkInit d).updDm f k fun x => { x with handBack := false })
        (updStress f (fun _ => Stress.init) d))
    else conflict BT_STATUS_STATE_CONFLICT d

/-- R142, R354: SLICE_REGION_TAKE; a REPLAY hold keeps back PATCH_ASSAY. -/
def sliceRegionTake (f : Nat) (d : Dev) : Dev :=
  match d.sliceAt f with
  | some s => if !s.run && d.regionFree s && !(s.id = 0x1F && d.replayHeld s.field s.patch) then takeRegion s d else d
  | none => d

/-- R341: SLICE_REGION_TIMEOUT. -/
def sliceRegionTimeout (f : Nat) (d : Dev) : Dev :=
  match d.sliceAt f with
  | some s => if !s.run && d.expired s.at_ (1000 * orDef (d.rd BT_CFG0_REGION_WAIT) 1) then dropSlice outAbandoned s d else d
  | none => d

/-- R341: SLICE_OVERRUN. -/
def sliceOverrun (f : Nat) (d : Dev) : Dev :=
  match d.sliceAt f with
  | some s =>
    if s.run && d.expired s.at_ s.budget then
      match d.rp.assaying with
      | some a => if a.field = f ∧ s.id = 0x1F then showResult s.id f s.patch outOverrun 0 (endAssay a (giveBack s false d)) else dropSlice outOverrun s d
      | none => dropSlice outOverrun s d
    else d
  | none => d

/-- R122, R354, R355: SLICE_DONE; a slice at the sentinel guard is not done before the guard is known complete. -/
def sliceDone (f : Nat) (obs : List SliceObs) (d : Dev) : Dev :=
  match d.sliceAt f with
  | some s =>
    if !s.run || (s.id = 0x1F && d.assayIn f) || (atGuard s.id && !s.go) then d else
    let o := obs.headD (.flag none)
    let bad := if s.id = 0x1F then assayFails obs
      else if 0x80 ≤ s.id then (match d.patFail 128 0 with | some i => some i | none => obsFails o) else obsFails o
    let d := if s.id = 0x1F then assayResults f s.patch obs d else if isPatchSlice s.id then patchResult f s.patch s.id o d
      else onlyIf bad.isSome (failService s) d
    showResult s.id f s.patch (if bad.isSome then outFail else outPass) (bad.getD 0) (giveBack s true d)
  | none => d

/-- R356: the events at a boundary that end slices: a stopped field, a stopped wafer, hold-safe, a lost link, a patch out
of the normal band. FIELD_ENGINE has stopped its field itself. -/
def Dev.sliceEnds (d : Dev) (s : Slice) : Bool :=
  (isPatchSlice s.id && (!d.patchServes s.field s.patch
      || d.selStop || d.rdB (ST_OP_STATUS_HOLD_SAFE s.field) || d.link s.field (domOf s.patch) = linkLost
      || (s.run && (s.id = 0x11 || (decide (0x13 ≤ s.id) && decide (s.id ≤ 0x18))) && d.rd (PS_STATUS_BAND s.field s.patch) ≠ 0)))
    || ((s.id = 0x20 || s.id = 0x21 || isCentral s.id) && (d.selStop || d.clk.held))

/-- R122, R142, R356: a slice at the sentinel guard goes on once the guard is known complete and REPLAY, which pays for an assay, is
not held. -/
def guardBoundary (d : Dev) : Dev :=
  d.updTest fun t => { t with slices := t.slices.map fun s =>
    { s with go := s.go || (s.run && atGuard s.id && d.guardMet s.field s.patch && !(s.id = 0x1F && d.replayHeld s.field s.patch)) } }

/-- R356: slices and assays end at a boundary; in a global stop every running one does. -/
def testEnds (d : Dev) : Dev :=
  let d := match d.rp.assaying with
    | some a => match d.sliceAt a.field with
      | some s => if s.id = 0x1F ∧ (d.stopped ∨ d.sliceEnds s = true) then dropAssay a d else d
      | none => d
    | none => d
  forL d.test.slices (fun s d =>
    if s.id = 0x1F ∧ d.assayIn s.field = true then d
    else if (d.stopped ∧ s.run = true) ∨ d.sliceEnds s = true then dropSlice outAbandoned s d else d) d

/-- What a boundary does with slices and assays. -/
def testBoundary (d : Dev) : Dev := guardBoundary (testEnds d)

/-! The stress test (R351, R352). -/

/-- R351, R352: a phase begins. -/
def toPhase (f n : Nat) (d : Dev) : Dev :=
  let d := updStress f (fun s => { s with phase := n, phaseAt := d.time.nbRun }) d
  if n = 6 then forN 4 (fun k d => (setLink f k linkInit d).updDm f k fun x => { x with handBack := true }) d else d

/-- R352: the field fails its test, by a slice; phase 7 closes it. -/
def failField (f slice : Nat) (d : Dev) : Dev :=
  let d := updStress f (fun s => { s with failed := true, failSlice := if s.failed then s.failSlice else slice }) d
  forN 4 (fun k d => (setLink f k linkInit d).updDm f k fun x => { x with handBack := false }) d

/-- R352: too many retired patches fail the field. -/
def countRetired (f slice : Nat) (d : Dev) : Dev :=
  if d.rd BT_CFG1_FIELD_RETIRE_MAX < (d.retiredOf f).length then failField f slice d else d

/-- R331, R352, R396: a patch fails a low point: it returns from an offset proposed for this start, is raised, or is retired. -/
def lowFail (f p : Nat) (d : Dev) : Dev :=
  let m := d.marg f p
  let n := tget 0 (d.stressOf f).raised p
  if d.retired f p then d
  else if m.next.isSome ∧ d.start.step = 7 then
    margDirty (setMarg f p (fun m => { m with next := none })
      ((updStress f (fun s => { s with returned := p :: s.returned }) d).wr (ST_OP_PATCH_MOFS f p) m.mofs |>.updPt f p fun x => { x with mofs := m.mofs }))
  else if d.rd BT_CFG1_STRESS_RAISE ≤ n ∨ 63 ≤ d.rd (ST_OP_PATCH_MOFS f p) then countRetired f 0x40 (retirePatch f p d)
  else
    let d := raiseMofs f p 1 (updStress f (fun s => { s with raised := tput 0 p (n + 1) s.raised, raises := satN 63 (s.raises + 1) }) d)
    d.updPt f p fun x => { x with mofs := d.rd (ST_OP_PATCH_MOFS f p) }

/-- R352: a patch fails a high point. -/
def highFail (f p : Nat) (d : Dev) : Dev := if d.retired f p then d else countRetired f 0x40 (retirePatch f p d)

/-- R352, R355: the points of a corner are settled; every failure counts. -/
def settlePoints (f : Nat) (l : List PointObs) (d : Dev) : Dev :=
  forL l (fun x d => if x.low then lowFail f x.patch.val d else highFail f x.patch.val d) (d.add BT_CNT0_FAIL l.length)

/-- R355, R359: the slices of phase 1 count, and those that failed. -/
def countPhase (o : PhaseObs) (d : Dev) : Dev :=
  (d.add BT_CNT0_RUN (5 + o.patches.length)).add BT_CNT0_FAIL
    (b01 o.engine.isSome + o.links.length + (o.patches.filter fun x => (obsFails x.obs).isSome).length)

/-- R351, R352: phase 1 of a field. -/
def analogue (f : Nat) (o : PhaseObs) (d : Dev) : Dev :=
  let d := countPhase o d
  let d := forL o.patches (fun x d => if d.retired f x.patch.val then d
    else countRetired f x.slice.toNat (clockResult f x.patch.val x.slice.toNat x.obs d)) d
  let d := forL ((List.range 36).filter fun p => !d.retired f p) (fun p d =>
    sensorsResult f p (o.patches.filterMap fun x => if x.patch.val = p then some (x.slice.toNat, x.obs) else none) d) d
  let d := if o.engine.isSome then failField f 0x20 d else d
  if o.links.isEmpty then d else failField f 0x21 d

/-- R351: the limit of a phase in bolts. -/
def phaseLimit (n : Nat) : Option Nat := if n = 1 then some 20 else if n = 2 then some 10 else if n = 6 then some 2 else none

/-- R318, R352: a phase or the whole test has overrun. -/
def Dev.stressOver (d : Dev) (f : Nat) : Bool :=
  let s := d.stressOf f
  d.expired s.from_ 20000000 || (match phaseLimit s.phase with | some n => d.expired s.phaseAt (1000 * n) | none => false)

/-- R351: every domain has had 16 valid up frames. -/
def Dev.linksUp (d : Dev) (f : Nat) : Bool := (List.range 4).all fun k => d.link f k = linkUp

/-- R351: the field has warmed. -/
def Dev.heated (d : Dev) (f : Nat) : Bool :=
  let ps := (List.range 36).filter fun p => !d.retired f p
  decide ((d.tCtrl : Int) - d.rd BT_CFG1_HOT_OFS ≤ d.tempMax f ps)

/-- R351: STRESS_PHASE_DONE. -/
def stressPhaseDone (f : Nat) (o : PhaseObs) (d : Dev) : Dev :=
  let s := d.stressOf f
  if d.stopped || s.failed || !d.inStress f then d
  else if d.stressOver f then failField f 0x40 d
  else if s.phase = 1 then
    let d := analogue f o d
    if (d.stressOf f).failed then d else toPhase f 2 d
  else if s.phase = 2 then (if d.linksUp f then toPhase f 3 d else d)
  else if s.phase = 3 then
    let d := settlePoints f o.points d
    if (d.stressOf f).failed then d else toPhase f (if s.retest ∨ d.rd BT_CFG2_HEAT_LIMIT = 0 then 5 else 4) d
  else if s.phase = 4 then (if d.heated f then toPhase f 5 d else d)
  else if s.phase = 5 then
    let d := settlePoints f o.points d
    if (d.stressOf f).failed then d else toPhase f 6 d
  else d

/-- R351: HEAT_LIMIT_EXPIRE. -/
def heatLimitExpire (f : Nat) (d : Dev) : Dev :=
  let s := d.stressOf f
  if !d.stopped && s.phase = 4 && !s.failed && d.expired s.phaseAt (1000 * d.rd BT_CFG2_HEAT_LIMIT) then
    toPhase f 5 (updStress f (fun s => { s with hotShort := true }) d)
  else d

/-- R331, R352, R396: the proposed offsets of a field that passed take effect. -/
def keepProposed (f p : Nat) (d : Dev) : Dev :=
  match (d.marg f p).next with
  | none => d
  | some n => if d.retired f p ∨ d.start.step ≠ 7 then d else
    margDirty (setMarg f p (fun m => { m with mofs := n, next := none, base := m.base + orDef (d.rd (ST_AGE_CFG0_KV f)) 1 })
      ((d.wr (ST_OP_PATCH_MOFS f p) n).updPt f p fun x => { x with mofs := n }))

/-- R352, R353, R355: STRESS_DONE. -/
def stressDone (f : Nat) (d : Dev) : Dev :=
  let s := d.stressOf f
  if d.stopped || !d.inStress f then d
  else
    let d := if d.stressOver f && !s.failed then failField f 0x40 d else d
    let s := d.stressOf f
    if s.failed then
      let d := updStress f (fun s => { s with phase := 7, result := 2, phaseAt := d.time.nbRun }) d
      let d := (d.wrB (BT_PASS_FIELD f) false).updFd f fun x =>
        { x with passed := false, up := false, stop := if x.stop = .none then .selfTest else x.stop }
      let late := d.expired s.from_ 20000000
      onlyIf late (·.inc BT_CNT0_FAIL) (showResult 0x40 f 0 (if late then outOverrun else outFail) 0 (d.raise .selftest 2 f 0))
    else if s.phase = 6 then
      let d := forN 36 (keepProposed f) (updStress f (fun s => { s with phase := 7, result := 1, phaseAt := d.time.nbRun }) d)
      showResult 0x40 f 0 outPass 0 ((d.wrB (BT_PASS_FIELD f) true).updFd f fun x => { x with passed := true })
    else d

/-- R359: BT_STATUS.RUNNING. -/
def Dev.sliceRuns (d : Dev) : Nat := (d.test.slices.filter (·.run)).length
def Dev.stressAny (d : Dev) : Bool := d.test.stress.any fun x => decide (1 ≤ x.2.phase) && decide (x.2.phase ≤ 6)

/-- R359: BT_FSTAT. -/
def Dev.fstat (d : Dev) : Nat :=
  let f := d.rd BT_FSEL_FIELD
  let s := d.stressOf f
  s.phase + s.result * 2 ^ 3 + b01 s.hotShort * 2 ^ 5 + s.raises % 64 * 2 ^ 6 + min 63 (d.retiredOf f).length * 2 ^ 12 + s.failSlice % 256 * 2 ^ 18

/-! The commands. -/

def execAssayReq (who : Fin 9) (f : BitVec 7) (p : BitVec 6) (s : State) : Host.Outcome State Fault Refusal :=
  done (assayReq who.val f.toNat p.toNat) s
def execAssayStart (s : State) : Host.Outcome State Fault Refusal := done assayStart s
def execAssayDone (obs : List SliceObs) (s : State) : Host.Outcome State Fault Refusal := done (assayDone obs) s
def execSliceGo (w : BitVec 32) (tap : Bool) (s : State) : Host.Outcome State Fault Refusal := done (sliceGo w.toNat tap) s
def execSliceAbort (f : BitVec 7) (s : State) : Host.Outcome State Fault Refusal := done (sliceAbort f.toNat) s
def execSliceRegionTake (f : BitVec 7) (s : State) : Host.Outcome State Fault Refusal := done (sliceRegionTake f.toNat) s
def execSliceRegionTimeout (f : BitVec 7) (s : State) : Host.Outcome State Fault Refusal := done (sliceRegionTimeout f.toNat) s
def execSliceDone (f : BitVec 7) (obs : List SliceObs) (s : State) : Host.Outcome State Fault Refusal := done (sliceDone f.toNat obs) s
def execSliceOverrun (f : BitVec 7) (s : State) : Host.Outcome State Fault Refusal := done (sliceOverrun f.toNat) s
def execStressPhaseDone (f : Fin 96) (o : PhaseObs) (s : State) : Host.Outcome State Fault Refusal := done (stressPhaseDone f.val o) s
def execHeatLimitExpire (f : Fin 96) (s : State) : Host.Outcome State Fault Refusal := done (heatLimitExpire f.val) s

end Sys2Proof.Machine
end

