-- ==== Sys2Proof/Machine/Faults.lean ====
section
/-! DEFINITION. Chapter 14, the fault collector: accepting a record (R364 to R366), reaction levels and escalation (R367,
R368), host notices (R369), L4 (R370), the error pin (R371), forced records (R372), memory errors and poison (R373). The
reset that ends L4 is in Start. -/

namespace Sys2Proof.Machine

def Dev.fcls (d : Dev) (c : Nat) : ClassS := tget ClassS.init d.fc.cls c
def updCls (c : Nat) (g : ClassS → ClassS) (d : Dev) : Dev := { d with fc := { d.fc with cls := tupd ClassS.init c g d.fc.cls } }

/-- R368: the level of a class's reaction state, and whether it is ACTIVE. -/
def Dev.fcLevel (d : Dev) (c : Nat) : Nat := d.rd (FC_STATE_LEVEL c)
def Dev.fcActive (d : Dev) (c : Nat) : Bool := d.fcLevel c ≠ 0 && !d.rdB (FC_STATE_ACKED c)

/-- R363: the level of a type: as FC_LVL sets it, held within its range. -/
def Dev.levelOf (d : Dev) (c t : Nat) : Nat :=
  match typeRow c t with
  | some (_, lo, hi) => max lo (min hi (d.rd (FC_LVL c t)))
  | none => 0

/-- R367: the management core's fault interrupt. -/
def Dev.faultIrq (d : Dev) : Bool := (List.range 12).any d.fcActive

/-! Records (R364 to R366). -/

/-- R364: words 0 to 5 of a record. -/
def Rec.words (r : Rec) : List Nat :=
  [r.cls % 16 + r.typ % 256 * 2 ^ 4 + r.level % 8 * 2 ^ 12 + b01 r.forced * 2 ^ 15 + b01 r.h * 2 ^ 16,
   r.field % 128 + r.index % 1024 * 2 ^ 7 + r.sub % 4 * 2 ^ 17, r.value,
   (match r.job with | some j => j % 4096 + 2 ^ 12 | none => 0), r.stamp % 2 ^ 32, r.stamp / 2 ^ 32, 0, 0]

/-- R365: an event record enters the history queue. -/
def toHistory (r : Rec) (d : Dev) : Dev :=
  let e := d.rd FC_HQ_HEAD_NEXT
  let d := onlyIf (d.rd (FC_HQ_WORD e 0) ≠ 0) (·.inc FC_HQ_HEAD_OVER) d
  let d := forL (r.words.zip (List.range 8)) (fun x d => d.wr (FC_HQ_WORD e x.2) x.1) d
  (d.wr FC_HQ_HEAD_NEXT ((e + 1) % 32)).wr FC_HQ_TOTAL_TOTAL ((d.rd FC_HQ_TOTAL_TOTAL + 1) % 2 ^ 32)

/-- R362: ADDR of a capture; SELFTEST records without one of their own name field and patch as BT_RESULT does. -/
def Report.capAddr (r : Report) : Nat := if r.cls = 11 ∧ r.addr = 0 then r.field * 2 ^ 8 + r.index % 64 * 2 ^ 16 else r.addr

/-- R366: an access record meets the capture of its class. -/
def toCapture (r : Report) (x : Rec) (d : Dev) : Dev :=
  let k := r.cls - 6
  let held := d.rdB (FC_CAP_INFO_VALID k)
  if held ∧ x.level ≤ d.rd (FC_CAP_INFO_LEVEL k) then d.inc (FC_CAP_INFO_MORE k)
  else
    let d := onlyIf held (·.inc (FC_CAP_INFO_MORE k)) d
    let d := ((d.wr (FC_CAP_ADDR_ADDR k) r.capAddr).wr (FC_CAP_INFO_MASTER k) r.master).wr (FC_CAP_INFO_ACCESS k) r.access
    let d := ((d.wr (FC_CAP_INFO_TYPE k) r.typ).wr (FC_CAP_INFO_LEVEL k) x.level).wrB (FC_CAP_INFO_FORCED k) r.forced
    let d := (d.wrB (FC_CAP_INFO_H k) x.h).wrB (FC_CAP_INFO_VALID k) true
    (d.wr (FC_CAP_TS_LO_STAMP k) x.stamp).wr (FC_CAP_TS_HI_STAMP k) (x.stamp / 2 ^ 32)

/-! Host notices (R369). -/

/-- R369: the notice of a record, at a level. -/
def noticeOf (r : Rec) (level : Nat) : Owed :=
  { cls := r.cls
    w0 := r.cls % 16 + r.typ % 256 * 2 ^ 4 + level % 8 * 2 ^ 12 + b01 r.forced * 2 ^ 15 + r.field % 128 * 2 ^ 16
      + r.index % 1024 * 2 ^ 23 + (r.job.getD 0) % 4096 * 2 ^ 33 + b01 r.job.isSome * 2 ^ 45 + b01 r.h * 2 ^ 46
    w1 := r.stamp }

/-- R369: offer a notice; a refused one stays owed. -/
def offerFault (o : Owed) (d : Dev) : Dev :=
  let h := d.rd FC_HOSTQ_QHANDLE
  if d.takes h then d.emit (.hostNotice h o.w0 o.w1) else { d with fc := { d.fc with owed := d.fc.owed ++ [o] } }

/-- R369, R370: the notice of a record at a level; that of L4 is offered once. -/
def tellFault (r : Rec) (level : Nat) (d : Dev) : Dev :=
  if level < 4 ∨ d.takes (d.rd FC_HOSTQ_QHANDLE) = true then offerFault (noticeOf r level) d else d

/-- R369: owed notices are offered again, in order. -/
def offerFaults (d : Dev) : Dev :=
  let l := d.fc.owed
  forL l offerFault { d with fc := { d.fc with owed := [] } }

/-! Reactions (R367, R368, R370). -/

/-- R370: a class reaches L4: every field stops; FC_L4 keeps the record and counts the reset to come. -/
def reachL4 (r : Rec) (d : Dev) : Dev :=
  if d.fc.l4.isSome then d else
  let d := forN 96 (stopField .level4) d
  let d := (((d.wr FC_L4_CLASS r.cls).wr FC_L4_TYPE r.typ).wr FC_L4_FIELD r.field).wr FC_L4_INDEX r.index
  let d := ((d.wrB FC_L4_VALID true).inc FC_L4_COUNT).wr FC_L4_TS_LO_STAMP r.stamp
  let d := d.wr FC_L4_TS_HI_STAMP (r.stamp / 2 ^ 32)
  { d with fc := { d.fc with l4 := some d.time.nb, l4Bolts := 0, readyBolts := 0 }, ev := { d.ev with shutDue := true } }

/-- R367: at level 3 and above the fields named by the class's records stop. -/
def stopNamed (c : Nat) (d : Dev) : Dev :=
  if d.fcActive c ∧ 3 ≤ d.fcLevel c then forL (d.fcls c).fields (stopField .level3) d else d

/-- R368: a class becomes ACTIVE at a level: its timer starts, its records join until the next bolt boundary, and the
actions up to that level are taken. -/
def activate (c n : Nat) (r : Rec) (d : Dev) : Dev :=
  let d := (d.wr (FC_STATE_LEVEL c) n).wrB (FC_STATE_ACKED c) false
  let d := (d.wr (FC_UNCLR_MAX c) (max n (d.rd (FC_UNCLR_MAX c)))).wrB (FC_UNCLR_ANY c) true
  let d := updCls c (fun x => { x with timer := if n < 4 then some d.time.nb else none, joining := true }) d
  onlyIf (decide (4 ≤ n)) (reachL4 r) (stopNamed c d)

/-- R367, R368: the level after k; a class with a record of the central manager skips L3. -/
def nextLevel (k : Nat) (centralToo : Bool) : Nat := if k = 2 ∧ centralToo = true then 4 else min 4 (k + 1)

/-- R368: the level a record of level j takes its class to, and whether that is an escalation; none: unchanged. -/
def Dev.moves (d : Dev) (c j : Nat) : Option (Nat × Bool) :=
  let k := d.fcLevel c
  if j = 0 then none
  else if !d.fcActive c then some (j, false)
  else if (d.fcls c).joining then (if k < j then some (j, false) else none)
  else some (max (nextLevel k (d.fcls c).central) j, true)

/-- R368: the class takes the record in: its source is named from the moment the class leaves IDLE. -/
def nameSource (r : Rec) (d : Dev) : Dev :=
  let idle := d.fcLevel r.cls = 0
  updCls r.cls (fun x =>
    let x := { x with latest := some r }
    if idle ∧ r.level = 0 then x
    else { x with
      fields := if r.field < 96 then distinct (x.fields ++ [r.field]) else x.fields
      central := x.central || r.field = central }) d

/-- R362 to R369: the collector accepts a report at a sub-pick. -/
def acceptReport (sub : Nat) (r : Report) (d : Dev) : Dev :=
  let lv := d.levelOf r.cls r.typ
  let x : Rec := ⟨r.cls, r.typ, lv, r.forced, d.hNow, r.field, r.index, r.sub, r.value, r.job, d.stamp sub⟩
  let d := d.inc (FC_CNT_RECORDS r.cls)
  let d := if r.cls < 6 then toHistory x d else toCapture r x d
  let d := (d.wr (FC_UNCLR_MAX r.cls) (max lv (d.rd (FC_UNCLR_MAX r.cls)))).wrB (FC_UNCLR_ANY r.cls) true
  let d := nameSource x d
  let mv := d.moves r.cls lv
  let d := match mv with
    | some (n, esc) => activate r.cls n x (onlyIf esc (·.inc (FC_CNT_ESCALATIONS r.cls)) d)
    | none => stopNamed r.cls d
  let told : Nat := match mv with | some (n, _) => n | none => lv
  onlyIf (decide (2 ≤ lv) || (mv.isSome && decide (2 ≤ told))) (tellFault x told) d

/-- R364: the order of reports: their boundary, class, source. -/
def Report.before (a b : Report) : Bool :=
  decide (a.at_ < b.at_) || (a.at_ = b.at_ && (decide (a.cls < b.cls) || (a.cls = b.cls && (decide (a.field < b.field)
    || (a.field = b.field && (decide (a.index < b.index) || (a.index = b.index && decide (a.sub < b.sub))))))))

/-- R364: the report to be accepted next. -/
def firstReport : List Report → Option Report
  | [] => none
  | r :: l => match firstReport l with
    | some x => some (if x.before r then x else r)
    | none => some r

/-- R368: FAULT_RECORD. -/
def faultRecord (sub : Nat) (d : Dev) : Dev :=
  match firstReport d.fc.raised with
  | none => d
  | some r => acceptReport sub r { d with fc := { d.fc with raised := d.fc.raised.erase r } }

/-- R368: the timer of a level, in bolts. -/
def Dev.levelTimer (d : Dev) (k : Nat) : Nat :=
  orDef (if k = 1 then d.rd FC_CFG_T_L1 else if k = 2 then d.rd FC_CFG_T_L2 else d.rd FC_CFG_T_L3) 1

/-- R368: ESCALATION_TIMEOUT of a class. -/
def escalate (c : Nat) (d : Dev) : Dev :=
  let k := d.fcLevel c
  match (d.fcls c).timer, (d.fcls c).latest with
  | some t, some r =>
    if d.fcActive c && decide (k ≤ 3) && d.expiredAll t (1000 * d.levelTimer k) then
      let n := nextLevel k (d.fcls c).central
      let d := activate c n r (d.inc (FC_CNT_ESCALATIONS c))
      onlyIf (decide (2 ≤ n)) (tellFault r n) d
    else d
  | _, _ => d

/-- R368: FAULT_ACK. -/
def faultAck (mask : Nat) (d : Dev) : Dev :=
  forN 12 (fun c d => if bitOf mask c && d.fcActive c then
    updCls c (fun x => { x with timer := none }) (d.wrB (FC_STATE_ACKED c) true) else d) d

/-- R366, R368, R369: a class that is not ACTIVE is cleared. -/
def clearClass (c : Nat) (d : Dev) : Dev :=
  let d := (d.wr (FC_STATE_LEVEL c) 0).wrB (FC_STATE_ACKED c) false
  let d := (d.wr (FC_UNCLR_MAX c) 0).wrB (FC_UNCLR_ANY c) false
  let d := updCls c (fun _ => ClassS.init) { d with fc := { d.fc with owed := d.fc.owed.filter (·.cls ≠ c) } }
  if 6 ≤ c then forN 4 (fun i d => let a := 0x20050100 + (c - 6) * 0x10 + 4 * i; d.setReg a (resetWord a)) d else d

/-- R368, R374: FAULT_CLEAR. -/
def faultClear (mask : Nat) (d : Dev) : Dev :=
  if (List.range 12).any fun c => bitOf mask c && d.fcActive c then conflict FC_STATUS_STATE_CONFLICT d
  else forN 12 (fun c d => onlyIf (bitOf mask c) (clearClass c) d) d

/-- R372: FAULT_FORCE. -/
def faultForce (w : Nat) (d : Dev) : Dev :=
  if !bitOf w 12 then d else
  let c := bitsOf w 0 4
  let t := bitsOf w 4 8
  match typeRow c t with
  | none => d.wrB FC_STATUS_FORCE_BAD true
  | some _ => d.raiseR
    { d.report .elec t (d.rd FC_FORCE_SRC_FIELD) (d.rd FC_FORCE_SRC_INDEX) with
      cls := c
      sub := d.rd FC_FORCE_SRC_SUB
      value := d.rd FC_FORCE_VAL_VALUE
      job := if d.rdB FC_FORCE_SRC_JOB_VALID then some (d.rd FC_FORCE_SRC_JOB) else none
      forced := true }

/-- R373: FC_HPOISON. -/
def hPoison (v : Bool) (d : Dev) : Dev := if v then sharedPoison none d else d

/-- R362, R373: a SECDED error of a memory of Jenuz; memory 3 is a steward's. -/
def sramError (mem off field : Nat) (fixed : Bool) (d : Dev) : Dev :=
  d.raiseR { d.report .mem (if fixed then 1 else 2) (if mem = 3 ∧ field < 96 then field else central) 0 with addr := mem * 2 ^ 28 + off }

/-- R369: FAULT_NOTICE_RETRY. -/
def faultNoticeRetry (h : Nat) (takes : Bool) (d : Dev) : Dev := offerFaults (queueSeen h takes d)

/-- R370: L4_COUNT_CLEAR. -/
def l4CountClear (d : Dev) : Dev := if 100000 ≤ d.fc.readyBolts then d.wr FC_L4_COUNT 0 else d

/-- R368 to R370: what the collector does at a bolt boundary. -/
def faultBolt (d : Dev) : Dev :=
  let d := forN 12 (fun c d => if (d.fcls c).joining then updCls c (fun x => { x with joining := false }) d else d) (offerFaults d)
  { d with fc := { d.fc with
    l4Bolts := if d.fc.l4.isSome then d.fc.l4Bolts + 1 else 0
    readyBolts := if d.ready ∧ d.fc.l4 = none then satN 100000 (d.fc.readyBolts + 1) else d.fc.readyBolts } }

/-- R370: once the kernel passes, the kept L4 record stands uncleared. -/
def reenterL4 (d : Dev) : Dev :=
  if d.rdB FC_L4_VALID then
    let c := d.rd FC_L4_CLASS
    (d.wr (FC_UNCLR_MAX c) 4).wrB (FC_UNCLR_ANY c) true
  else d

/-! The commands. -/

def execFaultRecord (sub : BitVec 12) (s : State) : Host.Outcome State Fault Refusal := done (faultRecord sub.toNat) s
def execEscalationTimeout (c : Fin 12) (s : State) : Host.Outcome State Fault Refusal := done (escalate c.val) s
def execFaultAck (mask : BitVec 12) (s : State) : Host.Outcome State Fault Refusal := done (faultAck mask.toNat) s
def execFaultClear (mask : BitVec 12) (s : State) : Host.Outcome State Fault Refusal := done (faultClear mask.toNat) s
def execFaultForce (w : BitVec 32) (s : State) : Host.Outcome State Fault Refusal := done (faultForce w.toNat) s
def execFcHpoison (v : Bool) (s : State) : Host.Outcome State Fault Refusal := done (hPoison v) s
def execSramError (mem : Fin 5) (off : BitVec 28) (field : BitVec 7) (fixed : Bool) (s : State) : Host.Outcome State Fault Refusal :=
  done (sramError mem.val off.toNat field.toNat fixed) s
def execFaultNoticeRetry (h : BitVec 32) (takes : Bool) (s : State) : Host.Outcome State Fault Refusal :=
  done (faultNoticeRetry h.toNat takes) s
def execL4CountClear (s : State) : Host.Outcome State Fault Refusal := done l4CountClear s
def execEndpointRoutingPoison (s : State) : Host.Outcome State Fault Refusal := done (sharedPoison none) s

end Sys2Proof.Machine
end

