-- ==== Sys2Proof/Machine/Recorder.lean ====
section
/-! DEFINITION. Chapter 15, the event recorder: samples at a pick boundary (R377), records (R381 to R384), the ring in the
flash (R385), the hourly set (R379, R380), shutdown (R386, R387), reading (R388) and clearing (R389). What ends an hour is in
Ageing. -/

namespace Sys2Proof.Machine

/-! Samples (R377, R382, R424). -/

/-- R377, R390: the sample of source 0, which a selvedge stop does not end. Log entry 130. -/
def sampleTemp (f p : Nat) (d : Dev) : Dev :=
  if d.runs f p || (d.selStop && !d.retired f p) then
    let hotter := if d.used f p 0 < d.used f p 1 then 1 else 0
    addSample f 0 (d.sampleNow (d.temp f p) (p + 64 * hotter)) d
  else d

/-- R377: the samples of one patch: sources 0 to 3. -/
def samplePatch (f p : Nat) (d : Dev) : Dev :=
  let d := sampleTemp f p d
  if !d.runs f p then d else
  let depths := (List.range 4).map fun i => d.rd (PS_DD_DEPTH_DEPTH f p i)
  let deep := maxN depths
  let det := (depths.findIdx? (· = deep)).getD 0
  let d := if d.rdB (PS_STATUS_DD_ARMED f p) then addSample f 1 (d.sampleNow (deep : Nat) (p + 64 * det)) d else d
  let d := addSample f 2 (d.sampleNow ((d.pt f p).stretchMax : Nat) p) d
  addSample f 3 (d.sampleNow (d.fidx f p : Nat) p) d

/-- R377: the samples of one domain: sources 4 to 6. -/
def sampleDom (f k : Nat) (d : Dev) : Dev :=
  let d := if d.link f k = linkUp ∨ d.link f k = linkDegraded then addSample f 4 (d.sampleNow (d.vidOf f k : Nat) k) d else d
  if d.rdB (ST_LINK_STATUS_STALE f k) || !(d.dm f k).heard then d
  else addSample f 6 (d.sampleNow (d.rd (ST_LINK_UP1_TEMP f k) : Nat) k) (addSample f 5 (d.sampleNow (d.rd (ST_LINK_UP0_IOUT f k) : Nat) k) d)

/-- R142, R153: in the pick that ends a tile-rail class of the field was held; an emergency reduction was in force. -/
def Dev.tileHeld (d : Dev) (f : Nat) : Bool := tileClasses.any (d.held f)
def Dev.emergency (d : Dev) (f : Nat) : Bool := d.rdB (ST_BUD_STATUS_NEAR f) || d.rdB (ST_BUD_STATUS_CRIT f) || d.rdB (ST_BUD_STATUS_DOM f)

def bumpCnt (f k : Nat) (b : Bool) (d : Dev) : Dev := if b then countRec f k d else d

/-- R377, R382, R424: one field's samples and counts of the pick that ends. -/
def sampleField (f : Nat) (d : Dev) : Dev :=
  let d := forN 4 (sampleDom f) (forN 36 (samplePatch f) d)
  let floor := (List.range 36).any fun p => (d.pt f p).floored
  let stretch := (List.range 36).any fun p => (d.pt f p).stretched
  let held := d.tileHeld f
  let emerg := d.emergency f
  let d := bumpCnt f 8 emerg (bumpCnt f 7 held (bumpCnt f 1 stretch (bumpCnt f 0 floor d)))
  let d := onlyIf held (fun d => (dbInc (DB_FCNT_HELD_PICKS f) d).updEv fun x => { x with heldBolt := true }) d
  onlyIf stretch (dbInc (DB_FCNT_STRETCH_PICKS f)) (onlyIf emerg (dbInc (DB_FCNT_EMERG_PICKS f)) d)

/-- R377, R381, R382: the recorder at a pick boundary, for the pick that ended. -/
def sampleBoundary (d : Dev) : Dev :=
  let d := forL d.enabled sampleField d
  let c := d.cap
  d.updEv fun x => { x with
    hSeen := x.hSeen || d.hNow
    caps := match x.caps with | some (lo, hi) => some (min lo c, max hi c) | none => some (c, c) }

/-- R382: the bolts of the WAFER record, at a bolt boundary, for the bolt that ended. -/
def recordBolt (d : Dev) : Dev :=
  let maxes := d.serving.length * d.rd BU_FIELD_LIM_FIELD_MAX
  let deferred := d.capDeferred
  d.updEv fun x => { x with
    capBolts := x.capBolts + b01 (decide (d.rd BU_GRANT_G < maxes) && x.heldBolt)
    deferBolts := x.deferBolts + b01 deferred
    holdBolts := x.holdBolts + b01 (d.mode = HOLDOVER || d.mode = ALIGNING)
    heldBolt := false }

/-! Records (R381 to R383). -/

/-- R381: the first 56 bytes of a record, its SEQ zero. -/
def Dev.record (d : Dev) (kind df f : Nat) (part : Bool) (payload : List Nat) : List Nat :=
  [kind, df, f, b01 part + 2 * b01 d.ev.hSeen, 0, 0, 0, 0] ++ leBytes 4 (d.rd EV_HOURS_HOURS) ++ leBytes 4 (d.rd NV_BOOT_PCYCLE)
    ++ leBytes 2 (d.rd EV_HOURS_HOURS - d.ev.since) ++ (payload ++ List.replicate (38 - payload.length) 0).take 38

/-- R383: a bin as a record holds it. -/
def binShare (count total : Nat) : Nat := if count = 0 then 0 else max 1 (count * 65535 / max 1 total)

/-- R382: HIST. -/
def histPayload (h : Hist) : List Nat :=
  ((List.range 16).flatMap fun i => leBytes 2 (binShare (h.bins.getD i 0) h.total)) ++ leBytes 6 h.total

/-- R382: one extreme. -/
def extBytes : Option Ext → List Nat
  | some e => leBytes 2 (unsignedOf 16 e.val) ++ [e.loc % 256, 1 + 2 * b01 e.h] ++ leBytes 8 e.stamp
  | none => List.replicate 12 0

/-- R382: WAFER. -/
def Dev.waferPayload (d : Dev) : List Nat :=
  let x := d.ev
  let caps := x.caps.getD (d.cap, d.cap)
  leBytes 8 (d.bud.waferE / 256 - x.energy0) ++ leBytes 4 x.capBolts ++ leBytes 4 x.deferBolts ++ leBytes 4 x.holdBolts
    ++ leBytes 2 caps.1 ++ leBytes 2 caps.2 ++ [min 255 x.stops, d.serving.length]

/-- R380: the records of one field. -/
def Dev.fieldSet (d : Dev) (part : Bool) (f : Nat) : List (List Nat) :=
  d.record 3 0 f part ((List.range 9).flatMap fun k => leBytes 4 (tget 0 d.ev.cnt (f * 9 + k)))
    :: (d.ev.defs.zip (List.range 16)).flatMap fun h =>
      let x := tget Hist.init d.ev.hist (f * 16 + h.2)
      d.record 1 h.2 f part (histPayload x) :: (if h.1.ext then [d.record 2 h.2 f part (extBytes x.max ++ extBytes x.min)] else [])

/-- R380: a whole set. -/
def Dev.recordSet (d : Dev) (part : Bool) : List (List Nat) :=
  d.record 4 0 central part d.waferPayload :: d.enabled.flatMap (d.fieldSet part)

/-- R382, R386: a SHUTDOWN record. -/
def Dev.shutRecord (d : Dev) : List Nat := d.record 6 0 central false [if d.fc.l4.isSome then 2 else 1]

def setPending (d : Dev) : Dev := d.wrB EV_STATUS_PENDING (!d.ev.pend.isEmpty)

/-- R382: the bytes of a CLEAR record. -/
def isClear (r : List Nat) : Bool := r.getD 0 0 = 7

/-- R380, R386, R387: the period ends: its set becomes pending, and accumulation begins from zero. -/
def endPeriod (shut : Bool) (d : Dev) : Dev :=
  let part := d.ev.cut || d.rd EV_HOURS_HOURS - d.ev.since ≠ 100
  let clear := d.ev.pend.filter isClear
  let l := clear ++ d.recordSet part ++ (if d.ev.shutDue then [d.shutRecord] else [])
  let d := onlyIf (decide (clear.length < d.ev.pend.length)) (·.inc EV_CNT_LOST_SETS) d
  setPending (d.updEv fun x => { x with
    pend := l, hist := [], cnt := [], energy0 := d.bud.waferE / 256, capBolts := 0, deferBolts := 0, holdBolts := 0, caps := none
    stops := 0, hSeen := false, cut := shut, since := d.rd EV_HOURS_HOURS, shutDue := false })

/-- R386: at a pick boundary at which a shutdown is due and no hour ends. -/
def shutBoundary (d : Dev) : Dev := if d.ev.shutDue then endPeriod true d else d

/-! The ring (R384, R385). -/

def evBase : Nat := 0x1200000
def slotAddr (seq : Nat) : Nat := evBase + 64 * (seq % 131072)
/-- R385: the sector of a record. -/
def sectorOf (seq : Nat) : Nat := seq / 64 % 2048

def Dev.slotBytes (d : Dev) (seq : Nat) : List Nat := d.nvBytes (slotAddr seq) 64
/-- R381: the CRC of a stored record matches. -/
def crcOk (b : List Nat) : Bool := bytesAt b 60 4 = crc32 (b.take 56)
/-- R384: repeats: the zero bits of REPEAT. -/
def repeatsOf (b : List Nat) : Nat := ((List.range 32).filter fun i => !bitOf (bytesAt b 56 4) i).length

def bumpWseq (n : Nat) (d : Dev) : Dev := d.wr EV_WSEQ_WSEQ ((d.rd EV_WSEQ_WSEQ + n) % 2 ^ 32)

/-- R385, R388: the oldest record the ring holds, once the 16th sector after the newest record's is erased. -/
def oldestAfter (seq : Nat) : Nat := (seq / 64 + 17) * 64 - 131072

/-- R385: writing enters a new sector: the 16th ahead is erased. -/
def enterSector (seq : Nat) (d : Dev) : Dev :=
  if seq % 64 ≠ 0 then d else
  let s := sectorOf (seq + 16 * 64)
  let d := bumpWseq 1 (nvErase (evBase + 4096 * s) 4096 d)
  let d := d.updEv fun x => { x with clear := x.clear.filter fun y => y ≠ s ∧ y ≠ sectorOf seq }
  d.wr EV_OLDEST_SEQ (max (d.rd EV_OLDEST_SEQ) (oldestAfter seq))

def seriesKey (r : List Nat) : Nat := r.getD 0 0 * 4096 + r.getD 1 0 * 128 + r.getD 2 0

/-- R384: the record that a new one only repeats: its SEQ. -/
def Dev.repeatOf (d : Dev) (r : List Nat) : Option Nat :=
  match tget 0 d.ev.series (seriesKey r) with
  | 0 => none
  | n + 1 =>
    let b := d.slotBytes n
    if bitOf (r.getD 3 0) 0 = false ∧ d.rd EV_OLDEST_SEQ ≤ n ∧ bytesAt b 4 4 = n ∧ b.take 4 = r.take 4
        ∧ (b.drop 18).take 38 = (r.drop 18).take 38 ∧ repeatsOf b < 32 then some n else none

/-- R384, R385: a record is written at the next SEQ. -/
def putRecord (r : List Nat) (d : Dev) : Dev :=
  let n := d.ev.next
  let body := r.take 4 ++ leBytes 4 n ++ (r.drop 8).take 48
  let d := enterSector n d
  let d := bumpWseq 1 (nvProg (slotAddr n) (body ++ leBytes 4 0xFFFFFFFF ++ leBytes 4 (crc32 body)) d)
  (d.updEv fun x => { x with series := tput 0 (seriesKey r) (n + 1) x.series, next := n + 1 }).wr EV_HEAD_SEQ n

/-- R389: the CLEAR record is written; the sectors before it are then erased. -/
def putClear (r : List Nat) (d : Dev) : Dev :=
  let s := sectorOf d.ev.next
  (putRecord r d).updEv fun x => { x with clear := (List.range 2047).map fun i => (s + 1 + i) % 2048 }

/-- R384, R389: one pending record is written, or a repeat mark is programmed. -/
def writeOne (d : Dev) : Dev :=
  match d.ev.pend with
  | [] => d
  | r :: l =>
    let d := d.updEv fun x => { x with pend := l }
    let d := if isClear r then putClear r d else match d.repeatOf r with
      | some n =>
        let b := d.slotBytes n
        bumpWseq 1 (nvProg (slotAddr n + 56) (leBytes 4 (bytesAt b 56 4 - 2 ^ repeatsOf b)) d)
      | none => putRecord r d
    onlyIf (r.getD 0 0 = 6 && r.getD 18 0 = 1) (·.wrB EV_STATUS_SHUT_DONE true) d

/-- R309, R312, R385: the recorder may write to the ring. -/
def Dev.ringReady (d : Dev) : Bool := d.rdB EV_STATUS_SCANNED && d.gateOk 9 && d.boundaries

/-- R384: RECORD_SET_WRITE: up to n records of the pending set. -/
def recordSetWrite (n : Nat) (d : Dev) : Dev := if d.ringReady then setPending (iterN writeOne n d) else d

/-! The scan at start-up (R379, R385). -/

/-- A slot of the ring that holds a record, valid or not. -/
def Dev.slotUsed (d : Dev) (s : Nat) : Bool := d.nvByte (evBase + 64 * s) ≠ 0xFF
/-- The SEQ of a valid record in a slot. -/
def Dev.slotSeq (d : Dev) (s : Nat) : Option Nat :=
  let b := d.nvBytes (evBase + 64 * s) 64
  if b.headD 0xFF ≠ 0xFF ∧ crcOk b then some (bytesAt b 4 4) else none

/-- R385: the slots that the scan reads: the first of every sector, then the newest sector in full. -/
def Dev.scanSlots (d : Dev) : List Nat :=
  let firsts := (List.range 2048).map (· * 64)
  let seqs := firsts.filterMap d.slotSeq
  if seqs = [] then firsts else firsts ++ (List.range 63).map fun i => maxN seqs % 131072 / 64 * 64 + i + 1

/-- The first slot after a record that is still erased: a write cut short leaves its slot used. -/
def Dev.nextFree (d : Dev) : Nat → Nat → Nat
  | 0, n => n
  | fuel + 1, n => if d.slotUsed (n % 131072) then d.nextFree fuel (n + 1) else n

/-- R379, R385: RING_SCAN. -/
def ringScan (d : Dev) : Dev :=
  if d.start.step < 7 || d.rdB EV_STATUS_SCANNED || !d.gateOk 9 then d else
  let slots := d.scanSlots
  let seqs := slots.filterMap d.slotSeq
  let bad := (slots.filter fun s => d.slotUsed s && (d.slotSeq s).isNone).length
  let d := (d.add EV_CNT_CRC_BAD bad).wrB EV_STATUS_SCANNED true
  if seqs = [] then d else
  let newest := maxN seqs
  let extra := bytesAt (d.slotBytes newest) 8 4 - d.ev.hours0
  let d := ((d.wr EV_HEAD_SEQ newest).wr EV_OLDEST_SEQ ((minN seqs).getD 0)).wr EV_HOURS_HOURS (d.rd EV_HOURS_HOURS + extra)
  let next := d.nextFree 64 (newest + 1)
  d.updEv fun x => { x with next, since := x.since + extra }

/-! Commands of the recorder (R386, R388, R389). -/

/-- R389: a write of EV_CLEAR_KEY. -/
def clearKey (v : Nat) (d : Dev) : Dev := d.updEv fun x => { x with keyOk := v = 0x4C435645 }

/-- R386: the shutdown is asked for; it ends the period at the next boundary. -/
def askShutdown (d : Dev) : Dev := (d.wrB EV_STATUS_SHUT_DONE false).updEv fun x => { x with shutDue := true }

/-- R386, R389: RECORDER_SHUTDOWN: a write of EV_CMD with SHUTDOWN; the key is consumed. -/
def recorderShutdown (d : Dev) : Dev := askShutdown (d.updEv fun x => { x with keyOk := false })

/-- R389, R390: RECORDER_CLEAR; where the recorder cannot write, the CLEAR record waits. -/
def recorderClear (d : Dev) : Dev :=
  let ok := d.ev.keyOk && !d.rdB EV_STATUS_PENDING && !d.rdB EV_STATUS_CLEARING && d.rdB EV_STATUS_SCANNED
  let d := d.updEv fun x => { x with keyOk := false }
  if !ok then conflict EV_STATUS_STATE_CONFLICT d
  else
    let r := d.record 7 0 central false []
    let d := if d.ringReady then putClear r d else setPending (d.updEv fun x => { x with pend := [r] })
    d.wrB EV_STATUS_CLEARING true

/-- R389: RECORDER_CLEAR_DONE: the last sector is erased. The oldest record left is the CLEAR record. -/
def recorderClearDone (d : Dev) : Dev :=
  if !d.rdB EV_STATUS_CLEARING || !d.gateOk 9 || d.ev.pend.any isClear then d else
  let l := d.ev.clear
  let d := forL l (fun s d => bumpWseq 1 (nvErase (evBase + 4096 * s) 4096 d)) d
  let oldest := match tget 0 d.ev.series (7 * 4096 + central) with | n + 1 => n | 0 => d.rd EV_OLDEST_SEQ
  ((d.updEv fun x => { x with clear := [] }).wrB EV_STATUS_CLEARING false).wr EV_OLDEST_SEQ (max oldest (d.rd EV_OLDEST_SEQ))

/-- R388: RECORD_READ: a write of EV_CURSOR. -/
def recordRead (seq : Nat) (d : Dev) : Dev :=
  ((d.wr EV_CURSOR_SEQ seq).wrB EV_WIN_STAT_READY false).updEv fun x => { x with reading := true }

/-- R388: what a read of record SEQ gives: its 64 bytes, and whether it is valid. -/
def Dev.readRecord (d : Dev) (seq : Nat) : List Nat × Bool :=
  if !d.rdB EV_STATUS_SCANNED || decide (d.ev.next = 0) || decide (d.rd EV_HEAD_SEQ < seq) || decide (seq < d.rd EV_OLDEST_SEQ) then
    (List.replicate 64 0, false)
  else
    let b := d.slotBytes seq
    (b, crcOk b && bytesAt b 4 4 = seq)

/-- R388, R391: RECORD_READ_DONE. -/
def recordReadDone (d : Dev) : Dev :=
  if !d.ev.reading || !d.gateOk 9 then d else
  let (b, ok) := d.readRecord (d.rd EV_CURSOR_SEQ)
  let bad := !ok && !(b.all (· = 0)) && !crcOk b
  let d := forN 16 (fun k d => d.wr (EV_WIN_WORD k) (bytesAt b (4 * k) 4)) d
  let d := ((d.wrB EV_WIN_STAT_READY true).wrB EV_WIN_STAT_VALID ok).wr EV_WIN_STAT_REPEATS (if ok then repeatsOf b else 0)
  (onlyIf bad (·.inc EV_CNT_CRC_BAD) d).updEv fun x => { x with reading := false }

/-! The commands. -/

def execRecordSetWrite (n : BitVec 10) (s : State) : Host.Outcome State Fault Refusal := done (recordSetWrite n.toNat) s
def execRingScan (s : State) : Host.Outcome State Fault Refusal := done ringScan s
def execRecorderShutdown (s : State) : Host.Outcome State Fault Refusal := done recorderShutdown s
def execRecorderClear (s : State) : Host.Outcome State Fault Refusal := done recorderClear s
def execRecorderClearDone (s : State) : Host.Outcome State Fault Refusal := done recorderClearDone s
def execRecordRead (seq : BitVec 32) (s : State) : Host.Outcome State Fault Refusal := done (recordRead seq.toNat) s
def execRecordReadDone (s : State) : Host.Outcome State Fault Refusal := done recordReadDone s

end Sys2Proof.Machine
end

