-- ==== Sys2Proof/Machine/Ageing.lean ====
section
/-! DEFINITION. Chapter 16: the trend of a patch (R393), re-plans (R394 to R397), retirement of a patch that does not fit
(R398), the replace conditions and request (R401, R402), and what ends an operating hour (R379, R380). -/

namespace Sys2Proof.Machine

/-- R393: the trend after an hour's mean. -/
def nextTrend (trended : Bool) (trend mean : Int) : Int := if trended then trend + rs (mean - trend) 3 else mean

/-- R393: the trend of a patch at the end of an hour. -/
def updateTrend (f p : Nat) (d : Dev) : Dev :=
  let x := d.pt f p
  let d := d.updPt f p fun x => { x with slackSum := 0, slackN := 0 }
  if x.slackN < orDef (d.rd (ST_AGE_CFG1_MIN_SAMPLES f)) 1 then d
  else
    let mean := divHalfAway x.slackSum x.slackN
    let d := d.wrS (ST_AGE_PATCH_TREND f p) (nextTrend x.trended (d.rdS (ST_AGE_PATCH_TREND f p)) mean)
    (d.updPt f p fun x => { x with trended := true }).inc (ST_AGE_PATCH_HOURS f p)

/-- R395: KV in effect, the drift, and the step of a re-plan. -/
def Dev.kv (d : Dev) (f : Nat) : Nat := orDef (d.rd (ST_AGE_CFG0_KV f)) 1
def Dev.drift (d : Dev) (f p : Nat) : Int := (d.marg f p).base * 32 - d.rdS (ST_AGE_PATCH_TREND f p)
def Dev.planStep (d : Dev) (f p : Nat) : Int := d.drift f p / (d.kv f * 32 : Nat)

/-- R394, R404: the patch is re-planned at the end of this hour; a stopped wafer waits. -/
def Dev.replans (d : Dev) (f p : Nat) : Bool :=
  d.inService f && !d.selStop && !d.retired f p && decide (8 ≤ d.rd (ST_AGE_PATCH_HOURS f p))
    && (decide ((d.marg f p).plan + orDef (d.rd JZ_AGE_CFG_PLAN_PERIOD) 1 ≤ d.rd EV_HOURS_HOURS)
      || decide ((orDef (d.rd JZ_AGE_CFG_DRIFT_TRIG) 1 : Int) ≤ d.drift f p))

/-- R397: the record of a patch is planned now. -/
def setPlan (f p : Nat) (g : MargS → MargS) (d : Dev) : Dev :=
  margDirty (setMarg f p (fun m => g { m with plan := d.rd EV_HOURS_HOURS }) d)

/-- R394 to R397: AGE_REPLAN of one patch. -/
def replan (f p : Nat) (d : Dev) : Dev :=
  if !d.replans f p then d else
  let m := d.marg f p
  if m.plan = 0 then setPlan f p (fun m => { m with base := d.rdS (ST_AGE_PATCH_TREND f p) / 32 }) d
  else
    let n := d.planStep f p
    let mofs := d.rd (ST_OP_PATCH_MOFS f p)
    if 1 ≤ n then
      if 63 < mofs + n then retirePatch f p d
      else
        let d := setPlan f p (fun m => { m with base := m.base - n * d.kv f }) (raiseMofs f p n.toNat d)
        (d.inc JZ_AGE_CNT_RAISES).raiseR { d.report .selftest 7 f p with value := 0 }
    else if n ≤ -2 ∧ d.strikesOf f p = [] ∧ 1 ≤ mofs ∧ m.next = none then
      (setPlan f p (fun m => { m with next := some (mofs - 1) }) d).inc JZ_AGE_CNT_PROPOSED
    else setPlan f p id d

/-- R379: OPERATING_HOUR_TICK. -/
def hourTick (d : Dev) : Dev :=
  if d.boundaries && decide (d.ev.hourAt + 36000000 ≤ d.time.nb) then
    (d.updEv fun x => { x with hourAt := x.hourAt + 36000000 }).wr EV_HOURS_HOURS ((d.rd EV_HOURS_HOURS + 1) % 2 ^ 32)
  else d

/-- R380: an hour ends: the count stands at a multiple of 100 that this period has not ended yet. -/
def Dev.hourEnds (d : Dev) : Bool := d.rd EV_HOURS_HOURS % 100 = 0 && decide (d.ev.since < d.rd EV_HOURS_HOURS)

/-- R380, R393, R394: HOUR_END. -/
def hourEnd (d : Dev) : Dev :=
  if !d.hourEnds then d else
  let d := endPeriod false d
  forL d.enabled (fun f d => forN 36 (fun p d => replan f p (updateTrend f p d)) d) d

/-- R398: the patches of a field that R118 has stopped are retired. -/
def retireUnfit (f : Nat) (d : Dev) : Dev :=
  forN 36 (fun p d => if (d.pt f p).railStop && !d.retired f p then retirePatch f p d else d) d

/-! Asking to be replaced (R401, R402). -/

/-- R401: a healthy field. -/
def Dev.healthyField (d : Dev) (f : Nat) : Bool := d.rdB (BT_PASS_FIELD f) && (d.fd f).stop ≠ .retired
def Dev.healthyCount (d : Dev) : Nat := (allFields.filter d.healthyField).length

/-- R401: RAIL: a running patch of a healthy field has a rail ceiling below its field's FMAX. -/
def Dev.railShort (d : Dev) : Bool :=
  allFields.any fun f => d.healthyField f && (List.range 36).any fun p => d.runs f p &&
    match d.railCeil f p with
    | some r => decide (r < min 88 (d.rd (ST_OP_FPLAN_FMAX f)))
    | none => true

/-- R401: the three conditions at a boundary. -/
def replaceShow (d : Dev) : Dev :=
  if d.start.step < 9 then d else
  let d := (d.wr JZ_SVC_STATUS_HEALTHY d.healthyCount).wrB JZ_SVC_STATUS_FIELDS (decide (d.healthyCount < d.rd JZ_SVC_CFG_MIN_FIELDS))
  let d := d.wrB JZ_SVC_STATUS_RETIRED (decide (36 * Config.nFields * d.rd JZ_SVC_CFG_RET_SHARE / 1024 < d.rd JZ_AGE_STATUS_RETIRED))
  d.wrB JZ_SVC_STATUS_RAIL d.railShort

/-- R402: REPLACE_REQUEST at a bolt boundary: JZ_SVC_N goes low and the conditions are latched until a reset. -/
def replaceBolt (d : Dev) : Dev :=
  let now := b01 (d.rdB JZ_SVC_STATUS_FIELDS) + 2 * b01 (d.rdB JZ_SVC_STATUS_RETIRED) + 4 * b01 (d.rdB JZ_SVC_STATUS_RAIL)
  if d.start.step < 9 ∨ now = 0 ∨ d.rdB JZ_SVC_STATUS_REQUEST then d
  else (d.wrB JZ_SVC_STATUS_REQUEST true).wr JZ_SVC_STATUS_LATCHED now

/-! The commands. -/

def execOperatingHourTick (s : State) : Host.Outcome State Fault Refusal := done hourTick s
def execHourEnd (s : State) : Host.Outcome State Fault Refusal := done hourEnd s

end Sys2Proof.Machine
end

