-- ==== Sys2Proof/Machine/Start.lean ====
section
/-! DEFINITION. Chapter 12, start-up: reset and what survives it (R9, R11, R263, R370), the steps of R318 from the release
of RESET_N to READY, loading the image and the checks at CONFIG_LOCK (R330), NO_IMAGE (R336), bring-up (R308, R318), the
selvedge's restart (R264, R266), the L4 reset (R370), and a slot loaded through the TAP (R358). -/

namespace Sys2Proof.Machine

/-! Reset. -/

/-- R263, R370: what a register keeps across every reset while the wafer is powered: the selvedge's state and latches,
and FC_L4. -/
def keptWord (a : Nat) (w : Word) : Word :=
  if a = JZ_SEL_STATUS_STATE.addr ∨ a = JZ_SEL_FIRST_FIELD.addr ∨ a = JZ_SEL_STAMP_LO_SUB.addr ∨ a = JZ_SEL_STAMP_HI_PICK_H.addr
      ∨ a = FC_L4_CLASS.addr ∨ a = FC_L4_TS_LO_STAMP.addr ∨ a = FC_L4_TS_HI_STAMP.addr then w
  else match placeOf a with
    | some pl =>
      if pl.blk = .ps ∧ pl.off = 0xC then w &&& 3
      else if pl.blk = .st ∧ (pl.off = 0x4000 ∨ pl.off = 0x4004) then w
      else resetWord a
    | none => resetWord a

/-- The registers that a reset leaves. -/
def keptRegs (l : Tab Word) : Tab Word := (l.map fun x => (x.1, keptWord x.1 x.2)).filter fun x => x.2 ≠ resetWord x.1

/-- R9, R11: every reset of Jenuz: all state at its reset value but what R263 and R370 keep, the flash, and the levels of
the pins; the clock selector is in BOOT and hold-safe asserted, as their registers reset. -/
def resetDev (cause : Nat) (lc : LifeCycle) (d : Dev) : Dev :=
  { Dev.init with
    regs := keptRegs d.regs
    pins := d.pins
    nv := { NvmS.init with flash := d.nv.flash }
    sel := { d.sel with onRosc := true }
    mg := { MgmtS.init with lc, cause, ir := d.mg.ir, bsr := d.mg.bsr, extest := d.mg.extest }
    out := d.out
    hostFull := d.hostFull
    fresh := d.fresh }

/-- R318: a step begins. -/
def toStep (n : Nat) (d : Dev) : Dev := { d with start := { d.start with step := n, since := d.time.nb } }

/-- R12, R318: steps 1 and 2: the straps fix the PMBus address; the ROM initialises SRAM and draws INCARN (not zero) and
SALT, which are free values. -/
def romBoot (strap : Nat) (d : Dev) : Dev :=
  let d := { d with pins := { d.pins with resetN := true, strap }, sram := [] }
  let incarn := max 1 d.free.toNat
  let d := (d.takeFree.updPP fun p => { p with incarn }).wr PM_STATUS_ADDR (0x5C + strap)
  toStep 3 ((d.wr LG_RP_SALT_SALT d.free.toNat).takeFree)

/-- R9, R11, R306: RESET_N_ASSERT. -/
def resetAssert (fz : Fuses) (d : Dev) : Dev :=
  let d := resetDev 1 fz.lc d
  { d with pins := { d.pins with resetN := false } }

/-- R318: RESET_N_RELEASE. -/
def resetRelease (strap : Nat) (d : Dev) : Dev :=
  if d.pins.resetN ∧ d.start.step ≠ 1 then d else romBoot strap d

/-- R61, R262, R370: POWER_ON: nothing is kept but the flash; the selvedge waits; RESET_N is low. -/
def powerOn (fz : Fuses) (d : Dev) : Dev :=
  let x := resetDev 0 fz.lc d
  { x with regs := []
           sel := SelS.init
           pins := { d.pins with resetN := false }
           mg := { MgmtS.init with lc := fz.lc } }

/-! Step 3. -/

/-- R320: the kernel has failed: Jenuz stays in reset. -/
def kernelFail (d : Dev) : Dev := { d with start := { d.start with dead := true } }

/-- R350: LANE_LOOP failed: the receiver is off for this start. -/
def laneFail (d : Dev) : Dev :=
  (showResult 0x30 central 0 outFail 0 (d.updTime fun t => { t with laneOff := true })).raise .selftest 5 central 0

/-- R320, R341, R350, R370: KERNEL_SELFTEST, with the slice and check that failed, if one did, and the outcome of LANE_LOOP. -/
def kernelSelftest (fail : Option (Nat × Nat)) (lane : Bool) (d : Dev) : Dev :=
  if d.start.step ≠ 3 ∨ d.start.dead = true then d
  else match fail with
    | some (s, c) => kernelFail ((((d.wr BT_KFAIL_SLICE s).wr BT_KFAIL_CHECK c).wrB BT_KFAIL_VALID true).inc BT_CNT0_FAIL)
    | none =>
      if d.rd FC_L4_COUNT = 3 then kernelFail d
      else toStep 4 (onlyIf (!lane) laneFail (d.wrB BT_STATUS_KERNEL_OK true))

/-- R320: the kernel has passed once a field has passed step 7. -/
def kernelPass (d : Dev) : Dev :=
  if d.start.step = 7 ∧ d.start.begun = true ∧ !d.rdB JZ_STATUS_KERNEL_OK ∧ d.enabled.any (fun f => (d.fd f).passed) then
    reenterL4 (d.wrB JZ_STATUS_KERNEL_OK true)
  else d

/-! Step 4: the image. -/

/-- A report of the ROM that names an address. -/
def romReport (t field addr : Nat) (d : Dev) : Dev :=
  d.raiseR { d.report .config t field 0 with addr, master := Master.nvm.code, access := 1 }

/-- R116: VF does not decrease. -/
def Dev.vfRises (d : Dev) (f : Nat) : Bool := (List.range 88).all fun i => decide (d.rd (ST_OP_VF_VMIN f i) ≤ d.rd (ST_OP_VF_VMIN f (i + 1)))

/-- R151: the SPLIT shares of a field sum to no more than 256. -/
def Dev.splitFits (d : Dev) (f : Nat) : Bool := decide (sumN (tileClasses.map fun c => d.share f c) ≤ 256)

/-- R116, R151: the checks of one field at CONFIG_LOCK. -/
def lockField (f : Nat) (d : Dev) : Dev :=
  let refuse := fun a (d : Dev) => romReport 3 f a (d.updFd f fun x => { x with refused := true })
  onlyIf (!d.splitFits f) (refuse (ST_BUD_SPLIT0_MATRIX f).addr) (onlyIf (!d.vfRises f) (refuse (ST_OP_VF_VMIN f 0).addr) d)

/-- A register returned to its reset value, with its report. -/
def lockReset (as : List Nat) (d : Dev) : Dev :=
  romReport 3 central (as.headD 0) (forL as (fun a => Dev.setReg a (resetWord a)) d)

/-- R207, R107, R255: the checks of the central settings. -/
def lockCentral (d : Dev) : Dev :=
  let d := onlyIf (decide (d.rd LG_CFG0_LOW_MARK < 96 * d.rd LG_CFG1_CREDIT))
    (fun d => romReport 3 central LG_CFG0_LOW_MARK.addr
      ((d.wr LG_CFG0_LOW_MARK (fldGet LG_CFG0_LOW_MARK (resetWord LG_CFG0_LOW_MARK.addr))).wr LG_CFG1_CREDIT
        (fldGet LG_CFG1_CREDIT (resetWord LG_CFG1_CREDIT.addr)))) d
  let d := onlyIf ((d.lawSlots capRef).any fun s => decide (7 < s)) (lockReset [capRef.chainN.addr]) d
  let d := onlyIf ((d.modelSlots capRef).any fun s => decide (7 < s)) (lockReset [capRef.modelN.addr]) d
  let t := d.rd JZ_SEL_LIMITS_T_CTRL
  let p := d.rd JZ_SEL_LIMITS_TRIP
  onlyIf (!(decide (t ≤ 760) && decide (105 ≤ p) && decide (p ≤ 120) && decide (8 * d.rd JZ_SEL_LIMITS_T_RESTART + 80 ≤ t)))
    (lockReset [JZ_SEL_LIMITS_T_CTRL.addr]) d

/-- R154, R338: a cap source at CONFIG_LOCK: a value outside the image's limits is replaced by CAP_MAX. -/
def Dev.lockCap (d : Dev) (s : CapSrc) : CapSrc :=
  let fix := fun v => if d.capRange v then v else d.rd BU_CAP_LIMITS_CAP_MAX
  { s with val := fix s.val, next := s.next.map fun x => (fix x.1, x.2), defer := s.defer.map fun x => { x with val := fix x.val } }

def lockCaps (d : Dev) : Dev :=
  let d := d.updBud fun b => { b with tray := d.lockCap b.tray, rack := d.lockCap b.rack }
  (d.wr BU_CAP_SRC_TRAY d.bud.tray.latest).wr BU_CAP_SRC_RACK d.bud.rack.latest

/-- R330: CONFIG_LOCK, with its checks; L-CAP takes its safe value from the settings (R107). -/
def configLock (d : Dev) : Dev :=
  if d.locked then d
  else
    let d := lockCaps (lockCentral (forN 96 lockField (d.wrB JZ_CONFIG_CONFIG_LOCK true)))
    restartLoop capRef d.sp d

/-- R378: the definitions of a RECORDER section; none where it breaks the layout. -/
def defsOf (r : List Nat) : Option (List HDef) :=
  let n := bytesAt r 0 1
  let e := (List.range n).map fun i => (r.drop (4 + 8 * i)).take 8
  if n ≤ 16 ∧ bytesAt r 1 3 = 0 ∧ 4 + 8 * n ≤ r.length
      ∧ (e.all fun x => decide (bytesAt x 0 1 ≤ 7) && decide (bytesAt x 1 1 < 2) && decide (1 ≤ bytesAt x 4 2) && decide (bytesAt x 4 2 ≤ 32767)
        && bytesAt x 6 2 = 0) = true then
    some (e.map fun x => ⟨bytesAt x 0 1, bitOf (bytesAt x 1 1) 0, signedOf 16 (bytesAt x 2 2), bytesAt x 4 2⟩)
  else none

/-- R330, R378: step 3 takes RECORDER. -/
def takeRecorder (b : Bool) (d : Dev) : Dev :=
  if (d.sections b).all (·.1 ≠ 4) then d.updEv fun x => { x with defs := romDefs }
  else match defsOf (d.section b 4) with
    | some l => d.updEv fun x => { x with defs := l }
    | none => romReport 3 central 0 (d.updEv fun x => { x with defs := romDefs })

/-- R312, R327: one write of SETTINGS; CK_GATE closes gates as a write of it does. -/
def writeSetting (a v : Nat) (d : Dev) : Dev := if a = (CK_GATE_EN 0).addr then ckGate v d else writeFields a v d

/-- R330, steps 2 to 5: a slot's image applied; none with the address of a record that breaks R327. -/
def applyImage (b : Bool) (d : Dev) : Dev ⊕ Nat :=
  let d := takeRecorder b (takeKeys (d.section b 3) (takeMap (d.section b 2) (resetSettings d)))
  let ws := ((d.sections b).filter (·.1 = 1)).flatMap fun s =>
    settingsOf d.enabled (s.2.2.1 / 12 + 1) (d.nvBytes (slotBase b + s.2.1) s.2.2.1)
  match ws.find? fun w => !(w.2.2 && settable w.1) with
  | some w => .inr w.1
  | none => .inl (takeMargins (forL ws (fun w => writeSetting w.1 w.2.1) d))

/-- R379: operating hours go on from the margin copy header. -/
def takeHours (d : Dev) : Dev :=
  let h := match d.margNow with | some (c, _) => d.nvNum (margBase c + 8) 4 | none => 0
  (d.wr EV_HOURS_HOURS h).updEv fun x => { x with hours0 := h, since := h, hourAt := d.time.nb }

/-- R330, R335: a slot tried at step 4: a state with its image applied, or its failure reported. -/
def trySlot (fz : Fuses) (b signed : Bool) (o : SigObs) (d : Dev) : Dev ⊕ Dev :=
  match d.imgFails fz b (if d.hdrNow.isSome then pick2 b d.hdr.len else 0x800000) o signed with
  | some n => .inr (failReport b n d)
  | none => match applyImage b d with
    | .inl x => .inl (takeHours (configLock x))
    | .inr a => .inr (romReport 4 central a d)

/-- R335: the slots that a start tries, in order, with the state of each. -/
def Dev.tryOrder (d : Dev) : List (Bool × Nat) :=
  let st := d.hdr.st
  let both := [(false, st.1), (true, st.2)]
  (both.filter (·.2 = slPending)) ++ (both.filter (·.2 = slActive)) ++ (both.filter (·.2 = slPrevious))

/-- R335, R324: the header after slot b has booted. -/
def bootHeader (b : Bool) (d : Dev) : Dev :=
  let h := d.hdr
  let other := pick2 (!b) h.st
  let st := set2 (!b) (if other = slActive then slPrevious else other) (set2 b slActive h.st)
  let h := { h with active := b01 b, st, pcycle := (h.pcycle + 1) % 2 ^ 32, sec := set2 b (d.nvNum (slotBase b + 12) 4) h.sec
                    len := if d.hdrNow.isSome then h.len else set2 b (d.nvNum (slotBase b + 8) 4) h.len }
  ((putHdr h d).wrB NV_SLOT_BOOTED b).wr NV_BOOT_PCYCLE h.pcycle

/-- R335: a PENDING or ACTIVE slot that fails is BAD, and the start falls back; no row changes a PREVIOUS slot that fails. -/
def slotFails (b : Bool) (st : Nat) (d : Dev) : Dev :=
  let h := d.hdr
  if st = slPrevious then d
  else ((putHdr { h with st := set2 b slBad h.st } d).wrB NV_STATUS_FALLBACK true).raise .config 2 central 0

/-- R324: PCYCLE counts a start whose slots all failed. -/
def countStart (d : Dev) : Dev :=
  let n := (d.hdr.pcycle + 1) % 2 ^ 32
  (putHdr { d.hdr with pcycle := n } d).wr NV_BOOT_PCYCLE n

/-- R335, R336: the slots in order; with all failed, NO_IMAGE. -/
def trySlots (fz : Fuses) (oa ob : SigObs) : List (Bool × Nat) → Dev → Dev
  | [], d => countStart (d.wrB NV_STATUS_NO_IMAGE true)
  | (b, st) :: l, d =>
    match trySlot fz b true (if b then ob else oa) d with
    | .inl x => toStep 5 (bootHeader b x)
    | .inr x => trySlots fz oa ob l (slotFails b st x)

/-- R321: what SFDP gives. -/
def showSfdp (o : SfdpObs) (d : Dev) : Dev :=
  if o.ok then
    ((((d.wrB NV_STATUS_SFDP_OK true).wrB NV_STATUS_ADDR4 o.addr4).wr NV_DEV_READ_OP (if o.addr4 then 0x6C else 0x6B)).wr
      NV_DEV_DUMMY o.dummy.toNat).wr NV_DEV_DENSITY o.density.toNat
  else d

/-- R318, R321, R330, R335: IMAGE_LOAD. -/
def imageLoad (fz : Fuses) (oa ob : SigObs) (sfdp : SfdpObs) (d : Dev) : Dev :=
  if d.start.step ≠ 4 ∨ d.start.dead = true ∨ d.rdB NV_STATUS_NO_IMAGE then d
  else
    let d := countBad [(d.hdrCopy 0).isSome, (d.hdrCopy 1).isSome] (showHdr d.hdr (showSfdp sfdp d))
    if !sfdp.ok then d.wrB NV_STATUS_NO_IMAGE true
    else trySlots fz oa ob d.tryOrder d

/-- R336: NO_IMAGE_RESTART. -/
def noImageRestart (fz : Fuses) (d : Dev) : Dev :=
  if d.rdB NV_STATUS_NO_IMAGE ∧ (d.hdr.st.1 = slPending ∨ d.hdr.st.2 = slPending) ∧ d.hdrNow.isSome = true
  then romBoot d.pins.strap (resetDev 3 fz.lc d) else d

/-- R358: BT_IMG_DATA, by the TAP: the next word of the inactive slot. -/
def imgData (w : Nat) (d : Dev) : Dev :=
  if d.mg.lc = .field then conflict BT_STATUS_STATE_CONFLICT d
  else
    let n := d.rd BT_IMG_ADDR_WORD
    (nvProg (slotBase d.inactive + 4 * n) (leBytes 4 w) d).wr BT_IMG_ADDR_WORD ((n + 1) % 2 ^ 21)

/-- R324, R358: BT_LOAD: the slot applied with checks 1 to 3 only; the header records it as BAD. A start that stands in NO_IMAGE
has counted already. -/
def btLoad (fz : Fuses) (d : Dev) : Dev :=
  if d.mg.lc = .field ∨ d.start.dead = true ∨ d.start.step ≠ 4 then conflict BT_STATUS_STATE_CONFLICT d
  else
    let b := d.inactive
    match trySlot fz b false ⟨0, true⟩ d with
    | .inr x => x
    | .inl x =>
      let n := (x.hdr.pcycle + b01 (!d.rdB NV_STATUS_NO_IMAGE)) % 2 ^ 32
      let x := putHdr { x.hdr with st := set2 b slBad x.hdr.st, pcycle := n } x
      toStep 5 (((x.wrB NV_SLOT_BOOTED b).wr NV_BOOT_PCYCLE n).wrB NV_STATUS_NO_IMAGE false)

/-! Steps 6 to 9. -/

/-- R318: the fields that a start tests and may bring up. -/
def Dev.testable (d : Dev) : List Nat := d.enabled.filter fun f => !(d.fd f).refused

/-- R318: STRESS_START: step 7 begins. -/
def stressStart (d : Dev) : Dev :=
  if d.start.step = 7 ∧ d.start.begun = false ∧ d.start.dead = false ∧ d.time.count % 1000 = 0 ∧ d.start.since < d.time.nb ∧ d.boundaries = true
      ∧ d.selState = selRun ∧ d.stopped = false
  then forL d.testable (stressBegin false) { d with start := { d.start with begun := true } } else d

/-- R318: the fields that passed and are still to be brought up. -/
def Dev.toBring (d : Dev) : List Nat := d.testable.filter fun f => (d.fd f).passed && !(d.fd f).up

/-- R268: at bring-up the thermal-band ceilings are cleared; the next scan sets them again. -/
def bandForget (x : PatchS) : PatchS := { x with nearCeil := none, critCeil := none, bandActed := 0, bandHold := x.readAt }

/-- R308, R318, R353: FIELD_BRING_UP: a field that passed, with its links UP: hold-safe is released, RUN is requested,
its loops start afresh, and it takes part in the next division. -/
def fieldBringUp (f : Nat) (d : Dev) : Dev :=
  let s := d.stressOf f
  if d.toBring.contains f ∧ s.phase = 7 ∧ s.result = 1 ∧ d.linksUp f = true ∧ d.boundaries = true ∧ d.stopped = false ∧ d.selStop = false
      ∧ (d.start.step = 8 ∨ d.start.step = 9) then
    let d := d.updFd f fun x => { x with up := true, stop := .none, stopDue := false, shut := false }
    let d := forN 36 (fun p d => d.updPt f p bandForget) d
    let d := forN 4 (fun k d => d.wr (ST_LINK_CMD_MODE_REQ f k) modeRun) (holdSafeLift f d)
    let d := forLoops f (fun l => restartLoop l 0) d
    if d.start.step = 8 ∧ d.toBring = [] then { d with start := { d.start with brought := true, since := d.time.nb } } else d
  else d

/-- R307, R318: hold-safe shows in CK_STATUS until no field brought up is held. -/
def Dev.holdSafeAny (d : Dev) : Bool := d.clk.held || d.serving.isEmpty || d.serving.any fun f => d.rdB (ST_OP_STATUS_HOLD_SAFE f)

/-- R318, R382: the SESSION record of a start. -/
def sessionRecord (d : Dev) : Dev :=
  let b := d.rdB NV_SLOT_BOOTED
  let r := d.record 5 0 central false
    ([d.mg.cause, b01 b, d.nvNum (slotBase b + 12) 4, (d.enabled.filter fun f => (d.fd f).passed).length]
      ++ d.nvBytes (slotBase b + 16) 8 ++ leBytes 4 (d.reg FC_L4_CLASS.addr).toNat)
  setPending (d.updEv fun x => { x with pend := x.pend ++ [r] })

/-- R318, R266: READY may set at this boundary. -/
def Dev.mayReady (d : Dev) : Bool :=
  !d.ready && d.time.count % 1000 = 0 && decide (d.start.since < d.time.nb) && d.boundaries && !d.stopped && d.selState = selRun
    && ((d.start.step = 8 && d.start.brought) || d.start.step = 9) && d.fc.l4.isNone

/-- R318: READY. -/
def ready (d : Dev) : Dev :=
  if d.mayReady then
    let d := d.wrB JZ_STATUS_READY true
    if d.start.step = 8 then toStep 9 (sessionRecord d) else d
  else d

/-- R333: at READY in life cycle FIELD the fused count rises to the booted image's SECVER. -/
def readyFuses (d : Dev) (fz : Fuses) : Fuses :=
  if d.mayReady ∧ d.start.step = 8 ∧ d.mg.lc = .field then
    { fz with secver := max fz.secver (min 64 (d.nvNum (slotBase (d.rdB NV_SLOT_BOOTED) + 12) 4)) }
  else fz

/-- R355: a stress test is given up. -/
def dropStress (d : Dev) : Dev :=
  forL ((allFields.filter d.inStress)) (fun f d =>
    (updStress f (fun _ => Stress.init) d).updFd f fun x => { x with up := false }) d

/-- R267, R318, R338: what a boundary does for the start: a selvedge stop abandons steps 7 and 8, and the stress tests and
bring-up of a restart; step 8 ends after 2 bolts. -/
def startBoundary (d : Dev) : Dev :=
  if (d.start.step = 7 ∧ d.start.begun = true ∨ d.start.step = 8) ∧ d.selStop = true then
    let d := forL d.testable (fun f d => d.updFd f fun x => { x with up := false, passed := false }) (dropStress d)
    { d with start := { d.start with step := 7, begun := false, brought := false, since := d.time.nb } }
  else if d.start.step = 9 ∧ d.selStop = true then dropStress d
  else if d.start.step = 8 ∧ d.start.brought = false ∧ d.expiredAll d.start.since 2000 = true then
    let d := forL d.toBring (fun f d => d.updFd f fun x => { x with stop := .selfTest }) d
    { d with start := { d.start with brought := true, since := d.time.nb } }
  else d

/-- R318, R320: the steps that end at a bolt boundary: step 6 with a timebase, step 7 with every field finished. -/
def startBolt (d : Dev) : Dev :=
  if d.start.step = 6 ∧ (d.mode = LOCKED ∨ d.mode = ALIGNING ∨ d.mode = HOLDOVER) then toStep 7 d
  else if d.start.step = 7 ∧ d.start.begun = true ∧ (d.testable.all fun f => (d.stressOf f).phase = 7) = true then
    if d.testable.any fun f => (d.fd f).passed then toStep 8 (kernelPass d) else kernelFail d
  else d

/-! The selvedge's restart. -/

/-- R264, R266: SELVEDGE_RESTART; before READY of a start step 7 begins again instead (R338). L-CAP starts afresh. -/
def selvedgeRestart (d : Dev) : Dev :=
  if d.mayRestart then
    let d := restartLoop capRef d.sp (d.wr JZ_SEL_STATUS_STATE selRestart)
    if d.start.step = 9 then forL d.testable (stressBegin false) d else d
  else d

/-- R266: the last passing field is up, or has failed to come up within 2 bolts. -/
def Dev.restarted (d : Dev) : Bool :=
  d.start.step ≠ 9 || d.testable.all fun f =>
    (d.stressOf f).phase = 7 && ((d.fd f).up || !(d.fd f).passed || d.expired (d.stressOf f).phaseAt 2000)

/-- R266, R267: RESTART_COMPLETE. -/
def restartComplete (d : Dev) : Dev :=
  if d.selState = selRestart ∧ d.restarted = true then
    let d := ((((d.wr JZ_SEL_STATUS_STATE selRun).wrB JZ_SEL_STATUS_OFF false).wrB JZ_SEL_STATUS_CAUSE_TRIP false).wrB
      JZ_SEL_STATUS_CAUSE_COOL false).wrB JZ_SEL_STATUS_TRIP_PIN false
    let d := { d with start := { d.start with since := d.time.nb } }
    d.raise .therm 4 central 0
  else d

/-! L4. -/

/-- R370: L4_RESET; `rosc` says that 2 ms have passed on ROSC. -/
def l4Reset (rosc : Bool) (d : Dev) : Dev :=
  if d.fc.l4.isSome ∧ (2 ≤ d.fc.l4Bolts ∨ (rosc && !d.boundaries) = true) then romBoot d.pins.strap (resetDev 2 d.mg.lc d) else d

/-! The commands. -/

def execResetNAssert (s : State) : Host.Outcome State Fault Refusal := always (resetAssert s.fuses) s
def execResetNRelease (strap : BitVec 2) (s : State) : Host.Outcome State Fault Refusal := always (resetRelease strap.toNat) s
def execPowerOn (s : State) : Host.Outcome State Fault Refusal := always (powerOn s.fuses) s
def execKernelSelftest (fail : Option (BitVec 8 × BitVec 8)) (lane : Bool) (s : State) : Host.Outcome State Fault Refusal :=
  done (kernelSelftest (fail.map fun x => (x.1.toNat, x.2.toNat)) lane) s
def execImageLoad (a b : SigObs) (sfdp : SfdpObs) (s : State) : Host.Outcome State Fault Refusal := done (imageLoad s.fuses a b sfdp) s
def execConfigLock (s : State) : Host.Outcome State Fault Refusal := done configLock s
def execNoImageRestart (s : State) : Host.Outcome State Fault Refusal := done (noImageRestart s.fuses) s
def execBtImgData (w : BitVec 32) (s : State) : Host.Outcome State Fault Refusal := done (imgData w.toNat) s
def execBtLoad (s : State) : Host.Outcome State Fault Refusal := done (btLoad s.fuses) s
def execStressStart (s : State) : Host.Outcome State Fault Refusal := done stressStart s
def execStressDone (f : Fin 96) (s : State) : Host.Outcome State Fault Refusal := done (fun d => kernelPass (stressDone f.val d)) s
def execFieldBringUp (f : Fin 96) (s : State) : Host.Outcome State Fault Refusal := done (fieldBringUp f.val) s
def execReady (s : State) : Host.Outcome State Fault Refusal :=
  done ready { s with fuses := if s.dev.released then readyFuses s.dev s.fuses else s.fuses }
def execSelvedgeRestart (s : State) : Host.Outcome State Fault Refusal := done selvedgeRestart s
def execRestartComplete (s : State) : Host.Outcome State Fault Refusal := done restartComplete s
def execL4Reset (rosc : Bool) (s : State) : Host.Outcome State Fault Refusal := done (l4Reset rosc) s

end Sys2Proof.Machine
end

