-- ==== Sys2Proof/Machine/Mgmt.lean ====
section
/-! DEFINITION. Chapter 17: the PMBus slave and its commands (R412 to R421), the life cycle (R422), the TAP and its boundary
register (R427 to R429; MBUS is in Bus), and the trace (R425, R432). -/

namespace Sys2Proof.Machine

/-! PMBus transactions (R412). -/

/-- R431: PM_LAST.RESULT. -/
def pmDone : Nat := 0
def pmCommand : Nat := 1
def pmData : Nat := 2
def pmPec : Nat := 3

/-- R414: the bit of STATUS_CML of a result: 7 invalid command, 6 invalid data, 5 PEC failed. -/
def cmlBit (r : Nat) : Nat := if r = pmDone then 0 else 2 ^ (8 - r)

/-- R414: set bits of STATUS_CML. -/
def setCml (bits : Nat) (d : Dev) : Dev := d.updMg fun m => { m with cml := m.cml ||| bits }

/-- What the slave answers: its data bytes, without a block's count and without PEC. -/
def reply (l : List Nat) (d : Dev) : Dev := d.updMg fun m => { m with reply := l }

/-- R312, R412: the slave acknowledges its address. -/
def Dev.pmAnswers (d : Dev) : Bool := d.slaveOn && d.gateOk 10

/-- R412, R431: a transaction addressed to the slave: counted, recorded, and without effect where it is refused. -/
def transact (cmd : Nat) (write : Bool) (g : Dev → Dev × Nat) (d : Dev) : Dev :=
  if d.pmAnswers then
    let (d, r) := g (reply [] (d.inc PM_CNT_XFERS))
    (((setCml (cmlBit r) d).wr PM_LAST_CMD cmd).wrB PM_LAST_WRITE write).wr PM_LAST_RESULT r
  else d

/-- A read: the slave's answer. -/
def pmRead (cmd : Nat) (g : Dev → List Nat) (d : Dev) : Dev := transact cmd false (fun d => (reply (g d) d, pmDone)) d

/-- R412, R419: a write, with its PEC. -/
def pmWrite (cmd : Nat) (pec : Pec) (g : Dev → Dev × Nat) (d : Dev) : Dev :=
  transact cmd true (fun d => match pec with
    | .bad => (d.inc PM_CNT_PEC_ERR, pmPec)
    | .absent => if d.rdB PM_CFG_PEC_REQ then (d, pmPec) else g d
    | .good => g d) d

/-! Standard commands (R413 to R415). -/

/-- R413: CLEAR_FAULTS. -/
def clearFaults (d : Dev) : Dev := (d.updMg fun m => { m with cml := 0 }).wrB PM_STATUS_ALERT false

/-- R413: a read of the Alert Response Address: a slave that drives the alert answers with its address and releases it. -/
def alertResponse (d : Dev) : Dev :=
  if d.pmAnswers ∧ d.rdB PM_STATUS_ALERT then reply [2 * d.rd PM_STATUS_ADDR] (d.wrB PM_STATUS_ALERT false) else d

/-- R332, R414: the serial number in the identity area. Log entry 13. -/
def Dev.serial (d : Dev) : List Nat := d.nvBytes 0x10000 8

/-- R430: JZ_ID.REV, two characters. -/
def revChars (fz : Fuses) : List Nat := leBytes 2 fz.rev

/-- R412: PMBUS_INVALID_COMMAND: 0 a code or a transaction type that is not allowed, 1 data out of range, 2 a PEC mismatch. -/
def invalidCommand (cmd : Nat) (write : Bool) (kind : Nat) (d : Dev) : Dev :=
  transact cmd write (fun d => if kind = 2 then (d.inc PM_CNT_PEC_ERR, pmPec) else (d, kind + 1)) d

/-- R414: STATUS_CML, read, or written with the bits to clear. -/
def statusCml (w : Option Nat) (pec : Pec) (d : Dev) : Dev :=
  match w with
  | none => pmRead 0x7E (fun d => [d.mg.cml]) d
  | some v => pmWrite 0x7E pec (fun d => (d.updMg fun m => { m with cml := m.cml &&& (255 - v % 256) }, pmDone)) d

/-! Manufacturer commands (R416 to R421). -/

/-- R417: JZ_STATUS.LC. -/
def LifeCycle.code : LifeCycle → Nat
  | .blank => 0 | .test => 1 | .field => 2 | .ret => 3

/-- R419: MFR_JZ_CAP written. -/
def capWrite (v : Nat) (urgent : Bool) (d : Dev) : Dev × Nat :=
  if d.capRange v then (setCap false v urgent d, pmDone) else (setCap false v urgent d, pmData)

/-- R416: MFR_JZ_CAP read. -/
def Dev.capReply (d : Dev) : List Nat := leBytes 2 (d.cap % 2 ^ 15 + b01 d.capDeferred * 2 ^ 15)

/-- R417: MFR_JZ_STATUS. -/
def Dev.mfrStatus (d : Dev) : List Nat :=
  [b01 d.ready + d.rd JZ_STATUS_KERNEL_OK * 2 + d.rd NV_STATUS_NO_IMAGE * 4 + d.selState * 8 + d.rd JZ_SEL_STATUS_CAUSE_TRIP * 64
     + d.rd JZ_SEL_STATUS_CAUSE_COOL * 128,
   d.mfrByte1, d.mg.lc.code + d.rd JZ_SEL_STATUS_OFF * 4, d.healthyCount]

/-- R416: MFR_JZ_FAULTS. -/
def Dev.mfrFaults (d : Dev) : List Nat := leBytes 4 (d.reg (FC_UNCLR_MAX 0).addr).toNat ++ leBytes 2 (d.reg (FC_UNCLR_MAX 8).addr).toNat

/-- R418: the hottest patch of the enabled fields, the lowest-numbered of those as hot. -/
def Dev.hottest (d : Dev) : Int × Nat × Nat :=
  let l := d.enabled.flatMap fun f => (List.range 36).map fun p => (d.temp f p, f, p)
  l.tail.foldl (fun b x => if b.1 < x.1 then x else b) (l.headD (0, 0, 0))

/-- R418: MFR_JZ_TELEM. -/
def Dev.mfrTelem (d : Dev) : List Nat :=
  let (t, f, p) := d.hottest
  leBytes 2 (d.bud.boltE / (256 * 1000 * 8)) ++ leBytes 2 d.cap ++ leBytes 2 (d.rd BU_GRANT_G / 8) ++ leBytes 2 (unsignedOf 16 t)
    ++ [f, p] ++ leBytes 2 (d.rd JZ_AGE_STATUS_RETIRED) ++ leBytes 4 (d.rd EV_HOURS_HOURS)

/-- R418: MFR_JZ_COUNTS. -/
def Dev.mfrCounts (d : Dev) : List Nat :=
  leBytes 8 (d.bud.waferE / 256) ++ leBytes 2 (d.rd LG_RP_CNT1_REPLACED) ++ leBytes 2 (d.rd LG_RP_CNT2_UNRESOLVED)
    ++ leBytes 2 (d.rd LG_RP_CNT3_STRIKES) ++ [d.rd JZ_SEL_FIRST_STOPS, d.rd FC_L4_COUNT]

/-- R416: MFR_JZ_RECORD. -/
def Dev.mfrRecord (d : Dev) (seq : Nat) : List Nat :=
  let (b, ok) := d.readRecord seq
  [if ok then 1 + 2 * (repeatsOf b % 64) else 0, 0] ++ leBytes 4 (d.rd EV_WSEQ_WSEQ) ++ b

/-- R420: MFR_JZ_IMG_OPEN. -/
def imgOpen (len : Nat) (d : Dev) : Dev × Nat :=
  if d.nv.session.isSome ∨ !d.gateOk 9 then (xferResult imBusy d, pmData)
  else if len = 0 ∨ len % 4 ≠ 0 ∨ 0x800000 < len then (d, pmData)
  else (openSession false none len d, pmDone)

/-- R420: a PMBus session exists. -/
def Dev.pmSession (d : Dev) : Bool := match d.nv.session with | some s => !s.peer | none => false

/-- R420: MFR_JZ_IMG_CHUNK; `late` says that 25 ms of clock stretch were not enough. -/
def imgChunk (off : Nat) (data : List Nat) (late : Bool) (d : Dev) : Dev × Nat :=
  if data = [] ∨ 240 < data.length then (d, pmData)
  else if !d.pmSession then (xferResult imNoSession d, pmData)
  else if late then (setCml 2 (xferResult imBusy d), pmData)
  else
    let (x, r) := writeChunk off data d
    (xferResult r x, if r = imOk then pmDone else pmData)

/-- R416: MFR_JZ_IMG_ABORT. -/
def imgAbort (d : Dev) : Dev × Nat :=
  match d.nv.session with
  | some s => if s.peer then (d, pmData) else (badSession s 0 d, pmDone)
  | none => (d, pmData)

/-- R339, R416: NV_XFER.IDLE: bolts since the last chunk. -/
def Dev.xferIdle (d : Dev) : Nat := match d.nv.session with | some s => satN 0xFFFF ((d.time.nbRun - s.last) / 1000) | none => 0

/-- R416: MFR_JZ_IMG_STATUS. -/
def Dev.imgStatus (d : Dev) : List Nat :=
  leBytes 4 (fldSet NV_XFER_IDLE d.xferIdle (d.reg NV_XFER_STATE.addr)).toNat ++ leBytes 4 (d.reg NV_XFER_NEXT_NEXT.addr).toNat
    ++ leBytes 4 (d.reg NV_SLOT_STATE_A.addr).toNat

/-- R421: MFR_JZ_IDENTITY; `sig` is what the identity key signs. -/
def identity (fz : Fuses) (challenge sig : List Nat) (d : Dev) : Dev × Nat :=
  if challenge.length ≠ 32 ∨ d.mg.lc = .blank ∨ d.mg.lc = .ret ∨ fz.keySet = false ∨ fz.keyKilled = true then (d, pmData)
  else (reply (d.serial ++ (sig ++ List.replicate (96 - sig.length) 0).take 96) d, pmDone)

/-- R421: MFR_JZ_RETURN is accepted: the device is in FIELD, its own serial is named and the token verifies. -/
def Dev.returns (d : Dev) (serial : List Nat) (ok : Bool) (pec : Pec) : Bool :=
  d.pmAnswers && d.mg.lc = .field && ok && serial = d.serial && (pec = .good || (pec = .absent && !d.rdB PM_CFG_PEC_REQ))

/-- R421, R422: MFR_JZ_RETURN. -/
def mfrReturn (serial : List Nat) (ok : Bool) (pec : Pec) (d : Dev) : Dev :=
  pmWrite 0xE9 pec (fun x => (x, if d.mg.lc = .field ∧ ok = true ∧ serial = d.serial then pmDone else pmData)) d

/-- R422: the fuses blown at RETURN. -/
def returnFuses (go : Bool) (fz : Fuses) : Fuses := if go then { fz with lc := .ret, keyKilled := true } else fz

/-! The TAP (R427 to R429). -/

/-- R427: codes of the TAP's instructions. -/
def tapIdcode : Nat := 1
def tapMbus : Nat := 0x10
def tapBypass : Nat := 0xFF

/-- R427: the instructions and the life cycle states that allow them; EXTEST in FIELD only while RESET_N is low (R429). -/
def tapAllows (code : Nat) (lc : LifeCycle) (resetN : Bool) : Option Bool :=
  if code = 0 then some (lc ≠ .field || !resetN)
  else if code = 1 ∨ code = 2 ∨ code = 0xFF then some true
  else if code = 0x10 then some (lc ≠ .field)
  else if code = 0x11 ∨ code = 0x12 then some (lc = .test)
  else if code = 0x13 then some (lc = .blank || lc = .test)
  else none

/-- R427: the instruction register. -/
def tapLoad (code : Nat) (d : Dev) : Dev :=
  (d.updMg fun m => { m with ir := code, extest := code = 0 }).wrB BT_STATUS_TAP (code = tapMbus)

/-- R427: an instruction that the present state does not allow. -/
def tapRefuse (code : Nat) (d : Dev) : Dev :=
  (tapLoad tapBypass d).raiseR { d.report .secure 2 central 0 with addr := code, master := Master.tap.code }

/-- R427: an instruction, where the present state allows it. -/
def tap (code : Nat) (g : Dev → Dev) (d : Dev) : Dev :=
  if tapAllows code d.mg.lc d.pins.resetN = some true then g (tapLoad code d) else tapRefuse code d

/-- R9, R427: TAP_RESET. -/
def tapReset (d : Dev) : Dev := tapLoad tapIdcode d

/-- R427: IDCODE. -/
def idcode : Nat := 0x1 * 2 ^ 28 + 0x4A60 * 2 ^ 12 + 0x4B1 * 2 + 1

/-- R9, R428, R429: the open-drain outputs that Jenuz itself drives low: cells 5, 6, 7 and 26. -/
def Dev.drivesLow (d : Dev) (cell : Nat) : Bool :=
  if cell = 5 then d.errLow else if cell = 6 then d.rdB JZ_SEL_STATUS_TRIP_PIN
  else if cell = 7 then d.released && d.rdB JZ_SVC_STATUS_REQUEST
  else if cell = 26 then d.released && d.rdB PM_STATUS_ALERT else false

/-- R428, R429: EXTEST drives the pins. -/
def Dev.extests (d : Dev) : Bool := d.mg.extest && (d.mg.lc ≠ .field || !d.pins.resetN)

/-- R429: an open-drain output pin is low: EXTEST drives it from its cell, but the selvedge's drive of JZ_TRIP_N stands. -/
def Dev.pinLow (d : Dev) (cell : Nat) : Bool :=
  if d.extests then !bitOf d.mg.bsr cell || (cell = 6 && d.drivesLow 6) else d.drivesLow cell

/-- R9, R10, R428: the cells of the outputs that are fixed while Jenuz is held in reset, with their levels: JZ_CLKOUT low,
NV_SCK low, NV_CS_N high, NV_IO high-impedance, PMB_SCL and PMB_SDA released. -/
def heldCells : List (Nat × Bool) := [(8, false), (9, true), (10, false), (11, true), (12, true), (21, false), (23, true), (25, true)]

/-- R428: what the boundary register captures: RESET_N, COOL_OK and the four open-drain outputs as they stand; the cells of
`heldCells` while Jenuz is held in reset and EXTEST does not drive them; the other cells as `pins` says they are. -/
def Dev.captureCell (d : Dev) (pins i : Nat) : Bool :=
  if i = 0 then d.pins.resetN else if i = 2 then d.pins.coolOk
  else if i = 5 ∨ i = 6 ∨ i = 7 ∨ i = 26 then !d.pinLow i
  else match if d.released || d.extests then none else heldCells.find? (·.1 = i) with
    | some x => x.2
    | none => bitOf pins i

def Dev.capture (d : Dev) (pins : Nat) : Nat := sumN ((List.range 27).map fun i => b01 (d.captureCell pins i) * 2 ^ i)

/-- R428: a scan of the boundary register: it captures, and takes the cells shifted in. -/
def scanCells (pins cells : Nat) (d : Dev) : Dev := d.updMg fun m => { m with dr := d.capture pins, bsr := cells }

/-- R427: FUSE: the fuses that it programs in TEST. -/
def fuseProg (root : Option Nat) (cal : Bool) (secver : Nat) (d : Dev) (fz : Fuses) : Fuses :=
  if d.mg.lc = .test then
    { fz with
      rootSet := fz.rootSet || root.isSome
      rootHash := if fz.rootSet then fz.rootHash else root.getD 0
      calibrated := fz.calibrated || cal
      secver := max fz.secver (min 64 secver) }
  else fz

/-- R427: IDKEY in TEST, once: the identity key is generated, and its public half goes into the identity area. -/
def idKey (fz : Fuses) (pub : List Nat) (d : Dev) : Dev :=
  tap 0x12 (fun d => if fz.keySet then d else nvProg 0x10008 (pub.take 96) d) d

def idKeyFuses (d : Dev) (fz : Fuses) : Fuses := if d.mg.lc = .test then { fz with keySet := true } else fz

/-- R422: LC_ADV is refused in TEST with the root hash, the identity key or the calibration missing. -/
def lcMissing (fz : Fuses) : Bool := !(fz.rootSet && fz.keySet && fz.calibrated)

def lcAdv (fz : Fuses) (d : Dev) : Dev := if d.mg.lc = .test ∧ lcMissing fz = true then tapRefuse 0x13 d else tap 0x13 id d

/-- R422: the life cycle fuse that LC_ADV blows; it never moves back. -/
def lcAdvFuses (d : Dev) (fz : Fuses) : Fuses :=
  if d.mg.lc = .blank ∧ fz.lc = .blank then { fz with lc := .test }
  else if d.mg.lc = .test ∧ fz.lc = .test ∧ lcMissing fz = false then { fz with lc := .field }
  else fz

/-- R427: BYPASS, or a code that acts as BYPASS: unlisted, or not allowed in the present state. -/
def bypass (code : Nat) (d : Dev) : Dev :=
  match tapAllows code d.mg.lc d.pins.resetN with
  | some false => tapRefuse code d
  | some true => if code = tapBypass then tapLoad tapBypass d else d
  | none => tapLoad tapBypass d

/-! The trace (R425, R432). -/

/-- R425: DB_TR_CMD.ARM. -/
def traceArm (d : Dev) : Dev :=
  let at_ := d.mg.traceSet
  if at_ < d.time.count + 2 then conflict DB_STATUS_STATE_CONFLICT d
  else
    let d := (((d.wrB DB_STATUS_ARMED true).wrB DB_STATUS_RUN false).wrB DB_STATUS_DONE false).wr DB_STATUS_NEXT 0
    d.updMg fun m => { m with traceAt := at_, traceStop := false }

/-- R432: DB_TR_CMD.STOP: the trace ends at the next boundary. -/
def traceStop (d : Dev) : Dev := d.updMg fun m => { m with traceStop := d.rdB DB_STATUS_RUN || d.rdB DB_STATUS_ARMED }

/-- R23, R425: TRACE_START, at the armed pick or the first after it. -/
def traceStart (d : Dev) : Dev :=
  if d.rdB DB_STATUS_ARMED ∧ d.mg.traceAt ≤ d.time.count then
    ((d.wrB DB_STATUS_ARMED false).wrB DB_STATUS_RUN true).wr DB_STATUS_NEXT 0
  else d

/-- R425, R432: one entry. -/
def traceEntry (d : Dev) : Dev :=
  let f := d.rd DB_TR_CFG_FIELD
  let k := d.rd DB_TR_CFG_DOMAIN
  let e := d.rd DB_STATUS_NEXT
  let ps := patchesOf k
  let fmin := (minN ((ps.filter (d.runs f)).map (d.fidx f))).getD 0
  let held := sumN ((List.range 8).map fun c => b01 (d.held f c) * 2 ^ c)
  let d := (d.wr (DB_TR_PICK e) d.time.count).wr (DB_TR_IOUT e) (d.rd (ST_LINK_UP0_IOUT f k))
  let d := ((d.wr (DB_TR_VID e) (d.rd (ST_LINK_DOWN_VID f k))).wr (DB_TR_STATE e) (d.rd (ST_HED_STATE_STATE f k))).wr (DB_TR_STRETCH e)
    (maxN (ps.map fun p => d.rd (PS_STATUS_STRETCH f p)))
  let d := (d.wr (DB_TR_G_EFF e) (d.rd (ST_HED_SLOPE_G_EFF f k))).wr (DB_TR_I_REF e) (d.rd (ST_HED_REF_I_REF f k))
  let d := ((d.wr (DB_TR_HELD e) held).wr (DB_TR_FMIN e) fmin).wr DB_STATUS_NEXT ((e + 1) % 1024)
  if e = 1023 ∧ !d.rdB DB_TR_CFG_WRAP then (d.wrB DB_STATUS_RUN false).wrB DB_STATUS_DONE true else d

/-- R425, R432: the trace at a boundary. -/
def traceBoundary (d : Dev) : Dev :=
  if d.mg.traceStop then ((d.wrB DB_STATUS_RUN false).wrB DB_STATUS_ARMED false).updMg fun m => { m with traceStop := false }
  else
    let d := traceStart d
    if d.rdB DB_STATUS_RUN ∧ d.rd DB_TR_CFG_FIELD < 96 then traceEntry d else d

/-! The commands. -/

def execClearFaults (pec : Pec) (s : State) : Host.Outcome State Fault Refusal :=
  done (pmWrite 0x03 pec fun d => (clearFaults d, pmDone)) s
def execAlertResponse (s : State) : Host.Outcome State Fault Refusal := done alertResponse s
def execCapability (s : State) : Host.Outcome State Fault Refusal := done (pmRead 0x19 fun _ => [0xB0]) s
def execStatusByte (s : State) : Host.Outcome State Fault Refusal := done (pmRead 0x78 fun d => [d.statusWord % 256]) s
def execStatusWord (s : State) : Host.Outcome State Fault Refusal := done (pmRead 0x79 fun d => leBytes 2 d.statusWord) s
def execStatusCml (w : Option (BitVec 8)) (pec : Pec) (s : State) : Host.Outcome State Fault Refusal :=
  done (statusCml (w.map (·.toNat)) pec) s
def execPmbusRevision (s : State) : Host.Outcome State Fault Refusal := done (pmRead 0x98 fun _ => [0x33]) s
def execMfrId (s : State) : Host.Outcome State Fault Refusal := done (pmRead 0x99 fun _ => [0x4C, 0x4F, 0x4D, 0x58, 0x4F, 0x4E]) s
def execMfrModel (s : State) : Host.Outcome State Fault Refusal :=
  done (pmRead 0x9A fun _ => [0x4A, 0x45, 0x4E, 0x55, 0x5A, 0x2D, 0x39, 0x36]) s
def execMfrRevision (s : State) : Host.Outcome State Fault Refusal := done (pmRead 0x9B fun _ => revChars s.fuses) s
def execMfrSerial (s : State) : Host.Outcome State Fault Refusal := done (pmRead 0x9E Dev.serial) s
def execPmbusInvalidCommand (cmd : BitVec 8) (write : Bool) (kind : Fin 3) (s : State) : Host.Outcome State Fault Refusal :=
  done (invalidCommand cmd.toNat write kind.val) s
def execMfrJzCapWrite (v : BitVec 15) (urgent : Bool) (pec : Pec) (s : State) : Host.Outcome State Fault Refusal :=
  done (pmWrite 0xD0 pec (capWrite v.toNat urgent)) s
def execMfrJzCapRead (s : State) : Host.Outcome State Fault Refusal := done (pmRead 0xD0 Dev.capReply) s
def execMfrJzStatus (s : State) : Host.Outcome State Fault Refusal := done (pmRead 0xD1 Dev.mfrStatus) s
def execMfrJzFaults (s : State) : Host.Outcome State Fault Refusal := done (pmRead 0xD2 Dev.mfrFaults) s
def execMfrJzTelem (s : State) : Host.Outcome State Fault Refusal := done (pmRead 0xD3 Dev.mfrTelem) s
def execMfrJzCounts (s : State) : Host.Outcome State Fault Refusal := done (pmRead 0xD4 Dev.mfrCounts) s
def execMfrJzShutdown (pec : Pec) (s : State) : Host.Outcome State Fault Refusal :=
  done (pmWrite 0xD5 pec fun d => (askShutdown d, pmDone)) s
def execMfrJzRecord (seq : BitVec 32) (s : State) : Host.Outcome State Fault Refusal := done (pmRead 0xD6 fun d => d.mfrRecord seq.toNat) s
def execMfrJzImgOpen (len : BitVec 32) (pec : Pec) (s : State) : Host.Outcome State Fault Refusal :=
  done (pmWrite 0xE0 pec (imgOpen len.toNat)) s
def execMfrJzImgChunk (off : BitVec 32) (data : List Byte) (late : Bool) (pec : Pec) (s : State) : Host.Outcome State Fault Refusal :=
  done (pmWrite 0xE1 pec (imgChunk off.toNat (nats data) late)) s
def execMfrJzImgStatus (s : State) : Host.Outcome State Fault Refusal := done (pmRead 0xE2 Dev.imgStatus) s
def execMfrJzImgAbort (pec : Pec) (s : State) : Host.Outcome State Fault Refusal := done (pmWrite 0xE3 pec imgAbort) s
def execMfrJzIdentity (challenge sig : List Byte) (s : State) : Host.Outcome State Fault Refusal :=
  done (transact 0xE8 false (identity s.fuses (nats challenge) (nats sig))) s
def execMfrJzReturn (serial : List Byte) (ok : Bool) (pec : Pec) (s : State) : Host.Outcome State Fault Refusal :=
  done (mfrReturn (nats serial) ok pec) { s with fuses := returnFuses (s.dev.returns (nats serial) ok pec) s.fuses }
def execTapReset (s : State) : Host.Outcome State Fault Refusal := always tapReset s
def execExtest (pins cells : BitVec 27) (s : State) : Host.Outcome State Fault Refusal :=
  always (selvedge (tap 0 (scanCells pins.toNat cells.toNat))) s
def execIdcode (s : State) : Host.Outcome State Fault Refusal := always (tap 1 fun d => d.updMg fun m => { m with dr := idcode }) s
def execSamplePreload (pins cells : BitVec 27) (s : State) : Host.Outcome State Fault Refusal :=
  always (tap 2 (scanCells pins.toNat cells.toNat)) s
def execFuse (root : Option (BitVec 384)) (cal : Bool) (secver : BitVec 7) (s : State) : Host.Outcome State Fault Refusal :=
  always (selvedge (tap 0x11 id)) { s with fuses := fuseProg (root.map (·.toNat)) cal secver.toNat s.dev s.fuses }
def execIdkey (pub : List Byte) (s : State) : Host.Outcome State Fault Refusal :=
  always (selvedge (idKey s.fuses (nats pub))) { s with fuses := idKeyFuses s.dev s.fuses }
def execLcAdv (s : State) : Host.Outcome State Fault Refusal :=
  always (selvedge (lcAdv s.fuses)) { s with fuses := lcAdvFuses s.dev s.fuses }
def execBypass (code : BitVec 8) (s : State) : Host.Outcome State Fault Refusal := always (selvedge (bypass code.toNat)) s
def execTraceArm (s : State) : Host.Outcome State Fault Refusal := done traceArm s
def execTraceStop (s : State) : Host.Outcome State Fault Refusal := done traceStop s
def execTraceStart (s : State) : Host.Outcome State Fault Refusal := done traceStart s

end Sys2Proof.Machine
end

