-- ==== Sys2Proof/Machine/Bus.lean ====
section
/-! DEFINITION. The register bus (R15 to R18): who reaches what (R408 to R411), what a read answers and what a write does.
A register whose value follows from state elsewhere is computed when it is read; every other one is the word stored. -/

namespace Sys2Proof.Machine

/-! Addresses. -/

/-- R312, R313: the gate of a block, where it has one. -/
def gateOf : Blk → Option Nat
  | .bu => some 3 | .lg => some 4 | .ev => some 6 | .bt => some 7 | .pp => some 8 | .nv => some 9 | .pm => some 10 | .db => some 11
  | .jz => none | .tb => none | .ck => none | .fc => none | .st => none | .ce => none | .ps => none

/-- R19: an address in the SRAM, and one in the ROM. -/
def inSram (a : Nat) : Bool := decide (0x10000000 ≤ a) && decide (a < 0x10080000)
def inRom (a : Nat) : Bool := decide (a < 0x20000)

/-- R15, R19: some block decodes the address. -/
def decoded (a : Nat) : Bool := inRom a || inSram a || (fieldsAt a).isSome

/-- R18: the 64-bit pairs that only a read latches, by the address of the low word: the address of the high word. -/
def roPair (a : Nat) : Option Nat :=
  match placeOf a with
  | none => none
  | some pl =>
    let o := pl.off
    if (pl.blk = .tb ∧ o = 4) ∨ (pl.blk = .ps ∧ o = 0x14) ∨ (pl.blk = .bu ∧ o = 0x20) ∨ (pl.blk = .jz ∧ o = 0x418)
        ∨ (pl.blk = .pp ∧ o = 0xE0) ∨ (pl.blk = .fc ∧ (o = 0x394 ∨ (0x100 ≤ o ∧ o < 0x160 ∧ o % 16 = 8)))
        ∨ (pl.blk = .lg ∧ 0x400 ≤ o ∧ o < 0x800 ∧ o % 16 = 8)
    then some (a + 4) else none

/-- R18: the pairs that software writes. -/
def rwPair (a : Nat) : Option Nat :=
  if a = TB_ACT_AT_LO_AT_L.addr ∨ a = TB_STOP_AT_LO_AT_L.addr ∨ a = TB_RESUME_AT_LO_AT_L.addr ∨ a = DB_TR_AT_LO_AT_L.addr
  then some (a + 4) else none

/-- R18: the high word of a pair, by the address of the low word. -/
def pairHigh (a : Nat) : Option Nat := match roPair a with | some h => some h | none => rwPair a

/-! Shadows (R18, R409). -/

/-- The shadow of a master for a high word: the word latched, and the H that came with it. -/
def shadowKey (m : Master) (hi : Nat) : Nat := m.shadowIx * 2 ^ 32 + hi
def Dev.shadowOf (d : Dev) (m : Master) (hi : Nat) : Word × Bool := tget (0, false) d.shadow (shadowKey m hi)
def setShadow (m : Master) (hi : Nat) (x : Word × Bool) (d : Dev) : Dev := { d with shadow := tput (0, false) (shadowKey m hi) x d.shadow }

/-! What a read answers, block by block. `w` is the word stored. -/

/-- A bitmap of 32 bits from a number on. -/
def mapBits (lo n : Nat) (g : Nat → Bool) : Nat := sumN ((List.range n).map fun i => b01 (g (lo + i)) * 2 ^ i)

/-- R430: who reads JZ_HW_SELF. -/
def selfWord : Master → Nat
  | .host k => k.val
  | _ => 8

/-- R272: bolts since a boundary, where the time runs. -/
def boltsOf (n : Nat) : Nat := satN 0xFFFF (n / 1000)

/-- R430: ownership of the job table's entries 8i to 8i + 7. -/
def Dev.ownWord (d : Dev) (i : Nat) : Nat :=
  sumN ((List.range 8).map fun j => match d.job (8 * i + j) with
    | some e => (match e.owner with
      | some k => if d.bud.owns.any (fun o => o.1 = e.job && o.2.1 = k) then (k + 8) * 2 ^ (4 * j) else 0
      | none => 0)
    | none => 0)

/-- JZ_ registers (R272, R405, R430). -/
def Dev.viewJz (d : Dev) (fz : Fuses) (m : Master) (o : Nat) (w : Word) : Word :=
  if o = 0 then fldSet JZ_ID_SITE fz.site (fldSet JZ_ID_REV fz.rev w)
  else if o = 4 then fldSet JZ_STATUS_LC d.mg.lc.code w
  else if o = 0x10 then BitVec.ofNat 32 (selfWord m)
  else if 0x40 ≤ o ∧ o < 0x60 then BitVec.ofNat 32 (d.ownWord ((o - 0x40) / 4))
  else if o = 0x400 then fldSet JZ_SEL_STATUS_STAMP_H (b01 (d.shadowOf m JZ_SEL_STAMP_HI_PICK_H.addr).2) w
  else if o = 0x410 then BitVec.ofNat 32 (boltsOf (d.sel.coolFor.getD 0) + boltsOf (d.sel.okFor.getD 0 - 1) * 2 ^ 16)
  else w

/-- TB_ registers (R49). -/
def Dev.viewTb (d : Dev) (m : Master) (sub o : Nat) (w : Word) : Word :=
  let s := d.slot d.actSel
  if o = 4 then BitVec.ofNat 32 (d.stamp sub)
  else if o = 8 then BitVec.ofNat 32 (d.stamp sub / 2 ^ 32)
  else if o = 0xC then BitVec.ofNat 32 (b01 (d.shadowOf m TB_NOW_HI_PICK_H.addr).2)
  else if o = 0x10 then BitVec.ofNat 32 (if d.mode = LOCKED then 0 else satN 0xFFFFFFFF ((d.time.nb - d.time.lastLocked) / 1000))
  else if o = 0x24 then BitVec.ofNat 32 s.addr
  else if o = 0x28 then BitVec.ofNat 32 s.data
  else if o = 0x2C then BitVec.ofNat 32 s.lo
  else if o = 0x30 then BitVec.ofNat 32 (s.at_ / 2 ^ 32)
  else if o = 0x38 then BitVec.ofNat 32 (sumN ((List.range 16).map fun i =>
    (match (d.slot i).st with | .free => 0 | .armed => 1 | .done => 2 | .missed => 3) * 4 ^ i))
  else w

/-- CK_ registers (R317). -/
def Dev.viewCk (d : Dev) (o : Nat) (w : Word) : Word :=
  if o = 0 then fldSet CK_STATUS_HOLD_SAFE (b01 d.holdSafeAny) w
  else if o = 0x18 then (if d.ckSel = ckWait then d.free else w)
  else if o = 0x38 then BitVec.ofNat 32 d.outStat
  else w

/-- R169: SOURCE of BU_CAP. -/
def Dev.capSource (d : Dev) : Nat :=
  let a := d.bud.tray.val
  let b := d.bud.rack.val
  let m := d.rd BU_CAP_LIMITS_CAP_MAX
  if a = m ∧ b = m then 0 else if a < b then 1 else if b < a then 2 else 3

/-- R169: BU_ADM_RESULT as a bank shows it. -/
def Dev.admWord (d : Dev) (bank : Nat) : Word := fldSet BU_ADM_RESULT_BUSY (b01 d.bud.adm.isSome) (tget 0 d.bud.admRes bank)

/-- R169: BU_JOB_j. -/
def jobWord : Option JobE → Nat
  | none => 0
  | some e => e.job % 4096 + 2 ^ 12 + b01 e.tight * 2 ^ 13 + e.phase % 16 * 2 ^ 14 + e.planIx % 128 * 2 ^ 18 + satN 127 e.misses * 2 ^ 25

/-- R197: the two words of BU_BAR_g. -/
def Dev.barWord (d : Dev) (i w : Nat) : Nat :=
  match tget none d.bud.bars i with
  | none => 0
  | some b =>
    if w = 1 then d.groupDoms b.group
    else b.group % 2 ^ 16 + 2 ^ 16 + b.n % 32 * 2 ^ 17 + satN 31 b.heard.length * 2 ^ 22
      + satN 31 (d.members b.group).length * 2 ^ 27

/-- R197: the two words of BU_COLL_w. -/
def Dev.winWord (d : Dev) (x : Option Win) (w : Nat) : Nat :=
  match x with
  | none => 0
  | some x =>
    if w = 1 then x.fSlow.getD 0 % 128 + x.m.getD 0 % 128 * 2 ^ 8 + (distinct x.began).length * 2 ^ 16
    else x.group % 2 ^ 16 + x.job % 4096 * 2 ^ 16 + 2 ^ 28 + b01 x.open_ * 2 ^ 29 + b01 (d.matchOn && (d.winCeil x).isSome) * 2 ^ 30

/-- R411: the bank of a master: its context, or the core's. -/
def Master.bank : Master → Nat
  | .host k => k.val
  | _ => 8

/-- R411: a job is a master's own. -/
def Dev.ownJob (d : Dev) (m : Master) (job : Nat) : Bool :=
  match m with
  | .host k => d.bud.owns.any fun o => o.1 = job && o.2.1 = k.val
  | _ => true

/-- BU_ registers (R107, R169, R197). A host context sees WT alone of BU_FIELD_f, and the windows of its own jobs. -/
def Dev.viewBu (d : Dev) (m : Master) (o : Nat) (w : Word) : Word :=
  if o = 0 then
    fldSet BU_STATUS_CAP_DEFERRED (b01 d.capDeferred) (fldSet BU_STATUS_SAFE_SHARE (b01 (d.rdB capRef.frozen))
      (fldSet BU_STATUS_OPTICS_CUT (b01 ((List.range 96).any fun f => (d.fd f).optCut)) w))
  else if o = 4 then BitVec.ofNat 32 (d.cap + d.capSource * 2 ^ 16)
  else if o = 0x20 then BitVec.ofNat 32 (d.bud.waferE / 256)
  else if o = 0x24 then BitVec.ofNat 32 (d.bud.waferE / 256 / 2 ^ 32)
  else if 0x100 ≤ o ∧ o < 0x280 then (match m with | .host _ => BitVec.ofNat 32 (w.toNat % 512) | _ => w)
  else if o = 0x404 then d.admWord m.bank
  else if 0x600 ≤ o ∧ o < 0x700 then BitVec.ofNat 32 (jobWord (d.job ((o - 0x600) / 4)))
  else if 0x800 ≤ o ∧ o < 0xA00 then tget 0 d.bud.admBuf (m.bank * 128 + (o - 0x800) / 4)
  else if o = 0xA08 then
    fldSet BU_COLL_STATUS_OPEN d.openWins.length (fldSet BU_COLL_STATUS_DEFERRING (b01 d.capDeferred)
      (fldSet BU_COLL_STATUS_GRACE_LEFT (maxN ([d.bud.tray.defer, d.bud.rack.defer].map fun x => match x with | some y => divUp (y.due - d.time.nbRun) 1000 | none => 0)) w))
  else if 0xA40 ≤ o ∧ o < 0xB40 then BitVec.ofNat 32 (d.barWord ((o - 0xA40) / 8) (o / 4 % 2))
  else if 0xC00 ≤ o ∧ o < 0xD00 then
    BitVec.ofNat 32 (match d.win ((o - 0xC00) / 8) with
      | some x => if d.ownJob m x.job then d.winWord (some x) (o / 4 % 2) else 0
      | none => 0)
  else w

/-- R229: LG_JOB_j. -/
def Dev.lgJobWord (d : Dev) (j k : Nat) (w : Word) : Word :=
  match d.job j with
  | none => if k = 1 then w else 0
  | some e =>
    if k = 0 then BitVec.ofNat 32 (e.job % 4096 + 2 ^ 12)
    else if k = 2 then BitVec.ofNat 32 e.wm
    else if k = 3 then
      BitVec.ofNat 32 (e.wm / 2 ^ 32 % 16
        + satN 0xFFFF (b01 (e.wm ≠ e.wmTold) + sumN ((d.live.filter fun x => x.2.job = e.job).map fun x => x.2.notes.length)) * 2 ^ 16)
    else w

/-- LG_ registers (R229, R252). -/
def Dev.viewLg (d : Dev) (m : Master) (o : Nat) (w : Word) : Word :=
  if o = 0 then fldSet LG_STATUS_GRANT (b01 d.grantMode) (fldSet LG_STATUS_FULL (b01 (d.freeEnts = 0)) w)
  else if o = 0xC then BitVec.ofNat 32 d.freeEnts
  else if 0x20 ≤ o ∧ o < 0x40 then BitVec.ofNat 32 (d.live.filter fun x => x.2.st.code = (o - 0x20) / 4).length
  else if o = 0x40 then BitVec.ofNat 32 (d.live.filter fun x => x.2.remote).length
  else if 0x80 ≤ o ∧ o < 0xC0 then d.led.window.getD ((o - 0x80) / 4) 0
  else if 0x400 ≤ o ∧ o < 0x800 then d.lgJobWord ((o - 0x400) / 16) (o / 4 % 4) w
  else if o = 0x1000 then
    fldSet LG_RP_STATUS_RECS d.recList.length (fldSet LG_RP_STATUS_REC_FULL (b01 (decide (1024 ≤ d.recList.length)))
      (fldSet LG_RP_STATUS_ASSAY_FULL (b01 (decide (8 ≤ d.rp.assays.length))) w))
  else if 0x1080 ≤ o ∧ o < 0x10C0 then d.rp.window.getD ((o - 0x1080) / 4) 0
  else if o = 0x1104 then
    fldSet LG_ASSAY_STAT_DEPTH d.rp.assays.length
      (fldSet LG_ASSAY_STAT_BUSY (b01 (d.rp.assaying.isSome || d.nextAssay.isSome)) w)
  else if 0x1800 ≤ o ∧ o < 0x1A00 then
    (if d.ownJob m (d.rd (LG_WATCH_WORD ((o - 0x1800) / 32) 0) % 4096) then w else 0)
  else w

/-- FC_ registers (R376). -/
def Dev.viewFc (d : Dev) (o : Nat) (w : Word) : Word :=
  if o = 0 then fldSet FC_STATUS_PIN (b01 d.errLow) (fldSet FC_STATUS_L4_PREV (b01 (d.mg.cause = 2)) w)
  else if 0x300 ≤ o ∧ o < 0x360 then
    BitVec.ofNat 32 (sumN ((List.range 8).map fun t => d.levelOf ((o - 0x300) / 8) (o / 4 % 2 * 8 + t) % 8 * 8 ^ t))
  else w

/-- BT_ registers (R359, R361). -/
def Dev.viewBt (d : Dev) (o : Nat) (w : Word) : Word :=
  if o = 0 then
    fldSet BT_STATUS_KERNEL_OK (d.rd JZ_STATUS_KERNEL_OK) (fldSet BT_STATUS_STRESS (b01 d.stressAny) (fldSet BT_STATUS_RUNNING d.sliceRuns w))
  else if o = 0x34 then BitVec.ofNat 32 d.fstat
  else if d.mg.lc = .field ∧ 0x1000 ≤ o then 0
  else w

/-- R300: the words of PP_LOAN_i. -/
def loanWord (i : Nat) (l : Option Loan) (k : Nat) : Nat :=
  match l with
  | none => 0
  | some l =>
    if k = 0 then l.peer % 1024 + 2 ^ 10 + b01 (decide (32 ≤ i)) * 2 ^ 11
    else if k = 1 then l.amount % 2 ^ 18 else if k = 2 then l.id else l.expiry

/-- PP_ registers (R300). -/
def Dev.viewPp (d : Dev) (o : Nat) (w : Word) : Word :=
  if o = 0 then
    fldSet PP_STATUS_STAGED (b01 (!d.pp.staged.isEmpty)) (fldSet PP_STATUS_TX_FULL (b01 (decide (128 ≤ d.txCells))) w)
  else if o = 4 then fldSet PP_SELF_INCARN_L d.pp.incarn w
  else if o = 0x2C then fldSet PP_RING_RES_RES d.pp.resv.length w
  else if o = 0x30 then BitVec.ofNat 32 (d.stagedCells + d.pp.staged.length * 2 ^ 8)
  else if o = 0x54 then fldSet PP_TX_STATUS_HELD d.pp.tx.length w
  else if o = 0x64 then
    BitVec.ofNat 32 ((d.peers.filter fun x => x.2.st = .present).length + (d.peers.filter fun x => x.2.st = .absent).length * 2 ^ 11)
  else if 0x80 ≤ o ∧ o < 0x98 then d.pp.latched.getD ((o - 0x80) / 4) 0
  else if o = 0xC8 then fldSet PP_GRP_STATUS_GROUPS d.groups.length (fldSet PP_GRP_STATUS_MEMBERS d.pp.grps.length w)
  else if o = 0xD0 then
    fldSet PP_RACK_CAP_PASS (b01 (match d.pp.pass with | some x => decide (x.purpose = 1) | none => false)) w
  else if o = 0xE0 then BitVec.ofNat 32 d.pp.snapAt
  else if o = 0xE4 then BitVec.ofNat 32 (d.pp.snapAt / 2 ^ 32)
  else if o = 0xEC then BitVec.ofNat 32 (tget 0 d.pp.snap (2 * d.rd PP_SNAP_SEL_INDEX))
  else if o = 0xF0 then BitVec.ofNat 32 (tget 0 d.pp.snap (2 * d.rd PP_SNAP_SEL_INDEX + 1))
  else if 0x100 ≤ o ∧ o < 0x500 then BitVec.ofNat 32 (loanWord ((o - 0x100) / 16) (d.loan ((o - 0x100) / 16)) (o / 4 % 4))
  else w

/-- NV_ registers (R339). BUSY: an image is being verified, the ring is being cleared, or a record is being read. -/
def Dev.viewNv (d : Dev) (fz : Fuses) (o : Nat) (w : Word) : Word :=
  if o = 0 then
    fldSet NV_STATUS_BUSY (b01 ((match d.nv.session with | some s => s.verifying | none => false)
      || d.rdB EV_STATUS_CLEARING || d.ev.reading)) w
  else if o = 0x14 then BitVec.ofNat 32 (fz.secver % 128 + b01 fz.rootSet * 2 ^ 7)
  else if o = 0x20 then fldSet NV_XFER_IDLE d.xferIdle w
  else w

/-- ST_ registers (R138, R170, R253, R405). -/
def Dev.viewSt (d : Dev) (f o : Nat) (w : Word) : Word :=
  if o = 0x1000 then fldSet (ST_BUD_STATUS_OPTICS_CUT f) (b01 (d.fd f).optCut) w
  else if o = 0x1100 then
    BitVec.ofNat 32 ((d.fd f).hints.length
      + mapBits 0 4 (fun k => (d.preposAt f d.time.count).any fun x => x.dom = k) * 2 ^ 8 + b01 (d.draining f) * 2 ^ 16)
  else if o = 0x3008 then BitVec.ofNat 32 (mapBits 0 32 fun p => (d.holder f p).isSome)
  else if o = 0x300C then BitVec.ofNat 32 (mapBits 32 4 fun p => (d.holder f p).isSome)
  else if 0x3100 ≤ o ∧ o < 0x3190 then
    fldSet (ST_RPL_PATCH_STRIKES f 0) (satN 7 (d.recentStrikes f ((o - 0x3100) / 4)).length) w
  else if 0x5040 ≤ o ∧ o < 0x50D0 then
    fldSet (ST_AGE_PATCH_DECR f 0) (b01 (d.marg f ((o - 0x5040) / 4)).next.isSome) w
  else w

/-- CE_ registers (R106). -/
def Dev.viewCe (d : Dev) (f o : Nat) (w : Word) : Word :=
  if o = 0x2000 then
    fldSet (CE_STATUS_NOLAW f) (mapBits 0 3 fun n => d.rd (CE_CHAIN_N f n) = 0)
      (fldSet (CE_STATUS_NOMODEL f) (mapBits 0 3 fun n => d.rd (CE_MODEL_MN f n) = 0) w)
  else if o = 0x2004 then BitVec.ofNat 32 (mapBits 0 32 fun i => d.rdB (CE_INST_STATUS_FROZEN f i))
  else if o = 0x2008 then BitVec.ofNat 32 (mapBits 32 9 fun i => d.rdB (CE_INST_STATUS_FROZEN f i))
  else if o = 0x200C then BitVec.ofNat 32 (mapBits 0 32 fun i => d.rdB (CE_INST_STATUS_SAT f i))
  else if o = 0x2010 then BitVec.ofNat 32 (mapBits 32 9 fun i => d.rdB (CE_INST_STATUS_SAT f i))
  else w

/-- PS_ registers (R78). -/
def Dev.viewPs (d : Dev) (m : Master) (f p o : Nat) (w : Word) : Word :=
  if o = 0 then fldSet (PS_STATUS_SCAN_H f p) (b01 (d.shadowOf m (psBase f p + 0x18)).2) w else w

/-- R16: the word a register reads as now. -/
def Dev.view (d : Dev) (fz : Fuses) (m : Master) (sub a : Nat) : Word :=
  let w := d.reg a
  match placeOf a with
  | none => 0
  | some pl => match pl.blk with
    | .jz => d.viewJz fz m pl.off w
    | .tb => d.viewTb m sub pl.off w
    | .ck => d.viewCk pl.off w
    | .bu => d.viewBu m pl.off w
    | .lg => d.viewLg m pl.off w
    | .fc => d.viewFc pl.off w
    | .ev => w
    | .bt => d.viewBt pl.off w
    | .pp => d.viewPp pl.off w
    | .nv => d.viewNv fz pl.off w
    | .pm => if pl.off = 0 then fldSet PM_STATUS_SESSION (b01 d.pmSession) w else w
    | .db => w
    | .st => d.viewSt pl.f pl.off w
    | .ce => d.viewCe pl.f pl.off w
    | .ps => d.viewPs m pl.f pl.p pl.off w

/-- The H that goes with the 64-bit value at a low address (R37, R78, R272). -/
def Dev.pairH (d : Dev) (a : Nat) : Bool :=
  match placeOf a with
  | some pl =>
    if pl.blk = .tb then d.hNow else if pl.blk = .ps then d.rdB (PS_STATUS_SCAN_H pl.f pl.p)
    else if pl.blk = .jz then d.rdB JZ_SEL_STATUS_STAMP_H else false
  | none => false

/-! Who reaches what (R408 to R411). -/

/-- R15, R366: a BUS fault ACCESS. -/
def busFault (m : Master) (a : Nat) (write : Bool) (d : Dev) : Dev :=
  d.raiseR { d.report .bus 1 central 0 with addr := a, master := m.code, access := b01 write }

/-- R409: a refused access of a host context is counted. -/
def countDeny (k : Nat) (d : Dev) : Dev := (d.inc JZ_HW_DENY_CNT).wr JZ_HW_DENY_LAST_CTX k

/-- R410: the context is in use. -/
def Dev.ctxOn (d : Dev) (k : Nat) : Bool := d.rdB (JZ_HW_CTX_ENABLE k)

/-- R411: the job table's entry j is the context's own. -/
def Dev.ownEntry (d : Dev) (k : Fin 8) (j : Nat) : Bool :=
  match d.job j with
  | some e => d.ownJob (.host k) e.job
  | none => false

/-- R411: a field is one the context's jobs occupy. -/
def Dev.ownField (d : Dev) (k : Fin 8) (f : Nat) : Bool := (d.fieldsOf k.val).contains f

/-- R408: what a host context may read (write = false) and write. -/
def Dev.hostMay (d : Dev) (k : Fin 8) (a : Nat) (write : Bool) : Bool :=
  let sys := d.rdB (JZ_HW_CTX_SYSTEM k.val) || !write
  match placeOf a with
  | none => false
  | some pl =>
    let o := pl.off
    match pl.blk with
    | .jz => !write && (o = 4 || o = 0x10 || o = 0x508 || o = 0x50C || decide (0x600 ≤ o && o < 0x900))
    | .bu =>
      if 0x100 ≤ o ∧ o < 0x280 then d.rdB (JZ_HW_CTX_WEIGHTS k.val) || !write
      else if o = 0x400 ∨ (0x800 ≤ o ∧ o < 0xA00) then true
      else if o = 0x404 ∨ (0xC00 ≤ o ∧ o < 0xD00) then !write
      else if 0x600 ≤ o ∧ o < 0x700 then !write && d.ownEntry k ((o - 0x600) / 4)
      else false
    | .lg =>
      if o = 0xC then !write
      else if o = 0xC0 ∨ o = 0x1010 then sys
      else if o = 0xC4 then true
      else if 0x400 ≤ o ∧ o < 0x800 then (!write || o % 16 = 4) && d.ownEntry k ((o - 0x400) / 16)
      else if o = 0x1100 then true
      else if o = 0x1104 then !write
      else if 0x1400 ≤ o ∧ o < 0x1500 then d.ownEntry k ((o - 0x1400) / 4)
      else if 0x1800 ≤ o ∧ o < 0x1A00 then !write || o % 32 = 0
      else false
    | .fc => if o = 0x380 ∨ o = 0x384 then sys else false
    | .pp => if o = 4 ∨ o = 0xC0 ∨ o = 0xC4 then sys else if o = 0xC8 then !write else false
    | .db => if 0x100 ≤ o ∧ o < 0x700 then !write && d.ownField k ((o - 0x100) / 16) else false
    | .ps => !write && d.ownField k pl.f && (o = 0 || o = 4 || o = 8 || o = 0x30 || decide (0x50 ≤ o && o < 0x7C))
    | .tb => false | .ck => false | .ev => false | .bt => false | .nv => false | .pm => false | .st => false | .ce => false

/-- R409, R410: the check of a host context's access; none: it passes. A context that is off is counted without a fault. -/
def Dev.denied (d : Dev) (m : Master) (a : Nat) (write : Bool) : Option (Dev → Dev) :=
  match m with
  | .host k =>
    if !d.ctxOn k.val then some (onlyIf write (countDeny k.val))
    else if d.hostMay k a write then none
    else some fun d => busFault m a write (countDeny k.val d)
  | _ => none

/-! A read. -/

/-- The bus answers a word. -/
def answer (w : Word) (d : Dev) : Dev := { d with busData := w }

/-- R69, R78: reading PS_ACT_PICK latches the counts of the last complete pick. -/
def actLatch (f p : Nat) (d : Dev) : Dev :=
  forN 10 (fun n d => d.wr (PS_ACT_COUNT f p n) ((d.pt f p).last.getD n 0)) (d.wr (PS_ACT_PICK_PICK_L f p) d.time.prevCount)

/-- R16, R18: a register is read: pairs latch, high words come from the shadow. -/
def readReg (fz : Fuses) (m : Master) (sub a : Nat) (d : Dev) : Dev :=
  match placeOf a with
  | none => answer 0 d
  | some pl =>
    if pl.blk = .ps ∧ pl.off = 0x50 then
      let d := actLatch pl.f pl.p d
      answer (d.reg a) d
    else if (roPair (a - 4)).isSome then answer (d.shadowOf m a).1 d
    else if (rwPair (a - 4)).isSome ∧ (d.shadowOf m a).2 then
      let w := (d.shadowOf m a).1
      answer w (setShadow m a (0, false) d)
    else match roPair a, rwPair a with
      | some hi, _ => answer (d.view fz m sub a) (setShadow m hi (d.view fz m sub hi, d.pairH a) d)
      | none, some hi => answer (d.view fz m sub a) (setShadow m hi (d.view fz m sub hi, true) d)
      | none, none =>
        let w := d.view fz m sub a
        answer w (if a = CK_WAIT_TIME_US.addr ∧ d.ckSel = ckWait then d.takeFree else d)

/-- R313: the block's gate, if it has one, is open. -/
def Dev.blockOpen (d : Dev) (a : Nat) : Bool :=
  match (placeOf a).bind fun pl => gateOf pl.blk with
  | some b => d.gateOk b
  | none => true

/-- R15 to R18, R408 to R410: a 32-bit read. R15 gives its points no order; DESIGN CHOICE, log entry 127: an access that is not aligned
or not decoded raises the BUS fault whether or not the block's clock is gated. -/
def busRead (fz : Fuses) (m : Master) (sub a : Nat) (d : Dev) : Dev :=
  match d.denied m a false with
  | some g => answer 0 (g d)
  | none =>
    if a % 4 ≠ 0 ∨ decoded a = false then answer 0 (busFault m a false d)
    else if inRom a then answer (Config.romWord (a / 4)) d
    else if inSram a then answer (d.memWord (a - 0x10000000)) d
    else if !d.blockOpen a then answer 0 d
    else readReg fz m sub a d

/-! A write. -/

/-- R16: a field after a write. -/
def FldRow.after (r : FldRow) (locked : Bool) (old v : Nat) : Nat :=
  match r.acc with
  | .ro => old
  | .wo => old
  | .rw => v
  | .rwl => if locked then old else v
  | .w1c => old ^^^ (old &&& v)
  | .w1s => old ||| v

/-- R16, R17: each field of a register stores, sets, clears or ignores what is written to it. -/
def writeReg (a : Nat) (v : Word) (d : Dev) : Dev :=
  match fieldsAt a with
  | none => d
  | some fs => d.setReg a (fs.foldl (fun w r =>
      let fl : Fld := ⟨a, r.lo, r.w⟩
      fldSet fl (r.after d.locked (fldGet fl (d.reg a)) (fldGet fl v)) w) (d.reg a))

/-- TB_ registers with an effect of their own (R42, R45, R48, R49). -/
def writeTb (o : Nat) (v : Word) (d : Dev) : Dev :=
  let n := v.toNat
  let sel := d.actSel
  if o = 0x24 then d.updSlot sel fun s => { s with addr := n }
  else if o = 0x28 then d.updSlot sel fun s => { s with data := n }
  else if o = 0x2C then d.updSlot sel fun s => { s with lo := n }
  else if o = 0x30 then d.updSlot sel fun s => { s with at_ := n % 2 ^ 20 * 2 ^ 32 + s.lo }
  else if o = 0x34 then onlyIf (bitOf n 2) actFree (onlyIf (bitOf n 1) actCancel (onlyIf (bitOf n 0) actArm d))
  else if o = 0x44 then
    let d := writeReg TB_STOP_AT_HI_AT_H.addr v d
    d.updTime fun t => { t with stopAt := d.rd TB_STOP_AT_LO_AT_L + d.rd TB_STOP_AT_HI_AT_H * 2 ^ 32 }
  else if o = 0x4C then
    let d := writeReg TB_RESUME_AT_HI_AT_H.addr v d
    d.updTime fun t => { t with resumeAt := d.rd TB_RESUME_AT_LO_AT_L + d.rd TB_RESUME_AT_HI_AT_H * 2 ^ 32 }
  else if o = 0x50 then onlyIf (bitOf n 2) stopCancel (onlyIf (bitOf n 1) armResume (onlyIf (bitOf n 0) armStop d))
  else writeReg (0x20010000 + o) v d

/-- CK_ registers with an effect of their own (R306, R312, R315, R317). -/
def writeCk (o : Nat) (v : Word) (d : Dev) : Dev :=
  if o = 0xC then onlyIf (bitOf v.toNat 0) pllEn d
  else if o = 0x20 then ckGate v.toNat d
  else if o = 0x30 then clkoutChange false v.toNat d
  else if o = 0x34 then clkoutChange true v.toNat d
  else writeReg (0x20020000 + o) v d

/-- BU_ registers with an effect of their own (R105, R161, R164, R167). -/
def writeBu (m : Master) (o : Nat) (v : Word) (d : Dev) : Dev :=
  let n := v.toNat
  if o = 0x400 then
    (if n % 4 = 1 then admitCmd m.bank d else if n % 4 = 2 then release m.bank (bitsOf n 4 12) d else d)
  else if 0x800 ≤ o ∧ o < 0xA00 then d.updBud fun b => { b with admBuf := tput 0 (m.bank * 128 + (o - 0x800) / 4) v b.admBuf }
  else if o = 0x8C40 then onlyIf (bitOf n 0) buCeRearm (writeReg (0x20030000 + o) v d)
  else writeReg (0x20030000 + o) v d

/-- LG_ registers with an effect of their own (R210, R228, R229, R251, R252). A host context sets no more of LG_AUD_j than SHIFT,
and clears the watch records of its own jobs alone. -/
def writeLg (m : Master) (o : Nat) (v : Word) (d : Dev) : Dev :=
  let n := v.toNat
  if o = 0x10 then onlyIf (decide (n % 2 ^ 17 = 2 ^ 17 - 1)) (fun d => d.wr LG_MINFREE_MIN d.freeEnts) d
  else if o = 0x60 then lgSel (n % 2 ^ 16) d
  else if o = 0xC4 then onlyIf (decide (n % 4 = 1)) (replaced m.bank (n / 2 ^ 16)) d
  else if 0x400 ≤ o ∧ o < 0x800 ∧ o % 16 = 4 ∧ (d.job ((o - 0x400) / 16)).isNone then conflict LG_STATUS_STATE_CONFLICT d
  else if o = 0x1040 then lgRpSel (n % 1024) d
  else if o = 0x1100 then assayReq m.bank (n % 128) (bitsOf n 8 6) d
  else if 0x1400 ≤ o ∧ o < 0x1500 then
    writeReg (0x20040000 + o) (match m with | .host _ => BitVec.ofNat 32 (n % 32) | _ => v) d
  else if 0x1800 ≤ o ∧ o < 0x1A00 then
    onlyIf (d.ownJob m (d.rd (LG_WATCH_WORD ((o - 0x1800) / 32) 0) % 4096)) (writeReg (0x20040000 + o) v) d
  else writeReg (0x20040000 + o) v d

/-- FC_ registers with an effect of their own (R368, R372, R373). -/
def writeFc (o : Nat) (v : Word) (d : Dev) : Dev :=
  let n := v.toNat
  if o = 0x18 then faultAck (n % 4096) d
  else if o = 0x1C then faultClear (n % 4096) d
  else if o = 0x28 then faultForce n d
  else if o = 0x384 then hPoison (bitOf n 0) d
  else writeReg (0x20050000 + o) v d

/-- R386, R389: EV_CMD: the shutdown first, then the clear; every write consumes the clear key. -/
def evCmd (n : Nat) (d : Dev) : Dev :=
  let d := onlyIf (bitOf n 0) askShutdown d
  if bitOf n 1 then recorderClear d else d.updEv fun x => { x with keyOk := false }

/-- EV_ registers with an effect of their own (R386, R388, R389). -/
def writeEv (o : Nat) (v : Word) (d : Dev) : Dev :=
  if o = 4 then evCmd v.toNat d
  else if o = 8 then clearKey v.toNat d
  else if o = 0x20 then recordRead v.toNat d
  else writeReg (0x20060000 + o) v d

/-- R359: BT_CMD. -/
def btCmd (m : Master) (n : Nat) (d : Dev) : Dev :=
  onlyIf (bitOf n 22) (sliceGo n (m = .tap)) (onlyIf (bitOf n 23) (sliceAbort (bitsOf n 8 7)) d)

/-- BT_ registers with an effect of their own (R357 to R359, R361). -/
def writeBt (fz : Fuses) (m : Master) (o : Nat) (v : Word) (d : Dev) : Dev :=
  if o = 0x10 then btCmd m v.toNat d
  else if o = 0x54 then imgData v.toNat d
  else if o = 0x58 then onlyIf (bitOf v.toNat 0) (btLoad fz) d
  else if d.mg.lc = .field ∧ (o = 0x50 ∨ 0x1000 ≤ o) then conflict BT_STATUS_STATE_CONFLICT d
  else writeReg (0x20070000 + o) v d

/-- PP_ registers with an effect of their own (R274, R279, R284, R290, R293, R295, R300). -/
def writePp (sub o : Nat) (v : Word) (d : Dev) : Dev :=
  let n := v.toNat
  if o = 4 then ppSelf (n % 2 ^ 16) d
  else if o = 0x24 then ringHeadWrite (n % 4096) d
  else if o = 0x50 then onlyIf (bitOf n 11) (peerSendCancel (n % 1024)) (onlyIf (bitOf n 10) (peerSend (n % 1024) sub) d)
  else if o = 0x60 then ppPsel (n % 1024) d
  else if o = 0xC4 then
    (let g := n % 2 ^ 16
     let c := bitsOf n 16 2
     if c = 1 then grpAdd g d else if c = 2 then grpRemove g d else if c = 3 then grpClear g d else d)
  else if o = 0xD0 then ppRackCap (n % 2 ^ 16) (bitOf n 16) d
  else if o = 0xD4 then onlyIf (bitOf n 5) (loanReturnCmd (n % 32)) d
  else writeReg (0x20080000 + o) v d

/-- ST_ registers with an effect of their own (R123, R135, R137, R138, R258, R399). -/
def writeSt (f o : Nat) (v : Word) (d : Dev) : Dev :=
  let n := v.toNat
  if 0x400 ≤ o ∧ o < 0x490 then
    (let p := (o - 0x400) / 4
     let v := bitsOf n 16 6
     onlyIf (bitOf n 25 && !d.mofsRefused f p v) (retirePatch f p) (mofsWrite f p v d))
  else if 0x800 ≤ o ∧ o < 0x900 ∧ o % 0x40 = 0x14 then linkCmd f ((o - 0x800) / 0x40) (bitOf n 0) (bitsOf n 1 2) d
  else if o = 0x4000 ∨ o = 0x4004 then onlyIf (d.selState = selRun) (writeReg (stBase f + o) v) d
  else writeReg (stBase f + o) v d

/-- CE_ registers with an effect of their own (R83, R105, R106). -/
def writeCe (f o : Nat) (v : Word) (d : Dev) : Dev :=
  let n := v.toNat
  if o = 0x200C then forN 32 (fun i d => onlyIf (bitOf n i) (·.wrB (CE_INST_STATUS_SAT f i) false) d) d
  else if o = 0x2010 then forN 9 (fun i d => onlyIf (bitOf n i) (·.wrB (CE_INST_STATUS_SAT f (32 + i)) false) d) d
  else if o = 0x2014 then ceRearm f (n % 64) d
  else writeReg (ceBase f + o) v d

/-- PS_ registers with an effect of their own (R61, R78). -/
def writePs (f p o : Nat) (v : Word) (d : Dev) : Dev :=
  if o = 0xC then forN 2 (fun t d => onlyIf (bitOf v.toNat t) (clearSuspect f p t) d) d
  else writeReg (psBase f p + o) v d

/-- R16: a write of a register: the command it carries, or its fields. -/
def regWrite (fz : Fuses) (m : Master) (sub a : Nat) (v : Word) (d : Dev) : Dev :=
  match placeOf a with
  | none => d
  | some pl =>
    let o := pl.off
    match pl.blk with
    | .jz =>
      if o = 8 then onlyIf (bitOf v.toNat 0) configLock d
      else if o = 0x420 then onlyIf (bitOf v.toNat 0) selRelease d
      else writeReg a v d
    | .tb => writeTb o v d
    | .ck => writeCk o v d
    | .bu => writeBu m o v d
    | .lg => writeLg m o v d
    | .fc => writeFc o v d
    | .ev => writeEv o v d
    | .bt => writeBt fz m o v d
    | .pp => writePp sub o v d
    | .nv =>
      if o = 0x40 then onlyIf (bitOf v.toNat 0) (sigVerify (bitsOf v.toNat 1 2) (bitsOf v.toNat 3 2) (bitsOf v.toNat 8 8)) d
      else writeReg a v d
    | .pm => writeReg a v d
    | .db =>
      if o = 0xC then
        (let d := writeReg a v d
         d.updMg fun x => { x with traceSet := d.rd DB_TR_AT_LO_AT_L + d.rd DB_TR_AT_HI_AT_H * 2 ^ 32 })
      else if o = 0x10 then onlyIf (bitOf v.toNat 1) traceStop (onlyIf (bitOf v.toNat 0) traceArm d)
      else writeReg a v d
    | .st => writeSt pl.f o v d
    | .ce => writeCe pl.f o v d
    | .ps => writePs pl.f pl.p o v d

/-- R15 to R18, R408 to R410: a 32-bit write. A write of the ROM is discarded. -/
def busWrite (fz : Fuses) (m : Master) (sub a : Nat) (v : Word) (d : Dev) : Dev :=
  match d.denied m a true with
  | some g => g d
  | none =>
    if a % 4 ≠ 0 ∨ decoded a = false then busFault m a true d
    else if inRom a then d
    else if inSram a then putWord (a - 0x10000000) v d
    else if !d.blockOpen a then d
    else regWrite fz m sub a v d

/-- R15: an access that is narrow, not aligned or not decoded. R15 speaks of register accesses; DESIGN CHOICE, log entry 126: in the
SRAM an access that is not aligned raises the same fault, and an aligned narrow one has no effect. -/
def malformed (m : Master) (a : Nat) (write narrow : Bool) (d : Dev) : Dev :=
  match d.denied m a write with
  | some g => onlyIf (!write) (answer 0) (g d)
  | none =>
    if (narrow && (fieldsAt (a - a % 4)).isSome) || a % 4 ≠ 0 || !decoded a then onlyIf (!write) (answer 0) (busFault m a write d) else d

/-- R409, R410: an access that a host context may not make. -/
def hostDenied (k : Fin 8) (a : Nat) (write : Bool) (d : Dev) : Dev :=
  match d.denied (.host k) a write with
  | some g => onlyIf (!write) (answer 0) (g d)
  | none => d

/-- R357, R427: an access of the TAP: P1's reach in BLANK and RETURN, the BT_ block alone in TEST. -/
def tapAccess (fz : Fuses) (write : Bool) (a : Nat) (v : Word) (sub : Nat) (d : Dev) : Dev :=
  let out := decide (d.mg.lc = .test) && !(decide (0x20070000 ≤ a) && decide (a < 0x20080000))
  let d :=
    if !d.pins.resetN then answer 0 d
    else if out then answer 0 (busFault .tap a write d)
    else if write then answer v (busWrite fz .tap sub a v d)
    else busRead fz .tap sub a d
  d.updMg fun x => { x with dr := (if write then 2 else 1) * 2 ^ 64 + a * 2 ^ 32 + d.busData.toNat }

/-! The commands. The master of a register access is a host context (0 to 7) or the core (8). -/

def masterOf (n : Fin 9) : Master := if h : n.val < 8 then .host ⟨n.val, h⟩ else .core

def execMalformedAccess (m : Fin 9) (a : BitVec 32) (write narrow : Bool) (s : State) : Host.Outcome State Fault Refusal :=
  done (malformed (masterOf m) a.toNat write narrow) s
/-- R18: the row of reads: a read of any register, which latches where it is the low word of a pair. -/
def execPairLowRead (m : Fin 9) (a : BitVec 32) (sub : BitVec 12) (s : State) : Host.Outcome State Fault Refusal :=
  done (busRead s.fuses (masterOf m) sub.toNat a.toNat) s
def execPairHighWrite (m : Fin 9) (a v : BitVec 32) (sub : BitVec 12) (s : State) : Host.Outcome State Fault Refusal :=
  done (onlyIf (rwPair (a.toNat - 4)).isSome (busWrite s.fuses (masterOf m) sub.toNat a.toNat v)) s
def execRegisterWrite (m : Fin 9) (a v : BitVec 32) (sub : BitVec 12) (s : State) : Host.Outcome State Fault Refusal :=
  done (busWrite s.fuses (masterOf m) sub.toNat a.toNat v) s
def execActLatchRead (m : Fin 9) (f : Fin 96) (p : Fin 36) (s : State) : Host.Outcome State Fault Refusal :=
  done (busRead s.fuses (masterOf m) 0 (PS_ACT_PICK_PICK_L f.val p.val).addr) s
def execHostAccessDenied (k : Fin 8) (a : BitVec 32) (write : Bool) (s : State) : Host.Outcome State Fault Refusal :=
  done (hostDenied k a.toNat write) s
def execMbus (write : Bool) (a v : BitVec 32) (sub : BitVec 12) (s : State) : Host.Outcome State Fault Refusal :=
  always (selvedge (tap tapMbus (tapAccess s.fuses write a.toNat v sub.toNat))) s

end Sys2Proof.Machine
end

