-- ==== Sys2Proof/Machine/Boundary.lean ====
section
/-! DEFINITION. The pick boundary (R24), in the order of R24, the action slots it applies (R42 to R44), the global stop and
the resume (R45 to R48), and the bolt boundary (R21). What the units do there stands in their own files. -/

namespace Sys2Proof.Machine

/-! Step 1 of R24: the count. -/

/-- R20, R34, R440: the count of the pick that the next boundary opens. -/
def Dev.nextCount (d : Dev) : Nat :=
  match d.time.load with
  | some c => c
  | none => if d.time.nb = 0 then 0 else d.time.count + 1 + d.time.step

/-- R34: the correction of a pick, for what is left of Δ: at most 512 sub-picks either way. -/
def Dev.pickAdj (d : Dev) (left : Int) : Int := if d.mode = ALIGNING then clampI (-512) 512 left else 0

/-- R34: a forward step of n picks is recorded. -/
def stepTold (n : Nat) (d : Dev) : Dev :=
  if n = 0 then d
  else ((d.wrB TB_STATUS_STEPPED true).wr TB_STEP_SIZE_PICKS (satN 0xFFFFFFFF n)).raise .clock 4 central 0

/-- R103: the next samples of all instances are exempt, after a forward step and after a resume. -/
def exemptAll (d : Dev) : Dev := exemptNext capRef (forL d.enabled (fun f => forLoops f exemptNext) d)

/-- R41: where the count moves by other than one, the sentinels of re-routed fields keep their own. -/
def copiesKeep (jump : Int) (d : Dev) : Dev :=
  if jump = 0 then d else
  let fs := d.time.rerouted.filterMap fun x => x.2.map fun _ => x.1
  forL fs (fun f => forN 36 fun p d => d.updTime fun t => { t with copyOfs := tupd 0 (pkey f p) (· - jump) t.copyOfs }) d

/-- R40, R41: at a bolt boundary the sentinels whose copy disagreed are reloaded; the comparison of a measured path resumes, and
those it finds wrong are recorded and reloaded at the next one. -/
def copiesBolt (d : Dev) : Dev :=
  if d.time.count % 1000 ≠ 0 then d else
  let mark := tget none d.time.rerouted
  let found := d.time.copyOfs.filter fun x => mark (x.1 / 36) = some true
  let d := d.updTime fun t => { t with
    copyOfs := t.copyOfs.filter fun x => mark (x.1 / 36) ≠ none
    rerouted := t.rerouted.filter fun x => x.2 ≠ some true }
  forL found (fun x => Dev.raise .clock 11 (x.1 / 36) (x.1 % 36)) d

/-- R20, R22, R34, R37: the count becomes P; the boundary is counted; corrections of Δ go on. -/
def countBoundary (d : Dev) : Dev :=
  let d := timeStep d
  let n := if d.time.load.isSome then 0 else d.time.step
  let left := d.time.delta - ((n * 4096 : Nat) : Int)
  let adj := d.pickAdj left
  let c := d.nextCount
  let h := decide (d.mode = HOLDOVER) || decide (d.mode = ALIGNING)
  let locked := decide (d.mode = LOCKED)
  let d := onlyIf (n ≠ 0) exemptAll (stepTold n d)
  let jump : Int := if d.time.nb = 0 then 0 else (c : Int) - (d.time.count + 1 : Nat)
  copiesBolt <| (copiesKeep jump (d.wrB TB_STATUS_H h)).updTime fun t => { t with
    prevCount := t.count, count := c, nb := t.nb + 1, load := none, step := 0, adj, delta := left - adj
    stepped := decide (n ≠ 0), resumed := false, lastLocked := if locked then t.nb + 1 else t.lastLocked
    boltDone := t.boltDone && decide (c % 1000 ≠ 0) }

/-! The resume (R48). -/

/-- R48: a resume is due at the present boundary. -/
def Dev.resumeDue (d : Dev) : Bool := d.stopped && d.rdB TB_STATUS_RESUME_ARMED && decide (d.time.armResume ≤ d.time.count)

/-- R48, R268: the manager ceases to be stopped; jobs that a selvedge stop ended in the cut end first; every period begins afresh,
the meter's bolt among them. -/
def resume (d : Dev) : Dev :=
  let d := exemptAll (stopJobs ((d.wrB TB_STATUS_STOPPED false).wrB TB_STATUS_RESUME_ARMED false))
  let d := forL d.enabled (fun f d => d.updFd f fun x => { x with eMeas := 0, eEst := 0 }) d
  d.updTime fun t => { t with resumed := true }

/-- R208, R228: the events that wait for the ledger are applied. -/
def ledgerEvents (d : Dev) : Dev := eventsBoundary (fun d => placeUnpicks (ledgerQueued d)) d

/-- R48, R260, R294: what the cut held back beside the ledger's events is applied: loan messages. -/
def heldApply (d : Dev) : Dev := loansResume d

/-! Step 2: scheduled actions (R42 to R44). -/

/-- R43: an armed slot whose pick has come. -/
def Dev.slotDue (d : Dev) (i : Nat) : Bool := (d.slot i).st = .armed && decide ((d.slot i).at_ ≤ d.time.count) && !d.stopped

/-- R43, R44: a slot applies its write and becomes DONE, or MISSED where its pick is past or the lock forbids the write. -/
def slotApply (fz : Fuses) (i : Nat) (d : Dev) : Dev :=
  if !d.slotDue i then d else
  let s := d.slot i
  let late := decide (s.at_ < d.time.count)
  if rwlReg s.addr && d.locked then
    ((conflict TB_STATUS_STATE_CONFLICT d).wrB TB_STATUS_ACT_MISSED true).updSlot i fun s => { s with st := .missed }
  else
    let d := busWrite fz .core 0 s.addr (BitVec.ofNat 32 s.data) d
    (onlyIf late (·.wrB TB_STATUS_ACT_MISSED true) d).updSlot i fun s => { s with st := if late then .missed else .done }

/-- Slots in the order of their picks, those of one pick in the order of their numbers. -/
def insertSlot (x : Nat × Nat) : List (Nat × Nat) → List (Nat × Nat)
  | [] => [x]
  | y :: l => if y.1 ≤ x.1 then y :: insertSlot x l else x :: y :: l

/-- R24, R43: the slots that are due, in their order. -/
def Dev.dueSlots (d : Dev) : List Nat :=
  (((List.range 16).filter d.slotDue).foldl (fun l i => insertSlot ((d.slot i).at_, i) l) []).map (·.2)

/-- R24: the scheduled actions of the present boundary. -/
def slotsApply (fz : Fuses) (d : Dev) : Dev := forL d.dueSlots (slotApply fz) d

/-- R48: GLOBAL_RESUME: the manager resumes, missed slots apply, then what the cut held. -/
def globalResume (fz : Fuses) (d : Dev) : Dev := if d.resumeDue then ledgerEvents (heldApply (slotsApply fz (resume d))) else d

/-! Step 3: the global stop (R45 to R47). -/

/-- R45: a stop is due at the present boundary. -/
def Dev.stopDue (d : Dev) : Bool := !d.stopped && d.rdB TB_STATUS_STOP_ARMED && decide (d.time.armStop ≤ d.time.count)

/-- R45 to R47: GLOBAL_STOP: the cut. What it freezes is frozen by TB_STATUS.STOPPED, on which the heddles close. -/
def globalStop (d : Dev) : Dev :=
  if d.stopDue then
    let d := (peerSnapshot d).wrB TB_STATUS_STOP_ARMED false |>.wrB TB_STATUS_STOPPED true
    forL d.enabled (fun f => forN 4 fun k => pauseWadding f k fun _ => true) d
  else d

/-! Steps 4 and 5: what takes effect, and what the pick that ended leaves. -/

/-- R65: the detectors' records of the pick that ended; a disarmed detector records 0 (R66). -/
def depthsBoundary (l : List DepthObs) (d : Dev) : Dev :=
  let d := forL d.enabled (fun f => forN 36 fun p d => d.wr ⟨psBase f p + 0x28, 0, 32⟩ 0) d
  forL l (fun x d =>
    if d.rdB (PS_STATUS_DD_ARMED x.field.val x.patch.val) then
      forL [(0, x.d0), (1, x.d1), (2, x.d2), (3, x.d3)]
        (fun y d => d.wr (PS_DD_DEPTH_DEPTH x.field.val x.patch.val y.1) y.2.toNat) d
    else d) d

/-- R69: at the boundary every sentinel latches the counts of the pick that ended, and its counters restart. -/
def latchCounts (d : Dev) : Dev := { d with pat := tmap PatchS.init (fun x => { x with last := x.acc, acc := [] }) d.pat }

/-- R183, R184: the sheds of the pick that ended, with the holds that stood in it. -/
def shedsBoundary (d : Dev) : Dev := if d.stopped then d else forL d.enabled (fun f => forN 4 (settleSheds f)) d

/-- R65, R67, R130, R156, R200: what is kept per pick begins anew; the steps open in the pick that ended are remembered. -/
def pickBegins (d : Dev) : Dev :=
  forL d.enabled (fun f d =>
    let d := forN 36 (fun p d =>
      let steps := d.markSteps f p
      let lev := d.rd (PS_STATUS_STRETCH f p)
      (windowPick f p d).updPt f p fun x => { x with
        stretched := false, crossed := false, stretchMax := lev, floored := false, floorAt := none
        stepsPrev := distinct (steps ++ x.stepsEnded), stepsEnded := [] }) d
    let d := forN 4 (fun k d => d.updDm f k fun x => { x with upSeen := false }) d
    d.updFd f fun x => { x with read := 0 }) d

/-- R94: the commands of all instances whose period begins here take effect. -/
def commandsBoundary (d : Dev) : Dev :=
  capEffect (forL d.enabled (fun f => forN 41 (stewardEffect f)) d)

/-- R76: the scale factor of the last reconciliation applies from a bolt boundary. -/
def scaleBoundary (f : Nat) (d : Dev) : Dev :=
  if d.time.count % 1000 ≠ 0 then d else
  match (d.fd f).sNext with
  | some s => (d.wr (ST_MTR_SCALE_S f) s).updFd f fun x => { x with sNext := none }
  | none => d

/-- R76, R77: the meter of a field: in the second pick of a bolt its sums begin; a domain in RETENTION or OFF disturbs it. -/
def meterBoundary (f : Nat) (d : Dev) : Dev :=
  let d := onlyIf (d.time.count % 1000 = 1) (·.updFd f fun x => { x with eMeas := 0, eEst := 0, eSkip := false }) d
  let off := (List.range 4).any fun k => decide (modeRetention ≤ d.rd (ST_LINK_DOWN_MODE f k))
  onlyIf off (·.updFd f fun x => { x with eSkip := true }) d

/-- R33: RACK_FEAT_SET; barrier partners are learnt afresh. -/
def rackFeatBolt (d : Dev) : Dev :=
  if d.time.featPend then
    let d := (d.wrB TB_STATUS_RACK_FEAT true).updTime fun t => { t with featPend := false }
    d.updBud fun b => { b with bars := tmap none (fun x => x.map fun x => { x with heard := [] }) b.bars }
  else d

/-- R149, R155, R294: what a bolt boundary does before the cap is divided: peers that fall silent, the cap, the loans. -/
def capLoansBolt (d : Dev) : Dev :=
  if d.time.count % 1000 ≠ 0 then d else loansBolt (capBolt (peersBolt d))

/-- R25, R149: field allotments are divided where their period begins. -/
def budgetBoundary (d : Dev) : Dev := if d.periodic 1000 then budgetDivide (capLoansBolt d) else d

/-- R418: the energy of the bolt before, whose last estimate has become final. -/
def boltEnergy (d : Dev) : Dev :=
  let c := d.time.count
  if c % 1000 ≠ 1 then d
  else d.updBud fun b => { b with boltE := sumN ((b.capFin.filter fun x => decide (c ≤ x.1 + 1001) && decide (x.1 + 1 < c)).map (·.2)) }

/-- R141 to R150: the enforcers of all fields: holds lift, allotments rise and fall, and every class is tested against known
debt with the allotment then in force. -/
def classesBoundary (d : Dev) : Dev :=
  let d := boltEnergy (forL allFields enforceBoundary d)
  forL allFields testClasses (budgetBoundary (forL allFields fixBoundary d))

/-- R158, R167, R194: hints that take effect, pre-positions and windows that end, the slack-matching ceilings. -/
def hintsBoundary (d : Dev) : Dev :=
  slackCeilings (forL d.enabled (fun f d => hintEffect f (preposExpire f d)) (goneBoundary (freeWins d)))

/-- R109 to R138: the operating points and links of all fields. -/
def opsBoundary (d : Dev) : Dev := forL d.enabled opBoundary (forL allFields stopFieldDue d)

/-- R174 to R186: the planners and heddles; domains that newly hold an armed tile are counted. -/
def plannersBoundary (d : Dev) : Dev :=
  let d := onlyIf (!d.rdB TB_STATUS_RACK_FEAT && decide (d.rd BU_SHARE_N ≠ 16)) (fun d => let d := d.wr BU_SHARE_N 16; d.wr BU_SHARE_SHARE (satN 0xFFFF d.shareMw)) d
  forL d.enabled (fun f => forN 4 (nDomAdd f)) (forL d.enabled (fun f => forN 4 (plannerBoundary f)) d)

/-- R102: every 25 picks the models of the L-THERM instances advance. -/
def thermModels (d : Dev) : Dev :=
  if d.periodic 25 then forL d.serving (fun f => forN 36 fun p => thermStep (loopRef f (5 + p))) d else d

/-- R206, R208: what closes the boundary before: after all its events the entries that reference one changed at the boundary
before that are re-evaluated, and the begins whose cause of waiting has ended go on. -/
def ledgerClose (d : Dev) : Dev := if d.stopped then d else retryWaits (reevaluate d)

/-- R205 to R248: the ledger and the replay scheduler. -/
def ledgerBoundary (d : Dev) : Dev :=
  let d := ledgerEvents (freeSewn (endJobs d))
  let d := forL (d.live.map (·.1)) bastExpire d
  let d := onlyIf (d.freeEnts = 0) (evt 3) d
  auditBoundary (replayBoundary d)

/-- R229, R252, R300, R411: what selectors latch and ownership checks use is as at the boundary. -/
def shownBoundary (d : Dev) : Dev :=
  let d := ownsBoundary (peersShown d)
  (d.updLed fun l => { l with shown := l.ents }).updRp fun r => { r with shown := r.recs }

/-- R24, steps 4 and 5, outside a global stop. -/
def effectsBoundary (d : Dev) : Dev :=
  let d := onlyIf d.time.resumed heldApply d
  let d := forL d.enabled scaleBoundary (commandsBoundary d)
  let d := forL d.enabled (fun f => forN 4 (heddleCounts f)) d
  let d := hintsBoundary (forL d.enabled meterBoundary (classesBoundary d))
  let d := opsBoundary d
  let d := forL d.enabled retireUnfit d
  ledgerBoundary (thermModels (plannersBoundary d))

/-- R46: steps 4 and 5 in a global stop: a field stop acts, and step links keep their frames. -/
def stoppedBoundary (d : Dev) : Dev := opsBoundary d

/-- R24: a pick boundary; `warm` names the patches at which a RESTART comparator is high (R264). -/
def pickBoundary (fz : Fuses) (depths : List DepthObs) (warm : List TripObs) (d : Dev) : Dev :=
  if !d.boundaries then d else
  let d := countBoundary (ledgerClose (postHeld d))
  let d := if d.time.count % 1000 = 0 then groupsBolt (rackFeatBolt d) else d
  let d := if d.resumeDue then resume d else d
  let d := onlyIf (!d.stopped) (·.updTime fun t => { t with nbRun := t.nbRun + 1 }) d
  let d := pickBegins (shedsBoundary <| sampleBoundary (depthsBoundary depths (latchCounts d)))
  let d := globalStop (slotsApply fz d)
  let d := heartsBoundary d
  let d := if d.stopped then stoppedBoundary d else effectsBoundary d
  let d := coolBoundary (warm.map tripOf) (stopBoundary d)
  let d := startBoundary (testBoundary d)
  let d := if d.stopped then d else forL d.enabled ranBoundary d
  traceBoundary (replaceShow (shutBoundary (shownBoundary d)))

/-! The bolt boundary (R21). -/

/-- R166: the misses told per bolt. -/
def missesBolt (d : Dev) : Dev :=
  d.updBud fun b => { b with jobs := tmap none (fun x => x.map fun x => { x with missTold := false }) b.jobs }

/-- R186 to R194: barrier notices, shares, slack notices. -/
def rackBolt (d : Dev) : Dev := slackBolt (barrierSend (shareUpdate (barsBolt d)))

/-- R217, R219, R222: watermarks, owed notices, notices to destinations again. -/
def noticesBolt (d : Dev) : Dev :=
  let d := offerAll (forL (d.jobList.map (·.1)) watermark d)
  forL (d.live.map (·.1)) noticeResend d

/-- R123: raised margin offsets apply. -/
def offsetsBolt (d : Dev) : Dev := forL d.enabled (fun f => forN 36 (mofsApply f)) d

/-- The bolt's work that a global stop freezes. -/
def runningBolt (d : Dev) : Dev := offsetsBolt (noticesBolt (rackBolt (missesBolt d)))

/-- R21: the work of a bolt boundary, once at each, but for what R24 and R149 place before the pick's samples, which the pick
boundary does. -/
def boltBoundary (d : Dev) : Dev :=
  if !d.boundaries || d.time.boltDone || decide (d.time.count % 1000 ≠ 0) then d else
  let d := d.updTime fun t => { t with boltDone := true }
  let d := if d.stopped then d else runningBolt d
  let d := timeReqSend (heartbeatSend d)
  (startBolt (replaceBolt (recordBolt (faultBolt d)))).emit (.interrupt true)

/-! The commands. -/

/-- R24. -/
def execPickBoundary (depths : List DepthObs) (warm : List TripObs) (s : State) : Host.Outcome State Fault Refusal :=
  done (pickBoundary s.fuses depths warm) s
/-- R21. -/
def execBoltBoundary (s : State) : Host.Outcome State Fault Refusal := done boltBoundary s
/-- R43. -/
def execActionApply (i : Fin 16) (s : State) : Host.Outcome State Fault Refusal := done (slotApply s.fuses i.val) s
/-- R45. -/
def execGlobalStop (s : State) : Host.Outcome State Fault Refusal := done globalStop s
/-- R48. -/
def execGlobalResume (s : State) : Host.Outcome State Fault Refusal := done (globalResume s.fuses) s

end Sys2Proof.Machine
end

