-- ==== Sys2Proof/Machine/Dispatch.lean ====
section
/-! DEFINITION. The dispatcher: one arm per command. -/

namespace Sys2Proof.Machine

/-- The effect of a command on everything but the queue. -/
def exec (i : Instr) (s : State) : Host.Outcome State Fault Refusal :=
  match i with
  | .resetNAssert => Sys2Proof.Machine.execResetNAssert s
  | .resetNRelease strap => Sys2Proof.Machine.execResetNRelease strap s
  | .malformedAccess m a write narrow => Sys2Proof.Machine.execMalformedAccess m a write narrow s
  | .pairLowRead m a sub => Sys2Proof.Machine.execPairLowRead m a sub s
  | .pairHighWrite m a v sub => Sys2Proof.Machine.execPairHighWrite m a v sub s
  | .registerWrite m a v sub => Sys2Proof.Machine.execRegisterWrite m a v sub s
  | .pickBoundary depths warm => Sys2Proof.Machine.execPickBoundary depths warm s
  | .boltBoundary => Sys2Proof.Machine.execBoltBoundary s
  | .timingFrame word crc spaced clean at_ => Sys2Proof.Machine.execTimingFrame word crc spaced clean at_ s
  | .tbLock => Sys2Proof.Machine.execTbLock s
  | .tbAcqTimeout => Sys2Proof.Machine.execTbAcqTimeout s
  | .tbLaneLost => Sys2Proof.Machine.execTbLaneLost s
  | .tbHoldoverLimit => Sys2Proof.Machine.execTbHoldoverLimit s
  | .tbAlignStart => Sys2Proof.Machine.execTbAlignStart s
  | .timeStep => Sys2Proof.Machine.execTimeStep s
  | .tbAlignDone => Sys2Proof.Machine.execTbAlignDone s
  | .countReload f p ofs => Sys2Proof.Machine.execCountReload f p ofs s
  | .netReroute fields => Sys2Proof.Machine.execNetReroute fields s
  | .netDelayMeasured fields => Sys2Proof.Machine.execNetDelayMeasured fields s
  | .actArm => Sys2Proof.Machine.execActArm s
  | .actCancel => Sys2Proof.Machine.execActCancel s
  | .actFree => Sys2Proof.Machine.execActFree s
  | .actionApply n => Sys2Proof.Machine.execActionApply n s
  | .armStop => Sys2Proof.Machine.execArmStop s
  | .armResume => Sys2Proof.Machine.execArmResume s
  | .stopCancel => Sys2Proof.Machine.execStopCancel s
  | .globalStop => Sys2Proof.Machine.execGlobalStop s
  | .globalResume => Sys2Proof.Machine.execGlobalResume s
  | .thermalScan scans sub => Sys2Proof.Machine.execThermalScan scans sub s
  | .suspectClear f p t => Sys2Proof.Machine.execSuspectClear f p t s
  | .stretchEntry f p depth => Sys2Proof.Machine.execStretchEntry f p depth s
  | .stretchRelease f p => Sys2Proof.Machine.execStretchRelease f p s
  | .floorCrossing f p depth sub => Sys2Proof.Machine.execFloorCrossing f p depth sub s
  | .pmSample f p slack => Sys2Proof.Machine.execPmSample f p slack s
  | .actLatchRead m f p => Sys2Proof.Machine.execActLatchRead m f p s
  | .eighthUpdate f e cs is => Sys2Proof.Machine.execEighthUpdate f e cs is s
  | .upFrame f k w crc clean => Sys2Proof.Machine.execUpFrame f k w crc clean s
  | .upFrameMissing f k => Sys2Proof.Machine.execUpFrameMissing f k s
  | .meterReconcile f => Sys2Proof.Machine.execMeterReconcile f s
  | .lSlewSample f k => Sys2Proof.Machine.execLSlewSample f k s
  | .lPowerSample f => Sys2Proof.Machine.execLPowerSample f s
  | .lCapSample => Sys2Proof.Machine.execLCapSample s
  | .loopCommandEffect f n => Sys2Proof.Machine.execLoopCommandEffect f n s
  | .ceRearm f n => Sys2Proof.Machine.execCeRearm f n s
  | .buCeRearm => Sys2Proof.Machine.execBuCeRearm s
  | .rearmApply f n => Sys2Proof.Machine.execRearmApply f n s
  | .raiseComplete f k => Sys2Proof.Machine.execRaiseComplete f k s
  | .patchClockStart f p => Sys2Proof.Machine.execPatchClockStart f p s
  | .mofsWrite f p v => Sys2Proof.Machine.execMofsWrite f p v s
  | .mofsRaiseApply f p => Sys2Proof.Machine.execMofsRaiseApply f p s
  | .retire f p => Sys2Proof.Machine.execRetire f p s
  | .linkUp f k => Sys2Proof.Machine.execLinkUp f k s
  | .linkDegraded f k => Sys2Proof.Machine.execLinkDegraded f k s
  | .linkLost f k => Sys2Proof.Machine.execLinkLost f k s
  | .reenable f k => Sys2Proof.Machine.execReenable f k s
  | .linkAckSafe f k => Sys2Proof.Machine.execLinkAckSafe f k s
  | .linkRecovered f k => Sys2Proof.Machine.execLinkRecovered f k s
  | .modeReq f k m => Sys2Proof.Machine.execModeReq f k m s
  | .holdSafeEnter => Sys2Proof.Machine.execHoldSafeEnter s
  | .holdSafeRelease => Sys2Proof.Machine.execHoldSafeRelease s
  | .domCeiling f k => Sys2Proof.Machine.execDomCeiling f k s
  | .domCeilingLift f k => Sys2Proof.Machine.execDomCeilingLift f k s
  | .capEffective => Sys2Proof.Machine.execCapEffective s
  | .capDeferEnd => Sys2Proof.Machine.execCapDeferEnd s
  | .hintWrite f p w => Sys2Proof.Machine.execHintWrite f p w s
  | .hintDrop f => Sys2Proof.Machine.execHintDrop f s
  | .heavyAhead f => Sys2Proof.Machine.execHeavyAhead f s
  | .lightAhead f => Sys2Proof.Machine.execLightAhead f s
  | .barrierAhead f => Sys2Proof.Machine.execBarrierAhead f s
  | .collectiveBegin f => Sys2Proof.Machine.execCollectiveBegin f s
  | .collectiveEnd f => Sys2Proof.Machine.execCollectiveEnd f s
  | .formatAhead f => Sys2Proof.Machine.execFormatAhead f s
  | .watch f => Sys2Proof.Machine.execWatch f s
  | .hintEffect f => Sys2Proof.Machine.execHintEffect f s
  | .preposExpire f => Sys2Proof.Machine.execPreposExpire f s
  | .admitJob bank => Sys2Proof.Machine.execAdmit bank s
  | .admitResult => Sys2Proof.Machine.execAdmitResult s
  | .release bank job => Sys2Proof.Machine.execRelease bank job s
  | .barrierWaitEnter f p t barrier => Sys2Proof.Machine.execBarrierWaitEnter f p t barrier s
  | .barrierWaitLeave f p t => Sys2Proof.Machine.execBarrierWaitLeave f p t s
  | .floorHoldExpire f k => Sys2Proof.Machine.execFloorHoldExpire f k s
  | .nDomAdd f k => Sys2Proof.Machine.execNDomAdd f k s
  | .barrierNotice m => Sys2Proof.Machine.execBarrierNotice m s
  | .slackNotice m => Sys2Proof.Machine.execSlackNotice m s
  | .beginMark f p t tag tags => Sys2Proof.Machine.execBegin f p t tag tags s
  | .beginGo => Sys2Proof.Machine.execBeginGo s
  | .endMark f p t tag digest poison o => Sys2Proof.Machine.execEnd f p t tag digest poison o s
  | .markApply => Sys2Proof.Machine.execMarkApply s
  | .hostNoticeRetry h takes => Sys2Proof.Machine.execHostNoticeRetry h takes s
  | .bastWindowExpire k => Sys2Proof.Machine.execBastWindowExpire k s
  | .destReport tag dst => Sys2Proof.Machine.execDestReport tag dst s
  | .ledgerNoticeResend k => Sys2Proof.Machine.execLedgerNoticeResend k s
  | .ledgerNotice m => Sys2Proof.Machine.execLedgerNotice m s
  | .destAck m => Sys2Proof.Machine.execDestAck m s
  | .ledgerQuery m => Sys2Proof.Machine.execLedgerQuery m s
  | .destGiveup k peer => Sys2Proof.Machine.execDestGiveup k peer s
  | .replaced who k => Sys2Proof.Machine.execReplaced who k s
  | .lgSel k => Sys2Proof.Machine.execLgSel k s
  | .runRequestRetry h takes => Sys2Proof.Machine.execRunRequestRetry h takes s
  | .runMarker f p t tag isEnd digest poison => Sys2Proof.Machine.execRunMarker f p t tag isEnd digest poison s
  | .runLapse n => Sys2Proof.Machine.execRunLapse n s
  | .verdictGiveup n => Sys2Proof.Machine.execVerdictGiveup n s
  | .repeatLapse n => Sys2Proof.Machine.execRepeatLapse n s
  | .assayReq who f p => Sys2Proof.Machine.execAssayReq who f p s
  | .assayStart => Sys2Proof.Machine.execAssayStart s
  | .assayDone obs => Sys2Proof.Machine.execAssayDone obs s
  | .lgRpSel n => Sys2Proof.Machine.execLgRpSel n s
  | .thermalTrip hot sub => Sys2Proof.Machine.execThermalTrip hot sub s
  | .coolantStop sub => Sys2Proof.Machine.execCoolantStop sub s
  | .tripOff f p t => Sys2Proof.Machine.execTripOff f p t s
  | .coolOkChange high => Sys2Proof.Machine.execCoolOkChange high s
  | .coolStartDone => Sys2Proof.Machine.execCoolStartDone s
  | .selvedgeRestart => Sys2Proof.Machine.execSelvedgeRestart s
  | .restartComplete => Sys2Proof.Machine.execRestartComplete s
  | .selvedgeRelease => Sys2Proof.Machine.execSelvedgeRelease s
  | .mr4Report f k code => Sys2Proof.Machine.execMr4Report f k code s
  | .mr4Lost f k => Sys2Proof.Machine.execMr4Lost f k s
  | .optTempReport e temps => Sys2Proof.Machine.execOptTempReport e temps s
  | .optReportLost e => Sys2Proof.Machine.execOptReportLost e s
  | .ppSelf a => Sys2Proof.Machine.execPpSelf a s
  | .heartbeat m => Sys2Proof.Machine.execHeartbeat m s
  | .peerAbsent n => Sys2Proof.Machine.execPeerAbsent n s
  | .peerEvict n => Sys2Proof.Machine.execPeerEvict n s
  | .grpAdd g => Sys2Proof.Machine.execGrpAdd g s
  | .grpRemove g => Sys2Proof.Machine.execGrpRemove g s
  | .grpClear g => Sys2Proof.Machine.execGrpClear g s
  | .ringPlace m => Sys2Proof.Machine.execRingPlace m s
  | .stagingPlace => Sys2Proof.Machine.execStagingPlace s
  | .stageLimitExpire => Sys2Proof.Machine.execStageLimitExpire s
  | .ringHeadWrite v => Sys2Proof.Machine.execRingHeadWrite v s
  | .peerSend n sub => Sys2Proof.Machine.execPeerSend n sub s
  | .peerSendCancel n => Sys2Proof.Machine.execPeerSendCancel n s
  | .dlv m => Sys2Proof.Machine.execDlv m s
  | .nack m => Sys2Proof.Machine.execNack m s
  | .peerResend n seq => Sys2Proof.Machine.execPeerResend n seq s
  | .replyReservationExpire n seq => Sys2Proof.Machine.execReplyReservationExpire n seq s
  | .loanGrant m => Sys2Proof.Machine.execLoanGrant m s
  | .loanReturn m => Sys2Proof.Machine.execLoanReturn m s
  | .loanEnd n => Sys2Proof.Machine.execLoanEnd n s
  | .loanCreditTimeout n => Sys2Proof.Machine.execLoanCreditTimeout n s
  | .loanReturnCmd n => Sys2Proof.Machine.execLoanReturnCmd n s
  | .ppRackCap v urgent => Sys2Proof.Machine.execPpRackCap v urgent s
  | .timeReq m t2 t3 => Sys2Proof.Machine.execTimeReq m t2 t3 s
  | .timeReply m t4 => Sys2Proof.Machine.execTimeReply m t4 s
  | .ppPsel n => Sys2Proof.Machine.execPpPsel n s
  | .imageOpen m sub => Sys2Proof.Machine.execImageOpen m sub s
  | .imageChunk m sub => Sys2Proof.Machine.execImageChunk m sub s
  | .imageSessionIdle => Sys2Proof.Machine.execImageSessionIdle s
  | .imageVerifyDone o sub => Sys2Proof.Machine.execImageVerifyDone o sub s
  | .refclkQualify us => Sys2Proof.Machine.execRefclkQualify us s
  | .refclkLost => Sys2Proof.Machine.execRefclkLost s
  | .tbclkQualify us => Sys2Proof.Machine.execTbclkQualify us s
  | .tbclkLost => Sys2Proof.Machine.execTbclkLost s
  | .pllEn => Sys2Proof.Machine.execPllEn s
  | .pllLock => Sys2Proof.Machine.execPllLock s
  | .pllNolock => Sys2Proof.Machine.execPllNolock s
  | .pllUnlock => Sys2Proof.Machine.execPllUnlock s
  | .pllRelock => Sys2Proof.Machine.execPllRelock s
  | .pllHoldTimeout => Sys2Proof.Machine.execPllHoldTimeout s
  | .tbReturn => Sys2Proof.Machine.execTbReturn s
  | .roscStop => Sys2Proof.Machine.execRoscStop s
  | .ckGate v => Sys2Proof.Machine.execCkGate v s
  | .gateOpen b => Sys2Proof.Machine.execGateOpen b s
  | .gateClose b cut => Sys2Proof.Machine.execGateClose b cut s
  | .clkoutChange patch v => Sys2Proof.Machine.execClkoutChange patch v s
  | .kernelSelftest fail lane => Sys2Proof.Machine.execKernelSelftest fail lane s
  | .imageLoad a b sfdp => Sys2Proof.Machine.execImageLoad a b sfdp s
  | .configLock => Sys2Proof.Machine.execConfigLock s
  | .noImageRestart => Sys2Proof.Machine.execNoImageRestart s
  | .stressStart => Sys2Proof.Machine.execStressStart s
  | .stressPhaseDone f o => Sys2Proof.Machine.execStressPhaseDone f o s
  | .heatLimitExpire f => Sys2Proof.Machine.execHeatLimitExpire f s
  | .stressDone f => Sys2Proof.Machine.execStressDone f s
  | .fieldBringUp f => Sys2Proof.Machine.execFieldBringUp f s
  | .ready => Sys2Proof.Machine.execReady s
  | .marginWrite => Sys2Proof.Machine.execMarginWrite s
  | .sigVerify key purpose len => Sys2Proof.Machine.execSigVerify key purpose len s
  | .sigVerifyDone ok => Sys2Proof.Machine.execSigVerifyDone ok s
  | .sliceGo w tap => Sys2Proof.Machine.execSliceGo w tap s
  | .sliceAbort f => Sys2Proof.Machine.execSliceAbort f s
  | .sliceRegionTake f => Sys2Proof.Machine.execSliceRegionTake f s
  | .sliceRegionTimeout f => Sys2Proof.Machine.execSliceRegionTimeout f s
  | .sliceDone f obs => Sys2Proof.Machine.execSliceDone f obs s
  | .sliceOverrun f => Sys2Proof.Machine.execSliceOverrun f s
  | .btImgData w => Sys2Proof.Machine.execBtImgData w s
  | .btLoad => Sys2Proof.Machine.execBtLoad s
  | .faultRecord sub => Sys2Proof.Machine.execFaultRecord sub s
  | .escalationTimeout c => Sys2Proof.Machine.execEscalationTimeout c s
  | .faultAck mask => Sys2Proof.Machine.execFaultAck mask s
  | .faultClear mask => Sys2Proof.Machine.execFaultClear mask s
  | .faultForce w => Sys2Proof.Machine.execFaultForce w s
  | .fcHpoison v => Sys2Proof.Machine.execFcHpoison v s
  | .sramError mem off field fixed => Sys2Proof.Machine.execSramError mem off field fixed s
  | .faultNoticeRetry h takes => Sys2Proof.Machine.execFaultNoticeRetry h takes s
  | .l4Reset rosc => Sys2Proof.Machine.execL4Reset rosc s
  | .l4CountClear => Sys2Proof.Machine.execL4CountClear s
  | .operatingHourTick => Sys2Proof.Machine.execOperatingHourTick s
  | .hourEnd => Sys2Proof.Machine.execHourEnd s
  | .recordSetWrite n => Sys2Proof.Machine.execRecordSetWrite n s
  | .ringScan => Sys2Proof.Machine.execRingScan s
  | .recorderShutdown => Sys2Proof.Machine.execRecorderShutdown s
  | .recorderClear => Sys2Proof.Machine.execRecorderClear s
  | .recorderClearDone => Sys2Proof.Machine.execRecorderClearDone s
  | .recordRead seq => Sys2Proof.Machine.execRecordRead seq s
  | .recordReadDone => Sys2Proof.Machine.execRecordReadDone s
  | .hostAccessDenied k a write => Sys2Proof.Machine.execHostAccessDenied k a write s
  | .clearFaults pec => Sys2Proof.Machine.execClearFaults pec s
  | .alertResponse => Sys2Proof.Machine.execAlertResponse s
  | .capability => Sys2Proof.Machine.execCapability s
  | .statusByte => Sys2Proof.Machine.execStatusByte s
  | .statusWord => Sys2Proof.Machine.execStatusWord s
  | .statusCml w pec => Sys2Proof.Machine.execStatusCml w pec s
  | .pmbusRevision => Sys2Proof.Machine.execPmbusRevision s
  | .mfrId => Sys2Proof.Machine.execMfrId s
  | .mfrModel => Sys2Proof.Machine.execMfrModel s
  | .mfrRevision => Sys2Proof.Machine.execMfrRevision s
  | .mfrSerial => Sys2Proof.Machine.execMfrSerial s
  | .pmbusInvalidCommand cmd write kind => Sys2Proof.Machine.execPmbusInvalidCommand cmd write kind s
  | .mfrJzCapWrite v urgent pec => Sys2Proof.Machine.execMfrJzCapWrite v urgent pec s
  | .mfrJzCapRead => Sys2Proof.Machine.execMfrJzCapRead s
  | .mfrJzStatus => Sys2Proof.Machine.execMfrJzStatus s
  | .mfrJzFaults => Sys2Proof.Machine.execMfrJzFaults s
  | .mfrJzTelem => Sys2Proof.Machine.execMfrJzTelem s
  | .mfrJzCounts => Sys2Proof.Machine.execMfrJzCounts s
  | .mfrJzShutdown pec => Sys2Proof.Machine.execMfrJzShutdown pec s
  | .mfrJzRecord seq => Sys2Proof.Machine.execMfrJzRecord seq s
  | .mfrJzImgOpen len pec => Sys2Proof.Machine.execMfrJzImgOpen len pec s
  | .mfrJzImgChunk off data late pec => Sys2Proof.Machine.execMfrJzImgChunk off data late pec s
  | .mfrJzImgStatus => Sys2Proof.Machine.execMfrJzImgStatus s
  | .mfrJzImgAbort pec => Sys2Proof.Machine.execMfrJzImgAbort pec s
  | .mfrJzIdentity challenge sig => Sys2Proof.Machine.execMfrJzIdentity challenge sig s
  | .mfrJzReturn serial ok pec => Sys2Proof.Machine.execMfrJzReturn serial ok pec s
  | .tapReset => Sys2Proof.Machine.execTapReset s
  | .extest pins cells => Sys2Proof.Machine.execExtest pins cells s
  | .idcode => Sys2Proof.Machine.execIdcode s
  | .samplePreload pins cells => Sys2Proof.Machine.execSamplePreload pins cells s
  | .mbus write a v sub => Sys2Proof.Machine.execMbus write a v sub s
  | .fuse root cal secver => Sys2Proof.Machine.execFuse root cal secver s
  | .idkey pub => Sys2Proof.Machine.execIdkey pub s
  | .lcAdv => Sys2Proof.Machine.execLcAdv s
  | .bypass code => Sys2Proof.Machine.execBypass code s
  | .endpointRoutingPoison => Sys2Proof.Machine.execEndpointRoutingPoison s
  | .traceArm => Sys2Proof.Machine.execTraceArm s
  | .traceStop => Sys2Proof.Machine.execTraceStop s
  | .traceStart => Sys2Proof.Machine.execTraceStart s
  | .powerOn => Sys2Proof.Machine.execPowerOn s
  | .coolOkHigh => Sys2Proof.Machine.execCoolOkHigh s

end Sys2Proof.Machine
end

