-- ==== Sys2Proof/Safety.lean ====
section
/-! DEFINITION. The terms in which statements speak of a run: a command completes, what a command changes at most, what a
step may never do. -/

namespace Sys2Proof.Machine

/-- RESET_N is high and the service kernel has not failed: Jenuz is not held in reset (R9, R320). -/
abbrev State.awake (s : State) : Prop := s.dev.released = true

/-- Two register fields share no bit. -/
abbrev Fld.apart (x y : Fld) : Prop := x.addr ≠ y.addr ∨ x.lo + x.w ≤ y.lo ∨ y.lo + y.w ≤ x.lo

/-- A field fits its 32-bit register. -/
abbrev Fld.fits (x : Fld) : Prop := x.lo + x.w ≤ 32

/-- t is s but for its registers, for the parts of its state that e gives it, and for STATUS_WORD as the alert last saw it
(R413): the queue, the fuses and every part that e leaves as s has it are unchanged. -/
def State.parts (s t : State) (e : Dev) : Prop :=
  t = { s with dev := { e with regs := t.dev.regs, mg := { e.mg with word := t.dev.mg.word } } }

/-- Every register field that shares no bit with the fields of a list, nor with the alert, reads in t as in s. -/
def State.fields (s t : State) (l : List Fld) : Prop :=
  ∀ x : Fld, x.apart PM_STATUS_ALERT → (∀ y ∈ l, x.apart y) → t.dev.rd x = s.dev.rd x

/-- What a command changes at most: the register fields of a list, and the parts of the state that e gives. -/
def State.changes (s t : State) (e : Dev) (l : List Fld) : Prop := s.parts t e ∧ s.fields t l

/-- What a command changes at most: the registers from address lo on below hi, and the parts of the state that e gives. -/
def State.within (s t : State) (e : Dev) (lo hi : Nat) : Prop :=
  s.parts t e ∧ ∀ x : Fld, x.apart PM_STATUS_ALERT → (x.addr < lo ∨ hi ≤ x.addr) → t.dev.rd x = s.dev.rd x

/-- What a command of field f changes at most: the registers of its steward (R19), and the parts of the state that e
gives. -/
def State.inField (s t : State) (f : Nat) (e : Dev) : Prop := s.within t e (stBase f) (stBase (f + 1))

/-- The command c at s completes in a next state of which Q holds. -/
def Completes (c : Instr) (s : State) (Q : State → Prop) : Prop := ∃ t, exec c s = .next t ∧ Q t

/-- R422: a device in FIELD has its root key hash, identity key and calibration; one in RETURN has its identity key killed. -/
def Fuses.sound (fz : Fuses) : Prop :=
  (fz.lc = .field → fz.rootSet = true ∧ fz.keySet = true ∧ fz.calibrated = true) ∧ (fz.lc = .ret → fz.keyKilled = true)

/-- A number of a life cycle's place in its order (R422): it only ever rises. -/
def LifeCycle.rank : LifeCycle → Nat
  | .blank => 0 | .test => 1 | .field => 2 | .ret => 3

end Sys2Proof.Machine
end

