-- ==== Sys2Proof/Certificates/Slice0/Obligations.lean ====
section
/-! DEFINITION. The statements for the provers, in the order of OBLIGATIONS.json. Each docstring names the rules it rests on. Most say
that a command completes (Completes), what its next state holds, and what it changes at most (changes, within, parts): the
registers listed, the parts of the state written, and nothing else. -/

open Sys2Proof Sys2Proof.Machine

/-- For every command c: a step of a state with c at the front of its queue is exec of c at that state with the rest of
the queue. -/
def Obligations.StepRunsFrontCommand : Prop :=
  ∀ (c : Instr) (rest : List Instr) (s : State), s.pending = c :: rest → step s = exec c { s with pending := rest }

/-- A step of a state whose queue is empty leaves the state as it was. That it idles is the model's choice (log entry
15). -/
def Obligations.StepIdlesOnEmptyQueue : Prop :=
  ∀ s : State, s.pending = [] → step s = .next s

/-- Every command at every state answers a next state, with the queue as it was: no command of the table ends in a fault
or in a refusal of the model. -/
def Obligations.EveryCommandAnswers : Prop :=
  ∀ (c : Instr) (s : State), ∃ t, exec c s = .next t ∧ t.pending = s.pending

/-- R19, R422: At reset READY, CONFIG_LOCK and the manager's stop are clear, the timebase unit is ACQUIRING, the sixteen
action slots are free, host context 0 alone is enabled, and no steward shows hold-safe. After reset the fuses are sound,
the SRAM is in its canonical form, and no command waits. -/
def Obligations.ResetLeaves : Prop :=
  State.reset.dev.rdB JZ_STATUS_READY = false ∧ State.reset.dev.rdB TB_STATUS_STOPPED = false ∧
  State.reset.dev.rd TB_STATUS_MODE = ACQUIRING ∧ (∀ i : Fin 16, (State.reset.dev.slot i).st = .free) ∧
  (∀ k : Fin 8, State.reset.dev.rdB (JZ_HW_CTX_ENABLE k) = decide (k = 0)) ∧
  State.reset.dev.rdB JZ_CONFIG_CONFIG_LOCK = false ∧ (∀ f : Fin 96, State.reset.dev.rdB (ST_OP_STATUS_HOLD_SAFE f) = false) ∧
  State.reset.fuses.sound ∧ Memory.wf State.reset.dev.sram = true ∧ State.reset.pending = []

/-- R14, R15, R18, R19, R409: A write of the manager core to an aligned word of the SRAM stores its four bytes, the
least significant at the lowest address, keeps the memory's canonical form and changes no other byte of it; a read
answers the word that the four bytes spell and changes nothing else. A read of the core of TB_NOW_LO answers the low
word of the timestamp and latches its high word and H in the core's shadow; the read of the high word answers the
shadow, whatever the time is then. Exec answers a next state with its own effect, for every state and operands that meet
the conditions of its clause: registerWrite, pairLowRead. -/
def Obligations.SramAndRegisterReads : Prop :=
  (∀ (s : State) (m : Fin 9) (a v : BitVec 32) (sub : BitVec 12), s.awake → m = 8 → 0x10000000 ≤ a.toNat → a.toNat <
    0x10080000 → a.toNat % 4 = 0 → Completes (.registerWrite m a v sub) s fun t => t.dev.memWord (a.toNat - 0x10000000)
    = v ∧ (∀ b : Nat, b < a.toNat - 0x10000000 ∨ a.toNat - 0x10000000 + 4 ≤ b → t.dev.byte b = s.dev.byte b) ∧
    (Memory.wf s.dev.sram = true → Memory.wf t.dev.sram = true) ∧ s.changes t { s.dev with sram := t.dev.sram } []) ∧
  (∀ (s : State) (m : Fin 9) (a : BitVec 32) (sub : BitVec 12), s.awake → m = 8 → 0x10000000 ≤ a.toNat → a.toNat <
    0x10080000 → a.toNat % 4 = 0 → Completes (.pairLowRead m a sub) s fun t => t.dev.busData = s.dev.memWord (a.toNat -
    0x10000000) ∧ s.changes t { s.dev with busData := t.dev.busData } []) ∧
  (∀ (s : State) (m : Fin 9) (a : BitVec 32) (sub : BitVec 12), s.awake → m = 8 → a.toNat = TB_NOW_LO_SUB.addr →
    Completes (.pairLowRead m a sub) s fun t => t.dev.busData = BitVec.ofNat 32 (s.dev.stamp sub.toNat) ∧ t.dev.shadowOf
    .core TB_NOW_HI_PICK_H.addr = (BitVec.ofNat 32 (s.dev.stamp sub.toNat / 2 ^ 32), s.dev.hNow) ∧ s.changes t
    { s.dev with busData := t.dev.busData, shadow := t.dev.shadow } []) ∧
  (∀ (s : State) (m : Fin 9) (a : BitVec 32) (sub : BitVec 12), s.awake → m = 8 → a.toNat = TB_NOW_HI_PICK_H.addr →
    Completes (.pairLowRead m a sub) s fun t => t.dev.busData = (s.dev.shadowOf .core TB_NOW_HI_PICK_H.addr).1 ∧
    s.changes t { s.dev with busData := t.dev.busData } [])

/-- R15, R16, R18, R409, R410: A write of the core to a register of the selvedge's limits (RWL) stores its fields before
CONFIG_LOCK and changes nothing after it; writing the high word of TB_STOP_AT and of TB_RESUME_AT makes the pair take
effect. An access of the core that is not aligned or that no block decodes raises a BUS fault ACCESS with its address,
and a read answers zero; an access a host context in use may not make is counted, raises the fault with MASTER 2, and
changes nothing else. Exec answers a next state with its own effect, for every state and operands that meet the
conditions of its clause: registerWrite, pairHighWrite, malformedAccess, hostAccessDenied. -/
def Obligations.RegisterAccesses : Prop :=
  (∀ (s : State) (m : Fin 9) (a v : BitVec 32) (sub : BitVec 12), s.awake → m = 8 → a.toNat = JZ_SEL_LIMITS_T_CTRL.addr
    → s.dev.locked = false → Completes (.registerWrite m a v sub) s fun t => t.dev.rd JZ_SEL_LIMITS_T_CTRL = v.toNat % 2
    ^ 11 ∧ t.dev.rd JZ_SEL_LIMITS_TRIP = v.toNat / 2 ^ 16 % 2 ^ 8 ∧ t.dev.rd JZ_SEL_LIMITS_T_RESTART = v.toNat / 2 ^ 24
    ∧ s.changes t s.dev [JZ_SEL_LIMITS_T_CTRL, JZ_SEL_LIMITS_TRIP, JZ_SEL_LIMITS_T_RESTART]) ∧
  (∀ (s : State) (m : Fin 9) (a v : BitVec 32) (sub : BitVec 12), s.awake → m = 8 → a.toNat = JZ_SEL_LIMITS_T_CTRL.addr
    → s.dev.locked = true → Completes (.registerWrite m a v sub) s fun t => s.changes t s.dev []) ∧
  (∀ (s : State) (m : Fin 9) (a v : BitVec 32) (sub : BitVec 12), s.awake → m = 8 → a.toNat = TB_STOP_AT_HI_AT_H.addr →
    Completes (.pairHighWrite m a v sub) s fun t => t.dev.time.stopAt = s.dev.rd TB_STOP_AT_LO_AT_L + v.toNat % 2 ^ 20 *
    2 ^ 32 ∧ s.changes t { s.dev with time := { s.dev.time with stopAt := t.dev.time.stopAt } } [TB_STOP_AT_HI_AT_H]) ∧
  (∀ (s : State) (m : Fin 9) (a v : BitVec 32) (sub : BitVec 12), s.awake → m = 8 → a.toNat = TB_RESUME_AT_HI_AT_H.addr
    → Completes (.pairHighWrite m a v sub) s fun t => t.dev.time.resumeAt = s.dev.rd TB_RESUME_AT_LO_AT_L + v.toNat % 2
    ^ 20 * 2 ^ 32 ∧ s.changes t { s.dev with time := { s.dev.time with resumeAt := t.dev.time.resumeAt } }
    [TB_RESUME_AT_HI_AT_H]) ∧
  (∀ (s : State) (m : Fin 9) (a : BitVec 32) (write narrow : Bool), s.awake → m = 8 → (a.toNat % 4 ≠ 0 ∨ decoded a.toNat
    = false) → Completes (.malformedAccess m a write narrow) s fun t => (write = false → t.dev.busData = 0) ∧ s.changes
    t
    { s.dev with busData := t.dev.busData, fc := { s.dev.fc with raised := s.dev.fc.raised ++ [{ s.dev.report .bus 1 central 0 with addr := a.toNat, master := 0, access := b01 write }] } }
    []) ∧
  (∀ (s : State) (k : Fin 8) (a : BitVec 32) (write : Bool), s.awake → s.dev.ctxOn k = true → s.dev.hostMay k a.toNat
    write = false → Completes (.hostAccessDenied k a write) s fun t => t.dev.rd JZ_HW_DENY_CNT = satN 0xFFFF (s.dev.rd
    JZ_HW_DENY_CNT + 1) ∧ t.dev.rd JZ_HW_DENY_LAST_CTX = k.val ∧ (write = false → t.dev.busData = 0) ∧ s.changes t
    { s.dev with busData := t.dev.busData, fc := { s.dev.fc with raised := s.dev.fc.raised ++ [{ s.dev.report .bus 1 central 0 with addr := a.toNat, master := 2, access := b01 write }] } }
    [JZ_HW_DENY_CNT, JZ_HW_DENY_LAST_CTX])

/-- R20, R22, R34, R37: A pick boundary at which no action slot is armed counts itself and gives the pick its count: the
one loaded from the lane, 0 at the first boundary, else one more than before with the forward step added; outside a
global stop the timers' count of boundaries rises with it. That the first boundary opens pick 0 is the rule R440; that
boundaries of a stop that is resumed there are counted by timers is the model's reading (log entry 23). Exec answers a
next state with its own effect, for every state and operands that meet the conditions of its clause: pickBoundary. -/
def Obligations.PickBoundaryCounts : Prop :=
  ∀ (s : State) (depths : List DepthObs) (warm : List TripObs), s.awake → s.dev.boundaries = true → (∀ i : Fin 16,
    (s.dev.slot i).st ≠ .armed) → Completes (.pickBoundary depths warm) s fun t => t.dev.time.nb = s.dev.time.nb + 1 ∧
    t.dev.time.prevCount = s.dev.time.count ∧ (∀ c, s.dev.time.load = some c → t.dev.time.count = c) ∧ (s.dev.time.load
    = none → s.dev.time.nb = 0 → t.dev.time.count = 0) ∧ (s.dev.time.load = none → s.dev.time.nb ≠ 0 → s.dev.mode ≠
    ALIGNING → t.dev.time.count = s.dev.time.count + 1 + s.dev.time.step) ∧ (s.dev.time.load = none → s.dev.time.nb ≠ 0
    → s.dev.mode = ALIGNING → 4096 ≤ s.dev.time.delta → t.dev.time.count = s.dev.time.count + 1 + (s.dev.time.delta /
    4096).toNat) ∧ (s.dev.rdB TB_STATUS_STOPPED = false → t.dev.time.nbRun = s.dev.time.nbRun + 1) ∧ (s.dev.rdB
    TB_STATUS_STOPPED = true → s.dev.rdB TB_STATUS_RESUME_ARMED = false → t.dev.time.nbRun = s.dev.time.nbRun)

/-- R21, R370: At a pick whose count is a multiple of 1,000 the bolt boundary interrupts the core and is then done, with
the bolts of a due L4 and of READY counted; at any other pick, and a second time, it changes nothing. Exec answers a
next state with its own effect, for every state and operands that meet the conditions of its clause: boltBoundary. -/
def Obligations.BoltBoundaryInterrupts : Prop :=
  (∀ (s : State), s.awake → s.dev.boundaries = true → s.dev.time.boltDone = false → s.dev.time.count % 1000 = 0 →
    Completes .boltBoundary s fun t => t.dev.out.head? = some (.interrupt true) ∧ t.dev.time.boltDone = true ∧
    t.dev.time.count = s.dev.time.count ∧ t.dev.fc.l4Bolts = (if s.dev.fc.l4.isSome = true then s.dev.fc.l4Bolts + 1
    else 0) ∧ t.dev.fc.readyBolts = (if s.dev.ready = true ∧ s.dev.fc.l4 = none then satN 100000 (s.dev.fc.readyBolts +
    1) else s.dev.fc.readyBolts)) ∧
  (∀ (s : State), s.awake → (s.dev.boundaries = false ∨ s.dev.time.boltDone = true ∨ s.dev.time.count % 1000 ≠ 0) →
    Completes .boltBoundary s fun t => s.changes t s.dev [])

/-- R45, R46, R47, R48, R49, R299: A stop is armed while the manager runs, a resume while it is stopped and at a bolt
boundary; a stop armed while stopped and a resume armed while running set STATE_CONFLICT; CANCEL ends both. At the pick
of an armed stop the manager stops: the heddles close, each peer's counts are copied with the pick, wadding pauses with
its levels held, and the ledger, the budgets, the loops and the meters stand as they were. At the pick of an armed
resume the manager runs again, and the boundary is marked as that of a resume. Exec answers a next state with its own
effect, for every state and operands that meet the conditions of its clause: armStop, armResume, stopCancel, globalStop,
globalResume. -/
def Obligations.GlobalStops : Prop :=
  (∀ (s : State), s.awake → s.dev.rdB TB_STATUS_STOPPED = false → s.dev.time.count + 2 ≤ s.dev.time.stopAt → Completes
    .armStop s fun t => t.dev.rdB TB_STATUS_STOP_ARMED = true ∧ s.changes t
    { s.dev with time := { s.dev.time with armStop := s.dev.time.stopAt } } [TB_STATUS_STOP_ARMED]) ∧
  (∀ (s : State), s.awake → (s.dev.rdB TB_STATUS_STOPPED = true ∨ s.dev.time.stopAt < s.dev.time.count + 2) → Completes
    .armStop s fun t => t.dev.rdB TB_STATUS_STATE_CONFLICT = true ∧ s.changes t s.dev [TB_STATUS_STATE_CONFLICT]) ∧
  (∀ (s : State), s.awake → s.dev.rdB TB_STATUS_STOPPED = true → s.dev.time.count + 2 ≤ s.dev.time.resumeAt →
    s.dev.time.resumeAt % 1000 = 0 → Completes .armResume s fun t => t.dev.rdB TB_STATUS_RESUME_ARMED = true ∧ s.changes
    t { s.dev with time := { s.dev.time with armResume := s.dev.time.resumeAt } } [TB_STATUS_RESUME_ARMED]) ∧
  (∀ (s : State), s.awake → (s.dev.rdB TB_STATUS_STOPPED = false ∨ s.dev.time.resumeAt < s.dev.time.count + 2 ∨
    s.dev.time.resumeAt % 1000 ≠ 0) → Completes .armResume s fun t => t.dev.rdB TB_STATUS_STATE_CONFLICT = true ∧
    s.changes t s.dev [TB_STATUS_STATE_CONFLICT]) ∧
  (∀ (s : State), s.awake → Completes .stopCancel s fun t => t.dev.rdB TB_STATUS_STOP_ARMED = false ∧ t.dev.rdB
    TB_STATUS_RESUME_ARMED = false ∧ s.changes t s.dev [TB_STATUS_STOP_ARMED, TB_STATUS_RESUME_ARMED]) ∧
  (∀ (s : State), s.awake → s.dev.rdB TB_STATUS_STOPPED = false → s.dev.rdB TB_STATUS_STOP_ARMED = true →
    s.dev.time.armStop ≤ s.dev.time.count → Completes .globalStop s fun t => t.dev.rdB TB_STATUS_STOPPED = true ∧
    t.dev.rdB TB_STATUS_STOP_ARMED = false ∧ (∀ f k, t.dev.heddleShut f k = true) ∧ t.dev.pp.snapAt = s.dev.time.count ∧
    (∀ f p n, t.dev.ti f p n = s.dev.ti f p n ∨ t.dev.ti f p n = { s.dev.ti f p n with wads := false, paused := true })
    ∧ ((s.dev.peers.map (·.1)).Nodup → ∀ x ∈ s.dev.peers, tget 0 t.dev.pp.snap (2 * x.1) = x.2.sent ∧ tget 0
    t.dev.pp.snap (2 * x.1 + 1) = x.2.rcvd) ∧ s.changes t
    { s.dev with pp := { s.dev.pp with snap := t.dev.pp.snap, snapAt := t.dev.pp.snapAt }, tile := t.dev.tile }
    [TB_STATUS_STOPPED, TB_STATUS_STOP_ARMED]) ∧
  (∀ (s : State), s.awake → s.dev.rdB TB_STATUS_STOPPED = true → s.dev.rdB TB_STATUS_RESUME_ARMED = true →
    s.dev.time.armResume ≤ s.dev.time.count → (∀ i : Fin 16, (s.dev.slot i).st ≠ .armed) → Completes .globalResume s fun
    t => t.dev.rdB TB_STATUS_STOPPED = false ∧ t.dev.rdB TB_STATUS_RESUME_ARMED = false ∧ t.dev.time.resumed = true ∧
    t.dev.time.count = s.dev.time.count)

/-- R27, R28, R34, R35: A valid timing frame makes its count the lane's count, copies RACK_HOLD and lengthens the run of
valid frames; an invalid one is counted in TB_LANE_ERR, which saturates, and lengthens the run of invalid frames. The
whole picks of Δ are stepped over at the next boundary. A lane more than 1,000,000 picks behind is not followed:
AHEAD_LIMIT sets, RACK_FEAT clears, and a CLOCK fault is raised, once. Exec answers a next state with its own effect,
for every state and operands that meet the conditions of its clause: timingFrame, timeStep, tbAlignStart. -/
def Obligations.FramesAndSteps : Prop :=
  (∀ (s : State) (word : BitVec 64) (crc : BitVec 16) (at_ : BitVec 13), s.awake → s.dev.time.laneOff = false → crc16
    (leBytes 8 word.toNat) = crc.toNat → (∀ r, s.dev.time.lane = some r → word.toNat % 2 ^ 52 = r.count + r.periods + 1)
    → (s.dev.mode = LOCKED → word.toNat % 2 ^ 52 = s.dev.time.count + 1) → Completes (.timingFrame word crc true true
    at_) s fun t => t.dev.rdB TB_STATUS_RACK_HOLD = word.getLsbD 52 ∧ t.dev.time.valid = s.dev.time.valid + 1 ∧
    t.dev.time.invalid = 0 ∧ t.dev.time.laneCount = word.toNat % 2 ^ 52 ∧ t.dev.time.lane = some ⟨word.toNat % 2 ^ 52,
    0⟩ ∧ s.changes t { s.dev with time := t.dev.time } [TB_STATUS_RACK_HOLD]) ∧
  (∀ (s : State) (word : BitVec 64) (crc : BitVec 16) (spaced clean : Bool) (at_ : BitVec 13), s.awake →
    s.dev.time.laneOff = false → (spaced = false ∨ clean = false ∨ crc16 (leBytes 8 word.toNat) ≠ crc.toNat) → Completes
    (.timingFrame word crc spaced clean at_) s fun t => t.dev.rd TB_LANE_ERR_COUNT = satN 0xFFFFFFFF (s.dev.rd
    TB_LANE_ERR_COUNT + 1) ∧ t.dev.time.valid = 0 ∧ t.dev.time.invalid = s.dev.time.invalid + 1 ∧ s.changes t
    { s.dev with time := t.dev.time } [TB_LANE_ERR_COUNT]) ∧
  (∀ (s : State), s.awake → s.dev.mode = ALIGNING → 4096 ≤ s.dev.time.delta → Completes .timeStep s fun t =>
    (t.dev.time.step : Int) = s.dev.time.delta / 4096 ∧ s.changes t
    { s.dev with time := { s.dev.time with step := t.dev.time.step } } []) ∧
  (∀ (s : State), s.awake → s.dev.mode = HOLDOVER → 16 ≤ s.dev.time.valid → s.dev.time.delta < -(1000000 * 4096) →
    s.dev.rdB TB_STATUS_AHEAD_LIMIT = false → Completes .tbAlignStart s fun t => t.dev.mode = HOLDOVER ∧ t.dev.rdB
    TB_STATUS_AHEAD_LIMIT = true ∧ t.dev.rdB TB_STATUS_RACK_FEAT = false ∧ s.changes t
    { s.dev with fc := { s.dev.fc with raised := s.dev.fc.raised ++ [s.dev.report .clock 5 central 0] } }
    [TB_STATUS_AHEAD_LIMIT, TB_STATUS_RACK_FEAT]) ∧
  (∀ (s : State), s.awake → s.dev.mode = HOLDOVER → 16 ≤ s.dev.time.valid → s.dev.time.delta < -(1000000 * 4096) →
    s.dev.rdB TB_STATUS_AHEAD_LIMIT = true → Completes .tbAlignStart s fun t => t.dev.mode = HOLDOVER ∧ t.dev.rdB
    TB_STATUS_AHEAD_LIMIT = true ∧ t.dev.rdB TB_STATUS_RACK_FEAT = false ∧ s.changes t s.dev [TB_STATUS_AHEAD_LIMIT,
    TB_STATUS_RACK_FEAT])

/-- R30, R40, R41: Each move of the timebase unit into LOCKED, HOLDOVER and ALIGNING sets MODE, H and RACK_FEAT and
raises the CLOCK fault that the table of modes names for it. A sentinel whose copy of the count disagrees at a bolt
boundary keeps it, named in a CLOCK fault, until it is reloaded; a sentinel behind a re-routed net is not compared until
the delay of the new path is measured. Exec answers a next state with its own effect, for every state and operands that
meet the conditions of its clause: tbLock, tbAcqTimeout, tbLaneLost, tbHoldoverLimit, tbAlignStart, tbAlignDone,
countReload, netReroute, netDelayMeasured. -/
def Obligations.ModesAndCopies : Prop :=
  (∀ (s : State), s.awake → s.dev.mode = ACQUIRING → 16 ≤ s.dev.time.valid → Completes .tbLock s fun t => t.dev.mode =
    LOCKED ∧ t.dev.rdB TB_STATUS_H = false ∧ t.dev.rdB TB_STATUS_RACK_FEAT = true ∧ t.dev.time.load = some
    s.dev.time.laneCount ∧ s.changes t { s.dev with time := t.dev.time } [TB_STATUS_MODE, TB_STATUS_H,
    TB_STATUS_RACK_FEAT]) ∧
  (∀ (s : State) (b : Nat), s.awake → s.dev.mode = ACQUIRING → s.dev.time.acqFrom = some b → b + 1 + 100 * 1000 ≤
    s.dev.time.nb → Completes .tbAcqTimeout s fun t => t.dev.mode = HOLDOVER ∧ t.dev.rdB TB_STATUS_H = true ∧ t.dev.rdB
    TB_STATUS_RACK_FEAT = false ∧ s.changes t
    { s.dev with fc := { s.dev.fc with raised := s.dev.fc.raised ++ [s.dev.report .clock 1 central 0] } }
    [TB_STATUS_MODE, TB_STATUS_H, TB_STATUS_RACK_FEAT]) ∧
  (∀ (s : State), s.awake → (s.dev.mode = LOCKED ∨ s.dev.mode = ALIGNING) → 16 ≤ s.dev.time.invalid → Completes
    .tbLaneLost s fun t => t.dev.mode = HOLDOVER ∧ t.dev.time.adj = 0 ∧ t.dev.time.step = 0 ∧ t.dev.time.count =
    s.dev.time.count ∧ s.changes t
    { s.dev with time := t.dev.time, fc := { s.dev.fc with raised := s.dev.fc.raised ++ [s.dev.report .clock 2 central 0] } }
    [TB_STATUS_MODE]) ∧
  (∀ (s : State), s.awake → s.dev.mode = HOLDOVER → s.dev.time.localDone = false → s.dev.time.lastLocked + 1 + 1000 *
    1000 ≤ s.dev.time.nb → Completes .tbHoldoverLimit s fun t => t.dev.mode = HOLDOVER ∧ t.dev.rdB TB_STATUS_RACK_FEAT =
    false ∧ s.changes t
    { s.dev with time := { s.dev.time with localDone := true }, fc := { s.dev.fc with raised := s.dev.fc.raised ++ [s.dev.report .clock 3 central 0] } }
    [TB_STATUS_RACK_FEAT]) ∧
  (∀ (s : State), s.awake → s.dev.mode = HOLDOVER → 16 ≤ s.dev.time.valid → -(1000000 * 4096) ≤ s.dev.time.delta →
    Completes .tbAlignStart s fun t => t.dev.mode = ALIGNING ∧ t.dev.rdB TB_STATUS_AHEAD_LIMIT = false ∧ s.changes t
    s.dev [TB_STATUS_MODE, TB_STATUS_AHEAD_LIMIT]) ∧
  (∀ (s : State), s.awake → s.dev.mode = ALIGNING → (s.dev.time.delta + s.dev.time.adj).natAbs ≤ 1 → Completes
    .tbAlignDone s fun t => t.dev.mode = LOCKED ∧ t.dev.rdB TB_STATUS_H = false ∧ t.dev.time.featPend = true ∧
    t.dev.time.adj = 0 ∧ s.changes t { s.dev with time := t.dev.time } [TB_STATUS_MODE, TB_STATUS_H]) ∧
  (∀ (s : State) (f : Fin 96) (p : Fin 36) (ofs : Int), s.awake → s.dev.time.count % 1000 = 0 → ofs ≠ 0 → tget none
    s.dev.time.rerouted f.val = none → tget 0 s.dev.time.copyOfs (pkey f p) = 0 → Completes (.countReload f p ofs) s fun
    t => tget 0 t.dev.time.copyOfs (pkey f p) = ofs ∧ (∀ k, k ≠ pkey f p → tget 0 t.dev.time.copyOfs k = tget 0
    s.dev.time.copyOfs k) ∧ s.changes t
    { s.dev with time := { s.dev.time with copyOfs := t.dev.time.copyOfs }, fc := { s.dev.fc with raised := s.dev.fc.raised ++ [s.dev.report .clock 11 f p] } }
    []) ∧
  (∀ (s : State) (f : Fin 96) (p : Fin 36) (ofs : Int), s.awake → (s.dev.time.count % 1000 ≠ 0 ∨ tget none
    s.dev.time.rerouted f.val ≠ none) → Completes (.countReload f p ofs) s fun t => s.changes t s.dev []) ∧
  (∀ (s : State) (fields : BitVec 96), s.awake → Completes (.netReroute fields) s fun t => (∀ f : Fin 96, tget none
    t.dev.time.rerouted f.val = if fields.getLsbD f then some false else tget none s.dev.time.rerouted f.val) ∧
    s.changes t { s.dev with time := { s.dev.time with rerouted := t.dev.time.rerouted } } []) ∧
  (∀ (s : State) (fields : BitVec 96), s.awake → Completes (.netDelayMeasured fields) s fun t => (∀ f : Fin 96, tget
    none t.dev.time.rerouted f.val = if fields.getLsbD f ∧ tget none s.dev.time.rerouted f.val ≠ none then some true
    else tget none s.dev.time.rerouted f.val) ∧ s.changes t
    { s.dev with time := { s.dev.time with rerouted := t.dev.time.rerouted } } [])

/-- R42, R43, R49: The selected action slot is armed where R42 accepts it; an arming that R42 refuses sets
STATE_CONFLICT and leaves the slot as it was; CANCEL frees an armed slot and FREE one that is DONE or MISSED; no other
slot changes. An armed slot whose pick has come writes its word as a write of the core and becomes DONE, or MISSED where
its pick is past; an RWL register that has been locked since is not written, and the slot becomes MISSED. Exec answers a
next state with its own effect, for every state and operands that meet the conditions of its clause: actArm, actCancel,
actFree, actionApply. -/
def Obligations.ScheduledActions : Prop :=
  (∀ (s : State), s.awake → (s.dev.slot s.dev.actSel).st = .free → s.dev.time.count + 2 ≤ (s.dev.slot s.dev.actSel).at_
    → writable (s.dev.slot s.dev.actSel).addr = true → (rwlReg (s.dev.slot s.dev.actSel).addr = true → s.dev.locked =
    false) → Completes .actArm s fun t => t.dev.slot s.dev.actSel = { s.dev.slot s.dev.actSel with st := .armed } ∧ (∀
    i, i ≠ s.dev.actSel → t.dev.slot i = s.dev.slot i) ∧ s.changes t
    { s.dev with time := { s.dev.time with slots := t.dev.time.slots } } []) ∧
  (∀ (s : State), s.awake → ((s.dev.slot s.dev.actSel).at_ < s.dev.time.count + 2 ∨ writable (s.dev.slot
    s.dev.actSel).addr = false ∨ (rwlReg (s.dev.slot s.dev.actSel).addr = true ∧ s.dev.locked = true) ∨ (s.dev.slot
    s.dev.actSel).st ≠ .free) → Completes .actArm s fun t => t.dev.rdB TB_STATUS_STATE_CONFLICT = true ∧ s.changes t
    s.dev [TB_STATUS_STATE_CONFLICT]) ∧
  (∀ (s : State), s.awake → Completes .actCancel s fun t => (t.dev.slot s.dev.actSel).st = (if (s.dev.slot
    s.dev.actSel).st = .armed then .free else (s.dev.slot s.dev.actSel).st) ∧ (∀ i, i ≠ s.dev.actSel → t.dev.slot i =
    s.dev.slot i) ∧ s.changes t { s.dev with time := { s.dev.time with slots := t.dev.time.slots } } []) ∧
  (∀ (s : State), s.awake → Completes .actFree s fun t => ((t.dev.slot s.dev.actSel).st = (if (s.dev.slot
    s.dev.actSel).st = .done ∨ (s.dev.slot s.dev.actSel).st = .missed then .free else (s.dev.slot s.dev.actSel).st)) ∧
    (∀ i, i ≠ s.dev.actSel → t.dev.slot i = s.dev.slot i) ∧ s.changes t
    { s.dev with time := { s.dev.time with slots := t.dev.time.slots } } []) ∧
  (∀ (s : State) (i : Fin 16), s.awake → (s.dev.slot i).st = .armed → (s.dev.slot i).at_ ≤ s.dev.time.count → s.dev.rdB
    TB_STATUS_STOPPED = false → (rwlReg (s.dev.slot i).addr = true → s.dev.locked = false) → Completes (.actionApply i)
    s fun t => (t.dev.slot i).st = (if (s.dev.slot i).at_ < s.dev.time.count then .missed else .done) ∧ (∀ x : Fld,
    x.apart PM_STATUS_ALERT → x.apart TB_STATUS_ACT_MISSED → t.dev.rd x = (busWrite s.fuses .core 0 (s.dev.slot i).addr
    (BitVec.ofNat 32 (s.dev.slot i).data) s.dev).rd x) ∧ ((s.dev.slot i).at_ < s.dev.time.count → t.dev.rdB
    TB_STATUS_ACT_MISSED = true)) ∧
  (∀ (s : State) (i : Fin 16), s.awake → (s.dev.slot i).st = .armed → (s.dev.slot i).at_ ≤ s.dev.time.count → s.dev.rdB
    TB_STATUS_STOPPED = false → rwlReg (s.dev.slot i).addr = true → s.dev.locked = true → Completes (.actionApply i) s
    fun t => (t.dev.slot i).st = .missed ∧ t.dev.rdB TB_STATUS_ACT_MISSED = true ∧ t.dev.rdB TB_STATUS_STATE_CONFLICT =
    true ∧ s.changes t { s.dev with time := { s.dev.time with slots := t.dev.time.slots } } [TB_STATUS_ACT_MISSED,
    TB_STATUS_STATE_CONFLICT])

/-- R51, R54, R55, R61, R67, R68: A scan of one untrimmed patch that is due records both readings and the pick of the
scan, puts the patch into the band that its temperature then selects, and is done once at the boundary; nothing outside
the field's steward changes but reports and the recorder's counts. A scan that is not due changes nothing. Clearing a
suspect mark clears it alone. A path monitor window that nothing disturbed gives its slack with the operating point kept
of its picks, and a negative slack raises a SENSE fault; a disturbed window only sets SKIPPED, and at any other pick of
the bolt there is no result. Exec answers a next state with its own effect, for every state and operands that meet the
conditions of its clause: thermalScan, suspectClear, pmSample. -/
def Obligations.ScansAndMonitors : Prop :=
  (∀ (s : State) (o : ScanObs) (sub : BitVec 12), s.awake → s.dev.scanDue o.field o.patch = true → (∀ t : Fin 2,
    s.dev.rd (PS_TS_TRIM_OFS o.field o.patch t) = 0 ∧ s.dev.rd (PS_TS_TRIM_GAIN o.field o.patch t) = 0) → Completes
    (.thermalScan [o] sub) s fun t => t.dev.rd (PS_TS_RAW o.field o.patch 0) = o.c0.toNat ∧ t.dev.rd (PS_TS_RAW o.field
    o.patch 1) = o.c1.toNat ∧ (t.dev.pt o.field o.patch).readAt = some s.dev.time.count ∧ t.dev.rd (PS_STATUS_BAND
    o.field o.patch) = nextBand s.dev.tCtrl (s.dev.rd (ST_SNS_BANDS_NEAR o.field)) (s.dev.rd (ST_SNS_BANDS_CRIT
    o.field)) (s.dev.rd (ST_SNS_BANDS_HYST o.field)) (s.dev.rd (PS_STATUS_BAND o.field o.patch)) (t.dev.temp o.field
    o.patch) ∧ (t.dev.pt o.field o.patch).scannedAt = some s.dev.time.nb ∧ s.inField t o.field
    { s.dev with pat := t.dev.pat, inst := t.dev.inst, ev := t.dev.ev, fc := { s.dev.fc with raised := t.dev.fc.raised } }) ∧
  (∀ (s : State) (o : ScanObs) (sub : BitVec 12), s.awake → s.dev.scanDue o.field o.patch = false → Completes
    (.thermalScan [o] sub) s fun t => s.changes t s.dev []) ∧
  (∀ (s : State) (f : Fin 96) (p : Fin 36) (q : Fin 2), s.awake → Completes (.suspectClear f p q) s fun t => t.dev.rdB
    (PS_TS_HEALTH_SUSPECT f p q) = false ∧ (t.dev.pt f p).suspAt q = none ∧ (t.dev.pt f p).suspAt (1 - q) = (s.dev.pt f
    p).suspAt (1 - q) ∧ s.changes t { s.dev with pat := t.dev.pat } [PS_TS_HEALTH_SUSPECT f p q]) ∧
  (∀ (s : State) (f : Fin 96) (p : Fin 36) (slack : BitVec 11), s.awake → s.dev.time.count % 1000 = 4 → (s.dev.pt f
    p).pmDirty = false → Completes (.pmSample f p slack) s fun t => t.dev.rd (PS_PM_SLACK f p) = slack.toNat ∧ t.dev.rdB
    (PS_PM_VALID f p) = true ∧ t.dev.rdB (PS_PM_SKIPPED f p) = false ∧ t.dev.rd (PS_PM_POINT_FIDX f p) = (s.dev.pt f
    p).pmPoint.1 % 2 ^ 7 ∧ t.dev.rd (PS_PM_POINT_VID f p) = (s.dev.pt f p).pmPoint.2.1 % 2 ^ 8 ∧ t.dev.rdB (PS_PM_NEG f
    p) = (s.dev.rdB (PS_PM_NEG f p) || slack.msb) ∧ t.dev.fc.raised = s.dev.fc.raised ++ (if slack.msb then
    [s.dev.report .sense 3 f p] else []) ∧ (t.dev.pt f p).slackN = (s.dev.pt f p).slackN + 1 ∧ s.changes t
    { s.dev with pat := t.dev.pat, ev := t.dev.ev, fc := { s.dev.fc with raised := t.dev.fc.raised } } [PS_PM_SLACK f p,
    PS_PM_VALID f p, PS_PM_SKIPPED f p, PS_STATUS_PM_VALID f p, PS_PM_POINT_FIDX f p, PS_PM_POINT_VID f p,
    PS_PM_POINT_TEMP f p, PS_PM_NEG f p]) ∧
  (∀ (s : State) (f : Fin 96) (p : Fin 36) (slack : BitVec 11), s.awake → s.dev.time.count % 1000 = 4 → (s.dev.pt f
    p).pmDirty = true → Completes (.pmSample f p slack) s fun t => t.dev.rdB (PS_PM_SKIPPED f p) = true ∧ s.changes t
    s.dev [PS_PM_SKIPPED f p]) ∧
  (∀ (s : State) (f : Fin 96) (p : Fin 36) (slack : BitVec 11), s.awake → s.dev.time.count % 1000 ≠ 4 → Completes
    (.pmSample f p slack) s fun t => s.changes t s.dev [])

/-- R69, R70, R72, R74, R75, R76, R77, R78, R141, R142: In the first pick of a bolt the meter of a field gives the ratio
of what was measured to what was estimated and the scale factor of the next bolt, held within its limits, and its sums
begin again; with less than 1,000 tokens either way, or a disturbed bolt, it only sets SKIPPED. A partial count of an
eighth update joins its patch's counter and its class's energy of the present pick, and no class other than INTERFACE
ceases to be held; an update that brings the last eighth makes the estimate of the pick before final, once. A read of
PS_ACT_PICK latches the counts of the last complete pick. Exec answers a next state with its own effect, for every state
and operands that meet the conditions of its clause: meterReconcile, eighthUpdate, actLatchRead. -/
def Obligations.CountsAndMeters : Prop :=
  (∀ (s : State) (f : Fin 96), s.awake → s.dev.time.count % 1000 = 0 → s.dev.rdB TB_STATUS_STOPPED = false → meterSkips
    (s.dev.fd f).eSkip (s.dev.fd f).eMeas (s.dev.fd f).eEst = false → s.dev.rd (ST_MTR_LIMITS_S_MIN f) ≤ scaleNew
    (s.dev.rd (ST_MTR_SCALE_S f)) (s.dev.fd f).eMeas (s.dev.fd f).eEst → scaleNew (s.dev.rd (ST_MTR_SCALE_S f))
    (s.dev.fd f).eMeas (s.dev.fd f).eEst ≤ s.dev.rd (ST_MTR_LIMITS_S_MAX f) → Completes (.meterReconcile f) s fun t =>
    (t.dev.fd f).sNext = some (scaleNew (s.dev.rd (ST_MTR_SCALE_S f)) (s.dev.fd f).eMeas (s.dev.fd f).eEst) ∧ t.dev.rd
    (ST_MTR_RATIO_R_LAST f) = ratioOf (s.dev.fd f).eMeas (s.dev.fd f).eEst ∧ (t.dev.fd f).eMeas = 0 ∧ (t.dev.fd f).eEst
    = 0 ∧ (t.dev.fd f).sOut = 0 ∧ t.dev.rdB (ST_MTR_SCALE_SKIPPED f) = false ∧ t.dev.rdB (ST_MTR_SCALE_AT_LIMIT f) =
    false ∧ s.changes t { s.dev with fld := t.dev.fld } [ST_MTR_SCALE_SKIPPED f, ST_MTR_SCALE_AT_LIMIT f,
    ST_MTR_RATIO_R_LAST f]) ∧
  (∀ (s : State) (f : Fin 96), s.awake → s.dev.time.count % 1000 = 0 → s.dev.rdB TB_STATUS_STOPPED = false → meterSkips
    (s.dev.fd f).eSkip (s.dev.fd f).eMeas (s.dev.fd f).eEst = false → s.dev.rd (ST_MTR_LIMITS_S_MAX f) < scaleNew
    (s.dev.rd (ST_MTR_SCALE_S f)) (s.dev.fd f).eMeas (s.dev.fd f).eEst → s.dev.rd (ST_MTR_LIMITS_S_MIN f) ≤ s.dev.rd
    (ST_MTR_LIMITS_S_MAX f) → (s.dev.fd f).sOut = 15 → s.dev.rdB (ST_MTR_SCALE_AT_LIMIT f) = false → Completes
    (.meterReconcile f) s fun t => (t.dev.fd f).sNext = some (s.dev.rd (ST_MTR_LIMITS_S_MAX f)) ∧ (t.dev.fd f).sOut = 16
    ∧ t.dev.rdB (ST_MTR_SCALE_AT_LIMIT f) = true ∧ s.changes t
    { s.dev with fld := t.dev.fld, fc := { s.dev.fc with raised := s.dev.fc.raised ++ [s.dev.report .sense 4 f 0] } }
    [ST_MTR_SCALE_SKIPPED f, ST_MTR_SCALE_AT_LIMIT f, ST_MTR_RATIO_R_LAST f]) ∧
  (∀ (s : State) (f : Fin 96), s.awake → s.dev.time.count % 1000 = 0 → s.dev.rdB TB_STATUS_STOPPED = false → meterSkips
    (s.dev.fd f).eSkip (s.dev.fd f).eMeas (s.dev.fd f).eEst = true → Completes (.meterReconcile f) s fun t => t.dev.rdB
    (ST_MTR_SCALE_SKIPPED f) = true ∧ (t.dev.fd f).eMeas = 0 ∧ (t.dev.fd f).eEst = 0 ∧ (t.dev.fd f).sNext = (s.dev.fd
    f).sNext ∧ s.changes t { s.dev with fld := t.dev.fld } [ST_MTR_SCALE_SKIPPED f]) ∧
  (∀ (s : State) (f : Fin 96) (e : Fin 8) (o : CountObs), s.awake → s.dev.rdB TB_STATUS_STOPPED = false → e.val ≠ 0 →
    e.val ≠ 7 → Completes (.eighthUpdate f e [o] []) s fun t => (t.dev.pt f o.patch).acc.getD o.event 0 = satN 0xFFFFFF
    ((s.dev.pt f o.patch).acc.getD o.event 0 + o.n.toNat) ∧ (t.dev.cl f (classOfEvent (s.dev.rdB (PS_STATUS_REPLAY f
    o.patch)) o.event)).rawCur = (s.dev.cl f (classOfEvent (s.dev.rdB (PS_STATUS_REPLAY f o.patch)) o.event)).rawCur +
    s.dev.energyOf f o.event (s.dev.bandOf f (s.dev.countVid f (domOf o.patch) false)) o.n.toNat ∧ (∀ c : Fin 8,
    s.dev.held f c = true → t.dev.held f c = true) ∧ s.inField t f
    { s.dev with pat := t.dev.pat, cls := t.dev.cls, dom := t.dev.dom, tile := t.dev.tile }) ∧
  (∀ (s : State) (f : Fin 96) (e : Fin 8) (cs : List CountObs) (is : List IfaceObs), s.awake → s.dev.rdB
    TB_STATUS_STOPPED = false → e.val = 7 → (s.dev.fd f).debtIn = true → Completes (.eighthUpdate f e cs is) s fun t =>
    s.changes t s.dev []) ∧
  (∀ (s : State) (f : Fin 96) (e : Fin 8) (cs : List CountObs) (is : List IfaceObs), s.awake → s.dev.rdB
    TB_STATUS_STOPPED = false → e.val = 7 → (s.dev.fd f).debtIn = false → Completes (.eighthUpdate f e cs is) s fun t =>
    (t.dev.fd f).debtIn = true) ∧
  (∀ (s : State) (f : Fin 96) (e : Fin 8) (cs : List CountObs) (is : List IfaceObs), s.awake → s.dev.rdB
    TB_STATUS_STOPPED = true → Completes (.eighthUpdate f e cs is) s fun t => s.changes t
    { s.dev with pat := t.dev.pat } []) ∧
  (∀ (s : State) (f : Fin 96) (e : Fin 8) (o : CountObs) (is : List IfaceObs), s.awake → s.dev.rdB TB_STATUS_STOPPED =
    true → e.val ≠ 7 → Completes (.eighthUpdate f e [o] is) s fun t => (t.dev.pt f o.patch).acc.getD o.event 0 = satN
    0xFFFFFF ((s.dev.pt f o.patch).acc.getD o.event 0 + o.n.toNat) ∧ s.changes t { s.dev with pat := t.dev.pat } []) ∧
  (∀ (s : State) (m : Fin 9) (f : Fin 96) (p : Fin 36), s.awake → m = 8 → Completes (.actLatchRead m f p) s fun t =>
    t.dev.busData = BitVec.ofNat 32 s.dev.time.prevCount ∧ (∀ n : Fin 10, t.dev.rd (PS_ACT_COUNT f p n) = (s.dev.pt f
    p).last.getD n 0 % 2 ^ 24) ∧ s.within t { s.dev with busData := t.dev.busData } (psBase f p + 0x50) (psBase f p +
    0x7C))

/-- R62, R65, R112, R113, R199: A droop that reaches the threshold of a deeper stretch level stretches the clock to it
and counts the first such pick; each release takes one level off. A crossing of the threshold is recorded whatever level
is in force. A floor crossing of an armed detector is stamped, is counted once in a pick, and marks the steps open on
the patch. Exec answers a next state with its own effect, for every state and operands that meet the conditions of its
clause: stretchEntry, stretchRelease, floorCrossing. -/
def Obligations.DroopAndStretch : Prop :=
  (∀ (s : State) (f : Fin 96) (p : Fin 36) (depth : BitVec 6), s.awake → s.dev.stretchOn f p = true → s.dev.rd
    (PS_STATUS_STRETCH f p) < s.dev.stretchCall f p depth.toNat → Completes (.stretchEntry f p depth) s fun t =>
    t.dev.rd (PS_STATUS_STRETCH f p) = s.dev.stretchCall f p depth.toNat ∧ (t.dev.pt f p).stretched = true ∧ t.dev.rd
    (PS_DD_CNT_STRETCH_PICKS f p) = (if (s.dev.pt f p).stretched then s.dev.rd (PS_DD_CNT_STRETCH_PICKS f p) else satN
    0xFFFF (s.dev.rd (PS_DD_CNT_STRETCH_PICKS f p) + 1)) ∧ s.changes t { s.dev with pat := t.dev.pat }
    [PS_STATUS_STRETCH f p, PS_DD_CNT_STRETCH_PICKS f p]) ∧
  (∀ (s : State) (f : Fin 96) (p : Fin 36) (depth : BitVec 6), s.awake → (s.dev.stretchOn f p = false ∨
    s.dev.stretchCall f p depth.toNat ≤ s.dev.rd (PS_STATUS_STRETCH f p)) → s.dev.crosses f p depth.toNat = true →
    Completes (.stretchEntry f p depth) s fun t => (t.dev.pt f p).crossed = true ∧ (t.dev.pt f p).stretched = (s.dev.pt
    f p).stretched ∧ s.changes t { s.dev with pat := t.dev.pat } []) ∧
  (∀ (s : State) (f : Fin 96) (p : Fin 36) (depth : BitVec 6), s.awake → (s.dev.stretchOn f p = false ∨
    s.dev.stretchCall f p depth.toNat ≤ s.dev.rd (PS_STATUS_STRETCH f p)) → s.dev.crosses f p depth.toNat = false →
    Completes (.stretchEntry f p depth) s fun t => s.changes t s.dev []) ∧
  (∀ (s : State) (f : Fin 96) (p : Fin 36), s.awake → Completes (.stretchRelease f p) s fun t => t.dev.rd
    (PS_STATUS_STRETCH f p) = s.dev.rd (PS_STATUS_STRETCH f p) - 1 ∧ s.changes t s.dev [PS_STATUS_STRETCH f p]) ∧
  (∀ (s : State) (f : Fin 96) (p : Fin 36) (depth : BitVec 6) (sub : BitVec 12), s.awake → s.dev.rdB (PS_STATUS_DD_ARMED
    f p) = true → s.dev.droopTest f p = false → s.dev.floorNow f p ≤ depth.toNat → (s.dev.pt f p).floored = false →
    s.dev.markSteps f p ≠ [] → Completes (.floorCrossing f p depth sub) s fun t => t.dev.rd (PS_DD_CNT_FLOOR_PICKS f p)
    = satN 0xFFFF (s.dev.rd (PS_DD_CNT_FLOOR_PICKS f p) + 1) ∧ (t.dev.pt f p).floorAt = some (s.dev.sentStamp f p
    sub.toNat) ∧ t.dev.led.marks.length = s.dev.led.marks.length + 1 ∧ (∃ m ∈ t.dev.led.marks, m.cause = .floor ∧
    m.field = f.val ∧ m.patches = [p.val] ∧ m.steps = distinct (s.dev.markSteps f p)) ∧ s.changes t
    { s.dev with pat := t.dev.pat, led := { s.dev.led with marks := t.dev.led.marks } } [PS_DD_CNT_FLOOR_PICKS f p]) ∧
  (∀ (s : State) (f : Fin 96) (p : Fin 36) (depth : BitVec 6) (sub : BitVec 12), s.awake → (s.dev.rdB
    (PS_STATUS_DD_ARMED f p) = false ∨ s.dev.droopTest f p = true ∨ depth.toNat < s.dev.floorNow f p) → Completes
    (.floorCrossing f p depth sub) s fun t => s.changes t s.dev [])

/-- R83, R88, R91, R92, R97, R103: A sample of an instance that serves, is not frozen and is exempt from comparison
computes the error from set-point and feedback in its input units, is stale for the comparison and ends the exemption;
it changes no more than the instance's own registers and state, and reports. The same of L-SLEW, L-POWER and L-CAP. Exec
answers a next state with its own effect, for every state and operands that meet the conditions of its clause:
lSlewSample, lPowerSample, lCapSample. -/
def Obligations.LoopSamples : Prop :=
  (∀ (s : State) (f : Fin 96) (k : Fin 4), s.awake → s.dev.loopsOn f = true → s.dev.rdB (loopRef f k).frozen = false →
    (s.dev.lins (loopRef f k)).sampledAt ≠ some s.dev.time.nb → (s.dev.lins (loopRef f k)).exempt = true → s.dev.rd
    (loopRef f k).pcnt ≠ 16 → Completes (.lSlewSample f k) s fun t => (t.dev.lins (loopRef f k)).sampledAt = some
    s.dev.time.nb ∧ (t.dev.lins (loopRef f k)).hasLast = true ∧ (t.dev.lins (loopRef f k)).exempt = false ∧ t.dev.rdB
    (loopRef f k).stale = true ∧ t.dev.rdB (loopRef f k).frozen = false ∧ t.dev.rdS (loopRef f k).inWord = sat32
    ((divHalfAway (s.dev.dm f k).iRef 64 - (s.dev.rd (ST_LINK_UP0_IOUT f k) : Int)) * (2 ^ s.dev.rd ((loopRef f
    k).inShift 0) : Nat)) ∧ s.within t
    { s.dev with inst := t.dev.inst, fc := { s.dev.fc with raised := t.dev.fc.raised } } (loopRef f k).inst ((loopRef f
    k).inst + 0x40)) ∧
  (∀ (s : State) (f : Fin 96), s.awake → s.dev.loopsOn f = true → s.dev.periodic 8 = true → s.dev.rdB (loopRef f
    4).frozen = false → (s.dev.lins (loopRef f 4)).sampledAt ≠ some s.dev.time.nb → (s.dev.lins (loopRef f 4)).exempt =
    true → s.dev.rd (loopRef f 4).pcnt ≠ 16 → Completes (.lPowerSample f) s fun t => (t.dev.lins (loopRef f
    4)).sampledAt = some s.dev.time.nb ∧ (t.dev.lins (loopRef f 4)).hasLast = true ∧ (t.dev.lins (loopRef f 4)).exempt =
    false ∧ t.dev.rdB (loopRef f 4).stale = true ∧ t.dev.rdB (loopRef f 4).frozen = false ∧ t.dev.rdS (loopRef f
    4).inWord = sat32 ((((s.dev.rd (loopRef f 4).target * sumN ((s.dev.powerWin f).map (·.2.2)) / 65536 : Nat) : Int) -
    ((sumN ((s.dev.powerWin f).map (·.2.1)) / 256 : Nat) : Int)) * (2 ^ s.dev.rd ((loopRef f 4).inShift 0) : Nat)) ∧
    s.within t { s.dev with inst := t.dev.inst, fc := { s.dev.fc with raised := t.dev.fc.raised } } (loopRef f 4).inst
    ((loopRef f 4).inst + 0x40)) ∧
  (∀ (s : State), s.awake → s.dev.rdB TB_STATUS_STOPPED = false → s.dev.time.resumed = false → s.dev.selStop = false → 0
    < s.dev.time.nb → s.dev.periodic 1000 = true → s.dev.rdB capRef.frozen = false → (s.dev.lins capRef).sampledAt ≠
    some s.dev.time.nb → (s.dev.lins capRef).exempt = true → s.dev.rd capRef.pcnt ≠ 16 → Completes .lCapSample s fun t
    => (t.dev.lins capRef).sampledAt = some s.dev.time.nb ∧ (t.dev.lins capRef).hasLast = true ∧ (t.dev.lins
    capRef).exempt = false ∧ t.dev.rdB capRef.stale = true ∧ t.dev.rdB capRef.frozen = false ∧ t.dev.rdS capRef.inWord =
    sat32 (((s.dev.sp : Int) - divHalfAway (s.dev.capWin : Int) (256 * 1000)) * (2 ^ s.dev.rd (capRef.inShift 0) : Nat))
    ∧ s.within t { s.dev with inst := t.dev.inst, fc := { s.dev.fc with raised := t.dev.fc.raised } } capRef.inst
    (capRef.inst + 0x50))

/-- R91, R94, R97, R103, R104: A sample of L-SLEW that is compared and lies beyond the band of plausibility for the
sixteenth time in a row freezes the instance: the command that takes effect next is the safe value, and a CTRL fault
LOOP_IMPLAUSIBLE carries the deviation. A frozen instance does not sample. Where the period of an instance that serves
begins, and the instance has not sampled there yet, the command it computed last comes into force; the same of L-CAP at
a bolt. Exec answers a next state with its own effect, for every state and operands that meet the conditions of its
clause: lSlewSample, loopCommandEffect. -/
def Obligations.LoopsFreezeAndApply : Prop :=
  (∀ (s : State) (f : Fin 96) (k : Fin 4), s.awake → s.dev.loopsOn f = true → s.dev.rdB (loopRef f k).frozen = false →
    (s.dev.lins (loopRef f k)).sampledAt ≠ some s.dev.time.nb → (s.dev.lins (loopRef f k)).exempt = false → s.dev.rdB
    (ST_LINK_STATUS_STALE f k) = false → s.dev.modelLen (loopRef f k) ≠ 0 → s.dev.plausLimit (loopRef f k) < (((s.dev.rd
    (ST_LINK_UP0_IOUT f k) : Int) - s.dev.rdS (loopRef f k).pred).natAbs : Int) → s.dev.rd (loopRef f k).pcnt = 15 →
    Completes (.lSlewSample f k) s fun t => t.dev.rdB (loopRef f k).frozen = true ∧ t.dev.rd (loopRef f k).pcnt = 16 ∧
    t.dev.rd (loopRef f k).uNext = unsignedOf 16 (s.dev.safeCmd (loopRef f k) (divHalfAway (s.dev.dm f k).iRef 64)
    (s.dev.lastCmd (loopRef f k))) ∧ s.changes t
    { s.dev with inst := t.dev.inst, fc := { s.dev.fc with raised := s.dev.fc.raised ++ [{ s.dev.report .ctrl 2 f k with value := ((s.dev.rd (ST_LINK_UP0_IOUT f k) : Int) - s.dev.rdS (loopRef f k).pred).natAbs % 2 ^ 32 }] } }
    [(loopRef f k).frozen, (loopRef f k).pcnt, (loopRef f k).uNext, (loopRef f k).bank, (loopRef f k).stale]) ∧
  (∀ (s : State) (f : Fin 96) (k : Fin 4), s.awake → s.dev.rdB (loopRef f k).frozen = true → Completes (.lSlewSample f
    k) s fun t => s.changes t s.dev []) ∧
  (∀ (s : State) (f : Fin 97) (i : Fin 41), s.awake → f.val ≠ 96 → s.dev.inService f = true → s.dev.rdB
    TB_STATUS_STOPPED = false → s.dev.selStop = false → s.dev.beginsPeriod f i = true → (s.dev.lins (loopRef f
    i)).sampledAt ≠ some s.dev.time.nb → Completes (.loopCommandEffect f i) s fun t => t.dev.rd (loopRef f i).u =
    s.dev.rd (loopRef f i).uNext ∧ s.changes t s.dev [(loopRef f i).u]) ∧
  (∀ (s : State) (f : Fin 97) (i : Fin 41), s.awake → f.val = 96 → s.dev.rdB TB_STATUS_STOPPED = false → s.dev.periodic
    1000 = true → (s.dev.lins capRef).sampledAt ≠ some s.dev.time.nb → Completes (.loopCommandEffect f i) s fun t =>
    t.dev.rd capRef.u = s.dev.rd capRef.uNext ∧ s.changes t s.dev [capRef.u])

/-- R105, R107: A re-arm of a frozen instance waits for the instance's period boundary; one of an instance that is not
frozen, or that does not exist, sets STATE_CONFLICT. At the boundary the instance leaves the freeze with its comparison
count at 0 and its next sample exempt, its states zero but for the first one of the last section of its law, which is
the command in force times 2^OUT_SHIFT. Exec answers a next state with its own effect, for every state and operands that
meet the conditions of its clause: ceRearm, buCeRearm, rearmApply. -/
def Obligations.Rearming : Prop :=
  (∀ (s : State) (f : Fin 96) (i : BitVec 6), s.awake → i.toNat ≤ 40 → s.dev.rdB (loopRef f i.toNat).frozen = true →
    Completes (.ceRearm f i) s fun t => t.dev.rdB (loopRef f i.toNat).rearmPend = true ∧ s.changes t s.dev [(loopRef f
    i.toNat).rearmPend]) ∧
  (∀ (s : State) (f : Fin 96) (i : BitVec 6), s.awake → (40 < i.toNat ∨ s.dev.rdB (loopRef f i.toNat).frozen = false) →
    Completes (.ceRearm f i) s fun t => t.dev.rdB (CE_STATUS_STATE_CONFLICT f) = true ∧ s.changes t s.dev
    [CE_STATUS_STATE_CONFLICT f]) ∧
  (∀ (s : State), s.awake → s.dev.rdB capRef.frozen = true → Completes .buCeRearm s fun t => t.dev.rdB capRef.rearmPend
    = true ∧ s.changes t s.dev [capRef.rearmPend]) ∧
  (∀ (s : State), s.awake → s.dev.rdB capRef.frozen = false → Completes .buCeRearm s fun t => t.dev.rdB
    BU_CE_REARM_STATE_CONFLICT = true ∧ s.changes t s.dev [BU_CE_REARM_STATE_CONFLICT]) ∧
  (∀ (s : State) (f : Fin 97) (i : Fin 41) (n : Nat), s.awake → f.val ≠ 96 → s.dev.loopsOn f = true → s.dev.beginsPeriod
    f i = true → s.dev.rdB (loopRef f i).frozen = true → s.dev.rdB (loopRef f i).rearmPend = true → s.dev.lawLen
    (loopRef f i) = n → n ≤ 4 → Completes (.rearmApply f i) s fun t => t.dev.rdB (loopRef f i).frozen = false ∧
    t.dev.rdB (loopRef f i).rearmPend = false ∧ t.dev.rd (loopRef f i).pcnt = 0 ∧ (t.dev.lins (loopRef f i)).exempt =
    true ∧ (t.dev.lins (loopRef f i)).uPrev = s.dev.cmd (loopRef f i) ∧ (∀ j : Fin 4, t.dev.rd ((loopRef f i).s1 j) =
    (if j.val + 1 = n then unsignedOf 32 (s.dev.cmd (loopRef f i) * (2 ^ s.dev.rd (loopRef f i).outShift : Nat)) else
    0)) ∧ (∀ j : Fin 4, t.dev.rd ((loopRef f i).s2 j) = 0) ∧ (∀ j : Fin 2, t.dev.rd ((loopRef f i).ms1 j) = 0 ∧ t.dev.rd
    ((loopRef f i).ms2 j) = 0) ∧ s.within t { s.dev with inst := t.dev.inst } (loopRef f i).inst ((loopRef f i).inst +
    0x40)) ∧
  (∀ (s : State) (f : Fin 97) (i : Fin 41) (n : Nat), s.awake → f.val = 96 → s.dev.lawLen capRef = n → n ≤ 4 → s.dev.rdB
    TB_STATUS_STOPPED = false → s.dev.selStop = false → s.dev.periodic 1000 = true → s.dev.rdB capRef.frozen = true →
    s.dev.rdB capRef.rearmPend = true → Completes (.rearmApply f i) s fun t => t.dev.rdB capRef.frozen = false ∧
    t.dev.rdB capRef.rearmPend = false ∧ t.dev.rd capRef.pcnt = 0 ∧ (t.dev.lins capRef).exempt = true ∧ (t.dev.lins
    capRef).uPrev = s.dev.cmd capRef ∧ (∀ j : Fin 4, t.dev.rd (capRef.s1 j) = (if j.val + 1 = n then unsignedOf 32
    (s.dev.cmd capRef * (2 ^ s.dev.rd capRef.outShift : Nat)) else 0) ∧ t.dev.rd (capRef.s2 j) = 0) ∧ (∀ j : Fin 2,
    t.dev.rd (capRef.ms1 j) = 0 ∧ t.dev.rd (capRef.ms2 j) = 0) ∧ s.within t { s.dev with inst := t.dev.inst }
    capRef.inst (capRef.inst + 0x40))

/-- R64, R66, R111, R119, R121, R123, R138, R399, R400: When the upward slew of a domain whose link is UP is known
complete, its reference moves to its target and every running patch that has waited since an earlier boundary takes the
index it waits for; the others keep theirs. Where no slew is in progress the standing target covers such a raise. A
stopped patch that may start, and whose rail covers index 0, starts at index 0 with its detectors armed as its domain's
mode allows. A margin offset may be raised, and lowered only before CONFIG_LOCK: a lowering after it is refused with
STATE_CONFLICT. What is written applies at a bolt boundary. MODE_REQ stores what it is asked for, but for the code 1,
which is refused. Retiring a patch sets its state, or leaves it running until the boundary, sets its RETIRE bit and its
bit of the retired map, advances RSEQ and raises a SELFTEST fault PATCH_RETIRED; while the field's retired patches stay
within FIELD_RETIRE_MAX, the field goes on. Retiring a patch again changes nothing. Exec answers a next state with its
own effect, for every state and operands that meet the conditions of its clause: raiseComplete, patchClockStart,
mofsWrite, mofsRaiseApply, modeReq, retire. -/
def Obligations.RaisesMarginsAndRetirement : Prop :=
  (∀ (s : State) (f : Fin 96) (k : Fin 4) (x : Slew), s.awake → s.dev.rdB TB_STATUS_STOPPED = false → (s.dev.dm f
    k).slew = some x → x.down = false → s.dev.link f k = linkUp → slewKnown s.dev f x = true → Completes (.raiseComplete
    f k) s fun t => (t.dev.dm f k).slew = none ∧ t.dev.rd (ST_LINK_DOWN_VREF f k) = s.dev.vidOf f k ∧ (∀ p : Fin 36,
    t.dev.fidx f p = (if domOf p = k.val ∧ s.dev.runs f p = true ∧ s.dev.rdB (ST_OP_PATCH_WAIT f p) = true ∧ (s.dev.pt f
    p).waitAt < s.dev.time.nb then s.dev.rd (ST_OP_PATCH_FREQ f p) else s.dev.fidx f p)) ∧ s.inField t f
    { s.dev with dom := t.dev.dom, pat := t.dev.pat }) ∧
  (∀ (s : State) (f : Fin 96) (k : Fin 4), s.awake → s.dev.rdB TB_STATUS_STOPPED = false → (s.dev.dm f k).slew = none →
    s.dev.link f k = linkUp → Completes (.raiseComplete f k) s fun t => t.dev.rd (ST_LINK_DOWN_VREF f k) = s.dev.rd
    (ST_LINK_DOWN_VREF f k) ∧ (∀ p : Fin 36, t.dev.fidx f p = (if domOf p = k.val ∧ s.dev.runs f p = true ∧ s.dev.rdB
    (ST_OP_PATCH_WAIT f p) = true ∧ (s.dev.pt f p).waitAt < s.dev.time.nb then s.dev.rd (ST_OP_PATCH_FREQ f p) else
    s.dev.fidx f p)) ∧ s.inField t f { s.dev with pat := t.dev.pat }) ∧
  (∀ (s : State) (f : Fin 96) (k : Fin 4), s.awake → s.dev.rdB TB_STATUS_STOPPED = true → Completes (.raiseComplete f k)
    s fun t => s.changes t s.dev []) ∧
  (∀ (s : State) (f : Fin 96) (p : Fin 36), s.awake → (s.dev.pt f p).asked s.dev.time.nb = true → s.dev.mayStart f p =
    true → s.dev.rdB TB_STATUS_STOPPED = false → (s.dev.dm f (domOf p)).railAt = none → s.dev.targetMet f (domOf p) =
    true → s.dev.vmin f p 0 + s.dev.guard f p ≤ s.dev.rd (ST_LINK_DOWN_VREF f (domOf p)) → Completes (.patchClockStart f
    p) s fun t => t.dev.pstate f p = psRunning ∧ t.dev.fidx f p = 0 ∧ t.dev.rdB (PS_STATUS_CLK_ON f p) = true ∧
    (t.dev.pt f p).starting = none ∧ t.dev.rdB (PS_STATUS_DD_ARMED f p) = decide (s.dev.rd (ST_LINK_DOWN_MODE f (domOf
    p)) ≠ modeRetention ∧ s.dev.rd (ST_LINK_DOWN_MODE f (domOf p)) ≠ modeOff) ∧ s.changes t
    { s.dev with pat := t.dev.pat } [ST_OP_PATCH_STATE f p, ST_OP_PATCH_FIDX f p, PS_STATUS_CLK_ON f p,
    PS_STATUS_DD_ARMED f p, ⟨psBase f p + 0x24, 0, 30⟩]) ∧
  (∀ (s : State) (f : Fin 96) (p : Fin 36) (v : BitVec 6), s.awake → (s.dev.locked = false ∨ s.dev.rd (ST_OP_PATCH_MOFS
    f p) ≤ v.toNat) → Completes (.mofsWrite f p v) s fun t => t.dev.rd (ST_OP_PATCH_MOFS f p) = v.toNat ∧ s.changes t
    s.dev [ST_OP_PATCH_MOFS f p]) ∧
  (∀ (s : State) (f : Fin 96) (p : Fin 36) (v : BitVec 6), s.awake → s.dev.locked = true → v.toNat < s.dev.rd
    (ST_OP_PATCH_MOFS f p) → Completes (.mofsWrite f p v) s fun t => t.dev.rdB (ST_OP_STATUS_STATE_CONFLICT f) = true ∧
    s.changes t s.dev [ST_OP_STATUS_STATE_CONFLICT f]) ∧
  (∀ (s : State) (f : Fin 96) (p : Fin 36), s.awake → (s.dev.time.count % 1000 = 0 ∨ s.dev.time.resumed = true) →
    Completes (.mofsRaiseApply f p) s fun t => (t.dev.pt f p).mofs = s.dev.rd (ST_OP_PATCH_MOFS f p) ∧ s.changes t
    { s.dev with pat := t.dev.pat } []) ∧
  (∀ (s : State) (f : Fin 96) (p : Fin 36), s.awake → s.dev.time.count % 1000 ≠ 0 → s.dev.time.resumed = false →
    Completes (.mofsRaiseApply f p) s fun t => s.changes t s.dev []) ∧
  (∀ (s : State) (f : Fin 96) (k : Fin 4) (m : BitVec 2), s.awake → m ≠ 1 → Completes (.modeReq f k m) s fun t =>
    t.dev.rd (ST_LINK_CMD_MODE_REQ f k) = m.toNat ∧ s.changes t s.dev [ST_LINK_CMD_MODE_REQ f k]) ∧
  (∀ (s : State) (f : Fin 96) (k : Fin 4) (m : BitVec 2), s.awake → m = 1 → Completes (.modeReq f k m) s fun t =>
    t.dev.rdB (ST_OP_STATUS_STATE_CONFLICT f) = true ∧ s.changes t s.dev [ST_OP_STATUS_STATE_CONFLICT f]) ∧
  (∀ (s : State) (f : Fin 96) (p : Fin 36), s.awake → s.dev.retired f p = false → (s.dev.inService f = false ∨
    (s.dev.retiredOf f).length < s.dev.rd BT_CFG1_FIELD_RETIRE_MAX) → Completes (.retire f p) s fun t => t.dev.pstate f
    p = (if s.dev.runs f p = true then s.dev.pstate f p else psRetired) ∧ t.dev.rdB (ST_OP_PATCH_RETIRE f p) = true ∧
    t.dev.rdB (JZ_RET f p) = true ∧ t.dev.rd JZ_AGE_STATUS_RSEQ = (s.dev.rd JZ_AGE_STATUS_RSEQ + 1) % 65536 ∧ (t.dev.fd
    f).stop = (s.dev.fd f).stop ∧ s.changes t
    { s.dev with pat := t.dev.pat, nv := t.dev.nv, ev := t.dev.ev, led := { s.dev.led with marks := t.dev.led.marks }, fc := { s.dev.fc with raised := s.dev.fc.raised ++ [s.dev.report .selftest 6 f p] } }
    [ST_OP_PATCH_STATE f p, ST_OP_PATCH_RETIRE f p, ST_OP_PATCH_WAIT f p, PS_STATUS_CLK_ON f p, PS_STATUS_DD_ARMED f p,
    PS_STATUS_STRETCH f p, JZ_RET f p, JZ_AGE_STATUS_RSEQ, JZ_AGE_STATUS_RETIRED]) ∧
  (∀ (s : State) (f : Fin 96) (p : Fin 36), s.awake → s.dev.retired f p = true → Completes (.retire f p) s fun t =>
    s.changes t s.dev [])

/-- R71, R128, R130, R131, R135: The first up frame of a pick that is sound, comes from its own domain and does not lag
gives the step link's telemetry: voltage, current, temperature, status and echoes, and ends the run of bad frames; a
frame that fails a check, or none by the end of its window, is counted, lengthens that run to at most 64, and leaves the
telemetry stale. Exec answers a next state with its own effect, for every state and operands that meet the conditions of
its clause: upFrame, upFrameMissing. -/
def Obligations.UpFrames : Prop :=
  (∀ (s : State) (f : Fin 96) (k : Fin 4) (w : BitVec 64) (crc : BitVec 16) (clean : Bool), s.awake → (s.dev.dm f
    k).upSeen = false → upSound w crc clean = true → upDom w = dkey f k → upLags s.dev f k w = false → Completes
    (.upFrame f k w crc clean) s fun t => t.dev.rd (ST_LINK_UP0_VOUT f k) = upVout w ∧ t.dev.rd (ST_LINK_UP0_IOUT f k) =
    upIout w ∧ t.dev.rd (ST_LINK_UP1_TEMP f k) = upTemp w ∧ t.dev.rd (ST_LINK_UP1_STATUS f k) = upStatus w ∧ t.dev.rd
    (ST_LINK_UP1_SEQ_ECHO f k) = upSeq w ∧ t.dev.rd (ST_LINK_UP1_MODE_ECHO f k) = upMode w ∧ t.dev.rd
    (ST_LINK_STATUS_BAD f k) = 0 ∧ t.dev.rdB (ST_LINK_STATUS_STALE f k) = false ∧ (t.dev.dm f k).good = (s.dev.dm f
    k).good + 1 ∧ (t.dev.dm f k).upSeen = true ∧ s.changes t
    { s.dev with dom := t.dev.dom, fld := t.dev.fld, led := { s.dev.led with marks := t.dev.led.marks }, fc := { s.dev.fc with raised := t.dev.fc.raised } }
    [⟨stBase f + 0x808 + k * 0x40, 0, 32⟩, ⟨stBase f + 0x80C + k * 0x40, 0, 32⟩, ST_LINK_STATUS_BAD f k,
    ST_LINK_STATUS_STALE f k, ST_LINK_STATUS_REG_HOLDING f k, ST_LINK_STATUS_REG_SAFE f k]) ∧
  (∀ (s : State) (f : Fin 96) (k : Fin 4) (w : BitVec 64) (crc : BitVec 16) (clean : Bool), s.awake → (s.dev.dm f
    k).upSeen = false → upSound w crc clean = false → Completes (.upFrame f k w crc clean) s fun t => t.dev.rd
    (ST_LINK_ERR_BAD_UP f k) = satN 0xFFFF (s.dev.rd (ST_LINK_ERR_BAD_UP f k) + 1) ∧ t.dev.rd (ST_LINK_STATUS_BAD f k) =
    satN 64 (s.dev.rd (ST_LINK_STATUS_BAD f k) + 1) ∧ t.dev.rdB (ST_LINK_STATUS_STALE f k) = true ∧ (t.dev.dm f k).good
    = 0 ∧ (t.dev.dm f k).upSeen = true ∧ s.changes t { s.dev with dom := t.dev.dom, fld := t.dev.fld }
    [ST_LINK_ERR_BAD_UP f k, ST_LINK_STATUS_BAD f k, ST_LINK_STATUS_STALE f k]) ∧
  (∀ (s : State) (f : Fin 96) (k : Fin 4) (w : BitVec 64) (crc : BitVec 16) (clean : Bool), s.awake → (s.dev.dm f
    k).upSeen = true → Completes (.upFrame f k w crc clean) s fun t => s.changes t s.dev []) ∧
  (∀ (s : State) (f : Fin 96) (k : Fin 4), s.awake → (s.dev.dm f k).upSeen = false → Completes (.upFrameMissing f k) s
    fun t => t.dev.rd (ST_LINK_ERR_BAD_UP f k) = satN 0xFFFF (s.dev.rd (ST_LINK_ERR_BAD_UP f k) + 1) ∧ t.dev.rd
    (ST_LINK_STATUS_BAD f k) = satN 64 (s.dev.rd (ST_LINK_STATUS_BAD f k) + 1) ∧ t.dev.rdB (ST_LINK_STATUS_STALE f k) =
    true ∧ (t.dev.dm f k).good = 0 ∧ (t.dev.dm f k).upSeen = true ∧ s.changes t
    { s.dev with dom := t.dev.dom, fld := t.dev.fld } [ST_LINK_ERR_BAD_UP f k, ST_LINK_STATUS_BAD f k,
    ST_LINK_STATUS_STALE f k])

/-- R121, R135, R136: Sixteen good frames in a row bring a link UP from INIT, and from DEGRADED once its regulator no
longer holds; eight bad ones degrade it; sixty-four lose it, with the domain's heddle closed and its waiting raises
dropped. A lost link is recovered by a command, the acknowledgement of the safe state, and the first frame that shows
the regulator in RUN at its target. Exec answers a next state with its own effect, for every state and operands that
meet the conditions of its clause: linkUp, linkDegraded, linkLost, reenable, linkAckSafe, linkRecovered. -/
def Obligations.LinkStates : Prop :=
  (∀ (s : State) (f : Fin 96) (k : Fin 4), s.awake → 16 ≤ (s.dev.dm f k).good → (s.dev.link f k = linkInit ∨ (s.dev.link
    f k = linkDegraded ∧ s.dev.rdB (ST_LINK_STATUS_REG_HOLDING f k) = false)) → Completes (.linkUp f k) s fun t =>
    t.dev.link f k = linkUp ∧ (t.dev.dm f k).good = 0 ∧ (t.dev.dm f k).shut = false ∧ s.changes t
    { s.dev with dom := t.dev.dom } [ST_LINK_STATUS_STATE f k]) ∧
  (∀ (s : State) (f : Fin 96) (k : Fin 4), s.awake → (s.dev.dm f k).good < 16 → Completes (.linkUp f k) s fun t =>
    s.changes t s.dev []) ∧
  (∀ (s : State) (f : Fin 96) (k : Fin 4), s.awake → s.dev.link f k = linkUp → (8 ≤ s.dev.rd (ST_LINK_STATUS_BAD f k) ∨
    s.dev.rdB (ST_LINK_STATUS_REG_HOLDING f k) = true) → Completes (.linkDegraded f k) s fun t => t.dev.link f k =
    linkDegraded ∧ (t.dev.dm f k).good = 0 ∧ (∀ p : Fin 36, domOf p = k.val → t.dev.rdB (ST_OP_PATCH_WAIT f p) = false)
    ∧ (s.changes t
    { s.dev with dom := t.dev.dom, fc := { s.dev.fc with raised := s.dev.fc.raised ++ [s.dev.report .elec 1 f k] } }
    (ST_LINK_STATUS_STATE f k :: (patchesOf k).map fun p => ST_OP_PATCH_WAIT f p))) ∧
  (∀ (s : State) (f : Fin 96) (k : Fin 4), s.awake → (s.dev.link f k = linkUp ∨ s.dev.link f k = linkDegraded ∨
    s.dev.link f k = linkRecovering) → 64 ≤ s.dev.rd (ST_LINK_STATUS_BAD f k) → (s.dev.dm f k).noBoundary = false →
    Completes (.linkLost f k) s fun t => t.dev.link f k = linkLost ∧ t.dev.heddleShut f k = true ∧ (t.dev.dm f
    k).ackSafe = false ∧ (t.dev.dm f k).slew = none ∧ (∀ p : Fin 36, domOf p = k.val → t.dev.rdB (ST_OP_PATCH_WAIT f p)
    = false) ∧ (s.changes t
    { s.dev with dom := t.dev.dom, tile := t.dev.tile, fc := { s.dev.fc with raised := s.dev.fc.raised ++ [s.dev.report .elec 2 f k] } }
    (ST_LINK_STATUS_STATE f k :: (patchesOf k).map fun p => ST_OP_PATCH_WAIT f p))) ∧
  (∀ (s : State) (f : Fin 96) (k : Fin 4), s.awake → s.dev.link f k = linkLost → Completes (.reenable f k) s fun t =>
    t.dev.link f k = linkRecovering ∧ t.dev.rd (ST_LINK_STATUS_BAD f k) = 0 ∧ (t.dev.dm f k).good = 0 ∧ (t.dev.dm f
    k).ackSafe = false ∧ s.changes t { s.dev with dom := t.dev.dom } [ST_LINK_STATUS_STATE f k, ST_LINK_STATUS_BAD f k]) ∧
  (∀ (s : State) (f : Fin 96) (k : Fin 4), s.awake → s.dev.link f k ≠ linkLost → Completes (.reenable f k) s fun t =>
    t.dev.rdB (ST_OP_STATUS_STATE_CONFLICT f) = true ∧ s.changes t s.dev [ST_OP_STATUS_STATE_CONFLICT f]) ∧
  (∀ (s : State) (f : Fin 96) (k : Fin 4), s.awake → s.dev.link f k = linkRecovering → 16 ≤ (s.dev.dm f k).good →
    Completes (.linkAckSafe f k) s fun t => (t.dev.dm f k).ackSafe = true ∧ (t.dev.dm f k).good = (s.dev.dm f k).good ∧
    s.changes t { s.dev with dom := t.dev.dom } []) ∧
  (∀ (s : State) (f : Fin 96) (k : Fin 4), s.awake → s.dev.link f k = linkRecovering → s.dev.rd (ST_LINK_STATUS_BAD f k)
    = 0 → 0 < (s.dev.dm f k).good → s.dev.rdB (ST_LINK_STATUS_REG_SAFE f k) = false → s.dev.rd (ST_LINK_UP1_MODE_ECHO f
    k) = modeRun → voutNear s.dev f k = true → Completes (.linkRecovered f k) s fun t => t.dev.link f k = linkUp ∧
    t.dev.rd (ST_LINK_DOWN_VREF f k) = s.dev.vidOf f k ∧ (t.dev.dm f k).ackSafe = false ∧ (t.dev.dm f k).shut = false ∧
    (t.dev.dm f k).slew = none ∧ s.changes t { s.dev with dom := t.dev.dom } [ST_LINK_STATUS_STATE f k,
    ST_LINK_DOWN_VREF f k])

/-- R124, R153, R307, R308, R438: Entering hold-safe asserts it at the steward of every field that is brought up: where
it was not asserted yet, every patch that is not retired is held at index 0 and the heddles close. Its release at a bolt
boundary lifts it from the fields that serve, whose held patches become stopped; the others keep it. A domain whose
current has been too high falls due for a reduction at the next boundary, with an ELEC fault DOM_CEILING that carries
the current the first time; the reduction is lifted once the domain has been quiet as long as it was over. Exec answers
a next state with its own effect, for every state and operands that meet the conditions of its clause: holdSafeEnter,
holdSafeRelease, domCeiling, domCeilingLift. -/
def Obligations.HoldSafeAndCeilings : Prop :=
  (∀ (s : State), s.awake → Completes .holdSafeEnter s fun t => (∀ f : Fin 96, t.dev.rdB (ST_OP_STATUS_HOLD_SAFE f) =
    (s.dev.rdB (ST_OP_STATUS_HOLD_SAFE f) || (s.dev.fd f).up)) ∧ (∀ (f : Fin 96) (p : Fin 36), (s.dev.fd f).up = true →
    s.dev.rdB (ST_OP_STATUS_HOLD_SAFE f) = false → t.dev.fidx f p = 0 ∧ (t.dev.pstate f p = psHeld ∨ s.dev.pstate f p =
    psRetired)) ∧ (∀ f : Fin 96, (s.dev.fd f).up = true → s.dev.rdB (ST_OP_STATUS_HOLD_SAFE f) = false → (t.dev.fd
    f).shut = true) ∧ s.within t
    { s.dev with fld := t.dev.fld, pat := t.dev.pat, tile := t.dev.tile, led := { s.dev.led with marks := t.dev.led.marks }, clk := { s.dev.clk with held := true } }
    0x30000000 0x36000000) ∧
  (∀ (s : State), s.awake → s.dev.clk.held = true → s.dev.rdB CK_STATUS_ROSC_RUN = true → s.dev.mode ≠ NO_SOURCE →
    s.dev.time.count % 1000 = 0 → s.dev.rdB TB_STATUS_STOPPED = false → Completes .holdSafeRelease s fun t =>
    t.dev.clk.held = false ∧ (∀ f : Fin 96, t.dev.rdB (ST_OP_STATUS_HOLD_SAFE f) = (s.dev.rdB (ST_OP_STATUS_HOLD_SAFE f)
    && !s.dev.inService f)) ∧ (∀ (f : Fin 96) (p : Fin 36), t.dev.pstate f p = (if s.dev.inService f = true ∧
    s.dev.pstate f p = psHeld then psStopped else s.dev.pstate f p)) ∧ s.within t
    { s.dev with fld := t.dev.fld, inst := t.dev.inst, clk := { s.dev.clk with held := false } } 0x30000000 0x36000000) ∧
  (∀ (s : State) (f : Fin 96) (k : Fin 4), s.awake → s.dev.rdB TB_STATUS_STOPPED = false → domTrigger s.dev f k = true →
    (s.dev.dm f k).domCut = false → Completes (.domCeiling f k) s fun t => (t.dev.dm f k).domDue = true ∧ (t.dev.dm f
    k).domCut = true ∧ (t.dev.dm f k).overAll = (s.dev.dm f k).overRun ∧ s.changes t
    { s.dev with dom := t.dev.dom, fc := { s.dev.fc with raised := s.dev.fc.raised ++ [{ s.dev.report .elec 7 f k with value := s.dev.rd (ST_LINK_UP0_IOUT f k) }] } }
    []) ∧
  (∀ (s : State) (f : Fin 96) (k : Fin 4), s.awake → (s.dev.rdB TB_STATUS_STOPPED = true ∨ domTrigger s.dev f k = false)
    → Completes (.domCeiling f k) s fun t => s.changes t s.dev []) ∧
  (∀ (s : State) (f : Fin 96) (k : Fin 4), s.awake → (s.dev.dm f k).domCut = true → (s.dev.dm f k).overAll ≤ (s.dev.dm f
    k).quiet → Completes (.domCeilingLift f k) s fun t => (t.dev.dm f k).domCut = false ∧ (t.dev.dm f k).domDue = false
    ∧ (∀ p : Fin 36, domOf p = k.val → (t.dev.pt f p).domCeil = none) ∧ s.changes t
    { s.dev with dom := t.dev.dom, pat := t.dev.pat } [])

/-- R156, R158, R160, R171, R190, R249: A hint written to a steward that serves joins its queue with its receipt pick
and patch; in a full queue it is dropped and counted as FULL; at a steward in drain state it is dropped and counted as
DRAIN. At its effect pick a LIGHT_AHEAD arms the job's tiles of its domains lightly and ends the job's pre-positions
there, a COLLECTIVE_BEGIN of a pair without a window opens one, and a WATCH adds to the steps to be watched, at least
one. Pre-positions end at their pick. None of it happens in a global stop. Exec answers a next state with its own
effect, for every state and operands that meet the conditions of its clause: hintWrite, hintEffect, preposExpire. -/
def Obligations.HintsQueueAndAct : Prop :=
  (∀ (s : State) (f : Fin 96) (p : Fin 36) (w : BitVec 64), s.awake → s.dev.draining f = false → (s.dev.fd
    f).hints.length < 64 → Completes (.hintWrite f p w) s fun t => (t.dev.fd f).hints = (s.dev.fd f).hints ++ [⟨w.toNat,
    s.dev.time.count, p⟩] ∧ (∀ g : Fin 96, g ≠ f → t.dev.fd g = s.dev.fd g) ∧ s.changes t
    { s.dev with fld := t.dev.fld } []) ∧
  (∀ (s : State) (f : Fin 96) (p : Fin 36) (w : BitVec 64), s.awake → s.dev.draining f = false → 64 ≤ (s.dev.fd
    f).hints.length → Completes (.hintWrite f p w) s fun t => t.dev.rd (ST_HINT_DROP1_FULL f) = satN 0xFFFF (s.dev.rd
    (ST_HINT_DROP1_FULL f) + 1) ∧ s.changes t s.dev [ST_HINT_DROP1_FULL f]) ∧
  (∀ (s : State) (f : Fin 96) (p : Fin 36) (w : BitVec 64), s.awake → s.dev.draining f = true → Completes (.hintWrite f
    p w) s fun t => t.dev.rd (ST_HINT_DROP2_DRAIN f) = satN 0xFFFF (s.dev.rd (ST_HINT_DROP2_DRAIN f) + 1) ∧ s.changes t
    s.dev [ST_HINT_DROP2_DRAIN f]) ∧
  (∀ (s : State) (f : Fin 96) (h : HintE) (a : Nat), s.awake → (s.dev.fd f).due = [⟨a, h⟩] → a ≤ s.dev.time.count →
    s.dev.rdB TB_STATUS_STOPPED = false → (s.dev.hintJobHere f h.word).isSome = true → hintOp h.word = 2 → Completes
    (.hintEffect f) s fun t => (t.dev.fd f).due = [] ∧ (∀ (p : Fin 36) (n : Fin 256), domOf p ∈ hintDoms h → (s.dev.ti f
    p n).job = some (hintJob h.word) → (t.dev.ti f p n).arm = some ⟨hintJob h.word, true, hintLevel h.word, 0⟩) ∧
    ((t.dev.fd f).prepos = (s.dev.fd f).prepos.filter fun y => !(y.job = hintJob h.word && y.dom ∈ hintDoms h)) ∧
    s.changes t { s.dev with fld := t.dev.fld, tile := t.dev.tile } []) ∧
  (∀ (s : State) (f : Fin 96) (h : HintE) (a i : Nat), s.awake → (s.dev.fd f).due = [⟨a, h⟩] → a ≤ s.dev.time.count →
    s.dev.rdB TB_STATUS_STOPPED = false → (s.dev.hintJobHere f h.word).isSome = true → hintOp h.word = 4 → s.dev.winOf
    (hintJob h.word) (hintArg h.word) = none → freeKey 32 s.dev.bud.wins = some i → Completes (.hintEffect f) s fun t =>
    (t.dev.fd f).due = [] ∧ (∃ w : Win, t.dev.win i = some w ∧ w.job = hintJob h.word ∧ w.group = hintArg h.word ∧
    w.open_ = true ∧ w.began = [f.val] ∧ w.ended = [] ∧ w.matching = false) ∧ s.changes t
    { s.dev with fld := t.dev.fld, bud := { s.dev.bud with wins := t.dev.bud.wins } } []) ∧
  (∀ (s : State) (f : Fin 96) (h : HintE) (a : Nat), s.awake → (s.dev.fd f).due = [⟨a, h⟩] → a ≤ s.dev.time.count →
    s.dev.rdB TB_STATUS_STOPPED = false → (s.dev.hintJobHere f h.word).isSome = true → hintOp h.word = 7 → Completes
    (.hintEffect f) s fun t => (t.dev.fd f).due = [] ∧ tget 0 t.dev.rp.watch (f * 4096 + hintJob h.word) = satN 65535
    (tget 0 s.dev.rp.watch (f * 4096 + hintJob h.word) + max 1 (hintArg h.word)) ∧ s.changes t
    { s.dev with fld := t.dev.fld, rp := { s.dev.rp with watch := t.dev.rp.watch } } []) ∧
  (∀ (s : State) (f : Fin 96), s.awake → s.dev.rdB TB_STATUS_STOPPED = false → Completes (.preposExpire f) s fun t =>
    ((t.dev.fd f).prepos = (s.dev.fd f).prepos.filter fun y => s.dev.time.count < y.until_) ∧ s.changes t
    { s.dev with fld := t.dev.fld } []) ∧
  (∀ (s : State) (f : Fin 96), s.awake → s.dev.rdB TB_STATUS_STOPPED = true → Completes (.hintEffect f) s fun t =>
    s.changes t s.dev [])

/-- R156, R158, R159, R160, R171, R175: The reader drops a hint that is not legal and counts it. Of a legal HEAVY_AHEAD
of a tile-rail class it pre-positions the masked domains from the next pick until HINT_HOLD picks after the effect pick;
a legal BARRIER_AHEAD arms the job's tiles at once; LIGHT_AHEAD, the collective hints, FORMAT_AHEAD and WATCH wait for
their effect pick. Exec answers a next state with its own effect, for every state and operands that meet the conditions
of its clause: hintDrop, heavyAhead, barrierAhead, lightAhead, collectiveBegin, collectiveEnd, formatAhead, watch. -/
def Obligations.HintsAreRead : Prop :=
  (∀ (s : State) (f : Fin 96) (h : HintE) (c : Fld), s.awake → s.dev.nextHint f = some h → s.dev.hintDrops f h.word =
    some c → Completes (.hintDrop f) s fun t => t.dev.rd c = satN (2 ^ c.w - 1) (s.dev.rd c + 1) ∧ (t.dev.fd f).hints =
    (s.dev.fd f).hints.tail ∧ (t.dev.fd f).read = (s.dev.fd f).read + 1 ∧ s.changes t { s.dev with fld := t.dev.fld }
    [c]) ∧
  (∀ (s : State) (f : Fin 96) (h : HintE), s.awake → s.dev.nextHint f = some h → s.dev.hintDrops f h.word = none →
    Completes (.hintDrop f) s fun t => s.changes t s.dev []) ∧
  (∀ (s : State) (f : Fin 96) (h : HintE), s.awake → s.dev.nextHint f = some h → hintOp h.word = 1 → s.dev.hintDrops f
    h.word = none → isTileRail (hintClass h.word) = true → Completes (.heavyAhead f) s fun t => (t.dev.fd f).hints =
    (s.dev.fd f).hints.tail ∧ (t.dev.fd f).read = (s.dev.fd f).read + 1 ∧ ((t.dev.fd f).prepos = (s.dev.fd f).prepos ++
    (hintDoms h).map fun k => ⟨k, hintJob h.word, hintLevel h.word, s.dev.time.count + 1, s.dev.hintAt h + s.dev.rd
    (ST_HINT_CFG_HINT_HOLD f)⟩) ∧ s.changes t { s.dev with fld := t.dev.fld } []) ∧
  (∀ (s : State) (f : Fin 96) (h : HintE), s.awake → s.dev.nextHint f = some h → hintOp h.word = 1 → s.dev.hintDrops f
    h.word = none → isTileRail (hintClass h.word) = false → Completes (.heavyAhead f) s fun t => (t.dev.fd f).hints =
    (s.dev.fd f).hints.tail ∧ (t.dev.fd f).read = (s.dev.fd f).read + 1 ∧ (t.dev.fd f).prepos = (s.dev.fd f).prepos ∧
    s.changes t { s.dev with fld := t.dev.fld } []) ∧
  (∀ (s : State) (f : Fin 96) (h : HintE), s.awake → s.dev.nextHint f = some h → hintOp h.word = 3 → s.dev.hintDrops f
    h.word = none → Completes (.barrierAhead f) s fun t => (t.dev.fd f).hints = (s.dev.fd f).hints.tail ∧ (t.dev.fd
    f).read = (s.dev.fd f).read + 1 ∧ (∀ (p : Fin 36) (n : Fin 256), (s.dev.ti f p n).job = some (hintJob h.word) →
    (t.dev.ti f p n).arm = some ⟨hintJob h.word, false, hintLevel h.word, hintArg h.word⟩ ∧ (t.dev.dm f (domOf p)).eRel
    = some (h.recv + hintLead h.word)) ∧ s.changes t
    { s.dev with fld := t.dev.fld, tile := t.dev.tile, dom := t.dev.dom } []) ∧
  (∀ (s : State) (f : Fin 96) (h : HintE), s.awake → s.dev.nextHint f = some h → hintOp h.word = 2 → s.dev.hintDrops f
    h.word = none → Completes (.lightAhead f) s fun t => (t.dev.fd f).hints = (s.dev.fd f).hints.tail ∧ (t.dev.fd
    f).read = (s.dev.fd f).read + 1 ∧ (t.dev.fd f).due = (s.dev.fd f).due ++ [⟨s.dev.hintAt h, h⟩] ∧ s.changes t
    { s.dev with fld := t.dev.fld } []) ∧
  (∀ (s : State) (f : Fin 96) (h : HintE), s.awake → s.dev.nextHint f = some h → hintOp h.word = 4 → s.dev.hintDrops f
    h.word = none → Completes (.collectiveBegin f) s fun t => (t.dev.fd f).hints = (s.dev.fd f).hints.tail ∧ (t.dev.fd
    f).read = (s.dev.fd f).read + 1 ∧ (t.dev.fd f).due = (s.dev.fd f).due ++ [⟨s.dev.hintAt h, h⟩] ∧ s.changes t
    { s.dev with fld := t.dev.fld } []) ∧
  (∀ (s : State) (f : Fin 96) (h : HintE), s.awake → s.dev.nextHint f = some h → hintOp h.word = 5 → s.dev.hintDrops f
    h.word = none → Completes (.collectiveEnd f) s fun t => (t.dev.fd f).hints = (s.dev.fd f).hints.tail ∧ (t.dev.fd
    f).read = (s.dev.fd f).read + 1 ∧ (t.dev.fd f).due = (s.dev.fd f).due ++ [⟨s.dev.hintAt h, h⟩] ∧ s.changes t
    { s.dev with fld := t.dev.fld } []) ∧
  (∀ (s : State) (f : Fin 96) (h : HintE), s.awake → s.dev.nextHint f = some h → hintOp h.word = 6 → s.dev.hintDrops f
    h.word = none → Completes (.formatAhead f) s fun t => (t.dev.fd f).hints = (s.dev.fd f).hints.tail ∧ (t.dev.fd
    f).read = (s.dev.fd f).read + 1 ∧ (t.dev.fd f).due = (s.dev.fd f).due ++ [⟨s.dev.hintAt h, h⟩] ∧ s.changes t
    { s.dev with fld := t.dev.fld } []) ∧
  (∀ (s : State) (f : Fin 96) (h : HintE), s.awake → s.dev.nextHint f = some h → hintOp h.word = 7 → s.dev.hintDrops f
    h.word = none → Completes (.watch f) s fun t => (t.dev.fd f).hints = (s.dev.fd f).hints.tail ∧ (t.dev.fd f).read =
    (s.dev.fd f).read + 1 ∧ (t.dev.fd f).due = (s.dev.fd f).due ++ [⟨s.dev.hintAt h, h⟩] ∧ s.changes t
    { s.dev with fld := t.dev.fld } [])

/-- R155, R163, R164, R167, R191, R411: An ADMIT with no other under evaluation takes the bank's buffer for evaluation;
before READY, or while one is evaluated, ADMIT and RELEASE are refused with STATE_CONFLICT. The evaluation rejects a
malformed descriptor with reason 5 and enters one it does not reject in the lowest free entry of the job table, owned by
its bank. A release by the owner frees the entry. At a bolt boundary outside a global stop the value that a source of
the cap has accepted comes in force. The deferral of a source ends there, with its value in force, once its windows have
closed or its grace has run out; one with windows open, grace left and no newer value goes on. Exec answers a next state
with its own effect, for every state and operands that meet the conditions of its clause: admitJob, release,
admitResult, capEffective, capDeferEnd. -/
def Obligations.AdmissionAndCaps : Prop :=
  (∀ (s : State) (bank : Fin 9), s.awake → s.dev.bud.adm = none → s.dev.ready = true → Completes (.admitJob bank) s fun
    t => (t.dev.bud.adm = some ⟨bank, (List.range 128).map fun k => (tget (0 : Word) s.dev.bud.admBuf (bank * 128 +
    k)).toNat⟩) ∧ tget 0 t.dev.bud.admRes bank.val = BitVec.ofNat 32 (0 + 4 * b01 false + 16 * 0 + 256 * 0 + 65536 *
    satN 0xFFFF 0) ∧ s.changes t
    { s.dev with bud := { s.dev.bud with adm := t.dev.bud.adm, admRes := t.dev.bud.admRes } } []) ∧
  (∀ (s : State) (bank : Fin 9), s.awake → (s.dev.bud.adm.isSome = true ∨ s.dev.ready = false) → Completes (.admitJob
    bank) s fun t => t.dev.rdB BU_STATUS_STATE_CONFLICT = true ∧ tget 0 t.dev.bud.admRes bank.val = BitVec.ofNat 32 (3 +
    4 * b01 true + 16 * 0 + 256 * 0 + 65536 * satN 0xFFFF 0) ∧ s.changes t
    { s.dev with bud := { s.dev.bud with admRes := t.dev.bud.admRes } } [BU_STATUS_STATE_CONFLICT]) ∧
  (∀ (s : State) (bank : Fin 9) (job : BitVec 12), s.awake → (s.dev.bud.adm.isSome = true ∨ s.dev.ready = false) →
    Completes (.release bank job) s fun t => t.dev.rdB BU_STATUS_STATE_CONFLICT = true ∧ tget 0 t.dev.bud.admRes
    bank.val = BitVec.ofNat 32 (3 + 4 * b01 true + 16 * 0 + 256 * 0 + 65536 * satN 0xFFFF 0) ∧ s.changes t
    { s.dev with bud := { s.dev.bud with admRes := t.dev.bud.admRes } } [BU_STATUS_STATE_CONFLICT]) ∧
  (∀ (s : State) (bank : Fin 9) (job : BitVec 12) (j : Nat) (e : JobE), s.awake → s.dev.bud.adm = none → s.dev.ready =
    true → s.dev.jobNo job.toNat = some (j, e) → (bank.val = 8 ∨ e.owner = some bank.val) → s.dev.job j = some e →
    Completes (.release bank job) s fun t => tget 0 t.dev.bud.admRes bank.val = BitVec.ofNat 32 (0 + 4 * b01 true + 16 *
    0 + 256 * 0 + 65536 * satN 0xFFFF 0) ∧ t.dev.job j = none ∧ t.dev.rd (LG_JOB_QHANDLE j) = 0 ∧ t.dev.bud.gone =
    s.dev.bud.gone ++ [e.job] ∧ t.dev.led.ended = s.dev.led.ended ++ [e.job] ∧ s.changes t
    { s.dev with bud := { s.dev.bud with jobs := t.dev.bud.jobs, admRes := t.dev.bud.admRes, gone := t.dev.bud.gone }, led := { s.dev.led with ended := t.dev.led.ended } }
    (LG_JOB_QHANDLE j :: e.fields.map ST_OP_FPLAN_F_PLAN)) ∧
  (∀ (s : State) (bank : Fin 9) (a : AdmCmd), s.awake → s.dev.bud.adm = some a → a.bank = bank.val → descrOf a.words =
    none → Completes .admitResult s fun t => tget 0 t.dev.bud.admRes bank.val = BitVec.ofNat 32 (2 + 4 * b01 true + 16 *
    5 + 256 * 0 + 65536 * satN 0xFFFF 0) ∧ t.dev.bud.adm = none ∧ s.changes t
    { s.dev with bud := { s.dev.bud with adm := none, admRes := t.dev.bud.admRes } } []) ∧
  (∀ (s : State) (bank : Fin 9) (a : AdmCmd) (e : Descr) (j : Nat), s.awake → s.dev.bud.adm = some a → a.bank = bank.val
    → descrOf a.words = some e → s.dev.jobNo e.job = none → (∀ f ∈ e.fields, s.dev.draining f = false) → freeKey 64
    s.dev.bud.jobs = some j → (s.dev.judgeAdm e).outcome ≠ 2 → Completes .admitResult s fun t => (∃ x : JobE, t.dev.job
    j = some x ∧ x.job = e.job ∧ x.owner = (if bank.val < 8 then some bank.val else none) ∧ x.fields = e.fields ∧
    x.waferMean = e.mean ∧ x.phases = (s.dev.judgeAdm e).phases ∧ x.phase = 0 ∧ x.tight = decide ((s.dev.judgeAdm
    e).outcome = 1) ∧ x.misses = 0) ∧ t.dev.bud.adm = none ∧ tget 0 t.dev.bud.admRes bank.val = BitVec.ofNat 32
    ((s.dev.judgeAdm e).outcome + 4 * b01 true + 16 * 0 + 256 * (((s.dev.judgeAdm e).phases.head?.map (·.plan)).getD 0)
    + 65536 * satN 0xFFFF (s.dev.judgeAdm e).x) ∧ s.changes t
    { s.dev with bud := { s.dev.bud with adm := none, jobs := t.dev.bud.jobs, admRes := t.dev.bud.admRes } }
    (LG_AUD_SHIFT j :: e.fields.map ST_OP_FPLAN_F_PLAN)) ∧
  (∀ (s : State), s.awake → s.dev.rdB TB_STATUS_STOPPED = false → s.dev.time.count % 1000 = 0 → Completes .capEffective
    s fun t => ((∀ (v : Nat) (u : Bool), s.dev.bud.tray.next = some (v, u) → t.dev.bud.tray =
    { s.dev.bud.tray with val := v, next := none }) ∧ (s.dev.bud.tray.next = none → t.dev.bud.tray = s.dev.bud.tray)) ∧
    ((∀ (v : Nat) (u : Bool), s.dev.bud.rack.next = some (v, u) → t.dev.bud.rack =
    { s.dev.bud.rack with val := v, next := none }) ∧ (s.dev.bud.rack.next = none → t.dev.bud.rack = s.dev.bud.rack)) ∧
    s.changes t { s.dev with bud := { s.dev.bud with tray := t.dev.bud.tray, rack := t.dev.bud.rack } } []) ∧
  (∀ (s : State), s.awake → (s.dev.rdB TB_STATUS_STOPPED = true ∨ s.dev.time.count % 1000 ≠ 0) → Completes .capEffective
    s fun t => s.changes t s.dev []) ∧
  (∀ (s : State) (x : CapDefer), s.awake → s.dev.rdB TB_STATUS_STOPPED = false → s.dev.time.count % 1000 = 0 →
    s.dev.bud.tray.defer = some x → (x.due ≤ s.dev.time.nbRun ∨ x.wins = []) → Completes .capDeferEnd s fun t =>
    t.dev.bud.tray.val = x.val ∧ t.dev.bud.tray.defer = none ∧ t.dev.bud.tray.next = s.dev.bud.tray.next ∧ s.changes t
    { s.dev with bud := { s.dev.bud with tray := t.dev.bud.tray, rack := t.dev.bud.rack } } []) ∧
  (∀ (s : State) (x : CapDefer), s.awake → s.dev.rdB TB_STATUS_STOPPED = false → s.dev.time.count % 1000 = 0 →
    s.dev.bud.tray.defer = some x → s.dev.time.nbRun < x.due → x.wins ≠ [] → x.again = false → s.dev.bud.rack.again =
    false → Completes .capDeferEnd s fun t => t.dev.bud.tray.val = s.dev.bud.tray.val ∧ t.dev.bud.tray.defer = some x ∧
    s.changes t { s.dev with bud := { s.dev.bud with rack := t.dev.bud.rack } } [])

/-- R166, R171, R172, R174, R175, R181, R186, R196: An armed tile that enters barrier wait, or any wait under a light
arming, wads at its level while its heddle is open and no hold stops it; an unarmed entry into barrier wait is counted.
A tile under a barrier arming that leaves barrier wait is gated, but where its domain ramps and its shed has started it
starts too, with its arming consumed; any other leaves its wait and stops wadding. Once FLOOR_HOLD picks have passed
since the expected release, the floor of a domain falls to zero and its planner goes back to DECAY; so it does at once
where the arming was light. A domain that newly holds an armed tile is counted once, and the new share is sent to the
stewards. Exec answers a next state with its own effect, for every state and operands that meet the conditions of its
clause: barrierWaitEnter, barrierWaitLeave, floorHoldExpire, nDomAdd. -/
def Obligations.BarriersAndFloors : Prop :=
  (∀ (s : State) (f : Fin 96) (p : Fin 36) (n : BitVec 8) (barrier : Bool) (a : TileArm), s.awake → (s.dev.ti f p
    n.toNat).arm = some a → (a.light = true ∨ barrier = true) → Completes (.barrierWaitEnter f p n barrier) s fun t =>
    t.dev.ti f p n.toNat = (let x :=
    { s.dev.ti f p n.toNat with wait := (if barrier then .barrier else .other), wads := (!s.dev.heddleShut f (domOf p) && !s.dev.wadHeld f p), paused := !(!s.dev.heddleShut f (domOf p) && !s.dev.wadHeld f p), wt := a.level };
    if a.light = true ∧ a.level = 0 then x.off else x) ∧ s.changes t { s.dev with tile := t.dev.tile } []) ∧
  (∀ (s : State) (f : Fin 96) (p : Fin 36) (n : BitVec 8) (barrier : Bool) (a : TileArm), s.awake → (s.dev.ti f p
    n.toNat).arm = some a → a.light = false → barrier = false → Completes (.barrierWaitEnter f p n barrier) s fun t =>
    t.dev.ti f p n.toNat = { s.dev.ti f p n.toNat with wait := .other } ∧ s.changes t { s.dev with tile := t.dev.tile }
    []) ∧
  (∀ (s : State) (f : Fin 96) (p : Fin 36) (n : BitVec 8) (barrier : Bool), s.awake → (s.dev.ti f p n.toNat).arm = none
    → barrier = true → (((s.dev.ti f p n.toNat).job.bind s.dev.jobNo).all (fun x => !x.2.tight) = true) → Completes
    (.barrierWaitEnter f p n barrier) s fun t => t.dev.ti f p n.toNat = { s.dev.ti f p n.toNat with wait := .barrier } ∧
    t.dev.rd (ST_HED_SUM_UNARMED f (domOf p)) = satN 0xFFFF (s.dev.rd (ST_HED_SUM_UNARMED f (domOf p)) + 1) ∧ s.changes
    t { s.dev with tile := t.dev.tile } [ST_HED_SUM_UNARMED f (domOf p)]) ∧
  (∀ (s : State) (f : Fin 96) (p : Fin 36) (n : BitVec 8) (barrier : Bool) (j : Nat) (e : JobE), s.awake → (s.dev.ti f p
    n.toNat).arm = none → barrier = true → (s.dev.ti f p n.toNat).job.bind s.dev.jobNo = some (j, e) → e.tight = true →
    s.dev.job j = some e → e.missTold = false → Completes (.barrierWaitEnter f p n barrier) s fun t => t.dev.job j =
    some { e with misses := satN 127 (e.misses + 1), missTold := true } ∧ t.dev.rd (ST_HED_SUM_UNARMED f (domOf p)) =
    satN 0xFFFF (s.dev.rd (ST_HED_SUM_UNARMED f (domOf p)) + 1) ∧ s.changes t
    { s.dev with tile := t.dev.tile, bud := { s.dev.bud with jobs := t.dev.bud.jobs }, fc := { s.dev.fc with raised := s.dev.fc.raised ++ [{ s.dev.report .ctrl 3 central 0 with job := some e.job }] } }
    [ST_HED_SUM_UNARMED f (domOf p)]) ∧
  (∀ (s : State) (f : Fin 96) (p : Fin 36) (n : BitVec 8), s.awake → (s.dev.ti f p n.toNat).barrierArm = true →
    (s.dev.ti f p n.toNat).wait = .barrier → s.dev.plan f (domOf p) ≠ plRamp → Completes (.barrierWaitLeave f p n) s fun
    t => t.dev.ti f p n.toNat = { s.dev.ti f p n.toNat with wait := .none, gated := true } ∧ s.changes t
    { s.dev with tile := t.dev.tile } []) ∧
  (∀ (s : State) (f : Fin 96) (p : Fin 36) (n : BitVec 8), s.awake → ((s.dev.ti f p n.toNat).barrierArm = false ∨
    (s.dev.ti f p n.toNat).wait ≠ .barrier) → Completes (.barrierWaitLeave f p n) s fun t => t.dev.ti f p n.toNat =
    { s.dev.ti f p n.toNat with wait := .none, wads := false, paused := false } ∧ s.changes t
    { s.dev with tile := t.dev.tile } []) ∧
  (∀ (s : State) (f : Fin 96) (p : Fin 36) (n : BitVec 8), s.awake → (s.dev.ti f p n.toNat).barrierArm = true →
    (s.dev.ti f p n.toNat).wait = .barrier → s.dev.plan f (domOf p) = plRamp → shedIx p (shedOf n.toNat) ∈ (s.dev.dm f
    (domOf p)).released → (s.dev.dm f (domOf p)).toStart = [] → s.dev.startHeld f (domOf p) = false → s.dev.heddleShut f
    (domOf p) = false → Completes (.barrierWaitLeave f p n) s fun t => t.dev.ti f p n.toNat =
    { s.dev.ti f p n.toNat with wait := .none, arm := none, wads := false, paused := false, wt := 0 } ∧ s.changes t
    { s.dev with tile := t.dev.tile } []) ∧
  (∀ (s : State) (f : Fin 96) (k : Fin 4) (e : Nat), s.awake → (s.dev.dm f k).relPast = false → (s.dev.dm f k).eRel =
    some e → e + s.dev.rd (ST_WAD_CFG_FLOOR_HOLD f) ≤ s.dev.time.count → (s.dev.plan f k = plFloor ∨ s.dev.plan f k =
    plDecay) → Completes (.floorHoldExpire f k) s fun t => t.dev.plan f k = plDecay ∧ t.dev.rdB (ST_HED_STATE_FLOOR_ZERO
    f k) = true ∧ t.dev.dm f k = { s.dev.dm f k with iFloor := 0, relPast := true } ∧ s.changes t
    { s.dev with dom := t.dev.dom } [ST_HED_STATE_STATE f k, ST_HED_STATE_FLOOR_ZERO f k]) ∧
  (∀ (s : State) (f : Fin 96) (k : Fin 4), s.awake → s.dev.relPasses f k = true → s.dev.plan f k ≠ plFloor → s.dev.plan
    f k ≠ plDecay → Completes (.floorHoldExpire f k) s fun t => t.dev.dm f k = { s.dev.dm f k with relPast := true } ∧
    s.changes t { s.dev with dom := t.dev.dom } []) ∧
  (∀ (s : State) (f : Fin 96) (k : Fin 4), s.awake → s.dev.relPasses f k = false → s.dev.plan f k = plFloor → s.dev.rdB
    (ST_HED_STATE_KIND f k) = true → Completes (.floorHoldExpire f k) s fun t => t.dev.plan f k = plDecay ∧ t.dev.rdB
    (ST_HED_STATE_FLOOR_ZERO f k) = true ∧ t.dev.dm f k = { s.dev.dm f k with iFloor := 0 } ∧ s.changes t
    { s.dev with dom := t.dev.dom } [ST_HED_STATE_STATE f k, ST_HED_STATE_FLOOR_ZERO f k]) ∧
  (∀ (s : State) (f : Fin 96) (k : Fin 4), s.awake → s.dev.relPasses f k = false → (s.dev.plan f k ≠ plFloor ∨ s.dev.rdB
    (ST_HED_STATE_KIND f k) = false) → Completes (.floorHoldExpire f k) s fun t => s.changes t s.dev []) ∧
  (∀ (s : State) (f : Fin 96) (k : Fin 4), s.awake → s.dev.armedDom f k = true → (s.dev.dm f k).counted = false →
    Completes (.nDomAdd f k) s fun t => (t.dev.dm f k).counted = true ∧ t.dev.bud.nDom = s.dev.bud.nDom + 1 ∧ s.changes
    t
    { s.dev with dom := t.dev.dom, bud := { s.dev.bud with nDom := s.dev.bud.nDom + 1 }, out := .shareSent s.dev.shareMw (s.dev.bud.nDom + 1) :: s.dev.out }
    []) ∧
  (∀ (s : State) (f : Fin 96) (k : Fin 4), s.awake → (s.dev.armedDom f k = false ∨ (s.dev.dm f k).counted = true) →
    Completes (.nDomAdd f k) s fun t => s.changes t s.dev [])

/-- R147, R148, R149, R150: After a division of the cap, the tile-rail allotments of all fields, as they stand from the
next pick on, sum to no more than the grant G, and G is no more than what the set-point leaves beside the fixed
allotments. -/
def Obligations.DivisionStaysWithinTheCap : Prop :=
  ∀ d t : Dev, t = budgetDivide d →
    sumN (allFields.map fun f => ((t.fd f).allotRise).getD (t.rd (BU_FIELD_ALLOT f))) ≤ t.rd BU_GRANT_G ∧
    (t.rd BU_GRANT_G : Int) ≤ max 0 ((t.sp : Int) - t.newFix)

/-- R206, R207, R210, R212, R227: The first begin of a step takes the lowest free entry: OPEN, with its key, footprint
and field, one tile begun; the tile is on the step, and in grant mode, at the credit limit or with tags it is told to
go. A tag of a BASTED producer makes the entry TAINTED with a reference on it. A begin that must wait is held and told
so, and goes on BEGIN_GO when its cause has ended; one of no admitted job is discarded and counted. Exec answers a next
state with its own effect, for every state and operands that meet the conditions of its clause: beginMark, beginGo. -/
def Obligations.BeginsAreApplied : Prop :=
  (∀ (s : State) (f : Fin 96) (p : Fin 36) (n : BitVec 8) (tag stamp : BitVec 64) (g : Fin 96) (k : Nat), s.awake →
    s.dev.eventWaits (.begin_ (beginM f p n tag [] stamp)) = false → s.dev.recList = [] → s.dev.led.early = [] →
    s.dev.discards f p tag.toNat = false → (s.dev.led.waits.any (fun w => w.field = f.val && w.patch = p.val && w.tile =
    n.toNat) = false) → s.dev.beginWaits (beginM f p n tag [] stamp) = false → s.dev.keyIx (tagJob tag.toNat) (tagSeq
    tag.toNat) = none → s.dev.prevRef none (beginM f p n tag [] stamp) = none → footTiles (tagFoot tag.toNat) ≠ 0 →
    footSpan (tagFoot tag.toNat) + 1 ≤ (s.dev.reserveOf g).length → (s.dev.ti f p n.toNat).cur = none → tget 0
    s.dev.rp.watch (f * 4096 + tagJob tag.toNat) = 0 → s.dev.freeEnt = some k → Completes (.beginMark f p n ⟨tag, stamp⟩
    []) s fun t => t.dev.ent k = some
    { s.dev.newEntry (tagJob tag.toNat) (tagSeq tag.toNat) (tagFoot tag.toNat) f with begun := 1, begTiles := [p * 256 + n.toNat] }
    ∧ t.dev.ti f p n.toNat =
    { s.dev.ti f p n.toNat with cur := some ((tagJob tag.toNat), (tagSeq tag.toNat)), job := some (tagJob tag.toNat) } ∧
    (t.dev.out = if s.dev.grantMode = true ∨ s.dev.creditOut f = true then [.stepAnswer f p n.toNat true, .outTag f p
    n.toNat (outTag k 0 (tagSeq tag.toNat) (tagJob tag.toNat)) true] ++ s.dev.out else .outTag f p n.toNat (outTag k 0
    (tagSeq tag.toNat) (tagJob tag.toNat)) true :: s.dev.out) ∧ s.changes t
    { s.dev with led := { s.dev.led with ents := t.dev.led.ents, changed := t.dev.led.changed, cls := 1 }, tile := t.dev.tile, out := t.dev.out }
    [LG_MINFREE_MIN]) ∧
  (∀ (s : State) (f : Fin 96) (p : Fin 36) (n : BitVec 8) (tag stamp : BitVec 64) (o : TagObs) (g : Fin 96) (k j y :
    Nat) (x : Entry), s.awake → s.dev.eventWaits (.begin_ (beginM f p n tag [o] stamp)) = false → s.dev.recList = [] →
    s.dev.led.early = [] → s.dev.discards f p tag.toNat = false → (s.dev.led.waits.any (fun w => w.field = f.val &&
    w.patch = p.val && w.tile = n.toNat) = false) → s.dev.beginWaits (beginM f p n tag [o] stamp) = false → s.dev.keyIx
    (tagJob tag.toNat) (tagSeq tag.toNat) = none → s.dev.prevRef none (beginM f p n tag [o] stamp) = none → footTiles
    (tagFoot tag.toNat) ≠ 0 → footSpan (tagFoot tag.toNat) + 1 ≤ (s.dev.reserveOf g).length → (s.dev.ti f p n.toNat).cur
    = none → tget 0 s.dev.rp.watch (f * 4096 + tagJob tag.toNat) = 0 → s.dev.freeEnt = some k → s.dev.needsProxy
    (outTagOf o) = false → s.dev.tagRef none (outTagOf o) = some (j, y) → k ≠ j → s.dev.ent j = some x → x.st = .basted
    → x.closed = false → x.gen = y → Completes (.beginMark f p n ⟨tag, stamp⟩ [o]) s fun t => t.dev.ent k = some
    { s.dev.newEntry (tagJob tag.toNat) (tagSeq tag.toNat) (tagFoot tag.toNat) f with st := .tainted, begun := 1, begTiles := [p * 256 + n.toNat], prods := [(j, y)] }
    ∧ t.dev.ti f p n.toNat =
    { s.dev.ti f p n.toNat with cur := some ((tagJob tag.toNat), (tagSeq tag.toNat)), job := some (tagJob tag.toNat) } ∧
    t.dev.out = [.stepAnswer f p n.toNat true, .outTag f p n.toNat (outTag k 0 (tagSeq tag.toNat) (tagJob tag.toNat))
    true] ++ s.dev.out ∧ s.changes t
    { s.dev with led := { s.dev.led with ents := t.dev.led.ents, changed := t.dev.led.changed, cls := 1 }, tile := t.dev.tile, out := t.dev.out }
    [LG_MINFREE_MIN]) ∧
  (∀ (s : State) (f : Fin 96) (p : Fin 36) (n : BitVec 8) (tag stamp : BitVec 64) (l : List TagObs), s.awake →
    s.dev.eventWaits (.begin_ (beginM f p n tag l stamp)) = false → s.dev.runOf f p tag.toNat = none → s.dev.discards f
    p tag.toNat = false → s.dev.beginWaits (beginM f p n tag l stamp) = true → Completes (.beginMark f p n ⟨tag, stamp⟩
    l) s fun t => t.dev.led.waits = s.dev.led.waits ++ [beginM f p n tag l stamp] ∧ t.dev.out = .stepAnswer f p n.toNat
    false :: s.dev.out ∧ t.dev.rd (LG_EVT 2) = satN 0xFFFF (s.dev.rd (LG_EVT 2) + 1) ∧ s.changes t
    { s.dev with led := { s.dev.led with waits := t.dev.led.waits, cls := 1 }, out := t.dev.out } [LG_EVT 2]) ∧
  (∀ (s : State) (f : Fin 96) (p : Fin 36) (n : BitVec 8) (tag stamp : BitVec 64) (l : List TagObs), s.awake →
    s.dev.eventWaits (.begin_ (beginM f p n tag l stamp)) = false → s.dev.runOf f p tag.toNat = none → s.dev.discards f
    p tag.toNat = true → Completes (.beginMark f p n ⟨tag, stamp⟩ l) s fun t => t.dev.rd (LG_EVT 7) = satN 0xFFFF
    (s.dev.rd (LG_EVT 7) + 1) ∧ s.changes t { s.dev with led := { s.dev.led with cls := 1 } } [LG_EVT 7]) ∧
  (∀ (s : State) (f : Fin 96) (p : Fin 36) (n : BitVec 8) (tag stamp : BitVec 64) (l : List TagObs), s.awake →
    s.dev.runOf f p tag.toNat = none → s.dev.eventWaits (.begin_ (beginM f p n tag l stamp)) = true → Completes
    (.beginMark f p n ⟨tag, stamp⟩ l) s fun t => t.dev.led.later = s.dev.led.later ++ [.begin_ (beginM f p n tag l
    stamp)] ∧ s.changes t { s.dev with led := { s.dev.led with later := t.dev.led.later } } []) ∧
  (∀ (s : State) (f : Fin 96) (p : Fin 36) (n : BitVec 8) (tag stamp : BitVec 64) (g : Fin 96) (k : Nat), s.awake →
    s.dev.stopped = false → s.dev.recList = [] → s.dev.led.early = [] → s.dev.led.waits = [beginM f p n tag [] stamp] →
    s.dev.beginWaits (beginM f p n tag [] stamp) = false → s.dev.keyIx (tagJob tag.toNat) (tagSeq tag.toNat) = none →
    s.dev.prevRef none (beginM f p n tag [] stamp) = none → footTiles (tagFoot tag.toNat) ≠ 0 → footSpan (tagFoot
    tag.toNat) + 1 ≤ (s.dev.reserveOf g).length → (s.dev.ti f p n.toNat).cur = none → tget 0 s.dev.rp.watch (f * 4096 +
    tagJob tag.toNat) = 0 → s.dev.freeEnt = some k → Completes .beginGo s fun t => t.dev.ent k = some
    { s.dev.newEntry (tagJob tag.toNat) (tagSeq tag.toNat) (tagFoot tag.toNat) f with begun := 1, begTiles := [p * 256 + n.toNat] }
    ∧ t.dev.ti f p n.toNat =
    { s.dev.ti f p n.toNat with cur := some ((tagJob tag.toNat), (tagSeq tag.toNat)), job := some (tagJob tag.toNat) } ∧
    t.dev.led.waits = [] ∧ t.dev.out = [.stepAnswer f p n.toNat true, .outTag f p n.toNat (outTag k 0 (tagSeq tag.toNat)
    (tagJob tag.toNat)) true] ++ s.dev.out ∧ s.changes t
    { s.dev with led := { s.dev.led with waits := [], ents := t.dev.led.ents, changed := t.dev.led.changed }, tile := t.dev.tile, out := t.dev.out }
    [LG_MINFREE_MIN])

/-- R200, R202, R210, R215, R234, R235, R237: An end marker counts its tile, adds its digest and frees the tile; the
last end of a clean step without producers sews the entry at once; an end with POISON poisons it. An end without an
entry is a protocol error: counted and reported. A mark on an OPEN entry makes it BASTED and suspect with the lowest
free replay record, and is counted. A run's markers go to its record; one of no run is a protocol error. Exec answers a
next state with its own effect, for every state and operands that meet the conditions of its clause: endMark, markApply,
runMarker. -/
def Obligations.EndsAndMarksApply : Prop :=
  (∀ (s : State) (f : Fin 96) (p : Fin 36) (n : BitVec 8) (tag stamp : BitVec 64) (dg : BitVec 64) (o : StatObs) (k :
    Nat) (e : Entry), s.awake → s.dev.eventWaits (.end_ (endM f p n tag dg false o stamp)) = false → s.dev.led.marks =
    [] → s.dev.recList = [] → s.dev.discards f p tag.toNat = false → s.dev.keyIx (tagJob tag.toNat) (tagSeq tag.toNat) =
    some k → s.dev.ent k = some e → e.field = f → e.begTiles.contains (p * 256 + n.toNat) = true → e.endTiles.contains
    (p * 256 + n.toNat) = false → e.foot = (tagFoot tag.toNat) → e.st = .open_ → e.prods = [] → e.stats = none →
    e.endCnt + 1 = footTiles e.foot → s.dev.audited e.job e.seq = false → e.suspect = false → e.dests = [] → e.notes =
    [] → e.wdraw = false → e.held = false → e.remote = false → Completes (.endMark f p n ⟨tag, stamp⟩ dg false o) s fun
    t => t.dev.ent k = some
    { e with st := .sewn, ended := true, endCnt := e.endCnt + 1, endTiles := e.endTiles ++ [p * 256 + n.toNat], digest := (e.digest + dg.toNat) % 2 ^ 64, spick := s.dev.time.count % 2 ^ 32, since := s.dev.time.nbRun, nbAt := s.dev.time.nb, closed := false, reDone := false }
    ∧ t.dev.ti f p n.toNat =
    { s.dev.ti f p n.toNat with cur := none, prev := some ((tagJob tag.toNat), (tagSeq tag.toNat)) } ∧ t.dev.pt f p =
    { s.dev.pt f p with stepsEnded := distinct ((s.dev.pt f p).stepsEnded ++ [((tagJob tag.toNat), (tagSeq tag.toNat))]) }
    ∧ .tagSewn (outTag k e.gen e.seq e.job) e.src ∈ t.dev.out ∧ s.changes t
    { s.dev with led := { s.dev.led with ents := t.dev.led.ents, changed := t.dev.led.changed, cls := 3 }, tile := t.dev.tile, pat := t.dev.pat, out := t.dev.out }
    []) ∧
  (∀ (s : State) (f : Fin 96) (p : Fin 36) (n : BitVec 8) (tag stamp : BitVec 64) (dg : BitVec 64) (o : StatObs) (k :
    Nat) (e : Entry), s.awake → s.dev.eventWaits (.end_ (endM f p n tag dg false o stamp)) = false → s.dev.led.marks =
    [] → s.dev.recList = [] → s.dev.discards f p tag.toNat = false → s.dev.keyIx (tagJob tag.toNat) (tagSeq tag.toNat) =
    some k → s.dev.ent k = some e → e.field = f → e.begTiles.contains (p * 256 + n.toNat) = true → e.endTiles.contains
    (p * 256 + n.toNat) = false → e.foot = (tagFoot tag.toNat) → e.st = .open_ → e.prods = [] → e.stats = none →
    e.endCnt + 1 < footTiles e.foot → Completes (.endMark f p n ⟨tag, stamp⟩ dg false o) s fun t => t.dev.ent k = some
    { e with ended := false, endCnt := e.endCnt + 1, endTiles := e.endTiles ++ [p * 256 + n.toNat], digest := (e.digest + dg.toNat) % 2 ^ 64 }
    ∧ t.dev.ti f p n.toNat =
    { s.dev.ti f p n.toNat with cur := none, prev := some ((tagJob tag.toNat), (tagSeq tag.toNat)) } ∧ t.dev.pt f p =
    { s.dev.pt f p with stepsEnded := distinct ((s.dev.pt f p).stepsEnded ++ [((tagJob tag.toNat), (tagSeq tag.toNat))]) }
    ∧ s.changes t
    { s.dev with led := { s.dev.led with ents := t.dev.led.ents, cls := 3 }, tile := t.dev.tile, pat := t.dev.pat } []) ∧
  (∀ (s : State) (f : Fin 96) (p : Fin 36) (n : BitVec 8) (tag stamp : BitVec 64) (dg : BitVec 64) (o : StatObs) (k :
    Nat) (e : Entry), s.awake → s.dev.eventWaits (.end_ (endM f p n tag dg true o stamp)) = false → s.dev.led.marks = []
    → s.dev.recList = [] → s.dev.discards f p tag.toNat = false → s.dev.keyIx (tagJob tag.toNat) (tagSeq tag.toNat) =
    some k → s.dev.ent k = some e → e.field = f → e.begTiles.contains (p * 256 + n.toNat) = true → e.endTiles.contains
    (p * 256 + n.toNat) = false → e.foot = (tagFoot tag.toNat) → e.st = .open_ → e.prods = [] → e.stats = none →
    e.endCnt + 1 < footTiles e.foot → e.dests = [] → e.remote = false → Completes (.endMark f p n ⟨tag, stamp⟩ dg true
    o) s fun t => (∃ x : Entry, t.dev.ent k = some x ∧ x.st = .poisoned ∧ x.cause = .poison ∧ x.wgen = e.gen ∧ x.gen =
    satN 15 (e.gen + 1) ∧ x.endCnt = e.endCnt + 1) ∧ t.dev.ti f p n.toNat =
    { s.dev.ti f p n.toNat with cur := none, prev := some ((tagJob tag.toNat), (tagSeq tag.toNat)) } ∧ t.dev.pt f p =
    { s.dev.pt f p with stepsEnded := distinct ((s.dev.pt f p).stepsEnded ++ [((tagJob tag.toNat), (tagSeq tag.toNat))]) }
    ∧ s.changes t
    { s.dev with led := { s.dev.led with ents := t.dev.led.ents, changed := t.dev.led.changed, cls := 3 }, tile := t.dev.tile, pat := t.dev.pat, out := t.dev.out, fc := { s.dev.fc with raised := s.dev.fc.raised ++ [{ s.dev.report .mem 3 central 0 with job := some e.job, addr := k, master := 7 }] } }
    []) ∧
  (∀ (s : State) (f : Fin 96) (p : Fin 36) (n : BitVec 8) (tag stamp : BitVec 64) (dg : BitVec 64) (b : Bool) (o :
    StatObs), s.awake → s.dev.eventWaits (.end_ (endM f p n tag dg b o stamp)) = false → s.dev.led.marks = [] →
    s.dev.runOf f p tag.toNat = none → s.dev.discards f p tag.toNat = false → s.dev.keyIx (tagJob tag.toNat) (tagSeq
    tag.toNat) = none → Completes (.endMark f p n ⟨tag, stamp⟩ dg b o) s fun t => t.dev.rd (LG_EVT 7) = satN 0xFFFF
    (s.dev.rd (LG_EVT 7) + 1) ∧ s.changes t
    { s.dev with led := { s.dev.led with cls := 3 }, fc := { s.dev.fc with raised := s.dev.fc.raised ++ [{ s.dev.report .ledger 1 f p with job := some (tagJob tag.toNat), addr := 0xFFFF + f * 2 ^ 16 + p * 2 ^ 24, master := 7 }] } }
    [LG_EVT 7]) ∧
  (∀ (s : State) (f : Fin 96) (p : Fin 36) (n : BitVec 8) (tag stamp : BitVec 64) (dg : BitVec 64) (b : Bool) (o :
    StatObs), s.awake → s.dev.runOf f p tag.toNat = none → s.dev.eventWaits (.end_ (endM f p n tag dg b o stamp)) = true
    → Completes (.endMark f p n ⟨tag, stamp⟩ dg b o) s fun t => t.dev.led.later = s.dev.led.later ++ [.end_ (endM f p n
    tag dg b o stamp)] ∧ s.changes t { s.dev with led := { s.dev.led with later := t.dev.led.later } } []) ∧
  (∀ (s : State) (k : Nat) (e : Entry) (m : Mark) (l : List Mark) (j q i : Nat), s.awake → s.dev.stopped = false →
    s.dev.led.cls ≤ 2 → s.dev.recList = [] → s.dev.led.marks = m :: l → m.steps = [(j, q)] → s.dev.keyIx j q = some k →
    s.dev.ent k = some e → e.st = .open_ → e.ended = false → e.prods = [] → e.rslot = none → e.notes = [] → e.wdraw =
    false → e.remote = false → e.held = false → freeKey 1024 s.dev.rp.recs = some i → Completes .markApply s fun t =>
    t.dev.ent k = some
    { e with st := .basted, suspect := true, cause := m.cause, oFidx := some (e.markFidx (m.patches.zip m.fidx)), marked := distinct (e.marked ++ (m.patches.zip m.fidx).map (·.1)), spick := s.dev.time.count % 2 ^ 32, since := s.dev.time.nbRun, nbAt := s.dev.time.nb, reDone := false, rslot := some i }
    ∧ (t.dev.recd i).map (·.entry) = some k ∧ (t.dev.recd i).map (·.phase) = some .queued ∧ (t.dev.recd i).map (·.orig)
    = some ⟨e.field, e.footprint, e.markFidx (m.patches.zip m.fidx)⟩ ∧ t.dev.rd (LG_EVT 0) = satN 0xFFFF (s.dev.rd
    (LG_EVT 0) + 1) ∧ tget 0 t.dev.ev.cnt (m.field * 9 + 2) = satN 0xFFFFFFFF (tget 0 s.dev.ev.cnt (m.field * 9 + 2) +
    1) ∧ s.changes t
    { s.dev with led := { s.dev.led with marks := l, cls := 2, ents := t.dev.led.ents, changed := t.dev.led.changed }, rp := { s.dev.rp with recs := t.dev.rp.recs }, ev := { s.dev.ev with cnt := t.dev.ev.cnt } }
    [LG_EVT 0, DB_FCNT_MARKS m.field]) ∧
  (∀ (s : State), s.awake → (s.dev.stopped = true ∨ 2 < s.dev.led.cls ∨ s.dev.led.marks = []) → Completes .markApply s
    fun t => s.changes t s.dev []) ∧
  (∀ (s : State) (f : Fin 96) (p : Fin 36) (n : BitVec 8) (tag stamp : BitVec 64) (dg : BitVec 64) (b : Bool) (i : Nat)
    (r : RRec) (run : Run), s.awake → s.dev.eventWaits (.run (runM f p n tag false dg b stamp)) = false → s.dev.runOf f
    p tag.toNat = some (i, r, run) → s.dev.recd i = some r → r.run = some run → run.kind ≠ 1 → s.dev.runMayStart run =
    true → tagFoot tag.toNat = r.foot → run.beg.contains ((run.reg.patches.findIdx? (· = p.val)).getD 0 * 256 + n.toNat)
    = false → run.beg.length < footTiles r.foot → Completes (.runMarker f p n ⟨tag, stamp⟩ false dg b) s fun t =>
    t.dev.recd i = some
    { r with run := some { run with beg := run.beg ++ [(run.reg.patches.findIdx? (· = p.val)).getD 0 * 256 + n.toNat] } }
    ∧ s.changes t { s.dev with rp := { s.dev.rp with recs := t.dev.rp.recs }, led := { s.dev.led with cls := 6 } } []) ∧
  (∀ (s : State) (f : Fin 96) (p : Fin 36) (n : BitVec 8) (tag stamp : BitVec 64) (dg : BitVec 64) (i j : Nat) (r :
    RRec) (run : Run), s.awake → s.dev.eventWaits (.run (runM f p n tag true dg false stamp)) = false → s.dev.runOf f p
    tag.toNat = some (i, r, run) → s.dev.recd i = some r → r.run = some run → tagFoot tag.toNat = r.foot → j =
    (run.reg.patches.findIdx? (· = p.val)).getD 0 → run.beg.contains (j * 256 + n.toNat) = true → run.fin.contains (j *
    256 + n.toNat) = false → run.fin.length + 1 ≠ footTiles r.foot → Completes (.runMarker f p n ⟨tag, stamp⟩ true dg
    false) s fun t => t.dev.recd i = some
    { r with run := some { run with fin := run.fin ++ [j * 256 + n.toNat], sums := run.sums.set j ((run.sums.getD j 0 + dg.toNat) % 2 ^ 64) } }
    ∧ s.changes t { s.dev with rp := { s.dev.rp with recs := t.dev.rp.recs }, led := { s.dev.led with cls := 6 } } []) ∧
  (∀ (s : State) (f : Fin 96) (p : Fin 36) (n : BitVec 8) (tag stamp : BitVec 64) (x : Bool) (dg : BitVec 64) (b :
    Bool), s.awake → s.dev.eventWaits (.run (runM f p n tag x dg b stamp)) = false → s.dev.runOf f p tag.toNat = none →
    Completes (.runMarker f p n ⟨tag, stamp⟩ x dg b) s fun t => t.dev.rd (LG_EVT 7) = satN 0xFFFF (s.dev.rd (LG_EVT 7) +
    1) ∧ s.changes t { s.dev with led := { s.dev.led with cls := 6 } } [LG_EVT 7]) ∧
  (∀ (s : State) (f : Fin 96) (p : Fin 36) (n : BitVec 8) (tag stamp : BitVec 64) (x : Bool) (dg : BitVec 64) (b :
    Bool), s.awake → s.dev.eventWaits (.run (runM f p n tag x dg b stamp)) = true → Completes (.runMarker f p n ⟨tag,
    stamp⟩ x dg b) s fun t => t.dev.led.later = s.dev.led.later ++ [.run (runM f p n tag x dg b stamp)] ∧ s.changes t
    { s.dev with led := { s.dev.led with later := t.dev.led.later } } []) ∧
  (∀ (s : State) (f : Fin 96) (p : Fin 36) (n : BitVec 8) (tag stamp : BitVec 64) (dg : BitVec 64) (b : Bool) (i : Nat)
    (r : RRec) (run : Run), s.awake → s.dev.eventWaits (.run (runM f p n tag false dg b stamp)) = false → s.dev.runOf f
    p tag.toNat = some (i, r, run) → tagFoot tag.toNat = r.foot → s.dev.runMayStart run = false → Completes (.runMarker
    f p n ⟨tag, stamp⟩ false dg b) s fun t => t.dev.led.later = s.dev.led.later ++ [.run (runM f p n tag false dg b
    stamp)] ∧ s.changes t { s.dev with led := { s.dev.led with later := t.dev.led.later, cls := 6 } } [])

/-- R217, R218, R219, R220, R235, R237, R242, R243, R246: At a bolt boundary an owed WITHDRAWN notice is offered again
to a queue that takes a write; a pending run request likewise at any time outside a stop. An entry BASTED or TAINTED for
the bast window is closed; its first closure is counted and a CLOSED notice is written, or kept owed where the job's
queue takes none. A replay or tie-break run that is not complete within RUN_WIN is abandoned and counted; a record
without a verdict GIVEUP bolts after its hand-off counts as unresolved, its entry is POISONED and the record freed; a
repeat or confirm that does not begin in time lapses. In a global stop none of them does anything. Exec answers a next
state with its own effect, for every state and operands that meet the conditions of its clause: hostNoticeRetry,
bastWindowExpire, runRequestRetry, runLapse, verdictGiveup, repeatLapse. -/
def Obligations.NoticesAndLapses : Prop :=
  (∀ (s : State) (h : BitVec 32) (x : Bool), s.awake → (s.dev.stopped = true ∨ s.dev.time.count % 1000 ≠ 0) → Completes
    (.hostNoticeRetry h x) s fun t => s.changes t
    { s.dev with hostFull := if x then s.dev.hostFull.filter (· ≠ h.toNat) else if s.dev.hostFull.contains h.toNat then s.dev.hostFull else h.toNat :: s.dev.hostFull }
    []) ∧
  (∀ (s : State) (h : BitVec 32) (k : Nat) (e : Entry), s.awake → s.dev.stopped = false → s.dev.time.count % 1000 = 0 →
    s.dev.jobList = [] → s.dev.live = [(k, e)] → s.dev.ent k = some e → e.notes = [] → e.wdraw = true → s.dev.rd
    LG_HOSTQ_QHANDLE = h.toNat → h ≠ 0 → Completes (.hostNoticeRetry h true) s fun t => t.dev.out = .hostNotice h.toNat
    (noteWord0 .withdrawn e.job e.seq e.wgen e.cause) (withdrawnWord1 k e) :: s.dev.out ∧ t.dev.ent k = some
    { e with wdraw := false } ∧ s.changes t
    { s.dev with hostFull := s.dev.hostFull.filter (· ≠ h.toNat), led := { s.dev.led with ents := t.dev.led.ents }, out := t.dev.out }
    []) ∧
  (∀ (s : State) (k : BitVec 16) (e : Entry) (h : Nat), s.awake → s.dev.stopped = false → s.dev.ent k.toNat = some e →
    e.st.basty = true → e.closed = false → e.closedTold = false → s.dev.passed e.since (1000 * orDef (s.dev.rd
    LG_CFG0_BAST_WIN) 1) = true → e.notes = [] → e.wdraw = false → h = s.dev.qhandle e.job → s.dev.takes h = true →
    Completes (.bastWindowExpire k) s fun t => t.dev.out = .hostNotice h (noteWord0 .closed e.job e.seq e.gen e.cause) 0
    :: s.dev.out ∧ t.dev.ent k.toNat = some { e with closed := true, closedTold := true } ∧ t.dev.rd (LG_EVT 1) = satN
    0xFFFF (s.dev.rd (LG_EVT 1) + 1) ∧ s.changes t
    { s.dev with led := { s.dev.led with ents := t.dev.led.ents, changed := t.dev.led.changed }, out := t.dev.out }
    [LG_EVT 1]) ∧
  (∀ (s : State) (k : BitVec 16) (e : Entry) (h : Nat), s.awake → s.dev.stopped = false → s.dev.ent k.toNat = some e →
    e.st.basty = true → e.closed = false → e.closedTold = false → s.dev.passed e.since (1000 * orDef (s.dev.rd
    LG_CFG0_BAST_WIN) 1) = true → e.wdraw = false → h = s.dev.qhandle e.job → s.dev.takes h = false → Completes
    (.bastWindowExpire k) s fun t => t.dev.ent k.toNat = some
    { e with closed := true, closedTold := true, notes := e.notes ++ [.closed] } ∧ t.dev.rd (LG_EVT 1) = satN 0xFFFF
    (s.dev.rd (LG_EVT 1) + 1) ∧ s.changes t
    { s.dev with led := { s.dev.led with ents := t.dev.led.ents, changed := t.dev.led.changed } } [LG_EVT 1]) ∧
  (∀ (s : State) (k : BitVec 16) (e : Entry), s.awake → s.dev.stopped = false → s.dev.ent k.toNat = some e → (e.st.basty
    = false ∨ e.closed = true ∨ s.dev.passed e.since (1000 * orDef (s.dev.rd LG_CFG0_BAST_WIN) 1) = false) → Completes
    (.bastWindowExpire k) s fun t => s.changes t s.dev []) ∧
  (∀ (s : State) (h : BitVec 32) (q : RunReq), s.awake → s.dev.stopped = false → s.dev.rp.owed = [q] → s.dev.rd
    LG_RP_QHANDLE_QHANDLE = h.toNat → h ≠ 0 → Completes (.runRequestRetry h true) s fun t => t.dev.out = .hostNotice
    h.toNat q.w0 q.w1 :: s.dev.out ∧ s.changes t
    { s.dev with hostFull := s.dev.hostFull.filter (· ≠ h.toNat), rp := { s.dev.rp with owed := [] }, out := t.dev.out }
    []) ∧
  (∀ (s : State) (h : BitVec 32) (x : Bool), s.awake → (s.dev.stopped = true ∨ s.dev.rp.owed = []) → Completes
    (.runRequestRetry h x) s fun t => s.changes t
    { s.dev with hostFull := if x then s.dev.hostFull.filter (· ≠ h.toNat) else if s.dev.hostFull.contains h.toNat then s.dev.hostFull else h.toNat :: s.dev.hostFull }
    []) ∧
  (∀ (s : State) (i : BitVec 10) (r : RRec) (run : Run), s.awake → s.dev.stopped = false → s.dev.recd i.toNat = some r →
    r.run = some run → run.kind ≤ 2 → s.dev.passed run.reqAt (1000 * orDef (s.dev.rd LG_RP_CFG0_RUN_WIN) 1) = true →
    Completes (.runLapse i) s fun t => t.dev.rd (LG_RP_CNT 5) = satN 0xFFFF (s.dev.rd (LG_RP_CNT 5) + 1) ∧ s.parts t
    { s.dev with rp := t.dev.rp, pat := t.dev.pat, out := t.dev.out }) ∧
  (∀ (s : State) (i : BitVec 10) (r : RRec), s.awake → s.dev.stopped = false → s.dev.recd i.toNat = some r → r.run =
    none → Completes (.runLapse i) s fun t => s.changes t s.dev []) ∧
  (∀ (s : State) (i : BitVec 10) (r : RRec) (a : Nat) (e : Entry), s.awake → s.dev.stopped = false → s.dev.recd i.toNat
    = some r → r.handAt = some a → r.verdict = .none → s.dev.passed a (1000 * orDef (s.dev.rd LG_RP_CFG0_GIVEUP) 1) =
    true → s.dev.rp.waiting = [] → s.dev.ent r.entry = some e → e.st = .basted → Completes (.verdictGiveup i) s fun t =>
    t.dev.rd (LG_RP_CNT 4) = satN 0xFFFF (s.dev.rd (LG_RP_CNT 4) + 1) ∧ t.dev.recd i.toNat = none ∧ (t.dev.ent
    r.entry).map (·.st) = some .poisoned ∧ s.parts t
    { s.dev with rp := t.dev.rp, led := t.dev.led, pat := t.dev.pat, out := t.dev.out, fc := t.dev.fc, pp := { s.dev.pp with tab := t.dev.pp.tab } }) ∧
  (∀ (s : State) (i : BitVec 10) (r : RRec), s.awake → s.dev.stopped = false → s.dev.recd i.toNat = some r → (r.handAt =
    none ∨ r.verdict ≠ .none) → Completes (.verdictGiveup i) s fun t => s.changes t s.dev []) ∧
  (∀ (s : State) (i : BitVec 10) (r : RRec) (a : Nat), s.awake → s.dev.stopped = false → s.dev.recd i.toNat = some r →
    r.phase = .repeat_ → r.run = none → r.repAt = some a → s.dev.passed a (1000 * orDef (s.dev.rd LG_RP_CFG0_REPEAT_WIN)
    1) = true → Completes (.repeatLapse i) s fun t => t.dev.rd (LG_RP_CNT 5) = satN 0xFFFF (s.dev.rd (LG_RP_CNT 5) + 1)
    ∧ s.parts t
    { s.dev with rp := t.dev.rp, led := t.dev.led, pat := t.dev.pat, out := t.dev.out, fc := t.dev.fc, pp := { s.dev.pp with tab := t.dev.pp.tab } }) ∧
  (∀ (s : State) (i : BitVec 10) (r : RRec), s.awake → s.dev.stopped = false → s.dev.recd i.toNat = some r → r.phase =
    .tiebreak → Completes (.repeatLapse i) s fun t => s.changes t s.dev []) ∧
  (∀ (s : State) (i : BitVec 10), s.awake → s.dev.stopped = true → Completes (.verdictGiveup i) s fun t => s.changes t
    s.dev []) ∧
  (∀ (s : State) (i : BitVec 10), s.awake → s.dev.stopped = true → Completes (.repeatLapse i) s fun t => s.changes t
    s.dev [])

/-- R210, R221, R222, R226, R228, R229, R241, R252: A report of a destination adds it to its entry and is accepted; of
an unknown entry it is accepted with no effect; in a stop, or after a later class of event, it waits. An owed notice is
sent again, counted, once it is due; a destination absent too long is given up, counted and reported. REPLACED sews an
entry UNPICKED for replacement; on another entry it is a conflict. LG_SEL and LG_RP_SEL latch the entry and the record
of the last boundary. Exec answers a next state with its own effect, for every state and operands that meet the
conditions of its clause: destReport, ledgerNoticeResend, destGiveup, replaced, lgSel, lgRpSel. -/
def Obligations.DestinationsAndReplacement : Prop :=
  (∀ (s : State) (tag : BitVec 64) (dst : BitVec 16), s.awake → s.dev.eventWaits (.report (outTagOf ⟨tag, 0xFFFF⟩)
    dst.toNat) = true → Completes (.destReport tag dst) s fun t => s.changes t
    { s.dev with led := { s.dev.led with later := s.dev.led.later ++ [(.report (outTagOf ⟨tag, 0xFFFF⟩) dst.toNat)] } }
    []) ∧
  (∀ (s : State) (tag : BitVec 64) (dst : BitVec 16), s.awake → s.dev.eventWaits (.report (outTagOf ⟨tag, 0xFFFF⟩)
    dst.toNat) = false → s.dev.ent (outTagOf ⟨tag, 0xFFFF⟩).index = none → Completes (.destReport tag dst) s fun t =>
    s.changes t
    { s.dev with led := { s.dev.led with cls := 4 }, out := .destAnswer (outTagOf ⟨tag, 0xFFFF⟩).index dst.toNat true :: s.dev.out }
    []) ∧
  (∀ (s : State) (tag : BitVec 64) (dst : BitVec 16) (p : Nat) (e : Entry), s.awake → s.dev.eventWaits (.report
    (outTagOf ⟨tag, 0xFFFF⟩) dst.toNat) = false → s.dev.ent (outTagOf ⟨tag, 0xFFFF⟩).index = some e → e.remote = false →
    e.job = (outTagOf ⟨tag, 0xFFFF⟩).job → e.seq % 2 ^ 32 = (outTagOf ⟨tag, 0xFFFF⟩).seq % 2 ^ 32 → s.dev.peerIx
    dst.toNat = some p → e.dests.any (·.peer = p) = false → e.dests.length < 16 → e.owes = none → Completes (.destReport
    tag dst) s fun t => t.dev.ent (outTagOf ⟨tag, 0xFFFF⟩).index = some { e with dests := e.dests ++ [⟨p, 0, none⟩] } ∧
    t.dev.out = .destAnswer (outTagOf ⟨tag, 0xFFFF⟩).index dst.toNat true :: s.dev.out ∧ s.changes t
    { s.dev with led := { s.dev.led with ents := t.dev.led.ents, cls := 4 }, out := t.dev.out } []) ∧
  (∀ (s : State) (tag : BitVec 64) (dst : BitVec 16) (p : Nat) (e : Entry), s.awake → s.dev.eventWaits (.report
    (outTagOf ⟨tag, 0xFFFF⟩) dst.toNat) = false → s.dev.ent (outTagOf ⟨tag, 0xFFFF⟩).index = some e → e.remote = false →
    e.job = (outTagOf ⟨tag, 0xFFFF⟩).job → e.seq % 2 ^ 32 = (outTagOf ⟨tag, 0xFFFF⟩).seq % 2 ^ 32 → s.dev.peerIx
    dst.toNat = some p → e.dests.any (·.peer = p) = false → 16 ≤ e.dests.length → e.st ≠ .sewn → Completes (.destReport
    tag dst) s fun t => t.dev.ent (outTagOf ⟨tag, 0xFFFF⟩).index = some { e with held := true } ∧ t.dev.out =
    .destAnswer (outTagOf ⟨tag, 0xFFFF⟩).index dst.toNat false :: s.dev.out ∧ s.changes t
    { s.dev with led := { s.dev.led with ents := t.dev.led.ents, cls := 4 }, out := t.dev.out } []) ∧
  (∀ (s : State) (tag : BitVec 64) (dst : BitVec 16) (p : Nat) (e : Entry), s.awake → s.dev.eventWaits (.report
    (outTagOf ⟨tag, 0xFFFF⟩) dst.toNat) = false → s.dev.ent (outTagOf ⟨tag, 0xFFFF⟩).index = some e → e.remote = false →
    e.job = (outTagOf ⟨tag, 0xFFFF⟩).job → e.seq % 2 ^ 32 = (outTagOf ⟨tag, 0xFFFF⟩).seq % 2 ^ 32 → s.dev.peerIx
    dst.toNat = some p → e.dests.any (·.peer = p) = false → 16 ≤ e.dests.length → e.st = .sewn → Completes (.destReport
    tag dst) s fun t => s.changes t
    { s.dev with led := { s.dev.led with cls := 4 }, out := [.entrySewn (outTagOf ⟨tag, 0xFFFF⟩).index, .destAnswer (outTagOf ⟨tag, 0xFFFF⟩).index dst.toNat false] ++ s.dev.out }
    []) ∧
  (∀ (s : State) (k : BitVec 16) (e : Entry) (x : Dest) (y : Peer), s.awake → s.dev.stopped = false → s.dev.ent k.toNat
    = some e → e.remote = false → e.st = .unpicked → e.dests = [x] → x.dack = 0 → s.dev.resendDue x = true → s.dev.peer
    x.peer = some y → y.st ≠ .absent → s.dev.portUp = true → s.dev.rd CK_STATUS_SEL ≠ 5 → Completes (.ledgerNoticeResend
    k) s fun t => t.dev.out = .peerMsg 0x10 y.addr (s.dev.message 0x10 y.addr (s.dev.nextSeq y.addr) 0 (s.dev.owedBody
    k.toNat e 2 e.wgen)) :: s.dev.out ∧ t.dev.ent k.toNat = some
    { e with dests := [{ x with sentAt := some s.dev.time.nbRun }] } ∧ t.dev.rd (LG_EVT 4) = satN 0xFFFF (s.dev.rd
    (LG_EVT 4) + 1) ∧ s.changes t
    { s.dev with led := { s.dev.led with ents := t.dev.led.ents }, pp := { s.dev.pp with tab := t.dev.pp.tab }, out := t.dev.out }
    [LG_EVT 4]) ∧
  (∀ (s : State) (k : BitVec 16) (e : Entry), s.awake → s.dev.stopped = false → s.dev.ent k.toNat = some e → e.owes =
    none → Completes (.ledgerNoticeResend k) s fun t => s.changes t s.dev []) ∧
  (∀ (s : State) (k : BitVec 16) (e : Entry) (p : BitVec 10) (x : Dest), s.awake → s.dev.stopped = false → s.dev.ent
    k.toNat = some e → e.remote = false → e.dests = [x] → x.peer = p.toNat → x.dack ≠ 2 → s.dev.longAbsent p.toNat =
    true → Completes (.destGiveup k p) s fun t => t.dev.ent k.toNat = some { e with dests := [{ x with dack := 2 }] } ∧
    t.dev.rd (LG_EVT 5) = satN 0xFFFF (s.dev.rd (LG_EVT 5) + 1) ∧ s.changes t
    { s.dev with led := { s.dev.led with ents := t.dev.led.ents }, fc := { s.dev.fc with raised := s.dev.fc.raised ++ [{ s.dev.report .ledger 2 central p.toNat with addr := k.toNat, master := 7 }] } }
    [LG_EVT 5]) ∧
  (∀ (s : State) (who : Fin 9) (k : BitVec 16) (e : Entry), s.awake → s.dev.ready = true → s.dev.recList = [] →
    s.dev.eventWaits (.replaced who.val k.toNat) = false → s.dev.ent k.toNat = some e → e.st = .unpicked → e.cause =
    .replaced → s.dev.ownsJob who e.job = true → e.remote = false → e.rslot = none → e.dests = [] → e.notes = [] →
    e.wdraw = false → e.held = false → Completes (.replaced who k) s fun t => t.dev.ent k.toNat = some
    { e with st := .sewn, cause := .none, spick := s.dev.time.count % 2 ^ 32, since := s.dev.time.nbRun, nbAt := s.dev.time.nb, closed := false, prods := [], reDone := false }
    ∧ .tagSewn (outTag k.toNat e.gen e.seq e.job) e.src ∈ t.dev.out ∧ s.changes t
    { s.dev with led := { s.dev.led with ents := t.dev.led.ents, changed := t.dev.led.changed, cls := 7 }, out := t.dev.out }
    []) ∧
  (∀ (s : State) (who : Fin 9) (k : BitVec 16), s.awake → s.dev.ready = false → Completes (.replaced who k) s fun t =>
    t.dev.rdB LG_STATUS_STATE_CONFLICT = true ∧ s.changes t s.dev [LG_STATUS_STATE_CONFLICT]) ∧
  (∀ (s : State) (who : Fin 9) (k : BitVec 16), s.awake → s.dev.ready = true → s.dev.eventWaits (.replaced who.val
    k.toNat) = false → ((s.dev.ent k.toNat).any (fun e => e.st = .unpicked && e.cause = .replaced && s.dev.ownsJob who
    e.job) = false) → Completes (.replaced who k) s fun t => t.dev.rdB LG_STATUS_STATE_CONFLICT = true ∧ s.changes t
    { s.dev with led := { s.dev.led with cls := 7 } } [LG_STATUS_STATE_CONFLICT]) ∧
  (∀ (s : State) (who : Fin 9) (k : BitVec 16), s.awake → s.dev.ready = true → s.dev.eventWaits (.replaced who.val
    k.toNat) = true → Completes (.replaced who k) s fun t => s.changes t
    { s.dev with led := { s.dev.led with later := s.dev.led.later ++ [.replaced who.val k.toNat] } } []) ∧
  (∀ (s : State) (k : BitVec 16), s.awake → Completes (.lgSel k) s fun t => t.dev.rd LG_SEL_INDEX = k.toNat ∧ (s.changes
    t
    { s.dev with led := { s.dev.led with window := match tget none s.dev.led.shown k.toNat with | some e => (List.range 16).map fun w => BitVec.ofNat 32 (entWord s.dev.led.shown k.toNat e w) | none => List.replicate 16 0 } }
    [LG_SEL_INDEX])) ∧
  (∀ (s : State) (i : BitVec 10), s.awake → Completes (.lgRpSel i) s fun t => t.dev.rd LG_RP_SEL_INDEX = i.toNat ∧
    (s.changes t
    { s.dev with rp := { s.dev.rp with window := match tget none s.dev.rp.shown i.toNat with | some x => (List.range 16).map fun w => BitVec.ofNat 32 (recWord x w) | none => List.replicate 16 0 } }
    [LG_RP_SEL_INDEX]))

/-- R274, R275, R277, R279, R281, R300: A malformed message is dropped and counted. PP_SELF is written once, from step 8
on. A HEARTBEAT is held for the next boundary. A PRESENT peer silent too long is ABSENT without grant, its requests in
flight given up; an unreferenced peer idle for EVICT bolts is freed. ADD, REMOVE and CLEAR change the memberships, with
an address not in the table LISTED; refused ones set STATE_CONFLICT or a RESULT. PP_PSEL latches an entry. Exec answers
a next state with its own effect, for every state and operands that meet the conditions of its clause: ppSelf,
heartbeat, peerAbsent, peerEvict, grpAdd, grpRemove, grpClear, ppPsel. -/
def Obligations.PeersAndGroups : Prop :=
  (∀ (s : State) (m : List Byte) (c : Instr) (t2 t3 : BitVec 12), s.awake → s.dev.selStop = false → s.dev.selfValid =
    true →     s.dev.badMsg (nats m) = true →     c ∈ [.barrierNotice ⟨m, false⟩, .slackNotice ⟨m, false⟩, .ledgerNotice
    ⟨m, false⟩, .destAck ⟨m, false⟩, .ledgerQuery ⟨m, false⟩, .heartbeat ⟨m, false⟩, .ringPlace ⟨m, false⟩, .dlv ⟨m,
    false⟩, .nack ⟨m, false⟩,       .loanGrant ⟨m, false⟩, .loanReturn ⟨m, false⟩, .timeReq ⟨m, false⟩ t2 t3, .timeReply
    ⟨m, false⟩ t2] →     Completes c s fun t => t.dev.rd PP_DROP_FORMAT = satN 0xFFFF (s.dev.rd PP_DROP_FORMAT + 1) ∧
    s.changes t s.dev [PP_DROP_FORMAT]) ∧
  (∀ (s : State) (a : BitVec 16), s.awake → s.dev.selfValid = false → 8 ≤ s.dev.start.step → a ≠ 0xFFFF → Completes
    (.ppSelf a) s fun t => t.dev.rd PP_SELF_ADDR = a.toNat ∧ t.dev.selfValid = true ∧ s.changes t s.dev [PP_SELF_ADDR,
    PP_STATUS_SELF_VALID]) ∧
  (∀ (s : State) (a : BitVec 16), s.awake → (s.dev.selfValid = true ∨ s.dev.start.step < 8) → Completes (.ppSelf a) s
    fun t => t.dev.rdB PP_STATUS_STATE_CONFLICT = true ∧ s.changes t s.dev [PP_STATUS_STATE_CONFLICT]) ∧
  (∀ (s : State), s.awake → s.dev.selfValid = false → 8 ≤ s.dev.start.step → Completes (.ppSelf 0xFFFF) s fun t =>
    s.changes t s.dev []) ∧
  (∀ (s : State) (m : List Byte), s.awake → s.dev.selStop = false → s.dev.selfValid = true → s.dev.badMsg (nats m) =
    false → mType (nats m) = 0x30 → Completes (.heartbeat ⟨m, false⟩) s fun t => s.changes t
    { s.dev with pp := { s.dev.pp with hbs := s.dev.pp.hbs ++ [{ src := mSrc (nats m), incarn := mBody (nats m) 0 4, grant := mBody (nats m) 4 1, kind := bitsOf (mBody (nats m) 5 1) 2 2 }] } }
    []) ∧
  (∀ (s : State) (m : List Byte), s.awake → s.dev.selStop = false → s.dev.selfValid = false → Completes (.heartbeat ⟨m,
    false⟩) s fun t => t.dev.rd PP_DROP_Y_TABLE = satN 0xFFFF (s.dev.rd PP_DROP_Y_TABLE + 1) ∧ s.changes t s.dev
    [PP_DROP_Y_TABLE]) ∧
  (∀ (s : State) (i : BitVec 10) (x : Peer), s.awake → s.dev.peer i.toNat = some x → x.st = .present → orDef (s.dev.rd
    PP_CFG0_MISS) 1 * orDef (s.dev.rd PP_CFG0_HB_PERIOD) 1 + 1 ≤ x.silent → Completes (.peerAbsent i) s fun t =>
    t.dev.peer i.toNat = some { x with st := .absent, grant := 0, idle := 0, absentAt := s.dev.time.nbRun } ∧
    (t.dev.pp.tx = s.dev.pp.tx.filter fun y => !(y.peer = i.toNat && y.flying)) ∧ (t.dev.rd PP_TX_STATUS_GIVEUP = satN
    0xFFFF (s.dev.rd PP_TX_STATUS_GIVEUP + (s.dev.pp.tx.filter fun y => y.peer = i.toNat && y.flying).length)) ∧
    s.changes t
    { s.dev with pp := { s.dev.pp with tab := t.dev.pp.tab, tx := t.dev.pp.tx, resv := t.dev.pp.resv }, led := { s.dev.led with ents := t.dev.led.ents }, fc := { s.dev.fc with raised := s.dev.fc.raised ++ [s.dev.report .peer 1 central i.toNat] } }
    [PP_TX_STATUS_GIVEUP]) ∧
  (∀ (s : State) (i : BitVec 10) (x : Peer), s.awake → s.dev.peer i.toNat = some x → (x.st ≠ .present ∨ x.silent < orDef
    (s.dev.rd PP_CFG0_MISS) 1 * orDef (s.dev.rd PP_CFG0_HB_PERIOD) 1 + 1) → Completes (.peerAbsent i) s fun t =>
    s.changes t s.dev []) ∧
  (∀ (s : State) (i : BitVec 10) (x : Peer), s.awake → s.dev.peer i.toNat = some x → x.st ≠ .present → s.dev.refs
    i.toNat = 0 → s.dev.rd PP_CFG0_EVICT ≤ x.idle → Completes (.peerEvict i) s fun t => t.dev.peer i.toNat = none ∧
    s.changes t
    { s.dev with pp := { s.dev.pp with tab := t.dev.pp.tab, timeReqs := s.dev.pp.timeReqs.filter (·.1 ≠ i.toNat), tx := s.dev.pp.tx.filter (·.peer ≠ i.toNat), resv := s.dev.pp.resv.filter (·.peer ≠ i.toNat) } }
    []) ∧
  (∀ (s : State) (i : BitVec 10) (x : Peer), s.awake → s.dev.peer i.toNat = some x → (x.st = .present ∨ s.dev.refs
    i.toNat ≠ 0 ∨ x.idle < s.dev.rd PP_CFG0_EVICT) → Completes (.peerEvict i) s fun t => s.changes t s.dev []) ∧
  (∀ (s : State) (g : BitVec 16) (i : Nat), s.awake → s.dev.ready = true → s.dev.peerIx (s.dev.rd PP_GRP_ADDR_ADDR) =
    some i → (g.toNat, i) ∉ s.dev.pp.grps → (g.toNat ∈ s.dev.groups ∨ s.dev.groups.length < 64) → s.dev.pp.grps.length <
    4096 → Completes (.grpAdd g) s fun t => t.dev.rd PP_GRP_STATUS_RESULT = 0 ∧ s.changes t
    { s.dev with pp := { s.dev.pp with grps := s.dev.pp.grps ++ [(g.toNat, i)] } } [PP_GRP_STATUS_RESULT]) ∧
  (∀ (s : State) (g : BitVec 16) (i : Nat), s.awake → s.dev.ready = true → s.dev.peerIx (s.dev.rd PP_GRP_ADDR_ADDR) =
    some i → (g.toNat, i) ∈ s.dev.pp.grps → Completes (.grpAdd g) s fun t => t.dev.rd PP_GRP_STATUS_RESULT = 0 ∧
    s.changes t s.dev [PP_GRP_STATUS_RESULT]) ∧
  (∀ (s : State) (g : BitVec 16) (i : Nat), s.awake → s.dev.ready = true → s.dev.peerIx (s.dev.rd PP_GRP_ADDR_ADDR) =
    none → s.dev.freePeer = some i → (g.toNat ∈ s.dev.groups ∨ s.dev.groups.length < 64) → s.dev.pp.grps.length < 4096 →
    Completes (.grpAdd g) s fun t => t.dev.rd PP_GRP_STATUS_RESULT = 0 ∧ t.dev.peer i = some
    { addr := s.dev.rd PP_GRP_ADDR_ADDR, st := .listed, kind := 0, grant := 0, incarn := 0, lastHb := 0, silent := 0, idle := 0, hbNow := false, sent := 0, rcvd := 0 }
    ∧ s.changes t { s.dev with pp := { s.dev.pp with grps := s.dev.pp.grps ++ [(g.toNat, i)], tab := t.dev.pp.tab } }
    [PP_GRP_STATUS_RESULT]) ∧
  (∀ (s : State) (g : BitVec 16), s.awake → s.dev.ready = true → s.dev.peerIx (s.dev.rd PP_GRP_ADDR_ADDR) = none →
    g.toNat ∉ s.dev.groups → 64 ≤ s.dev.groups.length → Completes (.grpAdd g) s fun t => t.dev.rd PP_GRP_STATUS_RESULT =
    2 ∧ s.changes t s.dev [PP_GRP_STATUS_RESULT]) ∧
  (∀ (s : State) (g : BitVec 16), s.awake → s.dev.ready = false → Completes (.grpAdd g) s fun t => t.dev.rdB
    PP_STATUS_STATE_CONFLICT = true ∧ s.changes t s.dev [PP_STATUS_STATE_CONFLICT]) ∧
  (∀ (s : State) (g : BitVec 16) (i : Nat), s.awake → s.dev.ready = true → s.dev.peerIx (s.dev.rd PP_GRP_ADDR_ADDR) =
    some i → (g.toNat, i) ∈ s.dev.pp.grps → Completes (.grpRemove g) s fun t => t.dev.rd PP_GRP_STATUS_RESULT = 0 ∧
    s.changes t { s.dev with pp := { s.dev.pp with grps := s.dev.pp.grps.filter (· ≠ (g.toNat, i)) } }
    [PP_GRP_STATUS_RESULT]) ∧
  (∀ (s : State) (g : BitVec 16), s.awake → (s.dev.ready = false ∨ s.dev.peerIx (s.dev.rd PP_GRP_ADDR_ADDR) = none) →
    Completes (.grpRemove g) s fun t => t.dev.rdB PP_STATUS_STATE_CONFLICT = true ∧ s.changes t s.dev
    [PP_STATUS_STATE_CONFLICT]) ∧
  (∀ (s : State) (g : BitVec 16), s.awake → s.dev.ready = true → g.toNat ∈ s.dev.groups → Completes (.grpClear g) s fun
    t => t.dev.rd PP_GRP_STATUS_RESULT = 0 ∧ s.changes t
    { s.dev with pp := { s.dev.pp with grps := s.dev.pp.grps.filter (·.1 ≠ g.toNat) } } [PP_GRP_STATUS_RESULT]) ∧
  (∀ (s : State) (g : BitVec 16), s.awake → (s.dev.ready = false ∨ g.toNat ∉ s.dev.groups) → Completes (.grpClear g) s
    fun t => t.dev.rdB PP_STATUS_STATE_CONFLICT = true ∧ s.changes t s.dev [PP_STATUS_STATE_CONFLICT]) ∧
  (∀ (s : State) (i : BitVec 10), s.awake → Completes (.ppPsel i) s fun t => t.dev.rd PP_PSEL_INDEX = i.toNat ∧
    s.changes t { s.dev with pp := { s.dev.pp with latched := s.dev.peerWords i.toNat } } [PP_PSEL_INDEX])

/-- R280, R282, R284, R285, R287, R300: SEND of a message that needs no reply fills its header and sends it, or holds it
in WAIT; of a request with a free slot, a free reservation and room in the outbound store it also keeps the request in
flight and a cell reserved. A malformed one, an unknown peer, no slot and no reservation answer RESULT 5, 3, 1 and 2.
DLV ends a request in flight; NACK sends it back to wait; it is sent again after RESEND_DELAY, or given up, counted and
reported after RESEND_MAX resends. CANCEL gives one up. Exec answers a next state with its own effect, for every state
and operands that meet the conditions of its clause: peerSend, peerSendCancel, dlv, nack, peerResend,
replyReservationExpire. -/
def Obligations.RequestsAreSent : Prop :=
  (∀ (s : State) (i : BitVec 10) (q : BitVec 12), s.awake → formOk s.dev.txBuf = false → Completes (.peerSend i q) s fun
    t => t.dev.rd PP_TX_STATUS_RESULT = 5 ∧ s.changes t s.dev [PP_TX_STATUS_RESULT]) ∧
  (∀ (s : State) (i : BitVec 10) (q : BitVec 12), s.awake → formOk s.dev.txBuf = true → bodyOk s.dev.txBuf = true →
    mType s.dev.txBuf ≠ 0x3E → mType s.dev.txBuf ≠ 0x3F → (s.dev.peer i.toNat = none ∨ s.dev.portUp = false) → Completes
    (.peerSend i q) s fun t => t.dev.rd PP_TX_STATUS_RESULT = 3 ∧ s.changes t s.dev [PP_TX_STATUS_RESULT]) ∧
  (∀ (s : State) (i : BitVec 10) (q : BitVec 12) (x : Peer), s.awake → formOk s.dev.txBuf = true → bodyOk s.dev.txBuf =
    true → s.dev.peer i.toNat = some x → s.dev.peerIx x.addr = some i.toNat → s.dev.portUp = true → isRequest (mType
    s.dev.txBuf) = false → mType s.dev.txBuf ≠ 2 → mType s.dev.txBuf ≠ 0x3E → mType s.dev.txBuf ≠ 0x3F → s.dev.rd
    CK_STATUS_SEL ≠ 5 → Completes (.peerSend i q) s fun t => t.dev.rd PP_TX_STATUS_RESULT = 0 ∧ t.dev.peer i.toNat =
    some { x with sent := (x.sent + 1) % 2 ^ 32 } ∧ t.dev.out = .peerMsg (mType s.dev.txBuf) x.addr (s.dev.filled
    s.dev.txBuf x.addr q.toNat) :: s.dev.out ∧ s.changes t
    { s.dev with pp := { s.dev.pp with tab := t.dev.pp.tab }, out := t.dev.out } [PP_TX_STATUS_RESULT]) ∧
  (∀ (s : State) (i : BitVec 10) (q : BitVec 12) (x : Peer), s.awake → formOk s.dev.txBuf = true → bodyOk s.dev.txBuf =
    true → s.dev.peer i.toNat = some x → s.dev.peerIx x.addr = some i.toNat → s.dev.portUp = true → isRequest (mType
    s.dev.txBuf) = true → x.st = .present → (mType s.dev.txBuf = 1 → s.dev.mayLoan i.toNat = true) → s.dev.flying
    i.toNat < x.grant → s.dev.pp.resv.length < s.dev.rd PP_RING_RES_RES_MAX → s.dev.pp.resv.length < s.dev.ringFree →
    s.dev.txCells + mCells s.dev.txBuf ≤ 128 → s.dev.rd CK_STATUS_SEL ≠ 5 → Completes (.peerSend i q) s fun t =>
    t.dev.rd PP_TX_STATUS_RESULT = 0 ∧ t.dev.peer i.toNat = some { x with sent := (x.sent + 1) % 2 ^ 32 } ∧ t.dev.out =
    .peerMsg (mType s.dev.txBuf) x.addr (s.dev.filled s.dev.txBuf x.addr q.toNat) :: s.dev.out ∧ t.dev.pp.tx =
    s.dev.pp.tx ++ [⟨i.toNat, mType s.dev.txBuf, s.dev.nextSeq x.addr, s.dev.filled s.dev.txBuf x.addr q.toNat, true, 0,
    0⟩] ∧ t.dev.pp.resv = s.dev.pp.resv ++ [⟨i.toNat, mType s.dev.txBuf, s.dev.nextSeq x.addr, mBody s.dev.txBuf 4 4,
    mBody s.dev.txBuf 0 4, s.dev.time.nbRun⟩] ∧ s.changes t
    { s.dev with pp := { s.dev.pp with tab := t.dev.pp.tab, tx := t.dev.pp.tx, resv := t.dev.pp.resv }, out := t.dev.out }
    [PP_TX_STATUS_RESULT]) ∧
  (∀ (s : State) (i : BitVec 10) (q : BitVec 12) (x : Peer), s.awake → formOk s.dev.txBuf = true → bodyOk s.dev.txBuf =
    true → s.dev.peer i.toNat = some x → s.dev.peerIx x.addr = some i.toNat → s.dev.portUp = true → isRequest (mType
    s.dev.txBuf) = true → x.st = .present → (mType s.dev.txBuf = 1 → s.dev.mayLoan i.toNat = true) → x.grant ≤
    s.dev.flying i.toNat → Completes (.peerSend i q) s fun t => t.dev.rd PP_TX_STATUS_RESULT = 1 ∧ s.changes t s.dev
    [PP_TX_STATUS_RESULT]) ∧
  (∀ (s : State) (i : BitVec 10) (q : BitVec 12) (x : Peer), s.awake → formOk s.dev.txBuf = true → bodyOk s.dev.txBuf =
    true → s.dev.peer i.toNat = some x → s.dev.peerIx x.addr = some i.toNat → s.dev.portUp = true → isRequest (mType
    s.dev.txBuf) = true → x.st = .present → (mType s.dev.txBuf = 1 → s.dev.mayLoan i.toNat = true) → s.dev.flying
    i.toNat < x.grant → (s.dev.rd PP_RING_RES_RES_MAX ≤ s.dev.pp.resv.length ∨ s.dev.ringFree ≤ s.dev.pp.resv.length) →
    Completes (.peerSend i q) s fun t => t.dev.rd PP_TX_STATUS_RESULT = 2 ∧ s.changes t s.dev [PP_TX_STATUS_RESULT]) ∧
  (∀ (s : State) (i : BitVec 10) (x : TxReq), s.awake → s.dev.pp.tx = [x] → x.peer = i.toNat → x.flying = false →
    Completes (.peerSendCancel i) s fun t => t.dev.rd PP_TX_STATUS_GIVEUP = satN 0xFFFF (s.dev.rd PP_TX_STATUS_GIVEUP +
    1) ∧ (s.changes t
    { s.dev with pp := { s.dev.pp with tx := [], resv := s.dev.pp.resv.filter fun r => !(x.peer = r.peer && x.seq = r.seq) } }
    [PP_TX_STATUS_GIVEUP])) ∧
  (∀ (s : State) (i : BitVec 10), s.awake → (∀ x ∈ s.dev.pp.tx, x.peer = i.toNat → x.flying = true) → Completes
    (.peerSendCancel i) s fun t => t.dev.rdB PP_STATUS_STATE_CONFLICT = true ∧ s.changes t s.dev
    [PP_STATUS_STATE_CONFLICT]) ∧
  (∀ (s : State) (m : List Byte) (i : Nat), s.awake → s.dev.selStop = false → s.dev.selfValid = true → s.dev.badMsg
    (nats m) = false → mType (nats m) = 0x3E → s.dev.peerIx (mSrc (nats m)) = some i → Completes (.dlv ⟨m, false⟩) s fun
    t => (s.changes t
    { s.dev with pp := { s.dev.pp with tx := s.dev.pp.tx.filter fun x => !(x.peer = i && x.seq = mBody (nats m) 0 2 && x.flying) } }
    [])) ∧
  (∀ (s : State) (m : List Byte) (i : Nat), s.awake → s.dev.selStop = false → s.dev.selfValid = true → s.dev.badMsg
    (nats m) = false → mType (nats m) = 0x3F → s.dev.peerIx (mSrc (nats m)) = some i → Completes (.nack ⟨m, false⟩) s
    fun t => (s.changes t
    { s.dev with pp := { s.dev.pp with tx := s.dev.pp.tx.map fun x => if x.peer = i ∧ x.seq = mBody (nats m) 0 2 ∧ x.flying then { x with flying := false, nackAt := s.dev.time.nbRun } else x } }
    [])) ∧
  (∀ (s : State) (i : BitVec 10) (q : BitVec 16) (x : TxReq) (y : Peer), s.awake → s.dev.pp.tx = [x] → x.peer = i.toNat
    → x.seq = q.toNat → x.flying = false → s.dev.peer i.toNat = some y → s.dev.expired x.nackAt (orDef (s.dev.rd
    PP_CFG1_RESEND_DELAY) 1) = true → x.resends < s.dev.rd PP_CFG1_RESEND_MAX → s.dev.portUp = true → 0 < y.grant →
    s.dev.rd CK_STATUS_SEL ≠ 5 → Completes (.peerResend i q) s fun t => s.changes t
    { s.dev with pp := { s.dev.pp with tx := [{ x with flying := true, resends := x.resends + 1 }] }, out := .peerMsg x.typ y.addr x.bytes :: s.dev.out }
    []) ∧
  (∀ (s : State) (i : BitVec 10) (q : BitVec 16) (x : TxReq) (y : Peer), s.awake → s.dev.pp.tx = [x] → x.peer = i.toNat
    → x.seq = q.toNat → x.flying = false → s.dev.peer i.toNat = some y → s.dev.expired x.nackAt (orDef (s.dev.rd
    PP_CFG1_RESEND_DELAY) 1) = true → s.dev.rd PP_CFG1_RESEND_MAX ≤ x.resends → Completes (.peerResend i q) s fun t =>
    t.dev.rd PP_TX_STATUS_GIVEUP = satN 0xFFFF (s.dev.rd PP_TX_STATUS_GIVEUP + 1) ∧ (s.changes t
    { s.dev with pp := { s.dev.pp with tx := [], resv := s.dev.pp.resv.filter fun r => !(x.peer = r.peer && x.seq = r.seq) }, fc := { s.dev.fc with raised := s.dev.fc.raised ++ [s.dev.report .peer 4 central i.toNat] } }
    [PP_TX_STATUS_GIVEUP])) ∧
  (∀ (s : State) (i : BitVec 10) (q : BitVec 16), s.awake → (∀ x ∈ s.dev.pp.tx, x.peer = i.toNat → x.seq = q.toNat →
    x.flying = true) → Completes (.peerResend i q) s fun t => s.changes t s.dev []) ∧
  (∀ (s : State) (i : BitVec 10) (q : BitVec 16), s.awake → Completes (.replyReservationExpire i q) s fun t =>
    (s.changes t
    { s.dev with pp := { s.dev.pp with resv := s.dev.pp.resv.filter fun r => !(r.peer = i.toNat && r.seq = q.toNat && s.dev.expired r.at_ (1000 * orDef (s.dev.rd PP_CFG1_REPLY_WAIT) 1)) } }
    [])) ∧
  (∀ (s : State) (i : BitVec 10) (q : BitVec 12) (x : Peer), s.awake → formOk s.dev.txBuf = true → bodyOk s.dev.txBuf =
    true → s.dev.peer i.toNat = some x → s.dev.peerIx x.addr = some i.toNat → s.dev.portUp = true → isRequest (mType
    s.dev.txBuf) = false → mType s.dev.txBuf ≠ 2 → mType s.dev.txBuf ≠ 0x3E → mType s.dev.txBuf ≠ 0x3F → s.dev.rd
    CK_STATUS_SEL = 5 → Completes (.peerSend i q) s fun t => t.dev.rd PP_TX_STATUS_RESULT = 0 ∧ t.dev.peer i.toNat =
    some { x with sent := (x.sent + 1) % 2 ^ 32 } ∧ t.dev.pp.hold = s.dev.pp.hold ++ [.peerMsg (mType s.dev.txBuf)
    x.addr (s.dev.filled s.dev.txBuf x.addr q.toNat)] ∧ s.changes t
    { s.dev with pp := { s.dev.pp with tab := t.dev.pp.tab, hold := t.dev.pp.hold } } [PP_TX_STATUS_RESULT])

/-- R288, R289, R290, R299, R407: A request that fits at the tail is stored there, all other bytes of the SRAM
unchanged, TAIL moves past it and the ring interrupt is raised; in WAIT its DLV is held; one that does not fit waits in
staging while there is room. A message beyond the offered grant is refused and counted. Staged messages older than
STAGE_LIMIT are discarded and counted. A write of HEAD to a message boundary frees the cells before it, any other is a
conflict. Exec answers a next state with its own effect, for every state and operands that meet the conditions of its
clause: ringPlace, stagingPlace, stageLimitExpire, ringHeadWrite. -/
def Obligations.RingAndStaging : Prop :=
  (∀ (s : State) (m : List Byte), s.awake → s.dev.selStop = false → s.dev.selfValid = true → s.dev.badMsg (nats m) =
    false → isRequest (mType (nats m)) = true → (s.dev.peerIx (mSrc (nats m))).isSome = true → (s.dev.pp.staged.filter
    (·.src = mSrc (nats m))).length < s.dev.rd PP_CFG0_GRANT_OFFER → mCells (nats m) + s.dev.pp.resv.length ≤
    s.dev.ringFree → mCells (nats m) ≤ 4096 - s.dev.ringTail → s.dev.rd CK_STATUS_SEL ≠ 5 → Completes (.ringPlace ⟨m,
    false⟩) s fun t => t.dev.rd PP_RING_TAIL_TAIL = (s.dev.ringTail + mCells (nats m)) % 4096 ∧ t.dev.pp.ring =
    s.dev.pp.ring ++ [⟨s.dev.ringTail, mCells (nats m), false⟩] ∧ (∀ o : Nat, t.dev.byte o = if s.dev.ringBase + 64 *
    s.dev.ringTail ≤ o ∧ o < s.dev.ringBase + 64 * s.dev.ringTail + (nats m).length then BitVec.ofNat 8 ((nats m).getD
    (o - (s.dev.ringBase + 64 * s.dev.ringTail)) 0) else s.dev.byte o) ∧ s.changes t
    { s.dev with pp := { s.dev.pp with ring := t.dev.pp.ring, tab := t.dev.pp.tab }, sram := t.dev.sram, out := t.dev.out }
    [PP_RING_TAIL_TAIL]) ∧
  (∀ (s : State) (m : List Byte), s.awake → s.dev.selStop = false → s.dev.selfValid = true → s.dev.badMsg (nats m) =
    false → isRequest (mType (nats m)) = true → (s.dev.peerIx (mSrc (nats m))).isSome = true → (s.dev.pp.staged.filter
    (·.src = mSrc (nats m))).length < s.dev.rd PP_CFG0_GRANT_OFFER → s.dev.ringFree < mCells (nats m) +
    s.dev.pp.resv.length → s.dev.stagedCells + mCells (nats m) ≤ 64 → Completes (.ringPlace ⟨m, false⟩) s fun t =>
    s.changes t
    { s.dev with pp := { s.dev.pp with staged := s.dev.pp.staged ++ [⟨mSrc (nats m), mSeq (nats m), nats m, s.dev.time.nbRun⟩] } }
    []) ∧
  (∀ (s : State) (m : List Byte), s.awake → s.dev.selStop = false → s.dev.selfValid = true → s.dev.badMsg (nats m) =
    false → isRequest (mType (nats m)) = true → (s.dev.peerIx (mSrc (nats m))).isSome = true → (s.dev.pp.staged.filter
    (·.src = mSrc (nats m))).length < s.dev.rd PP_CFG0_GRANT_OFFER → s.dev.ringFree < mCells (nats m) +
    s.dev.pp.resv.length → 64 < s.dev.stagedCells + mCells (nats m) → s.dev.rd CK_STATUS_SEL ≠ 5 → Completes (.ringPlace
    ⟨m, false⟩) s fun t => t.dev.rd PP_DROP_X_FULL = satN 0xFFFF (s.dev.rd PP_DROP_X_FULL + 1) ∧ s.changes t
    { s.dev with out := t.dev.out } [PP_DROP_X_FULL]) ∧
  (∀ (s : State) (m : List Byte), s.awake → s.dev.selStop = false → s.dev.selfValid = true → s.dev.badMsg (nats m) =
    false → isRequest (mType (nats m)) = true → s.dev.rd PP_CFG0_GRANT_OFFER ≤ (s.dev.pp.staged.filter (·.src = mSrc
    (nats m))).length → s.dev.rd CK_STATUS_SEL ≠ 5 → Completes (.ringPlace ⟨m, false⟩) s fun t => t.dev.rd
    PP_DROP_X_GRANT = satN 0xFFFF (s.dev.rd PP_DROP_X_GRANT + 1) ∧ s.changes t { s.dev with out := t.dev.out }
    [PP_DROP_X_GRANT]) ∧
  (∀ (s : State) (x : Staged) (l : List Staged), s.awake → s.dev.pp.staged = x :: l → divUp x.bytes.length 64 +
    s.dev.pp.resv.length ≤ s.dev.ringFree → divUp x.bytes.length 64 ≤ 4096 - s.dev.ringTail → s.dev.rd CK_STATUS_SEL ≠ 5
    → Completes .stagingPlace s fun t => t.dev.rd PP_RING_TAIL_TAIL = (s.dev.ringTail + divUp x.bytes.length 64) % 4096
    ∧ s.changes t
    { s.dev with pp := { s.dev.pp with staged := l, ring := s.dev.pp.ring ++ [⟨s.dev.ringTail, divUp x.bytes.length 64, false⟩], tab := t.dev.pp.tab }, sram := t.dev.sram, out := t.dev.out }
    [PP_RING_TAIL_TAIL]) ∧
  (∀ (s : State), s.awake → s.dev.pp.staged = [] → Completes .stagingPlace s fun t => s.changes t s.dev []) ∧
  (∀ (s : State) (x : Staged), s.awake → s.dev.pp.staged = [x] → s.dev.expired x.at_ (orDef (s.dev.rd
    PP_CFG1_STAGE_LIMIT) 1) = true → s.dev.rd CK_STATUS_SEL ≠ 5 → Completes .stageLimitExpire s fun t => t.dev.rd
    PP_DROP_STAGED = satN 0xFFFF (s.dev.rd PP_DROP_STAGED + 1) ∧ s.changes t
    { s.dev with pp := { s.dev.pp with staged := [] }, out := t.dev.out } [PP_DROP_STAGED]) ∧
  (∀ (s : State), s.awake → (∀ x ∈ s.dev.pp.staged, s.dev.expired x.at_ (orDef (s.dev.rd PP_CFG1_STAGE_LIMIT) 1) =
    false) → Completes .stageLimitExpire s fun t => s.changes t s.dev []) ∧
  (∀ (s : State) (v : BitVec 12) (k : Nat), s.awake → ringBoundary s.dev.ringTail v.toNat s.dev.pp.ring = some k →
    Completes (.ringHeadWrite v) s fun t => t.dev.rd PP_RING_HEAD_HEAD = v.toNat ∧ s.changes t
    { s.dev with pp := { s.dev.pp with ring := s.dev.pp.ring.drop k } } [PP_RING_HEAD_HEAD]) ∧
  (∀ (s : State) (v : BitVec 12), s.awake → ringBoundary s.dev.ringTail v.toNat s.dev.pp.ring = none → Completes
    (.ringHeadWrite v) s fun t => t.dev.rdB PP_STATUS_STATE_CONFLICT = true ∧ s.changes t s.dev
    [PP_STATUS_STATE_CONFLICT]) ∧
  (∀ (s : State) (m : List Byte), s.awake → s.dev.selStop = false → s.dev.selfValid = true → s.dev.badMsg (nats m) =
    false → isRequest (mType (nats m)) = true → (s.dev.peerIx (mSrc (nats m))).isSome = true → (s.dev.pp.staged.filter
    (·.src = mSrc (nats m))).length < s.dev.rd PP_CFG0_GRANT_OFFER → s.dev.rd CK_STATUS_SEL = 5 → mCells (nats m) +
    s.dev.pp.resv.length ≤ s.dev.ringFree → mCells (nats m) ≤ 4096 - s.dev.ringTail → Completes (.ringPlace ⟨m, false⟩)
    s fun t => t.dev.rd PP_RING_TAIL_TAIL = (s.dev.ringTail + mCells (nats m)) % 4096 ∧ t.dev.pp.ring = s.dev.pp.ring ++
    [⟨s.dev.ringTail, mCells (nats m), false⟩] ∧ t.dev.pp.hold.length = s.dev.pp.hold.length + 1 ∧ (∀ o : Nat,
    t.dev.byte o = if s.dev.ringBase + 64 * s.dev.ringTail ≤ o ∧ o < s.dev.ringBase + 64 * s.dev.ringTail + (nats
    m).length then BitVec.ofNat 8 ((nats m).getD (o - (s.dev.ringBase + 64 * s.dev.ringTail)) 0) else s.dev.byte o) ∧
    s.changes t
    { s.dev with pp := { s.dev.pp with ring := t.dev.pp.ring, tab := t.dev.pp.tab, hold := t.dev.pp.hold }, sram := t.dev.sram, out := t.dev.out }
    [PP_RING_TAIL_TAIL])

/-- R188, R194, R222, R224, R225, R228, R286: A SEW that names a BASTED proxy at its generation makes it SEWN; a
DEST-ACK of an owed UNPICK advances the destination's DACK; a QUERY of an unknown entry is answered FREED. In a global
stop, and after a later class of event, ledger messages wait in the inbound queue, and a full queue drops and counts. A
barrier or slack notice of a known group is noted as its sender's latest; of an unknown group it is dropped and counted;
without RACK_FEAT it does nothing. Exec answers a next state with its own effect, for every state and operands that meet
the conditions of its clause: ledgerNotice, destAck, ledgerQuery, barrierNotice, slackNotice. -/
def Obligations.NoticesBetweenLedgers : Prop :=
  (∀ (s : State) (m : List Byte) (i p : Nat) (e : Entry), s.awake → s.dev.selStop = false → s.dev.selfValid = true →
    s.dev.badMsg (nats m) = false → mType (nats m) = 0x10 → mBody (nats m) 8 1 = 1 → s.dev.stopped = false →
    s.dev.led.cls ≤ 5 → s.dev.peerIx (mSrc (nats m)) = some p → s.dev.proxyIx (mTag (nats m)) = some i → s.dev.ent i =
    some e → e.st = .basted → e.gen = (mTag (nats m)).gen → s.dev.rd CK_STATUS_SEL ≠ 5 → Completes (.ledgerNotice ⟨m,
    false⟩) s fun t => (t.dev.ent i).map (·.st) = some .sewn ∧ s.changes t
    { s.dev with led := { s.dev.led with cls := 5, ents := t.dev.led.ents, changed := t.dev.led.changed }, pp := { s.dev.pp with tab := t.dev.pp.tab }, out := t.dev.out }
    []) ∧
  (∀ (s : State) (m : List Byte), s.awake → s.dev.selStop = false → s.dev.selfValid = true → s.dev.badMsg (nats m) =
    false → mType (nats m) = 0x10 → mBody (nats m) 8 1 ≠ 4 → (s.dev.stopped = true ∨ 5 < s.dev.led.cls) →
    s.dev.pp.ledQ.length < 256 → Completes (.ledgerNotice ⟨m, false⟩) s fun t => s.changes t
    { s.dev with pp := { s.dev.pp with ledQ := s.dev.pp.ledQ ++ [(mSrc (nats m), nats m)], tab := t.dev.pp.tab } } []) ∧
  (∀ (s : State) (m : List Byte), s.awake → s.dev.selStop = false → s.dev.selfValid = true → s.dev.badMsg (nats m) =
    false → mType (nats m) = 0x10 → mBody (nats m) 8 1 ≠ 4 → (s.dev.stopped = true ∨ 5 < s.dev.led.cls) → 256 ≤
    s.dev.pp.ledQ.length → Completes (.ledgerNotice ⟨m, false⟩) s fun t => t.dev.rd PP_DROP_Y_LEDGER = satN 0xFFFF
    (s.dev.rd PP_DROP_Y_LEDGER + 1) ∧ s.changes t s.dev [PP_DROP_Y_LEDGER]) ∧
  (∀ (s : State) (m : List Byte) (p : Nat) (e : Entry), s.awake → s.dev.selStop = false → s.dev.selfValid = true →
    s.dev.badMsg (nats m) = false → mType (nats m) = 0x10 → mBody (nats m) 8 1 = 4 → mBody (nats m) 9 1 = 2 →
    s.dev.stopped = false → s.dev.led.cls ≤ 5 → s.dev.peerIx (mSrc (nats m)) = some p → s.dev.ent (mTag (nats m)).index
    = some e → e.remote = false → e.job = (mTag (nats m)).job → e.seq % 2 ^ 32 = (mTag (nats m)).seq % 2 ^ 32 → (e.st =
    .unpicked ∨ e.st = .poisoned) → e.wgen = (mTag (nats m)).gen → Completes (.destAck ⟨m, false⟩) s fun t => (t.dev.ent
    (mTag (nats m)).index = some
    { e with dests := e.dests.map fun x => if x.peer = p then { x with dack := max x.dack 1 } else x }) ∧ s.changes t
    { s.dev with led := { s.dev.led with cls := 5, ents := t.dev.led.ents }, pp := { s.dev.pp with tab := t.dev.pp.tab } }
    []) ∧
  (∀ (s : State) (m : List Byte), s.awake → s.dev.selStop = false → s.dev.selfValid = true → s.dev.badMsg (nats m) =
    false → mType (nats m) = 0x10 → mBody (nats m) 8 1 = 4 → mBody (nats m) 9 1 = 0 → s.dev.stopped = false →
    s.dev.led.cls ≤ 5 → s.dev.ent (mTag (nats m)).index = none → s.dev.peerIx (mSrc (nats m)) = none → s.dev.rd
    CK_STATUS_SEL ≠ 5 → Completes (.ledgerQuery ⟨m, false⟩) s fun t => t.dev.out = .peerMsg 0x10 (mSrc (nats m))
    (s.dev.message 0x10 (mSrc (nats m)) (s.dev.nextSeq (mSrc (nats m))) 0 (s.dev.noticeBody (outTag (mTag (nats
    m)).index (mTag (nats m)).gen (mTag (nats m)).seq (mTag (nats m)).job) 1 0 0 true)) :: s.dev.out ∧ s.changes t
    { s.dev with led := { s.dev.led with cls := 5 }, out := t.dev.out } []) ∧
  (∀ (s : State) (m : List Byte) (p : Nat) (e : Entry), s.awake → s.dev.selStop = false → s.dev.selfValid = true →
    s.dev.badMsg (nats m) = false → mType (nats m) = 0x10 → mBody (nats m) 8 1 = 4 → mBody (nats m) 9 1 = 0 →
    s.dev.stopped = false → s.dev.led.cls ≤ 5 → s.dev.peerIx (mSrc (nats m)) = some p → s.dev.ent (mTag (nats m)).index
    = some e → e.remote = false → e.job = (mTag (nats m)).job → e.seq % 2 ^ 32 = (mTag (nats m)).seq % 2 ^ 32 → e.st =
    .open_ → e.dests.any (·.peer = p) = false → e.dests.length < 16 → Completes (.ledgerQuery ⟨m, false⟩) s fun t =>
    t.dev.ent (mTag (nats m)).index = some { e with dests := e.dests ++ [⟨p, 0, none⟩] } ∧ s.changes t
    { s.dev with led := { s.dev.led with cls := 5, ents := t.dev.led.ents }, pp := { s.dev.pp with tab := t.dev.pp.tab } }
    []) ∧
  (∀ (s : State) (m : List Byte) (i : Nat) (b : BarGroup), s.awake → s.dev.selStop = false → s.dev.selfValid = true →
    s.dev.badMsg (nats m) = false → mType (nats m) = 4 → s.dev.rdB TB_STATUS_RACK_FEAT = true → s.dev.pp.grpsEff.any
    (·.1 = mBody (nats m) 0 2) = true → (s.dev.barList.find? (fun x => x.2.group = mBody (nats m) 0 2) = some (i, b)) →
    Completes (.barrierNotice ⟨m, false⟩) s fun t => tget none t.dev.bud.bars i = some
    { b with heard := (b.heard.filter (·.1 ≠ mSrc (nats m))) ++ [(mSrc (nats m), 0)] } ∧ s.changes t
    { s.dev with bud := { s.dev.bud with bars := t.dev.bud.bars }, pp := { s.dev.pp with tab := t.dev.pp.tab } } []) ∧
  (∀ (s : State) (m : List Byte), s.awake → s.dev.selStop = false → s.dev.selfValid = true → s.dev.badMsg (nats m) =
    false → mType (nats m) = 4 → s.dev.rdB TB_STATUS_RACK_FEAT = true → s.dev.pp.grpsEff.any (·.1 = mBody (nats m) 0 2)
    = false → s.dev.armedGroups.contains (mBody (nats m) 0 2) = false → Completes (.barrierNotice ⟨m, false⟩) s fun t =>
    t.dev.rd PP_DROP_Z_STATE = satN 0xFFFF (s.dev.rd PP_DROP_Z_STATE + 1) ∧ s.changes t s.dev [PP_DROP_Z_STATE]) ∧
  (∀ (s : State) (m : List Byte), s.awake → s.dev.selStop = false → s.dev.selfValid = true → s.dev.badMsg (nats m) =
    false → mType (nats m) = 4 → s.dev.rdB TB_STATUS_RACK_FEAT = false → Completes (.barrierNotice ⟨m, false⟩) s fun t
    => s.changes t s.dev []) ∧
  (∀ (s : State) (m : List Byte) (i : Nat) (w : Win), s.awake → s.dev.selStop = false → s.dev.selfValid = true →
    s.dev.badMsg (nats m) = false → mType (nats m) = 5 → s.dev.rdB TB_STATUS_RACK_FEAT = true → (s.dev.openWins.filter
    (fun x => x.2.group = mBody (nats m) 0 2) = [(i, w)]) → Completes (.slackNotice ⟨m, false⟩) s fun t => t.dev.win i =
    some { w with heard := (w.heard.filter (·.1 ≠ mSrc (nats m))) ++ [(mSrc (nats m), mBody (nats m) 2 1)] } ∧ s.changes
    t { s.dev with bud := { s.dev.bud with wins := t.dev.bud.wins }, pp := { s.dev.pp with tab := t.dev.pp.tab } } []) ∧
  (∀ (s : State) (m : List Byte), s.awake → s.dev.selStop = false → s.dev.selfValid = true → s.dev.badMsg (nats m) =
    false → mType (nats m) = 5 → s.dev.rdB TB_STATUS_RACK_FEAT = true → s.dev.pp.grpsEff.any (·.1 = mBody (nats m) 0 2)
    = false → s.dev.openWins.any (·.2.group = mBody (nats m) 0 2) = false → Completes (.slackNotice ⟨m, false⟩) s fun t
    => t.dev.rd PP_DROP_Z_STATE = satN 0xFFFF (s.dev.rd PP_DROP_Z_STATE + 1) ∧ s.changes t s.dev [PP_DROP_Z_STATE])

/-- R191, R291, R292, R293, R294, R295, R298, R300: A grant that matches a reservation is entered in the lowest free
borrowed entry and put in the ring; one that matches none is counted late; in a global stop a grant lands in the ring
and waits, as a return does. A return is noted on its lent entry. A borrowed loan that ends leaves the table and SP and
is sent back; a lent one out of time is credited. PP_RACK_CAP takes the passed value once. A TIME_REQ is answered, in
WAIT once boundaries resume; a TIME_REPLY that answers none is malformed. Exec answers a next state with its own effect,
for every state and operands that meet the conditions of its clause: loanGrant, loanReturn, loanEnd, loanCreditTimeout,
loanReturnCmd, ppRackCap, timeReq, timeReply. -/
def Obligations.LoansAndTime : Prop :=
  (∀ (s : State) (m : List Byte) (p n : Nat), s.awake → s.dev.selStop = false → s.dev.selfValid = true → s.dev.badMsg
    (nats m) = false → mType (nats m) = 2 → s.dev.stopped = false → s.dev.peerIx (mSrc (nats m)) = some p →
    s.dev.grantOk p (nats m) = true → mBody (nats m) 0 4 ≠ 0 → n = s.dev.freeLoan → n < 32 → Completes (.loanGrant ⟨m,
    false⟩) s fun t => t.dev.loan n = some
    { peer := p, amount := mBody (nats m) 0 4, id := mBody (nats m) 4 4, expiry := mBody (nats m) 8 8, inForce := false, at_ := 0, ending := false, returned := 0 }
    ∧ t.dev.rd PP_RING_TAIL_TAIL = (s.dev.ringTail + divUp (nats m).length 64) % 4096 ∧ (s.changes t
    { s.dev with pp := { s.dev.pp with loans := t.dev.pp.loans, tab := t.dev.pp.tab, ring := s.dev.pp.ring ++ [⟨s.dev.ringTail, divUp (nats m).length 64, false⟩], resv := s.dev.pp.resv.filter (fun r => !(r.typ = 1 && r.peer = p && r.id = mBody (nats m) 4 4)) }, sram := t.dev.sram, out := t.dev.out }
    [PP_RING_TAIL_TAIL])) ∧
  (∀ (s : State) (m : List Byte), s.awake → s.dev.selStop = false → s.dev.selfValid = true → s.dev.badMsg (nats m) =
    false → mType (nats m) = 2 → s.dev.pp.resv = [] → Completes (.loanGrant ⟨m, false⟩) s fun t => t.dev.rd
    PP_DROP_Z_LATE = satN 0xFFFF (s.dev.rd PP_DROP_Z_LATE + 1) ∧ s.changes t s.dev [PP_DROP_Z_LATE]) ∧
  (∀ (s : State) (m : List Byte) (p : Nat), s.awake → s.dev.selStop = false → s.dev.selfValid = true → s.dev.badMsg
    (nats m) = false → mType (nats m) = 2 → s.dev.stopped = true → s.dev.peerIx (mSrc (nats m)) = some p → s.dev.grantOk
    p (nats m) = true → Completes (.loanGrant ⟨m, false⟩) s fun t => t.dev.rd PP_RING_TAIL_TAIL = (s.dev.ringTail +
    divUp (nats m).length 64) % 4096 ∧ (s.changes t
    { s.dev with pp := { s.dev.pp with loanQ := s.dev.pp.loanQ ++ [nats m], tab := t.dev.pp.tab, ring := s.dev.pp.ring ++ [⟨s.dev.ringTail, divUp (nats m).length 64, false⟩], resv := s.dev.pp.resv.filter (fun r => !(r.typ = 1 && r.peer = p && r.id = mBody (nats m) 4 4)) }, sram := t.dev.sram, out := t.dev.out }
    [PP_RING_TAIL_TAIL])) ∧
  (∀ (s : State) (m : List Byte), s.awake → s.dev.selStop = false → s.dev.selfValid = true → s.dev.badMsg (nats m) =
    false → mType (nats m) = 3 → s.dev.stopped = true → Completes (.loanReturn ⟨m, false⟩) s fun t => s.changes t
    { s.dev with pp := { s.dev.pp with loanQ := s.dev.pp.loanQ ++ [nats m] } } []) ∧
  (∀ (s : State) (m : List Byte) (k : Nat) (l : Loan), s.awake → s.dev.selStop = false → s.dev.selfValid = true →
    s.dev.badMsg (nats m) = false → mType (nats m) = 3 → s.dev.stopped = false → (s.dev.loanList.find? (fun x => decide
    (32 ≤ x.1) && x.2.id = mBody (nats m) 4 4 && some x.2.peer = s.dev.peerIx (mSrc (nats m)) && x.2.inForce) = some (k,
    l)) → Completes (.loanReturn ⟨m, false⟩) s fun t => t.dev.loan k = some
    { l with returned := l.returned + mBody (nats m) 0 4 } ∧ s.changes t
    { s.dev with pp := { s.dev.pp with loans := t.dev.pp.loans, tab := t.dev.pp.tab } } []) ∧
  (∀ (s : State) (m : List Byte), s.awake → s.dev.selStop = false → s.dev.selfValid = true → s.dev.badMsg (nats m) =
    false → mType (nats m) = 3 → s.dev.stopped = false → s.dev.loanList = [] → Completes (.loanReturn ⟨m, false⟩) s fun
    t => t.dev.rd PP_DROP_Z_STATE = satN 0xFFFF (s.dev.rd PP_DROP_Z_STATE + 1) ∧ s.changes t s.dev [PP_DROP_Z_STATE]) ∧
  (∀ (s : State) (i : Fin 32) (l : Loan) (y : Peer), s.awake → s.dev.stopped = false → s.dev.led.cls ≤ 5 →
    s.dev.time.count % 1000 = 0 → s.dev.loan i = some l → s.dev.loanEnds l = true → l.inForce = true → s.dev.loanExpired
    l = false → s.dev.peer l.peer = some y → s.dev.portUp = true → s.dev.rd CK_STATUS_SEL ≠ 5 → Completes (.loanEnd i) s
    fun t => t.dev.loan i = none ∧ t.dev.bud.loanIn = s.dev.bud.loanIn - l.amount ∧ t.dev.out = .peerMsg 3 y.addr
    (s.dev.message 3 y.addr (s.dev.nextSeq y.addr) 0 (leBytes 4 l.amount ++ leBytes 4 l.id)) :: s.dev.out ∧ s.changes t
    { s.dev with bud := { s.dev.bud with loanIn := s.dev.bud.loanIn - l.amount }, pp := { s.dev.pp with loans := t.dev.pp.loans, tab := t.dev.pp.tab }, out := t.dev.out }
    []) ∧
  (∀ (s : State) (i : Fin 32) (l : Loan), s.awake → s.dev.loan i = some l → (s.dev.stopped = true ∨ s.dev.time.count %
    1000 ≠ 0 ∨ s.dev.loanEnds l = false) → Completes (.loanEnd i) s fun t => s.changes t s.dev []) ∧
  (∀ (s : State) (i : Fin 32) (l : Loan), s.awake → s.dev.stopped = false → s.dev.led.cls ≤ 5 → s.dev.time.count % 1000
    = 0 → s.dev.loan (32 + i) = some l → l.inForce = true → s.dev.passed l.at_ (1000 * s.dev.loanTimeout) = true →
    l.amount ≠ 0 → Completes (.loanCreditTimeout i) s fun t => t.dev.loan (32 + i) = none ∧ s.changes t
    { s.dev with bud := { s.dev.bud with loanOut := s.dev.bud.loanOut - l.amount }, pp := { s.dev.pp with loans := t.dev.pp.loans } }
    []) ∧
  (∀ (s : State) (i : Fin 32) (l : Loan), s.awake → s.dev.loan (32 + i) = some l → (s.dev.stopped = true ∨
    s.dev.time.count % 1000 ≠ 0 ∨ s.dev.passed l.at_ (1000 * s.dev.loanTimeout) = false) → Completes (.loanCreditTimeout
    i) s fun t => s.changes t s.dev []) ∧
  (∀ (s : State) (i : Fin 32) (l : Loan), s.awake → s.dev.loan i = some l → Completes (.loanReturnCmd i) s fun t =>
    t.dev.loan i = some { l with ending := true } ∧ s.changes t
    { s.dev with pp := { s.dev.pp with loans := t.dev.pp.loans } } []) ∧
  (∀ (s : State) (i : Fin 32), s.awake → s.dev.loan i = none → Completes (.loanReturnCmd i) s fun t => t.dev.rdB
    PP_STATUS_STATE_CONFLICT = true ∧ s.changes t s.dev [PP_STATUS_STATE_CONFLICT]) ∧
  (∀ (s : State) (v : BitVec 16) (u : Bool) (x : SigPass), s.awake → s.dev.pp.pass = some x → x.purpose = 1 → x.value =
    v.toNat → x.urgent = u → s.dev.newCounter x.key x.counter = true → s.dev.freshStamp x.stamp = true → s.dev.capRange
    v.toNat = true → Completes (.ppRackCap v u) s fun t => t.dev.rd BU_CAP_SRC_RACK = v.toNat ∧ t.dev.pp.pass = none ∧
    tget none t.dev.pp.counters x.key = some x.counter ∧ t.dev.rdB NV_SIG_STATUS_PASS = false ∧ (u = true →
    t.dev.bud.rack.next = some (v.toNat, true)) ∧ s.changes t
    { s.dev with bud := { s.dev.bud with rack := t.dev.bud.rack }, pp := { s.dev.pp with pass := none, counters := t.dev.pp.counters } }
    [BU_CAP_SRC_RACK, NV_SIG_STATUS_PASS]) ∧
  (∀ (s : State) (v : BitVec 16) (u : Bool) (x : SigPass), s.awake → s.dev.pp.pass = some x → (s.dev.newCounter x.key
    x.counter = false ∨ s.dev.freshStamp x.stamp = false) → Completes (.ppRackCap v u) s fun t => t.dev.rdB
    PP_STATUS_STATE_CONFLICT = true ∧ s.changes t s.dev [PP_STATUS_STATE_CONFLICT]) ∧
  (∀ (s : State) (v : BitVec 16) (u : Bool), s.awake → s.dev.pp.pass = none → Completes (.ppRackCap v u) s fun t =>
    t.dev.rdB PP_STATUS_STATE_CONFLICT = true ∧ s.changes t s.dev [PP_STATUS_STATE_CONFLICT]) ∧
  (∀ (s : State) (m : List Byte) (t2 t3 : BitVec 12), s.awake → s.dev.selStop = false → s.dev.selfValid = true →
    s.dev.badMsg (nats m) = false → mType (nats m) = 0x20 → s.dev.rd CK_STATUS_SEL ≠ 5 → Completes (.timeReq ⟨m, false⟩
    t2 t3) s fun t => t.dev.out = .peerMsg 0x21 (mSrc (nats m)) (s.dev.message 0x21 (mSrc (nats m)) (s.dev.nextSeq (mSrc
    (nats m))) t3.toNat (leBytes 8 (mStamp (nats m)) ++ leBytes 8 (s.dev.stamp t2.toNat) ++ [s.dev.mode, b01 (mH (nats
    m)) + 2 * b01 s.dev.hNow])) :: s.dev.out ∧ s.changes t
    { s.dev with pp := { s.dev.pp with tab := t.dev.pp.tab }, out := t.dev.out } []) ∧
  (∀ (s : State) (m : List Byte) (t4 : BitVec 12), s.awake → s.dev.selStop = false → s.dev.selfValid = true →
    s.dev.badMsg (nats m) = false → mType (nats m) = 0x21 → s.dev.pp.timeReqs = [] → Completes (.timeReply ⟨m, false⟩
    t4) s fun t => t.dev.rd PP_DROP_FORMAT = satN 0xFFFF (s.dev.rd PP_DROP_FORMAT + 1) ∧ s.changes t s.dev
    [PP_DROP_FORMAT]) ∧
  (∀ (s : State) (m : List Byte) (t4 : BitVec 12) (p a : Nat), s.awake → s.dev.selStop = false → s.dev.selfValid = true
    → s.dev.badMsg (nats m) = false → mType (nats m) = 0x21 → s.dev.peerIx (mSrc (nats m)) = some p → s.dev.pp.timeReqs
    = [(p, a, false)] → a = mBody (nats m) 0 8 → (s.dev.stamp t4.toNat : Int) - a - ((mStamp (nats m) : Int) - mBody
    (nats m) 8 8) ≤ s.dev.rd PP_CFG2_RTT_MAX * 4096 → bitsOf (mBody (nats m) 17 1) 0 2 = 0 → mH (nats m) = false →
    s.dev.hNow = false → (((mBody (nats m) 8 8 : Int) - a) - ((s.dev.stamp t4.toNat : Int) - mStamp (nats m))).natAbs ≤
    s.dev.rd PP_CFG2_TIME_TOL * 8192 → Completes (.timeReply ⟨m, false⟩ t4) s fun t => t.dev.rdS PP_TIME_LAST_OFS =
    clampI (-32768) 32767 (divHalfAway (((mBody (nats m) 8 8 : Int) - a) - ((s.dev.stamp t4.toNat : Int) - mStamp (nats
    m))) 2) ∧ s.changes t { s.dev with pp := { s.dev.pp with timeReqs := [] } } [PP_TIME_LAST_OFS]) ∧
  (∀ (s : State) (m : List Byte) (t2 t3 : BitVec 12), s.awake → s.dev.selStop = false → s.dev.selfValid = true →
    s.dev.badMsg (nats m) = false → mType (nats m) = 0x20 → s.dev.rd CK_STATUS_SEL = 5 → Completes (.timeReq ⟨m, false⟩
    t2 t3) s fun t => t.dev.pp.hold = s.dev.pp.hold ++ [.peerMsg 0x21 (mSrc (nats m)) (s.dev.message 0x21 (mSrc (nats
    m)) (s.dev.nextSeq (mSrc (nats m))) t3.toNat (leBytes 8 (mStamp (nats m)) ++ leBytes 8 (s.dev.stamp t2.toNat) ++
    [s.dev.mode, b01 (mH (nats m)) + 2 * b01 s.dev.hNow]))] ∧ s.changes t
    { s.dev with pp := { s.dev.pp with tab := t.dev.pp.tab, hold := t.dev.pp.hold } } [])

/-- R257, R258, R259, R261, R263, R265, R267, R272: A patch that meets the trip rule, or coolant lost outside a wait,
stops the wafer: STOPPED, or LATCHED at TRIP_LIMIT stops in the window; the trip pin is set, no patch of an enabled
field runs, the cause and the first tripping patch are latched and a THERM fault is reported. The comparators are
latched; a further trip while stopped for a trip changes nothing else, and one while stopped for coolant is recorded as
a cause. A sensor not suspect that trips while stopped cuts the rails off. COOL_OK counts afresh on each change. Exec
answers a next state with its own effect, for every state and operands that meet the conditions of its clause:
thermalTrip, coolantStop, tripOff, coolOkChange, coolOkHigh, coolStartDone, selvedgeRestart, restartComplete,
selvedgeRelease. -/
def Obligations.SelvedgeStops : Prop :=
  (∀ (s : State) (f : Fin 96) (p : Fin 36) (c0 c1 : Bool) (q : BitVec 12), s.awake → s.dev.trips f p c0 c1 = true →
    s.dev.selStop = false → Completes (.thermalTrip [⟨f, p, c0, c1⟩] q) s fun t => t.dev.rd JZ_SEL_STATUS_STATE = (if
    orDef (s.dev.rd JZ_SEL_TIME1_TRIP_LIMIT) 1 ≤ s.dev.recentStops.length + 1 then selLatched else selStopped) ∧
    t.dev.rdB JZ_SEL_STATUS_TRIP_PIN = true ∧ t.dev.rd JZ_SEL_FIRST_STOPS = satN 0xFF (s.dev.rd JZ_SEL_FIRST_STOPS + 1)
    ∧ (∀ g ∈ s.dev.enabled, ∀ q : Fin 36, t.dev.pstate g q ≠ psRunning) ∧ t.dev.sel.stops = s.dev.recentStops ++
    [s.dev.rd EV_HOURS_HOURS] ∧ t.dev.rdB JZ_SEL_STATUS_CAUSE_TRIP = true ∧ t.dev.rd JZ_SEL_FIRST_FIELD = f ∧ t.dev.rd
    JZ_SEL_FIRST_PATCH = p ∧ t.dev.rdB JZ_SEL_FIRST_VALID = true ∧ t.dev.rdB JZ_SEL_FIRST_SUSPECT_RULE = !(c0 && c1) ∧
    t.dev.rdB (ST_TH_TRIP f p) = true ∧ s.parts t
    { s.dev with pat := t.dev.pat, tile := t.dev.tile, led := { s.dev.led with marks := t.dev.led.marks }, ev := { s.dev.ev with stops := s.dev.ev.stops + 1 }, sel := t.dev.sel, fc := { s.dev.fc with raised := s.dev.fc.raised ++ [s.dev.report .therm 1 f p] } }) ∧
  (∀ (s : State) (f : Fin 96) (p : Fin 36) (c0 c1 : Bool) (q : BitVec 12), s.awake → s.dev.trips f p c0 c1 = false →
    Completes (.thermalTrip [⟨f, p, c0, c1⟩] q) s fun t => s.changes t
    { s.dev with sel := { s.dev.sel with hot := [(f.val, p.val, c0, c1)] } } []) ∧
  (∀ (s : State) (f : Fin 96) (p : Fin 36) (c0 c1 : Bool) (q : BitVec 12), s.awake → s.dev.selStop = true → s.dev.rdB
    JZ_SEL_STATUS_CAUSE_TRIP = true → Completes (.thermalTrip [⟨f, p, c0, c1⟩] q) s fun t => s.changes t
    { s.dev with sel := { s.dev.sel with hot := [(f.val, p.val, c0, c1)] } } []) ∧
  (∀ (s : State) (f : Fin 96) (p : Fin 36) (c0 c1 : Bool) (q : BitVec 12), s.awake → s.dev.trips f p c0 c1 = true →
    s.dev.selStop = true → s.dev.rdB JZ_SEL_STATUS_CAUSE_TRIP = false → Completes (.thermalTrip [⟨f, p, c0, c1⟩] q) s
    fun t => t.dev.rdB JZ_SEL_STATUS_CAUSE_TRIP = true ∧ t.dev.rd JZ_SEL_FIRST_FIELD = f ∧ t.dev.rd JZ_SEL_FIRST_PATCH =
    p ∧ t.dev.rdB JZ_SEL_FIRST_VALID = true ∧ t.dev.rdB (ST_TH_TRIP f p) = true ∧ t.dev.rd JZ_SEL_STATUS_STATE =
    s.dev.selState ∧ t.dev.sel.coolFor = none ∧ s.parts t
    { s.dev with sel := t.dev.sel, fc := { s.dev.fc with raised := s.dev.fc.raised ++ [s.dev.report .therm 1 f p] } }) ∧
  (∀ (s : State) (q : BitVec 12), s.awake → s.dev.pins.coolOk = false → (s.dev.selState = selRun ∨ s.dev.selState =
    selRestart) → Completes (.coolantStop q) s fun t => t.dev.rd JZ_SEL_STATUS_STATE = (if orDef (s.dev.rd
    JZ_SEL_TIME1_TRIP_LIMIT) 1 ≤ s.dev.recentStops.length + 1 then selLatched else selStopped) ∧ t.dev.rdB
    JZ_SEL_STATUS_TRIP_PIN = true ∧ t.dev.rd JZ_SEL_FIRST_STOPS = satN 0xFF (s.dev.rd JZ_SEL_FIRST_STOPS + 1) ∧ (∀ g ∈
    s.dev.enabled, ∀ q : Fin 36, t.dev.pstate g q ≠ psRunning) ∧ t.dev.sel.stops = s.dev.recentStops ++ [s.dev.rd
    EV_HOURS_HOURS] ∧ t.dev.rdB JZ_SEL_STATUS_CAUSE_COOL = true ∧ t.dev.rdB JZ_SEL_STATUS_COOL_OK = false ∧ t.dev.rdB
    JZ_SEL_FIRST_VALID = false ∧ s.parts t
    { s.dev with pat := t.dev.pat, tile := t.dev.tile, led := { s.dev.led with marks := t.dev.led.marks }, ev := { s.dev.ev with stops := s.dev.ev.stops + 1 }, sel := t.dev.sel, fc := { s.dev.fc with raised := s.dev.fc.raised ++ [s.dev.report .therm 2 central 0] } }) ∧
  (∀ (s : State) (q : BitVec 12), s.awake → s.dev.pins.coolOk = false → s.dev.selState = selWait → Completes
    (.coolantStop q) s fun t => t.dev.rdB JZ_SEL_STATUS_COOL_OK = false ∧ s.changes t
    { s.dev with sel := { s.dev.sel with okFor := none } } [JZ_SEL_STATUS_COOL_OK]) ∧
  (∀ (s : State) (q : BitVec 12), s.awake → s.dev.pins.coolOk = true → Completes (.coolantStop q) s fun t => s.changes t
    s.dev []) ∧
  (∀ (s : State) (f : Fin 96) (p : Fin 36) (x : Fin 2), s.awake → s.dev.selStop = true → s.dev.rdB JZ_SEL_STATUS_OFF =
    false → s.dev.suspect f p x = false → s.dev.railRetained f (domOf p) = true → Completes (.tripOff f p x) s fun t =>
    t.dev.rdB JZ_SEL_STATUS_OFF = true ∧ s.changes t
    { s.dev with sel := { s.dev.sel with off := distinct (s.dev.sel.off ++ [(f.val, p.val, x.val)]) }, fc := { s.dev.fc with raised := s.dev.fc.raised ++ [s.dev.report .therm 3 f p] } }
    [JZ_SEL_STATUS_OFF]) ∧
  (∀ (s : State) (f : Fin 96) (p : Fin 36) (x : Fin 2), s.awake → (s.dev.selStop = false ∨ s.dev.rdB JZ_SEL_STATUS_OFF =
    true ∨ s.dev.suspect f p x = true ∨ s.dev.railRetained f (domOf p) = false) → Completes (.tripOff f p x) s fun t =>
    s.changes t { s.dev with sel := { s.dev.sel with off := distinct (s.dev.sel.off ++ [(f.val, p.val, x.val)]) } } []) ∧
  (∀ (s : State) (b : Bool), Completes (.coolOkChange b) s fun t => s.changes t
    { s.dev with pins := { s.dev.pins with coolOk := b }, sel := { s.dev.sel with okFor := none } } []) ∧
  (∀ (s : State), s.dev.pins.coolOk = true → s.dev.sel.okFor = none → Completes .coolOkHigh s fun t => t.dev.rdB
    JZ_SEL_STATUS_COOL_OK = true ∧ s.changes t
    { s.dev with sel := { s.dev.sel with okFor := some 0, onRosc := (decide (s.dev.time.nb = 0) || decide (s.dev.mode = NO_SOURCE)) } }
    [JZ_SEL_STATUS_COOL_OK]) ∧
  (∀ (s : State) (n : Nat), s.dev.pins.coolOk = true → s.dev.sel.okFor = some n → Completes .coolOkHigh s fun t =>
    t.dev.rdB JZ_SEL_STATUS_COOL_OK = true ∧ s.changes t s.dev [JZ_SEL_STATUS_COOL_OK]) ∧
  (∀ (s : State), s.dev.pins.coolOk = false → Completes .coolOkHigh s fun t => s.changes t s.dev []) ∧
  (∀ (s : State), s.dev.selState = selWait → s.dev.rdB JZ_SEL_STATUS_COOL_OK = true → s.dev.okBolts (s.dev.rd
    JZ_SEL_TIME0_COOL_START) = true → s.dev.tripping = [] → Completes .coolStartDone s fun t => t.dev.rd
    JZ_SEL_STATUS_STATE = selRun ∧ s.changes t s.dev [JZ_SEL_STATUS_STATE]) ∧
  (∀ (s : State), s.dev.selState = selWait → s.dev.rdB JZ_SEL_STATUS_COOL_OK = true → s.dev.sel.onRosc = true →
    s.dev.sel.okFor ≠ none → s.dev.tripping = [] → Completes .coolStartDone s fun t => t.dev.rd JZ_SEL_STATUS_STATE =
    selRun ∧ s.changes t s.dev [JZ_SEL_STATUS_STATE]) ∧
  (∀ (s : State), (s.dev.selState ≠ selWait ∨ s.dev.rdB JZ_SEL_STATUS_COOL_OK = false ∨ s.dev.tripping ≠ [] ∨
    (s.dev.okBolts (s.dev.rd JZ_SEL_TIME0_COOL_START) = false ∧ (s.dev.sel.onRosc = false ∨ s.dev.sel.okFor = none))) →
    Completes .coolStartDone s fun t => s.changes t s.dev []) ∧
  (∀ (s : State), s.awake → s.dev.mayRestart = true → s.dev.start.step ≠ 9 → Completes .selvedgeRestart s fun t =>
    t.dev.rd JZ_SEL_STATUS_STATE = selRestart ∧ (t.dev.lins capRef).exempt = true ∧ (t.dev.lins capRef).hasLast = false
    ∧ (t.dev.lins capRef).hasRegion = false ∧ t.dev.rdB capRef.frozen = false ∧ (s.changes t
    { s.dev with inst := t.dev.inst } (JZ_SEL_STATUS_STATE :: (List.range 20).map fun k => (⟨capRef.inst + 4 * k, 0, 32⟩
    : Fld)))) ∧
  (∀ (s : State), s.awake → s.dev.mayRestart = true → s.dev.start.step = 9 → Completes .selvedgeRestart s fun t =>
    t.dev.rd JZ_SEL_STATUS_STATE = selRestart ∧ (∀ f ∈ s.dev.testable, (t.dev.stressOf f).phase = 1 ∧ (t.dev.fd f).up =
    false) ∧ (t.dev.lins capRef).exempt = true ∧ (t.dev.lins capRef).hasLast = false ∧ (t.dev.lins capRef).hasRegion =
    false ∧ t.dev.rdB capRef.frozen = false ∧ (s.changes t
    { s.dev with test := { s.dev.test with stress := t.dev.test.stress }, fld := t.dev.fld, inst := t.dev.inst }
    (JZ_SEL_STATUS_STATE :: ((s.dev.testable.flatMap fun f => (List.range 4).map fun k => ST_LINK_CMD_MODE_REQ f k) ++
    (List.range 20).map fun k => (⟨capRef.inst + 4 * k, 0, 32⟩ : Fld))))) ∧
  (∀ (s : State), s.awake → s.dev.mayRestart = false → Completes .selvedgeRestart s fun t => s.changes t s.dev []) ∧
  (∀ (s : State), s.awake → s.dev.selState = selRestart → s.dev.restarted = true → Completes .restartComplete s fun t =>
    t.dev.rd JZ_SEL_STATUS_STATE = selRun ∧ t.dev.rdB JZ_SEL_STATUS_OFF = false ∧ t.dev.rdB JZ_SEL_STATUS_CAUSE_TRIP =
    false ∧ t.dev.rdB JZ_SEL_STATUS_CAUSE_COOL = false ∧ t.dev.rdB JZ_SEL_STATUS_TRIP_PIN = false ∧ s.changes t
    { s.dev with start := { s.dev.start with since := s.dev.time.nb }, fc := { s.dev.fc with raised := s.dev.fc.raised ++ [s.dev.report .therm 4 central 0] } }
    [JZ_SEL_STATUS_STATE, JZ_SEL_STATUS_OFF, JZ_SEL_STATUS_CAUSE_TRIP, JZ_SEL_STATUS_CAUSE_COOL,
    JZ_SEL_STATUS_TRIP_PIN]) ∧
  (∀ (s : State), s.awake → (s.dev.selState ≠ selRestart ∨ s.dev.restarted = false) → Completes .restartComplete s fun t
    => s.changes t s.dev []) ∧
  (∀ (s : State), s.awake → s.dev.selState = selLatched → Completes .selvedgeRelease s fun t => t.dev.rd
    JZ_SEL_STATUS_STATE = selStopped ∧ s.changes t s.dev [JZ_SEL_STATUS_STATE]) ∧
  (∀ (s : State), s.awake → s.dev.selState ≠ selLatched → Completes .selvedgeRelease s fun t => t.dev.rdB
    JZ_SEL_STATUS_STATE_CONFLICT = true ∧ s.changes t s.dev [JZ_SEL_STATUS_STATE_CONFLICT])

/-- R153, R269, R270, R271: A report of a hotter zone takes effect at once, with a fault at the hottest; of a cooler one
after MEM_HYST reports in a row, one zone at a time; a channel whose reports are lost goes to zone 3 with a fault. An
optical engine outside its window is marked out, with a fault, and its fields' fixed allotment is due; back within the
hysteresis it is marked in, and the host fabric is told of both; one whose reports are lost counts as out. Exec answers
a next state with its own effect, for every state and operands that meet the conditions of its clause: mr4Report,
mr4Lost, optTempReport, optReportLost. -/
def Obligations.MemoryAndOptics : Prop :=
  (∀ (s : State) (f : Fin 96) (k : Fin 32) (c : BitVec 5), s.awake → s.dev.rd (ST_MEM_NCH_NCH f) ≤ k → Completes
    (.mr4Report f k c) s fun t => s.changes t s.dev []) ∧
  (∀ (s : State) (f : Fin 96) (k : Fin 32) (c : BitVec 5), s.awake → k.val < s.dev.rd (ST_MEM_NCH_NCH f) → s.dev.zone f
    k < 2 → min 2 (s.dev.rd (ST_MEM_MR4MAP f c.toNat)) = 2 → Completes (.mr4Report f k c) s fun t => t.dev.rd
    (ST_MEM_ZONE f k) = 2 ∧ t.dev.chn f k = ⟨0, s.dev.time.nbRun⟩ ∧ s.changes t
    { s.dev with chan := t.dev.chan, fld := t.dev.fld, fc := { s.dev.fc with raised := s.dev.fc.raised ++ [s.dev.report .therm 5 f k] } }
    [ST_MEM_ZONE f k]) ∧
  (∀ (s : State) (f : Fin 96) (k : Fin 32) (c : BitVec 5), s.awake → k.val < s.dev.rd (ST_MEM_NCH_NCH f) → s.dev.zone f
    k < min 2 (s.dev.rd (ST_MEM_MR4MAP f c.toNat)) → min 2 (s.dev.rd (ST_MEM_MR4MAP f c.toNat)) < 2 → Completes
    (.mr4Report f k c) s fun t => t.dev.rd (ST_MEM_ZONE f k) = min 2 (s.dev.rd (ST_MEM_MR4MAP f c.toNat)) ∧ t.dev.chn f
    k = ⟨0, s.dev.time.nbRun⟩ ∧ s.changes t { s.dev with chan := t.dev.chan, fld := t.dev.fld } [ST_MEM_ZONE f k]) ∧
  (∀ (s : State) (f : Fin 96) (k : Fin 32) (c : BitVec 5), s.awake → k.val < s.dev.rd (ST_MEM_NCH_NCH f) → s.dev.zone f
    k = min 2 (s.dev.rd (ST_MEM_MR4MAP f c.toNat)) → Completes (.mr4Report f k c) s fun t => t.dev.chn f k = ⟨0,
    s.dev.time.nbRun⟩ ∧ s.changes t { s.dev with chan := t.dev.chan } []) ∧
  (∀ (s : State) (f : Fin 96) (k : Fin 32) (c : BitVec 5), s.awake → k.val < s.dev.rd (ST_MEM_NCH_NCH f) → min 2
    (s.dev.rd (ST_MEM_MR4MAP f c.toNat)) < s.dev.zone f k → s.dev.zone f k < 3 → (s.dev.chn f k).cooler + 1 < orDef
    (s.dev.rd (ST_MEM_CFG_MEM_HYST f)) 1 → Completes (.mr4Report f k c) s fun t => t.dev.chn f k = ⟨(s.dev.chn f
    k).cooler + 1, s.dev.time.nbRun⟩ ∧ s.changes t { s.dev with chan := t.dev.chan } []) ∧
  (∀ (s : State) (f : Fin 96) (k : Fin 32) (c : BitVec 5), s.awake → k.val < s.dev.rd (ST_MEM_NCH_NCH f) → min 2
    (s.dev.rd (ST_MEM_MR4MAP f c.toNat)) < 1 → s.dev.zone f k = 1 → orDef (s.dev.rd (ST_MEM_CFG_MEM_HYST f)) 1 ≤
    (s.dev.chn f k).cooler + 1 → Completes (.mr4Report f k c) s fun t => t.dev.rd (ST_MEM_ZONE f k) = 0 ∧ t.dev.chn f k
    = ⟨0, s.dev.time.nbRun⟩ ∧ s.changes t { s.dev with chan := t.dev.chan, fld := t.dev.fld } [ST_MEM_ZONE f k]) ∧
  (∀ (s : State) (f : Fin 96) (k : Fin 32) (c : BitVec 5), s.awake → k.val < s.dev.rd (ST_MEM_NCH_NCH f) → min 2
    (s.dev.rd (ST_MEM_MR4MAP f c.toNat)) < 2 → 2 ≤ s.dev.zone f k → orDef (s.dev.rd (ST_MEM_CFG_MEM_HYST f)) 1 ≤
    (s.dev.chn f k).cooler + 1 → Completes (.mr4Report f k c) s fun t => t.dev.rd (ST_MEM_ZONE f k) = 1 ∧ t.dev.chn f k
    = ⟨0, s.dev.time.nbRun⟩ ∧ s.changes t
    { s.dev with chan := t.dev.chan, fld := t.dev.fld, fc := { s.dev.fc with raised := s.dev.fc.raised ++ [s.dev.report .therm 6 f k] } }
    [ST_MEM_ZONE f k]) ∧
  (∀ (s : State) (f : Fin 96) (k : Fin 32), s.awake → k.val < s.dev.rd (ST_MEM_NCH_NCH f) → s.dev.zone f k ≠ 3 →
    s.dev.expired (s.dev.chn f k).seen (4 * orDef (s.dev.rd (ST_MEM_CFG_MR4_PERIOD f)) 1) = true → Completes (.mr4Lost f
    k) s fun t => t.dev.rd (ST_MEM_ZONE f k) = 3 ∧ (t.dev.chn f k).cooler = 0 ∧ s.changes t
    { s.dev with chan := t.dev.chan, fld := t.dev.fld, fc := { s.dev.fc with raised := s.dev.fc.raised ++ [s.dev.report .sense 5 f k] } }
    [ST_MEM_ZONE f k]) ∧
  (∀ (s : State) (f : Fin 96) (k : Fin 32), s.awake → (s.dev.rd (ST_MEM_NCH_NCH f) ≤ k ∨ s.dev.zone f k = 3 ∨
    s.dev.expired (s.dev.chn f k).seen (4 * orDef (s.dev.rd (ST_MEM_CFG_MR4_PERIOD f)) 1) = false) → Completes (.mr4Lost
    f k) s fun t => s.changes t s.dev []) ∧
  (∀ (s : State) (e : Fin 24) (a b : BitVec 8), s.awake → s.dev.bit JZ_OPT_OUT_OUT e = false → (a.toInt < s.dev.rdS
    JZ_OPT_CFG_OPT_LO ∨ s.dev.rdS JZ_OPT_CFG_OPT_HI < b.toInt) → Completes (.optTempReport e [a, b]) s fun t =>
    t.dev.bit JZ_OPT_OUT_OUT e = true ∧ (∀ f ∈ s.dev.enabled, e.val ∈ (s.dev.fd f).optics → (t.dev.fd f).optEng = true ∧
    (t.dev.fd f).fixDue = true) ∧ s.changes t
    { s.dev with opt := tput 0 e.val s.dev.time.nbRun s.dev.opt, fld := t.dev.fld, fc := { s.dev.fc with raised := s.dev.fc.raised ++ [s.dev.report .therm 7 central e] }, out := .linkDegraded e true :: s.dev.out }
    [JZ_OPT_OUT_ENGINE e]) ∧
  (∀ (s : State) (e : Fin 24) (a b : BitVec 8), s.awake → s.dev.bit JZ_OPT_OUT_OUT e = false → s.dev.rdS
    JZ_OPT_CFG_OPT_LO ≤ a.toInt → a.toInt ≤ s.dev.rdS JZ_OPT_CFG_OPT_HI → s.dev.rdS JZ_OPT_CFG_OPT_LO ≤ b.toInt →
    b.toInt ≤ s.dev.rdS JZ_OPT_CFG_OPT_HI → Completes (.optTempReport e [a, b]) s fun t => s.changes t
    { s.dev with opt := tput 0 e.val s.dev.time.nbRun s.dev.opt } []) ∧
  (∀ (s : State) (e : Fin 24) (a b : BitVec 8), s.awake → s.dev.bit JZ_OPT_OUT_OUT e = true → s.dev.rdS
    JZ_OPT_CFG_OPT_LO + (s.dev.rd JZ_OPT_CFG_OPT_HYST : Int) ≤ a.toInt → a.toInt ≤ s.dev.rdS JZ_OPT_CFG_OPT_HI -
    (s.dev.rd JZ_OPT_CFG_OPT_HYST : Int) → s.dev.rdS JZ_OPT_CFG_OPT_LO + (s.dev.rd JZ_OPT_CFG_OPT_HYST : Int) ≤ b.toInt
    → b.toInt ≤ s.dev.rdS JZ_OPT_CFG_OPT_HI - (s.dev.rd JZ_OPT_CFG_OPT_HYST : Int) → Completes (.optTempReport e [a, b])
    s fun t => t.dev.bit JZ_OPT_OUT_OUT e = false ∧ s.changes t
    { s.dev with opt := tput 0 e.val s.dev.time.nbRun s.dev.opt, out := .linkDegraded e false :: s.dev.out }
    [JZ_OPT_OUT_ENGINE e]) ∧
  (∀ (s : State) (e : Fin 24), s.awake → s.dev.bit JZ_OPT_OUT_OUT e = false → s.dev.expired (tget 0 s.dev.opt e) 400 =
    true → Completes (.optReportLost e) s fun t => t.dev.bit JZ_OPT_OUT_OUT e = true ∧ s.changes t
    { s.dev with fld := t.dev.fld, fc := { s.dev.fc with raised := s.dev.fc.raised ++ [s.dev.report .therm 7 central e] }, out := .linkDegraded e true :: s.dev.out }
    [JZ_OPT_OUT_ENGINE e]) ∧
  (∀ (s : State) (e : Fin 24), s.awake → (s.dev.bit JZ_OPT_OUT_OUT e = true ∨ s.dev.expired (tget 0 s.dev.opt e) 400 =
    false) → Completes (.optReportLost e) s fun t => s.changes t s.dev [])

/-- R295, R297, R324, R326, R335: An IMAGE_OPEN that matches the engine's pass, new and fresh, opens its sender's
session on the slot that is not ACTIVE: erased and WRITING; one without a matching pass is answered AUTH, a stale one
STALE. A chunk in order is programmed; out of order it is answered ORDER and changes nothing. A session idle for
IMAGE_IDLE bolts, or whose image fails a check, ends with its slot BAD and a report; an image that passes is PENDING.
Exec answers a next state with its own effect, for every state and operands that meet the conditions of its clause:
imageOpen, imageChunk, imageSessionIdle, imageVerifyDone. -/
def Obligations.ImageSessions : Prop :=
  (∀ (s : State) (m : List Byte) (q : BitVec 12) (x : SigPass), s.awake → mType (nats m) = 8 → s.dev.badMsg (nats m) =
    false → s.dev.portUp = true → s.dev.gateOk 9 = true → s.dev.pp.pass = some x → x.purpose = 2 → x.len = mBody (nats
    m) 0 3 → x.key = mBody (nats m) 3 1 → x.counter = mBody (nats m) 8 8 → s.dev.nv.session = none → s.dev.newCounter
    x.key x.counter = true → s.dev.freshStamp x.stamp = true → s.dev.rd CK_STATUS_SEL ≠ 5 → Completes (.imageOpen ⟨m,
    false⟩ q) s fun t => t.dev.nv.session = some ⟨true, some (mSrc (nats m)), s.dev.inactive, x.len, 0,
    s.dev.time.nbRun, false⟩ ∧ t.dev.pp.pass = none ∧ tget none t.dev.pp.counters x.key = some x.counter ∧ t.dev.rd
    NV_XFER_RESULT = imOk ∧ (∀ a : Nat, slotBase s.dev.inactive ≤ a → a < slotBase s.dev.inactive + 0x800000 →
    t.dev.nvByte a = 0xFF) ∧ s.changes t
    { s.dev with nv := { s.dev.nv with flash := t.dev.nv.flash, session := t.dev.nv.session }, pp := { s.dev.pp with pass := none, counters := t.dev.pp.counters, tab := t.dev.pp.tab }, out := t.dev.out }
    [NV_SIG_STATUS_PASS, NV_SLOT_STATE_A, NV_SLOT_STATE_B, NV_SLOT_ACTIVE, NV_SLOT_ACTIVE_VALID, NV_SLOT_SECVER_A,
    NV_SLOT_SECVER_B, NV_XFER_STATE, NV_XFER_PATH, NV_XFER_RESULT, NV_XFER_LEN_LENGTH, NV_XFER_NEXT_NEXT]) ∧
  (∀ (s : State) (m : List Byte) (q : BitVec 12) (x : SigPass), s.awake → mType (nats m) = 8 → s.dev.badMsg (nats m) =
    false → s.dev.portUp = true → s.dev.gateOk 9 = true → s.dev.pp.pass = some x → x.purpose = 2 → x.len = mBody (nats
    m) 0 3 → x.key = mBody (nats m) 3 1 → x.counter = mBody (nats m) 8 8 → s.dev.nv.session = none → (s.dev.newCounter
    x.key x.counter = false ∨ s.dev.freshStamp x.stamp = false) → s.dev.rd CK_STATUS_SEL ≠ 5 → Completes (.imageOpen ⟨m,
    false⟩ q) s fun t => t.dev.out = .peerMsg 0x0A (mSrc (nats m)) (s.dev.message 0x0A (mSrc (nats m)) (s.dev.nextSeq
    (mSrc (nats m))) q.toNat ([imStale, 0, 0, 0] ++ leBytes 4 (s.dev.rd NV_XFER_NEXT_NEXT) ++ leBytes 8 (mBody (nats m)
    8 8))) :: s.dev.out ∧ s.changes t
    { s.dev with pp := { s.dev.pp with pass := none, tab := t.dev.pp.tab }, out := t.dev.out } [NV_SIG_STATUS_PASS]) ∧
  (∀ (s : State) (m : List Byte) (q : BitVec 12), s.awake → mType (nats m) = 8 → s.dev.badMsg (nats m) = false →
    s.dev.portUp = true → s.dev.gateOk 9 = true → s.dev.pp.pass = none → s.dev.nv.session = none → s.dev.rd
    CK_STATUS_SEL ≠ 5 → Completes (.imageOpen ⟨m, false⟩ q) s fun t => t.dev.out = .peerMsg 0x0A (mSrc (nats m))
    (s.dev.message 0x0A (mSrc (nats m)) (s.dev.nextSeq (mSrc (nats m))) q.toNat ([imAuth, 0, 0, 0] ++ leBytes 4
    (s.dev.rd NV_XFER_NEXT_NEXT) ++ leBytes 8 (mBody (nats m) 8 8))) :: s.dev.out ∧ s.changes t
    { s.dev with pp := { s.dev.pp with tab := t.dev.pp.tab }, out := t.dev.out } []) ∧
  (∀ (s : State) (m : List Byte) (q : BitVec 12), s.awake → mType (nats m) = 8 → s.dev.badMsg (nats m) = false →
    s.dev.portUp = true → s.dev.gateOk 9 = false → s.dev.rd CK_STATUS_SEL ≠ 5 → Completes (.imageOpen ⟨m, false⟩ q) s
    fun t => t.dev.out = .peerMsg 0x0A (mSrc (nats m)) (s.dev.message 0x0A (mSrc (nats m)) (s.dev.nextSeq (mSrc (nats
    m))) q.toNat ([imBusy, 0, 0, 0] ++ leBytes 4 (s.dev.rd NV_XFER_NEXT_NEXT) ++ leBytes 8 (mBody (nats m) 8 8))) ::
    s.dev.out ∧ s.changes t { s.dev with pp := { s.dev.pp with tab := t.dev.pp.tab }, out := t.dev.out } []) ∧
  (∀ (s : State) (m : List Byte) (q : BitVec 12) (x : Session), s.awake → mType (nats m) = 9 → s.dev.badMsg (nats m) =
    false → s.dev.portUp = true → s.dev.nv.session = some x → x.peer = true → x.sender = some (mSrc (nats m)) →
    x.verifying = false → s.dev.gateOk 9 = true → mBody (nats m) 0 4 = x.next → x.next + mBody (nats m) 4 2 < x.len →
    x.len ≤ 0x800000 → s.dev.rd CK_STATUS_SEL ≠ 5 → Completes (.imageChunk ⟨m, false⟩ q) s fun t => t.dev.nv.session =
    some { x with next := x.next + (((nats m).drop 32).take (mBody (nats m) 4 2)).length, last := s.dev.time.nbRun } ∧
    (∀ j : Nat, j < (((nats m).drop 32).take (mBody (nats m) 4 2)).length → t.dev.nvByte (slotBase x.slotB + x.next + j)
    = s.dev.nvByte (slotBase x.slotB + x.next + j) &&& (((nats m).drop 32).take (mBody (nats m) 4 2)).getD j 0) ∧ (∀ a :
    Nat, (a < slotBase x.slotB + x.next ∨ slotBase x.slotB + x.next + (((nats m).drop 32).take (mBody (nats m) 4
    2)).length ≤ a) → t.dev.nvByte a = s.dev.nvByte a) ∧ s.changes t
    { s.dev with nv := { s.dev.nv with flash := t.dev.nv.flash, session := t.dev.nv.session }, pp := { s.dev.pp with tab := t.dev.pp.tab }, out := t.dev.out }
    [NV_XFER_STATE, NV_XFER_PATH, NV_XFER_LEN_LENGTH, NV_XFER_NEXT_NEXT]) ∧
  (∀ (s : State) (m : List Byte) (q : BitVec 12) (x : Session), s.awake → mType (nats m) = 9 → s.dev.badMsg (nats m) =
    false → s.dev.portUp = true → s.dev.nv.session = some x → x.peer = true → x.sender = some (mSrc (nats m)) →
    x.verifying = false → s.dev.gateOk 9 = true → mBody (nats m) 0 4 ≠ x.next → s.dev.rd CK_STATUS_SEL ≠ 5 → Completes
    (.imageChunk ⟨m, false⟩ q) s fun t => t.dev.out = .peerMsg 0x0A (mSrc (nats m)) (s.dev.message 0x0A (mSrc (nats m))
    (s.dev.nextSeq (mSrc (nats m))) q.toNat ([imOrder, 0, 0, 0] ++ leBytes 4 (s.dev.rd NV_XFER_NEXT_NEXT) ++ leBytes 8
    0)) :: s.dev.out ∧ s.changes t { s.dev with pp := { s.dev.pp with tab := t.dev.pp.tab }, out := t.dev.out } []) ∧
  (∀ (s : State) (m : List Byte) (q : BitVec 12), s.awake → mType (nats m) = 9 → s.dev.badMsg (nats m) = false →
    s.dev.portUp = true → s.dev.nv.session = none → s.dev.gateOk 9 = true → s.dev.rd CK_STATUS_SEL ≠ 5 → Completes
    (.imageChunk ⟨m, false⟩ q) s fun t => t.dev.out = .peerMsg 0x0A (mSrc (nats m)) (s.dev.message 0x0A (mSrc (nats m))
    (s.dev.nextSeq (mSrc (nats m))) q.toNat ([imNoSession, 0, 0, 0] ++ leBytes 4 (s.dev.rd NV_XFER_NEXT_NEXT) ++ leBytes
    8 0)) :: s.dev.out ∧ s.changes t { s.dev with pp := { s.dev.pp with tab := t.dev.pp.tab }, out := t.dev.out } []) ∧
  (∀ (s : State) (x : Session), s.awake → s.dev.nv.session = some x → x.verifying = false → s.dev.expired x.last (1000 *
    imageIdle) = true → Completes .imageSessionIdle s fun t => t.dev.rd NV_XFER_RESULT = imVerifyFail ∧ t.dev.rd
    NV_XFER_STATE = 0 ∧ t.dev.rd (if x.slotB then NV_SLOT_STATE_B else NV_SLOT_STATE_A) = slBad ∧ s.changes t
    { s.dev with nv := { s.dev.nv with flash := t.dev.nv.flash, session := none }, fc := { s.dev.fc with raised := s.dev.fc.raised ++ [{ s.dev.report .config 1 central 0 with addr := b01 x.slotB * 2 ^ 31, master := 5, access := 0 }] } }
    [NV_SLOT_STATE_A, NV_SLOT_STATE_B, NV_SLOT_ACTIVE, NV_SLOT_ACTIVE_VALID, NV_SLOT_SECVER_A, NV_SLOT_SECVER_B,
    NV_XFER_STATE, NV_XFER_RESULT]) ∧
  (∀ (s : State), s.awake → (∀ x : Session, s.dev.nv.session = some x → x.verifying = true ∨ s.dev.expired x.last (1000
    * imageIdle) = false) → Completes .imageSessionIdle s fun t => s.changes t s.dev []) ∧
  (∀ (s : State) (o : SigObs) (q : BitVec 12) (x : Session), s.awake → s.dev.nv.session = some x → x.verifying = true →
    s.dev.imgFails s.fuses x.slotB x.len o true = none → Completes (.imageVerifyDone o q) s fun t => t.dev.rd
    NV_XFER_RESULT = imVerified ∧ t.dev.rd NV_XFER_STATE = 0 ∧ t.dev.rd (if x.slotB then NV_SLOT_STATE_B else
    NV_SLOT_STATE_A) = slPending ∧ s.changes t
    { s.dev with nv := { s.dev.nv with flash := t.dev.nv.flash, session := none }, pp := { s.dev.pp with tab := t.dev.pp.tab }, out := t.dev.out }
    [NV_SLOT_STATE_A, NV_SLOT_STATE_B, NV_SLOT_ACTIVE, NV_SLOT_ACTIVE_VALID, NV_SLOT_SECVER_A, NV_SLOT_SECVER_B,
    NV_XFER_STATE, NV_XFER_RESULT]) ∧
  (∀ (s : State) (o : SigObs) (q : BitVec 12) (x : Session), s.awake → s.dev.nv.session = some x → x.verifying = true →
    s.dev.imgFails s.fuses x.slotB x.len o true = some 4 → Completes (.imageVerifyDone o q) s fun t => t.dev.rd
    NV_XFER_RESULT = imVerifyFail ∧ t.dev.rd NV_XFER_STATE = 0 ∧ t.dev.rd (if x.slotB then NV_SLOT_STATE_B else
    NV_SLOT_STATE_A) = slBad ∧ s.changes t
    { s.dev with nv := { s.dev.nv with flash := t.dev.nv.flash, session := none }, pp := { s.dev.pp with tab := t.dev.pp.tab }, out := t.dev.out, fc := { s.dev.fc with raised := s.dev.fc.raised ++ [{ s.dev.report .secure 1 central 0 with addr := b01 x.slotB * 2 ^ 31 + 4, master := 5, access := 0 }] } }
    [NV_SLOT_STATE_A, NV_SLOT_STATE_B, NV_SLOT_ACTIVE, NV_SLOT_ACTIVE_VALID, NV_SLOT_SECVER_A, NV_SLOT_SECVER_B,
    NV_XFER_STATE, NV_XFER_RESULT])

/-- R295, R331, R335, R337, R397: A verification of 1 to 128 bytes starts with BUSY and without a pass; when it ends
BUSY falls and DONE rises, with a pass and what it latched where the verifier and the key pass it; one while another is
in progress is a conflict. A margin write that is due writes the other copy alone, with its magic and the next MSEQ, and
leaves nothing due. Exec answers a next state with its own effect, for every state and operands that meet the conditions
of its clause: sigVerify, sigVerifyDone, marginWrite. -/
def Obligations.SignaturesAndMargins : Prop :=
  (∀ (s : State) (k p : BitVec 2) (n : BitVec 8), s.awake → s.dev.nv.sig = none → p ≠ 3 → 1 ≤ n.toNat → n.toNat ≤ 128 →
    (p ≠ 1 ∨ n = 28) → Completes (.sigVerify k p n) s fun t => t.dev.nv.sig = some ⟨k.toNat, p.toNat, s.dev.sigMsg
    n.toNat⟩ ∧ t.dev.rdB NV_SIG_STATUS_BUSY = true ∧ t.dev.rdB NV_SIG_STATUS_DONE = false ∧ t.dev.rdB NV_SIG_STATUS_PASS
    = false ∧ t.dev.rdB NV_SIG_STATUS_KEY_EMPTY = (tget none s.dev.nv.keys k.toNat).isNone ∧ s.changes t
    { s.dev with nv := { s.dev.nv with sig := t.dev.nv.sig }, pp := { s.dev.pp with pass := none } }
    [NV_SIG_STATUS_BUSY, NV_SIG_STATUS_DONE, NV_SIG_STATUS_PASS, NV_SIG_STATUS_KEY_EMPTY]) ∧
  (∀ (s : State) (k p : BitVec 2) (n : BitVec 8), s.awake → (s.dev.nv.sig.isSome = true ∨ p = 3 ∨ n = 0 ∨ 128 < n.toNat
    ∨ (p = 1 ∧ n ≠ 28)) → Completes (.sigVerify k p n) s fun t => t.dev.rdB NV_STATUS_STATE_CONFLICT = true ∧ s.changes
    t s.dev [NV_STATUS_STATE_CONFLICT]) ∧
  (∀ (s : State) (r : SigReq), s.awake → s.dev.nv.sig = some r → (tget none s.dev.nv.keys r.key).isSome = true →
    r.purpose ≠ 2 → Completes (.sigVerifyDone true) s fun t => t.dev.pp.pass = some ⟨r.purpose, r.key, bytesAt r.msg 20
    8, bytesAt r.msg 4 8, bytesAt r.msg 12 2, bitOf (bytesAt r.msg 14 1) 0, bytesAt r.msg 12 3⟩ ∧ t.dev.rdB
    NV_SIG_STATUS_BUSY = false ∧ t.dev.rdB NV_SIG_STATUS_DONE = true ∧ t.dev.rdB NV_SIG_STATUS_PASS = true ∧ s.changes t
    { s.dev with nv := { s.dev.nv with sig := none }, pp := { s.dev.pp with pass := t.dev.pp.pass } }
    [NV_SIG_STATUS_BUSY, NV_SIG_STATUS_DONE, NV_SIG_STATUS_PASS]) ∧
  (∀ (s : State) (r : SigReq), s.awake → s.dev.nv.sig = some r → (tget none s.dev.nv.keys r.key).isSome = true →
    r.purpose = 2 → s.dev.nv.session = none → Completes (.sigVerifyDone true) s fun t => t.dev.nv.session = some ⟨true,
    none, s.dev.inactive, bytesAt r.msg 12 3, 0, s.dev.time.nbRun, false⟩ ∧ t.dev.rdB NV_SIG_STATUS_BUSY = false ∧
    t.dev.rdB NV_SIG_STATUS_DONE = true ∧ t.dev.rdB NV_SIG_STATUS_PASS = true ∧ s.changes t
    { s.dev with nv := { s.dev.nv with sig := none, session := t.dev.nv.session, flash := t.dev.nv.flash }, pp := { s.dev.pp with pass := t.dev.pp.pass } }
    [NV_SIG_STATUS_BUSY, NV_SIG_STATUS_DONE, NV_SIG_STATUS_PASS, NV_SLOT_STATE_A, NV_SLOT_STATE_B, NV_SLOT_ACTIVE,
    NV_SLOT_ACTIVE_VALID, NV_SLOT_SECVER_A, NV_SLOT_SECVER_B, NV_XFER_STATE, NV_XFER_PATH, NV_XFER_RESULT,
    NV_XFER_LEN_LENGTH, NV_XFER_NEXT_NEXT]) ∧
  (∀ (s : State) (b : Bool) (r : SigReq), s.awake → s.dev.nv.sig = some r → (b = false ∨ tget none s.dev.nv.keys r.key =
    none) → Completes (.sigVerifyDone b) s fun t => t.dev.rdB NV_SIG_STATUS_BUSY = false ∧ t.dev.rdB NV_SIG_STATUS_DONE
    = true ∧ s.changes t { s.dev with nv := { s.dev.nv with sig := none } } [NV_SIG_STATUS_BUSY, NV_SIG_STATUS_DONE]) ∧
  (∀ (s : State) (b : Bool), s.awake → s.dev.nv.sig = none → Completes (.sigVerifyDone b) s fun t => s.changes t s.dev
    []) ∧
  (∀ (s : State) (c n : Nat), s.awake → s.dev.nv.margDue.isSome = true → s.dev.gateOk 9 = true → ((c, n) =
    s.dev.margNow.elim (0, 1) (fun x => (1 - x.1, x.2 + 1))) → Completes .marginWrite s fun t => t.dev.nvNum (margBase
    c) 4 = 0x4D4E5A4A ∧ t.dev.nvNum (margBase c + 4) 4 = n % 2 ^ 32 ∧ (∀ a : Nat, (a < margBase c ∨ margBase c + 0x80000
    ≤ a) → t.dev.nvByte a = s.dev.nvByte a) ∧ s.changes t
    { s.dev with nv := { s.dev.nv with margDue := none, flash := t.dev.nv.flash } } []) ∧
  (∀ (s : State), s.awake → (s.dev.nv.margDue = none ∨ s.dev.gateOk 9 = false) → Completes .marginWrite s fun t =>
    s.changes t s.dev [])

/-- R303, R304, R306, R307, R309, R310, R317: An input that qualifies is shown; in WAIT it starts the lock and ends
WAIT. PLL_EN in BOOT locks to the preferred qualified input, or waits. A lock makes MCLK come from the PLL and counts a
switch; no lock tries the other input, or waits. Losing the input in use holds over to the other qualified one, or waits
with NO_SOURCE; WAIT is counted, stops the boundaries and puts every serving field into hold-safe. An unlock holds, and
is relocked or times out. TB_RETURN goes back to TBCLK. Without ROSC hold-safe is entered. Exec answers a next state
with its own effect, for every state and operands that meet the conditions of its clause: refclkQualify, tbclkQualify,
pllEn, pllLock, pllNolock, tbclkLost, refclkLost, pllUnlock, pllRelock, pllHoldTimeout, tbReturn, roscStop. -/
def Obligations.PllAndInputs : Prop :=
  (∀ (s : State) (u : BitVec 32), s.awake → s.dev.rdB CK_STATUS_REF_Q = false → s.dev.rdB CK_STATUS_ROSC_RUN = true →
    s.dev.ckSel = ckWait → Completes (.refclkQualify u) s fun t => t.dev.ckSel = ckLocking ∧ t.dev.rdB CK_STATUS_PLL_SRC
    = false ∧ t.dev.rdB CK_STATUS_PLL_LOCK = false ∧ t.dev.rdB CK_STATUS_REF_Q = true ∧ t.dev.rd CK_WAIT_TIME_US =
    u.toNat ∧ (s.changes t
    { s.dev with time := { s.dev.time with acqFrom := if (s.dev.mode = ACQUIRING ∨ (s.dev.mode = NO_SOURCE ∧ s.dev.time.heldMode = ACQUIRING)) ∧ s.dev.time.acqFrom = none then some s.dev.time.nb else s.dev.time.acqFrom } }
    [CK_STATUS_REF_Q, CK_STATUS_SEL, CK_STATUS_PLL_SRC, CK_STATUS_PLL_LOCK, CK_WAIT_TIME_US])) ∧
  (∀ (s : State) (u : BitVec 32), s.awake → s.dev.rdB CK_STATUS_REF_Q = false → s.dev.rdB CK_STATUS_ROSC_RUN = true →
    s.dev.ckSel ≠ ckWait → (s.dev.ckSel ≠ ckBoot ∨ s.dev.mode ≠ NO_SOURCE) → Completes (.refclkQualify u) s fun t =>
    t.dev.rdB CK_STATUS_REF_Q = true ∧ (s.changes t
    { s.dev with time := { s.dev.time with acqFrom := if (s.dev.mode = ACQUIRING ∨ (s.dev.mode = NO_SOURCE ∧ s.dev.time.heldMode = ACQUIRING)) ∧ s.dev.time.acqFrom = none then some s.dev.time.nb else s.dev.time.acqFrom } }
    [CK_STATUS_REF_Q])) ∧
  (∀ (s : State) (u : BitVec 32), s.awake → s.dev.rdB CK_STATUS_REF_Q = false → s.dev.rdB CK_STATUS_ROSC_RUN = true →
    s.dev.ckSel = ckBoot → s.dev.mode = NO_SOURCE → Completes (.refclkQualify u) s fun t => t.dev.rdB CK_STATUS_REF_Q =
    true ∧ t.dev.mode = s.dev.time.heldMode % 8 ∧ (s.changes t
    { s.dev with time := { s.dev.time with acqFrom := if (s.dev.mode = ACQUIRING ∨ (s.dev.mode = NO_SOURCE ∧ s.dev.time.heldMode = ACQUIRING)) ∧ s.dev.time.acqFrom = none then some s.dev.time.nb else s.dev.time.acqFrom } }
    [CK_STATUS_REF_Q, TB_STATUS_MODE])) ∧
  (∀ (s : State) (u : BitVec 32), s.awake → (s.dev.rdB CK_STATUS_REF_Q = true ∨ s.dev.rdB CK_STATUS_ROSC_RUN = false) →
    Completes (.refclkQualify u) s fun t => s.changes t s.dev []) ∧
  (∀ (s : State) (u : BitVec 32), s.awake → s.dev.rdB CK_STATUS_TB_Q = false → s.dev.rdB CK_STATUS_ROSC_RUN = true →
    s.dev.time.laneOff = false → s.dev.ckSel = ckWait → Completes (.tbclkQualify u) s fun t => t.dev.ckSel = ckLocking ∧
    t.dev.rdB CK_STATUS_PLL_SRC = true ∧ t.dev.rdB CK_STATUS_PLL_LOCK = false ∧ t.dev.rdB CK_STATUS_TB_Q = true ∧
    t.dev.rd CK_WAIT_TIME_US = u.toNat ∧ s.changes t { s.dev with clk := { s.dev.clk with tbQualAt := s.dev.time.nb } }
    [CK_STATUS_TB_Q, CK_STATUS_SEL, CK_STATUS_PLL_SRC, CK_STATUS_PLL_LOCK, CK_WAIT_TIME_US]) ∧
  (∀ (s : State) (u : BitVec 32), s.awake → s.dev.rdB CK_STATUS_TB_Q = false → s.dev.rdB CK_STATUS_ROSC_RUN = true →
    s.dev.time.laneOff = false → s.dev.ckSel ≠ ckWait → (s.dev.ckSel ≠ ckBoot ∨ s.dev.mode ≠ NO_SOURCE) → Completes
    (.tbclkQualify u) s fun t => t.dev.rdB CK_STATUS_TB_Q = true ∧ s.changes t
    { s.dev with clk := { s.dev.clk with tbQualAt := s.dev.time.nb } } [CK_STATUS_TB_Q]) ∧
  (∀ (s : State) (b : Bool), s.awake → s.dev.ckSel = ckBoot → s.dev.ckPick = some b → Completes .pllEn s fun t =>
    t.dev.ckSel = ckLocking ∧ t.dev.rdB CK_STATUS_PLL_SRC = b ∧ t.dev.rdB CK_STATUS_PLL_LOCK = false ∧ s.changes t s.dev
    [CK_STATUS_SEL, CK_STATUS_PLL_SRC, CK_STATUS_PLL_LOCK]) ∧
  (∀ (s : State), s.awake → s.dev.ckSel = ckBoot → s.dev.ckPick = none → Completes .pllEn s fun t => t.dev.ckSel =
    ckWait ∧ t.dev.rd CK_EVT_WAITS = satN 0xFFFF (s.dev.rd CK_EVT_WAITS + 1) ∧ t.dev.mode = NO_SOURCE ∧ t.dev.rdB
    CK_STATUS_PLL_LOCK = false ∧ (∀ f ∈ s.dev.serving, t.dev.rdB (ST_OP_STATUS_HOLD_SAFE f) = true) ∧ s.parts t
    { s.dev with sel := { s.dev.sel with onRosc := s.dev.sel.onRosc || decide (s.dev.mode ≠ NO_SOURCE) }, time := t.dev.time, dom := t.dev.dom, clk := t.dev.clk, pat := t.dev.pat, fld := t.dev.fld, cls := t.dev.cls, inst := t.dev.inst, tile := t.dev.tile, led := { s.dev.led with marks := t.dev.led.marks }, fc := { s.dev.fc with raised := s.dev.fc.raised ++ (if s.dev.mode = NO_SOURCE then [] else [s.dev.report .clock 6 central 0]) } }) ∧
  (∀ (s : State), s.awake → s.dev.ckSel ≠ ckBoot → Completes .pllEn s fun t => t.dev.rdB CK_STATUS_STATE_CONFLICT = true
    ∧ s.changes t s.dev [CK_STATUS_STATE_CONFLICT]) ∧
  (∀ (s : State), s.awake → s.dev.ckSel = ckLocking → s.dev.mode = NO_SOURCE → Completes .pllLock s fun t => t.dev.ckSel
    = (if s.dev.rdB CK_STATUS_PLL_SRC = true then ckOnTb else ckOnRef) ∧ t.dev.rdB CK_STATUS_PLL_LOCK = true ∧ t.dev.rd
    CK_EVT_SWITCHES = satN 0xFFFF (s.dev.rd CK_EVT_SWITCHES + 1) ∧ t.dev.mode = s.dev.time.heldMode % 8 ∧ s.changes t
    { s.dev with start := if s.dev.start.step = 5 then { s.dev.start with step := 6, since := s.dev.time.nb } else s.dev.start }
    [CK_STATUS_SEL, CK_STATUS_PLL_LOCK, CK_EVT_SWITCHES, TB_STATUS_MODE]) ∧
  (∀ (s : State), s.awake → s.dev.ckSel = ckLocking → s.dev.mode ≠ NO_SOURCE → Completes .pllLock s fun t => t.dev.ckSel
    = (if s.dev.rdB CK_STATUS_PLL_SRC = true then ckOnTb else ckOnRef) ∧ t.dev.rdB CK_STATUS_PLL_LOCK = true ∧ t.dev.rd
    CK_EVT_SWITCHES = satN 0xFFFF (s.dev.rd CK_EVT_SWITCHES + 1) ∧ s.changes t
    { s.dev with start := if s.dev.start.step = 5 then { s.dev.start with step := 6, since := s.dev.time.nb } else s.dev.start }
    [CK_STATUS_SEL, CK_STATUS_PLL_LOCK, CK_EVT_SWITCHES]) ∧
  (∀ (s : State), s.awake → s.dev.ckSel ≠ ckLocking → Completes .pllLock s fun t => s.changes t s.dev []) ∧
  (∀ (s : State) (b : Bool), s.awake → s.dev.ckSel = ckLocking → s.dev.rdB CK_STATUS_PLL_SRC = b → s.dev.qualified (!b)
    = true → Completes .pllNolock s fun t => t.dev.ckSel = ckLocking ∧ t.dev.rdB CK_STATUS_PLL_SRC = !b ∧ t.dev.rdB
    CK_STATUS_PLL_LOCK = false ∧ s.changes t
    { s.dev with fc := { s.dev.fc with raised := s.dev.fc.raised ++ [s.dev.report .clock 9 central 0] } }
    [CK_STATUS_SEL, CK_STATUS_PLL_SRC, CK_STATUS_PLL_LOCK]) ∧
  (∀ (s : State), s.awake → s.dev.ckSel = ckLocking → s.dev.qualified (!s.dev.rdB CK_STATUS_PLL_SRC) = false → Completes
    .pllNolock s fun t => t.dev.ckSel = ckWait ∧ t.dev.rd CK_EVT_WAITS = satN 0xFFFF (s.dev.rd CK_EVT_WAITS + 1) ∧
    t.dev.mode = NO_SOURCE ∧ t.dev.rdB CK_STATUS_PLL_LOCK = false ∧ (∀ f ∈ s.dev.serving, t.dev.rdB
    (ST_OP_STATUS_HOLD_SAFE f) = true) ∧ s.parts t
    { s.dev with sel := { s.dev.sel with onRosc := s.dev.sel.onRosc || decide (s.dev.mode ≠ NO_SOURCE) }, time := t.dev.time, dom := t.dev.dom, clk := t.dev.clk, pat := t.dev.pat, fld := t.dev.fld, cls := t.dev.cls, inst := t.dev.inst, tile := t.dev.tile, led := { s.dev.led with marks := t.dev.led.marks }, fc := { s.dev.fc with raised := s.dev.fc.raised ++ [s.dev.report .clock 9 central 0] ++ (if s.dev.mode = NO_SOURCE then [] else [s.dev.report .clock 6 central 0]) } }) ∧
  (∀ (s : State), s.awake → s.dev.rdB CK_STATUS_TB_Q = true → s.dev.onPll = true → s.dev.rdB CK_STATUS_PLL_SRC = true →
    s.dev.rdB CK_STATUS_REF_Q = true → Completes .tbclkLost s fun t => t.dev.ckSel = ckHolding ∧ t.dev.rdB
    CK_STATUS_PLL_SRC = false ∧ t.dev.rdB CK_STATUS_PLL_LOCK = false ∧ t.dev.rdB CK_STATUS_TB_Q = false ∧ t.dev.rd
    CK_LOSS_SRC = 1 ∧ t.dev.rdB CK_LOSS_VALID = true ∧ t.dev.rdB CK_LOSS_TO_WAIT = false ∧ s.changes t
    { s.dev with fc := { s.dev.fc with raised := s.dev.fc.raised ++ [s.dev.report .clock 7 central 0] } }
    [CK_STATUS_TB_Q, CK_STATUS_SEL, CK_STATUS_PLL_SRC, CK_STATUS_PLL_LOCK, CK_LOSS_SRC, CK_LOSS_VALID, CK_LOSS_TO_WAIT]) ∧
  (∀ (s : State), s.awake → s.dev.rdB CK_STATUS_TB_Q = true → s.dev.onPll = true → s.dev.rdB CK_STATUS_PLL_SRC = true →
    s.dev.rdB CK_STATUS_REF_Q = false → Completes .tbclkLost s fun t => t.dev.ckSel = ckWait ∧ t.dev.rd CK_EVT_WAITS =
    satN 0xFFFF (s.dev.rd CK_EVT_WAITS + 1) ∧ t.dev.mode = NO_SOURCE ∧ t.dev.rdB CK_STATUS_PLL_LOCK = false ∧ (∀ f ∈
    s.dev.serving, t.dev.rdB (ST_OP_STATUS_HOLD_SAFE f) = true) ∧ t.dev.rdB CK_LOSS_TO_WAIT = true ∧ s.parts t
    { s.dev with sel := { s.dev.sel with onRosc := s.dev.sel.onRosc || decide (s.dev.mode ≠ NO_SOURCE) }, time := t.dev.time, dom := t.dev.dom, clk := t.dev.clk, pat := t.dev.pat, fld := t.dev.fld, cls := t.dev.cls, inst := t.dev.inst, tile := t.dev.tile, led := { s.dev.led with marks := t.dev.led.marks }, fc := { s.dev.fc with raised := s.dev.fc.raised ++ [s.dev.report .clock 6 central 0] } }) ∧
  (∀ (s : State), s.awake → s.dev.rdB CK_STATUS_REF_Q = true → s.dev.onPll = true → s.dev.rdB CK_STATUS_PLL_SRC = true →
    Completes .refclkLost s fun t => t.dev.rdB CK_STATUS_REF_Q = false ∧ t.dev.rd CK_LOSS_SRC = 0 ∧ t.dev.rdB
    CK_LOSS_VALID = true ∧ t.dev.rdB CK_LOSS_TO_WAIT = false ∧ s.changes t
    { s.dev with fc := { s.dev.fc with raised := s.dev.fc.raised ++ [s.dev.report .clock 8 central 0] } }
    [CK_STATUS_REF_Q, CK_LOSS_SRC, CK_LOSS_VALID, CK_LOSS_TO_WAIT]) ∧
  (∀ (s : State), s.awake → s.dev.rdB CK_STATUS_REF_Q = false → Completes .refclkLost s fun t => s.changes t s.dev []) ∧
  (∀ (s : State), s.awake → s.dev.rdB CK_STATUS_TB_Q = false → Completes .tbclkLost s fun t => s.changes t s.dev []) ∧
  (∀ (s : State), s.awake → (s.dev.ckSel = ckOnTb ∨ s.dev.ckSel = ckOnRef) → Completes .pllUnlock s fun t => t.dev.ckSel
    = ckHolding ∧ t.dev.rdB CK_STATUS_PLL_LOCK = false ∧ t.dev.rd CK_LOSS_SRC = 2 ∧ s.changes t
    { s.dev with fc := { s.dev.fc with raised := s.dev.fc.raised ++ [s.dev.report .clock 10 central 0] } }
    [CK_STATUS_SEL, CK_STATUS_PLL_LOCK, CK_LOSS_SRC, CK_LOSS_VALID, CK_LOSS_TO_WAIT]) ∧
  (∀ (s : State), s.awake → s.dev.ckSel = ckHolding → Completes .pllRelock s fun t => t.dev.ckSel = (if s.dev.rdB
    CK_STATUS_PLL_SRC = true then ckOnTb else ckOnRef) ∧ t.dev.rdB CK_STATUS_PLL_LOCK = true ∧ t.dev.rd CK_EVT_SWITCHES
    = satN 0xFFFF (s.dev.rd CK_EVT_SWITCHES + 1) ∧ s.changes t s.dev [CK_STATUS_SEL, CK_STATUS_PLL_LOCK,
    CK_EVT_SWITCHES]) ∧
  (∀ (s : State), s.awake → s.dev.ckSel = ckHolding → Completes .pllHoldTimeout s fun t => t.dev.ckSel = ckWait ∧
    t.dev.rd CK_EVT_WAITS = satN 0xFFFF (s.dev.rd CK_EVT_WAITS + 1) ∧ t.dev.mode = NO_SOURCE ∧ t.dev.rdB
    CK_STATUS_PLL_LOCK = false ∧ (∀ f ∈ s.dev.serving, t.dev.rdB (ST_OP_STATUS_HOLD_SAFE f) = true) ∧ t.dev.rdB
    CK_LOSS_TO_WAIT = true ∧ s.parts t
    { s.dev with sel := { s.dev.sel with onRosc := s.dev.sel.onRosc || decide (s.dev.mode ≠ NO_SOURCE) }, time := t.dev.time, dom := t.dev.dom, clk := t.dev.clk, pat := t.dev.pat, fld := t.dev.fld, cls := t.dev.cls, inst := t.dev.inst, tile := t.dev.tile, led := { s.dev.led with marks := t.dev.led.marks }, fc := { s.dev.fc with raised := s.dev.fc.raised ++ [s.dev.report .clock 6 central 0] } }) ∧
  (∀ (s : State), s.awake → s.dev.ckSel ≠ ckHolding → Completes .pllHoldTimeout s fun t => s.changes t s.dev []) ∧
  (∀ (s : State), s.awake → s.dev.ckSel = ckOnRef → s.dev.time.count % 1000 = 0 → s.dev.rdB CK_CFG_PREF_TB = true →
    s.dev.rdB CK_STATUS_TB_Q = true → s.dev.expiredAll s.dev.clk.tbQualAt (1000 * orDef (s.dev.rd CK_CFG_TB_RETURN) 1) =
    true → Completes .tbReturn s fun t => t.dev.ckSel = ckHolding ∧ t.dev.rdB CK_STATUS_PLL_SRC = true ∧ t.dev.rdB
    CK_STATUS_PLL_LOCK = false ∧ s.changes t s.dev [CK_STATUS_SEL, CK_STATUS_PLL_SRC, CK_STATUS_PLL_LOCK]) ∧
  (∀ (s : State), s.awake → s.dev.ckSel ≠ ckOnRef → Completes .tbReturn s fun t => s.changes t s.dev []) ∧
  (∀ (s : State), s.awake → Completes .roscStop s fun t => t.dev.rdB CK_STATUS_ROSC_RUN = false ∧ (∀ f ∈ s.dev.serving,
    t.dev.rdB (ST_OP_STATUS_HOLD_SAFE f) = true) ∧ s.parts t
    { s.dev with dom := t.dev.dom, clk := t.dev.clk, pat := t.dev.pat, fld := t.dev.fld, cls := t.dev.cls, inst := t.dev.inst, tile := t.dev.tile, led := { s.dev.led with marks := t.dev.led.marks } })

/-- R312, R313, R314, R315: A write of CK_GATE sets the enables of the gated blocks; it is refused whole with
STATE_CONFLICT where it would close a gate that may not close. A gate whose enable is set opens once it does not
quiesce; a quiescing gate closes, and an access it cuts is reported with its address, master and direction. A write of
the clock output's setting takes effect whole. Exec answers a next state with its own effect, for every state and
operands that meet the conditions of its clause: ckGate, gateOpen, gateClose, clkoutChange. -/
def Obligations.GatesAndClockOutput : Prop :=
  (∀ (s : State) (v : BitVec 32), s.awake → (∀ b ∈ gated, s.dev.rdB (CK_GATE_EN b) = true → bitOf v.toNat b = false →
    s.dev.mayClose b = true) → Completes (.ckGate v) s fun t => (∀ b ∈ gated, t.dev.rdB (CK_GATE_EN b) = bitOf v.toNat b
    ∧ t.dev.rdB (CK_GATE_STAT_QUIESCE_BIT b) = (if s.dev.rdB (CK_GATE_EN b) = true ∧ bitOf v.toNat b = false then
    s.dev.rdB (CK_GATE_STAT_OPEN_BIT b) else s.dev.rdB (CK_GATE_STAT_QUIESCE_BIT b))) ∧ s.changes t s.dev (gated.map
    CK_GATE_EN ++ gated.map CK_GATE_STAT_QUIESCE_BIT)) ∧
  (∀ (s : State) (v : BitVec 32) (b : Fin 12), s.awake → b.val ∈ gated → s.dev.rdB (CK_GATE_EN b) = true → bitOf v.toNat
    b = false → s.dev.mayClose b = false → Completes (.ckGate v) s fun t => t.dev.rdB CK_STATUS_STATE_CONFLICT = true ∧
    s.changes t s.dev [CK_STATUS_STATE_CONFLICT]) ∧
  (∀ (s : State) (b : Fin 12), s.awake → s.dev.rdB (CK_GATE_EN b) = true → s.dev.rdB (CK_GATE_STAT_QUIESCE_BIT b) =
    false → Completes (.gateOpen b) s fun t => t.dev.rdB (CK_GATE_STAT_OPEN_BIT b) = true ∧ s.changes t s.dev
    [CK_GATE_STAT_OPEN_BIT b]) ∧
  (∀ (s : State) (b : Fin 12), s.awake → (s.dev.rdB (CK_GATE_EN b) = false ∨ s.dev.rdB (CK_GATE_STAT_QUIESCE_BIT b) =
    true) → Completes (.gateOpen b) s fun t => s.changes t s.dev []) ∧
  (∀ (s : State) (b : Fin 12), s.awake → s.dev.rdB (CK_GATE_STAT_QUIESCE_BIT b) = true → Completes (.gateClose b none) s
    fun t => t.dev.rdB (CK_GATE_STAT_OPEN_BIT b) = false ∧ t.dev.rdB (CK_GATE_STAT_QUIESCE_BIT b) = false ∧ s.changes t
    s.dev [CK_GATE_STAT_OPEN_BIT b, CK_GATE_STAT_QUIESCE_BIT b]) ∧
  (∀ (s : State) (b : Fin 12) (x : AccessObs), s.awake → s.dev.rdB (CK_GATE_STAT_QUIESCE_BIT b) = true → Completes
    (.gateClose b (some x)) s fun t => t.dev.rdB (CK_GATE_STAT_OPEN_BIT b) = false ∧ t.dev.rdB (CK_GATE_STAT_QUIESCE_BIT
    b) = false ∧ s.changes t
    { s.dev with fc := { s.dev.fc with raised := s.dev.fc.raised ++ [{ s.dev.report .bus 2 central 0 with addr := x.addr.toNat, master := x.master.val, access := b01 x.write }] } }
    [CK_GATE_STAT_OPEN_BIT b, CK_GATE_STAT_QUIESCE_BIT b]) ∧
  (∀ (s : State) (b : Fin 12) (x : Option AccessObs), s.awake → s.dev.rdB (CK_GATE_STAT_QUIESCE_BIT b) = false →
    Completes (.gateClose b x) s fun t => s.changes t s.dev []) ∧
  (∀ (s : State) (v : BitVec 32), s.awake → Completes (.clkoutChange false v) s fun t => t.dev.rd CK_OUT_EN = v.toNat %
    2 ∧ t.dev.rd CK_OUT_SRC = v.toNat / 2 % 8 ∧ t.dev.rd CK_OUT_DIV = v.toNat / 2 ^ 16 ∧ s.changes t s.dev [CK_OUT_EN,
    CK_OUT_SRC, CK_OUT_DIV]) ∧
  (∀ (s : State) (v : BitVec 32), s.awake → Completes (.clkoutChange true v) s fun t => t.dev.rd CK_OUT_PATCH_FIELD =
    v.toNat % 128 ∧ t.dev.rd CK_OUT_PATCH_PATCH = v.toNat / 2 ^ 8 % 64 ∧ s.changes t s.dev [CK_OUT_PATCH_FIELD,
    CK_OUT_PATCH_PATCH])

/-- R9, R11, R263, R318, R336, R370, R422: RESET_N low puts every part of the state at its reset value but the
selvedge's, FC_L4, the flash, the TAP's and the levels of the pins; the life cycle in effect is the fuses'. Its release
fixes the PMBus address by the straps, draws an INCARN that is not zero and enters step 3. Power-on keeps only the
flash. A due L4 reset, and NO_IMAGE with a slot PENDING, reset and boot in the same way with their own cause. Exec
answers a next state with its own effect, for every state and operands that meet the conditions of its clause:
resetNAssert, resetNRelease, powerOn, l4Reset, noImageRestart. -/
def Obligations.ResetsAndPower : Prop :=
  (∀ (s : State), Completes .resetNAssert s fun t => t.dev.pins.resetN = false ∧ (∀ x : Fld, 0x20010000 ≤ x.addr →
    x.addr < 0x30000000 → x.addr ≠ FC_L4_CLASS.addr → x.addr ≠ FC_L4_TS_LO_STAMP.addr → x.addr ≠ FC_L4_TS_HI_STAMP.addr
    → t.dev.rd x = fldGet x (resetWord x.addr)) ∧ s.parts t
    { Dev.init with pins := { s.dev.pins with resetN := false }, nv := { NvmS.init with flash := s.dev.nv.flash }, sel := { s.dev.sel with onRosc := true }, mg := { MgmtS.init with lc := s.fuses.lc, cause := 1, ir := s.dev.mg.ir, bsr := s.dev.mg.bsr, extest := s.dev.mg.extest }, out := s.dev.out, hostFull := s.dev.hostFull, fresh := s.dev.fresh }) ∧
  (∀ (s : State), Tab.wf resetWord 0 s.dev.regs = true → Completes .resetNAssert s fun t => t.dev.rd JZ_SEL_STATUS_STATE
    = s.dev.rd JZ_SEL_STATUS_STATE ∧ t.dev.rdB JZ_SEL_STATUS_CAUSE_TRIP = s.dev.rdB JZ_SEL_STATUS_CAUSE_TRIP ∧ t.dev.rd
    FC_L4_COUNT = s.dev.rd FC_L4_COUNT) ∧
  (∀ (s : State) (q : BitVec 2), (s.dev.pins.resetN = false ∨ s.dev.start.step = 1) → Completes (.resetNRelease q) s fun
    t => t.dev.start.step = 3 ∧ t.dev.rd PM_STATUS_ADDR = 0x5C + q.toNat ∧ t.dev.pp.incarn ≠ 0 ∧ t.dev.sram = [] ∧
    t.dev.pins.strap = q.toNat ∧ t.dev.pins.resetN = true ∧ s.changes t
    { s.dev with pins := { s.dev.pins with resetN := true, strap := q.toNat }, sram := [], fresh := s.dev.fresh + 2, pp := { s.dev.pp with incarn := t.dev.pp.incarn }, start := { s.dev.start with step := 3, since := s.dev.time.nb } }
    [PM_STATUS_ADDR, LG_RP_SALT_SALT]) ∧
  (∀ (s : State) (q : BitVec 2), s.dev.pins.resetN = true → s.dev.start.step ≠ 1 → Completes (.resetNRelease q) s fun t
    => s.changes t s.dev []) ∧
  (∀ (s : State), Completes .powerOn s fun t => t.dev.pins.resetN = false ∧ t.dev.selState = selWait ∧ (∀ x : Fld,
    x.addr ≠ JZ_SEL_STATUS_STATE.addr → t.dev.rd x = fldGet x (resetWord x.addr)) ∧ s.parts t
    { Dev.init with pins := { s.dev.pins with resetN := false }, nv := { NvmS.init with flash := s.dev.nv.flash }, sel := SelS.init, mg := { MgmtS.init with lc := s.fuses.lc }, out := s.dev.out, hostFull := s.dev.hostFull, fresh := s.dev.fresh }) ∧
  (∀ (s : State) (b : Bool), s.awake → s.dev.fc.l4.isSome = true → (2 ≤ s.dev.fc.l4Bolts ∨ (b = true ∧ s.dev.boundaries
    = false)) → Completes (.l4Reset b) s fun t => t.dev.start.step = 3 ∧ t.dev.pp.incarn ≠ 0 ∧ t.dev.mg.cause = 2 ∧
    t.dev.mg.lc = s.dev.mg.lc ∧ t.dev.ready = false ∧ s.parts t
    { Dev.init with pins := { s.dev.pins with resetN := true, strap := s.dev.pins.strap }, nv := { NvmS.init with flash := s.dev.nv.flash }, sel := { s.dev.sel with onRosc := true }, mg := { MgmtS.init with lc := s.dev.mg.lc, cause := 2, ir := s.dev.mg.ir, bsr := s.dev.mg.bsr, extest := s.dev.mg.extest }, out := s.dev.out, hostFull := s.dev.hostFull, fresh := s.dev.fresh + 2, start := { StartS.init with step := 3 }, pp := { PeerS.init with incarn := t.dev.pp.incarn } }) ∧
  (∀ (s : State) (b : Bool), s.awake → (s.dev.fc.l4 = none ∨ (s.dev.fc.l4Bolts < 2 ∧ b = false)) → Completes (.l4Reset
    b) s fun t => s.changes t s.dev []) ∧
  (∀ (s : State), s.awake → s.dev.rdB NV_STATUS_NO_IMAGE = true → (s.dev.hdr.st.1 = slPending ∨ s.dev.hdr.st.2 =
    slPending) → s.dev.hdrNow.isSome = true → Completes .noImageRestart s fun t => t.dev.start.step = 3 ∧
    t.dev.pp.incarn ≠ 0 ∧ t.dev.mg.cause = 3 ∧ t.dev.mg.lc = s.fuses.lc ∧ t.dev.rdB NV_STATUS_NO_IMAGE = false ∧ s.parts
    t
    { Dev.init with pins := { s.dev.pins with resetN := true, strap := s.dev.pins.strap }, nv := { NvmS.init with flash := s.dev.nv.flash }, sel := { s.dev.sel with onRosc := true }, mg := { MgmtS.init with lc := s.fuses.lc, cause := 3, ir := s.dev.mg.ir, bsr := s.dev.mg.bsr, extest := s.dev.mg.extest }, out := s.dev.out, hostFull := s.dev.hostFull, fresh := s.dev.fresh + 2, start := { StartS.init with step := 3 }, pp := { PeerS.init with incarn := t.dev.pp.incarn } }) ∧
  (∀ (s : State), s.awake → s.dev.rdB NV_STATUS_NO_IMAGE = false → Completes .noImageRestart s fun t => s.changes t
    s.dev [])

/-- R12, R318, R320, R330, R333, R335, R336, R338, R341, R350, R353, R355, R358, R370: The kernel's failure, or a fourth
L4 in a row, ends the start; its pass enters step 4. There the first slot whose image passes its checks is applied, the
configuration locked and step 5 entered; without flash parameters, or with every slot failing, NO_IMAGE is set.
CONFIG_LOCK is set once and refuses fields with a falling VF table. Step 7 begins the stress test of every testable
field; a field that passed with its links UP is brought up; READY sets when it may, with the fused count raised in life
cycle FIELD. BT_IMG_DATA and BT_LOAD work only outside FIELD. Exec answers a next state with its own effect, for every
state and operands that meet the conditions of its clause: kernelSelftest, imageLoad, configLock, stressStart,
fieldBringUp, ready, btImgData, btLoad. -/
def Obligations.StartUpSteps : Prop :=
  (∀ (s : State) (x : BitVec 8 × BitVec 8) (b : Bool), s.awake → s.dev.start.step = 3 → s.dev.start.dead = false →
    Completes (.kernelSelftest (some x) b) s fun t => t.dev.start.dead = true ∧ t.dev.rd BT_KFAIL_SLICE = x.1.toNat ∧
    t.dev.rd BT_KFAIL_CHECK = x.2.toNat ∧ t.dev.rdB BT_KFAIL_VALID = true ∧ t.dev.rd BT_CNT0_FAIL = satN 0xFFFF
    (s.dev.rd BT_CNT0_FAIL + 1) ∧ s.changes t { s.dev with start := { s.dev.start with dead := true } } [BT_KFAIL_SLICE,
    BT_KFAIL_CHECK, BT_KFAIL_VALID, BT_CNT0_FAIL]) ∧
  (∀ (s : State) (b : Bool), s.awake → s.dev.start.step = 3 → s.dev.start.dead = false → s.dev.rd FC_L4_COUNT = 3 →
    Completes (.kernelSelftest none b) s fun t => t.dev.start.dead = true ∧ s.changes t
    { s.dev with start := { s.dev.start with dead := true } } []) ∧
  (∀ (s : State), s.awake → s.dev.start.step = 3 → s.dev.start.dead = false → s.dev.rd FC_L4_COUNT ≠ 3 → Completes
    (.kernelSelftest none true) s fun t => t.dev.rdB BT_STATUS_KERNEL_OK = true ∧ s.changes t
    { s.dev with start := { s.dev.start with step := 4, since := s.dev.time.nb } } [BT_STATUS_KERNEL_OK]) ∧
  (∀ (s : State), s.awake → s.dev.start.step = 3 → s.dev.start.dead = false → s.dev.rd FC_L4_COUNT ≠ 3 → Completes
    (.kernelSelftest none false) s fun t => t.dev.rdB BT_STATUS_KERNEL_OK = true ∧ s.changes t
    { s.dev with start := { s.dev.start with step := 4, since := s.dev.time.nb }, time := { s.dev.time with laneOff := true }, fc := { s.dev.fc with raised := s.dev.fc.raised ++ [s.dev.report .selftest 5 central 0] } }
    [BT_STATUS_KERNEL_OK, BT_RESULT_SLICE, BT_RESULT_FIELD, BT_RESULT_PATCH, BT_RESULT_OUTCOME, BT_RESULT_DONE,
    BT_RESULT_CHECK, BT_CNT0_FAIL, BT_CNT0_RUN]) ∧
  (∀ (s : State) (x : Option (BitVec 8 × BitVec 8)) (b : Bool), s.awake → (s.dev.start.step ≠ 3 ∨ s.dev.start.dead =
    true) → Completes (.kernelSelftest x b) s fun t => s.changes t s.dev []) ∧
  (∀ (s : State) (oa ob : SigObs) (y : SfdpObs), s.awake → s.dev.start.step = 4 → s.dev.start.dead = false → s.dev.rdB
    NV_STATUS_NO_IMAGE = false → y.ok = false → Completes (.imageLoad oa ob y) s fun t => t.dev.rdB NV_STATUS_NO_IMAGE =
    true ∧ s.changes t s.dev [NV_STATUS_NO_IMAGE, NV_ERR_CRC_ERR, NV_SLOT_STATE_A, NV_SLOT_STATE_B, NV_SLOT_ACTIVE,
    NV_SLOT_ACTIVE_VALID, NV_SLOT_SECVER_A, NV_SLOT_SECVER_B]) ∧
  (∀ (s : State) (oa ob : SigObs) (y : SfdpObs) (b : Bool) (n : Nat) (l : List (Bool × Nat)) (h : Nat × Hdr), s.awake →
    s.dev.start.step = 4 → s.dev.start.dead = false → s.dev.rdB NV_STATUS_NO_IMAGE = false → y.ok = true →
    s.dev.tryOrder = (b, n) :: l → s.dev.hdrNow = some h → s.dev.imgFails s.fuses b (pick2 b h.2.len) (if b = true then
    ob else oa) true = none → (s.dev.sections b).all (·.1 ≠ 1) = true → Completes (.imageLoad oa ob y) s fun t =>
    t.dev.start.step = 5 ∧ t.dev.locked = true ∧ t.dev.rdB NV_SLOT_BOOTED = b ∧ s.parts t
    { s.dev with nv := t.dev.nv, ev := t.dev.ev, fld := t.dev.fld, pat := t.dev.pat, inst := t.dev.inst, cls := t.dev.cls, dom := t.dev.dom, bud := t.dev.bud, rp := { s.dev.rp with strikes := t.dev.rp.strikes }, fc := t.dev.fc, start := { s.dev.start with step := 5, since := s.dev.time.nb }, chan := t.dev.chan, opt := t.dev.opt }) ∧
  (∀ (s : State) (oa ob : SigObs) (y : SfdpObs), s.awake → s.dev.start.step = 4 → s.dev.start.dead = false → s.dev.rdB
    NV_STATUS_NO_IMAGE = false → y.ok = true → (s.dev.tryOrder.all (fun x => (s.dev.imgFails s.fuses x.1 (pick2 x.1
    s.dev.hdr.len) (if x.1 = true then ob else oa) true).isSome) = true) → s.dev.hdrNow.isSome = true → Completes
    (.imageLoad oa ob y) s fun t => t.dev.rdB NV_STATUS_NO_IMAGE = true ∧ s.parts t
    { s.dev with nv := { s.dev.nv with flash := t.dev.nv.flash }, fc := t.dev.fc }) ∧
  (∀ (s : State) (oa ob : SigObs) (y : SfdpObs), s.awake → s.dev.start.step ≠ 4 → Completes (.imageLoad oa ob y) s fun t
    => s.changes t s.dev []) ∧
  (∀ (s : State), s.awake → s.dev.locked = false → Completes .configLock s fun t => t.dev.locked = true ∧ (∀ f : Fin 96,
    s.dev.vfRises f = false ∨ s.dev.splitFits f = false → (t.dev.fd f).refused = true) ∧ s.parts t
    { s.dev with bud := { s.dev.bud with tray := t.dev.bud.tray, rack := t.dev.bud.rack }, fld := t.dev.fld, fc := t.dev.fc, inst := t.dev.inst }) ∧
  (∀ (s : State), s.awake → s.dev.locked = true → Completes .configLock s fun t => s.changes t s.dev []) ∧
  (∀ (s : State), s.awake → s.dev.start.step = 7 → s.dev.start.begun = false → s.dev.start.dead = false →
    s.dev.time.count % 1000 = 0 → s.dev.start.since < s.dev.time.nb → s.dev.boundaries = true → s.dev.selState = selRun
    → s.dev.stopped = false → Completes .stressStart s fun t => t.dev.start.begun = true ∧ (∀ f ∈ s.dev.testable,
    (t.dev.stressOf f).phase = 1 ∧ (t.dev.fd f).up = false ∧ (t.dev.fd f).passed = false ∧ ∀ k : Fin 4, t.dev.rd
    (ST_LINK_CMD_MODE_REQ f k) = modeRun) ∧ (s.changes t
    { s.dev with start := { s.dev.start with begun := true }, test := { s.dev.test with stress := t.dev.test.stress }, fld := t.dev.fld }
    (s.dev.testable.flatMap fun f => (List.range 4).map (ST_LINK_CMD_MODE_REQ f)))) ∧
  (∀ (s : State), s.awake → s.dev.start.step ≠ 7 → Completes .stressStart s fun t => s.changes t s.dev []) ∧
  (∀ (s : State) (f : Fin 96), s.awake → s.dev.toBring.contains f.val = true → (s.dev.stressOf f).phase = 7 →
    (s.dev.stressOf f).result = 1 → s.dev.linksUp f = true → s.dev.boundaries = true → s.dev.stopped = false →
    s.dev.selStop = false → (s.dev.start.step = 8 ∨ s.dev.start.step = 9) → Completes (.fieldBringUp f) s fun t =>
    t.dev.inService f = true ∧ t.dev.rdB (ST_OP_STATUS_HOLD_SAFE f) = false ∧ (∀ k : Fin 4, t.dev.rd
    (ST_LINK_CMD_MODE_REQ f k) = modeRun) ∧ s.parts t
    { s.dev with fld := t.dev.fld, inst := t.dev.inst, pat := t.dev.pat, start := t.dev.start, dom := t.dev.dom, tile := t.dev.tile, led := { s.dev.led with marks := t.dev.led.marks }, clk := t.dev.clk }) ∧
  (∀ (s : State) (f : Fin 96), s.awake → s.dev.toBring.contains f.val = false → Completes (.fieldBringUp f) s fun t =>
    s.changes t s.dev []) ∧
  (∀ (s : State), s.awake → s.dev.mayReady = true → s.dev.start.step = 9 → Completes .ready s fun t => t.dev.ready =
    true ∧ s.changes t s.dev [JZ_STATUS_READY]) ∧
  (∀ (s : State), s.awake → s.dev.mayReady = true → s.dev.start.step = 8 → s.dev.mg.lc ≠ .field → Completes .ready s fun
    t => t.dev.ready = true ∧ t.dev.start.step = 9 ∧ s.parts t
    { s.dev with start := { s.dev.start with step := 9, since := s.dev.time.nb }, ev := { s.dev.ev with pend := t.dev.ev.pend } }) ∧
  (∀ (s : State), s.awake → s.dev.mayReady = true → s.dev.start.step = 8 → s.dev.mg.lc = .field → Completes .ready s fun
    t => t.dev.ready = true ∧ t.dev.start.step = 9 ∧ t.fuses =
    { s.fuses with secver := max s.fuses.secver (min 64 (s.dev.nvNum (slotBase (s.dev.rdB NV_SLOT_BOOTED) + 12) 4)) }) ∧
  (∀ (s : State), s.awake → s.dev.mayReady = false → Completes .ready s fun t => s.changes t s.dev []) ∧
  (∀ (s : State) (w : BitVec 32) (a : Nat), s.awake → s.dev.mg.lc ≠ .field → a = slotBase s.dev.inactive + 4 * s.dev.rd
    BT_IMG_ADDR_WORD → Completes (.btImgData w) s fun t => t.dev.rd BT_IMG_ADDR_WORD = (s.dev.rd BT_IMG_ADDR_WORD + 1) %
    2 ^ 21 ∧ (∀ i : Fin 4, t.dev.nvByte (a + i) = s.dev.nvByte (a + i) &&& w.toNat / 256 ^ i.val % 256) ∧ (∀ c : Nat, (c
    < a ∨ a + 4 ≤ c) → t.dev.nvByte c = s.dev.nvByte c) ∧ s.changes t
    { s.dev with nv := { s.dev.nv with flash := t.dev.nv.flash } } [BT_IMG_ADDR_WORD]) ∧
  (∀ (s : State) (w : BitVec 32), s.awake → s.dev.mg.lc = .field → Completes (.btImgData w) s fun t => t.dev.rdB
    BT_STATUS_STATE_CONFLICT = true ∧ s.changes t s.dev [BT_STATUS_STATE_CONFLICT]) ∧
  (∀ (s : State), s.awake → s.dev.mg.lc ≠ .field → s.dev.start.dead = false → s.dev.start.step = 4 → s.dev.imgFails
    s.fuses s.dev.inactive (if s.dev.hdrNow.isSome = true then pick2 s.dev.inactive s.dev.hdr.len else 0x800000) ⟨0,
    true⟩ false = none → (s.dev.sections s.dev.inactive).all (·.1 ≠ 1) = true → Completes .btLoad s fun t =>
    t.dev.start.step = 5 ∧ t.dev.locked = true ∧ t.dev.rdB NV_SLOT_BOOTED = s.dev.inactive ∧ t.dev.rdB
    NV_STATUS_NO_IMAGE = false ∧ s.parts t
    { s.dev with nv := t.dev.nv, ev := t.dev.ev, fld := t.dev.fld, pat := t.dev.pat, inst := t.dev.inst, cls := t.dev.cls, dom := t.dev.dom, bud := t.dev.bud, rp := { s.dev.rp with strikes := t.dev.rp.strikes }, fc := t.dev.fc, start := { s.dev.start with step := 5, since := s.dev.time.nb }, chan := t.dev.chan, opt := t.dev.opt }) ∧
  (∀ (s : State), s.awake → (s.dev.mg.lc = .field ∨ s.dev.start.dead = true ∨ s.dev.start.step ≠ 4) → Completes .btLoad
    s fun t => t.dev.rdB BT_STATUS_STATE_CONFLICT = true ∧ s.changes t s.dev [BT_STATUS_STATE_CONFLICT])

/-- R340, R341, R353, R354, R355, R356, R357, R359: A slice that may run waits for its patch's region, or runs at once
where it needs none; one that may not sets STATE_CONFLICT; the stress test of a field begins at phase 1. A slice or
stress test of a whole field in service stops it. A free region is taken with its settings saved; a slice that waits or
runs too long, or is aborted, ends and its result is shown and counted; a finished one shows PASS, or FAIL with its
first failing check and the report of a service failure; a clock slice that fails retires its patch. Exec answers a next
state with its own effect, for every state and operands that meet the conditions of its clause: sliceGo,
sliceRegionTake, sliceRegionTimeout, sliceOverrun, sliceDone, sliceAbort. -/
def Obligations.SlicesRun : Prop :=
  (∀ (s : State) (w : BitVec 32) (b : Bool), s.awake → (s.dev.rdB BT_STATUS_TAP && !b) = false → (b = false ∨
    s.dev.mg.lc ≠ .field) → s.dev.sliceMay (bitsOf w.toNat 0 8) (bitsOf w.toNat 8 7) (bitsOf w.toNat 16 6) = true →
    isPatchSlice (bitsOf w.toNat 0 8) = true → Completes (.sliceGo w b) s fun t => s.changes t
    { s.dev with test := { s.dev.test with slices := s.dev.test.slices ++ [⟨(bitsOf w.toNat 0 8), sliceField (bitsOf w.toNat 0 8) (bitsOf w.toNat 8 7), (bitsOf w.toNat 16 6), false, s.dev.time.nbRun, s.dev.sliceBudget (bitsOf w.toNat 0 8) (bitsOf w.toNat 24 8), [], false⟩] } }
    []) ∧
  (∀ (s : State) (w : BitVec 32) (b : Bool), s.awake → (s.dev.rdB BT_STATUS_TAP && !b) = false → (b = false ∨
    s.dev.mg.lc ≠ .field) → s.dev.sliceMay (bitsOf w.toNat 0 8) (bitsOf w.toNat 8 7) (bitsOf w.toNat 16 6) = true →
    isPatchSlice (bitsOf w.toNat 0 8) = false → (bitsOf w.toNat 0 8) ≠ 1 → (bitsOf w.toNat 0 8) ≠ 0x40 → (bitsOf w.toNat
    0 8) ≠ 0x20 → s.dev.stopped = false → s.dev.test.slices = [] → Completes (.sliceGo w b) s fun t => t.dev.test.slices
    = [⟨(bitsOf w.toNat 0 8), sliceField (bitsOf w.toNat 0 8) (bitsOf w.toNat 8 7), (bitsOf w.toNat 16 6), true,
    s.dev.time.nbRun, s.dev.sliceBudget (bitsOf w.toNat 0 8) (bitsOf w.toNat 24 8), [], false⟩] ∧ s.changes t
    { s.dev with test := { s.dev.test with slices := t.dev.test.slices } } []) ∧
  (∀ (s : State) (w : BitVec 32) (b : Bool), s.awake → (s.dev.rdB BT_STATUS_TAP && !b) = false → (b = false ∨
    s.dev.mg.lc ≠ .field) → s.dev.sliceMay (bitsOf w.toNat 0 8) (bitsOf w.toNat 8 7) (bitsOf w.toNat 16 6) = true →
    (bitsOf w.toNat 0 8) = 0x20 → s.dev.stopped = false → s.dev.test.slices = [] → Completes (.sliceGo w b) s fun t =>
    t.dev.test.slices = [⟨(bitsOf w.toNat 0 8), sliceField (bitsOf w.toNat 0 8) (bitsOf w.toNat 8 7), (bitsOf w.toNat 16
    6), true, s.dev.time.nbRun, s.dev.sliceBudget (bitsOf w.toNat 0 8) (bitsOf w.toNat 24 8), [], false⟩] ∧ (t.dev.fd
    (bitsOf w.toNat 8 7)).stop = .selfTest ∧ (t.dev.fd (bitsOf w.toNat 8 7)).stopDue = true ∧ (t.dev.fd (bitsOf w.toNat
    8 7)).hints = [] ∧ s.changes t
    { s.dev with test := { s.dev.test with slices := t.dev.test.slices }, fld := t.dev.fld, tile := t.dev.tile }
    [ST_HINT_DROP2_DRAIN (bitsOf w.toNat 8 7)]) ∧
  (∀ (s : State) (w : BitVec 32) (b : Bool), s.awake → (s.dev.rdB BT_STATUS_TAP && !b) = false → (b = false ∨
    s.dev.mg.lc ≠ .field) → s.dev.sliceMay (bitsOf w.toNat 0 8) (bitsOf w.toNat 8 7) (bitsOf w.toNat 16 6) = true →
    (bitsOf w.toNat 0 8) = 0x40 → s.dev.inService (bitsOf w.toNat 8 7) = false → Completes (.sliceGo w b) s fun t =>
    (t.dev.stressOf (bitsOf w.toNat 8 7)).phase = 1 ∧ (t.dev.stressOf (bitsOf w.toNat 8 7)).retest = true ∧ (t.dev.fd
    (bitsOf w.toNat 8 7)).up = false ∧ (∀ k : Fin 4, t.dev.rd (ST_LINK_CMD_MODE_REQ (bitsOf w.toNat 8 7) k) = modeRun) ∧
    s.changes t { s.dev with test := { s.dev.test with stress := t.dev.test.stress }, fld := t.dev.fld }
    [ST_LINK_CMD_MODE_REQ (bitsOf w.toNat 8 7) 0, ST_LINK_CMD_MODE_REQ (bitsOf w.toNat 8 7) 1, ST_LINK_CMD_MODE_REQ
    (bitsOf w.toNat 8 7) 2, ST_LINK_CMD_MODE_REQ (bitsOf w.toNat 8 7) 3]) ∧
  (∀ (s : State) (w : BitVec 32) (b : Bool), s.awake → (s.dev.rdB BT_STATUS_TAP && !b) = false → (b = false ∨
    s.dev.mg.lc ≠ .field) → s.dev.sliceMay (bitsOf w.toNat 0 8) (bitsOf w.toNat 8 7) (bitsOf w.toNat 16 6) = true →
    (bitsOf w.toNat 0 8) = 0x40 → s.dev.inService (bitsOf w.toNat 8 7) = true → Completes (.sliceGo w b) s fun t =>
    (t.dev.stressOf (bitsOf w.toNat 8 7)).phase = 1 ∧ (t.dev.stressOf (bitsOf w.toNat 8 7)).retest = true ∧ (t.dev.fd
    (bitsOf w.toNat 8 7)).up = false ∧ (t.dev.fd (bitsOf w.toNat 8 7)).stop = .selfTest ∧ (∀ k : Fin 4, t.dev.rd
    (ST_LINK_CMD_MODE_REQ (bitsOf w.toNat 8 7) k) = modeRun) ∧ s.changes t
    { s.dev with test := { s.dev.test with stress := t.dev.test.stress }, fld := t.dev.fld, tile := t.dev.tile }
    [ST_HINT_DROP2_DRAIN (bitsOf w.toNat 8 7), ST_LINK_CMD_MODE_REQ (bitsOf w.toNat 8 7) 0, ST_LINK_CMD_MODE_REQ (bitsOf
    w.toNat 8 7) 1, ST_LINK_CMD_MODE_REQ (bitsOf w.toNat 8 7) 2, ST_LINK_CMD_MODE_REQ (bitsOf w.toNat 8 7) 3]) ∧
  (∀ (s : State) (w : BitVec 32) (b : Bool), s.awake → s.dev.sliceMay (bitsOf w.toNat 0 8) (bitsOf w.toNat 8 7) (bitsOf
    w.toNat 16 6) = false → Completes (.sliceGo w b) s fun t => t.dev.rdB BT_STATUS_STATE_CONFLICT = true ∧ s.changes t
    s.dev [BT_STATUS_STATE_CONFLICT]) ∧
  (∀ (s : State) (f : BitVec 7) (x : Slice), s.awake → s.dev.test.slices = [x] → x.field = f.toNat → x.run = false →
    s.dev.regionFree x = true → isPatchSlice x.id = true → x.id ≠ 0x19 → x.id ≠ 0x1F → Completes (.sliceRegionTake f) s
    fun t => (t.dev.test.slices =
    [{ x with run := true, at_ := s.dev.time.nbRun, saved := (saveAddrs x.field x.patch).map fun a => (a, s.dev.reg a) }])
    ∧ s.changes t { s.dev with test := { s.dev.test with slices := t.dev.test.slices } } []) ∧
  (∀ (s : State) (f : BitVec 7), s.awake → (∀ x ∈ s.dev.test.slices, x.field = f.toNat → x.run = true ∨ s.dev.regionFree
    x = false) → Completes (.sliceRegionTake f) s fun t => s.changes t s.dev []) ∧
  (∀ (s : State) (f : BitVec 7) (x : Slice), s.awake → s.dev.test.slices = [x] → x.field = f.toNat → x.run = false →
    s.dev.expired x.at_ (1000 * orDef (s.dev.rd BT_CFG0_REGION_WAIT) 1) = true → Completes (.sliceRegionTimeout f) s fun
    t => t.dev.rd BT_RESULT_SLICE = x.id % 256 ∧ t.dev.rd BT_RESULT_FIELD = x.field % 128 ∧ t.dev.rd BT_RESULT_PATCH =
    x.patch % 64 ∧ t.dev.rd BT_RESULT_OUTCOME = 2 ∧ t.dev.rdB BT_RESULT_DONE = true ∧ t.dev.rd BT_RESULT_CHECK = 0 ∧
    t.dev.rd BT_CNT1_ABANDONED = satN 0xFFFF (s.dev.rd BT_CNT1_ABANDONED + 1) ∧ t.dev.test.slices = [] ∧ s.changes t
    { s.dev with test := { s.dev.test with slices := [] } } [BT_RESULT_SLICE, BT_RESULT_FIELD, BT_RESULT_PATCH,
    BT_RESULT_OUTCOME, BT_RESULT_DONE, BT_RESULT_CHECK, BT_CNT1_ABANDONED]) ∧
  (∀ (s : State) (f : BitVec 7), s.awake → (∀ x ∈ s.dev.test.slices, x.field = f.toNat → x.run = true ∨ s.dev.expired
    x.at_ (1000 * orDef (s.dev.rd BT_CFG0_REGION_WAIT) 1) = false) → Completes (.sliceRegionTimeout f) s fun t =>
    s.changes t s.dev []) ∧
  (∀ (s : State) (f : BitVec 7) (x : Slice), s.awake → s.dev.test.slices = [x] → x.field = f.toNat → x.run = true →
    s.dev.expired x.at_ x.budget = true → s.dev.rp.assaying = none → isPatchSlice x.id = false → Completes
    (.sliceOverrun f) s fun t => t.dev.rd BT_RESULT_SLICE = x.id % 256 ∧ t.dev.rd BT_RESULT_FIELD = x.field % 128 ∧
    t.dev.rd BT_RESULT_PATCH = x.patch % 64 ∧ t.dev.rd BT_RESULT_OUTCOME = 3 ∧ t.dev.rdB BT_RESULT_DONE = true ∧
    t.dev.rd BT_RESULT_CHECK = 0 ∧ t.dev.rd BT_CNT1_OVERRUN = satN 0xFFFF (s.dev.rd BT_CNT1_OVERRUN + 1) ∧
    t.dev.test.slices = [] ∧ s.changes t { s.dev with test := { s.dev.test with slices := [] } } [BT_RESULT_SLICE,
    BT_RESULT_FIELD, BT_RESULT_PATCH, BT_RESULT_OUTCOME, BT_RESULT_DONE, BT_RESULT_CHECK, BT_CNT1_OVERRUN]) ∧
  (∀ (s : State) (f : BitVec 7) (x : Slice), s.awake → s.dev.test.slices = [x] → x.field = f.toNat → x.run = true →
    s.dev.expired x.at_ x.budget = true → s.dev.rp.assaying = none → isPatchSlice x.id = true → x.saved = [] → Completes
    (.sliceOverrun f) s fun t => t.dev.rd BT_RESULT_SLICE = x.id % 256 ∧ t.dev.rd BT_RESULT_FIELD = x.field % 128 ∧
    t.dev.rd BT_RESULT_PATCH = x.patch % 64 ∧ t.dev.rd BT_RESULT_OUTCOME = 3 ∧ t.dev.rdB BT_RESULT_DONE = true ∧
    t.dev.rd BT_RESULT_CHECK = 0 ∧ t.dev.rd BT_CNT1_OVERRUN = satN 0xFFFF (s.dev.rd BT_CNT1_OVERRUN + 1) ∧
    t.dev.test.slices = [] ∧ s.parts t { s.dev with test := { s.dev.test with slices := [] }, pat := t.dev.pat }) ∧
  (∀ (s : State) (f : BitVec 7), s.awake → (∀ x ∈ s.dev.test.slices, x.field = f.toNat → x.run = false ∨ s.dev.expired
    x.at_ x.budget = false) → Completes (.sliceOverrun f) s fun t => s.changes t s.dev []) ∧
  (∀ (s : State) (f : BitVec 7) (x : Slice), s.awake → s.dev.test.slices = [x] → x.field = f.toNat → x.run = true →
    isPatchSlice x.id = false → Completes (.sliceDone f [.flag none]) s fun t => t.dev.rd BT_RESULT_SLICE = x.id % 256 ∧
    t.dev.rd BT_RESULT_FIELD = x.field % 128 ∧ t.dev.rd BT_RESULT_PATCH = x.patch % 64 ∧ t.dev.rd BT_RESULT_OUTCOME = 0
    ∧ t.dev.rdB BT_RESULT_DONE = true ∧ t.dev.rd BT_RESULT_CHECK = 0 ∧ t.dev.rd BT_CNT0_RUN = satN 0xFFFF (s.dev.rd
    BT_CNT0_RUN + 1) ∧ t.dev.test.slices = [] ∧ s.changes t { s.dev with test := { s.dev.test with slices := [] } }
    [BT_RESULT_SLICE, BT_RESULT_FIELD, BT_RESULT_PATCH, BT_RESULT_OUTCOME, BT_RESULT_DONE, BT_RESULT_CHECK,
    BT_CNT0_RUN]) ∧
  (∀ (s : State) (f : BitVec 7) (x : Slice) (c : BitVec 4), s.awake → s.dev.test.slices = [x] → x.field = f.toNat →
    x.run = true → x.id = 0x20 → Completes (.sliceDone f [.flag (some c)]) s fun t => t.dev.rd BT_RESULT_SLICE = x.id %
    256 ∧ t.dev.rd BT_RESULT_FIELD = x.field % 128 ∧ t.dev.rd BT_RESULT_PATCH = x.patch % 64 ∧ t.dev.rd
    BT_RESULT_OUTCOME = 1 ∧ t.dev.rdB BT_RESULT_DONE = true ∧ t.dev.rd BT_RESULT_CHECK = c.toNat ∧ t.dev.rd BT_CNT0_RUN
    = satN 0xFFFF (s.dev.rd BT_CNT0_RUN + 1) ∧ t.dev.rd BT_CNT0_FAIL = satN 0xFFFF (s.dev.rd BT_CNT0_FAIL + 1) ∧
    t.dev.test.slices = [] ∧ s.changes t
    { s.dev with test := { s.dev.test with slices := [] }, fc := { s.dev.fc with raised := s.dev.fc.raised ++ [s.dev.report .selftest 3 x.field 0] } }
    [BT_RESULT_SLICE, BT_RESULT_FIELD, BT_RESULT_PATCH, BT_RESULT_OUTCOME, BT_RESULT_DONE, BT_RESULT_CHECK, BT_CNT0_RUN,
    BT_CNT0_FAIL]) ∧
  (∀ (s : State) (f : BitVec 7) (x : Slice) (l : List (BitVec 16)) (b : Bool) (c : Nat), s.awake → s.dev.test.slices =
    [x] → x.field = f.toNat → x.run = true → x.id = 0x10 → x.saved = [] → x.field < 96 → x.patch < 36 → clockFail l b =
    some c → s.dev.retired x.field x.patch = false → Completes (.sliceDone f [.clock l b]) s fun t => t.dev.rd
    BT_RESULT_SLICE = x.id % 256 ∧ t.dev.rd BT_RESULT_FIELD = x.field % 128 ∧ t.dev.rd BT_RESULT_PATCH = x.patch % 64 ∧
    t.dev.rd BT_RESULT_OUTCOME = 1 ∧ t.dev.rdB BT_RESULT_DONE = true ∧ t.dev.rd BT_RESULT_CHECK = c % 16 ∧ t.dev.rd
    BT_CNT0_RUN = satN 0xFFFF (s.dev.rd BT_CNT0_RUN + 1) ∧ t.dev.rd BT_CNT0_FAIL = satN 0xFFFF (s.dev.rd BT_CNT0_FAIL +
    1) ∧ t.dev.rdB (ST_OP_PATCH_RETIRE x.field x.patch) = true ∧ t.dev.pstate x.field x.patch = (if s.dev.runs x.field
    x.patch = true then s.dev.pstate x.field x.patch else psRetired) ∧ s.parts t
    { s.dev with test := { s.dev.test with slices := t.dev.test.slices }, pat := t.dev.pat, tile := t.dev.tile, led := { s.dev.led with marks := t.dev.led.marks }, nv := { s.dev.nv with marg := t.dev.nv.marg, margDue := t.dev.nv.margDue }, ev := { s.dev.ev with cnt := t.dev.ev.cnt }, fld := t.dev.fld, fc := t.dev.fc, cls := t.dev.cls, inst := t.dev.inst, dom := t.dev.dom }) ∧
  (∀ (s : State) (f : BitVec 7) (o : List SliceObs), s.awake → (∀ x ∈ s.dev.test.slices, x.field = f.toNat → x.run =
    false) → Completes (.sliceDone f o) s fun t => s.changes t s.dev []) ∧
  (∀ (s : State) (f : BitVec 7) (x : Slice), s.awake → s.dev.test.slices = [x] → x.field = f.toNat → s.dev.rp.assaying =
    none → isPatchSlice x.id = false → Completes (.sliceAbort f) s fun t => t.dev.rd BT_RESULT_SLICE = x.id % 256 ∧
    t.dev.rd BT_RESULT_FIELD = x.field % 128 ∧ t.dev.rd BT_RESULT_PATCH = x.patch % 64 ∧ t.dev.rd BT_RESULT_OUTCOME = 2
    ∧ t.dev.rdB BT_RESULT_DONE = true ∧ t.dev.rd BT_RESULT_CHECK = 0 ∧ t.dev.rd BT_CNT1_ABANDONED = satN 0xFFFF
    (s.dev.rd BT_CNT1_ABANDONED + 1) ∧ t.dev.test.slices = [] ∧ s.changes t
    { s.dev with test := { s.dev.test with slices := [] } } [BT_RESULT_SLICE, BT_RESULT_FIELD, BT_RESULT_PATCH,
    BT_RESULT_OUTCOME, BT_RESULT_DONE, BT_RESULT_CHECK, BT_CNT1_ABANDONED]) ∧
  (∀ (s : State) (f : BitVec 7), s.awake → s.dev.test.slices = [] → s.dev.rp.assaying = none → (s.dev.inStress f.toNat =
    false ∨ (s.dev.stressOf f.toNat).retest = false) → Completes (.sliceAbort f) s fun t => t.dev.rdB
    BT_STATUS_STATE_CONFLICT = true ∧ s.changes t s.dev [BT_STATUS_STATE_CONFLICT])

/-- R242, R251, R341, R351, R352, R353, R354, R355: A stress test in time goes from phase to phase: from 1 with no
failure, from 2 with all links UP, from 4 once hot or, marked HOT_SHORT, at the heat limit; one out of time fails. In
phase 6 it ends as passed, with the field's PASS bit; a failed one clears the bit, stops the field and is reported. An
assay asked for a patch of the caller's fields queues; the next one starts on a patch that serves and is free; its
result is shown and kept. Exec answers a next state with its own effect, for every state and operands that meet the
conditions of its clause: stressPhaseDone, heatLimitExpire, stressDone, assayReq, assayStart, assayDone. -/
def Obligations.StressTestsAndAssays : Prop :=
  (∀ (s : State) (f : Fin 96) (o : PhaseObs), s.awake → s.dev.stopped = false → (s.dev.stressOf f).failed = false →
    s.dev.stressOver f = false → (s.dev.stressOf f).phase = 1 → o.engine = none → o.links = [] → o.patches = [] →
    Completes (.stressPhaseDone f o) s fun t => t.dev.stressOf f =
    { s.dev.stressOf f with phase := 2, phaseAt := s.dev.time.nbRun } ∧ t.dev.rd BT_CNT0_RUN = satN 0xFFFF (s.dev.rd
    BT_CNT0_RUN + 5) ∧ s.changes t { s.dev with test := { s.dev.test with stress := t.dev.test.stress } } [BT_CNT0_RUN]) ∧
  (∀ (s : State) (f : Fin 96) (o : PhaseObs), s.awake → s.dev.stopped = false → (s.dev.stressOf f).failed = false →
    s.dev.stressOver f = false → (s.dev.stressOf f).phase = 2 → s.dev.linksUp f = true → Completes (.stressPhaseDone f
    o) s fun t => t.dev.stressOf f = { s.dev.stressOf f with phase := 3, phaseAt := s.dev.time.nbRun } ∧ s.changes t
    { s.dev with test := { s.dev.test with stress := t.dev.test.stress } } []) ∧
  (∀ (s : State) (f : Fin 96) (o : PhaseObs), s.awake → s.dev.stopped = false → (s.dev.stressOf f).failed = false →
    s.dev.stressOver f = false → (s.dev.stressOf f).phase = 3 → o.points = [] → Completes (.stressPhaseDone f o) s fun t
    => (t.dev.stressOf f =
    { s.dev.stressOf f with phase := if (s.dev.stressOf f).retest = true ∨ s.dev.rd BT_CFG2_HEAT_LIMIT = 0 then 5 else 4, phaseAt := s.dev.time.nbRun })
    ∧ s.changes t { s.dev with test := { s.dev.test with stress := t.dev.test.stress } } []) ∧
  (∀ (s : State) (f : Fin 96) (o : PhaseObs), s.awake → s.dev.stopped = false → (s.dev.stressOf f).failed = false →
    s.dev.stressOver f = false → (s.dev.stressOf f).phase = 4 → s.dev.heated f = true → Completes (.stressPhaseDone f o)
    s fun t => t.dev.stressOf f = { s.dev.stressOf f with phase := 5, phaseAt := s.dev.time.nbRun } ∧ s.changes t
    { s.dev with test := { s.dev.test with stress := t.dev.test.stress } } []) ∧
  (∀ (s : State) (f : Fin 96) (o : PhaseObs), s.awake → s.dev.stopped = false → (s.dev.stressOf f).failed = false →
    s.dev.stressOver f = false → (s.dev.stressOf f).phase = 5 → o.points = [] → Completes (.stressPhaseDone f o) s fun t
    => t.dev.stressOf f = { s.dev.stressOf f with phase := 6, phaseAt := s.dev.time.nbRun } ∧ (∀ k : Fin 4, t.dev.link f
    k = linkInit) ∧ s.parts t
    { s.dev with test := { s.dev.test with stress := t.dev.test.stress }, dom := t.dev.dom, fc := t.dev.fc, pat := t.dev.pat, cls := t.dev.cls, inst := t.dev.inst, tile := t.dev.tile, led := { s.dev.led with marks := t.dev.led.marks }, fld := t.dev.fld }) ∧
  (∀ (s : State) (f : Fin 96) (o : PhaseObs), s.awake → s.dev.stopped = false → s.dev.inStress f = true →
    (s.dev.stressOf f).failed = false → s.dev.stressOver f = true → Completes (.stressPhaseDone f o) s fun t =>
    t.dev.stressOf f = { s.dev.stressOf f with failed := true, failSlice := 0x40 } ∧ s.parts t
    { s.dev with test := { s.dev.test with stress := t.dev.test.stress }, dom := t.dev.dom, fc := t.dev.fc, pat := t.dev.pat, cls := t.dev.cls, inst := t.dev.inst, tile := t.dev.tile, led := { s.dev.led with marks := t.dev.led.marks }, fld := t.dev.fld }) ∧
  (∀ (s : State) (f : Fin 96) (o : PhaseObs), s.awake → (s.dev.inStress f = false ∨ (s.dev.stressOf f).failed = true) →
    Completes (.stressPhaseDone f o) s fun t => s.changes t s.dev []) ∧
  (∀ (s : State) (f : Fin 96), s.awake → s.dev.stopped = false → (s.dev.stressOf f).phase = 4 → (s.dev.stressOf
    f).failed = false → s.dev.expired (s.dev.stressOf f).phaseAt (1000 * s.dev.rd BT_CFG2_HEAT_LIMIT) = true → Completes
    (.heatLimitExpire f) s fun t => t.dev.stressOf f =
    { s.dev.stressOf f with phase := 5, phaseAt := s.dev.time.nbRun, hotShort := true } ∧ s.changes t
    { s.dev with test := { s.dev.test with stress := t.dev.test.stress } } []) ∧
  (∀ (s : State) (f : Fin 96), s.awake → (s.dev.stressOf f).phase ≠ 4 → Completes (.heatLimitExpire f) s fun t =>
    s.changes t s.dev []) ∧
  (∀ (s : State) (f : Fin 96), s.awake → s.dev.start.step ≠ 7 → s.dev.stopped = false → (s.dev.stressOf f).failed =
    false → s.dev.stressOver f = false → (s.dev.stressOf f).phase = 6 → (∀ p : Fin 36, (s.dev.marg f p).next = none) →
    Completes (.stressDone f) s fun t => t.dev.stressOf f =
    { s.dev.stressOf f with phase := 7, result := 1, phaseAt := s.dev.time.nbRun } ∧ t.dev.rdB (BT_PASS_FIELD f) = true
    ∧ (t.dev.fd f).passed = true ∧ t.dev.rd BT_RESULT_SLICE = 0x40 % 256 ∧ t.dev.rd BT_RESULT_FIELD = f % 128 ∧ t.dev.rd
    BT_RESULT_PATCH = 0 % 64 ∧ t.dev.rd BT_RESULT_OUTCOME = 0 ∧ t.dev.rdB BT_RESULT_DONE = true ∧ t.dev.rd
    BT_RESULT_CHECK = 0 ∧ t.dev.rd BT_CNT0_RUN = satN 0xFFFF (s.dev.rd BT_CNT0_RUN + 1) ∧ s.changes t
    { s.dev with test := { s.dev.test with stress := t.dev.test.stress }, fld := t.dev.fld } [BT_PASS_FIELD f,
    BT_RESULT_SLICE, BT_RESULT_FIELD, BT_RESULT_PATCH, BT_RESULT_OUTCOME, BT_RESULT_DONE, BT_RESULT_CHECK, BT_CNT0_RUN]) ∧
  (∀ (s : State) (f : Fin 96), s.awake → s.dev.start.step ≠ 7 → s.dev.stopped = false → s.dev.inStress f = true →
    (s.dev.stressOf f).failed = true → s.dev.expired (s.dev.stressOf f).from_ 20000000 = false → Completes (.stressDone
    f) s fun t => t.dev.stressOf f = { s.dev.stressOf f with phase := 7, result := 2, phaseAt := s.dev.time.nbRun } ∧
    t.dev.rdB (BT_PASS_FIELD f) = false ∧ (t.dev.fd f).passed = false ∧ (t.dev.fd f).up = false ∧ (t.dev.fd f).stop ≠
    .none ∧ t.dev.rd BT_RESULT_SLICE = 0x40 % 256 ∧ t.dev.rd BT_RESULT_FIELD = f % 128 ∧ t.dev.rd BT_RESULT_PATCH = 0 %
    64 ∧ t.dev.rd BT_RESULT_OUTCOME = 1 ∧ t.dev.rdB BT_RESULT_DONE = true ∧ t.dev.rd BT_RESULT_CHECK = 0 ∧ t.dev.rd
    BT_CNT0_RUN = satN 0xFFFF (s.dev.rd BT_CNT0_RUN + 1) ∧ t.dev.rd BT_CNT0_FAIL = satN 0xFFFF (s.dev.rd BT_CNT0_FAIL +
    1) ∧ s.changes t
    { s.dev with test := { s.dev.test with stress := t.dev.test.stress }, fld := t.dev.fld, fc := { s.dev.fc with raised := s.dev.fc.raised ++ [s.dev.report .selftest 2 f 0] } }
    [BT_PASS_FIELD f, BT_RESULT_SLICE, BT_RESULT_FIELD, BT_RESULT_PATCH, BT_RESULT_OUTCOME, BT_RESULT_DONE,
    BT_RESULT_CHECK, BT_CNT0_RUN, BT_CNT0_FAIL]) ∧
  (∀ (s : State) (f : Fin 96), s.awake → s.dev.start.step = 7 → s.dev.start.begun = true → s.dev.enabled.contains f.val
    = true → s.dev.stopped = false → (s.dev.stressOf f).failed = false → s.dev.stressOver f = false → (s.dev.stressOf
    f).phase = 6 → Completes (.stressDone f) s fun t => t.dev.rdB JZ_STATUS_KERNEL_OK = true) ∧
  (∀ (s : State) (f : Fin 96), s.awake → s.dev.start.step ≠ 7 → s.dev.inStress f = false → Completes (.stressDone f) s
    fun t => s.changes t s.dev []) ∧
  (∀ (s : State) (who : Fin 9) (f : BitVec 7) (p : BitVec 6), s.awake → f.toNat ∈ s.dev.fieldsOf who → p.toNat < 36 →
    s.dev.retired f.toNat p.toNat = false → s.dev.rp.assays.length < 8 → Completes (.assayReq who f p) s fun t =>
    s.changes t { s.dev with rp := { s.dev.rp with assays := s.dev.rp.assays ++ [(f.toNat, p.toNat)] } } []) ∧
  (∀ (s : State) (who : Fin 9) (f : BitVec 7) (p : BitVec 6), s.awake → (f.toNat ∉ s.dev.fieldsOf who ∨ 36 ≤ p.toNat ∨
    s.dev.retired f.toNat p.toNat = true ∨ 8 ≤ s.dev.rp.assays.length) → Completes (.assayReq who f p) s fun t =>
    t.dev.rdB LG_RP_STATUS_STATE_CONFLICT = true ∧ s.changes t s.dev [LG_RP_STATUS_STATE_CONFLICT]) ∧
  (∀ (s : State) (a : Assay), s.awake → s.dev.stopped = false → s.dev.rp.assaying = none → s.dev.nextAssay = some a →
    s.dev.patchServes a.field a.patch = true → s.dev.openSteps a.field a.patch = [] → s.dev.test.slices = [] →
    s.dev.holder a.field a.patch = none → s.dev.replayHeld a.field a.patch = false → Completes .assayStart s fun t =>
    t.dev.rp.assaying = some a ∧ (t.dev.test.slices = [⟨0x1F, a.field, a.patch, true, s.dev.time.nbRun,
    s.dev.sliceBudget 0x1F 0, (saveAddrs a.field a.patch).map fun y => (y, s.dev.reg y), false⟩]) ∧ t.dev.rdB
    (ST_OP_PATCH_SENT a.field a.patch) = true ∧ t.dev.rdB (PS_STATUS_REPLAY a.field a.patch) = true ∧ s.changes t
    { s.dev with rp := { s.dev.rp with assaying := some a, assays := t.dev.rp.assays, verdictAssays := t.dev.rp.verdictAssays }, test := { s.dev.test with slices := t.dev.test.slices }, pat := t.dev.pat }
    [ST_OP_PATCH_SENT a.field a.patch, PS_STATUS_REPLAY a.field a.patch]) ∧
  (∀ (s : State) (a : Assay), s.awake → s.dev.nextAssay = some a → s.dev.replayHeld a.field a.patch = true → Completes
    .assayStart s fun t => s.changes t s.dev []) ∧
  (∀ (s : State), s.awake → (s.dev.stopped = true ∨ s.dev.rp.assaying.isSome = true ∨ s.dev.nextAssay = none) →
    Completes .assayStart s fun t => s.changes t s.dev []) ∧
  (∀ (s : State) (a : Assay), s.awake → s.dev.stopped = false → s.dev.rp.assaying = none → s.dev.nextAssay = some a →
    s.dev.patchServes a.field a.patch = false → s.dev.test.slices = [] → a.rel = none → a.asked = true →
    s.dev.replayHeld a.field a.patch = false → Completes .assayStart s fun t => t.dev.rd BT_RESULT_SLICE = 0x1F % 256 ∧
    t.dev.rd BT_RESULT_FIELD = a.field % 128 ∧ t.dev.rd BT_RESULT_PATCH = a.patch % 64 ∧ t.dev.rd BT_RESULT_OUTCOME = 2
    ∧ t.dev.rdB BT_RESULT_DONE = true ∧ t.dev.rd BT_RESULT_CHECK = 0 ∧ t.dev.rd BT_CNT1_ABANDONED = satN 0xFFFF
    (s.dev.rd BT_CNT1_ABANDONED + 1) ∧ t.dev.rp.assaying = none ∧ s.changes t
    { s.dev with rp := { s.dev.rp with assays := s.dev.rp.assays.drop 1 }, pat := t.dev.pat } [BT_RESULT_SLICE,
    BT_RESULT_FIELD, BT_RESULT_PATCH, BT_RESULT_OUTCOME, BT_RESULT_DONE, BT_RESULT_CHECK, BT_CNT1_ABANDONED,
    ST_OP_PATCH_SENT a.field a.patch, PS_STATUS_REPLAY a.field a.patch]) ∧
  (∀ (s : State) (a : Assay) (x : Slice), s.awake → s.dev.rp.assaying = some a → s.dev.test.slices = [x] → x.field =
    a.field → x.patch = a.patch → x.id = 0x1F → x.run = true → x.go = true → x.saved = [] → a.asked = true → a.rel =
    none → Completes (.assayDone []) s fun t => t.dev.rp.assaying = none ∧ t.dev.test.slices = [] ∧ t.dev.rdB
    LG_ASSAY_STAT_LAST_FAIL = false ∧ t.dev.rd LG_ASSAY_STAT_LAST_FIELD = a.field % 128 ∧ t.dev.rd
    LG_ASSAY_STAT_LAST_PATCH = a.patch % 64 ∧ t.dev.rd BT_RESULT_SLICE = 0x1F % 256 ∧ t.dev.rd BT_RESULT_FIELD = a.field
    % 128 ∧ t.dev.rd BT_RESULT_PATCH = a.patch % 64 ∧ t.dev.rd BT_RESULT_OUTCOME = 0 ∧ t.dev.rdB BT_RESULT_DONE = true ∧
    t.dev.rd BT_RESULT_CHECK = 0 ∧ t.dev.rd BT_CNT0_RUN = satN 0xFFFF (s.dev.rd BT_CNT0_RUN + 1) ∧ s.parts t
    { s.dev with rp := { s.dev.rp with assaying := none }, test := { s.dev.test with slices := [] }, pat := t.dev.pat }) ∧
  (∀ (s : State) (o : List SliceObs), s.awake → s.dev.rp.assaying = none → Completes (.assayDone o) s fun t => s.changes
    t s.dev [])

/-- R362, R363, R364, R365, R366, R367, R368, R369: The first report waiting becomes a record: it is counted, an event
goes to the history queue and an access to its class's capture, and its class holds an uncleared record. At L0 nothing
more happens. A record at a level makes an idle class ACTIVE at it and starts its timer; before the next bolt boundary
one of no higher level joins; a second fault takes the class a level up, or to the record's. From L2 on the host is
noticed; at L3 the fields named by the class stop; at L4 all fields stop and FC_L4 keeps the record. Exec answers a next
state with its own effect, for every state and operands that meet the conditions of its clause: faultRecord. -/
def Obligations.RecordsAreKept : Prop :=
  (∀ (s : State) (q : BitVec 12) (r : Report) (x : Rec), s.awake → firstReport s.dev.fc.raised = some r → x = ⟨r.cls,
    r.typ, s.dev.levelOf r.cls r.typ, r.forced, s.dev.hNow, r.field, r.index, r.sub, r.value, r.job, s.dev.stamp
    q.toNat⟩ → r.cls < 6 → s.dev.levelOf r.cls r.typ = 0 → s.dev.fcLevel r.cls < 3 → Completes (.faultRecord q) s fun t
    => t.dev.rd (FC_CNT_RECORDS r.cls) = satN 0xFFFF (s.dev.rd (FC_CNT_RECORDS r.cls) + 1) ∧ t.dev.rdB (FC_UNCLR_ANY
    r.cls) = true ∧ (t.dev.fcls r.cls).latest = some x ∧ (∀ i : Fin 8, t.dev.rd (FC_HQ_WORD (s.dev.rd FC_HQ_HEAD_NEXT)
    i) = x.words.getD i 0 % 2 ^ 32) ∧ t.dev.rd FC_HQ_HEAD_NEXT = ((s.dev.rd FC_HQ_HEAD_NEXT) + 1) % 32 ∧ t.dev.rd
    FC_HQ_TOTAL_TOTAL = (s.dev.rd FC_HQ_TOTAL_TOTAL + 1) % 2 ^ 32 ∧ t.dev.rd FC_HQ_HEAD_OVER = (if s.dev.rd (FC_HQ_WORD
    (s.dev.rd FC_HQ_HEAD_NEXT) 0) = 0 then s.dev.rd FC_HQ_HEAD_OVER else satN 0xFFFF (s.dev.rd FC_HQ_HEAD_OVER + 1)) ∧
    t.dev.rd (FC_UNCLR_MAX r.cls) = max (0) (s.dev.rd (FC_UNCLR_MAX r.cls)) ∧ s.changes t
    { s.dev with fc := { s.dev.fc with raised := s.dev.fc.raised.erase r, cls := t.dev.fc.cls } } ([FC_HQ_WORD (s.dev.rd
    FC_HQ_HEAD_NEXT) 0, FC_HQ_WORD (s.dev.rd FC_HQ_HEAD_NEXT) 1, FC_HQ_WORD (s.dev.rd FC_HQ_HEAD_NEXT) 2, FC_HQ_WORD
    (s.dev.rd FC_HQ_HEAD_NEXT) 3, FC_HQ_WORD (s.dev.rd FC_HQ_HEAD_NEXT) 4, FC_HQ_WORD (s.dev.rd FC_HQ_HEAD_NEXT) 5,
    FC_HQ_WORD (s.dev.rd FC_HQ_HEAD_NEXT) 6, FC_HQ_WORD (s.dev.rd FC_HQ_HEAD_NEXT) 7, FC_HQ_HEAD_NEXT, FC_HQ_HEAD_OVER,
    FC_HQ_TOTAL_TOTAL] ++ [FC_CNT_RECORDS r.cls, FC_UNCLR_MAX r.cls, FC_UNCLR_ANY r.cls])) ∧
  (∀ (s : State) (q : BitVec 12) (r : Report) (x : Rec), s.awake → firstReport s.dev.fc.raised = some r → x = ⟨r.cls,
    r.typ, s.dev.levelOf r.cls r.typ, r.forced, s.dev.hNow, r.field, r.index, r.sub, r.value, r.job, s.dev.stamp
    q.toNat⟩ → r.cls < 6 → s.dev.levelOf r.cls r.typ = 1 → s.dev.fcActive r.cls = false → Completes (.faultRecord q) s
    fun t => t.dev.rd (FC_CNT_RECORDS r.cls) = satN 0xFFFF (s.dev.rd (FC_CNT_RECORDS r.cls) + 1) ∧ t.dev.rdB
    (FC_UNCLR_ANY r.cls) = true ∧ (t.dev.fcls r.cls).latest = some x ∧ (∀ i : Fin 8, t.dev.rd (FC_HQ_WORD (s.dev.rd
    FC_HQ_HEAD_NEXT) i) = x.words.getD i 0 % 2 ^ 32) ∧ t.dev.rd FC_HQ_HEAD_NEXT = ((s.dev.rd FC_HQ_HEAD_NEXT) + 1) % 32
    ∧ t.dev.rd FC_HQ_TOTAL_TOTAL = (s.dev.rd FC_HQ_TOTAL_TOTAL + 1) % 2 ^ 32 ∧ t.dev.rd FC_HQ_HEAD_OVER = (if s.dev.rd
    (FC_HQ_WORD (s.dev.rd FC_HQ_HEAD_NEXT) 0) = 0 then s.dev.rd FC_HQ_HEAD_OVER else satN 0xFFFF (s.dev.rd
    FC_HQ_HEAD_OVER + 1)) ∧ t.dev.fcLevel r.cls = 1 ∧ t.dev.fcActive r.cls = true ∧ t.dev.rd (FC_UNCLR_MAX r.cls) = max
    (1) (s.dev.rd (FC_UNCLR_MAX r.cls)) ∧ (t.dev.fcls r.cls).timer = some s.dev.time.nb ∧ (t.dev.fcls r.cls).joining =
    true ∧ s.changes t { s.dev with fc := { s.dev.fc with raised := s.dev.fc.raised.erase r, cls := t.dev.fc.cls } }
    ([FC_HQ_WORD (s.dev.rd FC_HQ_HEAD_NEXT) 0, FC_HQ_WORD (s.dev.rd FC_HQ_HEAD_NEXT) 1, FC_HQ_WORD (s.dev.rd
    FC_HQ_HEAD_NEXT) 2, FC_HQ_WORD (s.dev.rd FC_HQ_HEAD_NEXT) 3, FC_HQ_WORD (s.dev.rd FC_HQ_HEAD_NEXT) 4, FC_HQ_WORD
    (s.dev.rd FC_HQ_HEAD_NEXT) 5, FC_HQ_WORD (s.dev.rd FC_HQ_HEAD_NEXT) 6, FC_HQ_WORD (s.dev.rd FC_HQ_HEAD_NEXT) 7,
    FC_HQ_HEAD_NEXT, FC_HQ_HEAD_OVER, FC_HQ_TOTAL_TOTAL] ++ [FC_CNT_RECORDS r.cls, FC_UNCLR_MAX r.cls, FC_UNCLR_ANY
    r.cls, FC_STATE_LEVEL r.cls, FC_STATE_ACKED r.cls])) ∧
  (∀ (s : State) (q : BitVec 12) (r : Report) (x : Rec), s.awake → firstReport s.dev.fc.raised = some r → x = ⟨r.cls,
    r.typ, s.dev.levelOf r.cls r.typ, r.forced, s.dev.hNow, r.field, r.index, r.sub, r.value, r.job, s.dev.stamp
    q.toNat⟩ → r.cls < 6 → s.dev.levelOf r.cls r.typ = 2 → s.dev.fcActive r.cls = false → Completes (.faultRecord q) s
    fun t => t.dev.rd (FC_CNT_RECORDS r.cls) = satN 0xFFFF (s.dev.rd (FC_CNT_RECORDS r.cls) + 1) ∧ t.dev.rdB
    (FC_UNCLR_ANY r.cls) = true ∧ (t.dev.fcls r.cls).latest = some x ∧ (∀ i : Fin 8, t.dev.rd (FC_HQ_WORD (s.dev.rd
    FC_HQ_HEAD_NEXT) i) = x.words.getD i 0 % 2 ^ 32) ∧ t.dev.rd FC_HQ_HEAD_NEXT = ((s.dev.rd FC_HQ_HEAD_NEXT) + 1) % 32
    ∧ t.dev.rd FC_HQ_TOTAL_TOTAL = (s.dev.rd FC_HQ_TOTAL_TOTAL + 1) % 2 ^ 32 ∧ t.dev.rd FC_HQ_HEAD_OVER = (if s.dev.rd
    (FC_HQ_WORD (s.dev.rd FC_HQ_HEAD_NEXT) 0) = 0 then s.dev.rd FC_HQ_HEAD_OVER else satN 0xFFFF (s.dev.rd
    FC_HQ_HEAD_OVER + 1)) ∧ t.dev.fcLevel r.cls = 2 ∧ t.dev.fcActive r.cls = true ∧ t.dev.rd (FC_UNCLR_MAX r.cls) = max
    (2) (s.dev.rd (FC_UNCLR_MAX r.cls)) ∧ (t.dev.fcls r.cls).timer = some s.dev.time.nb ∧ (t.dev.fcls r.cls).joining =
    true ∧ t.dev.fc.owed = (if s.dev.takes (s.dev.rd FC_HOSTQ_QHANDLE) then s.dev.fc.owed else s.dev.fc.owed ++
    [(noticeOf x 2)]) ∧ t.dev.out = (if s.dev.takes (s.dev.rd FC_HOSTQ_QHANDLE) then .hostNotice (s.dev.rd
    FC_HOSTQ_QHANDLE) (noticeOf x 2).w0 (noticeOf x 2).w1 :: s.dev.out else s.dev.out) ∧ s.changes t
    { s.dev with fc := { s.dev.fc with raised := s.dev.fc.raised.erase r, cls := t.dev.fc.cls, owed := t.dev.fc.owed }, out := t.dev.out }
    ([FC_HQ_WORD (s.dev.rd FC_HQ_HEAD_NEXT) 0, FC_HQ_WORD (s.dev.rd FC_HQ_HEAD_NEXT) 1, FC_HQ_WORD (s.dev.rd
    FC_HQ_HEAD_NEXT) 2, FC_HQ_WORD (s.dev.rd FC_HQ_HEAD_NEXT) 3, FC_HQ_WORD (s.dev.rd FC_HQ_HEAD_NEXT) 4, FC_HQ_WORD
    (s.dev.rd FC_HQ_HEAD_NEXT) 5, FC_HQ_WORD (s.dev.rd FC_HQ_HEAD_NEXT) 6, FC_HQ_WORD (s.dev.rd FC_HQ_HEAD_NEXT) 7,
    FC_HQ_HEAD_NEXT, FC_HQ_HEAD_OVER, FC_HQ_TOTAL_TOTAL] ++ [FC_CNT_RECORDS r.cls, FC_UNCLR_MAX r.cls, FC_UNCLR_ANY
    r.cls, FC_STATE_LEVEL r.cls, FC_STATE_ACKED r.cls])) ∧
  (∀ (s : State) (q : BitVec 12) (r : Report) (x : Rec), s.awake → firstReport s.dev.fc.raised = some r → x = ⟨r.cls,
    r.typ, s.dev.levelOf r.cls r.typ, r.forced, s.dev.hNow, r.field, r.index, r.sub, r.value, r.job, s.dev.stamp
    q.toNat⟩ → r.cls < 6 → s.dev.levelOf r.cls r.typ = 1 → s.dev.fcActive r.cls = true → s.dev.fcLevel r.cls < 3 →
    (s.dev.fcls r.cls).joining = true → Completes (.faultRecord q) s fun t => t.dev.rd (FC_CNT_RECORDS r.cls) = satN
    0xFFFF (s.dev.rd (FC_CNT_RECORDS r.cls) + 1) ∧ t.dev.rdB (FC_UNCLR_ANY r.cls) = true ∧ (t.dev.fcls r.cls).latest =
    some x ∧ (∀ i : Fin 8, t.dev.rd (FC_HQ_WORD (s.dev.rd FC_HQ_HEAD_NEXT) i) = x.words.getD i 0 % 2 ^ 32) ∧ t.dev.rd
    FC_HQ_HEAD_NEXT = ((s.dev.rd FC_HQ_HEAD_NEXT) + 1) % 32 ∧ t.dev.rd FC_HQ_TOTAL_TOTAL = (s.dev.rd FC_HQ_TOTAL_TOTAL +
    1) % 2 ^ 32 ∧ t.dev.rd FC_HQ_HEAD_OVER = (if s.dev.rd (FC_HQ_WORD (s.dev.rd FC_HQ_HEAD_NEXT) 0) = 0 then s.dev.rd
    FC_HQ_HEAD_OVER else satN 0xFFFF (s.dev.rd FC_HQ_HEAD_OVER + 1)) ∧ t.dev.rd (FC_UNCLR_MAX r.cls) = max (1) (s.dev.rd
    (FC_UNCLR_MAX r.cls)) ∧ s.changes t
    { s.dev with fc := { s.dev.fc with raised := s.dev.fc.raised.erase r, cls := t.dev.fc.cls } } ([FC_HQ_WORD (s.dev.rd
    FC_HQ_HEAD_NEXT) 0, FC_HQ_WORD (s.dev.rd FC_HQ_HEAD_NEXT) 1, FC_HQ_WORD (s.dev.rd FC_HQ_HEAD_NEXT) 2, FC_HQ_WORD
    (s.dev.rd FC_HQ_HEAD_NEXT) 3, FC_HQ_WORD (s.dev.rd FC_HQ_HEAD_NEXT) 4, FC_HQ_WORD (s.dev.rd FC_HQ_HEAD_NEXT) 5,
    FC_HQ_WORD (s.dev.rd FC_HQ_HEAD_NEXT) 6, FC_HQ_WORD (s.dev.rd FC_HQ_HEAD_NEXT) 7, FC_HQ_HEAD_NEXT, FC_HQ_HEAD_OVER,
    FC_HQ_TOTAL_TOTAL] ++ [FC_CNT_RECORDS r.cls, FC_UNCLR_MAX r.cls, FC_UNCLR_ANY r.cls])) ∧
  (∀ (s : State) (q : BitVec 12) (r : Report) (x : Rec), s.awake → firstReport s.dev.fc.raised = some r → x = ⟨r.cls,
    r.typ, s.dev.levelOf r.cls r.typ, r.forced, s.dev.hNow, r.field, r.index, r.sub, r.value, r.job, s.dev.stamp
    q.toNat⟩ → r.cls < 6 → s.dev.levelOf r.cls r.typ = 1 → s.dev.fcActive r.cls = true → s.dev.fcLevel r.cls = 1 →
    (s.dev.fcls r.cls).joining = false → Completes (.faultRecord q) s fun t => t.dev.rd (FC_CNT_RECORDS r.cls) = satN
    0xFFFF (s.dev.rd (FC_CNT_RECORDS r.cls) + 1) ∧ t.dev.rdB (FC_UNCLR_ANY r.cls) = true ∧ (t.dev.fcls r.cls).latest =
    some x ∧ (∀ i : Fin 8, t.dev.rd (FC_HQ_WORD (s.dev.rd FC_HQ_HEAD_NEXT) i) = x.words.getD i 0 % 2 ^ 32) ∧ t.dev.rd
    FC_HQ_HEAD_NEXT = ((s.dev.rd FC_HQ_HEAD_NEXT) + 1) % 32 ∧ t.dev.rd FC_HQ_TOTAL_TOTAL = (s.dev.rd FC_HQ_TOTAL_TOTAL +
    1) % 2 ^ 32 ∧ t.dev.rd FC_HQ_HEAD_OVER = (if s.dev.rd (FC_HQ_WORD (s.dev.rd FC_HQ_HEAD_NEXT) 0) = 0 then s.dev.rd
    FC_HQ_HEAD_OVER else satN 0xFFFF (s.dev.rd FC_HQ_HEAD_OVER + 1)) ∧ t.dev.fcLevel r.cls = 2 ∧ t.dev.fcActive r.cls =
    true ∧ t.dev.rd (FC_UNCLR_MAX r.cls) = max (2) (s.dev.rd (FC_UNCLR_MAX r.cls)) ∧ (t.dev.fcls r.cls).timer = some
    s.dev.time.nb ∧ (t.dev.fcls r.cls).joining = true ∧ t.dev.rd (FC_CNT_ESCALATIONS r.cls) = satN 0xFFFF (s.dev.rd
    (FC_CNT_ESCALATIONS r.cls) + 1) ∧ t.dev.fc.owed = (if s.dev.takes (s.dev.rd FC_HOSTQ_QHANDLE) then s.dev.fc.owed
    else s.dev.fc.owed ++ [(noticeOf x 2)]) ∧ t.dev.out = (if s.dev.takes (s.dev.rd FC_HOSTQ_QHANDLE) then .hostNotice
    (s.dev.rd FC_HOSTQ_QHANDLE) (noticeOf x 2).w0 (noticeOf x 2).w1 :: s.dev.out else s.dev.out) ∧ s.changes t
    { s.dev with fc := { s.dev.fc with raised := s.dev.fc.raised.erase r, cls := t.dev.fc.cls, owed := t.dev.fc.owed }, out := t.dev.out }
    ([FC_HQ_WORD (s.dev.rd FC_HQ_HEAD_NEXT) 0, FC_HQ_WORD (s.dev.rd FC_HQ_HEAD_NEXT) 1, FC_HQ_WORD (s.dev.rd
    FC_HQ_HEAD_NEXT) 2, FC_HQ_WORD (s.dev.rd FC_HQ_HEAD_NEXT) 3, FC_HQ_WORD (s.dev.rd FC_HQ_HEAD_NEXT) 4, FC_HQ_WORD
    (s.dev.rd FC_HQ_HEAD_NEXT) 5, FC_HQ_WORD (s.dev.rd FC_HQ_HEAD_NEXT) 6, FC_HQ_WORD (s.dev.rd FC_HQ_HEAD_NEXT) 7,
    FC_HQ_HEAD_NEXT, FC_HQ_HEAD_OVER, FC_HQ_TOTAL_TOTAL] ++ [FC_CNT_RECORDS r.cls, FC_UNCLR_MAX r.cls, FC_UNCLR_ANY
    r.cls, FC_STATE_LEVEL r.cls, FC_STATE_ACKED r.cls, FC_CNT_ESCALATIONS r.cls])) ∧
  (∀ (s : State) (q : BitVec 12) (r : Report) (x : Rec), s.awake → firstReport s.dev.fc.raised = some r → x = ⟨r.cls,
    r.typ, s.dev.levelOf r.cls r.typ, r.forced, s.dev.hNow, r.field, r.index, r.sub, r.value, r.job, s.dev.stamp
    q.toNat⟩ → r.cls < 12 → s.dev.levelOf r.cls r.typ = 1 → s.dev.fcActive r.cls = true → s.dev.fcLevel r.cls = 2 →
    (s.dev.fcls r.cls).joining = false → (s.dev.fcls r.cls).central = false → r.field < 96 → Completes (.faultRecord q)
    s fun t => t.dev.fcLevel r.cls = 3 ∧ r.field ∈ (t.dev.fcls r.cls).fields ∧ (∀ f : Fin 96, f.val ∈ (t.dev.fcls
    r.cls).fields → (t.dev.fd f).stop ≠ .none) ∧ t.dev.fc.owed = (if s.dev.takes (s.dev.rd FC_HOSTQ_QHANDLE) then
    s.dev.fc.owed else s.dev.fc.owed ++ [(noticeOf x 3)]) ∧ t.dev.out = (if s.dev.takes (s.dev.rd FC_HOSTQ_QHANDLE) then
    .hostNotice (s.dev.rd FC_HOSTQ_QHANDLE) (noticeOf x 3).w0 (noticeOf x 3).w1 :: s.dev.out else s.dev.out) ∧ s.parts t
    { s.dev with fc := t.dev.fc, out := t.dev.out, fld := t.dev.fld, inst := t.dev.inst, dom := t.dev.dom, led := { s.dev.led with marks := t.dev.led.marks }, pat := t.dev.pat, cls := t.dev.cls, tile := t.dev.tile }) ∧
  (∀ (s : State) (q : BitVec 12) (r : Report) (x : Rec), s.awake → firstReport s.dev.fc.raised = some r → x = ⟨r.cls,
    r.typ, s.dev.levelOf r.cls r.typ, r.forced, s.dev.hNow, r.field, r.index, r.sub, r.value, r.job, s.dev.stamp
    q.toNat⟩ → r.cls < 12 → s.dev.levelOf r.cls r.typ = 4 → s.dev.fcActive r.cls = false → s.dev.fc.l4 = none →
    Completes (.faultRecord q) s fun t => t.dev.fcLevel r.cls = 4 ∧ (∀ f : Fin 96, (t.dev.fd f).stop ≠ .none) ∧
    t.dev.fc.l4 = some s.dev.time.nb ∧ t.dev.fc.l4Bolts = 0 ∧ t.dev.rd FC_L4_CLASS = r.cls ∧ t.dev.rd FC_L4_TYPE = r.typ
    % 256 ∧ t.dev.rd FC_L4_FIELD = r.field % 128 ∧ t.dev.rd FC_L4_INDEX = r.index % 1024 ∧ t.dev.rdB FC_L4_VALID = true
    ∧ t.dev.rd FC_L4_COUNT = min 3 (s.dev.rd FC_L4_COUNT + 1) ∧ t.dev.rd FC_L4_TS_LO_STAMP = x.stamp % 2 ^ 32 ∧ t.dev.rd
    FC_L4_TS_HI_STAMP = x.stamp / 2 ^ 32 % 2 ^ 32 ∧ t.dev.fc.owed = s.dev.fc.owed ∧ t.dev.out = (if s.dev.takes
    (s.dev.rd FC_HOSTQ_QHANDLE) then .hostNotice (s.dev.rd FC_HOSTQ_QHANDLE) (noticeOf x 4).w0 (noticeOf x 4).w1 ::
    s.dev.out else s.dev.out) ∧ s.parts t
    { s.dev with fc := t.dev.fc, out := t.dev.out, fld := t.dev.fld, inst := t.dev.inst, dom := t.dev.dom, led := { s.dev.led with marks := t.dev.led.marks }, pat := t.dev.pat, cls := t.dev.cls, tile := t.dev.tile, ev := { s.dev.ev with shutDue := true } }) ∧
  (∀ (s : State) (q : BitVec 12) (r : Report) (x : Rec), s.awake → firstReport s.dev.fc.raised = some r → x = ⟨r.cls,
    r.typ, s.dev.levelOf r.cls r.typ, r.forced, s.dev.hNow, r.field, r.index, r.sub, r.value, r.job, s.dev.stamp
    q.toNat⟩ → 6 ≤ r.cls → r.cls < 12 → s.dev.levelOf r.cls r.typ = 0 → s.dev.fcLevel r.cls < 3 → s.dev.rdB
    (FC_CAP_INFO_VALID (r.cls - 6)) = false → Completes (.faultRecord q) s fun t => t.dev.rd (FC_CNT_RECORDS r.cls) =
    satN 0xFFFF (s.dev.rd (FC_CNT_RECORDS r.cls) + 1) ∧ t.dev.rdB (FC_UNCLR_ANY r.cls) = true ∧ (t.dev.fcls
    r.cls).latest = some x ∧ t.dev.rd (FC_UNCLR_MAX r.cls) = max (0) (s.dev.rd (FC_UNCLR_MAX r.cls)) ∧ t.dev.rd
    (FC_CAP_ADDR_ADDR (r.cls - 6)) = r.capAddr % 2 ^ 32 ∧ t.dev.rd (FC_CAP_INFO_MASTER (r.cls - 6)) = r.master % 16 ∧
    t.dev.rd (FC_CAP_INFO_ACCESS (r.cls - 6)) = r.access % 4 ∧ t.dev.rd (FC_CAP_INFO_TYPE (r.cls - 6)) = r.typ % 256 ∧
    t.dev.rd (FC_CAP_INFO_LEVEL (r.cls - 6)) = 0 ∧ t.dev.rdB (FC_CAP_INFO_FORCED (r.cls - 6)) = r.forced ∧ t.dev.rdB
    (FC_CAP_INFO_H (r.cls - 6)) = s.dev.hNow ∧ t.dev.rdB (FC_CAP_INFO_VALID (r.cls - 6)) = true ∧ t.dev.rd
    (FC_CAP_INFO_MORE (r.cls - 6)) = s.dev.rd (FC_CAP_INFO_MORE (r.cls - 6)) ∧ t.dev.rd (FC_CAP_TS_LO_STAMP (r.cls - 6))
    = x.stamp % 2 ^ 32 ∧ t.dev.rd (FC_CAP_TS_HI_STAMP (r.cls - 6)) = x.stamp / 2 ^ 32 % 2 ^ 32 ∧ s.changes t
    { s.dev with fc := { s.dev.fc with raised := s.dev.fc.raised.erase r, cls := t.dev.fc.cls } } ([FC_CAP_ADDR_ADDR
    (r.cls - 6), FC_CAP_INFO_MASTER (r.cls - 6), FC_CAP_INFO_ACCESS (r.cls - 6), FC_CAP_INFO_TYPE (r.cls - 6),
    FC_CAP_INFO_LEVEL (r.cls - 6), FC_CAP_INFO_FORCED (r.cls - 6), FC_CAP_INFO_H (r.cls - 6), FC_CAP_INFO_VALID (r.cls -
    6), FC_CAP_INFO_MORE (r.cls - 6), FC_CAP_TS_LO_STAMP (r.cls - 6), FC_CAP_TS_HI_STAMP (r.cls - 6)] ++ [FC_CNT_RECORDS
    r.cls, FC_UNCLR_MAX r.cls, FC_UNCLR_ANY r.cls])) ∧
  (∀ (s : State) (q : BitVec 12) (r : Report) (x : Rec), s.awake → firstReport s.dev.fc.raised = some r → x = ⟨r.cls,
    r.typ, s.dev.levelOf r.cls r.typ, r.forced, s.dev.hNow, r.field, r.index, r.sub, r.value, r.job, s.dev.stamp
    q.toNat⟩ → 6 ≤ r.cls → r.cls < 12 → s.dev.levelOf r.cls r.typ = 0 → s.dev.fcLevel r.cls < 3 → s.dev.rdB
    (FC_CAP_INFO_VALID (r.cls - 6)) = true → Completes (.faultRecord q) s fun t => t.dev.rd (FC_CNT_RECORDS r.cls) =
    satN 0xFFFF (s.dev.rd (FC_CNT_RECORDS r.cls) + 1) ∧ t.dev.rdB (FC_UNCLR_ANY r.cls) = true ∧ (t.dev.fcls
    r.cls).latest = some x ∧ t.dev.rd (FC_UNCLR_MAX r.cls) = max (0) (s.dev.rd (FC_UNCLR_MAX r.cls)) ∧ t.dev.rd
    (FC_CAP_INFO_MORE (r.cls - 6)) = satN 0xFFF (s.dev.rd (FC_CAP_INFO_MORE (r.cls - 6)) + 1) ∧ s.changes t
    { s.dev with fc := { s.dev.fc with raised := s.dev.fc.raised.erase r, cls := t.dev.fc.cls } } [FC_CAP_INFO_MORE
    (r.cls - 6), FC_CNT_RECORDS r.cls, FC_UNCLR_MAX r.cls, FC_UNCLR_ANY r.cls]) ∧
  (∀ (s : State) (q : BitVec 12) (r : Report) (x : Rec), s.awake → firstReport s.dev.fc.raised = some r → x = ⟨r.cls,
    r.typ, s.dev.levelOf r.cls r.typ, r.forced, s.dev.hNow, r.field, r.index, r.sub, r.value, r.job, s.dev.stamp
    q.toNat⟩ → 6 ≤ r.cls → r.cls < 12 → s.dev.levelOf r.cls r.typ = 1 → s.dev.fcActive r.cls = false → s.dev.rdB
    (FC_CAP_INFO_VALID (r.cls - 6)) = true → s.dev.rd (FC_CAP_INFO_LEVEL (r.cls - 6)) = 0 → Completes (.faultRecord q) s
    fun t => t.dev.rd (FC_CNT_RECORDS r.cls) = satN 0xFFFF (s.dev.rd (FC_CNT_RECORDS r.cls) + 1) ∧ t.dev.rdB
    (FC_UNCLR_ANY r.cls) = true ∧ (t.dev.fcls r.cls).latest = some x ∧ t.dev.fcLevel r.cls = 1 ∧ t.dev.fcActive r.cls =
    true ∧ t.dev.rd (FC_UNCLR_MAX r.cls) = max (1) (s.dev.rd (FC_UNCLR_MAX r.cls)) ∧ (t.dev.fcls r.cls).timer = some
    s.dev.time.nb ∧ (t.dev.fcls r.cls).joining = true ∧ t.dev.rd (FC_CAP_INFO_TYPE (r.cls - 6)) = r.typ % 256 ∧ t.dev.rd
    (FC_CAP_INFO_LEVEL (r.cls - 6)) = 1 ∧ t.dev.rd (FC_CAP_ADDR_ADDR (r.cls - 6)) = r.capAddr % 2 ^ 32 ∧ t.dev.rd
    (FC_CAP_INFO_MORE (r.cls - 6)) = satN 0xFFF (s.dev.rd (FC_CAP_INFO_MORE (r.cls - 6)) + 1) ∧ s.changes t
    { s.dev with fc := { s.dev.fc with raised := s.dev.fc.raised.erase r, cls := t.dev.fc.cls } } ([FC_CAP_ADDR_ADDR
    (r.cls - 6), FC_CAP_INFO_MASTER (r.cls - 6), FC_CAP_INFO_ACCESS (r.cls - 6), FC_CAP_INFO_TYPE (r.cls - 6),
    FC_CAP_INFO_LEVEL (r.cls - 6), FC_CAP_INFO_FORCED (r.cls - 6), FC_CAP_INFO_H (r.cls - 6), FC_CAP_INFO_VALID (r.cls -
    6), FC_CAP_INFO_MORE (r.cls - 6), FC_CAP_TS_LO_STAMP (r.cls - 6), FC_CAP_TS_HI_STAMP (r.cls - 6)] ++ [FC_CNT_RECORDS
    r.cls, FC_UNCLR_MAX r.cls, FC_UNCLR_ANY r.cls, FC_STATE_LEVEL r.cls, FC_STATE_ACKED r.cls])) ∧
  (∀ (s : State) (q : BitVec 12), s.awake → s.dev.fc.raised = [] → Completes (.faultRecord q) s fun t => s.changes t
    s.dev [])

/-- R367, R368, R369, R370, R372, R373, R374: When a class's timer expires, the class goes a level up and its latest
record is noticed at the new level: from L1 to L2, from L2 to L3 with its fields stopped, or to L4 where the central
manager is among its sources. An acknowledgement stops the timer of each named class that is ACTIVE; a clear naming one
is refused whole, otherwise it empties each named class. A forced record of a type with a row is reported, one without
sets FORCE_BAD. Memory errors and poison are reported. An owed notice is offered again. After 100,000 bolts of READY the
L4 count is cleared. Exec answers a next state with its own effect, for every state and operands that meet the
conditions of its clause: escalationTimeout, faultAck, faultClear, faultForce, fcHpoison, endpointRoutingPoison,
sramError, faultNoticeRetry, l4CountClear. -/
def Obligations.EscalationAndClears : Prop :=
  (∀ (s : State) (c : Fin 12) (a : Nat) (r : Rec), s.awake → (s.dev.fcls c).timer = some a → (s.dev.fcls c).latest =
    some r → s.dev.fcActive c = true → s.dev.expiredAll a (1000 * s.dev.levelTimer (s.dev.fcLevel c)) = true →
    s.dev.fcLevel c = 1 → Completes (.escalationTimeout c) s fun t => t.dev.fcLevel c = 2 ∧ t.dev.rd (FC_CNT_ESCALATIONS
    c) = satN 0xFFFF (s.dev.rd (FC_CNT_ESCALATIONS c) + 1) ∧ t.dev.fc.owed = (if s.dev.takes (s.dev.rd FC_HOSTQ_QHANDLE)
    then s.dev.fc.owed else s.dev.fc.owed ++ [noticeOf r 2]) ∧ t.dev.out = (if s.dev.takes (s.dev.rd FC_HOSTQ_QHANDLE)
    then .hostNotice (s.dev.rd FC_HOSTQ_QHANDLE) (noticeOf r 2).w0 (noticeOf r 2).w1 :: s.dev.out else s.dev.out) ∧
    t.dev.fcActive c = true ∧ t.dev.rd (FC_UNCLR_MAX c) = max 2 (s.dev.rd (FC_UNCLR_MAX c)) ∧ t.dev.rdB (FC_UNCLR_ANY c)
    = true ∧ (t.dev.fcls c).timer = some s.dev.time.nb ∧ s.changes t
    { s.dev with fc := { s.dev.fc with cls := t.dev.fc.cls, owed := t.dev.fc.owed }, out := t.dev.out } [FC_STATE_LEVEL
    c, FC_STATE_ACKED c, FC_UNCLR_MAX c, FC_UNCLR_ANY c, FC_CNT_ESCALATIONS c]) ∧
  (∀ (s : State) (c : Fin 12) (a : Nat) (r : Rec), s.awake → (s.dev.fcls c).timer = some a → (s.dev.fcls c).latest =
    some r → s.dev.fcActive c = true → s.dev.expiredAll a (1000 * s.dev.levelTimer (s.dev.fcLevel c)) = true →
    s.dev.fcLevel c = 2 → (s.dev.fcls c).central = false → Completes (.escalationTimeout c) s fun t => t.dev.fcLevel c =
    3 ∧ t.dev.rd (FC_CNT_ESCALATIONS c) = satN 0xFFFF (s.dev.rd (FC_CNT_ESCALATIONS c) + 1) ∧ t.dev.fc.owed = (if
    s.dev.takes (s.dev.rd FC_HOSTQ_QHANDLE) then s.dev.fc.owed else s.dev.fc.owed ++ [noticeOf r 3]) ∧ t.dev.out = (if
    s.dev.takes (s.dev.rd FC_HOSTQ_QHANDLE) then .hostNotice (s.dev.rd FC_HOSTQ_QHANDLE) (noticeOf r 3).w0 (noticeOf r
    3).w1 :: s.dev.out else s.dev.out) ∧ (∀ f : Fin 96, f.val ∈ (s.dev.fcls c).fields → (t.dev.fd f).stop ≠ .none) ∧
    s.parts t
    { s.dev with fc := t.dev.fc, out := t.dev.out, fld := t.dev.fld, inst := t.dev.inst, dom := t.dev.dom, led := { s.dev.led with marks := t.dev.led.marks }, pat := t.dev.pat, cls := t.dev.cls, tile := t.dev.tile }) ∧
  (∀ (s : State) (c : Fin 12) (a : Nat) (r : Rec), s.awake → (s.dev.fcls c).timer = some a → (s.dev.fcls c).latest =
    some r → s.dev.fcActive c = true → s.dev.expiredAll a (1000 * s.dev.levelTimer (s.dev.fcLevel c)) = true →
    s.dev.fcLevel c = 2 → (s.dev.fcls c).central = true → s.dev.fc.l4 = none → Completes (.escalationTimeout c) s fun t
    => t.dev.fcLevel c = 4 ∧ t.dev.rd (FC_CNT_ESCALATIONS c) = satN 0xFFFF (s.dev.rd (FC_CNT_ESCALATIONS c) + 1) ∧
    t.dev.fc.owed = s.dev.fc.owed ∧ t.dev.out = (if s.dev.takes (s.dev.rd FC_HOSTQ_QHANDLE) then .hostNotice (s.dev.rd
    FC_HOSTQ_QHANDLE) (noticeOf r 4).w0 (noticeOf r 4).w1 :: s.dev.out else s.dev.out) ∧ (∀ f : Fin 96, (t.dev.fd
    f).stop ≠ .none) ∧ t.dev.fc.l4 = some s.dev.time.nb ∧ t.dev.rd FC_L4_CLASS = r.cls % 16 ∧ t.dev.rd FC_L4_TYPE =
    r.typ % 256 ∧ t.dev.rdB FC_L4_VALID = true ∧ t.dev.rd FC_L4_COUNT = min 3 (s.dev.rd FC_L4_COUNT + 1) ∧ s.parts t
    { s.dev with fc := t.dev.fc, out := t.dev.out, fld := t.dev.fld, inst := t.dev.inst, dom := t.dev.dom, led := { s.dev.led with marks := t.dev.led.marks }, pat := t.dev.pat, cls := t.dev.cls, tile := t.dev.tile, ev := { s.dev.ev with shutDue := true } }) ∧
  (∀ (s : State) (c : Fin 12), s.awake → ((s.dev.fcls c).timer = none ∨ s.dev.fcActive c = false) → Completes
    (.escalationTimeout c) s fun t => s.changes t s.dev []) ∧
  (∀ (s : State) (m : BitVec 12), s.awake → Completes (.faultAck m) s fun t => (∀ c : Fin 12, t.dev.fcActive c =
    (s.dev.fcActive c && !bitOf m.toNat c)) ∧ (∀ c : Fin 12, (t.dev.fcls c).timer = (if bitOf m.toNat c = true ∧
    s.dev.fcActive c = true then none else (s.dev.fcls c).timer)) ∧ (∀ c : Fin 12, t.dev.fcLevel c = s.dev.fcLevel c) ∧
    s.within t { s.dev with fc := { s.dev.fc with cls := t.dev.fc.cls } } 0x20050008 0x20050010) ∧
  (∀ (s : State) (m : BitVec 12), s.awake → (∃ c : Fin 12, bitOf m.toNat c = true ∧ s.dev.fcActive c = true) → Completes
    (.faultClear m) s fun t => t.dev.rdB FC_STATUS_STATE_CONFLICT = true ∧ s.changes t s.dev [FC_STATUS_STATE_CONFLICT]) ∧
  (∀ (s : State) (m : BitVec 12), s.awake → (∀ c : Fin 12, bitOf m.toNat c = true → s.dev.fcActive c = false) →
    Completes (.faultClear m) s fun t => (∀ c : Fin 12, bitOf m.toNat c = true → t.dev.fcLevel c = 0 ∧ t.dev.rd
    (FC_UNCLR_MAX c) = 0 ∧ t.dev.rdB (FC_UNCLR_ANY c) = false ∧ t.dev.fcls c = ClassS.init) ∧ (∀ c : Fin 12, bitOf
    m.toNat c = true → 6 ≤ c.val → t.dev.rdB (FC_CAP_INFO_VALID (c - 6)) = false ∧ t.dev.rd (FC_CAP_INFO_MORE (c - 6)) =
    0) ∧ (∀ c : Fin 12, bitOf m.toNat c = false → t.dev.fcLevel c = s.dev.fcLevel c ∧ t.dev.fcActive c = s.dev.fcActive
    c ∧ t.dev.rd (FC_UNCLR_MAX c) = s.dev.rd (FC_UNCLR_MAX c) ∧ t.dev.fcls c = s.dev.fcls c) ∧ (t.dev.fc.owed =
    s.dev.fc.owed.filter fun o => 12 ≤ o.cls || !bitOf m.toNat o.cls) ∧ s.within t
    { s.dev with fc := { s.dev.fc with cls := t.dev.fc.cls, owed := t.dev.fc.owed } } 0x20050008 0x20050160) ∧
  (∀ (s : State) (w : BitVec 32), s.awake → bitOf w.toNat 12 = true → (typeRow (bitsOf w.toNat 0 4) (bitsOf w.toNat 4
    8)).isSome = true → Completes (.faultForce w) s fun t => s.changes t
    { s.dev with fc := { s.dev.fc with raised := s.dev.fc.raised ++ [⟨bitsOf w.toNat 0 4, bitsOf w.toNat 4 8, s.dev.rd FC_FORCE_SRC_FIELD, s.dev.rd FC_FORCE_SRC_INDEX, s.dev.rd FC_FORCE_SRC_SUB, s.dev.rd FC_FORCE_VAL_VALUE, if s.dev.rdB FC_FORCE_SRC_JOB_VALID then some (s.dev.rd FC_FORCE_SRC_JOB) else none, 0, 15, 3, true, s.dev.time.nb⟩] } }
    []) ∧
  (∀ (s : State) (w : BitVec 32), s.awake → bitOf w.toNat 12 = true → typeRow (bitsOf w.toNat 0 4) (bitsOf w.toNat 4 8)
    = none → Completes (.faultForce w) s fun t => t.dev.rdB FC_STATUS_FORCE_BAD = true ∧ s.changes t s.dev
    [FC_STATUS_FORCE_BAD]) ∧
  (∀ (s : State) (w : BitVec 32), s.awake → bitOf w.toNat 12 = false → Completes (.faultForce w) s fun t => s.changes t
    s.dev []) ∧
  (∀ (s : State), s.awake → Completes (.fcHpoison true) s fun t => s.changes t
    { s.dev with fc := { s.dev.fc with raised := s.dev.fc.raised ++ [{ s.dev.report .mem 4 central 0 with addr := 0xFFFFFFFF }] } }
    []) ∧
  (∀ (s : State), s.awake → Completes (.fcHpoison false) s fun t => s.changes t s.dev []) ∧
  (∀ (s : State), s.awake → Completes .endpointRoutingPoison s fun t => s.changes t
    { s.dev with fc := { s.dev.fc with raised := s.dev.fc.raised ++ [{ s.dev.report .mem 4 central 0 with addr := 0xFFFFFFFF }] } }
    []) ∧
  (∀ (s : State) (m : List Byte) (c : Instr) (q u : BitVec 12), s.awake → s.dev.selStop = false →     c ∈
    [.barrierNotice ⟨m, true⟩, .slackNotice ⟨m, true⟩, .ledgerNotice ⟨m, true⟩, .destAck ⟨m, true⟩, .ledgerQuery ⟨m,
    true⟩, .heartbeat ⟨m, true⟩,       .ringPlace ⟨m, true⟩, .dlv ⟨m, true⟩, .nack ⟨m, true⟩, .loanGrant ⟨m, true⟩,
    .loanReturn ⟨m, true⟩, .timeReq ⟨m, true⟩ q u, .timeReply ⟨m, true⟩ q,       .imageOpen ⟨m, true⟩ q, .imageChunk ⟨m,
    true⟩ q] →     Completes c s fun t => s.changes t { s.dev with fc := { s.dev.fc with
          raised := s.dev.fc.raised ++ [{ s.dev.report .mem 4 central 0 with addr := mSrc (nats m) }] } } []) ∧
  (∀ (s : State) (m : Fin 5) (o : BitVec 28) (f : BitVec 7) (b : Bool), s.awake → Completes (.sramError m o f b) s fun t
    => s.changes t
    { s.dev with fc := { s.dev.fc with raised := s.dev.fc.raised ++ [{ s.dev.report .mem (if b then 1 else 2) (if m.val = 3 ∧ f.toNat < 96 then f.toNat else central) 0 with addr := m.val * 2 ^ 28 + o.toNat }] } }
    []) ∧
  (∀ (s : State) (h : BitVec 32) (o : Owed), s.awake → s.dev.fc.owed = [o] → s.dev.rd FC_HOSTQ_QHANDLE = h.toNat → h ≠ 0
    → Completes (.faultNoticeRetry h true) s fun t => t.dev.fc.owed = [] ∧ t.dev.out = .hostNotice h.toNat o.w0 o.w1 ::
    s.dev.out ∧ s.changes t
    { s.dev with fc := { s.dev.fc with owed := [] }, out := t.dev.out, hostFull := t.dev.hostFull } []) ∧
  (∀ (s : State) (h : BitVec 32), s.awake → s.dev.rd FC_HOSTQ_QHANDLE = h.toNat → Completes (.faultNoticeRetry h false)
    s fun t => s.changes t { s.dev with hostFull := t.dev.hostFull } []) ∧
  (∀ (s : State), s.awake → 100000 ≤ s.dev.fc.readyBolts → Completes .l4CountClear s fun t => t.dev.rd FC_L4_COUNT = 0 ∧
    s.changes t s.dev [FC_L4_COUNT]) ∧
  (∀ (s : State), s.awake → s.dev.fc.readyBolts < 100000 → Completes .l4CountClear s fun t => s.changes t s.dev [])

/-- R379, R380, R387, R393: Thirty-six million boundaries (36,000 bolts) after the last count, the operating hours go up
by one unit of 0.01 h. Where they stand at a multiple of 100 that the period has not ended yet, the period ends: its set
of records becomes pending, a set still pending is counted as lost, a CLEAR record still pending stays, and accumulation
begins afresh; the trend of a patch with samples enough takes in the hour's mean, that of another stands. Exec answers a
next state with its own effect, for every state and operands that meet the conditions of its clause: operatingHourTick,
hourEnd. -/
def Obligations.OperatingHours : Prop :=
  (∀ (s : State), s.awake → s.dev.boundaries = true → s.dev.ev.hourAt + 36000000 ≤ s.dev.time.nb → Completes
    .operatingHourTick s fun t => t.dev.rd EV_HOURS_HOURS = (s.dev.rd EV_HOURS_HOURS + 1) % 2 ^ 32 ∧ s.changes t
    { s.dev with ev := { s.dev.ev with hourAt := s.dev.ev.hourAt + 36000000 } } [EV_HOURS_HOURS]) ∧
  (∀ (s : State), s.awake → (s.dev.boundaries = false ∨ s.dev.time.nb < s.dev.ev.hourAt + 36000000) → Completes
    .operatingHourTick s fun t => s.changes t s.dev []) ∧
  (∀ (s : State), s.awake → s.dev.hourEnds = true → Completes .hourEnd s fun t => t.dev.ev.since = s.dev.rd
    EV_HOURS_HOURS ∧ t.dev.ev.pend = s.dev.ev.pend.filter isClear ++ s.dev.recordSet (s.dev.ev.cut || decide (s.dev.rd
    EV_HOURS_HOURS - s.dev.ev.since ≠ 100)) ++ (if s.dev.ev.shutDue then [s.dev.shutRecord] else []) ∧ t.dev.ev.hist =
    [] ∧ t.dev.ev.caps = none ∧ t.dev.ev.shutDue = false ∧ t.dev.rdB EV_STATUS_PENDING = true ∧ t.dev.rd
    EV_CNT_LOST_SETS = (if s.dev.ev.pend.all isClear then s.dev.rd EV_CNT_LOST_SETS else satN 0xFFFF (s.dev.rd
    EV_CNT_LOST_SETS + 1)) ∧ s.parts t
    { s.dev with pat := t.dev.pat, ev := t.dev.ev, nv := { s.dev.nv with marg := t.dev.nv.marg, margDue := t.dev.nv.margDue }, fc := t.dev.fc, fld := t.dev.fld, cls := t.dev.cls, inst := t.dev.inst, dom := t.dev.dom, tile := t.dev.tile, led := { s.dev.led with marks := t.dev.led.marks } }) ∧
  (∀ (s : State), s.awake → s.dev.hourEnds = true → s.dev.enabled = [] → Completes .hourEnd s fun t => t.dev.ev.since =
    s.dev.rd EV_HOURS_HOURS ∧ t.dev.ev.pend = s.dev.ev.pend.filter isClear ++ s.dev.recordSet (s.dev.ev.cut || decide
    (s.dev.rd EV_HOURS_HOURS - s.dev.ev.since ≠ 100)) ++ (if s.dev.ev.shutDue then [s.dev.shutRecord] else []) ∧
    t.dev.ev.hist = [] ∧ t.dev.ev.caps = none ∧ t.dev.ev.shutDue = false ∧ t.dev.rdB EV_STATUS_PENDING = true ∧ t.dev.rd
    EV_CNT_LOST_SETS = (if s.dev.ev.pend.all isClear then s.dev.rd EV_CNT_LOST_SETS else satN 0xFFFF (s.dev.rd
    EV_CNT_LOST_SETS + 1)) ∧ t.dev.ev.cnt = [] ∧ s.changes t { s.dev with ev := t.dev.ev } [EV_STATUS_PENDING,
    EV_CNT_LOST_SETS]) ∧
  (∀ (s : State) (f : Fin 96) (p : Fin 36) (v : Int), s.awake → s.dev.hourEnds = true → f.val ∈ s.dev.enabled → orDef
    (s.dev.rd (ST_AGE_CFG1_MIN_SAMPLES f)) 1 ≤ (s.dev.pt f p).slackN → nextTrend (s.dev.pt f p).trended (s.dev.rdS
    (ST_AGE_PATCH_TREND f p)) (divHalfAway (s.dev.pt f p).slackSum (s.dev.pt f p).slackN) = v → -2 ^ 19 ≤ v → v < 2 ^ 19
    → Completes .hourEnd s fun t => t.dev.rdS (ST_AGE_PATCH_TREND f p) = v ∧ (t.dev.pt f p).trended = true ∧ (t.dev.pt f
    p).slackN = 0) ∧
  (∀ (s : State) (f : Fin 96) (p : Fin 36), s.awake → s.dev.hourEnds = true → f.val ∈ s.dev.enabled → (s.dev.pt f
    p).slackN < orDef (s.dev.rd (ST_AGE_CFG1_MIN_SAMPLES f)) 1 → Completes .hourEnd s fun t => t.dev.rdS
    (ST_AGE_PATCH_TREND f p) = s.dev.rdS (ST_AGE_PATCH_TREND f p)) ∧
  (∀ (s : State), s.awake → s.dev.hourEnds = false → Completes .hourEnd s fun t => s.changes t s.dev [])

/-- R379, R381, R384, R385, R386, R389: The next pending record is written in the next slot with its SEQ and CRC, erased
bytes for its repeats; one that only repeats its series' last clears the next bit of that record's REPEAT. The scan of
an erased ring finds nothing; of one with records it finds the newest and oldest SEQ and the hours. A shutdown ends the
period at the next boundary. A clear with its key writes a CLEAR record and clears every other sector, or leaves it
pending while the ring is not ready; one without is a conflict. Nothing is written while the ring is not ready. Exec
answers a next state with its own effect, for every state and operands that meet the conditions of its clause:
recordSetWrite, ringScan, recorderShutdown, recorderClear, recorderClearDone, recordRead, recordReadDone. -/
def Obligations.RingWritesAndScan : Prop :=
  (∀ (s : State) (r : List Nat) (l : List (List Nat)), s.awake → s.dev.ringReady = true → s.dev.ev.pend = r :: l →
    s.dev.repeatOf r = none → r.length = 56 → (∀ b ∈ r, b < 256) → s.dev.ev.next < 2 ^ 32 → (∀ j : Fin 64, s.dev.nvByte
    (slotAddr s.dev.ev.next + j) = 0xFF) → Completes (.recordSetWrite 1) s fun t => t.dev.ev.pend = l ∧ t.dev.ev.next =
    s.dev.ev.next + 1 ∧ t.dev.rd EV_HEAD_SEQ = s.dev.ev.next ∧ t.dev.rd EV_WSEQ_WSEQ = (s.dev.rd EV_WSEQ_WSEQ + (if
    s.dev.ev.next % 64 = 0 then 2 else 1)) % 2 ^ 32 ∧ t.dev.slotBytes s.dev.ev.next = (r.take 4 ++ leBytes 4
    s.dev.ev.next ++ (r.drop 8).take 48) ++ leBytes 4 0xFFFFFFFF ++ leBytes 4 (crc32 (r.take 4 ++ leBytes 4
    s.dev.ev.next ++ (r.drop 8).take 48)) ∧ t.dev.rdB EV_STATUS_PENDING = (!l.isEmpty) ∧ s.changes t
    { s.dev with ev := { s.dev.ev with pend := l, next := t.dev.ev.next, series := t.dev.ev.series, clear := t.dev.ev.clear }, nv := { s.dev.nv with flash := t.dev.nv.flash } }
    [EV_HEAD_SEQ, EV_WSEQ_WSEQ, EV_OLDEST_SEQ, EV_STATUS_PENDING, EV_STATUS_SHUT_DONE]) ∧
  (∀ (s : State) (r : List Nat) (l : List (List Nat)) (m k : Nat), s.awake → s.dev.ringReady = true → s.dev.ev.pend = r
    :: l → s.dev.repeatOf r = some m → isClear r = false → k < 32 → bytesAt (s.dev.slotBytes m) 56 4 = 2 ^ 32 - 2 ^ k →
    Completes (.recordSetWrite 1) s fun t => t.dev.ev.pend = l ∧ bytesAt (t.dev.slotBytes m) 56 4 = 2 ^ 32 - 2 ^ (k + 1)
    ∧ t.dev.rd EV_WSEQ_WSEQ = (s.dev.rd EV_WSEQ_WSEQ + 1) % 2 ^ 32 ∧ t.dev.rdB EV_STATUS_PENDING = (!l.isEmpty) ∧
    s.changes t { s.dev with ev := { s.dev.ev with pend := l }, nv := { s.dev.nv with flash := t.dev.nv.flash } }
    [EV_WSEQ_WSEQ, EV_STATUS_PENDING, EV_STATUS_SHUT_DONE]) ∧
  (∀ (s : State) (n : BitVec 10), s.awake → s.dev.ringReady = false → Completes (.recordSetWrite n) s fun t => s.changes
    t s.dev []) ∧
  (∀ (s : State) (n : BitVec 10), s.awake → s.dev.ringReady = true → s.dev.ev.pend = [] → Completes (.recordSetWrite n)
    s fun t => t.dev.rdB EV_STATUS_PENDING = false ∧ s.changes t s.dev [EV_STATUS_PENDING]) ∧
  (∀ (s : State), s.awake → 7 ≤ s.dev.start.step → s.dev.rdB EV_STATUS_SCANNED = false → s.dev.gateOk 9 = true → (∀ c ∈
    s.dev.nv.flash, c.1 < evBase ∨ evBase + 0x800000 ≤ c.1) → Completes .ringScan s fun t => t.dev.rdB EV_STATUS_SCANNED
    = true ∧ s.changes t s.dev [EV_STATUS_SCANNED]) ∧
  (∀ (s : State) (j : Fin 2048) (n : Nat), s.awake → 7 ≤ s.dev.start.step → s.dev.rdB EV_STATUS_SCANNED = false →
    s.dev.gateOk 9 = true → s.dev.slotSeq (64 * j) = some n → Completes .ringScan s fun t => t.dev.rdB EV_STATUS_SCANNED
    = true ∧ t.dev.rd EV_HEAD_SEQ = maxN (s.dev.scanSlots.filterMap s.dev.slotSeq) % 2 ^ 32 ∧ t.dev.rd EV_OLDEST_SEQ =
    (minN (s.dev.scanSlots.filterMap s.dev.slotSeq)).getD 0 % 2 ^ 32 ∧ t.dev.rd EV_HOURS_HOURS = (s.dev.rd
    EV_HOURS_HOURS + (bytesAt (s.dev.slotBytes (maxN (s.dev.scanSlots.filterMap s.dev.slotSeq))) 8 4 - s.dev.ev.hours0))
    % 2 ^ 32 ∧ s.changes t { s.dev with ev := { s.dev.ev with next := t.dev.ev.next, since := t.dev.ev.since } }
    [EV_HEAD_SEQ, EV_STATUS_SCANNED, EV_CNT_CRC_BAD, EV_OLDEST_SEQ, EV_HOURS_HOURS]) ∧
  (∀ (s : State), s.awake → (s.dev.start.step < 7 ∨ s.dev.rdB EV_STATUS_SCANNED = true ∨ s.dev.gateOk 9 = false) →
    Completes .ringScan s fun t => s.changes t s.dev []) ∧
  (∀ (s : State), s.awake → Completes .recorderShutdown s fun t => t.dev.rdB EV_STATUS_SHUT_DONE = false ∧ s.changes t
    { s.dev with ev := { s.dev.ev with shutDue := true, keyOk := false } } [EV_STATUS_SHUT_DONE]) ∧
  (∀ (s : State), s.awake → s.dev.ev.keyOk = true → s.dev.rdB EV_STATUS_PENDING = false → s.dev.rdB EV_STATUS_CLEARING =
    false → s.dev.ringReady = true → Completes .recorderClear s fun t => t.dev.rdB EV_STATUS_CLEARING = true ∧
    (t.dev.ev.clear = (List.range 2047).map (fun i => (sectorOf s.dev.ev.next + 1 + i) % 2048)) ∧ t.dev.ev.next =
    s.dev.ev.next + 1 ∧ t.dev.rd EV_HEAD_SEQ = s.dev.ev.next % 2 ^ 32 ∧ t.dev.rd EV_WSEQ_WSEQ = (s.dev.rd EV_WSEQ_WSEQ +
    (if s.dev.ev.next % 64 = 0 then 2 else 1)) % 2 ^ 32 ∧ t.dev.nvByte (slotAddr s.dev.ev.next) = s.dev.nvByte (slotAddr
    s.dev.ev.next) &&& 7 ∧ s.changes t
    { s.dev with ev := { s.dev.ev with keyOk := false, next := t.dev.ev.next, series := t.dev.ev.series, clear := t.dev.ev.clear }, nv := { s.dev.nv with flash := t.dev.nv.flash } }
    [EV_HEAD_SEQ, EV_WSEQ_WSEQ, EV_OLDEST_SEQ, EV_STATUS_CLEARING]) ∧
  (∀ (s : State), s.awake → s.dev.ev.keyOk = true → s.dev.rdB EV_STATUS_PENDING = false → s.dev.rdB EV_STATUS_CLEARING =
    false → s.dev.rdB EV_STATUS_SCANNED = true → s.dev.ringReady = false → Completes .recorderClear s fun t => t.dev.rdB
    EV_STATUS_CLEARING = true ∧ t.dev.rdB EV_STATUS_PENDING = true ∧ t.dev.ev.pend = [s.dev.record 7 0 central false []]
    ∧ s.changes t { s.dev with ev := { s.dev.ev with pend := t.dev.ev.pend, keyOk := false } } [EV_STATUS_CLEARING,
    EV_STATUS_PENDING]) ∧
  (∀ (s : State), s.awake → (s.dev.ev.keyOk = false ∨ s.dev.rdB EV_STATUS_PENDING = true ∨ s.dev.rdB EV_STATUS_CLEARING
    = true ∨ s.dev.rdB EV_STATUS_SCANNED = false) → Completes .recorderClear s fun t => t.dev.rdB
    EV_STATUS_STATE_CONFLICT = true ∧ s.changes t { s.dev with ev := { s.dev.ev with keyOk := false } }
    [EV_STATUS_STATE_CONFLICT]) ∧
  (∀ (s : State), s.awake → s.dev.rdB EV_STATUS_CLEARING = true → s.dev.gateOk 9 = true → s.dev.ev.pend.any isClear =
    false → Completes .recorderClearDone s fun t => t.dev.rdB EV_STATUS_CLEARING = false ∧ t.dev.rd EV_WSEQ_WSEQ =
    (s.dev.rd EV_WSEQ_WSEQ + s.dev.ev.clear.length) % 2 ^ 32 ∧ (∀ z ∈ s.dev.ev.clear, ∀ j : Nat, j < 4096 → t.dev.nvByte
    (evBase + 4096 * z + j) = 0xFF) ∧ (∀ a : Nat, (∀ z ∈ s.dev.ev.clear, a < evBase + 4096 * z ∨ evBase + 4096 * z +
    4096 ≤ a) → t.dev.nvByte a = s.dev.nvByte a) ∧ s.changes t
    { s.dev with ev := { s.dev.ev with clear := [] }, nv := { s.dev.nv with flash := t.dev.nv.flash } }
    [EV_STATUS_CLEARING, EV_WSEQ_WSEQ, EV_OLDEST_SEQ]) ∧
  (∀ (s : State), s.awake → (s.dev.rdB EV_STATUS_CLEARING = false ∨ s.dev.gateOk 9 = false ∨ s.dev.ev.pend.any isClear =
    true) → Completes .recorderClearDone s fun t => s.changes t s.dev []) ∧
  (∀ (s : State) (a : BitVec 32), s.awake → Completes (.recordRead a) s fun t => t.dev.rd EV_CURSOR_SEQ = a.toNat ∧
    t.dev.rdB EV_WIN_STAT_READY = false ∧ s.changes t { s.dev with ev := { s.dev.ev with reading := true } }
    [EV_CURSOR_SEQ, EV_WIN_STAT_READY]) ∧
  (∀ (s : State) (b : List Nat), s.awake → s.dev.ev.reading = true → s.dev.gateOk 9 = true → s.dev.readRecord (s.dev.rd
    EV_CURSOR_SEQ) = (b, true) → Completes .recordReadDone s fun t => (∀ k : Fin 16, t.dev.rd (EV_WIN_WORD k) = bytesAt
    b (4 * k) 4) ∧ t.dev.rdB EV_WIN_STAT_READY = true ∧ t.dev.rdB EV_WIN_STAT_VALID = true ∧ t.dev.rd
    EV_WIN_STAT_REPEATS = repeatsOf b ∧ s.within t { s.dev with ev := { s.dev.ev with reading := false } } 0x20060024
    0x20060080) ∧
  (∀ (s : State), s.awake → s.dev.ev.reading = true → s.dev.gateOk 9 = true → (s.dev.rdB EV_STATUS_SCANNED = false ∨
    s.dev.ev.next = 0 ∨ s.dev.rd EV_HEAD_SEQ < s.dev.rd EV_CURSOR_SEQ ∨ s.dev.rd EV_CURSOR_SEQ < s.dev.rd EV_OLDEST_SEQ)
    → Completes .recordReadDone s fun t => (∀ k : Fin 16, t.dev.rd (EV_WIN_WORD k) = 0) ∧ t.dev.rdB EV_WIN_STAT_READY =
    true ∧ t.dev.rdB EV_WIN_STAT_VALID = false ∧ t.dev.rd EV_WIN_STAT_REPEATS = 0 ∧ s.within t
    { s.dev with ev := { s.dev.ev with reading := false } } 0x20060024 0x20060080) ∧
  (∀ (s : State), s.awake → (s.dev.ev.reading = false ∨ s.dev.gateOk 9 = false) → Completes .recordReadDone s fun t =>
    s.changes t s.dev [])

/-- R412, R413, R414, R415, R416, R417, R418: A read that the slave acknowledges is counted and shown in PM_LAST as
done, changes nothing else but the bytes it answers, and answers what the command names: the constants of CAPABILITY,
PMBUS_REVISION, MFR_ID and MFR_MODEL, the revision, the serial number, STATUS_WORD and its low byte, STATUS_CML, the
caps, the status, the uncleared faults, the telemetry, the counts, a record of the ring, the state of the image
transfer. At the Alert Response Address a slave that drives the alert answers its own address and releases it. Exec
answers a next state with its own effect, for every state and operands that meet the conditions of its clause:
capability, statusByte, statusWord, statusCml, pmbusRevision, mfrId, mfrModel, mfrRevision, mfrSerial, mfrJzCapRead,
mfrJzStatus, mfrJzFaults, mfrJzTelem, mfrJzCounts, mfrJzRecord, mfrJzImgStatus, alertResponse. -/
def Obligations.PMBusReads : Prop :=
  (∀ (s : State), s.awake → s.dev.pmAnswers = true → Completes .capability s fun t => t.dev.rd PM_CNT_XFERS = satN
    0xFFFF (s.dev.rd PM_CNT_XFERS + 1) ∧ t.dev.rd PM_LAST_CMD = 0x19 ∧ t.dev.rdB PM_LAST_WRITE = false ∧ t.dev.rd
    PM_LAST_RESULT = 0 ∧ s.changes t { s.dev with mg := { s.dev.mg with reply := [0xB0] } } [PM_CNT_XFERS, PM_LAST_CMD,
    PM_LAST_WRITE, PM_LAST_RESULT]) ∧
  (∀ (s : State), s.awake → s.dev.pmAnswers = true → Completes .statusByte s fun t => t.dev.rd PM_CNT_XFERS = satN
    0xFFFF (s.dev.rd PM_CNT_XFERS + 1) ∧ t.dev.rd PM_LAST_CMD = 0x78 ∧ t.dev.rdB PM_LAST_WRITE = false ∧ t.dev.rd
    PM_LAST_RESULT = 0 ∧ s.changes t { s.dev with mg := { s.dev.mg with reply := [s.dev.statusWord % 256] } }
    [PM_CNT_XFERS, PM_LAST_CMD, PM_LAST_WRITE, PM_LAST_RESULT]) ∧
  (∀ (s : State), s.awake → s.dev.pmAnswers = true → Completes .statusWord s fun t => t.dev.rd PM_CNT_XFERS = satN
    0xFFFF (s.dev.rd PM_CNT_XFERS + 1) ∧ t.dev.rd PM_LAST_CMD = 0x79 ∧ t.dev.rdB PM_LAST_WRITE = false ∧ t.dev.rd
    PM_LAST_RESULT = 0 ∧ s.changes t { s.dev with mg := { s.dev.mg with reply := leBytes 2 s.dev.statusWord } }
    [PM_CNT_XFERS, PM_LAST_CMD, PM_LAST_WRITE, PM_LAST_RESULT]) ∧
  (∀ (s : State) (p : Pec), s.awake → s.dev.pmAnswers = true → Completes (.statusCml none p) s fun t => t.dev.rd
    PM_CNT_XFERS = satN 0xFFFF (s.dev.rd PM_CNT_XFERS + 1) ∧ t.dev.rd PM_LAST_CMD = 0x7E ∧ t.dev.rdB PM_LAST_WRITE =
    false ∧ t.dev.rd PM_LAST_RESULT = 0 ∧ s.changes t { s.dev with mg := { s.dev.mg with reply := [s.dev.mg.cml] } }
    [PM_CNT_XFERS, PM_LAST_CMD, PM_LAST_WRITE, PM_LAST_RESULT]) ∧
  (∀ (s : State), s.awake → s.dev.pmAnswers = true → Completes .pmbusRevision s fun t => t.dev.rd PM_CNT_XFERS = satN
    0xFFFF (s.dev.rd PM_CNT_XFERS + 1) ∧ t.dev.rd PM_LAST_CMD = 0x98 ∧ t.dev.rdB PM_LAST_WRITE = false ∧ t.dev.rd
    PM_LAST_RESULT = 0 ∧ s.changes t { s.dev with mg := { s.dev.mg with reply := [0x33] } } [PM_CNT_XFERS, PM_LAST_CMD,
    PM_LAST_WRITE, PM_LAST_RESULT]) ∧
  (∀ (s : State), s.awake → s.dev.pmAnswers = true → Completes .mfrId s fun t => t.dev.rd PM_CNT_XFERS = satN 0xFFFF
    (s.dev.rd PM_CNT_XFERS + 1) ∧ t.dev.rd PM_LAST_CMD = 0x99 ∧ t.dev.rdB PM_LAST_WRITE = false ∧ t.dev.rd
    PM_LAST_RESULT = 0 ∧ s.changes t
    { s.dev with mg := { s.dev.mg with reply := [0x4C, 0x4F, 0x4D, 0x58, 0x4F, 0x4E] } } [PM_CNT_XFERS, PM_LAST_CMD,
    PM_LAST_WRITE, PM_LAST_RESULT]) ∧
  (∀ (s : State), s.awake → s.dev.pmAnswers = true → Completes .mfrModel s fun t => t.dev.rd PM_CNT_XFERS = satN 0xFFFF
    (s.dev.rd PM_CNT_XFERS + 1) ∧ t.dev.rd PM_LAST_CMD = 0x9A ∧ t.dev.rdB PM_LAST_WRITE = false ∧ t.dev.rd
    PM_LAST_RESULT = 0 ∧ s.changes t
    { s.dev with mg := { s.dev.mg with reply := [0x4A, 0x45, 0x4E, 0x55, 0x5A, 0x2D, 0x39, 0x36] } } [PM_CNT_XFERS,
    PM_LAST_CMD, PM_LAST_WRITE, PM_LAST_RESULT]) ∧
  (∀ (s : State), s.awake → s.dev.pmAnswers = true → Completes .mfrRevision s fun t => t.dev.rd PM_CNT_XFERS = satN
    0xFFFF (s.dev.rd PM_CNT_XFERS + 1) ∧ t.dev.rd PM_LAST_CMD = 0x9B ∧ t.dev.rdB PM_LAST_WRITE = false ∧ t.dev.rd
    PM_LAST_RESULT = 0 ∧ s.changes t { s.dev with mg := { s.dev.mg with reply := leBytes 2 s.fuses.rev } }
    [PM_CNT_XFERS, PM_LAST_CMD, PM_LAST_WRITE, PM_LAST_RESULT]) ∧
  (∀ (s : State), s.awake → s.dev.pmAnswers = true → Completes .mfrSerial s fun t => t.dev.rd PM_CNT_XFERS = satN 0xFFFF
    (s.dev.rd PM_CNT_XFERS + 1) ∧ t.dev.rd PM_LAST_CMD = 0x9E ∧ t.dev.rdB PM_LAST_WRITE = false ∧ t.dev.rd
    PM_LAST_RESULT = 0 ∧ s.changes t { s.dev with mg := { s.dev.mg with reply := s.dev.nvBytes 0x10000 8 } }
    [PM_CNT_XFERS, PM_LAST_CMD, PM_LAST_WRITE, PM_LAST_RESULT]) ∧
  (∀ (s : State), s.awake → s.dev.pmAnswers = true → Completes .mfrJzCapRead s fun t => t.dev.rd PM_CNT_XFERS = satN
    0xFFFF (s.dev.rd PM_CNT_XFERS + 1) ∧ t.dev.rd PM_LAST_CMD = 0xD0 ∧ t.dev.rdB PM_LAST_WRITE = false ∧ t.dev.rd
    PM_LAST_RESULT = 0 ∧ s.changes t
    { s.dev with mg := { s.dev.mg with reply := (leBytes 2 (s.dev.cap % 2 ^ 15 + b01 s.dev.capDeferred * 2 ^ 15)) } }
    [PM_CNT_XFERS, PM_LAST_CMD, PM_LAST_WRITE, PM_LAST_RESULT]) ∧
  (∀ (s : State), s.awake → s.dev.pmAnswers = true → Completes .mfrJzStatus s fun t => t.dev.rd PM_CNT_XFERS = satN
    0xFFFF (s.dev.rd PM_CNT_XFERS + 1) ∧ t.dev.rd PM_LAST_CMD = 0xD1 ∧ t.dev.rdB PM_LAST_WRITE = false ∧ t.dev.rd
    PM_LAST_RESULT = 0 ∧ s.changes t { s.dev with mg := { s.dev.mg with reply := s.dev.mfrStatus } } [PM_CNT_XFERS,
    PM_LAST_CMD, PM_LAST_WRITE, PM_LAST_RESULT]) ∧
  (∀ (s : State), s.awake → s.dev.pmAnswers = true → Completes .mfrJzFaults s fun t => t.dev.rd PM_CNT_XFERS = satN
    0xFFFF (s.dev.rd PM_CNT_XFERS + 1) ∧ t.dev.rd PM_LAST_CMD = 0xD2 ∧ t.dev.rdB PM_LAST_WRITE = false ∧ t.dev.rd
    PM_LAST_RESULT = 0 ∧ s.changes t { s.dev with mg := { s.dev.mg with reply := s.dev.mfrFaults } } [PM_CNT_XFERS,
    PM_LAST_CMD, PM_LAST_WRITE, PM_LAST_RESULT]) ∧
  (∀ (s : State), s.awake → s.dev.pmAnswers = true → Completes .mfrJzTelem s fun t => t.dev.rd PM_CNT_XFERS = satN
    0xFFFF (s.dev.rd PM_CNT_XFERS + 1) ∧ t.dev.rd PM_LAST_CMD = 0xD3 ∧ t.dev.rdB PM_LAST_WRITE = false ∧ t.dev.rd
    PM_LAST_RESULT = 0 ∧ s.changes t { s.dev with mg := { s.dev.mg with reply := s.dev.mfrTelem } } [PM_CNT_XFERS,
    PM_LAST_CMD, PM_LAST_WRITE, PM_LAST_RESULT]) ∧
  (∀ (s : State), s.awake → s.dev.pmAnswers = true → Completes .mfrJzCounts s fun t => t.dev.rd PM_CNT_XFERS = satN
    0xFFFF (s.dev.rd PM_CNT_XFERS + 1) ∧ t.dev.rd PM_LAST_CMD = 0xD4 ∧ t.dev.rdB PM_LAST_WRITE = false ∧ t.dev.rd
    PM_LAST_RESULT = 0 ∧ s.changes t { s.dev with mg := { s.dev.mg with reply := s.dev.mfrCounts } } [PM_CNT_XFERS,
    PM_LAST_CMD, PM_LAST_WRITE, PM_LAST_RESULT]) ∧
  (∀ (s : State) (n : BitVec 32), s.awake → s.dev.pmAnswers = true → Completes (.mfrJzRecord n) s fun t => t.dev.rd
    PM_CNT_XFERS = satN 0xFFFF (s.dev.rd PM_CNT_XFERS + 1) ∧ t.dev.rd PM_LAST_CMD = 0xD6 ∧ t.dev.rdB PM_LAST_WRITE =
    false ∧ t.dev.rd PM_LAST_RESULT = 0 ∧ s.changes t
    { s.dev with mg := { s.dev.mg with reply := (s.dev.mfrRecord n.toNat) } } [PM_CNT_XFERS, PM_LAST_CMD, PM_LAST_WRITE,
    PM_LAST_RESULT]) ∧
  (∀ (s : State), s.awake → s.dev.pmAnswers = true → Completes .mfrJzImgStatus s fun t => t.dev.rd PM_CNT_XFERS = satN
    0xFFFF (s.dev.rd PM_CNT_XFERS + 1) ∧ t.dev.rd PM_LAST_CMD = 0xE2 ∧ t.dev.rdB PM_LAST_WRITE = false ∧ t.dev.rd
    PM_LAST_RESULT = 0 ∧ s.changes t { s.dev with mg := { s.dev.mg with reply := s.dev.imgStatus } } [PM_CNT_XFERS,
    PM_LAST_CMD, PM_LAST_WRITE, PM_LAST_RESULT]) ∧
  (∀ (s : State), s.awake → s.dev.pmAnswers = true → s.dev.rdB PM_STATUS_ALERT = true → s.dev.statusWord = s.dev.mg.word
    → Completes .alertResponse s fun t => t.dev.rdB PM_STATUS_ALERT = false ∧ s.changes t
    { s.dev with mg := { s.dev.mg with reply := [2 * s.dev.rd PM_STATUS_ADDR] } } [PM_STATUS_ALERT]) ∧
  (∀ (s : State), s.awake → s.dev.pmAnswers = true → s.dev.rdB PM_STATUS_ALERT = true → Completes .alertResponse s fun t
    => s.changes t { s.dev with mg := { s.dev.mg with reply := [2 * s.dev.rd PM_STATUS_ADDR] } } [PM_STATUS_ALERT]) ∧
  (∀ (s : State), s.awake → (s.dev.pmAnswers = false ∨ s.dev.rdB PM_STATUS_ALERT = false) → Completes .alertResponse s
    fun t => s.changes t s.dev []) ∧
  (∀ s : State, s.awake → s.dev.pmAnswers = false →     ∀ i ∈ [Instr.capability, .statusByte, .statusWord,
    .pmbusRevision, .mfrId, .mfrModel, .mfrRevision, .mfrSerial, .mfrJzCapRead,       .mfrJzStatus, .mfrJzFaults,
    .mfrJzTelem, .mfrJzCounts, .mfrJzImgStatus, .mfrJzImgAbort .good, .mfrJzShutdown .good,       .clearFaults .good],
    Completes i s fun t => s.changes t s.dev [])

/-- R412, R413, R414, R420, R421: A write with a good PEC, or with none where none is asked for, is counted and acts:
CLEAR_FAULTS clears STATUS_CML and the alert, STATUS_CML clears the bits written, a shutdown is asked for, an image
session opens, takes its chunk or ends. Data out of range sets bit 6 of STATUS_CML and has no effect but what it
reports. A bad PEC sets bit 5 and is counted; a code or transaction that is not allowed sets bit 7. The identity command
answers the serial number and what the identity key signs. Exec answers a next state with its own effect, for every
state and operands that meet the conditions of its clause: clearFaults, statusCml, mfrJzShutdown, mfrJzImgOpen,
mfrJzImgChunk, mfrJzImgAbort, mfrJzIdentity, mfrJzReturn, pmbusInvalidCommand. -/
def Obligations.PMBusWrites : Prop :=
  (∀ (s : State) (p : Pec), s.awake → s.dev.pmAnswers = true → (p = .good ∨ (p = .absent ∧ s.dev.rdB PM_CFG_PEC_REQ =
    false)) → Completes (.clearFaults p) s fun t => t.dev.rd PM_CNT_XFERS = satN 0xFFFF (s.dev.rd PM_CNT_XFERS + 1) ∧
    t.dev.rd PM_LAST_CMD = 0x03 ∧ t.dev.rdB PM_LAST_WRITE = true ∧ t.dev.rd PM_LAST_RESULT = 0 ∧ s.changes t
    { s.dev with mg := { s.dev.mg with reply := [], cml := 0 } } [PM_CNT_XFERS, PM_LAST_CMD, PM_LAST_WRITE,
    PM_LAST_RESULT]) ∧
  (∀ (s : State) (p : Pec), s.awake → s.dev.pmAnswers = true → (p = .good ∨ (p = .absent ∧ s.dev.rdB PM_CFG_PEC_REQ =
    false)) → s.dev.mg.cml = 0 → s.dev.statusWord = s.dev.mg.word → Completes (.clearFaults p) s fun t => t.dev.rd
    PM_CNT_XFERS = satN 0xFFFF (s.dev.rd PM_CNT_XFERS + 1) ∧ t.dev.rd PM_LAST_CMD = 0x03 ∧ t.dev.rdB PM_LAST_WRITE =
    true ∧ t.dev.rd PM_LAST_RESULT = 0 ∧ t.dev.rdB PM_STATUS_ALERT = false ∧ s.changes t
    { s.dev with mg := { s.dev.mg with reply := [], cml := 0 } } [PM_CNT_XFERS, PM_LAST_CMD, PM_LAST_WRITE,
    PM_LAST_RESULT]) ∧
  (∀ (s : State) (w : BitVec 8) (p : Pec), s.awake → s.dev.pmAnswers = true → (p = .good ∨ (p = .absent ∧ s.dev.rdB
    PM_CFG_PEC_REQ = false)) → Completes (.statusCml (some w) p) s fun t => t.dev.rd PM_CNT_XFERS = satN 0xFFFF
    (s.dev.rd PM_CNT_XFERS + 1) ∧ t.dev.rd PM_LAST_CMD = 0x7E ∧ t.dev.rdB PM_LAST_WRITE = true ∧ t.dev.rd PM_LAST_RESULT
    = 0 ∧ s.changes t { s.dev with mg := { s.dev.mg with reply := [], cml := s.dev.mg.cml &&& (255 - w.toNat) } }
    [PM_CNT_XFERS, PM_LAST_CMD, PM_LAST_WRITE, PM_LAST_RESULT]) ∧
  (∀ (s : State) (p : Pec), s.awake → s.dev.pmAnswers = true → (p = .good ∨ (p = .absent ∧ s.dev.rdB PM_CFG_PEC_REQ =
    false)) → Completes (.mfrJzShutdown p) s fun t => t.dev.rd PM_CNT_XFERS = satN 0xFFFF (s.dev.rd PM_CNT_XFERS + 1) ∧
    t.dev.rd PM_LAST_CMD = 0xD5 ∧ t.dev.rdB PM_LAST_WRITE = true ∧ t.dev.rd PM_LAST_RESULT = 0 ∧ t.dev.rdB
    EV_STATUS_SHUT_DONE = false ∧ s.changes t
    { s.dev with mg := { s.dev.mg with reply := [], cml := s.dev.mg.cml }, ev := { s.dev.ev with shutDue := true } }
    [PM_CNT_XFERS, PM_LAST_CMD, PM_LAST_WRITE, PM_LAST_RESULT, EV_STATUS_SHUT_DONE]) ∧
  (∀ (s : State) (n : BitVec 32) (p : Pec), s.awake → s.dev.pmAnswers = true → (p = .good ∨ (p = .absent ∧ s.dev.rdB
    PM_CFG_PEC_REQ = false)) → s.dev.nv.session = none → s.dev.gateOk 9 = true → 0 < n.toNat → n.toNat % 4 = 0 → n.toNat
    ≤ 0x800000 → Completes (.mfrJzImgOpen n p) s fun t => t.dev.rd PM_CNT_XFERS = satN 0xFFFF (s.dev.rd PM_CNT_XFERS +
    1) ∧ t.dev.rd PM_LAST_CMD = 0xE0 ∧ t.dev.rdB PM_LAST_WRITE = true ∧ t.dev.rd PM_LAST_RESULT = 0 ∧ t.dev.nv.session =
    some ⟨false, none, s.dev.inactive, n.toNat, 0, s.dev.time.nbRun, false⟩ ∧ t.dev.rd NV_XFER_RESULT = imOk ∧ (∀ a :
    Nat, slotBase s.dev.inactive ≤ a → a < slotBase s.dev.inactive + 0x800000 → t.dev.nvByte a = 0xFF) ∧ s.changes t
    { s.dev with mg := { s.dev.mg with reply := [], cml := s.dev.mg.cml }, nv := { s.dev.nv with flash := t.dev.nv.flash, session := t.dev.nv.session } }
    [PM_CNT_XFERS, PM_LAST_CMD, PM_LAST_WRITE, PM_LAST_RESULT, NV_SLOT_STATE_A, NV_SLOT_STATE_B, NV_SLOT_ACTIVE,
    NV_SLOT_ACTIVE_VALID, NV_SLOT_SECVER_A, NV_SLOT_SECVER_B, NV_XFER_STATE, NV_XFER_PATH, NV_XFER_RESULT,
    NV_XFER_LEN_LENGTH, NV_XFER_NEXT_NEXT]) ∧
  (∀ (s : State) (n : BitVec 32) (p : Pec), s.awake → s.dev.pmAnswers = true → (p = .good ∨ (p = .absent ∧ s.dev.rdB
    PM_CFG_PEC_REQ = false)) → (s.dev.nv.session.isSome = true ∨ s.dev.gateOk 9 = false) → Completes (.mfrJzImgOpen n p)
    s fun t => t.dev.rd PM_CNT_XFERS = satN 0xFFFF (s.dev.rd PM_CNT_XFERS + 1) ∧ t.dev.rd PM_LAST_CMD = 0xE0 ∧ t.dev.rdB
    PM_LAST_WRITE = true ∧ t.dev.rd PM_LAST_RESULT = 2 ∧ t.dev.rd NV_XFER_RESULT = imBusy ∧ s.changes t
    { s.dev with mg := { s.dev.mg with reply := [], cml := s.dev.mg.cml ||| 64 } } [PM_CNT_XFERS, PM_LAST_CMD,
    PM_LAST_WRITE, PM_LAST_RESULT, NV_XFER_RESULT]) ∧
  (∀ (s : State) (n : BitVec 32) (p : Pec), s.awake → s.dev.pmAnswers = true → (p = .good ∨ (p = .absent ∧ s.dev.rdB
    PM_CFG_PEC_REQ = false)) → s.dev.nv.session = none → s.dev.gateOk 9 = true → (n.toNat = 0 ∨ n.toNat % 4 ≠ 0 ∨
    0x800000 < n.toNat) → Completes (.mfrJzImgOpen n p) s fun t => t.dev.rd PM_CNT_XFERS = satN 0xFFFF (s.dev.rd
    PM_CNT_XFERS + 1) ∧ t.dev.rd PM_LAST_CMD = 0xE0 ∧ t.dev.rdB PM_LAST_WRITE = true ∧ t.dev.rd PM_LAST_RESULT = 2 ∧
    s.changes t { s.dev with mg := { s.dev.mg with reply := [], cml := s.dev.mg.cml ||| 64 } } [PM_CNT_XFERS,
    PM_LAST_CMD, PM_LAST_WRITE, PM_LAST_RESULT]) ∧
  (∀ (s : State) (o : BitVec 32) (m : List Byte) (x : Session) (p : Pec), s.awake → s.dev.pmAnswers = true → (p = .good
    ∨ (p = .absent ∧ s.dev.rdB PM_CFG_PEC_REQ = false)) → 1 ≤ m.length → m.length ≤ 240 → s.dev.nv.session = some x →
    x.peer = false → x.verifying = false → s.dev.gateOk 9 = true → o.toNat = x.next → o.toNat + m.length ≤ x.len → x.len
    ≤ 0x800000 → Completes (.mfrJzImgChunk o m false p) s fun t => t.dev.rd PM_CNT_XFERS = satN 0xFFFF (s.dev.rd
    PM_CNT_XFERS + 1) ∧ t.dev.rd PM_LAST_CMD = 0xE1 ∧ t.dev.rdB PM_LAST_WRITE = true ∧ t.dev.rd PM_LAST_RESULT = 0 ∧
    t.dev.nv.session = some
    { x with next := x.next + m.length, last := s.dev.time.nbRun, verifying := decide (x.next + m.length = x.len) } ∧
    t.dev.rd NV_XFER_RESULT = imOk ∧ (∀ j : Nat, j < m.length → t.dev.nvByte (slotBase x.slotB + o.toNat + j) =
    s.dev.nvByte (slotBase x.slotB + o.toNat + j) &&& m.getD j 0) ∧ (∀ a : Nat, (a < slotBase x.slotB + o.toNat ∨
    slotBase x.slotB + o.toNat + m.length ≤ a) → t.dev.nvByte a = s.dev.nvByte a) ∧ s.changes t
    { s.dev with mg := { s.dev.mg with reply := [], cml := s.dev.mg.cml }, nv := { s.dev.nv with flash := t.dev.nv.flash, session := t.dev.nv.session } }
    [PM_CNT_XFERS, PM_LAST_CMD, PM_LAST_WRITE, PM_LAST_RESULT, NV_XFER_STATE, NV_XFER_PATH, NV_XFER_RESULT,
    NV_XFER_LEN_LENGTH, NV_XFER_NEXT_NEXT]) ∧
  (∀ (s : State) (o : BitVec 32) (m : List Byte) (x : Session) (p : Pec), s.awake → s.dev.pmAnswers = true → (p = .good
    ∨ (p = .absent ∧ s.dev.rdB PM_CFG_PEC_REQ = false)) → 1 ≤ m.length → m.length ≤ 240 → s.dev.nv.session = some x →
    x.peer = false → x.verifying = false → s.dev.gateOk 9 = true → o.toNat ≠ x.next → Completes (.mfrJzImgChunk o m
    false p) s fun t => t.dev.rd PM_CNT_XFERS = satN 0xFFFF (s.dev.rd PM_CNT_XFERS + 1) ∧ t.dev.rd PM_LAST_CMD = 0xE1 ∧
    t.dev.rdB PM_LAST_WRITE = true ∧ t.dev.rd PM_LAST_RESULT = 2 ∧ t.dev.rd NV_XFER_RESULT = imOrder ∧ s.changes t
    { s.dev with mg := { s.dev.mg with reply := [], cml := s.dev.mg.cml ||| 64 } } [PM_CNT_XFERS, PM_LAST_CMD,
    PM_LAST_WRITE, PM_LAST_RESULT, NV_XFER_RESULT]) ∧
  (∀ (s : State) (o : BitVec 32) (m : List Byte) (b : Bool) (p : Pec), s.awake → s.dev.pmAnswers = true → (p = .good ∨
    (p = .absent ∧ s.dev.rdB PM_CFG_PEC_REQ = false)) → 1 ≤ m.length → m.length ≤ 240 → s.dev.pmSession = false →
    Completes (.mfrJzImgChunk o m b p) s fun t => t.dev.rd PM_CNT_XFERS = satN 0xFFFF (s.dev.rd PM_CNT_XFERS + 1) ∧
    t.dev.rd PM_LAST_CMD = 0xE1 ∧ t.dev.rdB PM_LAST_WRITE = true ∧ t.dev.rd PM_LAST_RESULT = 2 ∧ t.dev.rd NV_XFER_RESULT
    = imNoSession ∧ s.changes t { s.dev with mg := { s.dev.mg with reply := [], cml := s.dev.mg.cml ||| 64 } }
    [PM_CNT_XFERS, PM_LAST_CMD, PM_LAST_WRITE, PM_LAST_RESULT, NV_XFER_RESULT]) ∧
  (∀ (s : State) (o : BitVec 32) (m : List Byte) (p : Pec), s.awake → s.dev.pmAnswers = true → (p = .good ∨ (p = .absent
    ∧ s.dev.rdB PM_CFG_PEC_REQ = false)) → 1 ≤ m.length → m.length ≤ 240 → s.dev.pmSession = true → Completes
    (.mfrJzImgChunk o m true p) s fun t => t.dev.rd PM_CNT_XFERS = satN 0xFFFF (s.dev.rd PM_CNT_XFERS + 1) ∧ t.dev.rd
    PM_LAST_CMD = 0xE1 ∧ t.dev.rdB PM_LAST_WRITE = true ∧ t.dev.rd PM_LAST_RESULT = 2 ∧ t.dev.rd NV_XFER_RESULT = imBusy
    ∧ s.changes t { s.dev with mg := { s.dev.mg with reply := [], cml := s.dev.mg.cml ||| 2 ||| 64 } } [PM_CNT_XFERS,
    PM_LAST_CMD, PM_LAST_WRITE, PM_LAST_RESULT, NV_XFER_RESULT]) ∧
  (∀ (s : State) (o : BitVec 32) (m : List Byte) (b : Bool) (p : Pec), s.awake → s.dev.pmAnswers = true → (p = .good ∨
    (p = .absent ∧ s.dev.rdB PM_CFG_PEC_REQ = false)) → (m.length = 0 ∨ 240 < m.length) → Completes (.mfrJzImgChunk o m
    b p) s fun t => t.dev.rd PM_CNT_XFERS = satN 0xFFFF (s.dev.rd PM_CNT_XFERS + 1) ∧ t.dev.rd PM_LAST_CMD = 0xE1 ∧
    t.dev.rdB PM_LAST_WRITE = true ∧ t.dev.rd PM_LAST_RESULT = 2 ∧ s.changes t
    { s.dev with mg := { s.dev.mg with reply := [], cml := s.dev.mg.cml ||| 64 } } [PM_CNT_XFERS, PM_LAST_CMD,
    PM_LAST_WRITE, PM_LAST_RESULT]) ∧
  (∀ (s : State) (x : Session) (p : Pec), s.awake → s.dev.pmAnswers = true → (p = .good ∨ (p = .absent ∧ s.dev.rdB
    PM_CFG_PEC_REQ = false)) → s.dev.nv.session = some x → x.peer = false → Completes (.mfrJzImgAbort p) s fun t =>
    t.dev.rd PM_CNT_XFERS = satN 0xFFFF (s.dev.rd PM_CNT_XFERS + 1) ∧ t.dev.rd PM_LAST_CMD = 0xE3 ∧ t.dev.rdB
    PM_LAST_WRITE = true ∧ t.dev.rd PM_LAST_RESULT = 0 ∧ t.dev.rd NV_XFER_RESULT = imVerifyFail ∧ t.dev.rd NV_XFER_STATE
    = 0 ∧ t.dev.rd (if x.slotB then NV_SLOT_STATE_B else NV_SLOT_STATE_A) = slBad ∧ s.changes t
    { s.dev with mg := { s.dev.mg with reply := [], cml := s.dev.mg.cml }, nv := { s.dev.nv with flash := t.dev.nv.flash, session := none }, fc := { s.dev.fc with raised := s.dev.fc.raised ++ [{ s.dev.report .config 1 central 0 with addr := b01 x.slotB * 2 ^ 31, master := 5, access := 0 }] } }
    [PM_CNT_XFERS, PM_LAST_CMD, PM_LAST_WRITE, PM_LAST_RESULT, NV_SLOT_STATE_A, NV_SLOT_STATE_B, NV_SLOT_ACTIVE,
    NV_SLOT_ACTIVE_VALID, NV_SLOT_SECVER_A, NV_SLOT_SECVER_B, NV_XFER_STATE, NV_XFER_RESULT]) ∧
  (∀ (s : State) (p : Pec), s.awake → s.dev.pmAnswers = true → (p = .good ∨ (p = .absent ∧ s.dev.rdB PM_CFG_PEC_REQ =
    false)) → s.dev.pmSession = false → Completes (.mfrJzImgAbort p) s fun t => t.dev.rd PM_CNT_XFERS = satN 0xFFFF
    (s.dev.rd PM_CNT_XFERS + 1) ∧ t.dev.rd PM_LAST_CMD = 0xE3 ∧ t.dev.rdB PM_LAST_WRITE = true ∧ t.dev.rd PM_LAST_RESULT
    = 2 ∧ s.changes t { s.dev with mg := { s.dev.mg with reply := [], cml := s.dev.mg.cml ||| 64 } } [PM_CNT_XFERS,
    PM_LAST_CMD, PM_LAST_WRITE, PM_LAST_RESULT]) ∧
  (∀ (s : State) (c g : List Byte), s.awake → s.dev.pmAnswers = true → c.length = 32 → (s.dev.mg.lc = .test ∨
    s.dev.mg.lc = .field) → s.fuses.keySet = true → s.fuses.keyKilled = false → Completes (.mfrJzIdentity c g) s fun t
    => t.dev.rd PM_CNT_XFERS = satN 0xFFFF (s.dev.rd PM_CNT_XFERS + 1) ∧ t.dev.rd PM_LAST_CMD = 0xE8 ∧ t.dev.rdB
    PM_LAST_WRITE = false ∧ t.dev.rd PM_LAST_RESULT = 0 ∧ s.changes t
    { s.dev with mg := { s.dev.mg with reply := s.dev.serial ++ (nats g ++ List.replicate (96 - g.length) 0).take 96 } }
    [PM_CNT_XFERS, PM_LAST_CMD, PM_LAST_WRITE, PM_LAST_RESULT]) ∧
  (∀ (s : State) (c g : List Byte), s.awake → s.dev.pmAnswers = true → (c.length ≠ 32 ∨ s.dev.mg.lc = .blank ∨
    s.dev.mg.lc = .ret ∨ s.fuses.keySet = false ∨ s.fuses.keyKilled = true) → Completes (.mfrJzIdentity c g) s fun t =>
    t.dev.rd PM_CNT_XFERS = satN 0xFFFF (s.dev.rd PM_CNT_XFERS + 1) ∧ t.dev.rd PM_LAST_CMD = 0xE8 ∧ t.dev.rdB
    PM_LAST_WRITE = false ∧ t.dev.rd PM_LAST_RESULT = 2 ∧ s.changes t
    { s.dev with mg := { s.dev.mg with reply := [], cml := s.dev.mg.cml ||| 64 } } [PM_CNT_XFERS, PM_LAST_CMD,
    PM_LAST_WRITE, PM_LAST_RESULT]) ∧
  (∀ (s : State) (r : List Byte) (b : Bool) (p : Pec), s.awake → s.dev.pmAnswers = true → (p = .good ∨ (p = .absent ∧
    s.dev.rdB PM_CFG_PEC_REQ = false)) → (s.dev.mg.lc ≠ .field ∨ b = false ∨ nats r ≠ s.dev.serial) → Completes
    (.mfrJzReturn r b p) s fun t => t.dev.rd PM_CNT_XFERS = satN 0xFFFF (s.dev.rd PM_CNT_XFERS + 1) ∧ t.dev.rd
    PM_LAST_CMD = 0xE9 ∧ t.dev.rdB PM_LAST_WRITE = true ∧ t.dev.rd PM_LAST_RESULT = 2 ∧ s.changes t
    { s.dev with mg := { s.dev.mg with reply := [], cml := s.dev.mg.cml ||| 64 } } [PM_CNT_XFERS, PM_LAST_CMD,
    PM_LAST_WRITE, PM_LAST_RESULT]) ∧
  (∀ (s : State) (c : BitVec 8) (w : Bool), s.awake → s.dev.pmAnswers = true → Completes (.pmbusInvalidCommand c w 0) s
    fun t => t.dev.rd PM_CNT_XFERS = satN 0xFFFF (s.dev.rd PM_CNT_XFERS + 1) ∧ t.dev.rd PM_LAST_CMD = c.toNat ∧
    t.dev.rdB PM_LAST_WRITE = w ∧ t.dev.rd PM_LAST_RESULT = 1 ∧ s.changes t
    { s.dev with mg := { s.dev.mg with reply := [], cml := s.dev.mg.cml ||| 128 } } [PM_CNT_XFERS, PM_LAST_CMD,
    PM_LAST_WRITE, PM_LAST_RESULT]) ∧
  (∀ (s : State) (c : BitVec 8) (w : Bool), s.awake → s.dev.pmAnswers = true → Completes (.pmbusInvalidCommand c w 1) s
    fun t => t.dev.rd PM_CNT_XFERS = satN 0xFFFF (s.dev.rd PM_CNT_XFERS + 1) ∧ t.dev.rd PM_LAST_CMD = c.toNat ∧
    t.dev.rdB PM_LAST_WRITE = w ∧ t.dev.rd PM_LAST_RESULT = 2 ∧ s.changes t
    { s.dev with mg := { s.dev.mg with reply := [], cml := s.dev.mg.cml ||| 64 } } [PM_CNT_XFERS, PM_LAST_CMD,
    PM_LAST_WRITE, PM_LAST_RESULT]) ∧
  (∀ (s : State) (c : BitVec 8) (w : Bool), s.awake → s.dev.pmAnswers = true → Completes (.pmbusInvalidCommand c w 2) s
    fun t => t.dev.rd PM_CNT_XFERS = satN 0xFFFF (s.dev.rd PM_CNT_XFERS + 1) ∧ t.dev.rd PM_LAST_CMD = c.toNat ∧
    t.dev.rdB PM_LAST_WRITE = w ∧ t.dev.rd PM_LAST_RESULT = 3 ∧ t.dev.rd PM_CNT_PEC_ERR = satN 0xFFFF (s.dev.rd
    PM_CNT_PEC_ERR + 1) ∧ s.changes t { s.dev with mg := { s.dev.mg with reply := [], cml := s.dev.mg.cml ||| 32 } }
    [PM_CNT_XFERS, PM_LAST_CMD, PM_LAST_WRITE, PM_LAST_RESULT, PM_CNT_PEC_ERR]) ∧
  (∀ (s : State) (w : BitVec 8) (v : BitVec 15) (u : Bool) (n o : BitVec 32) (m r : List Byte), s.awake →
    s.dev.pmAnswers = true →     ∀ i ∈ [Instr.clearFaults .bad, .statusCml (some w) .bad, .mfrJzCapWrite v u .bad,
    .mfrJzShutdown .bad, .mfrJzImgOpen n .bad,       .mfrJzImgChunk o m u .bad, .mfrJzImgAbort .bad, .mfrJzReturn r u
    .bad],       Completes i s fun t => t.dev.rd PM_LAST_RESULT = 3 ∧ t.dev.rd PM_CNT_PEC_ERR = satN 0xFFFF (s.dev.rd
    PM_CNT_PEC_ERR + 1) ∧         s.changes t
    { s.dev with mg := { s.dev.mg with reply := [], cml := s.dev.mg.cml ||| 32 } }           [PM_CNT_XFERS, PM_LAST_CMD,
    PM_LAST_WRITE, PM_LAST_RESULT, PM_CNT_PEC_ERR])

/-- R419: A value within the limits becomes the tray's source, an URGENT one in force at the next bolt boundary in place
of any that the source had deferred; a value outside them sets invalid data in STATUS_CML and BU_STATUS.CAP_RANGE;
without PEC, while PEC_REQ is set, the write is refused. Exec answers a next state with its own effect, for every state
and operands that meet the conditions of its clause: mfrJzCapWrite. -/
def Obligations.CapThroughPMBus : Prop :=
  (∀ (s : State) (v : BitVec 15) (u : Bool) (p : Pec), s.awake → s.dev.pmAnswers = true → (p = .good ∨ (p = .absent ∧
    s.dev.rdB PM_CFG_PEC_REQ = false)) → s.dev.capRange v.toNat = true → Completes (.mfrJzCapWrite v u p) s fun t =>
    t.dev.rd PM_CNT_XFERS = satN 0xFFFF (s.dev.rd PM_CNT_XFERS + 1) ∧ t.dev.rd PM_LAST_CMD = 0xD0 ∧ t.dev.rdB
    PM_LAST_WRITE = true ∧ t.dev.rd PM_LAST_RESULT = 0 ∧ t.dev.rd BU_CAP_SRC_TRAY = v.toNat ∧ (t.dev.bud.tray =
    s.dev.bud.tray.take s.dev.bud.rack v.toNat u (s.dev.openWins.map fun x => (x.2.job, x.2.group)) (orDef (s.dev.rd
    BU_COLL_CFG_GRACE) 1) (min s.dev.bud.tray.val s.dev.bud.rack.val)) ∧ (u = true → t.dev.bud.tray.next = some
    (v.toNat, true) ∧ t.dev.bud.tray.defer = none) ∧ s.changes t
    { s.dev with mg := { s.dev.mg with reply := [], cml := s.dev.mg.cml }, bud := { s.dev.bud with tray := t.dev.bud.tray } }
    [PM_CNT_XFERS, PM_LAST_CMD, PM_LAST_WRITE, PM_LAST_RESULT, BU_CAP_SRC_TRAY]) ∧
  (∀ (s : State) (v : BitVec 15) (u : Bool) (p : Pec), s.awake → s.dev.pmAnswers = true → (p = .good ∨ (p = .absent ∧
    s.dev.rdB PM_CFG_PEC_REQ = false)) → s.dev.capRange v.toNat = false → Completes (.mfrJzCapWrite v u p) s fun t =>
    t.dev.rd PM_CNT_XFERS = satN 0xFFFF (s.dev.rd PM_CNT_XFERS + 1) ∧ t.dev.rd PM_LAST_CMD = 0xD0 ∧ t.dev.rdB
    PM_LAST_WRITE = true ∧ t.dev.rd PM_LAST_RESULT = 2 ∧ t.dev.rdB BU_STATUS_CAP_RANGE = true ∧ s.changes t
    { s.dev with mg := { s.dev.mg with reply := [], cml := s.dev.mg.cml ||| 64 } } [PM_CNT_XFERS, PM_LAST_CMD,
    PM_LAST_WRITE, PM_LAST_RESULT, BU_STATUS_CAP_RANGE]) ∧
  (∀ (s : State) (v : BitVec 15) (u : Bool), s.awake → s.dev.pmAnswers = true → s.dev.rdB PM_CFG_PEC_REQ = true →
    Completes (.mfrJzCapWrite v u .absent) s fun t => t.dev.rd PM_CNT_XFERS = satN 0xFFFF (s.dev.rd PM_CNT_XFERS + 1) ∧
    t.dev.rd PM_LAST_CMD = 0xD0 ∧ t.dev.rdB PM_LAST_WRITE = true ∧ t.dev.rd PM_LAST_RESULT = 3 ∧ s.changes t
    { s.dev with mg := { s.dev.mg with reply := [], cml := s.dev.mg.cml ||| 32 } } [PM_CNT_XFERS, PM_LAST_CMD,
    PM_LAST_WRITE, PM_LAST_RESULT])

/-- R425, R427, R428, R429, R432: An instruction allowed in the present life cycle is loaded and acts: EXTEST and
SAMPLE/PRELOAD capture the pins in the boundary register and take the cells shifted in, IDCODE gives its constant, MBUS
selects the bus register, FUSE sets the fuses given, IDKEY sets the identity key once and stores its public half. One
that is not allowed loads BYPASS, changes no fuse and is reported as TAP_REFUSED; a code without an instruction acts as
BYPASS. A trace armed for a pick at least two picks ahead is ARMED with no entries; for an earlier one the write is a
conflict. It starts at the armed pick, or at the first boundary after it. A stop ends a trace that runs or is armed at
the next boundary. Exec answers a next state with its own effect, for every state and operands that meet the conditions
of its clause: tapReset, idcode, extest, samplePreload, mbus, fuse, idkey, bypass, traceArm, traceStop, traceStart. -/
def Obligations.TestPortAndTrace : Prop :=
  (∀ (s : State), Completes .tapReset s fun t => t.dev.rdB BT_STATUS_TAP = false ∧ s.changes t
    { s.dev with mg := { s.dev.mg with ir := 1, extest := false } } [BT_STATUS_TAP]) ∧
  (∀ (s : State), Completes .idcode s fun t => t.dev.rdB BT_STATUS_TAP = false ∧ s.changes t
    { s.dev with mg := { s.dev.mg with ir := 1, extest := false, dr := 0x14A60963 } } [BT_STATUS_TAP]) ∧
  (∀ (s : State) (x y : BitVec 27), s.awake → s.dev.mg.lc ≠ .field → Completes (.extest x y) s fun t => t.dev.rdB
    BT_STATUS_TAP = false ∧ t.dev.mg.ir = 0 ∧ t.dev.mg.extest = true ∧ t.dev.mg.bsr = y.toNat ∧ bitOf t.dev.mg.dr 0 =
    true ∧ bitOf t.dev.mg.dr 2 = s.dev.pins.coolOk ∧ bitOf t.dev.mg.dr 6 = (bitOf s.dev.mg.bsr 6 && !s.dev.rdB
    JZ_SEL_STATUS_TRIP_PIN) ∧ bitOf t.dev.mg.dr 1 = bitOf x.toNat 1 ∧ s.changes t
    { s.dev with mg := { s.dev.mg with ir := 0, extest := true, bsr := y.toNat, dr := t.dev.mg.dr } } [BT_STATUS_TAP]) ∧
  (∀ (s : State) (x y : BitVec 27), s.awake → s.dev.mg.lc = .field → Completes (.extest x y) s fun t => s.changes t
    { s.dev with mg := { s.dev.mg with ir := 255, extest := false }, fc := { s.dev.fc with raised := s.dev.fc.raised ++ [{ s.dev.report .secure 2 central 0 with addr := 0, master := 1 }] } }
    [BT_STATUS_TAP]) ∧
  (∀ (s : State) (x y : BitVec 27), s.dev.pins.resetN = false → Completes (.extest x y) s fun t => t.dev.mg.ir = 0 ∧
    t.dev.mg.extest = true ∧ t.dev.mg.bsr = y.toNat ∧ bitOf t.dev.mg.dr 0 = false ∧ s.changes t
    { s.dev with mg := { s.dev.mg with ir := 0, extest := true, bsr := y.toNat, dr := t.dev.mg.dr } } [BT_STATUS_TAP]) ∧
  (∀ (s : State) (x y : BitVec 27), s.dev.mg.extest = false → Completes (.samplePreload x y) s fun t => t.dev.rdB
    BT_STATUS_TAP = false ∧ t.dev.mg.bsr = y.toNat ∧ bitOf t.dev.mg.dr 0 = s.dev.pins.resetN ∧ bitOf t.dev.mg.dr 2 =
    s.dev.pins.coolOk ∧ bitOf t.dev.mg.dr 6 = !s.dev.rdB JZ_SEL_STATUS_TRIP_PIN ∧ bitOf t.dev.mg.dr 1 = bitOf x.toNat 1
    ∧ s.changes t { s.dev with mg := { s.dev.mg with ir := 2, extest := false, bsr := y.toNat, dr := t.dev.mg.dr } }
    [BT_STATUS_TAP]) ∧
  (∀ (s : State) (a v : BitVec 32) (q : BitVec 12), s.awake → (s.dev.mg.lc = .blank ∨ s.dev.mg.lc = .ret) → 0x10000000 ≤
    a.toNat → a.toNat + 4 ≤ 0x10080000 → a.toNat % 4 = 0 → Completes (.mbus true a v q) s fun t => t.dev.memWord
    (a.toNat - 0x10000000) = v ∧ t.dev.mg.dr = 2 * 2 ^ 64 + a.toNat * 2 ^ 32 + v.toNat ∧ t.dev.rdB BT_STATUS_TAP = true
    ∧ s.changes t
    { s.dev with mg := { s.dev.mg with ir := 0x10, extest := false, dr := t.dev.mg.dr }, sram := t.dev.sram, busData := v }
    [BT_STATUS_TAP]) ∧
  (∀ (s : State) (a v : BitVec 32) (q : BitVec 12), s.awake → (s.dev.mg.lc = .blank ∨ s.dev.mg.lc = .ret) → 0x10000000 ≤
    a.toNat → a.toNat + 4 ≤ 0x10080000 → a.toNat % 4 = 0 → Completes (.mbus false a v q) s fun t => t.dev.busData =
    s.dev.memWord (a.toNat - 0x10000000) ∧ t.dev.mg.dr = 2 ^ 64 + a.toNat * 2 ^ 32 + t.dev.busData.toNat ∧ t.dev.rdB
    BT_STATUS_TAP = true ∧ s.changes t
    { s.dev with mg := { s.dev.mg with ir := 0x10, extest := false, dr := t.dev.mg.dr }, busData := t.dev.busData }
    [BT_STATUS_TAP]) ∧
  (∀ (s : State) (a v : BitVec 32) (q : BitVec 12) (b : Bool), s.awake → s.dev.mg.lc = .field → Completes (.mbus b a v
    q) s fun t => t.dev.rdB BT_STATUS_TAP = false ∧ s.changes t
    { s.dev with mg := { s.dev.mg with ir := 255, extest := false }, fc := { s.dev.fc with raised := s.dev.fc.raised ++ [{ s.dev.report .secure 2 central 0 with addr := 0x10, master := 1 }] } }
    [BT_STATUS_TAP]) ∧
  (∀ (s : State) (a v : BitVec 32) (q : BitVec 12) (b : Bool), s.awake → s.dev.mg.lc = .test → (a.toNat < 0x20070000 ∨
    0x20080000 ≤ a.toNat) → Completes (.mbus b a v q) s fun t => t.dev.rdB BT_STATUS_TAP = true ∧ t.dev.mg.dr = (if b
    then 2 else 1) * 2 ^ 64 + a.toNat * 2 ^ 32 ∧ s.changes t
    { s.dev with mg := { s.dev.mg with ir := 0x10, extest := false, dr := t.dev.mg.dr }, busData := 0, fc := { s.dev.fc with raised := s.dev.fc.raised ++ [{ s.dev.report .bus 1 central 0 with addr := a.toNat, master := 1, access := b01 b }] } }
    [BT_STATUS_TAP]) ∧
  (∀ (s : State) (r : Option (BitVec 384)) (c : Bool) (n : BitVec 7), s.awake → s.dev.mg.lc = .test → Completes (.fuse r
    c n) s fun t => t.dev.rdB BT_STATUS_TAP = false ∧ (t.fuses =
    { s.fuses with rootSet := s.fuses.rootSet || r.isSome, rootHash := if s.fuses.rootSet then s.fuses.rootHash else (r.elim 0 fun h => h.toNat), calibrated := s.fuses.calibrated || c, secver := max s.fuses.secver (min 64 n.toNat) })
    ∧ State.changes { s with fuses := t.fuses } t { s.dev with mg := { s.dev.mg with ir := 0x11, extest := false } }
    [BT_STATUS_TAP]) ∧
  (∀ (s : State) (r : Option (BitVec 384)) (c : Bool) (n : BitVec 7), s.awake → s.dev.mg.lc ≠ .test → Completes (.fuse r
    c n) s fun t => s.changes t
    { s.dev with mg := { s.dev.mg with ir := 255, extest := false }, fc := { s.dev.fc with raised := s.dev.fc.raised ++ [{ s.dev.report .secure 2 central 0 with addr := 0x11, master := 1 }] } }
    [BT_STATUS_TAP]) ∧
  (∀ (s : State) (b : List Byte), s.awake → s.dev.mg.lc = .test → s.fuses.keySet = false → b.length ≤ 96 → Completes
    (.idkey b) s fun t => t.fuses = { s.fuses with keySet := true } ∧ (∀ j : Nat, j < b.length → t.dev.nvByte (0x10008 +
    j) = s.dev.nvByte (0x10008 + j) &&& b.getD j 0) ∧ (∀ a : Nat, (a < 0x10008 ∨ 0x10008 + b.length ≤ a) → t.dev.nvByte
    a = s.dev.nvByte a) ∧ State.changes { s with fuses := t.fuses } t
    { s.dev with mg := { s.dev.mg with ir := 0x12, extest := false }, nv := { s.dev.nv with flash := t.dev.nv.flash } }
    [BT_STATUS_TAP]) ∧
  (∀ (s : State) (b : List Byte), s.awake → s.dev.mg.lc = .test → s.fuses.keySet = true → Completes (.idkey b) s fun t
    => s.changes t { s.dev with mg := { s.dev.mg with ir := 0x12, extest := false } } [BT_STATUS_TAP]) ∧
  (∀ (s : State) (b : List Byte), s.awake → s.dev.mg.lc ≠ .test → Completes (.idkey b) s fun t => s.changes t
    { s.dev with mg := { s.dev.mg with ir := 255, extest := false }, fc := { s.dev.fc with raised := s.dev.fc.raised ++ [{ s.dev.report .secure 2 central 0 with addr := 0x12, master := 1 }] } }
    [BT_STATUS_TAP]) ∧
  (∀ (s : State), Completes (.bypass 0xFF) s fun t => t.dev.rdB BT_STATUS_TAP = false ∧ s.changes t
    { s.dev with mg := { s.dev.mg with ir := 255, extest := false } } [BT_STATUS_TAP]) ∧
  (∀ (s : State) (c : BitVec 8), tapAllows c.toNat s.dev.mg.lc s.dev.pins.resetN = none → Completes (.bypass c) s fun t
    => t.dev.rdB BT_STATUS_TAP = false ∧ s.changes t { s.dev with mg := { s.dev.mg with ir := 255, extest := false } }
    [BT_STATUS_TAP]) ∧
  (∀ (s : State) (c : BitVec 8), s.awake → tapAllows c.toNat s.dev.mg.lc s.dev.pins.resetN = some false → Completes
    (.bypass c) s fun t => t.dev.rdB BT_STATUS_TAP = false ∧ s.changes t
    { s.dev with mg := { s.dev.mg with ir := 255, extest := false }, fc := { s.dev.fc with raised := s.dev.fc.raised ++ [{ s.dev.report .secure 2 central 0 with addr := c.toNat, master := 1 }] } }
    [BT_STATUS_TAP]) ∧
  (∀ (s : State), s.awake → s.dev.time.count + 2 ≤ s.dev.mg.traceSet → Completes .traceArm s fun t => t.dev.rdB
    DB_STATUS_ARMED = true ∧ t.dev.rdB DB_STATUS_RUN = false ∧ t.dev.rdB DB_STATUS_DONE = false ∧ t.dev.rd
    DB_STATUS_NEXT = 0 ∧ s.changes t
    { s.dev with mg := { s.dev.mg with traceAt := s.dev.mg.traceSet, traceStop := false } } [DB_STATUS_ARMED,
    DB_STATUS_RUN, DB_STATUS_DONE, DB_STATUS_NEXT]) ∧
  (∀ (s : State), s.awake → s.dev.mg.traceSet < s.dev.time.count + 2 → Completes .traceArm s fun t => t.dev.rdB
    DB_STATUS_STATE_CONFLICT = true ∧ s.changes t s.dev [DB_STATUS_STATE_CONFLICT]) ∧
  (∀ (s : State), s.awake → Completes .traceStop s fun t => s.changes t
    { s.dev with mg := { s.dev.mg with traceStop := s.dev.rdB DB_STATUS_RUN || s.dev.rdB DB_STATUS_ARMED } } []) ∧
  (∀ (s : State), s.awake → s.dev.rdB DB_STATUS_ARMED = true → s.dev.mg.traceAt ≤ s.dev.time.count → Completes
    .traceStart s fun t => t.dev.rdB DB_STATUS_ARMED = false ∧ t.dev.rdB DB_STATUS_RUN = true ∧ t.dev.rd DB_STATUS_NEXT
    = 0 ∧ s.changes t s.dev [DB_STATUS_ARMED, DB_STATUS_RUN, DB_STATUS_NEXT]) ∧
  (∀ (s : State), s.awake → (s.dev.rdB DB_STATUS_ARMED = false ∨ s.dev.time.count < s.dev.mg.traceAt) → Completes
    .traceStart s fun t => s.changes t s.dev [])

/-- R326, R333, R422, R427: In no step of the machine does the life cycle move back, a root key hash that is fused
change, the identity key, its kill fuse or the calibration unburn, SECVER fall or the site or revision change; and a
device whose life cycle is FIELD only with the root key, the identity key and the calibration fused, and RETURN only
with the identity key killed, stays so. -/
def Obligations.FusesOnlyBurn : Prop :=
  ∀ s t : State, step s = .next t →
    s.fuses.lc.rank ≤ t.fuses.lc.rank ∧
    (s.fuses.rootSet = true → t.fuses.rootSet = true ∧ t.fuses.rootHash = s.fuses.rootHash) ∧
    (s.fuses.keySet = true → t.fuses.keySet = true) ∧ (s.fuses.keyKilled = true → t.fuses.keyKilled = true) ∧
    (s.fuses.calibrated = true → t.fuses.calibrated = true) ∧ s.fuses.secver ≤ t.fuses.secver ∧
    t.fuses.site = s.fuses.site ∧ t.fuses.rev = s.fuses.rev ∧ (s.fuses.sound → t.fuses.sound)

/-- R333, R422, R427: A command that changes a fuse is FUSE, IDKEY or LC_ADV in a life cycle that allows it,
MFR_JZ_RETURN in FIELD, or the READY commit in FIELD, which changes SECVER alone; no other command changes any. -/
def Obligations.FuseCommands : Prop :=
  ∀ (i : Instr) (s t : State), exec i s = .next t → t.fuses ≠ s.fuses →
    (∃ r c n, i = .fuse r c n ∧ s.dev.mg.lc = .test ∧ t.fuses.lc = s.fuses.lc) ∨
    (∃ b, i = .idkey b ∧ s.dev.mg.lc = .test ∧ t.fuses = { s.fuses with keySet := true }) ∨
    (i = .lcAdv ∧ (s.dev.mg.lc = .blank ∨ s.dev.mg.lc = .test) ∧ t.fuses = { s.fuses with lc := t.fuses.lc }) ∨
    (∃ r b p, i = .mfrJzReturn r b p ∧ s.dev.mg.lc = .field ∧ nats r = s.dev.serial ∧ t.fuses.lc = .ret) ∨
    (i = .ready ∧ s.dev.mg.lc = .field ∧ t.fuses = { s.fuses with secver := t.fuses.secver })

/-- R422: LC_ADV blows the TEST fuse in BLANK and, with the root key hash, the identity key and the calibration fused,
the FIELD fuse in TEST; with any of them missing it is refused. In FIELD a return with a valid token blows the RETURN
fuse and kills the identity key at once, and a TAP instruction that FIELD does not allow loads BYPASS and is reported.
No step moves the life cycle back, and one in RETURN stays; a new state applies from the next fall of RESET_N, and
JZ_STATUS.LC and MFR_JZ_STATUS show the one that applies. Exec answers a next state with its own effect, for every state
and operands that meet the conditions of its clause: lcAdv, mfrJzReturn, resetNAssert, pairLowRead, mfrJzStatus. -/
def Obligations.LifeCycleMoves : Prop :=
  (∀ (s : State), s.awake → s.dev.mg.lc = .blank → s.fuses.lc = .blank → Completes .lcAdv s fun t => t.fuses =
    { s.fuses with lc := .test } ∧ State.changes { s with fuses := t.fuses } t
    { s.dev with mg := { s.dev.mg with ir := 0x13, extest := false } } [BT_STATUS_TAP]) ∧
  (∀ (s : State), s.awake → s.dev.mg.lc = .test → s.fuses.lc = .test → s.fuses.rootSet = true → s.fuses.keySet = true →
    s.fuses.calibrated = true → Completes .lcAdv s fun t => t.fuses = { s.fuses with lc := .field } ∧ State.changes
    { s with fuses := t.fuses } t { s.dev with mg := { s.dev.mg with ir := 0x13, extest := false } } [BT_STATUS_TAP]) ∧
  (∀ (s : State), s.awake → (s.dev.mg.lc = .field ∨ s.dev.mg.lc = .ret ∨ (s.dev.mg.lc = .test ∧ (s.fuses.rootSet = false
    ∨ s.fuses.keySet = false ∨ s.fuses.calibrated = false))) → Completes .lcAdv s fun t => s.changes t
    { s.dev with mg := { s.dev.mg with ir := 255, extest := false }, fc := { s.dev.fc with raised := s.dev.fc.raised ++ [{ s.dev.report .secure 2 central 0 with addr := 0x13, master := 1 }] } }
    [BT_STATUS_TAP]) ∧
  (∀ (s : State) (r : List Byte) (p : Pec), s.awake → s.dev.pmAnswers = true → (p = .good ∨ (p = .absent ∧ s.dev.rdB
    PM_CFG_PEC_REQ = false)) → s.dev.mg.lc = .field → nats r = s.dev.serial → Completes (.mfrJzReturn r true p) s fun t
    => t.dev.rd PM_CNT_XFERS = satN 0xFFFF (s.dev.rd PM_CNT_XFERS + 1) ∧ t.dev.rd PM_LAST_CMD = 0xE9 ∧ t.dev.rdB
    PM_LAST_WRITE = true ∧ t.dev.rd PM_LAST_RESULT = 0 ∧ t.fuses = { s.fuses with lc := .ret, keyKilled := true } ∧
    State.changes { s with fuses := t.fuses } t { s.dev with mg := { s.dev.mg with reply := [] } } [PM_CNT_XFERS,
    PM_LAST_CMD, PM_LAST_WRITE, PM_LAST_RESULT]) ∧
  (∀ s : State, s.awake → s.dev.mg.lc = .field → ∀ (x y : BitVec 27) (r : Option (BitVec 384)) (b : Bool) (n : BitVec 7)
    (l : List Byte) (a v : BitVec 32) (q : BitVec 12), ∀ z ∈ [(Instr.extest x y, 0), (.mbus b a v q, 0x10), (.fuse r b
    n, 0x11), (.idkey l, 0x12), (.lcAdv, 0x13)],       Completes z.1 s fun t => s.changes t
    { s.dev with mg := { s.dev.mg with ir := 255, extest := false }, fc := { s.dev.fc with raised := s.dev.fc.raised ++ [{ s.dev.report .secure 2 central 0 with addr := z.2, master := 1 }] } }
    [BT_STATUS_TAP]) ∧
  (∀ s t : State, step s = .next t → s.fuses.lc.rank ≤ t.fuses.lc.rank ∧ (s.fuses.lc = .ret → t.fuses.lc = .ret)) ∧
  (∀ (s : State), s.awake → Completes .resetNAssert s fun t => t.dev.mg.lc = s.fuses.lc ∧ t.fuses = s.fuses) ∧
  (∀ (s : State) (a : BitVec 32) (q : BitVec 12), s.awake → a.toNat = 0x20000004 → Completes (.pairLowRead 8 a q) s fun
    t => t.dev.busData.toNat / 4 % 4 = s.dev.mg.lc.code ∧ s.changes t { s.dev with busData := t.dev.busData } []) ∧
  (∀ (s : State), s.awake → s.dev.pmAnswers = true → Completes .mfrJzStatus s fun t => t.dev.mg.reply.getD 2 0 % 4 =
    s.dev.mg.lc.code)

/-- R333: In FIELD the READY of a start raises the count of security versions, at most 64, to the SECVER of the booted
image where that is greater; in another life cycle it leaves the count. An image of a lower SECVER that passes the other
checks fails check 6 in FIELD, one of no lower SECVER passes. No step lowers the count, nor raises it beyond 64. Exec
answers a next state with its own effect, for every state and operands that meet the conditions of its clause: ready. -/
def Obligations.SecurityVersions : Prop :=
  (∀ (s : State), s.awake → s.dev.mayReady = true → s.dev.start.step = 8 → s.dev.mg.lc = .field → Completes .ready s fun
    t => t.fuses =
    { s.fuses with secver := max s.fuses.secver (min 64 (s.dev.nvNum (slotBase (s.dev.rdB NV_SLOT_BOOTED) + 12) 4)) }) ∧
  (∀ (s : State), s.awake → s.dev.mg.lc ≠ .field → Completes .ready s fun t => t.fuses = s.fuses) ∧
  (∀ (d : Dev) (fz : Fuses) (b : Bool) (n : Nat) (o : SigObs), d.imgFails fz b n o false = none → fz.rootSet = true →
    o.hash.toNat = fz.rootHash → o.sig = true → d.mg.lc = .field →     d.imgFails fz b n o true = if d.nvNum (slotBase b
    + 12) 4 < fz.secver then some 6 else none) ∧
  (∀ s t : State, step s = .next t → s.fuses.secver ≤ t.fuses.secver ∧ (s.fuses.secver ≤ 64 → t.fuses.secver ≤ 64))

/-- R383: Sixteen bins of two bytes begin the payload: bin i of an hour whose TOTAL no bin exceeds holds ⌊count × 65,535
/ TOTAL⌋, at least 1 where its count is not 0; with TOTAL 0 every bin is 0. -/
def Obligations.HistogramBins : Prop :=
  ∀ (h : Hist) (i : Fin 16), (∀ j : Fin 16, h.bins.getD j 0 ≤ h.total) →
    (h.total = 0 → bytesAt (histPayload h) (2 * i) 2 = 0) ∧
    (h.total ≠ 0 → h.bins.getD i 0 * 65535 / h.total ≠ 0 →
      bytesAt (histPayload h) (2 * i) 2 = h.bins.getD i 0 * 65535 / h.total) ∧
    (h.bins.getD i 0 ≠ 0 → h.bins.getD i 0 * 65535 / h.total = 0 → bytesAt (histPayload h) (2 * i) 2 = 1) ∧
    (h.bins.getD i 0 = 0 → bytesAt (histPayload h) (2 * i) 2 = 0)
end

