-- ==== Sys2Proof/Laws/Tab.lean ====
section
/-! SUPPORT. Laws of the sparse tables: what a read gives after a write, and that a write keeps the canonical form; the same
for the bytes of the SRAM. The read laws hold of every table; only the canonical form asks for rising keys. -/

namespace Sys2Proof.Machine

/-- Removing a key's entry leaves it at the unlisted value. -/
theorem tget_tdel_same {α : Type} (dv : α) (k : Nat) (t : Tab α) : tget dv (tdel k t) k = dv := by
  induction t with
  | nil => rfl
  | cons x t ih =>
    by_cases h : x.1 = k
    · simpa [tdel, h] using ih
    · have : tdel k (x :: t) = x :: tdel k t := by simp [tdel, h]
      rw [this]; simp [tget, h, ih]

/-- Removing a key's entry changes no other key. -/
theorem tget_tdel_ne {α : Type} (dv : α) {k a : Nat} (h : a ≠ k) (t : Tab α) : tget dv (tdel k t) a = tget dv t a := by
  induction t with
  | nil => rfl
  | cons x t ih =>
    by_cases hx : x.1 = k
    · have : tdel k (x :: t) = tdel k t := by simp [tdel, hx]
      rw [this, ih]; have : x.1 ≠ a := by omega
      simp [tget, this]
    · have : tdel k (x :: t) = x :: tdel k t := by simp [tdel, hx]
      rw [this]; simp [tget, ih]

/-- A new entry is read at its key, where no other entry has that key. -/
theorem tget_tins_same {α : Type} (dv : α) (k : Nat) (v : α) (t : Tab α) (h : ∀ x ∈ t, x.1 ≠ k) :
    tget dv (tins k v t) k = v := by
  induction t with
  | nil => simp [tins, tget]
  | cons x t ih =>
    have hx : x.1 ≠ k := h x (by simp)
    by_cases hk : k < x.1
    · simp [tins, hk, tget]
    · simp [tins, hk, tget, hx, ih fun y hy => h y (by simp [hy])]

/-- A new entry changes no other key. -/
theorem tget_tins_ne {α : Type} (dv : α) {k a : Nat} (v : α) (h : a ≠ k) (t : Tab α) :
    tget dv (tins k v t) a = tget dv t a := by
  induction t with
  | nil => simp [tins, tget, Ne.symm h]
  | cons x t ih =>
    by_cases hk : k < x.1
    · simp [tins, hk, tget, Ne.symm h]
    · simp [tins, hk, tget, ih]

/-- No entry of a removed key is left. -/
theorem mem_tdel {α : Type} {k : Nat} {t : Tab α} {x : Nat × α} (h : x ∈ tdel k t) : x.1 ≠ k := by
  simpa using (List.mem_filter.mp h).2

/-- A write is read back. -/
@[simp] theorem tget_tput_same {α : Type} [DecidableEq α] (dv : α) (k : Nat) (v : α) (t : Tab α) :
    tget dv (tput dv k v t) k = v := by
  unfold tput
  split
  · rename_i h; rw [tget_tdel_same, h]
  · exact tget_tins_same dv k v _ fun x hx => mem_tdel hx

/-- A write changes no other key, whatever that key's unlisted value is. -/
theorem tget_tput_ne {α : Type} [DecidableEq α] (dv dv' : α) {k a : Nat} (v : α) (h : a ≠ k) (t : Tab α) :
    tget dv (tput dv' k v t) a = tget dv t a := by
  unfold tput
  split
  · exact tget_tdel_ne dv h t
  · rw [tget_tins_ne dv v h, tget_tdel_ne dv h]

/-- A changed entry reads as changed. -/
@[simp] theorem tget_tupd_same {α : Type} [DecidableEq α] (dv : α) (k : Nat) (g : α → α) (t : Tab α) :
    tget dv (tupd dv k g t) k = g (tget dv t k) := by simp [tupd]

/-- A change of one entry leaves the others. -/
theorem tget_tupd_ne {α : Type} [DecidableEq α] (dv dv' : α) {k a : Nat} (g : α → α) (h : a ≠ k) (t : Tab α) :
    tget dv (tupd dv' k g t) a = tget dv t a := tget_tput_ne dv dv' _ h t

/-! The canonical form. -/

theorem Tab.wf_mono {α : Type} [DecidableEq α] (dv : Nat → α) {lo lo' : Nat} (h : lo' ≤ lo) {t : Tab α}
    (w : Tab.wf dv lo t = true) : Tab.wf dv lo' t = true := by
  cases t with
  | nil => rfl
  | cons x t => simp [Tab.wf] at w ⊢; exact ⟨⟨by omega, w.1.2⟩, w.2⟩

theorem wf_tdel {α : Type} [DecidableEq α] (dv : Nat → α) (k : Nat) {lo : Nat} {t : Tab α}
    (w : Tab.wf dv lo t = true) : Tab.wf dv lo (tdel k t) = true := by
  induction t generalizing lo with
  | nil => rfl
  | cons x t ih =>
    simp [Tab.wf] at w
    by_cases h : x.1 = k
    · have : tdel k (x :: t) = tdel k t := by simp [tdel, h]
      rw [this]; exact Tab.wf_mono dv (by omega) (ih w.2)
    · have : tdel k (x :: t) = x :: tdel k t := by simp [tdel, h]
      rw [this]; simp [Tab.wf]; exact ⟨w.1, ih w.2⟩

theorem wf_tins {α : Type} [DecidableEq α] (dv : Nat → α) {k : Nat} {v : α} (hv : v ≠ dv k) {lo : Nat} (hlo : lo ≤ k)
    {t : Tab α} (hk : ∀ x ∈ t, x.1 ≠ k) (w : Tab.wf dv lo t = true) : Tab.wf dv lo (tins k v t) = true := by
  induction t generalizing lo with
  | nil => simp [tins, Tab.wf, hv, hlo]
  | cons x t ih =>
    simp [Tab.wf] at w
    by_cases h : k < x.1
    · simp [tins, h, Tab.wf, hv, hlo, w] <;> omega
    · have hne : x.1 ≠ k := hk x (by simp)
      simp [tins, h, Tab.wf, w.1]
      exact ih (by omega) (fun y hy => hk y (by simp [hy])) w.2

/-- A write of a table at the unlisted value of its key keeps the canonical form. -/
theorem wf_tput {α : Type} [DecidableEq α] (dv : Nat → α) {k : Nat} (v : α) {lo : Nat} (hlo : lo ≤ k) {t : Tab α}
    (w : Tab.wf dv lo t = true) : Tab.wf dv lo (tput (dv k) k v t) = true := by
  unfold tput
  split
  · exact wf_tdel dv k w
  · rename_i h
    exact wf_tins dv h hlo (fun x hx => mem_tdel hx) (wf_tdel dv k w)

/-! The SRAM: reads after writes, and the canonical form. -/

/-- A byte written is read back. -/
@[simp] theorem byte_putByte_same (off : Nat) (b : Byte) (d : Dev) : (putByte off b d).byte off = b := by
  simp [Dev.byte, putByte]

/-- A byte written changes no other byte. -/
theorem byte_putByte_ne {off a : Nat} (b : Byte) (d : Dev) (h : a ≠ off) : (putByte off b d).byte a = d.byte a := by
  simp [Dev.byte, putByte, tget_tput_ne _ _ _ h]

/-- A run of bytes written changes no byte outside it. -/
theorem byte_putBytes_out (off : Nat) (bs : List Nat) (d : Dev) {a : Nat} (h : a < off ∨ off + bs.length ≤ a) :
    (putBytes off bs d).byte a = d.byte a := by
  induction bs generalizing off d with
  | nil => rfl
  | cons b bs ih =>
    simp only [List.length_cons] at h
    rw [putBytes, ih (off + 1) _ (by omega), byte_putByte_ne _ _ (by omega)]

/-- A byte of a run written reads as that element of the run. -/
theorem byte_putBytes_in (off : Nat) (bs : List Nat) (d : Dev) {i : Nat} (h : i < bs.length) :
    (putBytes off bs d).byte (off + i) = BitVec.ofNat 8 (bs.getD i 0) := by
  induction bs generalizing off d i with
  | nil => simp at h
  | cons b bs ih =>
    cases i with
    | zero => rw [putBytes, byte_putBytes_out _ _ _ (by omega)]; simp
    | succ i =>
      have := ih (off + 1) (putByte off (BitVec.ofNat 8 b) d) (i := i) (by simpa using h)
      simpa [putBytes, Nat.add_assoc, Nat.add_comm 1] using this

/-- A word written changes no byte outside it. -/
theorem byte_putWord_out (off : Nat) (w : Word) (d : Dev) {a : Nat} (h : a < off ∨ off + 4 ≤ a) :
    (putWord off w d).byte a = d.byte a := byte_putBytes_out off _ d (by simpa [leBytes] using h)

/-- Every write of the SRAM keeps its canonical form. -/
theorem putByte_wf (off : Nat) (b : Byte) (d : Dev) (w : Memory.wf d.sram = true) : Memory.wf (putByte off b d).sram = true :=
  wf_tput (fun _ => (0 : Byte)) b (Nat.zero_le off) w

theorem putBytes_wf (off : Nat) (bs : List Nat) (d : Dev) (w : Memory.wf d.sram = true) :
    Memory.wf (putBytes off bs d).sram = true := by
  induction bs generalizing off d with
  | nil => exact w
  | cons b bs ih => exact ih (off + 1) _ (putByte_wf off _ d w)

theorem putWord_wf (off : Nat) (w : Word) (d : Dev) (h : Memory.wf d.sram = true) : Memory.wf (putWord off w d).sram = true :=
  putBytes_wf off _ d h

end Sys2Proof.Machine
end

