-- ==== Sys2Proof/Laws/Regs.lean ====
section
/-! SUPPORT. Laws of the registers: what a field reads after a write of that field, of another field of its register, of
another register; and that a write of a register changes nothing else of the state. -/

namespace Sys2Proof.Machine

/-- The bits of a part of a number. -/
theorem testBit_bitsOf (n lo w i : Nat) : (bitsOf n lo w).testBit i = (decide (i < w) && n.testBit (lo + i)) := by
  simp [bitsOf, Nat.testBit_mod_two_pow, Nat.testBit_div_two_pow, Nat.add_comm]

/-- A part of a number is below the power of its width. -/
theorem bitsOf_lt (n lo w : Nat) : bitsOf n lo w < 2 ^ w := Nat.mod_lt _ (Nat.two_pow_pos w)

/-- The number that a word with a replaced field spells, before it is cut to 32 bits. -/
theorem testBit_fldNum (n lo w v i : Nat) :
    (n / 2 ^ (lo + w) * 2 ^ (lo + w) + v % 2 ^ w * 2 ^ lo + n % 2 ^ lo).testBit i
      = if lo ≤ i ∧ i < lo + w then v.testBit (i - lo) else n.testBit i := by
  have e : n / 2 ^ (lo + w) * 2 ^ (lo + w) + v % 2 ^ w * 2 ^ lo + n % 2 ^ lo
      = 2 ^ lo * (2 ^ w * (n / 2 ^ (lo + w)) + v % 2 ^ w) + n % 2 ^ lo := by
    rw [Nat.pow_add, Nat.mul_add]; simp only [Nat.mul_assoc, Nat.mul_comm]
  rw [e, Nat.testBit_two_pow_mul_add _ (Nat.mod_lt _ (Nat.two_pow_pos lo)),
    Nat.testBit_two_pow_mul_add _ (Nat.mod_lt _ (Nat.two_pow_pos w))]
  by_cases h1 : i < lo
  · have : ¬ (lo ≤ i ∧ i < lo + w) := by omega
    simp [h1, this, Nat.testBit_mod_two_pow]
  · by_cases h2 : i - lo < w
    · have : lo ≤ i ∧ i < lo + w := by omega
      simp [h1, h2, this, Nat.testBit_mod_two_pow]
    · have : ¬ (lo ≤ i ∧ i < lo + w) := by omega
      simp only [h1, h2, this, if_false, Nat.testBit_div_two_pow]
      congr 1; omega

/-- The bits of a word with a replaced field. -/
theorem testBit_fldSet (fl : Fld) (v : Nat) (x : Word) (i : Nat) (hi : i < 32) :
    (fldSet fl v x).toNat.testBit i
      = if fl.lo ≤ i ∧ i < fl.lo + fl.w then v.testBit (i - fl.lo) else x.toNat.testBit i := by
  rw [fldSet, BitVec.toNat_ofNat, Nat.testBit_mod_two_pow, testBit_fldNum]
  simp [hi]

/-- A field written is read back, cut to its width. -/
theorem fldGet_fldSet_same (fl : Fld) (v : Nat) (x : Word) (h : fl.lo + fl.w ≤ 32) :
    fldGet fl (fldSet fl v x) = v % 2 ^ fl.w := by
  apply Nat.eq_of_testBit_eq; intro i
  rw [fldGet, testBit_bitsOf, Nat.testBit_mod_two_pow]
  by_cases hi : i < fl.w
  · rw [testBit_fldSet _ _ _ _ (by omega)]
    have : fl.lo ≤ fl.lo + i ∧ fl.lo + i < fl.lo + fl.w := by omega
    simp [hi]
  · simp [hi]

/-- A field written changes no field of the register that shares no bit with it. -/
theorem fldGet_fldSet_ne (fl fl' : Fld) (v : Nat) (x : Word) (h : fl'.lo + fl'.w ≤ fl.lo ∨ fl.lo + fl.w ≤ fl'.lo) :
    fldGet fl' (fldSet fl v x) = fldGet fl' x := by
  apply Nat.eq_of_testBit_eq; intro i
  rw [fldGet, fldGet, testBit_bitsOf, testBit_bitsOf]
  by_cases hi : i < fl'.w
  · by_cases h32 : fl'.lo + i < 32
    · rw [testBit_fldSet _ _ _ _ h32]
      have : ¬ (fl.lo ≤ fl'.lo + i ∧ fl'.lo + i < fl.lo + fl.w) := by omega
      simp [this]
    · have e : ∀ y : Word, y.toNat.testBit (fl'.lo + i) = false := fun y =>
        Nat.testBit_lt_two_pow (Nat.lt_of_lt_of_le y.isLt (Nat.pow_le_pow_right (by omega) (by omega)))
      simp [e]
  · simp [hi]

/-! Whole registers. -/

/-- A register written reads as written. -/
@[simp] theorem reg_setReg_same (a : Nat) (v : Word) (d : Dev) : (d.setReg a v).reg a = v := by
  simp [Dev.reg, Dev.setReg]

/-- A register written changes no other register. -/
theorem reg_setReg_ne {a b : Nat} (v : Word) (d : Dev) (h : b ≠ a) : (d.setReg a v).reg b = d.reg b := by
  simp [Dev.reg, Dev.setReg, tget_tput_ne _ _ _ h]

/-! Fields. -/

/-- A field written is read back, cut to its width. -/
theorem rd_wr_same (fl : Fld) (v : Nat) (d : Dev) (h : fl.lo + fl.w ≤ 32) : (d.wr fl v).rd fl = v % 2 ^ fl.w := by
  simp [Dev.rd, Dev.wr, fldGet_fldSet_same _ _ _ h]

/-- A field written changes no other field: of another register, or of other bits. -/
theorem rd_wr_ne (fl fl' : Fld) (v : Nat) (d : Dev)
    (h : fl'.addr ≠ fl.addr ∨ fl'.lo + fl'.w ≤ fl.lo ∨ fl.lo + fl.w ≤ fl'.lo) : (d.wr fl v).rd fl' = d.rd fl' := by
  by_cases ha : fl'.addr = fl.addr
  · have hb : fl'.lo + fl'.w ≤ fl.lo ∨ fl.lo + fl.w ≤ fl'.lo := by
      rcases h with h | h
      · exact absurd ha h
      · exact h
    simp [Dev.rd, Dev.wr, ha, fldGet_fldSet_ne _ _ _ _ hb]
  · simp [Dev.rd, Dev.wr, reg_setReg_ne _ _ ha]

/-- A field written changes no other register. -/
theorem reg_wr_ne (fl : Fld) (v : Nat) (d : Dev) {a : Nat} (h : a ≠ fl.addr) : (d.wr fl v).reg a = d.reg a :=
  reg_setReg_ne _ _ h

/-- A one-bit field written is read back. -/
theorem rdB_wrB_same (fl : Fld) (b : Bool) (d : Dev) (hw : fl.w = 1) (h : fl.lo + fl.w ≤ 32) : (d.wrB fl b).rdB fl = b := by
  simp only [Dev.rdB, Dev.wrB, rd_wr_same _ _ _ h, hw]
  cases b <;> simp [b01]

/-- A one-bit field written leaves the fields it shares no bit with. -/
theorem rd_wrB_ne (fl fl' : Fld) (b : Bool) (d : Dev)
    (h : fl'.addr ≠ fl.addr ∨ fl'.lo + fl'.w ≤ fl.lo ∨ fl.lo + fl.w ≤ fl'.lo) : (d.wrB fl b).rd fl' = d.rd fl' :=
  rd_wr_ne fl fl' _ d h

/-- A counter that counts goes up by one, and stays at its highest value. -/
theorem rd_inc_same (fl : Fld) (d : Dev) (h : fl.lo + fl.w ≤ 32) : (d.inc fl).rd fl = satN (2 ^ fl.w - 1) (d.rd fl + 1) := by
  rw [Dev.inc, Dev.add, rd_wr_same _ _ _ h]
  apply Nat.mod_eq_of_lt
  have := Nat.two_pow_pos fl.w
  unfold satN; split <;> omega

/-- The same, with the counter's highest value written out. -/
theorem rd_inc_max (fl : Fld) (d : Dev) {m : Nat} (h : fl.lo + fl.w ≤ 32) (hm : 2 ^ fl.w - 1 = m) :
    (d.inc fl).rd fl = satN m (d.rd fl + 1) := by rw [rd_inc_same fl d h, hm]

/-- A counter that counts leaves the fields it shares no bit with. -/
theorem rd_inc_ne (fl fl' : Fld) (d : Dev)
    (h : fl'.addr ≠ fl.addr ∨ fl'.lo + fl'.w ≤ fl.lo ∨ fl.lo + fl.w ≤ fl'.lo) : (d.inc fl).rd fl' = d.rd fl' :=
  rd_wr_ne fl fl' _ d h

end Sys2Proof.Machine
end

