-- ==== Sys2Proof/Laws/State.lean ====
section
/-! SUPPORT. What each named update of the state leaves alone: one lemma per update and per part of the state that it does
not touch, true by rfl, so that no later proof unfolds a record update. -/

namespace Sys2Proof.Machine

variable (d : Dev)


/-! setReg: changes regs alone. -/

@[simp] theorem Dev.setReg_sram (a : Nat) (v : Word) : (d.setReg a v).sram = d.sram := rfl
@[simp] theorem Dev.setReg_shadow (a : Nat) (v : Word) : (d.setReg a v).shadow = d.shadow := rfl
@[simp] theorem Dev.setReg_busData (a : Nat) (v : Word) : (d.setReg a v).busData = d.busData := rfl
@[simp] theorem Dev.setReg_pins (a : Nat) (v : Word) : (d.setReg a v).pins = d.pins := rfl
@[simp] theorem Dev.setReg_time (a : Nat) (v : Word) : (d.setReg a v).time = d.time := rfl
@[simp] theorem Dev.setReg_pat (a : Nat) (v : Word) : (d.setReg a v).pat = d.pat := rfl
@[simp] theorem Dev.setReg_dom (a : Nat) (v : Word) : (d.setReg a v).dom = d.dom := rfl
@[simp] theorem Dev.setReg_fld (a : Nat) (v : Word) : (d.setReg a v).fld = d.fld := rfl
@[simp] theorem Dev.setReg_cls (a : Nat) (v : Word) : (d.setReg a v).cls = d.cls := rfl
@[simp] theorem Dev.setReg_tile (a : Nat) (v : Word) : (d.setReg a v).tile = d.tile := rfl
@[simp] theorem Dev.setReg_inst (a : Nat) (v : Word) : (d.setReg a v).inst = d.inst := rfl
@[simp] theorem Dev.setReg_bud (a : Nat) (v : Word) : (d.setReg a v).bud = d.bud := rfl
@[simp] theorem Dev.setReg_led (a : Nat) (v : Word) : (d.setReg a v).led = d.led := rfl
@[simp] theorem Dev.setReg_rp (a : Nat) (v : Word) : (d.setReg a v).rp = d.rp := rfl
@[simp] theorem Dev.setReg_fc (a : Nat) (v : Word) : (d.setReg a v).fc = d.fc := rfl
@[simp] theorem Dev.setReg_pp (a : Nat) (v : Word) : (d.setReg a v).pp = d.pp := rfl
@[simp] theorem Dev.setReg_clk (a : Nat) (v : Word) : (d.setReg a v).clk = d.clk := rfl
@[simp] theorem Dev.setReg_start (a : Nat) (v : Word) : (d.setReg a v).start = d.start := rfl
@[simp] theorem Dev.setReg_nv (a : Nat) (v : Word) : (d.setReg a v).nv = d.nv := rfl
@[simp] theorem Dev.setReg_test (a : Nat) (v : Word) : (d.setReg a v).test = d.test := rfl
@[simp] theorem Dev.setReg_ev (a : Nat) (v : Word) : (d.setReg a v).ev = d.ev := rfl
@[simp] theorem Dev.setReg_mg (a : Nat) (v : Word) : (d.setReg a v).mg = d.mg := rfl
@[simp] theorem Dev.setReg_sel (a : Nat) (v : Word) : (d.setReg a v).sel = d.sel := rfl
@[simp] theorem Dev.setReg_chan (a : Nat) (v : Word) : (d.setReg a v).chan = d.chan := rfl
@[simp] theorem Dev.setReg_opt (a : Nat) (v : Word) : (d.setReg a v).opt = d.opt := rfl
@[simp] theorem Dev.setReg_out (a : Nat) (v : Word) : (d.setReg a v).out = d.out := rfl
@[simp] theorem Dev.setReg_hostFull (a : Nat) (v : Word) : (d.setReg a v).hostFull = d.hostFull := rfl
@[simp] theorem Dev.setReg_fresh (a : Nat) (v : Word) : (d.setReg a v).fresh = d.fresh := rfl
@[simp] theorem Dev.setReg_pt (a : Nat) (v : Word) (i j : Nat) : (d.setReg a v).pt i j = d.pt i j := rfl
@[simp] theorem Dev.setReg_dm (a : Nat) (v : Word) (i j : Nat) : (d.setReg a v).dm i j = d.dm i j := rfl
@[simp] theorem Dev.setReg_fd (a : Nat) (v : Word) (i : Nat) : (d.setReg a v).fd i = d.fd i := rfl
@[simp] theorem Dev.setReg_cl (a : Nat) (v : Word) (i j : Nat) : (d.setReg a v).cl i j = d.cl i j := rfl
@[simp] theorem Dev.setReg_ti (a : Nat) (v : Word) (i j l : Nat) : (d.setReg a v).ti i j l = d.ti i j l := rfl
@[simp] theorem Dev.setReg_ent (a : Nat) (v : Word) (i : Nat) : (d.setReg a v).ent i = d.ent i := rfl
@[simp] theorem Dev.setReg_recd (a : Nat) (v : Word) (i : Nat) : (d.setReg a v).recd i = d.recd i := rfl
@[simp] theorem Dev.setReg_job (a : Nat) (v : Word) (i : Nat) : (d.setReg a v).job i = d.job i := rfl

/-! wr: changes regs alone. -/

@[simp] theorem Dev.wr_sram (fl : Fld) (v : Nat) : (d.wr fl v).sram = d.sram := rfl
@[simp] theorem Dev.wr_shadow (fl : Fld) (v : Nat) : (d.wr fl v).shadow = d.shadow := rfl
@[simp] theorem Dev.wr_busData (fl : Fld) (v : Nat) : (d.wr fl v).busData = d.busData := rfl
@[simp] theorem Dev.wr_pins (fl : Fld) (v : Nat) : (d.wr fl v).pins = d.pins := rfl
@[simp] theorem Dev.wr_time (fl : Fld) (v : Nat) : (d.wr fl v).time = d.time := rfl
@[simp] theorem Dev.wr_pat (fl : Fld) (v : Nat) : (d.wr fl v).pat = d.pat := rfl
@[simp] theorem Dev.wr_dom (fl : Fld) (v : Nat) : (d.wr fl v).dom = d.dom := rfl
@[simp] theorem Dev.wr_fld (fl : Fld) (v : Nat) : (d.wr fl v).fld = d.fld := rfl
@[simp] theorem Dev.wr_cls (fl : Fld) (v : Nat) : (d.wr fl v).cls = d.cls := rfl
@[simp] theorem Dev.wr_tile (fl : Fld) (v : Nat) : (d.wr fl v).tile = d.tile := rfl
@[simp] theorem Dev.wr_inst (fl : Fld) (v : Nat) : (d.wr fl v).inst = d.inst := rfl
@[simp] theorem Dev.wr_bud (fl : Fld) (v : Nat) : (d.wr fl v).bud = d.bud := rfl
@[simp] theorem Dev.wr_led (fl : Fld) (v : Nat) : (d.wr fl v).led = d.led := rfl
@[simp] theorem Dev.wr_rp (fl : Fld) (v : Nat) : (d.wr fl v).rp = d.rp := rfl
@[simp] theorem Dev.wr_fc (fl : Fld) (v : Nat) : (d.wr fl v).fc = d.fc := rfl
@[simp] theorem Dev.wr_pp (fl : Fld) (v : Nat) : (d.wr fl v).pp = d.pp := rfl
@[simp] theorem Dev.wr_clk (fl : Fld) (v : Nat) : (d.wr fl v).clk = d.clk := rfl
@[simp] theorem Dev.wr_start (fl : Fld) (v : Nat) : (d.wr fl v).start = d.start := rfl
@[simp] theorem Dev.wr_nv (fl : Fld) (v : Nat) : (d.wr fl v).nv = d.nv := rfl
@[simp] theorem Dev.wr_test (fl : Fld) (v : Nat) : (d.wr fl v).test = d.test := rfl
@[simp] theorem Dev.wr_ev (fl : Fld) (v : Nat) : (d.wr fl v).ev = d.ev := rfl
@[simp] theorem Dev.wr_mg (fl : Fld) (v : Nat) : (d.wr fl v).mg = d.mg := rfl
@[simp] theorem Dev.wr_sel (fl : Fld) (v : Nat) : (d.wr fl v).sel = d.sel := rfl
@[simp] theorem Dev.wr_chan (fl : Fld) (v : Nat) : (d.wr fl v).chan = d.chan := rfl
@[simp] theorem Dev.wr_opt (fl : Fld) (v : Nat) : (d.wr fl v).opt = d.opt := rfl
@[simp] theorem Dev.wr_out (fl : Fld) (v : Nat) : (d.wr fl v).out = d.out := rfl
@[simp] theorem Dev.wr_hostFull (fl : Fld) (v : Nat) : (d.wr fl v).hostFull = d.hostFull := rfl
@[simp] theorem Dev.wr_fresh (fl : Fld) (v : Nat) : (d.wr fl v).fresh = d.fresh := rfl
@[simp] theorem Dev.wr_pt (fl : Fld) (v : Nat) (i j : Nat) : (d.wr fl v).pt i j = d.pt i j := rfl
@[simp] theorem Dev.wr_dm (fl : Fld) (v : Nat) (i j : Nat) : (d.wr fl v).dm i j = d.dm i j := rfl
@[simp] theorem Dev.wr_fd (fl : Fld) (v : Nat) (i : Nat) : (d.wr fl v).fd i = d.fd i := rfl
@[simp] theorem Dev.wr_cl (fl : Fld) (v : Nat) (i j : Nat) : (d.wr fl v).cl i j = d.cl i j := rfl
@[simp] theorem Dev.wr_ti (fl : Fld) (v : Nat) (i j l : Nat) : (d.wr fl v).ti i j l = d.ti i j l := rfl
@[simp] theorem Dev.wr_ent (fl : Fld) (v : Nat) (i : Nat) : (d.wr fl v).ent i = d.ent i := rfl
@[simp] theorem Dev.wr_recd (fl : Fld) (v : Nat) (i : Nat) : (d.wr fl v).recd i = d.recd i := rfl
@[simp] theorem Dev.wr_job (fl : Fld) (v : Nat) (i : Nat) : (d.wr fl v).job i = d.job i := rfl

/-! wrB: changes regs alone. -/

@[simp] theorem Dev.wrB_sram (fl : Fld) (b : Bool) : (d.wrB fl b).sram = d.sram := rfl
@[simp] theorem Dev.wrB_shadow (fl : Fld) (b : Bool) : (d.wrB fl b).shadow = d.shadow := rfl
@[simp] theorem Dev.wrB_busData (fl : Fld) (b : Bool) : (d.wrB fl b).busData = d.busData := rfl
@[simp] theorem Dev.wrB_pins (fl : Fld) (b : Bool) : (d.wrB fl b).pins = d.pins := rfl
@[simp] theorem Dev.wrB_time (fl : Fld) (b : Bool) : (d.wrB fl b).time = d.time := rfl
@[simp] theorem Dev.wrB_pat (fl : Fld) (b : Bool) : (d.wrB fl b).pat = d.pat := rfl
@[simp] theorem Dev.wrB_dom (fl : Fld) (b : Bool) : (d.wrB fl b).dom = d.dom := rfl
@[simp] theorem Dev.wrB_fld (fl : Fld) (b : Bool) : (d.wrB fl b).fld = d.fld := rfl
@[simp] theorem Dev.wrB_cls (fl : Fld) (b : Bool) : (d.wrB fl b).cls = d.cls := rfl
@[simp] theorem Dev.wrB_tile (fl : Fld) (b : Bool) : (d.wrB fl b).tile = d.tile := rfl
@[simp] theorem Dev.wrB_inst (fl : Fld) (b : Bool) : (d.wrB fl b).inst = d.inst := rfl
@[simp] theorem Dev.wrB_bud (fl : Fld) (b : Bool) : (d.wrB fl b).bud = d.bud := rfl
@[simp] theorem Dev.wrB_led (fl : Fld) (b : Bool) : (d.wrB fl b).led = d.led := rfl
@[simp] theorem Dev.wrB_rp (fl : Fld) (b : Bool) : (d.wrB fl b).rp = d.rp := rfl
@[simp] theorem Dev.wrB_fc (fl : Fld) (b : Bool) : (d.wrB fl b).fc = d.fc := rfl
@[simp] theorem Dev.wrB_pp (fl : Fld) (b : Bool) : (d.wrB fl b).pp = d.pp := rfl
@[simp] theorem Dev.wrB_clk (fl : Fld) (b : Bool) : (d.wrB fl b).clk = d.clk := rfl
@[simp] theorem Dev.wrB_start (fl : Fld) (b : Bool) : (d.wrB fl b).start = d.start := rfl
@[simp] theorem Dev.wrB_nv (fl : Fld) (b : Bool) : (d.wrB fl b).nv = d.nv := rfl
@[simp] theorem Dev.wrB_test (fl : Fld) (b : Bool) : (d.wrB fl b).test = d.test := rfl
@[simp] theorem Dev.wrB_ev (fl : Fld) (b : Bool) : (d.wrB fl b).ev = d.ev := rfl
@[simp] theorem Dev.wrB_mg (fl : Fld) (b : Bool) : (d.wrB fl b).mg = d.mg := rfl
@[simp] theorem Dev.wrB_sel (fl : Fld) (b : Bool) : (d.wrB fl b).sel = d.sel := rfl
@[simp] theorem Dev.wrB_chan (fl : Fld) (b : Bool) : (d.wrB fl b).chan = d.chan := rfl
@[simp] theorem Dev.wrB_opt (fl : Fld) (b : Bool) : (d.wrB fl b).opt = d.opt := rfl
@[simp] theorem Dev.wrB_out (fl : Fld) (b : Bool) : (d.wrB fl b).out = d.out := rfl
@[simp] theorem Dev.wrB_hostFull (fl : Fld) (b : Bool) : (d.wrB fl b).hostFull = d.hostFull := rfl
@[simp] theorem Dev.wrB_fresh (fl : Fld) (b : Bool) : (d.wrB fl b).fresh = d.fresh := rfl
@[simp] theorem Dev.wrB_pt (fl : Fld) (b : Bool) (i j : Nat) : (d.wrB fl b).pt i j = d.pt i j := rfl
@[simp] theorem Dev.wrB_dm (fl : Fld) (b : Bool) (i j : Nat) : (d.wrB fl b).dm i j = d.dm i j := rfl
@[simp] theorem Dev.wrB_fd (fl : Fld) (b : Bool) (i : Nat) : (d.wrB fl b).fd i = d.fd i := rfl
@[simp] theorem Dev.wrB_cl (fl : Fld) (b : Bool) (i j : Nat) : (d.wrB fl b).cl i j = d.cl i j := rfl
@[simp] theorem Dev.wrB_ti (fl : Fld) (b : Bool) (i j l : Nat) : (d.wrB fl b).ti i j l = d.ti i j l := rfl
@[simp] theorem Dev.wrB_ent (fl : Fld) (b : Bool) (i : Nat) : (d.wrB fl b).ent i = d.ent i := rfl
@[simp] theorem Dev.wrB_recd (fl : Fld) (b : Bool) (i : Nat) : (d.wrB fl b).recd i = d.recd i := rfl
@[simp] theorem Dev.wrB_job (fl : Fld) (b : Bool) (i : Nat) : (d.wrB fl b).job i = d.job i := rfl

/-! wrS: changes regs alone. -/

@[simp] theorem Dev.wrS_sram (fl : Fld) (z : Int) : (d.wrS fl z).sram = d.sram := rfl
@[simp] theorem Dev.wrS_shadow (fl : Fld) (z : Int) : (d.wrS fl z).shadow = d.shadow := rfl
@[simp] theorem Dev.wrS_busData (fl : Fld) (z : Int) : (d.wrS fl z).busData = d.busData := rfl
@[simp] theorem Dev.wrS_pins (fl : Fld) (z : Int) : (d.wrS fl z).pins = d.pins := rfl
@[simp] theorem Dev.wrS_time (fl : Fld) (z : Int) : (d.wrS fl z).time = d.time := rfl
@[simp] theorem Dev.wrS_pat (fl : Fld) (z : Int) : (d.wrS fl z).pat = d.pat := rfl
@[simp] theorem Dev.wrS_dom (fl : Fld) (z : Int) : (d.wrS fl z).dom = d.dom := rfl
@[simp] theorem Dev.wrS_fld (fl : Fld) (z : Int) : (d.wrS fl z).fld = d.fld := rfl
@[simp] theorem Dev.wrS_cls (fl : Fld) (z : Int) : (d.wrS fl z).cls = d.cls := rfl
@[simp] theorem Dev.wrS_tile (fl : Fld) (z : Int) : (d.wrS fl z).tile = d.tile := rfl
@[simp] theorem Dev.wrS_inst (fl : Fld) (z : Int) : (d.wrS fl z).inst = d.inst := rfl
@[simp] theorem Dev.wrS_bud (fl : Fld) (z : Int) : (d.wrS fl z).bud = d.bud := rfl
@[simp] theorem Dev.wrS_led (fl : Fld) (z : Int) : (d.wrS fl z).led = d.led := rfl
@[simp] theorem Dev.wrS_rp (fl : Fld) (z : Int) : (d.wrS fl z).rp = d.rp := rfl
@[simp] theorem Dev.wrS_fc (fl : Fld) (z : Int) : (d.wrS fl z).fc = d.fc := rfl
@[simp] theorem Dev.wrS_pp (fl : Fld) (z : Int) : (d.wrS fl z).pp = d.pp := rfl
@[simp] theorem Dev.wrS_clk (fl : Fld) (z : Int) : (d.wrS fl z).clk = d.clk := rfl
@[simp] theorem Dev.wrS_start (fl : Fld) (z : Int) : (d.wrS fl z).start = d.start := rfl
@[simp] theorem Dev.wrS_nv (fl : Fld) (z : Int) : (d.wrS fl z).nv = d.nv := rfl
@[simp] theorem Dev.wrS_test (fl : Fld) (z : Int) : (d.wrS fl z).test = d.test := rfl
@[simp] theorem Dev.wrS_ev (fl : Fld) (z : Int) : (d.wrS fl z).ev = d.ev := rfl
@[simp] theorem Dev.wrS_mg (fl : Fld) (z : Int) : (d.wrS fl z).mg = d.mg := rfl
@[simp] theorem Dev.wrS_sel (fl : Fld) (z : Int) : (d.wrS fl z).sel = d.sel := rfl
@[simp] theorem Dev.wrS_chan (fl : Fld) (z : Int) : (d.wrS fl z).chan = d.chan := rfl
@[simp] theorem Dev.wrS_opt (fl : Fld) (z : Int) : (d.wrS fl z).opt = d.opt := rfl
@[simp] theorem Dev.wrS_out (fl : Fld) (z : Int) : (d.wrS fl z).out = d.out := rfl
@[simp] theorem Dev.wrS_hostFull (fl : Fld) (z : Int) : (d.wrS fl z).hostFull = d.hostFull := rfl
@[simp] theorem Dev.wrS_fresh (fl : Fld) (z : Int) : (d.wrS fl z).fresh = d.fresh := rfl
@[simp] theorem Dev.wrS_pt (fl : Fld) (z : Int) (i j : Nat) : (d.wrS fl z).pt i j = d.pt i j := rfl
@[simp] theorem Dev.wrS_dm (fl : Fld) (z : Int) (i j : Nat) : (d.wrS fl z).dm i j = d.dm i j := rfl
@[simp] theorem Dev.wrS_fd (fl : Fld) (z : Int) (i : Nat) : (d.wrS fl z).fd i = d.fd i := rfl
@[simp] theorem Dev.wrS_cl (fl : Fld) (z : Int) (i j : Nat) : (d.wrS fl z).cl i j = d.cl i j := rfl
@[simp] theorem Dev.wrS_ti (fl : Fld) (z : Int) (i j l : Nat) : (d.wrS fl z).ti i j l = d.ti i j l := rfl
@[simp] theorem Dev.wrS_ent (fl : Fld) (z : Int) (i : Nat) : (d.wrS fl z).ent i = d.ent i := rfl
@[simp] theorem Dev.wrS_recd (fl : Fld) (z : Int) (i : Nat) : (d.wrS fl z).recd i = d.recd i := rfl
@[simp] theorem Dev.wrS_job (fl : Fld) (z : Int) (i : Nat) : (d.wrS fl z).job i = d.job i := rfl

/-! add: changes regs alone. -/

@[simp] theorem Dev.add_sram (fl : Fld) (n : Nat) : (d.add fl n).sram = d.sram := rfl
@[simp] theorem Dev.add_shadow (fl : Fld) (n : Nat) : (d.add fl n).shadow = d.shadow := rfl
@[simp] theorem Dev.add_busData (fl : Fld) (n : Nat) : (d.add fl n).busData = d.busData := rfl
@[simp] theorem Dev.add_pins (fl : Fld) (n : Nat) : (d.add fl n).pins = d.pins := rfl
@[simp] theorem Dev.add_time (fl : Fld) (n : Nat) : (d.add fl n).time = d.time := rfl
@[simp] theorem Dev.add_pat (fl : Fld) (n : Nat) : (d.add fl n).pat = d.pat := rfl
@[simp] theorem Dev.add_dom (fl : Fld) (n : Nat) : (d.add fl n).dom = d.dom := rfl
@[simp] theorem Dev.add_fld (fl : Fld) (n : Nat) : (d.add fl n).fld = d.fld := rfl
@[simp] theorem Dev.add_cls (fl : Fld) (n : Nat) : (d.add fl n).cls = d.cls := rfl
@[simp] theorem Dev.add_tile (fl : Fld) (n : Nat) : (d.add fl n).tile = d.tile := rfl
@[simp] theorem Dev.add_inst (fl : Fld) (n : Nat) : (d.add fl n).inst = d.inst := rfl
@[simp] theorem Dev.add_bud (fl : Fld) (n : Nat) : (d.add fl n).bud = d.bud := rfl
@[simp] theorem Dev.add_led (fl : Fld) (n : Nat) : (d.add fl n).led = d.led := rfl
@[simp] theorem Dev.add_rp (fl : Fld) (n : Nat) : (d.add fl n).rp = d.rp := rfl
@[simp] theorem Dev.add_fc (fl : Fld) (n : Nat) : (d.add fl n).fc = d.fc := rfl
@[simp] theorem Dev.add_pp (fl : Fld) (n : Nat) : (d.add fl n).pp = d.pp := rfl
@[simp] theorem Dev.add_clk (fl : Fld) (n : Nat) : (d.add fl n).clk = d.clk := rfl
@[simp] theorem Dev.add_start (fl : Fld) (n : Nat) : (d.add fl n).start = d.start := rfl
@[simp] theorem Dev.add_nv (fl : Fld) (n : Nat) : (d.add fl n).nv = d.nv := rfl
@[simp] theorem Dev.add_test (fl : Fld) (n : Nat) : (d.add fl n).test = d.test := rfl
@[simp] theorem Dev.add_ev (fl : Fld) (n : Nat) : (d.add fl n).ev = d.ev := rfl
@[simp] theorem Dev.add_mg (fl : Fld) (n : Nat) : (d.add fl n).mg = d.mg := rfl
@[simp] theorem Dev.add_sel (fl : Fld) (n : Nat) : (d.add fl n).sel = d.sel := rfl
@[simp] theorem Dev.add_chan (fl : Fld) (n : Nat) : (d.add fl n).chan = d.chan := rfl
@[simp] theorem Dev.add_opt (fl : Fld) (n : Nat) : (d.add fl n).opt = d.opt := rfl
@[simp] theorem Dev.add_out (fl : Fld) (n : Nat) : (d.add fl n).out = d.out := rfl
@[simp] theorem Dev.add_hostFull (fl : Fld) (n : Nat) : (d.add fl n).hostFull = d.hostFull := rfl
@[simp] theorem Dev.add_fresh (fl : Fld) (n : Nat) : (d.add fl n).fresh = d.fresh := rfl
@[simp] theorem Dev.add_pt (fl : Fld) (n : Nat) (i j : Nat) : (d.add fl n).pt i j = d.pt i j := rfl
@[simp] theorem Dev.add_dm (fl : Fld) (n : Nat) (i j : Nat) : (d.add fl n).dm i j = d.dm i j := rfl
@[simp] theorem Dev.add_fd (fl : Fld) (n : Nat) (i : Nat) : (d.add fl n).fd i = d.fd i := rfl
@[simp] theorem Dev.add_cl (fl : Fld) (n : Nat) (i j : Nat) : (d.add fl n).cl i j = d.cl i j := rfl
@[simp] theorem Dev.add_ti (fl : Fld) (n : Nat) (i j l : Nat) : (d.add fl n).ti i j l = d.ti i j l := rfl
@[simp] theorem Dev.add_ent (fl : Fld) (n : Nat) (i : Nat) : (d.add fl n).ent i = d.ent i := rfl
@[simp] theorem Dev.add_recd (fl : Fld) (n : Nat) (i : Nat) : (d.add fl n).recd i = d.recd i := rfl
@[simp] theorem Dev.add_job (fl : Fld) (n : Nat) (i : Nat) : (d.add fl n).job i = d.job i := rfl

/-! inc: changes regs alone. -/

@[simp] theorem Dev.inc_sram (fl : Fld) : (d.inc fl).sram = d.sram := rfl
@[simp] theorem Dev.inc_shadow (fl : Fld) : (d.inc fl).shadow = d.shadow := rfl
@[simp] theorem Dev.inc_busData (fl : Fld) : (d.inc fl).busData = d.busData := rfl
@[simp] theorem Dev.inc_pins (fl : Fld) : (d.inc fl).pins = d.pins := rfl
@[simp] theorem Dev.inc_time (fl : Fld) : (d.inc fl).time = d.time := rfl
@[simp] theorem Dev.inc_pat (fl : Fld) : (d.inc fl).pat = d.pat := rfl
@[simp] theorem Dev.inc_dom (fl : Fld) : (d.inc fl).dom = d.dom := rfl
@[simp] theorem Dev.inc_fld (fl : Fld) : (d.inc fl).fld = d.fld := rfl
@[simp] theorem Dev.inc_cls (fl : Fld) : (d.inc fl).cls = d.cls := rfl
@[simp] theorem Dev.inc_tile (fl : Fld) : (d.inc fl).tile = d.tile := rfl
@[simp] theorem Dev.inc_inst (fl : Fld) : (d.inc fl).inst = d.inst := rfl
@[simp] theorem Dev.inc_bud (fl : Fld) : (d.inc fl).bud = d.bud := rfl
@[simp] theorem Dev.inc_led (fl : Fld) : (d.inc fl).led = d.led := rfl
@[simp] theorem Dev.inc_rp (fl : Fld) : (d.inc fl).rp = d.rp := rfl
@[simp] theorem Dev.inc_fc (fl : Fld) : (d.inc fl).fc = d.fc := rfl
@[simp] theorem Dev.inc_pp (fl : Fld) : (d.inc fl).pp = d.pp := rfl
@[simp] theorem Dev.inc_clk (fl : Fld) : (d.inc fl).clk = d.clk := rfl
@[simp] theorem Dev.inc_start (fl : Fld) : (d.inc fl).start = d.start := rfl
@[simp] theorem Dev.inc_nv (fl : Fld) : (d.inc fl).nv = d.nv := rfl
@[simp] theorem Dev.inc_test (fl : Fld) : (d.inc fl).test = d.test := rfl
@[simp] theorem Dev.inc_ev (fl : Fld) : (d.inc fl).ev = d.ev := rfl
@[simp] theorem Dev.inc_mg (fl : Fld) : (d.inc fl).mg = d.mg := rfl
@[simp] theorem Dev.inc_sel (fl : Fld) : (d.inc fl).sel = d.sel := rfl
@[simp] theorem Dev.inc_chan (fl : Fld) : (d.inc fl).chan = d.chan := rfl
@[simp] theorem Dev.inc_opt (fl : Fld) : (d.inc fl).opt = d.opt := rfl
@[simp] theorem Dev.inc_out (fl : Fld) : (d.inc fl).out = d.out := rfl
@[simp] theorem Dev.inc_hostFull (fl : Fld) : (d.inc fl).hostFull = d.hostFull := rfl
@[simp] theorem Dev.inc_fresh (fl : Fld) : (d.inc fl).fresh = d.fresh := rfl
@[simp] theorem Dev.inc_pt (fl : Fld) (i j : Nat) : (d.inc fl).pt i j = d.pt i j := rfl
@[simp] theorem Dev.inc_dm (fl : Fld) (i j : Nat) : (d.inc fl).dm i j = d.dm i j := rfl
@[simp] theorem Dev.inc_fd (fl : Fld) (i : Nat) : (d.inc fl).fd i = d.fd i := rfl
@[simp] theorem Dev.inc_cl (fl : Fld) (i j : Nat) : (d.inc fl).cl i j = d.cl i j := rfl
@[simp] theorem Dev.inc_ti (fl : Fld) (i j l : Nat) : (d.inc fl).ti i j l = d.ti i j l := rfl
@[simp] theorem Dev.inc_ent (fl : Fld) (i : Nat) : (d.inc fl).ent i = d.ent i := rfl
@[simp] theorem Dev.inc_recd (fl : Fld) (i : Nat) : (d.inc fl).recd i = d.recd i := rfl
@[simp] theorem Dev.inc_job (fl : Fld) (i : Nat) : (d.inc fl).job i = d.job i := rfl

/-! updPt: changes pat alone. -/

@[simp] theorem Dev.updPt_regs (f p : Nat) (g : PatchS → PatchS) : (d.updPt f p g).regs = d.regs := rfl
@[simp] theorem Dev.updPt_sram (f p : Nat) (g : PatchS → PatchS) : (d.updPt f p g).sram = d.sram := rfl
@[simp] theorem Dev.updPt_shadow (f p : Nat) (g : PatchS → PatchS) : (d.updPt f p g).shadow = d.shadow := rfl
@[simp] theorem Dev.updPt_busData (f p : Nat) (g : PatchS → PatchS) : (d.updPt f p g).busData = d.busData := rfl
@[simp] theorem Dev.updPt_pins (f p : Nat) (g : PatchS → PatchS) : (d.updPt f p g).pins = d.pins := rfl
@[simp] theorem Dev.updPt_time (f p : Nat) (g : PatchS → PatchS) : (d.updPt f p g).time = d.time := rfl
@[simp] theorem Dev.updPt_dom (f p : Nat) (g : PatchS → PatchS) : (d.updPt f p g).dom = d.dom := rfl
@[simp] theorem Dev.updPt_fld (f p : Nat) (g : PatchS → PatchS) : (d.updPt f p g).fld = d.fld := rfl
@[simp] theorem Dev.updPt_cls (f p : Nat) (g : PatchS → PatchS) : (d.updPt f p g).cls = d.cls := rfl
@[simp] theorem Dev.updPt_tile (f p : Nat) (g : PatchS → PatchS) : (d.updPt f p g).tile = d.tile := rfl
@[simp] theorem Dev.updPt_inst (f p : Nat) (g : PatchS → PatchS) : (d.updPt f p g).inst = d.inst := rfl
@[simp] theorem Dev.updPt_bud (f p : Nat) (g : PatchS → PatchS) : (d.updPt f p g).bud = d.bud := rfl
@[simp] theorem Dev.updPt_led (f p : Nat) (g : PatchS → PatchS) : (d.updPt f p g).led = d.led := rfl
@[simp] theorem Dev.updPt_rp (f p : Nat) (g : PatchS → PatchS) : (d.updPt f p g).rp = d.rp := rfl
@[simp] theorem Dev.updPt_fc (f p : Nat) (g : PatchS → PatchS) : (d.updPt f p g).fc = d.fc := rfl
@[simp] theorem Dev.updPt_pp (f p : Nat) (g : PatchS → PatchS) : (d.updPt f p g).pp = d.pp := rfl
@[simp] theorem Dev.updPt_clk (f p : Nat) (g : PatchS → PatchS) : (d.updPt f p g).clk = d.clk := rfl
@[simp] theorem Dev.updPt_start (f p : Nat) (g : PatchS → PatchS) : (d.updPt f p g).start = d.start := rfl
@[simp] theorem Dev.updPt_nv (f p : Nat) (g : PatchS → PatchS) : (d.updPt f p g).nv = d.nv := rfl
@[simp] theorem Dev.updPt_test (f p : Nat) (g : PatchS → PatchS) : (d.updPt f p g).test = d.test := rfl
@[simp] theorem Dev.updPt_ev (f p : Nat) (g : PatchS → PatchS) : (d.updPt f p g).ev = d.ev := rfl
@[simp] theorem Dev.updPt_mg (f p : Nat) (g : PatchS → PatchS) : (d.updPt f p g).mg = d.mg := rfl
@[simp] theorem Dev.updPt_sel (f p : Nat) (g : PatchS → PatchS) : (d.updPt f p g).sel = d.sel := rfl
@[simp] theorem Dev.updPt_chan (f p : Nat) (g : PatchS → PatchS) : (d.updPt f p g).chan = d.chan := rfl
@[simp] theorem Dev.updPt_opt (f p : Nat) (g : PatchS → PatchS) : (d.updPt f p g).opt = d.opt := rfl
@[simp] theorem Dev.updPt_out (f p : Nat) (g : PatchS → PatchS) : (d.updPt f p g).out = d.out := rfl
@[simp] theorem Dev.updPt_hostFull (f p : Nat) (g : PatchS → PatchS) : (d.updPt f p g).hostFull = d.hostFull := rfl
@[simp] theorem Dev.updPt_fresh (f p : Nat) (g : PatchS → PatchS) : (d.updPt f p g).fresh = d.fresh := rfl
@[simp] theorem Dev.updPt_reg (f p : Nat) (g : PatchS → PatchS) (a : Nat) : (d.updPt f p g).reg a = d.reg a := rfl
@[simp] theorem Dev.updPt_rd (f p : Nat) (g : PatchS → PatchS) (x : Fld) : (d.updPt f p g).rd x = d.rd x := rfl
@[simp] theorem Dev.updPt_rdB (f p : Nat) (g : PatchS → PatchS) (x : Fld) : (d.updPt f p g).rdB x = d.rdB x := rfl
@[simp] theorem Dev.updPt_rdS (f p : Nat) (g : PatchS → PatchS) (x : Fld) : (d.updPt f p g).rdS x = d.rdS x := rfl
@[simp] theorem Dev.updPt_dm (f p : Nat) (g : PatchS → PatchS) (i j : Nat) : (d.updPt f p g).dm i j = d.dm i j := rfl
@[simp] theorem Dev.updPt_fd (f p : Nat) (g : PatchS → PatchS) (i : Nat) : (d.updPt f p g).fd i = d.fd i := rfl
@[simp] theorem Dev.updPt_cl (f p : Nat) (g : PatchS → PatchS) (i j : Nat) : (d.updPt f p g).cl i j = d.cl i j := rfl
@[simp] theorem Dev.updPt_ti (f p : Nat) (g : PatchS → PatchS) (i j l : Nat) : (d.updPt f p g).ti i j l = d.ti i j l := rfl
@[simp] theorem Dev.updPt_ent (f p : Nat) (g : PatchS → PatchS) (i : Nat) : (d.updPt f p g).ent i = d.ent i := rfl
@[simp] theorem Dev.updPt_recd (f p : Nat) (g : PatchS → PatchS) (i : Nat) : (d.updPt f p g).recd i = d.recd i := rfl
@[simp] theorem Dev.updPt_job (f p : Nat) (g : PatchS → PatchS) (i : Nat) : (d.updPt f p g).job i = d.job i := rfl

/-! updDm: changes dom alone. -/

@[simp] theorem Dev.updDm_regs (f k : Nat) (g : DomS → DomS) : (d.updDm f k g).regs = d.regs := rfl
@[simp] theorem Dev.updDm_sram (f k : Nat) (g : DomS → DomS) : (d.updDm f k g).sram = d.sram := rfl
@[simp] theorem Dev.updDm_shadow (f k : Nat) (g : DomS → DomS) : (d.updDm f k g).shadow = d.shadow := rfl
@[simp] theorem Dev.updDm_busData (f k : Nat) (g : DomS → DomS) : (d.updDm f k g).busData = d.busData := rfl
@[simp] theorem Dev.updDm_pins (f k : Nat) (g : DomS → DomS) : (d.updDm f k g).pins = d.pins := rfl
@[simp] theorem Dev.updDm_time (f k : Nat) (g : DomS → DomS) : (d.updDm f k g).time = d.time := rfl
@[simp] theorem Dev.updDm_pat (f k : Nat) (g : DomS → DomS) : (d.updDm f k g).pat = d.pat := rfl
@[simp] theorem Dev.updDm_fld (f k : Nat) (g : DomS → DomS) : (d.updDm f k g).fld = d.fld := rfl
@[simp] theorem Dev.updDm_cls (f k : Nat) (g : DomS → DomS) : (d.updDm f k g).cls = d.cls := rfl
@[simp] theorem Dev.updDm_tile (f k : Nat) (g : DomS → DomS) : (d.updDm f k g).tile = d.tile := rfl
@[simp] theorem Dev.updDm_inst (f k : Nat) (g : DomS → DomS) : (d.updDm f k g).inst = d.inst := rfl
@[simp] theorem Dev.updDm_bud (f k : Nat) (g : DomS → DomS) : (d.updDm f k g).bud = d.bud := rfl
@[simp] theorem Dev.updDm_led (f k : Nat) (g : DomS → DomS) : (d.updDm f k g).led = d.led := rfl
@[simp] theorem Dev.updDm_rp (f k : Nat) (g : DomS → DomS) : (d.updDm f k g).rp = d.rp := rfl
@[simp] theorem Dev.updDm_fc (f k : Nat) (g : DomS → DomS) : (d.updDm f k g).fc = d.fc := rfl
@[simp] theorem Dev.updDm_pp (f k : Nat) (g : DomS → DomS) : (d.updDm f k g).pp = d.pp := rfl
@[simp] theorem Dev.updDm_clk (f k : Nat) (g : DomS → DomS) : (d.updDm f k g).clk = d.clk := rfl
@[simp] theorem Dev.updDm_start (f k : Nat) (g : DomS → DomS) : (d.updDm f k g).start = d.start := rfl
@[simp] theorem Dev.updDm_nv (f k : Nat) (g : DomS → DomS) : (d.updDm f k g).nv = d.nv := rfl
@[simp] theorem Dev.updDm_test (f k : Nat) (g : DomS → DomS) : (d.updDm f k g).test = d.test := rfl
@[simp] theorem Dev.updDm_ev (f k : Nat) (g : DomS → DomS) : (d.updDm f k g).ev = d.ev := rfl
@[simp] theorem Dev.updDm_mg (f k : Nat) (g : DomS → DomS) : (d.updDm f k g).mg = d.mg := rfl
@[simp] theorem Dev.updDm_sel (f k : Nat) (g : DomS → DomS) : (d.updDm f k g).sel = d.sel := rfl
@[simp] theorem Dev.updDm_chan (f k : Nat) (g : DomS → DomS) : (d.updDm f k g).chan = d.chan := rfl
@[simp] theorem Dev.updDm_opt (f k : Nat) (g : DomS → DomS) : (d.updDm f k g).opt = d.opt := rfl
@[simp] theorem Dev.updDm_out (f k : Nat) (g : DomS → DomS) : (d.updDm f k g).out = d.out := rfl
@[simp] theorem Dev.updDm_hostFull (f k : Nat) (g : DomS → DomS) : (d.updDm f k g).hostFull = d.hostFull := rfl
@[simp] theorem Dev.updDm_fresh (f k : Nat) (g : DomS → DomS) : (d.updDm f k g).fresh = d.fresh := rfl
@[simp] theorem Dev.updDm_reg (f k : Nat) (g : DomS → DomS) (a : Nat) : (d.updDm f k g).reg a = d.reg a := rfl
@[simp] theorem Dev.updDm_rd (f k : Nat) (g : DomS → DomS) (x : Fld) : (d.updDm f k g).rd x = d.rd x := rfl
@[simp] theorem Dev.updDm_rdB (f k : Nat) (g : DomS → DomS) (x : Fld) : (d.updDm f k g).rdB x = d.rdB x := rfl
@[simp] theorem Dev.updDm_rdS (f k : Nat) (g : DomS → DomS) (x : Fld) : (d.updDm f k g).rdS x = d.rdS x := rfl
@[simp] theorem Dev.updDm_pt (f k : Nat) (g : DomS → DomS) (i j : Nat) : (d.updDm f k g).pt i j = d.pt i j := rfl
@[simp] theorem Dev.updDm_fd (f k : Nat) (g : DomS → DomS) (i : Nat) : (d.updDm f k g).fd i = d.fd i := rfl
@[simp] theorem Dev.updDm_cl (f k : Nat) (g : DomS → DomS) (i j : Nat) : (d.updDm f k g).cl i j = d.cl i j := rfl
@[simp] theorem Dev.updDm_ti (f k : Nat) (g : DomS → DomS) (i j l : Nat) : (d.updDm f k g).ti i j l = d.ti i j l := rfl
@[simp] theorem Dev.updDm_ent (f k : Nat) (g : DomS → DomS) (i : Nat) : (d.updDm f k g).ent i = d.ent i := rfl
@[simp] theorem Dev.updDm_recd (f k : Nat) (g : DomS → DomS) (i : Nat) : (d.updDm f k g).recd i = d.recd i := rfl
@[simp] theorem Dev.updDm_job (f k : Nat) (g : DomS → DomS) (i : Nat) : (d.updDm f k g).job i = d.job i := rfl

/-! updFd: changes fld alone. -/

@[simp] theorem Dev.updFd_regs (f : Nat) (g : FieldS → FieldS) : (d.updFd f g).regs = d.regs := rfl
@[simp] theorem Dev.updFd_sram (f : Nat) (g : FieldS → FieldS) : (d.updFd f g).sram = d.sram := rfl
@[simp] theorem Dev.updFd_shadow (f : Nat) (g : FieldS → FieldS) : (d.updFd f g).shadow = d.shadow := rfl
@[simp] theorem Dev.updFd_busData (f : Nat) (g : FieldS → FieldS) : (d.updFd f g).busData = d.busData := rfl
@[simp] theorem Dev.updFd_pins (f : Nat) (g : FieldS → FieldS) : (d.updFd f g).pins = d.pins := rfl
@[simp] theorem Dev.updFd_time (f : Nat) (g : FieldS → FieldS) : (d.updFd f g).time = d.time := rfl
@[simp] theorem Dev.updFd_pat (f : Nat) (g : FieldS → FieldS) : (d.updFd f g).pat = d.pat := rfl
@[simp] theorem Dev.updFd_dom (f : Nat) (g : FieldS → FieldS) : (d.updFd f g).dom = d.dom := rfl
@[simp] theorem Dev.updFd_cls (f : Nat) (g : FieldS → FieldS) : (d.updFd f g).cls = d.cls := rfl
@[simp] theorem Dev.updFd_tile (f : Nat) (g : FieldS → FieldS) : (d.updFd f g).tile = d.tile := rfl
@[simp] theorem Dev.updFd_inst (f : Nat) (g : FieldS → FieldS) : (d.updFd f g).inst = d.inst := rfl
@[simp] theorem Dev.updFd_bud (f : Nat) (g : FieldS → FieldS) : (d.updFd f g).bud = d.bud := rfl
@[simp] theorem Dev.updFd_led (f : Nat) (g : FieldS → FieldS) : (d.updFd f g).led = d.led := rfl
@[simp] theorem Dev.updFd_rp (f : Nat) (g : FieldS → FieldS) : (d.updFd f g).rp = d.rp := rfl
@[simp] theorem Dev.updFd_fc (f : Nat) (g : FieldS → FieldS) : (d.updFd f g).fc = d.fc := rfl
@[simp] theorem Dev.updFd_pp (f : Nat) (g : FieldS → FieldS) : (d.updFd f g).pp = d.pp := rfl
@[simp] theorem Dev.updFd_clk (f : Nat) (g : FieldS → FieldS) : (d.updFd f g).clk = d.clk := rfl
@[simp] theorem Dev.updFd_start (f : Nat) (g : FieldS → FieldS) : (d.updFd f g).start = d.start := rfl
@[simp] theorem Dev.updFd_nv (f : Nat) (g : FieldS → FieldS) : (d.updFd f g).nv = d.nv := rfl
@[simp] theorem Dev.updFd_test (f : Nat) (g : FieldS → FieldS) : (d.updFd f g).test = d.test := rfl
@[simp] theorem Dev.updFd_ev (f : Nat) (g : FieldS → FieldS) : (d.updFd f g).ev = d.ev := rfl
@[simp] theorem Dev.updFd_mg (f : Nat) (g : FieldS → FieldS) : (d.updFd f g).mg = d.mg := rfl
@[simp] theorem Dev.updFd_sel (f : Nat) (g : FieldS → FieldS) : (d.updFd f g).sel = d.sel := rfl
@[simp] theorem Dev.updFd_chan (f : Nat) (g : FieldS → FieldS) : (d.updFd f g).chan = d.chan := rfl
@[simp] theorem Dev.updFd_opt (f : Nat) (g : FieldS → FieldS) : (d.updFd f g).opt = d.opt := rfl
@[simp] theorem Dev.updFd_out (f : Nat) (g : FieldS → FieldS) : (d.updFd f g).out = d.out := rfl
@[simp] theorem Dev.updFd_hostFull (f : Nat) (g : FieldS → FieldS) : (d.updFd f g).hostFull = d.hostFull := rfl
@[simp] theorem Dev.updFd_fresh (f : Nat) (g : FieldS → FieldS) : (d.updFd f g).fresh = d.fresh := rfl
@[simp] theorem Dev.updFd_reg (f : Nat) (g : FieldS → FieldS) (a : Nat) : (d.updFd f g).reg a = d.reg a := rfl
@[simp] theorem Dev.updFd_rd (f : Nat) (g : FieldS → FieldS) (x : Fld) : (d.updFd f g).rd x = d.rd x := rfl
@[simp] theorem Dev.updFd_rdB (f : Nat) (g : FieldS → FieldS) (x : Fld) : (d.updFd f g).rdB x = d.rdB x := rfl
@[simp] theorem Dev.updFd_rdS (f : Nat) (g : FieldS → FieldS) (x : Fld) : (d.updFd f g).rdS x = d.rdS x := rfl
@[simp] theorem Dev.updFd_pt (f : Nat) (g : FieldS → FieldS) (i j : Nat) : (d.updFd f g).pt i j = d.pt i j := rfl
@[simp] theorem Dev.updFd_dm (f : Nat) (g : FieldS → FieldS) (i j : Nat) : (d.updFd f g).dm i j = d.dm i j := rfl
@[simp] theorem Dev.updFd_cl (f : Nat) (g : FieldS → FieldS) (i j : Nat) : (d.updFd f g).cl i j = d.cl i j := rfl
@[simp] theorem Dev.updFd_ti (f : Nat) (g : FieldS → FieldS) (i j l : Nat) : (d.updFd f g).ti i j l = d.ti i j l := rfl
@[simp] theorem Dev.updFd_ent (f : Nat) (g : FieldS → FieldS) (i : Nat) : (d.updFd f g).ent i = d.ent i := rfl
@[simp] theorem Dev.updFd_recd (f : Nat) (g : FieldS → FieldS) (i : Nat) : (d.updFd f g).recd i = d.recd i := rfl
@[simp] theorem Dev.updFd_job (f : Nat) (g : FieldS → FieldS) (i : Nat) : (d.updFd f g).job i = d.job i := rfl

/-! updCl: changes cls alone. -/

@[simp] theorem Dev.updCl_regs (f c : Nat) (g : ClassB → ClassB) : (d.updCl f c g).regs = d.regs := rfl
@[simp] theorem Dev.updCl_sram (f c : Nat) (g : ClassB → ClassB) : (d.updCl f c g).sram = d.sram := rfl
@[simp] theorem Dev.updCl_shadow (f c : Nat) (g : ClassB → ClassB) : (d.updCl f c g).shadow = d.shadow := rfl
@[simp] theorem Dev.updCl_busData (f c : Nat) (g : ClassB → ClassB) : (d.updCl f c g).busData = d.busData := rfl
@[simp] theorem Dev.updCl_pins (f c : Nat) (g : ClassB → ClassB) : (d.updCl f c g).pins = d.pins := rfl
@[simp] theorem Dev.updCl_time (f c : Nat) (g : ClassB → ClassB) : (d.updCl f c g).time = d.time := rfl
@[simp] theorem Dev.updCl_pat (f c : Nat) (g : ClassB → ClassB) : (d.updCl f c g).pat = d.pat := rfl
@[simp] theorem Dev.updCl_dom (f c : Nat) (g : ClassB → ClassB) : (d.updCl f c g).dom = d.dom := rfl
@[simp] theorem Dev.updCl_fld (f c : Nat) (g : ClassB → ClassB) : (d.updCl f c g).fld = d.fld := rfl
@[simp] theorem Dev.updCl_tile (f c : Nat) (g : ClassB → ClassB) : (d.updCl f c g).tile = d.tile := rfl
@[simp] theorem Dev.updCl_inst (f c : Nat) (g : ClassB → ClassB) : (d.updCl f c g).inst = d.inst := rfl
@[simp] theorem Dev.updCl_bud (f c : Nat) (g : ClassB → ClassB) : (d.updCl f c g).bud = d.bud := rfl
@[simp] theorem Dev.updCl_led (f c : Nat) (g : ClassB → ClassB) : (d.updCl f c g).led = d.led := rfl
@[simp] theorem Dev.updCl_rp (f c : Nat) (g : ClassB → ClassB) : (d.updCl f c g).rp = d.rp := rfl
@[simp] theorem Dev.updCl_fc (f c : Nat) (g : ClassB → ClassB) : (d.updCl f c g).fc = d.fc := rfl
@[simp] theorem Dev.updCl_pp (f c : Nat) (g : ClassB → ClassB) : (d.updCl f c g).pp = d.pp := rfl
@[simp] theorem Dev.updCl_clk (f c : Nat) (g : ClassB → ClassB) : (d.updCl f c g).clk = d.clk := rfl
@[simp] theorem Dev.updCl_start (f c : Nat) (g : ClassB → ClassB) : (d.updCl f c g).start = d.start := rfl
@[simp] theorem Dev.updCl_nv (f c : Nat) (g : ClassB → ClassB) : (d.updCl f c g).nv = d.nv := rfl
@[simp] theorem Dev.updCl_test (f c : Nat) (g : ClassB → ClassB) : (d.updCl f c g).test = d.test := rfl
@[simp] theorem Dev.updCl_ev (f c : Nat) (g : ClassB → ClassB) : (d.updCl f c g).ev = d.ev := rfl
@[simp] theorem Dev.updCl_mg (f c : Nat) (g : ClassB → ClassB) : (d.updCl f c g).mg = d.mg := rfl
@[simp] theorem Dev.updCl_sel (f c : Nat) (g : ClassB → ClassB) : (d.updCl f c g).sel = d.sel := rfl
@[simp] theorem Dev.updCl_chan (f c : Nat) (g : ClassB → ClassB) : (d.updCl f c g).chan = d.chan := rfl
@[simp] theorem Dev.updCl_opt (f c : Nat) (g : ClassB → ClassB) : (d.updCl f c g).opt = d.opt := rfl
@[simp] theorem Dev.updCl_out (f c : Nat) (g : ClassB → ClassB) : (d.updCl f c g).out = d.out := rfl
@[simp] theorem Dev.updCl_hostFull (f c : Nat) (g : ClassB → ClassB) : (d.updCl f c g).hostFull = d.hostFull := rfl
@[simp] theorem Dev.updCl_fresh (f c : Nat) (g : ClassB → ClassB) : (d.updCl f c g).fresh = d.fresh := rfl
@[simp] theorem Dev.updCl_reg (f c : Nat) (g : ClassB → ClassB) (a : Nat) : (d.updCl f c g).reg a = d.reg a := rfl
@[simp] theorem Dev.updCl_rd (f c : Nat) (g : ClassB → ClassB) (x : Fld) : (d.updCl f c g).rd x = d.rd x := rfl
@[simp] theorem Dev.updCl_rdB (f c : Nat) (g : ClassB → ClassB) (x : Fld) : (d.updCl f c g).rdB x = d.rdB x := rfl
@[simp] theorem Dev.updCl_rdS (f c : Nat) (g : ClassB → ClassB) (x : Fld) : (d.updCl f c g).rdS x = d.rdS x := rfl
@[simp] theorem Dev.updCl_pt (f c : Nat) (g : ClassB → ClassB) (i j : Nat) : (d.updCl f c g).pt i j = d.pt i j := rfl
@[simp] theorem Dev.updCl_dm (f c : Nat) (g : ClassB → ClassB) (i j : Nat) : (d.updCl f c g).dm i j = d.dm i j := rfl
@[simp] theorem Dev.updCl_fd (f c : Nat) (g : ClassB → ClassB) (i : Nat) : (d.updCl f c g).fd i = d.fd i := rfl
@[simp] theorem Dev.updCl_ti (f c : Nat) (g : ClassB → ClassB) (i j l : Nat) : (d.updCl f c g).ti i j l = d.ti i j l := rfl
@[simp] theorem Dev.updCl_ent (f c : Nat) (g : ClassB → ClassB) (i : Nat) : (d.updCl f c g).ent i = d.ent i := rfl
@[simp] theorem Dev.updCl_recd (f c : Nat) (g : ClassB → ClassB) (i : Nat) : (d.updCl f c g).recd i = d.recd i := rfl
@[simp] theorem Dev.updCl_job (f c : Nat) (g : ClassB → ClassB) (i : Nat) : (d.updCl f c g).job i = d.job i := rfl

/-! updTi: changes tile alone. -/

@[simp] theorem Dev.updTi_regs (f p n : Nat) (g : TileS → TileS) : (d.updTi f p n g).regs = d.regs := rfl
@[simp] theorem Dev.updTi_sram (f p n : Nat) (g : TileS → TileS) : (d.updTi f p n g).sram = d.sram := rfl
@[simp] theorem Dev.updTi_shadow (f p n : Nat) (g : TileS → TileS) : (d.updTi f p n g).shadow = d.shadow := rfl
@[simp] theorem Dev.updTi_busData (f p n : Nat) (g : TileS → TileS) : (d.updTi f p n g).busData = d.busData := rfl
@[simp] theorem Dev.updTi_pins (f p n : Nat) (g : TileS → TileS) : (d.updTi f p n g).pins = d.pins := rfl
@[simp] theorem Dev.updTi_time (f p n : Nat) (g : TileS → TileS) : (d.updTi f p n g).time = d.time := rfl
@[simp] theorem Dev.updTi_pat (f p n : Nat) (g : TileS → TileS) : (d.updTi f p n g).pat = d.pat := rfl
@[simp] theorem Dev.updTi_dom (f p n : Nat) (g : TileS → TileS) : (d.updTi f p n g).dom = d.dom := rfl
@[simp] theorem Dev.updTi_fld (f p n : Nat) (g : TileS → TileS) : (d.updTi f p n g).fld = d.fld := rfl
@[simp] theorem Dev.updTi_cls (f p n : Nat) (g : TileS → TileS) : (d.updTi f p n g).cls = d.cls := rfl
@[simp] theorem Dev.updTi_inst (f p n : Nat) (g : TileS → TileS) : (d.updTi f p n g).inst = d.inst := rfl
@[simp] theorem Dev.updTi_bud (f p n : Nat) (g : TileS → TileS) : (d.updTi f p n g).bud = d.bud := rfl
@[simp] theorem Dev.updTi_led (f p n : Nat) (g : TileS → TileS) : (d.updTi f p n g).led = d.led := rfl
@[simp] theorem Dev.updTi_rp (f p n : Nat) (g : TileS → TileS) : (d.updTi f p n g).rp = d.rp := rfl
@[simp] theorem Dev.updTi_fc (f p n : Nat) (g : TileS → TileS) : (d.updTi f p n g).fc = d.fc := rfl
@[simp] theorem Dev.updTi_pp (f p n : Nat) (g : TileS → TileS) : (d.updTi f p n g).pp = d.pp := rfl
@[simp] theorem Dev.updTi_clk (f p n : Nat) (g : TileS → TileS) : (d.updTi f p n g).clk = d.clk := rfl
@[simp] theorem Dev.updTi_start (f p n : Nat) (g : TileS → TileS) : (d.updTi f p n g).start = d.start := rfl
@[simp] theorem Dev.updTi_nv (f p n : Nat) (g : TileS → TileS) : (d.updTi f p n g).nv = d.nv := rfl
@[simp] theorem Dev.updTi_test (f p n : Nat) (g : TileS → TileS) : (d.updTi f p n g).test = d.test := rfl
@[simp] theorem Dev.updTi_ev (f p n : Nat) (g : TileS → TileS) : (d.updTi f p n g).ev = d.ev := rfl
@[simp] theorem Dev.updTi_mg (f p n : Nat) (g : TileS → TileS) : (d.updTi f p n g).mg = d.mg := rfl
@[simp] theorem Dev.updTi_sel (f p n : Nat) (g : TileS → TileS) : (d.updTi f p n g).sel = d.sel := rfl
@[simp] theorem Dev.updTi_chan (f p n : Nat) (g : TileS → TileS) : (d.updTi f p n g).chan = d.chan := rfl
@[simp] theorem Dev.updTi_opt (f p n : Nat) (g : TileS → TileS) : (d.updTi f p n g).opt = d.opt := rfl
@[simp] theorem Dev.updTi_out (f p n : Nat) (g : TileS → TileS) : (d.updTi f p n g).out = d.out := rfl
@[simp] theorem Dev.updTi_hostFull (f p n : Nat) (g : TileS → TileS) : (d.updTi f p n g).hostFull = d.hostFull := rfl
@[simp] theorem Dev.updTi_fresh (f p n : Nat) (g : TileS → TileS) : (d.updTi f p n g).fresh = d.fresh := rfl
@[simp] theorem Dev.updTi_reg (f p n : Nat) (g : TileS → TileS) (a : Nat) : (d.updTi f p n g).reg a = d.reg a := rfl
@[simp] theorem Dev.updTi_rd (f p n : Nat) (g : TileS → TileS) (x : Fld) : (d.updTi f p n g).rd x = d.rd x := rfl
@[simp] theorem Dev.updTi_rdB (f p n : Nat) (g : TileS → TileS) (x : Fld) : (d.updTi f p n g).rdB x = d.rdB x := rfl
@[simp] theorem Dev.updTi_rdS (f p n : Nat) (g : TileS → TileS) (x : Fld) : (d.updTi f p n g).rdS x = d.rdS x := rfl
@[simp] theorem Dev.updTi_pt (f p n : Nat) (g : TileS → TileS) (i j : Nat) : (d.updTi f p n g).pt i j = d.pt i j := rfl
@[simp] theorem Dev.updTi_dm (f p n : Nat) (g : TileS → TileS) (i j : Nat) : (d.updTi f p n g).dm i j = d.dm i j := rfl
@[simp] theorem Dev.updTi_fd (f p n : Nat) (g : TileS → TileS) (i : Nat) : (d.updTi f p n g).fd i = d.fd i := rfl
@[simp] theorem Dev.updTi_cl (f p n : Nat) (g : TileS → TileS) (i j : Nat) : (d.updTi f p n g).cl i j = d.cl i j := rfl
@[simp] theorem Dev.updTi_ent (f p n : Nat) (g : TileS → TileS) (i : Nat) : (d.updTi f p n g).ent i = d.ent i := rfl
@[simp] theorem Dev.updTi_recd (f p n : Nat) (g : TileS → TileS) (i : Nat) : (d.updTi f p n g).recd i = d.recd i := rfl
@[simp] theorem Dev.updTi_job (f p n : Nat) (g : TileS → TileS) (i : Nat) : (d.updTi f p n g).job i = d.job i := rfl

/-! updIn: changes inst alone. -/

@[simp] theorem Dev.updIn_regs (f n : Nat) (g : InstS → InstS) : (d.updIn f n g).regs = d.regs := rfl
@[simp] theorem Dev.updIn_sram (f n : Nat) (g : InstS → InstS) : (d.updIn f n g).sram = d.sram := rfl
@[simp] theorem Dev.updIn_shadow (f n : Nat) (g : InstS → InstS) : (d.updIn f n g).shadow = d.shadow := rfl
@[simp] theorem Dev.updIn_busData (f n : Nat) (g : InstS → InstS) : (d.updIn f n g).busData = d.busData := rfl
@[simp] theorem Dev.updIn_pins (f n : Nat) (g : InstS → InstS) : (d.updIn f n g).pins = d.pins := rfl
@[simp] theorem Dev.updIn_time (f n : Nat) (g : InstS → InstS) : (d.updIn f n g).time = d.time := rfl
@[simp] theorem Dev.updIn_pat (f n : Nat) (g : InstS → InstS) : (d.updIn f n g).pat = d.pat := rfl
@[simp] theorem Dev.updIn_dom (f n : Nat) (g : InstS → InstS) : (d.updIn f n g).dom = d.dom := rfl
@[simp] theorem Dev.updIn_fld (f n : Nat) (g : InstS → InstS) : (d.updIn f n g).fld = d.fld := rfl
@[simp] theorem Dev.updIn_cls (f n : Nat) (g : InstS → InstS) : (d.updIn f n g).cls = d.cls := rfl
@[simp] theorem Dev.updIn_tile (f n : Nat) (g : InstS → InstS) : (d.updIn f n g).tile = d.tile := rfl
@[simp] theorem Dev.updIn_bud (f n : Nat) (g : InstS → InstS) : (d.updIn f n g).bud = d.bud := rfl
@[simp] theorem Dev.updIn_led (f n : Nat) (g : InstS → InstS) : (d.updIn f n g).led = d.led := rfl
@[simp] theorem Dev.updIn_rp (f n : Nat) (g : InstS → InstS) : (d.updIn f n g).rp = d.rp := rfl
@[simp] theorem Dev.updIn_fc (f n : Nat) (g : InstS → InstS) : (d.updIn f n g).fc = d.fc := rfl
@[simp] theorem Dev.updIn_pp (f n : Nat) (g : InstS → InstS) : (d.updIn f n g).pp = d.pp := rfl
@[simp] theorem Dev.updIn_clk (f n : Nat) (g : InstS → InstS) : (d.updIn f n g).clk = d.clk := rfl
@[simp] theorem Dev.updIn_start (f n : Nat) (g : InstS → InstS) : (d.updIn f n g).start = d.start := rfl
@[simp] theorem Dev.updIn_nv (f n : Nat) (g : InstS → InstS) : (d.updIn f n g).nv = d.nv := rfl
@[simp] theorem Dev.updIn_test (f n : Nat) (g : InstS → InstS) : (d.updIn f n g).test = d.test := rfl
@[simp] theorem Dev.updIn_ev (f n : Nat) (g : InstS → InstS) : (d.updIn f n g).ev = d.ev := rfl
@[simp] theorem Dev.updIn_mg (f n : Nat) (g : InstS → InstS) : (d.updIn f n g).mg = d.mg := rfl
@[simp] theorem Dev.updIn_sel (f n : Nat) (g : InstS → InstS) : (d.updIn f n g).sel = d.sel := rfl
@[simp] theorem Dev.updIn_chan (f n : Nat) (g : InstS → InstS) : (d.updIn f n g).chan = d.chan := rfl
@[simp] theorem Dev.updIn_opt (f n : Nat) (g : InstS → InstS) : (d.updIn f n g).opt = d.opt := rfl
@[simp] theorem Dev.updIn_out (f n : Nat) (g : InstS → InstS) : (d.updIn f n g).out = d.out := rfl
@[simp] theorem Dev.updIn_hostFull (f n : Nat) (g : InstS → InstS) : (d.updIn f n g).hostFull = d.hostFull := rfl
@[simp] theorem Dev.updIn_fresh (f n : Nat) (g : InstS → InstS) : (d.updIn f n g).fresh = d.fresh := rfl
@[simp] theorem Dev.updIn_reg (f n : Nat) (g : InstS → InstS) (a : Nat) : (d.updIn f n g).reg a = d.reg a := rfl
@[simp] theorem Dev.updIn_rd (f n : Nat) (g : InstS → InstS) (x : Fld) : (d.updIn f n g).rd x = d.rd x := rfl
@[simp] theorem Dev.updIn_rdB (f n : Nat) (g : InstS → InstS) (x : Fld) : (d.updIn f n g).rdB x = d.rdB x := rfl
@[simp] theorem Dev.updIn_rdS (f n : Nat) (g : InstS → InstS) (x : Fld) : (d.updIn f n g).rdS x = d.rdS x := rfl
@[simp] theorem Dev.updIn_pt (f n : Nat) (g : InstS → InstS) (i j : Nat) : (d.updIn f n g).pt i j = d.pt i j := rfl
@[simp] theorem Dev.updIn_dm (f n : Nat) (g : InstS → InstS) (i j : Nat) : (d.updIn f n g).dm i j = d.dm i j := rfl
@[simp] theorem Dev.updIn_fd (f n : Nat) (g : InstS → InstS) (i : Nat) : (d.updIn f n g).fd i = d.fd i := rfl
@[simp] theorem Dev.updIn_cl (f n : Nat) (g : InstS → InstS) (i j : Nat) : (d.updIn f n g).cl i j = d.cl i j := rfl
@[simp] theorem Dev.updIn_ti (f n : Nat) (g : InstS → InstS) (i j l : Nat) : (d.updIn f n g).ti i j l = d.ti i j l := rfl
@[simp] theorem Dev.updIn_ent (f n : Nat) (g : InstS → InstS) (i : Nat) : (d.updIn f n g).ent i = d.ent i := rfl
@[simp] theorem Dev.updIn_recd (f n : Nat) (g : InstS → InstS) (i : Nat) : (d.updIn f n g).recd i = d.recd i := rfl
@[simp] theorem Dev.updIn_job (f n : Nat) (g : InstS → InstS) (i : Nat) : (d.updIn f n g).job i = d.job i := rfl

/-! setEnt: changes led alone. -/

@[simp] theorem Dev.setEnt_regs (k : Nat) (e : Option Entry) : (d.setEnt k e).regs = d.regs := rfl
@[simp] theorem Dev.setEnt_sram (k : Nat) (e : Option Entry) : (d.setEnt k e).sram = d.sram := rfl
@[simp] theorem Dev.setEnt_shadow (k : Nat) (e : Option Entry) : (d.setEnt k e).shadow = d.shadow := rfl
@[simp] theorem Dev.setEnt_busData (k : Nat) (e : Option Entry) : (d.setEnt k e).busData = d.busData := rfl
@[simp] theorem Dev.setEnt_pins (k : Nat) (e : Option Entry) : (d.setEnt k e).pins = d.pins := rfl
@[simp] theorem Dev.setEnt_time (k : Nat) (e : Option Entry) : (d.setEnt k e).time = d.time := rfl
@[simp] theorem Dev.setEnt_pat (k : Nat) (e : Option Entry) : (d.setEnt k e).pat = d.pat := rfl
@[simp] theorem Dev.setEnt_dom (k : Nat) (e : Option Entry) : (d.setEnt k e).dom = d.dom := rfl
@[simp] theorem Dev.setEnt_fld (k : Nat) (e : Option Entry) : (d.setEnt k e).fld = d.fld := rfl
@[simp] theorem Dev.setEnt_cls (k : Nat) (e : Option Entry) : (d.setEnt k e).cls = d.cls := rfl
@[simp] theorem Dev.setEnt_tile (k : Nat) (e : Option Entry) : (d.setEnt k e).tile = d.tile := rfl
@[simp] theorem Dev.setEnt_inst (k : Nat) (e : Option Entry) : (d.setEnt k e).inst = d.inst := rfl
@[simp] theorem Dev.setEnt_bud (k : Nat) (e : Option Entry) : (d.setEnt k e).bud = d.bud := rfl
@[simp] theorem Dev.setEnt_rp (k : Nat) (e : Option Entry) : (d.setEnt k e).rp = d.rp := rfl
@[simp] theorem Dev.setEnt_fc (k : Nat) (e : Option Entry) : (d.setEnt k e).fc = d.fc := rfl
@[simp] theorem Dev.setEnt_pp (k : Nat) (e : Option Entry) : (d.setEnt k e).pp = d.pp := rfl
@[simp] theorem Dev.setEnt_clk (k : Nat) (e : Option Entry) : (d.setEnt k e).clk = d.clk := rfl
@[simp] theorem Dev.setEnt_start (k : Nat) (e : Option Entry) : (d.setEnt k e).start = d.start := rfl
@[simp] theorem Dev.setEnt_nv (k : Nat) (e : Option Entry) : (d.setEnt k e).nv = d.nv := rfl
@[simp] theorem Dev.setEnt_test (k : Nat) (e : Option Entry) : (d.setEnt k e).test = d.test := rfl
@[simp] theorem Dev.setEnt_ev (k : Nat) (e : Option Entry) : (d.setEnt k e).ev = d.ev := rfl
@[simp] theorem Dev.setEnt_mg (k : Nat) (e : Option Entry) : (d.setEnt k e).mg = d.mg := rfl
@[simp] theorem Dev.setEnt_sel (k : Nat) (e : Option Entry) : (d.setEnt k e).sel = d.sel := rfl
@[simp] theorem Dev.setEnt_chan (k : Nat) (e : Option Entry) : (d.setEnt k e).chan = d.chan := rfl
@[simp] theorem Dev.setEnt_opt (k : Nat) (e : Option Entry) : (d.setEnt k e).opt = d.opt := rfl
@[simp] theorem Dev.setEnt_out (k : Nat) (e : Option Entry) : (d.setEnt k e).out = d.out := rfl
@[simp] theorem Dev.setEnt_hostFull (k : Nat) (e : Option Entry) : (d.setEnt k e).hostFull = d.hostFull := rfl
@[simp] theorem Dev.setEnt_fresh (k : Nat) (e : Option Entry) : (d.setEnt k e).fresh = d.fresh := rfl
@[simp] theorem Dev.setEnt_reg (k : Nat) (e : Option Entry) (a : Nat) : (d.setEnt k e).reg a = d.reg a := rfl
@[simp] theorem Dev.setEnt_rd (k : Nat) (e : Option Entry) (x : Fld) : (d.setEnt k e).rd x = d.rd x := rfl
@[simp] theorem Dev.setEnt_rdB (k : Nat) (e : Option Entry) (x : Fld) : (d.setEnt k e).rdB x = d.rdB x := rfl
@[simp] theorem Dev.setEnt_rdS (k : Nat) (e : Option Entry) (x : Fld) : (d.setEnt k e).rdS x = d.rdS x := rfl
@[simp] theorem Dev.setEnt_pt (k : Nat) (e : Option Entry) (i j : Nat) : (d.setEnt k e).pt i j = d.pt i j := rfl
@[simp] theorem Dev.setEnt_dm (k : Nat) (e : Option Entry) (i j : Nat) : (d.setEnt k e).dm i j = d.dm i j := rfl
@[simp] theorem Dev.setEnt_fd (k : Nat) (e : Option Entry) (i : Nat) : (d.setEnt k e).fd i = d.fd i := rfl
@[simp] theorem Dev.setEnt_cl (k : Nat) (e : Option Entry) (i j : Nat) : (d.setEnt k e).cl i j = d.cl i j := rfl
@[simp] theorem Dev.setEnt_ti (k : Nat) (e : Option Entry) (i j l : Nat) : (d.setEnt k e).ti i j l = d.ti i j l := rfl
@[simp] theorem Dev.setEnt_recd (k : Nat) (e : Option Entry) (i : Nat) : (d.setEnt k e).recd i = d.recd i := rfl
@[simp] theorem Dev.setEnt_job (k : Nat) (e : Option Entry) (i : Nat) : (d.setEnt k e).job i = d.job i := rfl

/-! setRecd: changes rp alone. -/

@[simp] theorem Dev.setRecd_regs (k : Nat) (r : Option RRec) : (d.setRecd k r).regs = d.regs := rfl
@[simp] theorem Dev.setRecd_sram (k : Nat) (r : Option RRec) : (d.setRecd k r).sram = d.sram := rfl
@[simp] theorem Dev.setRecd_shadow (k : Nat) (r : Option RRec) : (d.setRecd k r).shadow = d.shadow := rfl
@[simp] theorem Dev.setRecd_busData (k : Nat) (r : Option RRec) : (d.setRecd k r).busData = d.busData := rfl
@[simp] theorem Dev.setRecd_pins (k : Nat) (r : Option RRec) : (d.setRecd k r).pins = d.pins := rfl
@[simp] theorem Dev.setRecd_time (k : Nat) (r : Option RRec) : (d.setRecd k r).time = d.time := rfl
@[simp] theorem Dev.setRecd_pat (k : Nat) (r : Option RRec) : (d.setRecd k r).pat = d.pat := rfl
@[simp] theorem Dev.setRecd_dom (k : Nat) (r : Option RRec) : (d.setRecd k r).dom = d.dom := rfl
@[simp] theorem Dev.setRecd_fld (k : Nat) (r : Option RRec) : (d.setRecd k r).fld = d.fld := rfl
@[simp] theorem Dev.setRecd_cls (k : Nat) (r : Option RRec) : (d.setRecd k r).cls = d.cls := rfl
@[simp] theorem Dev.setRecd_tile (k : Nat) (r : Option RRec) : (d.setRecd k r).tile = d.tile := rfl
@[simp] theorem Dev.setRecd_inst (k : Nat) (r : Option RRec) : (d.setRecd k r).inst = d.inst := rfl
@[simp] theorem Dev.setRecd_bud (k : Nat) (r : Option RRec) : (d.setRecd k r).bud = d.bud := rfl
@[simp] theorem Dev.setRecd_led (k : Nat) (r : Option RRec) : (d.setRecd k r).led = d.led := rfl
@[simp] theorem Dev.setRecd_fc (k : Nat) (r : Option RRec) : (d.setRecd k r).fc = d.fc := rfl
@[simp] theorem Dev.setRecd_pp (k : Nat) (r : Option RRec) : (d.setRecd k r).pp = d.pp := rfl
@[simp] theorem Dev.setRecd_clk (k : Nat) (r : Option RRec) : (d.setRecd k r).clk = d.clk := rfl
@[simp] theorem Dev.setRecd_start (k : Nat) (r : Option RRec) : (d.setRecd k r).start = d.start := rfl
@[simp] theorem Dev.setRecd_nv (k : Nat) (r : Option RRec) : (d.setRecd k r).nv = d.nv := rfl
@[simp] theorem Dev.setRecd_test (k : Nat) (r : Option RRec) : (d.setRecd k r).test = d.test := rfl
@[simp] theorem Dev.setRecd_ev (k : Nat) (r : Option RRec) : (d.setRecd k r).ev = d.ev := rfl
@[simp] theorem Dev.setRecd_mg (k : Nat) (r : Option RRec) : (d.setRecd k r).mg = d.mg := rfl
@[simp] theorem Dev.setRecd_sel (k : Nat) (r : Option RRec) : (d.setRecd k r).sel = d.sel := rfl
@[simp] theorem Dev.setRecd_chan (k : Nat) (r : Option RRec) : (d.setRecd k r).chan = d.chan := rfl
@[simp] theorem Dev.setRecd_opt (k : Nat) (r : Option RRec) : (d.setRecd k r).opt = d.opt := rfl
@[simp] theorem Dev.setRecd_out (k : Nat) (r : Option RRec) : (d.setRecd k r).out = d.out := rfl
@[simp] theorem Dev.setRecd_hostFull (k : Nat) (r : Option RRec) : (d.setRecd k r).hostFull = d.hostFull := rfl
@[simp] theorem Dev.setRecd_fresh (k : Nat) (r : Option RRec) : (d.setRecd k r).fresh = d.fresh := rfl
@[simp] theorem Dev.setRecd_reg (k : Nat) (r : Option RRec) (a : Nat) : (d.setRecd k r).reg a = d.reg a := rfl
@[simp] theorem Dev.setRecd_rd (k : Nat) (r : Option RRec) (x : Fld) : (d.setRecd k r).rd x = d.rd x := rfl
@[simp] theorem Dev.setRecd_rdB (k : Nat) (r : Option RRec) (x : Fld) : (d.setRecd k r).rdB x = d.rdB x := rfl
@[simp] theorem Dev.setRecd_rdS (k : Nat) (r : Option RRec) (x : Fld) : (d.setRecd k r).rdS x = d.rdS x := rfl
@[simp] theorem Dev.setRecd_pt (k : Nat) (r : Option RRec) (i j : Nat) : (d.setRecd k r).pt i j = d.pt i j := rfl
@[simp] theorem Dev.setRecd_dm (k : Nat) (r : Option RRec) (i j : Nat) : (d.setRecd k r).dm i j = d.dm i j := rfl
@[simp] theorem Dev.setRecd_fd (k : Nat) (r : Option RRec) (i : Nat) : (d.setRecd k r).fd i = d.fd i := rfl
@[simp] theorem Dev.setRecd_cl (k : Nat) (r : Option RRec) (i j : Nat) : (d.setRecd k r).cl i j = d.cl i j := rfl
@[simp] theorem Dev.setRecd_ti (k : Nat) (r : Option RRec) (i j l : Nat) : (d.setRecd k r).ti i j l = d.ti i j l := rfl
@[simp] theorem Dev.setRecd_ent (k : Nat) (r : Option RRec) (i : Nat) : (d.setRecd k r).ent i = d.ent i := rfl
@[simp] theorem Dev.setRecd_job (k : Nat) (r : Option RRec) (i : Nat) : (d.setRecd k r).job i = d.job i := rfl

/-! setJob: changes bud alone. -/

@[simp] theorem Dev.setJob_regs (n : Nat) (e : Option JobE) : (d.setJob n e).regs = d.regs := rfl
@[simp] theorem Dev.setJob_sram (n : Nat) (e : Option JobE) : (d.setJob n e).sram = d.sram := rfl
@[simp] theorem Dev.setJob_shadow (n : Nat) (e : Option JobE) : (d.setJob n e).shadow = d.shadow := rfl
@[simp] theorem Dev.setJob_busData (n : Nat) (e : Option JobE) : (d.setJob n e).busData = d.busData := rfl
@[simp] theorem Dev.setJob_pins (n : Nat) (e : Option JobE) : (d.setJob n e).pins = d.pins := rfl
@[simp] theorem Dev.setJob_time (n : Nat) (e : Option JobE) : (d.setJob n e).time = d.time := rfl
@[simp] theorem Dev.setJob_pat (n : Nat) (e : Option JobE) : (d.setJob n e).pat = d.pat := rfl
@[simp] theorem Dev.setJob_dom (n : Nat) (e : Option JobE) : (d.setJob n e).dom = d.dom := rfl
@[simp] theorem Dev.setJob_fld (n : Nat) (e : Option JobE) : (d.setJob n e).fld = d.fld := rfl
@[simp] theorem Dev.setJob_cls (n : Nat) (e : Option JobE) : (d.setJob n e).cls = d.cls := rfl
@[simp] theorem Dev.setJob_tile (n : Nat) (e : Option JobE) : (d.setJob n e).tile = d.tile := rfl
@[simp] theorem Dev.setJob_inst (n : Nat) (e : Option JobE) : (d.setJob n e).inst = d.inst := rfl
@[simp] theorem Dev.setJob_led (n : Nat) (e : Option JobE) : (d.setJob n e).led = d.led := rfl
@[simp] theorem Dev.setJob_rp (n : Nat) (e : Option JobE) : (d.setJob n e).rp = d.rp := rfl
@[simp] theorem Dev.setJob_fc (n : Nat) (e : Option JobE) : (d.setJob n e).fc = d.fc := rfl
@[simp] theorem Dev.setJob_pp (n : Nat) (e : Option JobE) : (d.setJob n e).pp = d.pp := rfl
@[simp] theorem Dev.setJob_clk (n : Nat) (e : Option JobE) : (d.setJob n e).clk = d.clk := rfl
@[simp] theorem Dev.setJob_start (n : Nat) (e : Option JobE) : (d.setJob n e).start = d.start := rfl
@[simp] theorem Dev.setJob_nv (n : Nat) (e : Option JobE) : (d.setJob n e).nv = d.nv := rfl
@[simp] theorem Dev.setJob_test (n : Nat) (e : Option JobE) : (d.setJob n e).test = d.test := rfl
@[simp] theorem Dev.setJob_ev (n : Nat) (e : Option JobE) : (d.setJob n e).ev = d.ev := rfl
@[simp] theorem Dev.setJob_mg (n : Nat) (e : Option JobE) : (d.setJob n e).mg = d.mg := rfl
@[simp] theorem Dev.setJob_sel (n : Nat) (e : Option JobE) : (d.setJob n e).sel = d.sel := rfl
@[simp] theorem Dev.setJob_chan (n : Nat) (e : Option JobE) : (d.setJob n e).chan = d.chan := rfl
@[simp] theorem Dev.setJob_opt (n : Nat) (e : Option JobE) : (d.setJob n e).opt = d.opt := rfl
@[simp] theorem Dev.setJob_out (n : Nat) (e : Option JobE) : (d.setJob n e).out = d.out := rfl
@[simp] theorem Dev.setJob_hostFull (n : Nat) (e : Option JobE) : (d.setJob n e).hostFull = d.hostFull := rfl
@[simp] theorem Dev.setJob_fresh (n : Nat) (e : Option JobE) : (d.setJob n e).fresh = d.fresh := rfl
@[simp] theorem Dev.setJob_reg (n : Nat) (e : Option JobE) (a : Nat) : (d.setJob n e).reg a = d.reg a := rfl
@[simp] theorem Dev.setJob_rd (n : Nat) (e : Option JobE) (x : Fld) : (d.setJob n e).rd x = d.rd x := rfl
@[simp] theorem Dev.setJob_rdB (n : Nat) (e : Option JobE) (x : Fld) : (d.setJob n e).rdB x = d.rdB x := rfl
@[simp] theorem Dev.setJob_rdS (n : Nat) (e : Option JobE) (x : Fld) : (d.setJob n e).rdS x = d.rdS x := rfl
@[simp] theorem Dev.setJob_pt (n : Nat) (e : Option JobE) (i j : Nat) : (d.setJob n e).pt i j = d.pt i j := rfl
@[simp] theorem Dev.setJob_dm (n : Nat) (e : Option JobE) (i j : Nat) : (d.setJob n e).dm i j = d.dm i j := rfl
@[simp] theorem Dev.setJob_fd (n : Nat) (e : Option JobE) (i : Nat) : (d.setJob n e).fd i = d.fd i := rfl
@[simp] theorem Dev.setJob_cl (n : Nat) (e : Option JobE) (i j : Nat) : (d.setJob n e).cl i j = d.cl i j := rfl
@[simp] theorem Dev.setJob_ti (n : Nat) (e : Option JobE) (i j l : Nat) : (d.setJob n e).ti i j l = d.ti i j l := rfl
@[simp] theorem Dev.setJob_ent (n : Nat) (e : Option JobE) (i : Nat) : (d.setJob n e).ent i = d.ent i := rfl
@[simp] theorem Dev.setJob_recd (n : Nat) (e : Option JobE) (i : Nat) : (d.setJob n e).recd i = d.recd i := rfl

/-! takeFree: changes fresh alone. -/

@[simp] theorem Dev.takeFree_regs : (d.takeFree).regs = d.regs := rfl
@[simp] theorem Dev.takeFree_sram : (d.takeFree).sram = d.sram := rfl
@[simp] theorem Dev.takeFree_shadow : (d.takeFree).shadow = d.shadow := rfl
@[simp] theorem Dev.takeFree_busData : (d.takeFree).busData = d.busData := rfl
@[simp] theorem Dev.takeFree_pins : (d.takeFree).pins = d.pins := rfl
@[simp] theorem Dev.takeFree_time : (d.takeFree).time = d.time := rfl
@[simp] theorem Dev.takeFree_pat : (d.takeFree).pat = d.pat := rfl
@[simp] theorem Dev.takeFree_dom : (d.takeFree).dom = d.dom := rfl
@[simp] theorem Dev.takeFree_fld : (d.takeFree).fld = d.fld := rfl
@[simp] theorem Dev.takeFree_cls : (d.takeFree).cls = d.cls := rfl
@[simp] theorem Dev.takeFree_tile : (d.takeFree).tile = d.tile := rfl
@[simp] theorem Dev.takeFree_inst : (d.takeFree).inst = d.inst := rfl
@[simp] theorem Dev.takeFree_bud : (d.takeFree).bud = d.bud := rfl
@[simp] theorem Dev.takeFree_led : (d.takeFree).led = d.led := rfl
@[simp] theorem Dev.takeFree_rp : (d.takeFree).rp = d.rp := rfl
@[simp] theorem Dev.takeFree_fc : (d.takeFree).fc = d.fc := rfl
@[simp] theorem Dev.takeFree_pp : (d.takeFree).pp = d.pp := rfl
@[simp] theorem Dev.takeFree_clk : (d.takeFree).clk = d.clk := rfl
@[simp] theorem Dev.takeFree_start : (d.takeFree).start = d.start := rfl
@[simp] theorem Dev.takeFree_nv : (d.takeFree).nv = d.nv := rfl
@[simp] theorem Dev.takeFree_test : (d.takeFree).test = d.test := rfl
@[simp] theorem Dev.takeFree_ev : (d.takeFree).ev = d.ev := rfl
@[simp] theorem Dev.takeFree_mg : (d.takeFree).mg = d.mg := rfl
@[simp] theorem Dev.takeFree_sel : (d.takeFree).sel = d.sel := rfl
@[simp] theorem Dev.takeFree_chan : (d.takeFree).chan = d.chan := rfl
@[simp] theorem Dev.takeFree_opt : (d.takeFree).opt = d.opt := rfl
@[simp] theorem Dev.takeFree_out : (d.takeFree).out = d.out := rfl
@[simp] theorem Dev.takeFree_hostFull : (d.takeFree).hostFull = d.hostFull := rfl
@[simp] theorem Dev.takeFree_reg  (a : Nat) : (d.takeFree).reg a = d.reg a := rfl
@[simp] theorem Dev.takeFree_rd  (x : Fld) : (d.takeFree).rd x = d.rd x := rfl
@[simp] theorem Dev.takeFree_rdB  (x : Fld) : (d.takeFree).rdB x = d.rdB x := rfl
@[simp] theorem Dev.takeFree_rdS  (x : Fld) : (d.takeFree).rdS x = d.rdS x := rfl
@[simp] theorem Dev.takeFree_pt  (i j : Nat) : (d.takeFree).pt i j = d.pt i j := rfl
@[simp] theorem Dev.takeFree_dm  (i j : Nat) : (d.takeFree).dm i j = d.dm i j := rfl
@[simp] theorem Dev.takeFree_fd  (i : Nat) : (d.takeFree).fd i = d.fd i := rfl
@[simp] theorem Dev.takeFree_cl  (i j : Nat) : (d.takeFree).cl i j = d.cl i j := rfl
@[simp] theorem Dev.takeFree_ti  (i j l : Nat) : (d.takeFree).ti i j l = d.ti i j l := rfl
@[simp] theorem Dev.takeFree_ent  (i : Nat) : (d.takeFree).ent i = d.ent i := rfl
@[simp] theorem Dev.takeFree_recd  (i : Nat) : (d.takeFree).recd i = d.recd i := rfl
@[simp] theorem Dev.takeFree_job  (i : Nat) : (d.takeFree).job i = d.job i := rfl

/-! emit: changes out alone. -/

@[simp] theorem Dev.emit_regs (o : Out) : (d.emit o).regs = d.regs := rfl
@[simp] theorem Dev.emit_sram (o : Out) : (d.emit o).sram = d.sram := rfl
@[simp] theorem Dev.emit_shadow (o : Out) : (d.emit o).shadow = d.shadow := rfl
@[simp] theorem Dev.emit_busData (o : Out) : (d.emit o).busData = d.busData := rfl
@[simp] theorem Dev.emit_pins (o : Out) : (d.emit o).pins = d.pins := rfl
@[simp] theorem Dev.emit_time (o : Out) : (d.emit o).time = d.time := rfl
@[simp] theorem Dev.emit_pat (o : Out) : (d.emit o).pat = d.pat := rfl
@[simp] theorem Dev.emit_dom (o : Out) : (d.emit o).dom = d.dom := rfl
@[simp] theorem Dev.emit_fld (o : Out) : (d.emit o).fld = d.fld := rfl
@[simp] theorem Dev.emit_cls (o : Out) : (d.emit o).cls = d.cls := rfl
@[simp] theorem Dev.emit_tile (o : Out) : (d.emit o).tile = d.tile := rfl
@[simp] theorem Dev.emit_inst (o : Out) : (d.emit o).inst = d.inst := rfl
@[simp] theorem Dev.emit_bud (o : Out) : (d.emit o).bud = d.bud := rfl
@[simp] theorem Dev.emit_led (o : Out) : (d.emit o).led = d.led := rfl
@[simp] theorem Dev.emit_rp (o : Out) : (d.emit o).rp = d.rp := rfl
@[simp] theorem Dev.emit_fc (o : Out) : (d.emit o).fc = d.fc := rfl
@[simp] theorem Dev.emit_pp (o : Out) : (d.emit o).pp = d.pp := rfl
@[simp] theorem Dev.emit_clk (o : Out) : (d.emit o).clk = d.clk := rfl
@[simp] theorem Dev.emit_start (o : Out) : (d.emit o).start = d.start := rfl
@[simp] theorem Dev.emit_nv (o : Out) : (d.emit o).nv = d.nv := rfl
@[simp] theorem Dev.emit_test (o : Out) : (d.emit o).test = d.test := rfl
@[simp] theorem Dev.emit_ev (o : Out) : (d.emit o).ev = d.ev := rfl
@[simp] theorem Dev.emit_mg (o : Out) : (d.emit o).mg = d.mg := rfl
@[simp] theorem Dev.emit_sel (o : Out) : (d.emit o).sel = d.sel := rfl
@[simp] theorem Dev.emit_chan (o : Out) : (d.emit o).chan = d.chan := rfl
@[simp] theorem Dev.emit_opt (o : Out) : (d.emit o).opt = d.opt := rfl
@[simp] theorem Dev.emit_hostFull (o : Out) : (d.emit o).hostFull = d.hostFull := rfl
@[simp] theorem Dev.emit_fresh (o : Out) : (d.emit o).fresh = d.fresh := rfl
@[simp] theorem Dev.emit_reg (o : Out) (a : Nat) : (d.emit o).reg a = d.reg a := rfl
@[simp] theorem Dev.emit_rd (o : Out) (x : Fld) : (d.emit o).rd x = d.rd x := rfl
@[simp] theorem Dev.emit_rdB (o : Out) (x : Fld) : (d.emit o).rdB x = d.rdB x := rfl
@[simp] theorem Dev.emit_rdS (o : Out) (x : Fld) : (d.emit o).rdS x = d.rdS x := rfl
@[simp] theorem Dev.emit_pt (o : Out) (i j : Nat) : (d.emit o).pt i j = d.pt i j := rfl
@[simp] theorem Dev.emit_dm (o : Out) (i j : Nat) : (d.emit o).dm i j = d.dm i j := rfl
@[simp] theorem Dev.emit_fd (o : Out) (i : Nat) : (d.emit o).fd i = d.fd i := rfl
@[simp] theorem Dev.emit_cl (o : Out) (i j : Nat) : (d.emit o).cl i j = d.cl i j := rfl
@[simp] theorem Dev.emit_ti (o : Out) (i j l : Nat) : (d.emit o).ti i j l = d.ti i j l := rfl
@[simp] theorem Dev.emit_ent (o : Out) (i : Nat) : (d.emit o).ent i = d.ent i := rfl
@[simp] theorem Dev.emit_recd (o : Out) (i : Nat) : (d.emit o).recd i = d.recd i := rfl
@[simp] theorem Dev.emit_job (o : Out) (i : Nat) : (d.emit o).job i = d.job i := rfl

/-! raiseR: changes fc alone. -/

@[simp] theorem Dev.raiseR_regs (r : Report) : (d.raiseR r).regs = d.regs := rfl
@[simp] theorem Dev.raiseR_sram (r : Report) : (d.raiseR r).sram = d.sram := rfl
@[simp] theorem Dev.raiseR_shadow (r : Report) : (d.raiseR r).shadow = d.shadow := rfl
@[simp] theorem Dev.raiseR_busData (r : Report) : (d.raiseR r).busData = d.busData := rfl
@[simp] theorem Dev.raiseR_pins (r : Report) : (d.raiseR r).pins = d.pins := rfl
@[simp] theorem Dev.raiseR_time (r : Report) : (d.raiseR r).time = d.time := rfl
@[simp] theorem Dev.raiseR_pat (r : Report) : (d.raiseR r).pat = d.pat := rfl
@[simp] theorem Dev.raiseR_dom (r : Report) : (d.raiseR r).dom = d.dom := rfl
@[simp] theorem Dev.raiseR_fld (r : Report) : (d.raiseR r).fld = d.fld := rfl
@[simp] theorem Dev.raiseR_cls (r : Report) : (d.raiseR r).cls = d.cls := rfl
@[simp] theorem Dev.raiseR_tile (r : Report) : (d.raiseR r).tile = d.tile := rfl
@[simp] theorem Dev.raiseR_inst (r : Report) : (d.raiseR r).inst = d.inst := rfl
@[simp] theorem Dev.raiseR_bud (r : Report) : (d.raiseR r).bud = d.bud := rfl
@[simp] theorem Dev.raiseR_led (r : Report) : (d.raiseR r).led = d.led := rfl
@[simp] theorem Dev.raiseR_rp (r : Report) : (d.raiseR r).rp = d.rp := rfl
@[simp] theorem Dev.raiseR_pp (r : Report) : (d.raiseR r).pp = d.pp := rfl
@[simp] theorem Dev.raiseR_clk (r : Report) : (d.raiseR r).clk = d.clk := rfl
@[simp] theorem Dev.raiseR_start (r : Report) : (d.raiseR r).start = d.start := rfl
@[simp] theorem Dev.raiseR_nv (r : Report) : (d.raiseR r).nv = d.nv := rfl
@[simp] theorem Dev.raiseR_test (r : Report) : (d.raiseR r).test = d.test := rfl
@[simp] theorem Dev.raiseR_ev (r : Report) : (d.raiseR r).ev = d.ev := rfl
@[simp] theorem Dev.raiseR_mg (r : Report) : (d.raiseR r).mg = d.mg := rfl
@[simp] theorem Dev.raiseR_sel (r : Report) : (d.raiseR r).sel = d.sel := rfl
@[simp] theorem Dev.raiseR_chan (r : Report) : (d.raiseR r).chan = d.chan := rfl
@[simp] theorem Dev.raiseR_opt (r : Report) : (d.raiseR r).opt = d.opt := rfl
@[simp] theorem Dev.raiseR_out (r : Report) : (d.raiseR r).out = d.out := rfl
@[simp] theorem Dev.raiseR_hostFull (r : Report) : (d.raiseR r).hostFull = d.hostFull := rfl
@[simp] theorem Dev.raiseR_fresh (r : Report) : (d.raiseR r).fresh = d.fresh := rfl
@[simp] theorem Dev.raiseR_reg (r : Report) (a : Nat) : (d.raiseR r).reg a = d.reg a := rfl
@[simp] theorem Dev.raiseR_rd (r : Report) (x : Fld) : (d.raiseR r).rd x = d.rd x := rfl
@[simp] theorem Dev.raiseR_rdB (r : Report) (x : Fld) : (d.raiseR r).rdB x = d.rdB x := rfl
@[simp] theorem Dev.raiseR_rdS (r : Report) (x : Fld) : (d.raiseR r).rdS x = d.rdS x := rfl
@[simp] theorem Dev.raiseR_pt (r : Report) (i j : Nat) : (d.raiseR r).pt i j = d.pt i j := rfl
@[simp] theorem Dev.raiseR_dm (r : Report) (i j : Nat) : (d.raiseR r).dm i j = d.dm i j := rfl
@[simp] theorem Dev.raiseR_fd (r : Report) (i : Nat) : (d.raiseR r).fd i = d.fd i := rfl
@[simp] theorem Dev.raiseR_cl (r : Report) (i j : Nat) : (d.raiseR r).cl i j = d.cl i j := rfl
@[simp] theorem Dev.raiseR_ti (r : Report) (i j l : Nat) : (d.raiseR r).ti i j l = d.ti i j l := rfl
@[simp] theorem Dev.raiseR_ent (r : Report) (i : Nat) : (d.raiseR r).ent i = d.ent i := rfl
@[simp] theorem Dev.raiseR_recd (r : Report) (i : Nat) : (d.raiseR r).recd i = d.recd i := rfl
@[simp] theorem Dev.raiseR_job (r : Report) (i : Nat) : (d.raiseR r).job i = d.job i := rfl

/-! raise: changes fc alone. -/

@[simp] theorem Dev.raise_regs (c : FClass) (y f n : Nat) : (d.raise c y f n).regs = d.regs := rfl
@[simp] theorem Dev.raise_sram (c : FClass) (y f n : Nat) : (d.raise c y f n).sram = d.sram := rfl
@[simp] theorem Dev.raise_shadow (c : FClass) (y f n : Nat) : (d.raise c y f n).shadow = d.shadow := rfl
@[simp] theorem Dev.raise_busData (c : FClass) (y f n : Nat) : (d.raise c y f n).busData = d.busData := rfl
@[simp] theorem Dev.raise_pins (c : FClass) (y f n : Nat) : (d.raise c y f n).pins = d.pins := rfl
@[simp] theorem Dev.raise_time (c : FClass) (y f n : Nat) : (d.raise c y f n).time = d.time := rfl
@[simp] theorem Dev.raise_pat (c : FClass) (y f n : Nat) : (d.raise c y f n).pat = d.pat := rfl
@[simp] theorem Dev.raise_dom (c : FClass) (y f n : Nat) : (d.raise c y f n).dom = d.dom := rfl
@[simp] theorem Dev.raise_fld (c : FClass) (y f n : Nat) : (d.raise c y f n).fld = d.fld := rfl
@[simp] theorem Dev.raise_cls (c : FClass) (y f n : Nat) : (d.raise c y f n).cls = d.cls := rfl
@[simp] theorem Dev.raise_tile (c : FClass) (y f n : Nat) : (d.raise c y f n).tile = d.tile := rfl
@[simp] theorem Dev.raise_inst (c : FClass) (y f n : Nat) : (d.raise c y f n).inst = d.inst := rfl
@[simp] theorem Dev.raise_bud (c : FClass) (y f n : Nat) : (d.raise c y f n).bud = d.bud := rfl
@[simp] theorem Dev.raise_led (c : FClass) (y f n : Nat) : (d.raise c y f n).led = d.led := rfl
@[simp] theorem Dev.raise_rp (c : FClass) (y f n : Nat) : (d.raise c y f n).rp = d.rp := rfl
@[simp] theorem Dev.raise_pp (c : FClass) (y f n : Nat) : (d.raise c y f n).pp = d.pp := rfl
@[simp] theorem Dev.raise_clk (c : FClass) (y f n : Nat) : (d.raise c y f n).clk = d.clk := rfl
@[simp] theorem Dev.raise_start (c : FClass) (y f n : Nat) : (d.raise c y f n).start = d.start := rfl
@[simp] theorem Dev.raise_nv (c : FClass) (y f n : Nat) : (d.raise c y f n).nv = d.nv := rfl
@[simp] theorem Dev.raise_test (c : FClass) (y f n : Nat) : (d.raise c y f n).test = d.test := rfl
@[simp] theorem Dev.raise_ev (c : FClass) (y f n : Nat) : (d.raise c y f n).ev = d.ev := rfl
@[simp] theorem Dev.raise_mg (c : FClass) (y f n : Nat) : (d.raise c y f n).mg = d.mg := rfl
@[simp] theorem Dev.raise_sel (c : FClass) (y f n : Nat) : (d.raise c y f n).sel = d.sel := rfl
@[simp] theorem Dev.raise_chan (c : FClass) (y f n : Nat) : (d.raise c y f n).chan = d.chan := rfl
@[simp] theorem Dev.raise_opt (c : FClass) (y f n : Nat) : (d.raise c y f n).opt = d.opt := rfl
@[simp] theorem Dev.raise_out (c : FClass) (y f n : Nat) : (d.raise c y f n).out = d.out := rfl
@[simp] theorem Dev.raise_hostFull (c : FClass) (y f n : Nat) : (d.raise c y f n).hostFull = d.hostFull := rfl
@[simp] theorem Dev.raise_fresh (c : FClass) (y f n : Nat) : (d.raise c y f n).fresh = d.fresh := rfl
@[simp] theorem Dev.raise_reg (c : FClass) (y f n : Nat) (a : Nat) : (d.raise c y f n).reg a = d.reg a := rfl
@[simp] theorem Dev.raise_rd (c : FClass) (y f n : Nat) (x : Fld) : (d.raise c y f n).rd x = d.rd x := rfl
@[simp] theorem Dev.raise_rdB (c : FClass) (y f n : Nat) (x : Fld) : (d.raise c y f n).rdB x = d.rdB x := rfl
@[simp] theorem Dev.raise_rdS (c : FClass) (y f n : Nat) (x : Fld) : (d.raise c y f n).rdS x = d.rdS x := rfl
@[simp] theorem Dev.raise_pt (c : FClass) (y f n : Nat) (i j : Nat) : (d.raise c y f n).pt i j = d.pt i j := rfl
@[simp] theorem Dev.raise_dm (c : FClass) (y f n : Nat) (i j : Nat) : (d.raise c y f n).dm i j = d.dm i j := rfl
@[simp] theorem Dev.raise_fd (c : FClass) (y f n : Nat) (i : Nat) : (d.raise c y f n).fd i = d.fd i := rfl
@[simp] theorem Dev.raise_cl (c : FClass) (y f n : Nat) (i j : Nat) : (d.raise c y f n).cl i j = d.cl i j := rfl
@[simp] theorem Dev.raise_ti (c : FClass) (y f n : Nat) (i j l : Nat) : (d.raise c y f n).ti i j l = d.ti i j l := rfl
@[simp] theorem Dev.raise_ent (c : FClass) (y f n : Nat) (i : Nat) : (d.raise c y f n).ent i = d.ent i := rfl
@[simp] theorem Dev.raise_recd (c : FClass) (y f n : Nat) (i : Nat) : (d.raise c y f n).recd i = d.recd i := rfl
@[simp] theorem Dev.raise_job (c : FClass) (y f n : Nat) (i : Nat) : (d.raise c y f n).job i = d.job i := rfl

/-! updTime: changes time alone. -/

@[simp] theorem Dev.updTime_regs (g : TimeS → TimeS) : (d.updTime g).regs = d.regs := rfl
@[simp] theorem Dev.updTime_sram (g : TimeS → TimeS) : (d.updTime g).sram = d.sram := rfl
@[simp] theorem Dev.updTime_shadow (g : TimeS → TimeS) : (d.updTime g).shadow = d.shadow := rfl
@[simp] theorem Dev.updTime_busData (g : TimeS → TimeS) : (d.updTime g).busData = d.busData := rfl
@[simp] theorem Dev.updTime_pins (g : TimeS → TimeS) : (d.updTime g).pins = d.pins := rfl
@[simp] theorem Dev.updTime_pat (g : TimeS → TimeS) : (d.updTime g).pat = d.pat := rfl
@[simp] theorem Dev.updTime_dom (g : TimeS → TimeS) : (d.updTime g).dom = d.dom := rfl
@[simp] theorem Dev.updTime_fld (g : TimeS → TimeS) : (d.updTime g).fld = d.fld := rfl
@[simp] theorem Dev.updTime_cls (g : TimeS → TimeS) : (d.updTime g).cls = d.cls := rfl
@[simp] theorem Dev.updTime_tile (g : TimeS → TimeS) : (d.updTime g).tile = d.tile := rfl
@[simp] theorem Dev.updTime_inst (g : TimeS → TimeS) : (d.updTime g).inst = d.inst := rfl
@[simp] theorem Dev.updTime_bud (g : TimeS → TimeS) : (d.updTime g).bud = d.bud := rfl
@[simp] theorem Dev.updTime_led (g : TimeS → TimeS) : (d.updTime g).led = d.led := rfl
@[simp] theorem Dev.updTime_rp (g : TimeS → TimeS) : (d.updTime g).rp = d.rp := rfl
@[simp] theorem Dev.updTime_fc (g : TimeS → TimeS) : (d.updTime g).fc = d.fc := rfl
@[simp] theorem Dev.updTime_pp (g : TimeS → TimeS) : (d.updTime g).pp = d.pp := rfl
@[simp] theorem Dev.updTime_clk (g : TimeS → TimeS) : (d.updTime g).clk = d.clk := rfl
@[simp] theorem Dev.updTime_start (g : TimeS → TimeS) : (d.updTime g).start = d.start := rfl
@[simp] theorem Dev.updTime_nv (g : TimeS → TimeS) : (d.updTime g).nv = d.nv := rfl
@[simp] theorem Dev.updTime_test (g : TimeS → TimeS) : (d.updTime g).test = d.test := rfl
@[simp] theorem Dev.updTime_ev (g : TimeS → TimeS) : (d.updTime g).ev = d.ev := rfl
@[simp] theorem Dev.updTime_mg (g : TimeS → TimeS) : (d.updTime g).mg = d.mg := rfl
@[simp] theorem Dev.updTime_sel (g : TimeS → TimeS) : (d.updTime g).sel = d.sel := rfl
@[simp] theorem Dev.updTime_chan (g : TimeS → TimeS) : (d.updTime g).chan = d.chan := rfl
@[simp] theorem Dev.updTime_opt (g : TimeS → TimeS) : (d.updTime g).opt = d.opt := rfl
@[simp] theorem Dev.updTime_out (g : TimeS → TimeS) : (d.updTime g).out = d.out := rfl
@[simp] theorem Dev.updTime_hostFull (g : TimeS → TimeS) : (d.updTime g).hostFull = d.hostFull := rfl
@[simp] theorem Dev.updTime_fresh (g : TimeS → TimeS) : (d.updTime g).fresh = d.fresh := rfl
@[simp] theorem Dev.updTime_reg (g : TimeS → TimeS) (a : Nat) : (d.updTime g).reg a = d.reg a := rfl
@[simp] theorem Dev.updTime_rd (g : TimeS → TimeS) (x : Fld) : (d.updTime g).rd x = d.rd x := rfl
@[simp] theorem Dev.updTime_rdB (g : TimeS → TimeS) (x : Fld) : (d.updTime g).rdB x = d.rdB x := rfl
@[simp] theorem Dev.updTime_rdS (g : TimeS → TimeS) (x : Fld) : (d.updTime g).rdS x = d.rdS x := rfl
@[simp] theorem Dev.updTime_pt (g : TimeS → TimeS) (i j : Nat) : (d.updTime g).pt i j = d.pt i j := rfl
@[simp] theorem Dev.updTime_dm (g : TimeS → TimeS) (i j : Nat) : (d.updTime g).dm i j = d.dm i j := rfl
@[simp] theorem Dev.updTime_fd (g : TimeS → TimeS) (i : Nat) : (d.updTime g).fd i = d.fd i := rfl
@[simp] theorem Dev.updTime_cl (g : TimeS → TimeS) (i j : Nat) : (d.updTime g).cl i j = d.cl i j := rfl
@[simp] theorem Dev.updTime_ti (g : TimeS → TimeS) (i j l : Nat) : (d.updTime g).ti i j l = d.ti i j l := rfl
@[simp] theorem Dev.updTime_ent (g : TimeS → TimeS) (i : Nat) : (d.updTime g).ent i = d.ent i := rfl
@[simp] theorem Dev.updTime_recd (g : TimeS → TimeS) (i : Nat) : (d.updTime g).recd i = d.recd i := rfl
@[simp] theorem Dev.updTime_job (g : TimeS → TimeS) (i : Nat) : (d.updTime g).job i = d.job i := rfl

/-! updMg: changes mg alone. -/

@[simp] theorem Dev.updMg_regs (g : MgmtS → MgmtS) : (d.updMg g).regs = d.regs := rfl
@[simp] theorem Dev.updMg_sram (g : MgmtS → MgmtS) : (d.updMg g).sram = d.sram := rfl
@[simp] theorem Dev.updMg_shadow (g : MgmtS → MgmtS) : (d.updMg g).shadow = d.shadow := rfl
@[simp] theorem Dev.updMg_busData (g : MgmtS → MgmtS) : (d.updMg g).busData = d.busData := rfl
@[simp] theorem Dev.updMg_pins (g : MgmtS → MgmtS) : (d.updMg g).pins = d.pins := rfl
@[simp] theorem Dev.updMg_time (g : MgmtS → MgmtS) : (d.updMg g).time = d.time := rfl
@[simp] theorem Dev.updMg_pat (g : MgmtS → MgmtS) : (d.updMg g).pat = d.pat := rfl
@[simp] theorem Dev.updMg_dom (g : MgmtS → MgmtS) : (d.updMg g).dom = d.dom := rfl
@[simp] theorem Dev.updMg_fld (g : MgmtS → MgmtS) : (d.updMg g).fld = d.fld := rfl
@[simp] theorem Dev.updMg_cls (g : MgmtS → MgmtS) : (d.updMg g).cls = d.cls := rfl
@[simp] theorem Dev.updMg_tile (g : MgmtS → MgmtS) : (d.updMg g).tile = d.tile := rfl
@[simp] theorem Dev.updMg_inst (g : MgmtS → MgmtS) : (d.updMg g).inst = d.inst := rfl
@[simp] theorem Dev.updMg_bud (g : MgmtS → MgmtS) : (d.updMg g).bud = d.bud := rfl
@[simp] theorem Dev.updMg_led (g : MgmtS → MgmtS) : (d.updMg g).led = d.led := rfl
@[simp] theorem Dev.updMg_rp (g : MgmtS → MgmtS) : (d.updMg g).rp = d.rp := rfl
@[simp] theorem Dev.updMg_fc (g : MgmtS → MgmtS) : (d.updMg g).fc = d.fc := rfl
@[simp] theorem Dev.updMg_pp (g : MgmtS → MgmtS) : (d.updMg g).pp = d.pp := rfl
@[simp] theorem Dev.updMg_clk (g : MgmtS → MgmtS) : (d.updMg g).clk = d.clk := rfl
@[simp] theorem Dev.updMg_start (g : MgmtS → MgmtS) : (d.updMg g).start = d.start := rfl
@[simp] theorem Dev.updMg_nv (g : MgmtS → MgmtS) : (d.updMg g).nv = d.nv := rfl
@[simp] theorem Dev.updMg_test (g : MgmtS → MgmtS) : (d.updMg g).test = d.test := rfl
@[simp] theorem Dev.updMg_ev (g : MgmtS → MgmtS) : (d.updMg g).ev = d.ev := rfl
@[simp] theorem Dev.updMg_sel (g : MgmtS → MgmtS) : (d.updMg g).sel = d.sel := rfl
@[simp] theorem Dev.updMg_chan (g : MgmtS → MgmtS) : (d.updMg g).chan = d.chan := rfl
@[simp] theorem Dev.updMg_opt (g : MgmtS → MgmtS) : (d.updMg g).opt = d.opt := rfl
@[simp] theorem Dev.updMg_out (g : MgmtS → MgmtS) : (d.updMg g).out = d.out := rfl
@[simp] theorem Dev.updMg_hostFull (g : MgmtS → MgmtS) : (d.updMg g).hostFull = d.hostFull := rfl
@[simp] theorem Dev.updMg_fresh (g : MgmtS → MgmtS) : (d.updMg g).fresh = d.fresh := rfl
@[simp] theorem Dev.updMg_reg (g : MgmtS → MgmtS) (a : Nat) : (d.updMg g).reg a = d.reg a := rfl
@[simp] theorem Dev.updMg_rd (g : MgmtS → MgmtS) (x : Fld) : (d.updMg g).rd x = d.rd x := rfl
@[simp] theorem Dev.updMg_rdB (g : MgmtS → MgmtS) (x : Fld) : (d.updMg g).rdB x = d.rdB x := rfl
@[simp] theorem Dev.updMg_rdS (g : MgmtS → MgmtS) (x : Fld) : (d.updMg g).rdS x = d.rdS x := rfl
@[simp] theorem Dev.updMg_pt (g : MgmtS → MgmtS) (i j : Nat) : (d.updMg g).pt i j = d.pt i j := rfl
@[simp] theorem Dev.updMg_dm (g : MgmtS → MgmtS) (i j : Nat) : (d.updMg g).dm i j = d.dm i j := rfl
@[simp] theorem Dev.updMg_fd (g : MgmtS → MgmtS) (i : Nat) : (d.updMg g).fd i = d.fd i := rfl
@[simp] theorem Dev.updMg_cl (g : MgmtS → MgmtS) (i j : Nat) : (d.updMg g).cl i j = d.cl i j := rfl
@[simp] theorem Dev.updMg_ti (g : MgmtS → MgmtS) (i j l : Nat) : (d.updMg g).ti i j l = d.ti i j l := rfl
@[simp] theorem Dev.updMg_ent (g : MgmtS → MgmtS) (i : Nat) : (d.updMg g).ent i = d.ent i := rfl
@[simp] theorem Dev.updMg_recd (g : MgmtS → MgmtS) (i : Nat) : (d.updMg g).recd i = d.recd i := rfl
@[simp] theorem Dev.updMg_job (g : MgmtS → MgmtS) (i : Nat) : (d.updMg g).job i = d.job i := rfl

/-! updNv: changes nv alone. -/

@[simp] theorem Dev.updNv_regs (g : NvmS → NvmS) : (d.updNv g).regs = d.regs := rfl
@[simp] theorem Dev.updNv_sram (g : NvmS → NvmS) : (d.updNv g).sram = d.sram := rfl
@[simp] theorem Dev.updNv_shadow (g : NvmS → NvmS) : (d.updNv g).shadow = d.shadow := rfl
@[simp] theorem Dev.updNv_busData (g : NvmS → NvmS) : (d.updNv g).busData = d.busData := rfl
@[simp] theorem Dev.updNv_pins (g : NvmS → NvmS) : (d.updNv g).pins = d.pins := rfl
@[simp] theorem Dev.updNv_time (g : NvmS → NvmS) : (d.updNv g).time = d.time := rfl
@[simp] theorem Dev.updNv_pat (g : NvmS → NvmS) : (d.updNv g).pat = d.pat := rfl
@[simp] theorem Dev.updNv_dom (g : NvmS → NvmS) : (d.updNv g).dom = d.dom := rfl
@[simp] theorem Dev.updNv_fld (g : NvmS → NvmS) : (d.updNv g).fld = d.fld := rfl
@[simp] theorem Dev.updNv_cls (g : NvmS → NvmS) : (d.updNv g).cls = d.cls := rfl
@[simp] theorem Dev.updNv_tile (g : NvmS → NvmS) : (d.updNv g).tile = d.tile := rfl
@[simp] theorem Dev.updNv_inst (g : NvmS → NvmS) : (d.updNv g).inst = d.inst := rfl
@[simp] theorem Dev.updNv_bud (g : NvmS → NvmS) : (d.updNv g).bud = d.bud := rfl
@[simp] theorem Dev.updNv_led (g : NvmS → NvmS) : (d.updNv g).led = d.led := rfl
@[simp] theorem Dev.updNv_rp (g : NvmS → NvmS) : (d.updNv g).rp = d.rp := rfl
@[simp] theorem Dev.updNv_fc (g : NvmS → NvmS) : (d.updNv g).fc = d.fc := rfl
@[simp] theorem Dev.updNv_pp (g : NvmS → NvmS) : (d.updNv g).pp = d.pp := rfl
@[simp] theorem Dev.updNv_clk (g : NvmS → NvmS) : (d.updNv g).clk = d.clk := rfl
@[simp] theorem Dev.updNv_start (g : NvmS → NvmS) : (d.updNv g).start = d.start := rfl
@[simp] theorem Dev.updNv_test (g : NvmS → NvmS) : (d.updNv g).test = d.test := rfl
@[simp] theorem Dev.updNv_ev (g : NvmS → NvmS) : (d.updNv g).ev = d.ev := rfl
@[simp] theorem Dev.updNv_mg (g : NvmS → NvmS) : (d.updNv g).mg = d.mg := rfl
@[simp] theorem Dev.updNv_sel (g : NvmS → NvmS) : (d.updNv g).sel = d.sel := rfl
@[simp] theorem Dev.updNv_chan (g : NvmS → NvmS) : (d.updNv g).chan = d.chan := rfl
@[simp] theorem Dev.updNv_opt (g : NvmS → NvmS) : (d.updNv g).opt = d.opt := rfl
@[simp] theorem Dev.updNv_out (g : NvmS → NvmS) : (d.updNv g).out = d.out := rfl
@[simp] theorem Dev.updNv_hostFull (g : NvmS → NvmS) : (d.updNv g).hostFull = d.hostFull := rfl
@[simp] theorem Dev.updNv_fresh (g : NvmS → NvmS) : (d.updNv g).fresh = d.fresh := rfl
@[simp] theorem Dev.updNv_reg (g : NvmS → NvmS) (a : Nat) : (d.updNv g).reg a = d.reg a := rfl
@[simp] theorem Dev.updNv_rd (g : NvmS → NvmS) (x : Fld) : (d.updNv g).rd x = d.rd x := rfl
@[simp] theorem Dev.updNv_rdB (g : NvmS → NvmS) (x : Fld) : (d.updNv g).rdB x = d.rdB x := rfl
@[simp] theorem Dev.updNv_rdS (g : NvmS → NvmS) (x : Fld) : (d.updNv g).rdS x = d.rdS x := rfl
@[simp] theorem Dev.updNv_pt (g : NvmS → NvmS) (i j : Nat) : (d.updNv g).pt i j = d.pt i j := rfl
@[simp] theorem Dev.updNv_dm (g : NvmS → NvmS) (i j : Nat) : (d.updNv g).dm i j = d.dm i j := rfl
@[simp] theorem Dev.updNv_fd (g : NvmS → NvmS) (i : Nat) : (d.updNv g).fd i = d.fd i := rfl
@[simp] theorem Dev.updNv_cl (g : NvmS → NvmS) (i j : Nat) : (d.updNv g).cl i j = d.cl i j := rfl
@[simp] theorem Dev.updNv_ti (g : NvmS → NvmS) (i j l : Nat) : (d.updNv g).ti i j l = d.ti i j l := rfl
@[simp] theorem Dev.updNv_ent (g : NvmS → NvmS) (i : Nat) : (d.updNv g).ent i = d.ent i := rfl
@[simp] theorem Dev.updNv_recd (g : NvmS → NvmS) (i : Nat) : (d.updNv g).recd i = d.recd i := rfl
@[simp] theorem Dev.updNv_job (g : NvmS → NvmS) (i : Nat) : (d.updNv g).job i = d.job i := rfl

/-! States: a change of everything but the queue and the fuses. -/

@[simp] theorem State.onDev_pending (g : Dev → Dev) (s : State) : (s.onDev g).pending = s.pending := rfl
@[simp] theorem State.onDev_fuses (g : Dev → Dev) (s : State) : (s.onDev g).fuses = s.fuses := rfl
@[simp] theorem State.onDev_dev (g : Dev → Dev) (s : State) : (s.onDev g).dev = g s.dev := rfl

end Sys2Proof.Machine
end

