-- ==== Sys2Proof/Laws/Steps.lean ====
section
/-! SUPPORT. What every command does around its own effect: the alert settles (R413), RESET_N low holds everything (R9),
and what repeated changes keep. -/

namespace Sys2Proof.Machine

/-- Nothing but PM_STATUS.ALERT and the word as last seen changes when the alert settles. -/
theorem settle_eq (d : Dev) : settle d = { d with regs := (settle d).regs, mg := { d.mg with word := (settle d).mg.word } } := by
  unfold settle
  split
  · dsimp only
    split
    · rfl
    · unfold onlyIf; split <;> rfl
  · rfl

/-- The alert settles without a change of any register but PM_STATUS. -/
theorem settle_reg (d : Dev) {a : Nat} (h : a ≠ PM_STATUS_ALERT.addr) : (settle d).reg a = d.reg a := by
  unfold settle
  split
  · dsimp only
    split
    · rfl
    · unfold onlyIf
      split
      · exact reg_wr_ne _ _ _ h
      · rfl
  · rfl

/-- The alert settles without a change of any field but PM_STATUS.ALERT. -/
theorem settle_rd (d : Dev) (fl : Fld)
    (h : fl.addr ≠ PM_STATUS_ALERT.addr ∨ fl.lo + fl.w ≤ PM_STATUS_ALERT.lo ∨ PM_STATUS_ALERT.lo + PM_STATUS_ALERT.w ≤ fl.lo) :
    (settle d).rd fl = d.rd fl := by
  unfold settle
  split
  · dsimp only
    split
    · rfl
    · unfold onlyIf
      split
      · exact rd_wrB_ne _ _ _ _ h
      · rfl
  · rfl

theorem settle_rdB (d : Dev) (fl : Fld)
    (h : fl.addr ≠ PM_STATUS_ALERT.addr ∨ fl.lo + fl.w ≤ PM_STATUS_ALERT.lo ∨ PM_STATUS_ALERT.lo + PM_STATUS_ALERT.w ≤ fl.lo) :
    (settle d).rdB fl = d.rdB fl := by simp [Dev.rdB, settle_rd d fl h]

/-! The alert settles without a change of any part of the state but the registers and STATUS_WORD as last seen. -/

@[simp] theorem settle_sram (d : Dev) : (settle d).sram = d.sram := by rw [settle_eq d]
@[simp] theorem settle_shadow (d : Dev) : (settle d).shadow = d.shadow := by rw [settle_eq d]
@[simp] theorem settle_busData (d : Dev) : (settle d).busData = d.busData := by rw [settle_eq d]
@[simp] theorem settle_pins (d : Dev) : (settle d).pins = d.pins := by rw [settle_eq d]
@[simp] theorem settle_time (d : Dev) : (settle d).time = d.time := by rw [settle_eq d]
@[simp] theorem settle_pat (d : Dev) : (settle d).pat = d.pat := by rw [settle_eq d]
@[simp] theorem settle_dom (d : Dev) : (settle d).dom = d.dom := by rw [settle_eq d]
@[simp] theorem settle_fld (d : Dev) : (settle d).fld = d.fld := by rw [settle_eq d]
@[simp] theorem settle_cls (d : Dev) : (settle d).cls = d.cls := by rw [settle_eq d]
@[simp] theorem settle_tile (d : Dev) : (settle d).tile = d.tile := by rw [settle_eq d]
@[simp] theorem settle_inst (d : Dev) : (settle d).inst = d.inst := by rw [settle_eq d]
@[simp] theorem settle_bud (d : Dev) : (settle d).bud = d.bud := by rw [settle_eq d]
@[simp] theorem settle_led (d : Dev) : (settle d).led = d.led := by rw [settle_eq d]
@[simp] theorem settle_rp (d : Dev) : (settle d).rp = d.rp := by rw [settle_eq d]
@[simp] theorem settle_fc (d : Dev) : (settle d).fc = d.fc := by rw [settle_eq d]
@[simp] theorem settle_pp (d : Dev) : (settle d).pp = d.pp := by rw [settle_eq d]
@[simp] theorem settle_clk (d : Dev) : (settle d).clk = d.clk := by rw [settle_eq d]
@[simp] theorem settle_start (d : Dev) : (settle d).start = d.start := by rw [settle_eq d]
@[simp] theorem settle_nv (d : Dev) : (settle d).nv = d.nv := by rw [settle_eq d]
@[simp] theorem settle_test (d : Dev) : (settle d).test = d.test := by rw [settle_eq d]
@[simp] theorem settle_ev (d : Dev) : (settle d).ev = d.ev := by rw [settle_eq d]
@[simp] theorem settle_sel (d : Dev) : (settle d).sel = d.sel := by rw [settle_eq d]
@[simp] theorem settle_chan (d : Dev) : (settle d).chan = d.chan := by rw [settle_eq d]
@[simp] theorem settle_opt (d : Dev) : (settle d).opt = d.opt := by rw [settle_eq d]
@[simp] theorem settle_out (d : Dev) : (settle d).out = d.out := by rw [settle_eq d]
@[simp] theorem settle_hostFull (d : Dev) : (settle d).hostFull = d.hostFull := by rw [settle_eq d]
@[simp] theorem settle_fresh (d : Dev) : (settle d).fresh = d.fresh := by rw [settle_eq d]

/-! The next states of commands. -/

/-- A command that no reset holds answers its next state. -/
theorem always_next (g : Dev → Dev) (s : State) : always g s = .next { s with dev := settle (g s.dev) } := rfl

/-- A command answers a next state: its change while no reset holds the part, else none. -/
theorem done_next (g : Dev → Dev) (s : State) :
    done g s = .next { s with dev := settle (if s.dev.released = true then g s.dev else s.dev) } := rfl

/-- With the part released from reset a command has its change. -/
theorem done_high (g : Dev → Dev) (s : State) (h : s.dev.released = true) :
    done g s = .next { s with dev := settle (g s.dev) } := by rw [done_next, if_pos h]

/-- With the part held in reset a command that the reset holds changes nothing but the alert. -/
theorem done_low (g : Dev → Dev) (s : State) (h : s.dev.released = false) :
    done g s = .next { s with dev := settle s.dev } := by rw [done_next, if_neg (by simp [h])]

/-! What a command changes at most. -/

/-- A change that gives the parts e beside the registers, settled. -/
theorem parts_settle {s : State} {d e : Dev} (h : d = { e with regs := d.regs }) : s.parts { s with dev := settle d } e := by
  obtain ⟨r, rfl⟩ : ∃ r, d = { e with regs := r } := ⟨_, h⟩
  exact congrArg (fun x => ({ s with dev := x } : State)) (settle_eq _)

/-- A change that keeps the fields apart from a list, settled. -/
theorem fields_settle {s : State} {d : Dev} {l : List Fld}
    (h : ∀ x : Fld, (∀ y ∈ l, x.apart y) → d.rd x = s.dev.rd x) : s.fields { s with dev := settle d } l :=
  fun x ha hl => (settle_rd d x ha).trans (h x hl)

/-- Both together. -/
theorem changes_settle {s : State} {d e : Dev} {l : List Fld} (h : d = { e with regs := d.regs })
    (h' : ∀ x : Fld, (∀ y ∈ l, x.apart y) → d.rd x = s.dev.rd x) : s.changes { s with dev := settle d } e l :=
  ⟨parts_settle h, fields_settle h'⟩

/-- A command that a reset holds completes with the part released. -/
theorem completes_done {c : Instr} {s : State} {g : Dev → Dev} {Q : State → Prop} (hc : exec c s = done g s)
    (h : s.awake) (q : Q { s with dev := settle (g s.dev) }) : Completes c s Q :=
  ⟨_, hc.trans (done_high g s h), q⟩

/-! What repeated changes keep. -/

/-- What every change of a list keeps, the whole list keeps. -/
theorem forL_keep {α β : Type} (proj : Dev → β) (l : List α) (g : α → Dev → Dev)
    (h : ∀ x d, proj (g x d) = proj d) (d : Dev) : proj (forL l g d) = proj d := by
  unfold forL
  induction l generalizing d with
  | nil => rfl
  | cons x l ih => rw [List.foldl_cons, ih, h]

/-- What every change below n keeps, all of them keep. -/
theorem forN_keep {β : Type} (proj : Dev → β) (n : Nat) (g : Nat → Dev → Dev)
    (h : ∀ i d, proj (g i d) = proj d) (d : Dev) : proj (forN n g d) = proj d := forL_keep proj (List.range n) g h d

/-- What a change keeps, it keeps where it is made on a condition. -/
theorem onlyIf_keep {β : Type} (proj : Dev → β) (b : Bool) (g : Dev → Dev) (h : ∀ d, proj (g d) = proj d) (d : Dev) :
    proj (onlyIf b g d) = proj d := by
  unfold onlyIf
  split
  · exact h d
  · rfl

@[simp] theorem onlyIf_true (g : Dev → Dev) (d : Dev) : onlyIf true g d = g d := rfl
@[simp] theorem onlyIf_false (g : Dev → Dev) (d : Dev) : onlyIf false g d = d := rfl

/-! The numbered parts: a change of one is read back, and leaves the others. -/

@[simp] theorem fd_updFd (f : Nat) (g : FieldS → FieldS) (d : Dev) : (d.updFd f g).fd f = g (d.fd f) := by
  simp [Dev.fd, Dev.updFd]
theorem fd_updFd_ne {f f' : Nat} (g : FieldS → FieldS) (d : Dev) (h : f' ≠ f) : (d.updFd f g).fd f' = d.fd f' := by
  simp [Dev.fd, Dev.updFd, tget_tupd_ne _ _ _ h]
@[simp] theorem pt_updPt (f p : Nat) (g : PatchS → PatchS) (d : Dev) : (d.updPt f p g).pt f p = g (d.pt f p) := by
  simp [Dev.pt, Dev.updPt]
@[simp] theorem dm_updDm (f k : Nat) (g : DomS → DomS) (d : Dev) : (d.updDm f k g).dm f k = g (d.dm f k) := by
  simp [Dev.dm, Dev.updDm]
@[simp] theorem ti_updTi (f p t : Nat) (g : TileS → TileS) (d : Dev) : (d.updTi f p t g).ti f p t = g (d.ti f p t) := by
  simp [Dev.ti, Dev.updTi]
@[simp] theorem ent_setEnt (k : Nat) (e : Option Entry) (d : Dev) : (d.setEnt k e).ent k = e := by
  simp [Dev.ent, Dev.setEnt]
theorem ent_setEnt_ne {k k' : Nat} (e : Option Entry) (d : Dev) (h : k' ≠ k) : (d.setEnt k e).ent k' = d.ent k' := by
  simp [Dev.ent, Dev.setEnt, tget_tput_ne _ _ _ h]
@[simp] theorem recd_setRecd (k : Nat) (r : Option RRec) (d : Dev) : (d.setRecd k r).recd k = r := by
  simp [Dev.recd, Dev.setRecd]
@[simp] theorem job_setJob (j : Nat) (e : Option JobE) (d : Dev) : (d.setJob j e).job j = e := by
  simp [Dev.job, Dev.setJob]

end Sys2Proof.Machine
end

