-- ==== Sys2Proof/WellFormed.lean ====
section
/-! DEFINITION. Which commands are well formed: what the rules say of a command's operands and their types do not. An
ill-formed command cannot arise; the machine gives it an effect all the same, since no step asks. Log entry 14. -/

namespace Sys2Proof

/-- R280: a message is 1 to 16 cells of 64 bytes. -/
def wfMessage (m : Cells) : Bool :=
  m.bytes.length % 64 = 0 && decide (64 ≤ m.bytes.length) && decide (m.bytes.length ≤ 1024)

/-- A list that names each of its subjects once. -/
def once {α : Type} (key : α → Nat) (l : List α) : Bool := decide ((l.map key).Nodup)

/-- The number of a patch on the wafer. -/
def patchNo (f : Fin 96) (p : Fin 36) : Nat := f.val * 36 + p.val

/-- R203: a begin marker holds up to 4 output tags. -/
def wfTags (tags : List TagObs) : Bool := decide (tags.length ≤ 4)

/-- R55: a scan gives one pair of conversions per patch. -/
def wfScans (l : List ScanObs) : Bool := once (fun x => patchNo x.field x.patch) l

/-- R65: one record of depths per patch. -/
def wfDepths (l : List DepthObs) : Bool := once (fun x => patchNo x.field x.patch) l

/-- R256, R264: one pair of comparators per patch. -/
def wfTrips (l : List TripObs) : Bool := once (fun x => patchNo x.field x.patch) l

/-- R258: a trip has some comparator high. -/
def wfHot (l : List TripObs) : Bool := l.any fun x => x.c0 || x.c1

/-- R69: one partial count per event of a patch. -/
def wfCounts (l : List CountObs) : Bool := once (fun x => x.patch.val * 10 + x.event.val) l

/-- R70: one partial count per interface event. -/
def wfIfaces (l : List IfaceObs) : Bool := once (fun x => x.event.val) l

/-- R40: a copy of the count that is reloaded disagrees. -/
def wfOfs (ofs : Int) : Bool := decide (ofs ≠ 0)

/-- R271: a report holds some temperature. -/
def wfTemps (l : List (BitVec 8)) : Bool := !l.isEmpty

/-- R416: a PMBus block carries 1 to 255 bytes. -/
def wfBlock (l : List Byte) : Bool := !l.isEmpty && decide (l.length ≤ 255)

/-- The well-formed commands. -/
def Instr.wf : Instr → Bool
  | .pickBoundary depths warm => wfDepths depths && wfTrips warm
  | .countReload _ _ ofs => wfOfs ofs
  | .thermalScan scans _ => wfScans scans
  | .eighthUpdate _ _ cs is => wfCounts cs && wfIfaces is
  | .beginMark _ _ _ _ tags => wfTags tags
  | .thermalTrip hot _ => wfTrips hot && wfHot hot
  | .optTempReport _ temps => wfTemps temps
  | .barrierNotice m | .slackNotice m | .ledgerNotice m | .destAck m | .ledgerQuery m | .heartbeat m | .ringPlace m
  | .dlv m | .nack m | .loanGrant m | .loanReturn m => wfMessage m
  | .timeReq m _ _ => wfMessage m
  | .timeReply m _ => wfMessage m
  | .imageOpen m _ | .imageChunk m _ => wfMessage m
  | .mfrJzImgChunk _ data _ _ => wfBlock data
  | .mfrJzIdentity challenge _ => wfBlock challenge
  | _ => true

end Sys2Proof
end

