-- ==== Sys2Proof/Tests/Slice0.lean ====
section
/-! SUPPORT. The model's own tests: ill-formed commands that WellFormed refuses, worked examples of the spec, and for each statement
states and operands that meet its hypotheses, clause by clause. -/

set_option Elab.async false

namespace Sys2Proof.Machine

/-! States that the tests start from. -/

/-- A state that differs from the one at reset in its device. -/
def stD (g : Dev → Dev) : State := { State.reset with dev := g Dev.init }

/-- The device with its timebase changed. -/
def inTime (g : TimeS → TimeS) (d : Dev) : Dev := { d with time := g d.time }

/-- A job of two fields, owned by host context 5. -/
def E5 : JobE :=
  { job := 78, owner := some 5, fields := [3, 4], waferMean := 1, phases := [⟨1, 1, 1, 20, 6, 0, 0, 0, 20⟩], phase := 0, tight := false
    misses := 0, missTold := false, wm := 0, wmTold := 0, shift := 0 }

/-- The device with that job in the job table and no admission under evaluation. -/
def S5 (d : Dev) : Dev := (d.updBud fun b => { b with jobs := [], adm := none }).setJob 2 (some E5)

/-- The device with its selvedge in RUN and fields 3 and 4 in service. -/
def serveAll (d : Dev) : Dev :=
  forL [3, 4] (fun f d => d.updFd f fun x => { x with enable := true, up := true, stop := .none }) (d.wr JZ_SEL_STATUS_STATE 1)

/-- The words of a load descriptor of job 79 on fields 3 and 4, with one phase. -/
def bADM : List Nat :=
  leBytes 4 0x31444C51 ++ [1, 1] ++ leBytes 2 79 ++ leBytes 12 24 ++ leBytes 4 10 ++ leBytes 4 9 ++ leBytes 4 0
    ++ leBytes 2 5 ++ leBytes 2 4 ++ leBytes 2 3 ++ [20, 6, 0, 0] ++ leBytes 2 1 ++ leBytes 4 0
def WADM : List Nat := ((List.range 12).map fun k => bytesAt bADM (4 * k) 4) ++ [crc32 bADM]
def EADM : Descr :=
  { job := 79, fields := [3, 4], peak := 10, mean := 9, tightOk := false, phases := [⟨5, 4, 3, 20, 6, 0, 0, 1, 20⟩] }
/-- The same job, with a tight plan. -/
def E5t : JobE := { E5 with tight := true }
def S5t (d : Dev) : Dev := (d.updBud fun b => { b with jobs := [], adm := none }).setJob 2 (some E5t)

/-- A job of fields 3 and 4 of the core, with number 77. -/
def E77 : JobE :=
  { job := 77, owner := none, fields := [3, 4], waferMean := 1, phases := [], phase := 0, tight := false
    misses := 0, missTold := false, wm := 0, wmTold := 0, shift := 0 }

/-- The device outside a global stop, with job 77 alone, patch 9 of field 3 no reserve, patches 1 to 3 of field 5 reserves. -/
def LG7 (d : Dev) : Dev :=
  (forL [1, 2, 3] (fun p d => d.wrB (ST_RSV 5 p) true) ((d.wrB TB_STATUS_STOPPED false).wrB (ST_RSV 3 9) false)).updBud
    fun b => { b with jobs := [(2, some E77)] }

/-- The StepTag of step 5 of job 77, with two tiles on one patch; of a step of another job. -/
def TAG7 : BitVec 64 := BitVec.ofNat 64 (77 + 5 * 2 ^ 12 + (2 + 4096) * 2 ^ 48)
def TAG8 : BitVec 64 := BitVec.ofNat 64 (3000 + 5 * 2 ^ 12 + (2 + 4096) * 2 ^ 48)
/-- An entry of that step, begun on a tile of patch 9. -/
def ENT7 : Entry := { (LG7 Dev.init).newEntry 77 5 4098 3 with begun := 2, begTiles := [9 * 256 + 200, 9 * 256 + 201] }
def inEnts (t : Tab (Option Entry)) (d : Dev) : Dev := (LG7 d).updLed fun l => { l with ents := t }
/-- A record of that entry. -/
def REC7 : RRec :=
  { entry := 7, phase := .tiebreak, audit := false, orig := ⟨3, [9], 40⟩, rep := none, tie := none, run := none, marked := [9], full := false
    rWrong := [], oWrong := [], verdict := .none, dR := 0, dT := 0, reqPick := 0, handPick := 0, runs := 1, job := 77, seq := 5, foot := 4098
    handAt := some 0, pR := [], pT := [], kR := 0, kT := 0, judged := none, winP := [], jPos := [], repAt := none }
/-- A tie-break run of it on two reserves of field 5. -/
def RUN7 : Run := { kind := 2, reg := ⟨5, [1, 2], 40⟩, reqAt := 0, beg := [0 * 256 + 4], fin := [], sums := [0, 0] }
def inRecs (g : ReplayS → ReplayS) (d : Dev) : Dev := (LG7 d).updRp g
def ENT7a : Entry := { ENT7 with st := .basted, seq := 4 }
def ENT7b : Entry := { ENT7 with endCnt := 1, endTiles := [9 * 256 + 201] }
def inAud (d : Dev) : Dev :=
  (inEnts [(7, some ENT7b)] (d.wr LG_RP_CFG1_AUDIT_DEF 16)).updBud fun b => { b with jobs := [(2, some { E77 with shift := 16 })] }
def ENT7w : Entry := { ENT7 with st := .unpicked, wdraw := true, gen := 1 }
def ENT7f : Entry := { ENT7 with dests := List.replicate 16 ⟨4, 0, none⟩ }
def ENT7u : Entry := { ENT7 with st := .unpicked, gen := 1, dests := [⟨3, 0, none⟩] }
def ENT7r : Entry := { ENT7 with st := .unpicked, cause := .replaced, gen := 1 }
/-- A peer that is present. -/
def PEER3 : Peer :=
  { addr := 600, st := .present, kind := 1, grant := 3, incarn := 8, lastHb := 0, silent := 0, idle := 0, hbNow := false, sent := 4, rcvd := 5 }

/-- A one-cell message from the peer above to this wafer, at address 77. -/
def MSG (t : Nat) (body : List Nat) : List Byte :=
  (padCells 1 (msgHeader t (((msgType t).map (·.1)).getD 0) 1 false 600 77 9 (40 * 4096) ++ body)).map (BitVec.ofNat 8)
/-- The device with its peer port in use and that peer in the table. -/
def PP9 (d : Dev) : Dev :=
  ((((d.wr PP_SELF_ADDR 77).wrB PP_STATUS_SELF_VALID true).wr JZ_SEL_STATUS_STATE 1).wrB JZ_STATUS_READY true).setPeer 3 (some PEER3)
/-- A message in PP_TX_BUF: type and cells, then 8 words of body. -/
def txMsg (t cls cells : Nat) (ws : List Nat) (d : Dev) : Dev :=
  forL ((List.range 256).zip ((t + 256 * (cls + (cells - 1) * 4)) :: 0 :: 0 :: 0 :: (ws ++ List.replicate 252 0))) (fun x d => d.wr (PP_TX_BUF_WORD x.1) x.2) d
/-- A request of three cells in flight to the peer, or waiting for its resend. -/
def TX9 (fly : Bool) : TxReq := { peer := 3, typ := 6, seq := 4, bytes := List.replicate 192 1, flying := fly, nackAt := 10, resends := 0 }
def inPP (g : PeerS → PeerS) (d : Dev) : Dev := (PP9 d).updPP g
/-- A three-cell request of the peer. -/
def REQ9 : List Byte :=
  (padCells 3 (msgHeader 6 0 3 false 600 77 9 (40 * 4096) ++ [0, 0, 1])).map (BitVec.ofNat 8)
/-- The ring empty with all its cells free, and no reservation. -/
def ringEmpty (d : Dev) : Dev := ((PP9 d).wr PP_RING_HEAD_HEAD 20).wr PP_RING_TAIL_TAIL 20 |>.wr PP_CFG0_GRANT_OFFER 3
/-- The device at a bolt boundary outside a global stop, with its peer port in use. -/
def BB9 (d : Dev) : Dev := inTime (fun t => { t with count := 7000 }) ((PP9 d).wrB TB_STATUS_STOPPED false)
/-- A loan in force. -/
def LOAN9 : Loan := { peer := 3, amount := 40, id := 6, expiry := 5000000, inForce := true, at_ := 1000, ending := true, returned := 0 }
/-- A proxy of a step of the peer, BASTED. -/
def PROXY9 : Entry := { ENT7 with st := .basted, remote := true, src := 600, rIndex := 12, begun := 0, begTiles := [], dests := [⟨3, 0, none⟩] }
/-- A collective window of job 77 and group 5. -/
def WIN9 : Win := { job := 77, group := 5, open_ := true, began := [3], ended := [], fSlow := none, sent := none, heard := [(600, 9)], m := none, matching := false }
/-- The device at a bolt boundary, stopped by the selvedge and ready to restart. -/
def RST12 (d : Dev) : Dev :=
  { (((((inTime (fun t => { t with count := 7000, nbRun := 999999999 }) (d.wr JZ_SEL_STATUS_STATE 2)).wrB TB_STATUS_STOPPED false).wrB
      JZ_SEL_STATUS_COOL_OK true).wrB JZ_SEL_STATUS_CAUSE_TRIP true).wrB JZ_SEL_STATUS_CAUSE_COOL true) with sel := { SelS.init with okFor := some 999999999, onRosc := false, coolFor := some 999999999 } }

/-- An IMAGE_OPEN of the peer: LENGTH 240, KEY 2, COUNTER 9. -/
def OPEN13 : List Byte :=
  (padCells 3 (msgHeader 8 0 3 false 600 77 9 (40 * 4096) ++ leBytes 3 240 ++ [2] ++ leBytes 4 0 ++ leBytes 8 9)).map (BitVec.ofNat 8)
/-- An IMAGE_CHUNK of the peer: OFFSET 8, two bytes. -/
def CHUNK13 : List Byte :=
  (padCells 1 (msgHeader 9 0 1 false 600 77 9 (40 * 4096) ++ leBytes 4 8 ++ leBytes 2 2 ++ leBytes 10 0 ++ [5, 6])).map (BitVec.ofNat 8)
/-- The least image: a header and an empty FIELD_MAP. -/
def IMG13 : List Nat :=
  leBytes 4 0x4D495A4A ++ leBytes 2 1 ++ leBytes 2 96 ++ leBytes 4 240 ++ leBytes 4 3 ++ leBytes 8 7 ++ leBytes 8 1
    ++ leBytes 4 2 ++ leBytes 4 48 ++ leBytes 4 0 ++ leBytes 4 (crc32 [])
/-- A session of the peer on slot A, for an image of 240 bytes. -/
def SES13 (next : Nat) (v : Bool) : Session := { peer := true, sender := some 600, slotB := false, len := 240, next, last := 0, verifying := v }
def inNv (g : NvmS → NvmS) (d : Dev) : Dev := (PP9 d).updNv g
/-- A pass of the signature engine for that IMAGE_OPEN. -/
def PASS13 : SigPass := { purpose := 2, key := 2, counter := 9, stamp := 50 * 4096, value := 0, urgent := false, len := 240 }
/-- The fuses with a root key hash. -/
def ROOT13 : Fuses := { State.reset.fuses with rootSet := true, rootHash := 5 }
/-- An image session verified in a device with the root key fused, and with none. -/
def VER13 (fz : Fuses) : State := { stD (fun d => nvProg 0x100000 IMG13 (inNv (fun n => { n with session := some (SES13 240 true) }) d)) with fuses := fz }
/-- The device with the NVM controller's gate open. -/
def GATE9 (d : Dev) : Dev := ((d.wrB (CK_GATE_EN 9) true).wrB (CK_GATE_STAT_OPEN_BIT 9) true).wrB (CK_GATE_STAT_QUIESCE_BIT 9) false

/-- The device in a step of its start, at a bolt boundary, with boundaries and its selvedge in RUN, and field 3 alone enabled. -/
def IN15 (n : Nat) (d : Dev) : Dev :=
  { ((((inTime (fun t => { t with count := 7000, nb := 900 }) (d.wr TB_STATUS_MODE 2)).wr CK_STATUS_SEL 2).wrB TB_STATUS_STOPPED false).wr
      JZ_SEL_STATUS_STATE 1) with start := ⟨n, 5, false, false, false⟩ }.wrB JZ_STATUS_READY false |> fun d =>
    { d with fld := [(3, { FieldS.init with enable := true, passed := true })] }
/-- The device with that field's test passed and its links UP. -/
def BRING15 (d : Dev) : Dev :=
  (forN 4 (fun k d => d.wr (ST_LINK_STATUS_STATE 3 k) 1) (IN15 8 d)).updTest fun t => { t with stress := [(3, { Stress.init with phase := 7, result := 1 })] }
/-- The device in step 4 with the least image in slot A, which a header names ACTIVE, and the root key fused. -/
def HDR15 : Hdr := { seq := 4, active := 0, st := (slActive, slEmpty), sec := (0, 0), len := (240, 0), pcycle := 6 }
def BOOT15 (fz : Fuses) : State :=
  { stD (fun d => nvProg 0 (hdrBytes HDR15) (nvProg 0x100000 IMG13 (IN15 4 d))) with fuses := fz }
def LOAD15 : State := stD fun d => nvProg 0 (hdrBytes { HDR15 with len := (240, 240) }) (nvProg 0x900000 IMG13 (IN15 4 d))
def SFDP15 : SfdpObs := ⟨true, true, 6, 25⟩

/-- The device READY with boundaries, its selvedge in RUN, field 3 in service and its patch 4 running in the normal band. -/
def SRV16 (d : Dev) : Dev :=
  (((((IN15 9 d).wrB JZ_STATUS_READY true).wrB BT_STATUS_TAP false).wr (ST_OP_PATCH_STATE 3 4) 0).wr (PS_STATUS_BAND 3 4) 0).updFd 3 fun x =>
    { x with up := true, stop := .none }
def inTest (g : TestS → TestS) (d : Dev) : Dev := (inTime (fun t => { t with nbRun := 5000000 }) (SRV16 d)).updTest g
def SL16 (id : Nat) (run : Bool) : Slice := { id, field := 3, patch := 4, run, at_ := 0, budget := 400, saved := [] }
/-- A stress test of field 3 in a phase. -/
def inStr (s : Stress) (d : Dev) : Dev := inTest (fun t => { t with stress := [(3, s)] }) d
def STR16 (n : Nat) : Stress := { Stress.init with phase := n, from_ := 4999000, phaseAt := 4999000 }
/-- The device with its fault collector changed. -/
def inFC (g : FaultS → FaultS) (d : Dev) : Dev := { d with fc := g d.fc }
/-- The device with its NVM clock on, boundaries, and its recorder scanned. -/
def RDY18 (g : RecS → RecS) (d : Dev) : Dev := { (GATE9 (IN15 9 d)).wrB EV_STATUS_SCANNED true with ev := g d.ev }
/-- The first 56 bytes of an event record, and the ring's slot holding it as record 3. -/
def REC18 : List Nat := [6, 0, 127, 0] ++ List.replicate 52 0
def SLOT18 : List Nat := [6, 0, 127, 0, 3, 0, 0, 0] ++ List.replicate 48 0
def STORE18 (d : Dev) : Dev := nvProg (slotAddr 3) (SLOT18 ++ leBytes 4 0xFFFFFFFE ++ leBytes 4 (crc32 SLOT18)) d
/-- The device at the end of its start, with the PMBus slave's gate open. -/
def PM19 (d : Dev) : Dev :=
  (((IN15 9 d).wrB (CK_GATE_EN 10) true).wrB (CK_GATE_STAT_OPEN_BIT 10) true).wrB (CK_GATE_STAT_QUIESCE_BIT 10) false
/-- That device with the NVM controller's gate open too. -/
def PM9 (d : Dev) : Dev := GATE9 (PM19 d)
def inMg (g : MgmtS → MgmtS) (d : Dev) : Dev := (PM19 d).updMg g
/-- A PMBus session for an image of 8 bytes. -/
def SES19 (d : Dev) : Dev := (PM9 d).updNv fun n => { n with session := some { SES13 0 false with peer := false, sender := none, len := 8 } }

/-! WellFormed: each check refuses an ill-formed command. -/

theorem smoke_message : (Instr.dlv ⟨List.replicate 63 0, false⟩).wf = false ∧ (Instr.dlv ⟨List.replicate 64 0, false⟩).wf = true := by decide
theorem smoke_tags : (Instr.beginMark 0 0 0 ⟨0, 0⟩ (List.replicate 5 ⟨0, 0⟩)).wf = false ∧ (Instr.beginMark 0 0 0 ⟨0, 0⟩ []).wf = true := by decide
theorem smoke_scans : (Instr.thermalScan [⟨3, 4, 0, 0⟩, ⟨3, 4, 1, 1⟩] 0).wf = false := by decide
theorem smoke_depths : (Instr.pickBoundary [⟨3, 4, 0, 0, 0, 0⟩, ⟨3, 4, 1, 0, 0, 0⟩] []).wf = false := by decide
theorem smoke_trips : (Instr.pickBoundary [] [⟨3, 4, true, false⟩, ⟨3, 4, true, false⟩]).wf = false := by decide
theorem smoke_hot : (Instr.thermalTrip [⟨3, 4, false, false⟩] 0).wf = false ∧ (Instr.thermalTrip [⟨3, 4, true, false⟩] 0).wf = true := by
  decide
theorem smoke_counts : (Instr.eighthUpdate 3 0 [⟨4, 5, 1⟩, ⟨4, 5, 2⟩] []).wf = false := by decide
theorem smoke_ifaces : (Instr.eighthUpdate 3 0 [] [⟨2, 1⟩, ⟨2, 9⟩]).wf = false := by decide
theorem smoke_ofs : (Instr.countReload 3 4 0).wf = false ∧ (Instr.countReload 3 4 7).wf = true := by decide
theorem smoke_temps : (Instr.optTempReport 2 []).wf = false := by decide
theorem smoke_block : (Instr.mfrJzImgChunk 0 [] false .good).wf = false := by decide

/-- No row of the table gives bits. -/
theorem test_no_table_word : decodeTableWord 8 0 = none := rfl

/-! The spec's worked examples. -/

/-- R3, R4: F12.P07 lies in F12.D0; the north neighbour of F12.P02 is F05.P32. -/
theorem test_places : domOf 7 = 0 ∧ fieldPos 12 = some (1, 8) ∧ (5, 32) ∈ neighbours 12 2 := by decide
/-- R19: the sentinel registers of F12.P07 begin at 0x30C4_7000. -/
theorem test_sentinel_base : psBase 12 7 = 0x30C47000 := by decide
/-- R81: the roll-off example of an L-POWER law. -/
theorem test_rounding : rs (-1200 * 1095216660) 13 = -160432128 ∧ rs (1200 * 2104533975) 14 = 154140672 ∧ rs (-160432128) 24 = -10 := by
  decide
/-- R383: bins of one field's temperature histogram. -/
theorem test_bins :
    binShare 83591928000 129600000000 = 42270 ∧ binShare 38880000000 129600000000 = 19660 ∧ binShare 72000 129600000000 = 1 := by decide
/-- R345: DD2 of F12.P07 calibrates to 4. -/
theorem test_droop_cal : droopCal [17, 66, 247, 638] 0 = 4 := by decide
/-- R392: one sample of F07.P20. -/
theorem test_norm_slack :
    ((stD fun d => (d.wr (ST_OP_VF_VMIN 7 56) 94).wr (ST_OP_GUARD_RUN_GUARD 7) 6).dev.normSlack 7 88 60 101 708) = 2894 := by decide +kernel
/-- R395: F07.P20 re-planned at 13,000.00 h: three steps up. -/
theorem test_replan :
    ((stD fun d => setMarg 7 20 (fun m => { m with base := 91 }) (d.wrS (ST_AGE_PATCH_TREND 7 20) 2805)).dev.planStep 7 20) = 3 := by
  decide +kernel
/-- R288: the ring with HEAD 1,200 and TAIL 4,090 has 1,205 free cells. -/
theorem test_ring_free : ((stD fun d => (d.wr PP_RING_HEAD_HEAD 1200).wr PP_RING_TAIL_TAIL 4090).dev.ringFree) = 1205 := by decide +kernel
/-- R416: with the rack's 28 kW in force and a decrease of the tray deferred, MFR_JZ_CAP reads 0x8230. -/
theorem test_cap_reply :
    ((stD fun d => d.updBud fun b => { b with tray := { b.tray with val := 600, next := none, defer := some ⟨480, [], 1, false⟩ }, rack := { b.rack with val := 560, next := none, defer := none } }).dev.capReply)
      = [0x30, 0x82] := by decide +kernel
/-- R422: LC_ADV in BLANK blows the TEST fuse; the life cycle in effect stays BLANK. -/
theorem test_lc_adv :
    (match exec .lcAdv State.reset with
     | .next t => decide (t.fuses.lc = .test ∧ t.dev.mg.lc = .blank)
     | _ => false) = true := by decide +kernel
/-- An empty queue idles; a command in front runs and leaves the queue. -/
theorem test_step :
    (match step { State.reset with pending := [.tapReset, .idcode] } with
     | .next t => decide (t.pending = [.idcode] ∧ t.dev.mg.ir = 1)
     | _ => false) = true := by decide +kernel
/-- The example of chapter 07: basted at pick 60,000,802, a bast window of two bolts closes at 60,002,802. -/
theorem test_bast_window :
    (stD (inTime fun t => { t with nbRun := 60002802 })).dev.passed 60000802 2000 = true ∧
    (stD (inTime fun t => { t with nbRun := 60002801 })).dev.passed 60000802 2000 = false := by decide +kernel

/-! Witnesses of the statements. -/

/-- A state with a command in its queue. -/
theorem witness_StepRunsFrontCommand : ({ State.reset with pending := [.tapReset] } : State).pending = .tapReset :: [] := by
  decide +kernel

/-- The queue at reset is empty. -/
theorem witness_StepIdlesOnEmptyQueue : State.reset.pending = [] := by
  decide +kernel

/-- The hypotheses of SramAndRegisterReads are met, clause by clause. -/
theorem witness_SramAndRegisterReads :
    (let s : State := State.reset
     let m : Fin 9 := 8
     let a : BitVec 32 := 0x10000104
     let v : BitVec 32 := 0x80FF0001
     let sub : BitVec 12 := 0
     s.awake ∧ (m = 8) ∧ (0x10000000 ≤ a.toNat) ∧ (a.toNat < 0x10080000) ∧ (a.toNat % 4 = 0)) ∧
    (let s : State := stD (fun d => (putWord 0x7FFFC 0x12345678 d))
     let m : Fin 9 := 8
     let a : BitVec 32 := 0x1007FFFC
     let sub : BitVec 12 := 0
     s.awake ∧ (m = 8) ∧ (0x10000000 ≤ a.toNat) ∧ (a.toNat < 0x10080000) ∧ (a.toNat % 4 = 0)) ∧
    (let s : State := stD (inTime fun t => { t with count := 0x123456789 })
     let m : Fin 9 := 8
     let a : BitVec 32 := 0x20010004
     let sub : BitVec 12 := 77
     s.awake ∧ (m = 8) ∧ (a.toNat = TB_NOW_LO_SUB.addr)) ∧
    (let s : State := stD (fun d => setShadow .core 0x20010008 (77, true) d)
     let m : Fin 9 := 8
     let a : BitVec 32 := 0x20010008
     let sub : BitVec 12 := 77
     s.awake ∧ (m = 8) ∧ (a.toNat = TB_NOW_HI_PICK_H.addr)) := by
  decide +kernel

/-- The hypotheses of RegisterAccesses are met, clause by clause. -/
theorem witness_RegisterAccesses :
    (let s : State := State.reset
     let m : Fin 9 := 8
     let a : BitVec 32 := 0x20000404
     let v : BitVec 32 := 0xF2A55A5A
     let sub : BitVec 12 := 0
     s.awake ∧ (m = 8) ∧ (a.toNat = JZ_SEL_LIMITS_T_CTRL.addr) ∧ (s.dev.locked = false)) ∧
    (let s : State := stD (fun d => d.wrB JZ_CONFIG_CONFIG_LOCK true)
     let m : Fin 9 := 8
     let a : BitVec 32 := 0x20000404
     let v : BitVec 32 := 0xF2A55A5A
     let sub : BitVec 12 := 0
     s.awake ∧ (m = 8) ∧ (a.toNat = JZ_SEL_LIMITS_T_CTRL.addr) ∧ (s.dev.locked = true)) ∧
    (let s : State := State.reset
     let m : Fin 9 := 8
     let a : BitVec 32 := 0x20010044
     let v : BitVec 32 := 0xFFF00003
     let sub : BitVec 12 := 0
     s.awake ∧ (m = 8) ∧ (a.toNat = TB_STOP_AT_HI_AT_H.addr)) ∧
    (let s : State := State.reset
     let m : Fin 9 := 8
     let a : BitVec 32 := 0x2001004C
     let v : BitVec 32 := 0xFFF00003
     let sub : BitVec 12 := 0
     s.awake ∧ (m = 8) ∧ (a.toNat = TB_RESUME_AT_HI_AT_H.addr)) ∧
    (let s : State := State.reset
     let m : Fin 9 := 8
     let a : BitVec 32 := 0x20010002
     let write : Bool := false
     let narrow : Bool := false
     s.awake ∧ (m = 8) ∧ (a.toNat % 4 ≠ 0 ∨ decoded a.toNat = false)) ∧
    (let s : State := State.reset
     let k : Fin 8 := 0
     let a : BitVec 32 := 0x20010024
     let write : Bool := true
     s.awake ∧ (s.dev.ctxOn k = true) ∧ (s.dev.hostMay k a.toNat write = false)) := by
  decide +kernel

/-- The hypotheses of PickBoundaryCounts are met, clause by clause. -/
theorem witness_PickBoundaryCounts :
    (let s : State := stD (fun d => (inTime (fun t => { t with nb := 7, count := 6, nbRun := 7 }) d).wrB CK_STATUS_REF_Q true)
     let depths : List DepthObs := []
     let warm : List TripObs := []
     s.awake ∧ (s.dev.boundaries = true) ∧ (∀ i : Fin 16, (s.dev.slot i).st ≠ .armed)) := by
  decide +kernel

/-- The hypotheses of BoltBoundaryInterrupts are met, clause by clause. -/
theorem witness_BoltBoundaryInterrupts :
    (let s : State := stD (fun d => ((inTime (fun t => { t with boltDone := false, count := 7000 }) d).wrB CK_STATUS_REF_Q true).wr TB_STATUS_MODE 2)
     s.awake ∧ (s.dev.boundaries = true) ∧ (s.dev.time.boltDone = false) ∧ (s.dev.time.count % 1000 = 0)) ∧
    (let s : State := State.reset
     s.awake ∧ (s.dev.boundaries = false ∨ s.dev.time.boltDone = true ∨ s.dev.time.count % 1000 ≠ 0)) := by
  decide +kernel

/-- The hypotheses of GlobalStops are met, clause by clause. -/
theorem witness_GlobalStops :
    (let s : State := stD (inTime fun t => { t with stopAt := 2 })
     s.awake ∧ (s.dev.rdB TB_STATUS_STOPPED = false) ∧ (s.dev.time.count + 2 ≤ s.dev.time.stopAt)) ∧
    (let s : State := State.reset
     s.awake ∧ (s.dev.rdB TB_STATUS_STOPPED = true ∨ s.dev.time.stopAt < s.dev.time.count + 2)) ∧
    (let s : State := stD (fun d => (inTime (fun t => { t with resumeAt := 5000 }) d).wrB TB_STATUS_STOPPED true)
     s.awake ∧ (s.dev.rdB TB_STATUS_STOPPED = true) ∧ (s.dev.time.count + 2 ≤ s.dev.time.resumeAt) ∧
       (s.dev.time.resumeAt % 1000 = 0)) ∧
    (let s : State := State.reset
     s.awake ∧ (s.dev.rdB TB_STATUS_STOPPED = false ∨ s.dev.time.resumeAt < s.dev.time.count + 2 ∨ s.dev.time.resumeAt %
       1000 ≠ 0)) ∧
    (let s : State := stD (fun d => d.wrB TB_STATUS_STOP_ARMED true)
     s.awake ∧ (s.dev.rdB TB_STATUS_STOPPED = false) ∧ (s.dev.rdB TB_STATUS_STOP_ARMED = true) ∧ (s.dev.time.armStop ≤
       s.dev.time.count)) ∧
    (let s : State := stD (fun d => (d.wrB TB_STATUS_STOPPED true).wrB TB_STATUS_RESUME_ARMED true)
     s.awake ∧ (s.dev.rdB TB_STATUS_STOPPED = true) ∧ (s.dev.rdB TB_STATUS_RESUME_ARMED = true) ∧ (s.dev.time.armResume
       ≤ s.dev.time.count) ∧ (∀ i : Fin 16, (s.dev.slot i).st ≠ .armed)) := by
  decide +kernel

/-- The hypotheses of FramesAndSteps are met, clause by clause. -/
theorem witness_FramesAndSteps :
    (let s : State := State.reset
     let word : BitVec 64 := 0x10000000000007
     let crc : BitVec 16 := BitVec.ofNat 16 (crc16 (leBytes 8 0x10000000000007))
     let at_ : BitVec 13 := 0
     s.awake ∧ (s.dev.time.laneOff = false) ∧ (crc16 (leBytes 8 word.toNat) = crc.toNat) ∧ (∀ r, s.dev.time.lane = some
       r → word.toNat % 2 ^ 52 = r.count + r.periods + 1) ∧ (s.dev.mode = LOCKED → word.toNat % 2 ^ 52 =
       s.dev.time.count + 1)) ∧
    (let s : State := State.reset
     let word : BitVec 64 := 7
     let crc : BitVec 16 := 0
     let spaced : Bool := false
     let clean : Bool := true
     let at_ : BitVec 13 := 0
     s.awake ∧ (s.dev.time.laneOff = false) ∧ (spaced = false ∨ clean = false ∨ crc16 (leBytes 8 word.toNat) ≠
       crc.toNat)) ∧
    (let s : State := stD (fun d => (inTime (fun t => { t with delta := 8193 }) d).wr TB_STATUS_MODE ALIGNING)
     s.awake ∧ (s.dev.mode = ALIGNING) ∧ (4096 ≤ s.dev.time.delta)) ∧
    (let s : State := stD (fun d => (inTime (fun t => { t with valid := 16, delta := -4096000001 }) d).wr TB_STATUS_MODE HOLDOVER)
     s.awake ∧ (s.dev.mode = HOLDOVER) ∧ (16 ≤ s.dev.time.valid) ∧ (s.dev.time.delta < -(1000000 * 4096)) ∧ (s.dev.rdB
       TB_STATUS_AHEAD_LIMIT = false)) ∧
    (let s : State := stD (fun d => ((inTime (fun t => { t with valid := 16, delta := -4096000001 }) d).wr TB_STATUS_MODE HOLDOVER).wrB TB_STATUS_AHEAD_LIMIT true)
     s.awake ∧ (s.dev.mode = HOLDOVER) ∧ (16 ≤ s.dev.time.valid) ∧ (s.dev.time.delta < -(1000000 * 4096)) ∧ (s.dev.rdB
       TB_STATUS_AHEAD_LIMIT = true)) := by
  decide +kernel

/-- The hypotheses of ModesAndCopies are met, clause by clause. -/
theorem witness_ModesAndCopies :
    (let s : State := stD (inTime fun t => { t with valid := 16, laneCount := 9 })
     s.awake ∧ (s.dev.mode = ACQUIRING) ∧ (16 ≤ s.dev.time.valid)) ∧
    (let s : State := stD (inTime fun t => { t with acqFrom := some 5, nb := 100006 })
     let b : Nat := 5
     s.awake ∧ (s.dev.mode = ACQUIRING) ∧ (s.dev.time.acqFrom = some b) ∧ (b + 1 + 100 * 1000 ≤ s.dev.time.nb)) ∧
    (let s : State := stD (fun d => (inTime (fun t => { t with invalid := 16 }) d).wr TB_STATUS_MODE ALIGNING)
     s.awake ∧ (s.dev.mode = LOCKED ∨ s.dev.mode = ALIGNING) ∧ (16 ≤ s.dev.time.invalid)) ∧
    (let s : State := stD (fun d => (inTime (fun t => { t with nb := 1000001 }) d).wr TB_STATUS_MODE HOLDOVER)
     s.awake ∧ (s.dev.mode = HOLDOVER) ∧ (s.dev.time.localDone = false) ∧ (s.dev.time.lastLocked + 1 + 1000 * 1000 ≤
       s.dev.time.nb)) ∧
    (let s : State := stD (fun d => (inTime (fun t => { t with valid := 16, delta := -4096000000 }) d).wr TB_STATUS_MODE HOLDOVER)
     s.awake ∧ (s.dev.mode = HOLDOVER) ∧ (16 ≤ s.dev.time.valid) ∧ (-(1000000 * 4096) ≤ s.dev.time.delta)) ∧
    (let s : State := stD (fun d => (inTime (fun t => { t with delta := 5, adj := -4 }) d).wr TB_STATUS_MODE ALIGNING)
     s.awake ∧ (s.dev.mode = ALIGNING) ∧ ((s.dev.time.delta + s.dev.time.adj).natAbs ≤ 1)) := by
  decide +kernel

/-- The hypotheses of ModesAndCopies are met, clause by clause. -/
theorem witness_ModesAndCopies_2 :
    (let s : State := State.reset
     let f : Fin 96 := 3
     let p : Fin 36 := 7
     let ofs : Int := -2
     s.awake ∧ (s.dev.time.count % 1000 = 0) ∧ (ofs ≠ 0) ∧ (tget none s.dev.time.rerouted f.val = none) ∧ (tget 0
       s.dev.time.copyOfs (pkey f p) = 0)) ∧
    (let s : State := stD (inTime fun t => { t with rerouted := tput none 3 (some false) [] })
     let f : Fin 96 := 3
     let p : Fin 36 := 7
     let ofs : Int := -2
     s.awake ∧ (s.dev.time.count % 1000 ≠ 0 ∨ tget none s.dev.time.rerouted f.val ≠ none)) ∧
    (let s : State := State.reset
     let fields : BitVec 96 := 12
     s.awake) ∧
    (let s : State := stD (inTime fun t => { t with rerouted := tput none 3 (some false) [] })
     let fields : BitVec 96 := 12
     s.awake) := by
  decide +kernel

/-- The hypotheses of ScheduledActions are met, clause by clause. -/
theorem witness_ScheduledActions :
    (let s : State := stD (Dev.updSlot 0 fun x => { x with at_ := 2, addr := TB_ACT_SEL_SLOT.addr })
     s.awake ∧ ((s.dev.slot s.dev.actSel).st = .free) ∧ (s.dev.time.count + 2 ≤ (s.dev.slot s.dev.actSel).at_) ∧
       (writable (s.dev.slot s.dev.actSel).addr = true) ∧ (rwlReg (s.dev.slot s.dev.actSel).addr = true → s.dev.locked =
       false)) ∧
    (let s : State := State.reset
     s.awake ∧ ((s.dev.slot s.dev.actSel).at_ < s.dev.time.count + 2 ∨ writable (s.dev.slot s.dev.actSel).addr = false ∨
       (rwlReg (s.dev.slot s.dev.actSel).addr = true ∧ s.dev.locked = true) ∨ (s.dev.slot s.dev.actSel).st ≠ .free)) ∧
    (let s : State := stD (fun d => (inTime (fun t => { t with count := 9 }) d).updSlot 1 fun x => { x with at_ := 9, st := .armed, addr := TB_ACT_SEL_SLOT.addr, data := 5 })
     let i : Fin 16 := 1
     s.awake ∧ ((s.dev.slot i).st = .armed) ∧ ((s.dev.slot i).at_ ≤ s.dev.time.count) ∧ (s.dev.rdB TB_STATUS_STOPPED =
       false) ∧ (rwlReg (s.dev.slot i).addr = true → s.dev.locked = false)) ∧
    (let s : State := stD (fun d => ((inTime (fun t => { t with count := 9 }) d).updSlot 1 fun x => { x with at_ := 9, st := .armed, addr := JZ_SEL_LIMITS_T_CTRL.addr, data := 5 }).wrB JZ_CONFIG_CONFIG_LOCK true)
     let i : Fin 16 := 1
     s.awake ∧ ((s.dev.slot i).st = .armed) ∧ ((s.dev.slot i).at_ ≤ s.dev.time.count) ∧ (s.dev.rdB TB_STATUS_STOPPED =
       false) ∧ (rwlReg (s.dev.slot i).addr = true) ∧ (s.dev.locked = true)) := by
  decide +kernel

/-- The hypotheses of ScansAndMonitors are met, clause by clause. -/
theorem witness_ScansAndMonitors :
    (let s : State := stD (fun d => (forN 2 (fun t d => (d.wr (PS_TS_TRIM_OFS 3 7 t) 0).wr (PS_TS_TRIM_GAIN 3 7 t) 0) d)|> inTime fun t => { t with count := 3000, nb := 30 })
     let o : ScanObs := ⟨3, 7, 0x2F9, 0x300⟩
     let sub : BitVec 12 := 9
     s.awake ∧ (s.dev.scanDue o.field o.patch = true) ∧ (∀ t : Fin 2, s.dev.rd (PS_TS_TRIM_OFS o.field o.patch t) = 0 ∧
       s.dev.rd (PS_TS_TRIM_GAIN o.field o.patch t) = 0)) ∧
    (let s : State := State.reset
     let o : ScanObs := ⟨3, 7, 0x2F9, 0x300⟩
     let sub : BitVec 12 := 9
     s.awake ∧ (s.dev.scanDue o.field o.patch = false)) ∧
    (let s : State := State.reset
     let f : Fin 96 := 3
     let p : Fin 36 := 7
     let q : Fin 2 := 1
     s.awake) ∧
    (let s : State := stD (inTime fun t => { t with count := 3004 })
     let f : Fin 96 := 3
     let p : Fin 36 := 7
     let slack : BitVec 11 := 0x7FE
     s.awake ∧ (s.dev.time.count % 1000 = 4) ∧ ((s.dev.pt f p).pmDirty = false)) ∧
    (let s : State := stD (fun d => (inTime (fun t => { t with count := 3004 }) d).updPt 3 7 fun x => { x with pmDirty := true })
     let f : Fin 96 := 3
     let p : Fin 36 := 7
     let slack : BitVec 11 := 0x7FE
     s.awake ∧ (s.dev.time.count % 1000 = 4) ∧ ((s.dev.pt f p).pmDirty = true)) ∧
    (let s : State := State.reset
     let f : Fin 96 := 3
     let p : Fin 36 := 7
     let slack : BitVec 11 := 0x7FE
     s.awake ∧ (s.dev.time.count % 1000 ≠ 4)) := by
  decide +kernel

/-- The hypotheses of CountsAndMeters are met, clause by clause. -/
theorem witness_CountsAndMeters :
    (let s : State := stD (fun d => ((((inTime (fun t => { t with count := 3000 }) d).updFd 3 fun x => { x with eMeas := 5000000, eEst := 300000, eSkip := false }).wrB TB_STATUS_STOPPED false).wr (ST_MTR_SCALE_S 3) 0x4000).wr (ST_MTR_LIMITS_S_MIN 3) 1 |>.wr (ST_MTR_LIMITS_S_MAX 3) 0xFFFF)
     let f : Fin 96 := 3
     s.awake ∧ (s.dev.time.count % 1000 = 0) ∧ (s.dev.rdB TB_STATUS_STOPPED = false) ∧ (meterSkips (s.dev.fd f).eSkip
       (s.dev.fd f).eMeas (s.dev.fd f).eEst = false) ∧ (s.dev.rd (ST_MTR_LIMITS_S_MIN f) ≤ scaleNew (s.dev.rd
       (ST_MTR_SCALE_S f)) (s.dev.fd f).eMeas (s.dev.fd f).eEst) ∧ (scaleNew (s.dev.rd (ST_MTR_SCALE_S f)) (s.dev.fd
       f).eMeas (s.dev.fd f).eEst ≤ s.dev.rd (ST_MTR_LIMITS_S_MAX f))) ∧
    (let s : State := stD (fun d => ((((inTime (fun t => { t with count := 3000 }) d).updFd 3 fun x => { x with eMeas := 5000000, eEst := 300000, eSkip := false, sOut := 15 }).wrB TB_STATUS_STOPPED false).wr (ST_MTR_SCALE_S 3) 0x4000).wr (ST_MTR_LIMITS_S_MIN 3) 1 |>.wr (ST_MTR_LIMITS_S_MAX 3) 2 |>.wrB (ST_MTR_SCALE_AT_LIMIT 3) false)
     let f : Fin 96 := 3
     s.awake ∧ (s.dev.time.count % 1000 = 0) ∧ (s.dev.rdB TB_STATUS_STOPPED = false) ∧ (meterSkips (s.dev.fd f).eSkip
       (s.dev.fd f).eMeas (s.dev.fd f).eEst = false) ∧ (s.dev.rd (ST_MTR_LIMITS_S_MAX f) < scaleNew (s.dev.rd
       (ST_MTR_SCALE_S f)) (s.dev.fd f).eMeas (s.dev.fd f).eEst) ∧ (s.dev.rd (ST_MTR_LIMITS_S_MIN f) ≤ s.dev.rd
       (ST_MTR_LIMITS_S_MAX f)) ∧ ((s.dev.fd f).sOut = 15) ∧ (s.dev.rdB (ST_MTR_SCALE_AT_LIMIT f) = false)) ∧
    (let s : State := stD (fun d => (inTime (fun t => { t with count := 3000 }) d).wrB TB_STATUS_STOPPED false)
     let f : Fin 96 := 3
     s.awake ∧ (s.dev.time.count % 1000 = 0) ∧ (s.dev.rdB TB_STATUS_STOPPED = false) ∧ (meterSkips (s.dev.fd f).eSkip
       (s.dev.fd f).eMeas (s.dev.fd f).eEst = true)) ∧
    (let s : State := stD (fun d => (d.wrB TB_STATUS_STOPPED false).updFd 3 fun x => { x with enable := true })
     let f : Fin 96 := 3
     let e : Fin 8 := 2
     let o : CountObs := ⟨7, 4, 0x123⟩
     s.awake ∧ (s.dev.rdB TB_STATUS_STOPPED = false) ∧ (e.val ≠ 0) ∧ (e.val ≠ 7)) := by
  decide +kernel

/-- The hypotheses of CountsAndMeters are met, clause by clause. -/
theorem witness_CountsAndMeters_2 :
    (let s : State := stD (fun d => (d.wrB TB_STATUS_STOPPED false).updFd 3 fun x => { x with debtIn := true, enable := true })
     let f : Fin 96 := 3
     let e : Fin 8 := 7
     let cs : List CountObs := [⟨7, 4, 0x123⟩]
     let is : List IfaceObs := []
     s.awake ∧ (s.dev.rdB TB_STATUS_STOPPED = false) ∧ (e.val = 7) ∧ ((s.dev.fd f).debtIn = true)) ∧
    (let s : State := stD (fun d => (d.wrB TB_STATUS_STOPPED false).updFd 3 fun x => { x with debtIn := false, enable := true })
     let f : Fin 96 := 3
     let e : Fin 8 := 7
     let cs : List CountObs := [⟨7, 4, 0x123⟩]
     let is : List IfaceObs := []
     s.awake ∧ (s.dev.rdB TB_STATUS_STOPPED = false) ∧ (e.val = 7) ∧ ((s.dev.fd f).debtIn = false)) ∧
    (let s : State := stD (fun d => d.wrB TB_STATUS_STOPPED true)
     let f : Fin 96 := 3
     let e : Fin 8 := 7
     let cs : List CountObs := [⟨7, 4, 0x123⟩]
     let is : List IfaceObs := []
     s.awake ∧ (s.dev.rdB TB_STATUS_STOPPED = true)) ∧
    (let s : State := stD (fun d => d.wrB TB_STATUS_STOPPED true)
     let f : Fin 96 := 3
     let e : Fin 8 := 2
     let o : CountObs := ⟨7, 4, 0x123⟩
     let is : List IfaceObs := []
     s.awake ∧ (s.dev.rdB TB_STATUS_STOPPED = true) ∧ (e.val ≠ 7)) ∧
    (let s : State := stD (fun d => inTime (fun t => { t with prevCount := 0x123456789 }) (d.updPt 3 7 fun x => { x with last := [1,2,3,4,5,6,7,8,9,0x1000001] }))
     let m : Fin 9 := 8
     let f : Fin 96 := 3
     let p : Fin 36 := 7
     s.awake ∧ (m = 8)) := by
  decide +kernel

/-- The hypotheses of DroopAndStretch are met, clause by clause. -/
theorem witness_DroopAndStretch :
    (let s : State := stD (fun d => (((((d.wr (PS_DD_STRETCH_K 3 7) 10).wrB (ST_OP_STRETCH_EN 3) true).wr (ST_OP_STRETCH_DSTEP 3) 4).wrB (PS_STATUS_DD_ARMED 3 7) true).wr (PS_STATUS_STRETCH 3 7) 1))
     let f : Fin 96 := 3
     let p : Fin 36 := 7
     let depth : BitVec 6 := 19
     s.awake ∧ (s.dev.stretchOn f p = true) ∧ (s.dev.rd (PS_STATUS_STRETCH f p) < s.dev.stretchCall f p depth.toNat)) ∧
    (let s : State := stD (fun d => ((d.wr (PS_DD_STRETCH_K 3 7) 10).wrB (PS_STATUS_DD_ARMED 3 7) true).wrB (ST_OP_STRETCH_EN 3) false)
     let f : Fin 96 := 3
     let p : Fin 36 := 7
     let depth : BitVec 6 := 19
     s.awake ∧ (s.dev.stretchOn f p = false ∨ s.dev.stretchCall f p depth.toNat ≤ s.dev.rd (PS_STATUS_STRETCH f p)) ∧
       (s.dev.crosses f p depth.toNat = true)) ∧
    (let s : State := State.reset
     let f : Fin 96 := 3
     let p : Fin 36 := 7
     let depth : BitVec 6 := 19
     s.awake ∧ (s.dev.stretchOn f p = false ∨ s.dev.stretchCall f p depth.toNat ≤ s.dev.rd (PS_STATUS_STRETCH f p)) ∧
       (s.dev.crosses f p depth.toNat = false)) ∧
    (let s : State := State.reset
     let f : Fin 96 := 3
     let p : Fin 36 := 7
     s.awake) ∧
    (let s : State := stD (fun d => ((((d.wrB (PS_STATUS_DD_ARMED 3 7) true).wr (PS_STATUS_STRETCH 3 7) 0).wr (PS_DD_FLOOR_FLOOR 3 7 0) 9).updPt 3 7 fun x => { x with floored := false }).updTi 3 7 2 fun x => { x with cur := some (5, 77) })
     let f : Fin 96 := 3
     let p : Fin 36 := 7
     let depth : BitVec 6 := 9
     let sub : BitVec 12 := 100
     s.awake ∧ (s.dev.rdB (PS_STATUS_DD_ARMED f p) = true) ∧ (s.dev.droopTest f p = false) ∧ (s.dev.floorNow f p ≤
       depth.toNat) ∧ ((s.dev.pt f p).floored = false) ∧ (s.dev.markSteps f p ≠ [])) ∧
    (let s : State := State.reset
     let f : Fin 96 := 3
     let p : Fin 36 := 7
     let depth : BitVec 6 := 9
     let sub : BitVec 12 := 100
     s.awake ∧ (s.dev.rdB (PS_STATUS_DD_ARMED f p) = false ∨ s.dev.droopTest f p = true ∨ depth.toNat < s.dev.floorNow f
       p)) := by
  decide +kernel

/-- The hypotheses of LoopSamples are met, clause by clause. -/
theorem witness_LoopSamples :
    (let s : State := stD (fun d => ((((d.wrB TB_STATUS_STOPPED false).updFd 3 fun x => { x with enable := true, up := true, stop := .none, finals := [(7997, 51200, 300)] }).updTime fun t => { t with nb := 9, count := 8000, resumed := false, stepped := false }).wr (LoopRef.pcnt (loopRef 3 2)) 2 |>.wrB (LoopRef.frozen (loopRef 3 2)) false |>.updLins (loopRef 3 2) fun _ => InstS.init))
     let f : Fin 96 := 3
     let k : Fin 4 := 2
     s.awake ∧ (s.dev.loopsOn f = true) ∧ (s.dev.rdB (loopRef f k).frozen = false) ∧ ((s.dev.lins (loopRef f
       k)).sampledAt ≠ some s.dev.time.nb) ∧ ((s.dev.lins (loopRef f k)).exempt = true) ∧ (s.dev.rd (loopRef f k).pcnt ≠
       16)) ∧
    (let s : State := stD (fun d => ((((d.wrB TB_STATUS_STOPPED false).updFd 3 fun x => { x with enable := true, up := true, stop := .none, finals := [(7997, 51200, 300)] }).updTime fun t => { t with nb := 9, count := 8000, resumed := false, stepped := false }).wr (LoopRef.pcnt (loopRef 3 4)) 2 |>.wrB (LoopRef.frozen (loopRef 3 4)) false |>.updLins (loopRef 3 4) fun _ => InstS.init))
     let f : Fin 96 := 3
     s.awake ∧ (s.dev.loopsOn f = true) ∧ (s.dev.periodic 8 = true) ∧ (s.dev.rdB (loopRef f 4).frozen = false) ∧
       ((s.dev.lins (loopRef f 4)).sampledAt ≠ some s.dev.time.nb) ∧ ((s.dev.lins (loopRef f 4)).exempt = true) ∧
       (s.dev.rd (loopRef f 4).pcnt ≠ 16)) ∧
    (let s : State := stD (fun d => ((((d.wrB TB_STATUS_STOPPED false).updFd 3 fun x => { x with enable := true, up := true, stop := .none, finals := [(7997, 51200, 300)] }).updTime fun t => { t with nb := 9, count := 8000, resumed := false, stepped := false }).wr JZ_SEL_STATUS_STATE 1 |>.wr (LoopRef.pcnt capRef) 2 |>.wrB (LoopRef.frozen capRef) false |>.updLins capRef fun _ => InstS.init))
     s.awake ∧ (s.dev.rdB TB_STATUS_STOPPED = false) ∧ (s.dev.time.resumed = false) ∧ (s.dev.selStop = false) ∧ (0 <
       s.dev.time.nb) ∧ (s.dev.periodic 1000 = true) ∧ (s.dev.rdB capRef.frozen = false) ∧ ((s.dev.lins
       capRef).sampledAt ≠ some s.dev.time.nb) ∧ ((s.dev.lins capRef).exempt = true) ∧ (s.dev.rd capRef.pcnt ≠ 16)) := by
  decide +kernel

/-- The hypotheses of LoopsFreezeAndApply are met, clause by clause. -/
theorem witness_LoopsFreezeAndApply :
    (let s : State := stD (fun d => ((((d.wrB TB_STATUS_STOPPED false).updFd 3 fun x => { x with enable := true, up := true, stop := .none, finals := [(7997, 51200, 300)] }).updTime fun t => { t with nb := 9, count := 8000, resumed := false, stepped := false }).wr (LoopRef.pcnt (loopRef 3 2)) 15 |>.wrB (LoopRef.frozen (loopRef 3 2)) false |>.wrB (ST_LINK_STATUS_STALE 3 2) false |>.wr (loopRef 3 2).modelN 1 |>.wr (ST_LINK_UP0_IOUT 3 2) 4000 |>.wr (loopRef 3 2).pred 9 |>.wr (loopRef 3 2).plausBand 9 |>.wr (loopRef 3 2).plausAbs 7 |>.updLins (loopRef 3 2) fun i => { i with exempt := false, hasLast := true, sampledAt := none }))
     let f : Fin 96 := 3
     let k : Fin 4 := 2
     s.awake ∧ (s.dev.loopsOn f = true) ∧ (s.dev.rdB (loopRef f k).frozen = false) ∧ ((s.dev.lins (loopRef f
       k)).sampledAt ≠ some s.dev.time.nb) ∧ ((s.dev.lins (loopRef f k)).exempt = false) ∧ (s.dev.rdB
       (ST_LINK_STATUS_STALE f k) = false) ∧ (s.dev.modelLen (loopRef f k) ≠ 0) ∧ (s.dev.plausLimit (loopRef f k) <
       (((s.dev.rd (ST_LINK_UP0_IOUT f k) : Int) - s.dev.rdS (loopRef f k).pred).natAbs : Int)) ∧ (s.dev.rd (loopRef f
       k).pcnt = 15)) ∧
    (let s : State := stD (fun d => d.wrB (loopRef 3 2).frozen true)
     let f : Fin 96 := 3
     let k : Fin 4 := 2
     s.awake ∧ (s.dev.rdB (loopRef f k).frozen = true)) ∧
    (let s : State := stD (fun d => ( ((((d.wrB TB_STATUS_STOPPED false).updFd 3 fun x => { x with enable := true, up := true, stop := .none, finals := [(7997, 51200, 300)] }).updTime fun t => { t with nb := 9, count := 8000, resumed := false, stepped := false }).updLins (loopRef 3 2) fun i => { i with sampledAt := some 8 }).wr (loopRef 3 2).uNext 0x8005 |>.wr JZ_SEL_STATUS_STATE 1))
     let f : Fin 97 := 3
     let i : Fin 41 := 2
     s.awake ∧ (f.val ≠ 96) ∧ (s.dev.inService f = true) ∧ (s.dev.rdB TB_STATUS_STOPPED = false) ∧ (s.dev.selStop =
       false) ∧ (s.dev.beginsPeriod f i = true) ∧ ((s.dev.lins (loopRef f i)).sampledAt ≠ some s.dev.time.nb)) ∧
    (let s : State := stD (fun d => ( ((((d.wrB TB_STATUS_STOPPED false).updFd 3 fun x => { x with enable := true, up := true, stop := .none, finals := [(7997, 51200, 300)] }).updTime fun t => { t with nb := 9, count := 8000, resumed := false, stepped := false }).updLins capRef fun i => { i with sampledAt := some 8 }).wr capRef.uNext 0x28005 |>.wr JZ_SEL_STATUS_STATE 1))
     let f : Fin 97 := 96
     let i : Fin 41 := 2
     s.awake ∧ (f.val = 96) ∧ (s.dev.rdB TB_STATUS_STOPPED = false) ∧ (s.dev.periodic 1000 = true) ∧ ((s.dev.lins
       capRef).sampledAt ≠ some s.dev.time.nb)) := by
  decide +kernel

/-- The hypotheses of Rearming are met, clause by clause. -/
theorem witness_Rearming :
    (let s : State := stD (fun d => d.wrB (loopRef 3 40).frozen true)
     let f : Fin 96 := 3
     let i : BitVec 6 := 40
     s.awake ∧ (i.toNat ≤ 40) ∧ (s.dev.rdB (loopRef f i.toNat).frozen = true)) ∧
    (let s : State := State.reset
     let f : Fin 96 := 3
     let i : BitVec 6 := 41
     s.awake ∧ (40 < i.toNat ∨ s.dev.rdB (loopRef f i.toNat).frozen = false)) ∧
    (let s : State := stD (fun d => d.wrB capRef.frozen true)
     s.awake ∧ (s.dev.rdB capRef.frozen = true)) ∧
    (let s : State := State.reset
     s.awake ∧ (s.dev.rdB capRef.frozen = false)) ∧
    (let s : State := stD (fun d => ((((d.wrB TB_STATUS_STOPPED false).updFd 3 fun x => { x with enable := true, up := true, stop := .none, finals := [(7997, 51200, 300)] }).updTime fun t => { t with nb := 9, count := 8000, resumed := false, stepped := false }).wrB (loopRef 3 2).frozen true |>.wrB (loopRef 3 2).rearmPend true |>.wr (loopRef 3 2).chainN 2 |>.wr (loopRef 3 2).u 0xFFF7))
     let f : Fin 97 := 3
     let i : Fin 41 := 2
     let n : Nat := 2
     s.awake ∧ (f.val ≠ 96) ∧ (s.dev.loopsOn f = true) ∧ (s.dev.beginsPeriod f i = true) ∧ (s.dev.rdB (loopRef f
       i).frozen = true) ∧ (s.dev.rdB (loopRef f i).rearmPend = true) ∧ (s.dev.lawLen (loopRef f i) = n) ∧ (n ≤ 4)) := by
  decide +kernel

/-- The hypotheses of Rearming are met, clause by clause. -/
theorem witness_Rearming_2 :
    (let s : State := stD (fun d => ((((d.wrB TB_STATUS_STOPPED false).updFd 3 fun x => { x with enable := true, up := true, stop := .none, finals := [(7997, 51200, 300)] }).updTime fun t => { t with nb := 9, count := 8000, resumed := false, stepped := false }).wrB capRef.frozen true |>.wrB capRef.rearmPend true |>.wr capRef.chainN 2 |>.wr capRef.u 0xFFF7))
     let f : Fin 97 := 96
     let i : Fin 41 := 2
     let n : Nat := 2
     s.awake ∧ (f.val = 96) ∧ (s.dev.lawLen capRef = n) ∧ (n ≤ 4) ∧ (s.dev.rdB TB_STATUS_STOPPED = false) ∧
       (s.dev.selStop = false) ∧ (s.dev.periodic 1000 = true) ∧ (s.dev.rdB capRef.frozen = true) ∧ (s.dev.rdB
       capRef.rearmPend = true)) := by
  decide +kernel

/-- The hypotheses of RaisesMarginsAndRetirement are met, clause by clause. -/
theorem witness_RaisesMarginsAndRetirement :
    (let s : State := stD (fun d => ((((((d |>.wrB TB_STATUS_STOPPED false).wr (ST_LINK_STATUS_STATE 3 1) 1).updDm 3 1 fun x => { x with slew := some ⟨5, 9, 10, true, false⟩ }).wrB (ST_OP_PATCH_WAIT 3 4) true).wr (ST_OP_PATCH_STATE 3 4) 0).wr (ST_OP_PATCH_FREQ 3 4) 33) |> inTime fun t => { t with nb := 40 })
     let f : Fin 96 := 3
     let k : Fin 4 := 1
     let x : Slew := ⟨5, 9, 10, true, false⟩
     s.awake ∧ (s.dev.rdB TB_STATUS_STOPPED = false) ∧ ((s.dev.dm f k).slew = some x) ∧ (x.down = false) ∧ (s.dev.link f
       k = linkUp) ∧ (slewKnown s.dev f x = true)) ∧
    (let s : State := stD (fun d => ((((((d |>.wrB TB_STATUS_STOPPED false).wr (ST_LINK_STATUS_STATE 3 1) 1)).wrB (ST_OP_PATCH_WAIT 3 4) true).wr (ST_OP_PATCH_STATE 3 4) 0).wr (ST_OP_PATCH_FREQ 3 4) 33) |> inTime fun t => { t with nb := 40 })
     let f : Fin 96 := 3
     let k : Fin 4 := 1
     s.awake ∧ (s.dev.rdB TB_STATUS_STOPPED = false) ∧ ((s.dev.dm f k).slew = none) ∧ (s.dev.link f k = linkUp)) ∧
    (let s : State := stD (fun d => d.wrB TB_STATUS_STOPPED true)
     let f : Fin 96 := 3
     let k : Fin 4 := 1
     s.awake ∧ (s.dev.rdB TB_STATUS_STOPPED = true)) ∧
    (let s : State := stD (fun d => ((((d |>.wrB TB_STATUS_STOPPED false).wr (ST_LINK_STATUS_STATE 3 1) 1).updFd 3 fun x => { x with up := true, stop := .none }).updPt 3 4 fun x => { x with starting := some 3, held := false }).wr (ST_OP_PATCH_STATE 3 4) 1 |>.wrB (ST_OP_PATCH_RETIRE 3 4) false |>.wrB (ST_OP_STATUS_HOLD_SAFE 3) false |>.wr (ST_LINK_CMD_MODE_REQ 3 1) 0 |>.wr (ST_LINK_DOWN_VREF 3 1) 255 |>.wr JZ_SEL_STATUS_STATE 1 |>.wr (ST_OP_VF_VMIN 3 0) 7 |>.wr (ST_OP_GUARD_VID_HI 3) 255 |> inTime fun t => { t with nb := 40 })
     let f : Fin 96 := 3
     let p : Fin 36 := 4
     s.awake ∧ ((s.dev.pt f p).asked s.dev.time.nb = true) ∧ (s.dev.mayStart f p = true) ∧ (s.dev.rdB TB_STATUS_STOPPED
       = false) ∧ ((s.dev.dm f (domOf p)).railAt = none) ∧ (s.dev.targetMet f (domOf p) = true) ∧ (s.dev.vmin f p 0 +
       s.dev.guard f p ≤ s.dev.rd (ST_LINK_DOWN_VREF f (domOf p)))) ∧
    (let s : State := State.reset
     let f : Fin 96 := 3
     let p : Fin 36 := 4
     let v : BitVec 6 := 63
     s.awake ∧ (s.dev.locked = false ∨ s.dev.rd (ST_OP_PATCH_MOFS f p) ≤ v.toNat)) ∧
    (let s : State := stD (fun d => (d.wrB JZ_CONFIG_CONFIG_LOCK true).wr (ST_OP_PATCH_MOFS 3 4) 9)
     let f : Fin 96 := 3
     let p : Fin 36 := 4
     let v : BitVec 6 := 8
     s.awake ∧ (s.dev.locked = true) ∧ (v.toNat < s.dev.rd (ST_OP_PATCH_MOFS f p))) := by
  decide +kernel

/-- The hypotheses of RaisesMarginsAndRetirement are met, clause by clause. -/
theorem witness_RaisesMarginsAndRetirement_2 :
    (let s : State := stD (fun d => (inTime (fun t => { t with count := 3000 }) d).wr (ST_OP_PATCH_MOFS 3 4) 9)
     let f : Fin 96 := 3
     let p : Fin 36 := 4
     s.awake ∧ (s.dev.time.count % 1000 = 0 ∨ s.dev.time.resumed = true)) ∧
    (let s : State := stD (inTime fun t => { t with count := 3001 })
     let f : Fin 96 := 3
     let p : Fin 36 := 4
     s.awake ∧ (s.dev.time.count % 1000 ≠ 0) ∧ (s.dev.time.resumed = false)) ∧
    (let s : State := State.reset
     let f : Fin 96 := 3
     let k : Fin 4 := 1
     let m : BitVec 2 := 3
     s.awake ∧ (m ≠ 1)) ∧
    (let s : State := State.reset
     let f : Fin 96 := 3
     let k : Fin 4 := 1
     let m : BitVec 2 := 1
     s.awake ∧ (m = 1)) ∧
    (let s : State := stD (fun d => ((d.wr (ST_OP_PATCH_STATE 3 4) 0).updFd 3 fun x => { x with up := true, stop := .none }).wr BT_CFG1_FIELD_RETIRE_MAX 63)
     let f : Fin 96 := 3
     let p : Fin 36 := 4
     s.awake ∧ (s.dev.retired f p = false) ∧ (s.dev.inService f = false ∨ (s.dev.retiredOf f).length < s.dev.rd
       BT_CFG1_FIELD_RETIRE_MAX)) ∧
    (let s : State := stD (fun d => d.wrB (ST_OP_PATCH_RETIRE 3 4) true)
     let f : Fin 96 := 3
     let p : Fin 36 := 4
     s.awake ∧ (s.dev.retired f p = true)) := by
  decide +kernel

/-- The hypotheses of UpFrames are met, clause by clause. -/
theorem witness_UpFrames :
    (let s : State := State.reset
     let f : Fin 96 := 3
     let k : Fin 4 := 1
     let w : BitVec 64 := BitVec.ofNat 64 (1000 + 500 * 4096 + 77 * 2 ^ 24 + 9 * 2 ^ 40 + 13 * 2 ^ 48)
     let crc : BitVec 16 := BitVec.ofNat 16 (crc16 (leBytes 8 (1000 + 500 * 4096 + 77 * 2 ^ 24 + 9 * 2 ^ 40 + 13 * 2 ^ 48)))
     let clean : Bool := true
     s.awake ∧ ((s.dev.dm f k).upSeen = false) ∧ (upSound w crc clean = true) ∧ (upDom w = dkey f k) ∧ (upLags s.dev f k
       w = false)) ∧
    (let s : State := State.reset
     let f : Fin 96 := 3
     let k : Fin 4 := 1
     let w : BitVec 64 := 5
     let crc : BitVec 16 := 0
     let clean : Bool := true
     s.awake ∧ ((s.dev.dm f k).upSeen = false) ∧ (upSound w crc clean = false)) ∧
    (let s : State := stD (Dev.updDm 3 1 fun x => { x with upSeen := true })
     let f : Fin 96 := 3
     let k : Fin 4 := 1
     let w : BitVec 64 := 5
     let crc : BitVec 16 := 0
     let clean : Bool := true
     s.awake ∧ ((s.dev.dm f k).upSeen = true)) ∧
    (let s : State := State.reset
     let f : Fin 96 := 3
     let k : Fin 4 := 1
     s.awake ∧ ((s.dev.dm f k).upSeen = false)) := by
  decide +kernel

/-- The hypotheses of LinkStates are met, clause by clause. -/
theorem witness_LinkStates :
    (let s : State := stD (fun d => ((d.wr (ST_LINK_STATUS_STATE 3 1) 2).wrB (ST_LINK_STATUS_REG_HOLDING 3 1) false).updDm 3 1 fun x => { x with good := 16 })
     let f : Fin 96 := 3
     let k : Fin 4 := 1
     s.awake ∧ (16 ≤ (s.dev.dm f k).good) ∧ (s.dev.link f k = linkInit ∨ (s.dev.link f k = linkDegraded ∧ s.dev.rdB
       (ST_LINK_STATUS_REG_HOLDING f k) = false))) ∧
    (let s : State := State.reset
     let f : Fin 96 := 3
     let k : Fin 4 := 1
     s.awake ∧ ((s.dev.dm f k).good < 16)) ∧
    (let s : State := stD (fun d => (d.wr (ST_LINK_STATUS_STATE 3 1) 1).wr (ST_LINK_STATUS_BAD 3 1) 8)
     let f : Fin 96 := 3
     let k : Fin 4 := 1
     s.awake ∧ (s.dev.link f k = linkUp) ∧ (8 ≤ s.dev.rd (ST_LINK_STATUS_BAD f k) ∨ s.dev.rdB
       (ST_LINK_STATUS_REG_HOLDING f k) = true)) ∧
    (let s : State := stD (fun d => ((d.wr (ST_LINK_STATUS_STATE 3 1) 4).wr (ST_LINK_STATUS_BAD 3 1) 64).updDm 3 1 fun x => { x with noBoundary := false })
     let f : Fin 96 := 3
     let k : Fin 4 := 1
     s.awake ∧ (s.dev.link f k = linkUp ∨ s.dev.link f k = linkDegraded ∨ s.dev.link f k = linkRecovering) ∧ (64 ≤
       s.dev.rd (ST_LINK_STATUS_BAD f k)) ∧ ((s.dev.dm f k).noBoundary = false)) ∧
    (let s : State := stD (fun d => d.wr (ST_LINK_STATUS_STATE 3 1) 3)
     let f : Fin 96 := 3
     let k : Fin 4 := 1
     s.awake ∧ (s.dev.link f k = linkLost)) ∧
    (let s : State := State.reset
     let f : Fin 96 := 3
     let k : Fin 4 := 1
     s.awake ∧ (s.dev.link f k ≠ linkLost)) := by
  decide +kernel

/-- The hypotheses of LinkStates are met, clause by clause. -/
theorem witness_LinkStates_2 :
    (let s : State := stD (fun d => (d.wr (ST_LINK_STATUS_STATE 3 1) 4).updDm 3 1 fun x => { x with good := 16 })
     let f : Fin 96 := 3
     let k : Fin 4 := 1
     s.awake ∧ (s.dev.link f k = linkRecovering) ∧ (16 ≤ (s.dev.dm f k).good)) ∧
    (let s : State := stD (fun d => ((((d.wr (ST_LINK_STATUS_STATE 3 1) 4).wr (ST_LINK_STATUS_BAD 3 1) 0).wrB (ST_LINK_STATUS_REG_SAFE 3 1) false).wr (ST_LINK_UP1_MODE_ECHO 3 1) 0).wr (ST_LINK_DOWN_VID 3 1) 50 |>.wr (ST_LINK_UP0_VOUT 3 1) 1004 |>.updDm 3 1 fun x => { x with good := 1 })
     let f : Fin 96 := 3
     let k : Fin 4 := 1
     s.awake ∧ (s.dev.link f k = linkRecovering) ∧ (s.dev.rd (ST_LINK_STATUS_BAD f k) = 0) ∧ (0 < (s.dev.dm f k).good) ∧
       (s.dev.rdB (ST_LINK_STATUS_REG_SAFE f k) = false) ∧ (s.dev.rd (ST_LINK_UP1_MODE_ECHO f k) = modeRun) ∧ (voutNear
       s.dev f k = true)) := by
  decide +kernel

/-- The hypotheses of HoldSafeAndCeilings are met, clause by clause. -/
theorem witness_HoldSafeAndCeilings :
    (let s : State := stD (fun d => d.wrB (ST_OP_STATUS_HOLD_SAFE 3) false |>.wr (ST_OP_PATCH_STATE 3 4) 0 |>.wr (ST_OP_PATCH_STATE 3 5) 2 |>.updFd 3 fun x => { x with up := true })
     s.awake) ∧
    (let s : State := stD (fun d => ((inTime (fun t => { t with count := 3000 }) { d with clk := { d.clk with held := true } }).wrB CK_STATUS_ROSC_RUN true |>.wrB TB_STATUS_STOPPED false) |>.updFd 3 (fun x => { x with up := true, stop := .none }) |>.wr (ST_OP_PATCH_STATE 3 4) 3 |>.wr TB_STATUS_MODE LOCKED)
     s.awake ∧ (s.dev.clk.held = true) ∧ (s.dev.rdB CK_STATUS_ROSC_RUN = true) ∧ (s.dev.mode ≠ NO_SOURCE) ∧
       (s.dev.time.count % 1000 = 0) ∧ (s.dev.rdB TB_STATUS_STOPPED = false)) ∧
    (let s : State := stD (fun d => (d.wrB (ST_LINK_STATUS_STALE 3 1) false).wr (ST_LINK_UP0_IOUT 3 1) 2801 |>.wrB TB_STATUS_STOPPED false |>.updDm 3 1 fun x => { x with domCut := false })
     let f : Fin 96 := 3
     let k : Fin 4 := 1
     s.awake ∧ (s.dev.rdB TB_STATUS_STOPPED = false) ∧ (domTrigger s.dev f k = true) ∧ ((s.dev.dm f k).domCut = false)) ∧
    (let s : State := State.reset
     let f : Fin 96 := 3
     let k : Fin 4 := 1
     s.awake ∧ (s.dev.rdB TB_STATUS_STOPPED = true ∨ domTrigger s.dev f k = false)) ∧
    (let s : State := stD (fun d => d.updDm 3 1 (fun x => { x with domCut := true, overAll := 5, quiet := 5 }) |>.updPt 3 4 fun x => { x with domCeil := some 9 })
     let f : Fin 96 := 3
     let k : Fin 4 := 1
     s.awake ∧ ((s.dev.dm f k).domCut = true) ∧ ((s.dev.dm f k).overAll ≤ (s.dev.dm f k).quiet)) := by
  decide +kernel

/-- The hypotheses of HintsQueueAndAct are met, clause by clause. -/
theorem witness_HintsQueueAndAct :
    (let s : State := stD (fun d => ((((d |>.wrB TB_STATUS_STOPPED false).updFd 3 fun x => { x with up := true, stop := .none, read := 0, hints := [⟨(1 * 2 ^ 60 + 5 * 2 ^ 48 + 9 * 2 ^ 40 + 1 * 2 ^ 36 + 77 * 2 ^ 24 + 3), 40, 7⟩, ⟨5, 41, 8⟩] }).wr JZ_SEL_STATUS_STATE 1) |>.setJob 2 (some { job := 77, owner := none, fields := [3, 4], waferMean := 1, phases := [⟨1,1,1,20,6,0,0,0,20⟩, ⟨1,1,1,20,2,0,0,0,20⟩], phase := 0, tight := false, misses := 0, missTold := false, wm := 0, wmTold := 0, shift := 0 })))
     let f : Fin 96 := 3
     let p : Fin 36 := 7
     let w : BitVec 64 := 5
     s.awake ∧ (s.dev.draining f = false) ∧ ((s.dev.fd f).hints.length < 64)) ∧
    (let s : State := stD (fun d => ((((d |>.wrB TB_STATUS_STOPPED false).updFd 3 fun x => { x with up := true, stop := .none, read := 0, hints := (List.replicate 64 ⟨1,1,1⟩) ++ [⟨(1 * 2 ^ 60 + 5 * 2 ^ 48 + 9 * 2 ^ 40 + 1 * 2 ^ 36 + 77 * 2 ^ 24 + 3), 40, 7⟩, ⟨5, 41, 8⟩] }).wr JZ_SEL_STATUS_STATE 1) |>.setJob 2 (some { job := 77, owner := none, fields := [3, 4], waferMean := 1, phases := [⟨1,1,1,20,6,0,0,0,20⟩, ⟨1,1,1,20,2,0,0,0,20⟩], phase := 0, tight := false, misses := 0, missTold := false, wm := 0, wmTold := 0, shift := 0 })))
     let f : Fin 96 := 3
     let p : Fin 36 := 7
     let w : BitVec 64 := 5
     s.awake ∧ (s.dev.draining f = false) ∧ (64 ≤ (s.dev.fd f).hints.length)) ∧
    (let s : State := State.reset
     let f : Fin 96 := 3
     let p : Fin 36 := 7
     let w : BitVec 64 := 5
     s.awake ∧ (s.dev.draining f = true)) ∧
    (let s : State := stD (fun d => (((((inTime (fun t => { t with count := 50 }) d) |>.wrB TB_STATUS_STOPPED false).updFd 3 fun x => { x with up := true, stop := .none, read := 0, due := [⟨46, ⟨(2 * 2 ^ 60 + 5 * 2 ^ 48 + 9 * 2 ^ 40 + 1 * 2 ^ 36 + 77 * 2 ^ 24 + 3), 40, 7⟩⟩], hints := [⟨(1 * 2 ^ 60 + 5 * 2 ^ 48 + 9 * 2 ^ 40 + 1 * 2 ^ 36 + 77 * 2 ^ 24 + 3), 40, 7⟩, ⟨5, 41, 8⟩] }).wr JZ_SEL_STATUS_STATE 1) |>.updTi 3 9 200 (fun x => { x with job := some 77 }) |>.setJob 2 (some { job := 77, owner := none, fields := [3, 4], waferMean := 1, phases := [⟨1,1,1,20,6,0,0,0,20⟩, ⟨1,1,1,20,2,0,0,0,20⟩], phase := 0, tight := false, misses := 0, missTold := false, wm := 0, wmTold := 0, shift := 0 })))
     let f : Fin 96 := 3
     let h : HintE := ⟨(2 * 2 ^ 60 + 5 * 2 ^ 48 + 9 * 2 ^ 40 + 1 * 2 ^ 36 + 77 * 2 ^ 24 + 3), 40, 7⟩
     let a : Nat := 46
     s.awake ∧ ((s.dev.fd f).due = [⟨a, h⟩]) ∧ (a ≤ s.dev.time.count) ∧ (s.dev.rdB TB_STATUS_STOPPED = false) ∧
       ((s.dev.hintJobHere f h.word).isSome = true) ∧ (hintOp h.word = 2)) ∧
    (let s : State := stD (fun d => (((((inTime (fun t => { t with count := 50 }) d) |>.wrB TB_STATUS_STOPPED false).updFd 3 fun x => { x with up := true, stop := .none, read := 0, due := [⟨46, ⟨(4 * 2 ^ 60 + 5 * 2 ^ 48 + 9 * 2 ^ 40 + 1 * 2 ^ 36 + 77 * 2 ^ 24 + 3), 40, 7⟩⟩], hints := [⟨(1 * 2 ^ 60 + 5 * 2 ^ 48 + 9 * 2 ^ 40 + 1 * 2 ^ 36 + 77 * 2 ^ 24 + 3), 40, 7⟩, ⟨5, 41, 8⟩] }).wr JZ_SEL_STATUS_STATE 1) |>.setJob 2 (some { job := 77, owner := none, fields := [3, 4], waferMean := 1, phases := [⟨1,1,1,20,6,0,0,0,20⟩, ⟨1,1,1,20,2,0,0,0,20⟩], phase := 0, tight := false, misses := 0, missTold := false, wm := 0, wmTold := 0, shift := 0 })))
     let f : Fin 96 := 3
     let h : HintE := ⟨(4 * 2 ^ 60 + 5 * 2 ^ 48 + 9 * 2 ^ 40 + 1 * 2 ^ 36 + 77 * 2 ^ 24 + 3), 40, 7⟩
     let a : Nat := 46
     let i : Nat := 0
     s.awake ∧ ((s.dev.fd f).due = [⟨a, h⟩]) ∧ (a ≤ s.dev.time.count) ∧ (s.dev.rdB TB_STATUS_STOPPED = false) ∧
       ((s.dev.hintJobHere f h.word).isSome = true) ∧ (hintOp h.word = 4) ∧ (s.dev.winOf (hintJob h.word) (hintArg
       h.word) = none) ∧ (freeKey 32 s.dev.bud.wins = some i)) := by
  decide +kernel

/-- The hypotheses of HintsQueueAndAct are met, clause by clause. -/
theorem witness_HintsQueueAndAct_2 :
    (let s : State := stD (fun d => (((((inTime (fun t => { t with count := 50 }) d) |>.wrB TB_STATUS_STOPPED false).updFd 3 fun x => { x with up := true, stop := .none, read := 0, due := [⟨46, ⟨(7 * 2 ^ 60 + 5 * 2 ^ 48 + 9 * 2 ^ 40 + 1 * 2 ^ 36 + 77 * 2 ^ 24 + 0), 40, 7⟩⟩], hints := [⟨(1 * 2 ^ 60 + 5 * 2 ^ 48 + 9 * 2 ^ 40 + 1 * 2 ^ 36 + 77 * 2 ^ 24 + 3), 40, 7⟩, ⟨5, 41, 8⟩] }).wr JZ_SEL_STATUS_STATE 1) |>.setJob 2 (some { job := 77, owner := none, fields := [3, 4], waferMean := 1, phases := [⟨1,1,1,20,6,0,0,0,20⟩, ⟨1,1,1,20,2,0,0,0,20⟩], phase := 0, tight := false, misses := 0, missTold := false, wm := 0, wmTold := 0, shift := 0 })))
     let f : Fin 96 := 3
     let h : HintE := ⟨(7 * 2 ^ 60 + 5 * 2 ^ 48 + 9 * 2 ^ 40 + 1 * 2 ^ 36 + 77 * 2 ^ 24 + 0), 40, 7⟩
     let a : Nat := 46
     s.awake ∧ ((s.dev.fd f).due = [⟨a, h⟩]) ∧ (a ≤ s.dev.time.count) ∧ (s.dev.rdB TB_STATUS_STOPPED = false) ∧
       ((s.dev.hintJobHere f h.word).isSome = true) ∧ (hintOp h.word = 7)) ∧
    (let s : State := stD (fun d => (inTime (fun t => { t with count := 50 }) d |>.wrB TB_STATUS_STOPPED false).updFd 3 fun x => { x with prepos := [⟨1, 5, 6, 7, 50⟩, ⟨1, 5, 6, 7, 51⟩] })
     let f : Fin 96 := 3
     s.awake ∧ (s.dev.rdB TB_STATUS_STOPPED = false)) ∧
    (let s : State := stD (fun d => d.wrB TB_STATUS_STOPPED true)
     let f : Fin 96 := 3
     s.awake ∧ (s.dev.rdB TB_STATUS_STOPPED = true)) := by
  decide +kernel

/-- The hypotheses of HintsAreRead are met, clause by clause. -/
theorem witness_HintsAreRead :
    (let s : State := stD (fun d => ((((d |>.wrB TB_STATUS_STOPPED false).updFd 3 fun x => { x with up := true, stop := .none, read := 0, hints := [⟨(9 * 2 ^ 60 + 5 * 2 ^ 48 + 9 * 2 ^ 40 + 1 * 2 ^ 36 + 77 * 2 ^ 24 + 3), 40, 7⟩, ⟨5, 41, 8⟩] }).wr JZ_SEL_STATUS_STATE 1) |>.setJob 2 (some { job := 77, owner := none, fields := [3, 4], waferMean := 1, phases := [⟨1,1,1,20,6,0,0,0,20⟩, ⟨1,1,1,20,2,0,0,0,20⟩], phase := 0, tight := false, misses := 0, missTold := false, wm := 0, wmTold := 0, shift := 0 })))
     let f : Fin 96 := 3
     let h : HintE := ⟨(9 * 2 ^ 60 + 5 * 2 ^ 48 + 9 * 2 ^ 40 + 1 * 2 ^ 36 + 77 * 2 ^ 24 + 3), 40, 7⟩
     let c : Fld := ST_HINT_DROP0_RESERVED 3
     s.awake ∧ (s.dev.nextHint f = some h) ∧ (s.dev.hintDrops f h.word = some c)) ∧
    (let s : State := stD (fun d => ((((d |>.wrB TB_STATUS_STOPPED false).updFd 3 fun x => { x with up := true, stop := .none, read := 0, hints := [⟨(1 * 2 ^ 60 + 5 * 2 ^ 48 + 9 * 2 ^ 40 + 1 * 2 ^ 36 + 77 * 2 ^ 24 + 3), 40, 7⟩, ⟨5, 41, 8⟩] }).wr JZ_SEL_STATUS_STATE 1) |>.setJob 2 (some { job := 77, owner := none, fields := [3, 4], waferMean := 1, phases := [⟨1,1,1,20,6,0,0,0,20⟩, ⟨1,1,1,20,2,0,0,0,20⟩], phase := 0, tight := false, misses := 0, missTold := false, wm := 0, wmTold := 0, shift := 0 })))
     let f : Fin 96 := 3
     let h : HintE := ⟨(1 * 2 ^ 60 + 5 * 2 ^ 48 + 9 * 2 ^ 40 + 1 * 2 ^ 36 + 77 * 2 ^ 24 + 3), 40, 7⟩
     s.awake ∧ (s.dev.nextHint f = some h) ∧ (s.dev.hintDrops f h.word = none)) ∧
    (let s : State := stD (fun d => ((((d |>.wrB TB_STATUS_STOPPED false).updFd 3 fun x => { x with up := true, stop := .none, read := 0, hints := [⟨(1 * 2 ^ 60 + 5 * 2 ^ 48 + 9 * 2 ^ 40 + 1 * 2 ^ 36 + 77 * 2 ^ 24 + 3), 40, 7⟩, ⟨5, 41, 8⟩] }).wr JZ_SEL_STATUS_STATE 1) |>.setJob 2 (some { job := 77, owner := none, fields := [3, 4], waferMean := 1, phases := [⟨1,1,1,20,6,0,0,0,20⟩, ⟨1,1,1,20,2,0,0,0,20⟩], phase := 0, tight := false, misses := 0, missTold := false, wm := 0, wmTold := 0, shift := 0 })))
     let f : Fin 96 := 3
     let h : HintE := ⟨(1 * 2 ^ 60 + 5 * 2 ^ 48 + 9 * 2 ^ 40 + 1 * 2 ^ 36 + 77 * 2 ^ 24 + 3), 40, 7⟩
     s.awake ∧ (s.dev.nextHint f = some h) ∧ (hintOp h.word = 1) ∧ (s.dev.hintDrops f h.word = none) ∧ (isTileRail
       (hintClass h.word) = true)) ∧
    (let s : State := stD (fun d => ((((d |>.wrB TB_STATUS_STOPPED false).updFd 3 fun x => { x with up := true, stop := .none, read := 0, hints := [⟨(1 * 2 ^ 60 + 5 * 2 ^ 48 + 9 * 2 ^ 40 + 3 * 2 ^ 36 + 77 * 2 ^ 24 + 3), 40, 7⟩, ⟨5, 41, 8⟩] }).wr JZ_SEL_STATUS_STATE 1) |>.setJob 2 (some { job := 77, owner := none, fields := [3, 4], waferMean := 1, phases := [⟨1,1,1,20,6,0,0,0,20⟩, ⟨1,1,1,20,2,0,0,0,20⟩], phase := 0, tight := false, misses := 0, missTold := false, wm := 0, wmTold := 0, shift := 0 })))
     let f : Fin 96 := 3
     let h : HintE := ⟨(1 * 2 ^ 60 + 5 * 2 ^ 48 + 9 * 2 ^ 40 + 3 * 2 ^ 36 + 77 * 2 ^ 24 + 3), 40, 7⟩
     s.awake ∧ (s.dev.nextHint f = some h) ∧ (hintOp h.word = 1) ∧ (s.dev.hintDrops f h.word = none) ∧ (isTileRail
       (hintClass h.word) = false)) ∧
    (let s : State := stD (fun d => ((((d |>.wrB TB_STATUS_STOPPED false).updFd 3 fun x => { x with up := true, stop := .none, read := 0, hints := [⟨(3 * 2 ^ 60 + 5 * 2 ^ 48 + 9 * 2 ^ 40 + 1 * 2 ^ 36 + 77 * 2 ^ 24 + 3), 40, 7⟩, ⟨5, 41, 8⟩] }).wr JZ_SEL_STATUS_STATE 1) |>.updTi 3 9 200 (fun x => { x with job := some 77 }) |>.setJob 2 (some { job := 77, owner := none, fields := [3, 4], waferMean := 1, phases := [⟨1,1,1,20,6,0,0,0,20⟩, ⟨1,1,1,20,2,0,0,0,20⟩], phase := 0, tight := false, misses := 0, missTold := false, wm := 0, wmTold := 0, shift := 0 })))
     let f : Fin 96 := 3
     let h : HintE := ⟨(3 * 2 ^ 60 + 5 * 2 ^ 48 + 9 * 2 ^ 40 + 1 * 2 ^ 36 + 77 * 2 ^ 24 + 3), 40, 7⟩
     s.awake ∧ (s.dev.nextHint f = some h) ∧ (hintOp h.word = 3) ∧ (s.dev.hintDrops f h.word = none)) ∧
    (let s : State := stD (fun d => ((((d |>.wrB TB_STATUS_STOPPED false).updFd 3 fun x => { x with up := true, stop := .none, read := 0, hints := [⟨(2 * 2 ^ 60 + 5 * 2 ^ 48 + 9 * 2 ^ 40 + 1 * 2 ^ 36 + 77 * 2 ^ 24 + 3), 40, 7⟩, ⟨5, 41, 8⟩] }).wr JZ_SEL_STATUS_STATE 1) |>.setJob 2 (some { job := 77, owner := none, fields := [3, 4], waferMean := 1, phases := [⟨1,1,1,20,6,0,0,0,20⟩, ⟨1,1,1,20,2,0,0,0,20⟩], phase := 0, tight := false, misses := 0, missTold := false, wm := 0, wmTold := 0, shift := 0 })))
     let f : Fin 96 := 3
     let h : HintE := ⟨(2 * 2 ^ 60 + 5 * 2 ^ 48 + 9 * 2 ^ 40 + 1 * 2 ^ 36 + 77 * 2 ^ 24 + 3), 40, 7⟩
     s.awake ∧ (s.dev.nextHint f = some h) ∧ (hintOp h.word = 2) ∧ (s.dev.hintDrops f h.word = none)) := by
  decide +kernel

/-- The hypotheses of HintsAreRead are met, clause by clause. -/
theorem witness_HintsAreRead_2 :
    (let s : State := stD (fun d => ((((d |>.wrB TB_STATUS_STOPPED false).updFd 3 fun x => { x with up := true, stop := .none, read := 0, hints := [⟨(4 * 2 ^ 60 + 5 * 2 ^ 48 + 9 * 2 ^ 40 + 1 * 2 ^ 36 + 77 * 2 ^ 24 + 3), 40, 7⟩, ⟨5, 41, 8⟩] }).wr JZ_SEL_STATUS_STATE 1) |>.setJob 2 (some { job := 77, owner := none, fields := [3, 4], waferMean := 1, phases := [⟨1,1,1,20,6,0,0,0,20⟩, ⟨1,1,1,20,2,0,0,0,20⟩], phase := 0, tight := false, misses := 0, missTold := false, wm := 0, wmTold := 0, shift := 0 })))
     let f : Fin 96 := 3
     let h : HintE := ⟨(4 * 2 ^ 60 + 5 * 2 ^ 48 + 9 * 2 ^ 40 + 1 * 2 ^ 36 + 77 * 2 ^ 24 + 3), 40, 7⟩
     s.awake ∧ (s.dev.nextHint f = some h) ∧ (hintOp h.word = 4) ∧ (s.dev.hintDrops f h.word = none)) ∧
    (let s : State := stD (fun d => ((((d |>.wrB TB_STATUS_STOPPED false).updFd 3 fun x => { x with up := true, stop := .none, read := 0, hints := [⟨(5 * 2 ^ 60 + 5 * 2 ^ 48 + 9 * 2 ^ 40 + 1 * 2 ^ 36 + 77 * 2 ^ 24 + 3), 40, 7⟩, ⟨5, 41, 8⟩] }).wr JZ_SEL_STATUS_STATE 1) |>.setJob 2 (some { job := 77, owner := none, fields := [3, 4], waferMean := 1, phases := [⟨1,1,1,20,6,0,0,0,20⟩, ⟨1,1,1,20,2,0,0,0,20⟩], phase := 0, tight := false, misses := 0, missTold := false, wm := 0, wmTold := 0, shift := 0 })))
     let f : Fin 96 := 3
     let h : HintE := ⟨(5 * 2 ^ 60 + 5 * 2 ^ 48 + 9 * 2 ^ 40 + 1 * 2 ^ 36 + 77 * 2 ^ 24 + 3), 40, 7⟩
     s.awake ∧ (s.dev.nextHint f = some h) ∧ (hintOp h.word = 5) ∧ (s.dev.hintDrops f h.word = none)) ∧
    (let s : State := stD (fun d => ((((d |>.wrB TB_STATUS_STOPPED false).updFd 3 fun x => { x with up := true, stop := .none, read := 0, hints := [⟨(6 * 2 ^ 60 + 5 * 2 ^ 48 + 9 * 2 ^ 40 + 1 * 2 ^ 36 + 77 * 2 ^ 24 + 2), 40, 7⟩, ⟨5, 41, 8⟩] }).wr JZ_SEL_STATUS_STATE 1) |>.setJob 2 (some { job := 77, owner := none, fields := [3, 4], waferMean := 1, phases := [⟨1,1,1,20,6,0,0,0,20⟩, ⟨1,1,1,20,2,0,0,0,20⟩], phase := 0, tight := false, misses := 0, missTold := false, wm := 0, wmTold := 0, shift := 0 })))
     let f : Fin 96 := 3
     let h : HintE := ⟨(6 * 2 ^ 60 + 5 * 2 ^ 48 + 9 * 2 ^ 40 + 1 * 2 ^ 36 + 77 * 2 ^ 24 + 2), 40, 7⟩
     s.awake ∧ (s.dev.nextHint f = some h) ∧ (hintOp h.word = 6) ∧ (s.dev.hintDrops f h.word = none)) ∧
    (let s : State := stD (fun d => ((((d |>.wrB TB_STATUS_STOPPED false).updFd 3 fun x => { x with up := true, stop := .none, read := 0, hints := [⟨(7 * 2 ^ 60 + 5 * 2 ^ 48 + 9 * 2 ^ 40 + 1 * 2 ^ 36 + 77 * 2 ^ 24 + 3), 40, 7⟩, ⟨5, 41, 8⟩] }).wr JZ_SEL_STATUS_STATE 1) |>.setJob 2 (some { job := 77, owner := none, fields := [3, 4], waferMean := 1, phases := [⟨1,1,1,20,6,0,0,0,20⟩, ⟨1,1,1,20,2,0,0,0,20⟩], phase := 0, tight := false, misses := 0, missTold := false, wm := 0, wmTold := 0, shift := 0 })))
     let f : Fin 96 := 3
     let h : HintE := ⟨(7 * 2 ^ 60 + 5 * 2 ^ 48 + 9 * 2 ^ 40 + 1 * 2 ^ 36 + 77 * 2 ^ 24 + 3), 40, 7⟩
     s.awake ∧ (s.dev.nextHint f = some h) ∧ (hintOp h.word = 7) ∧ (s.dev.hintDrops f h.word = none)) := by
  decide +kernel

/-- The hypotheses of AdmissionAndCaps are met, clause by clause. -/
theorem witness_AdmissionAndCaps :
    (let s : State := stD (fun d => d.wrB JZ_STATUS_READY true)
     let bank : Fin 9 := 8
     s.awake ∧ (s.dev.bud.adm = none) ∧ (s.dev.ready = true)) ∧
    (let s : State := State.reset
     let bank : Fin 9 := 8
     s.awake ∧ (s.dev.bud.adm.isSome = true ∨ s.dev.ready = false)) ∧
    (let s : State := State.reset
     let bank : Fin 9 := 8
     let job : BitVec 12 := 7
     s.awake ∧ (s.dev.bud.adm.isSome = true ∨ s.dev.ready = false)) ∧
    (let s : State := stD (fun d => ((S5 d).wrB JZ_STATUS_READY true))
     let bank : Fin 9 := 5
     let job : BitVec 12 := 78
     let j : Nat := 2
     let e : JobE := E5
     s.awake ∧ (s.dev.bud.adm = none) ∧ (s.dev.ready = true) ∧ (s.dev.jobNo job.toNat = some (j, e)) ∧ (bank.val = 8 ∨
       e.owner = some bank.val) ∧ (s.dev.job j = some e)) ∧
    (let s : State := stD (fun d => d.updBud fun b => { b with adm := some ⟨3, [5, 6]⟩ })
     let bank : Fin 9 := 3
     let a : AdmCmd := ⟨3, [5, 6]⟩
     s.awake ∧ (s.dev.bud.adm = some a) ∧ (a.bank = bank.val) ∧ (descrOf a.words = none)) := by
  decide +kernel

/-- The hypotheses of AdmissionAndCaps are met, clause by clause. -/
theorem witness_AdmissionAndCaps_2 :
    (let s : State := stD (fun d => ((serveAll d).updBud fun b => { b with adm := some ⟨3, WADM⟩, jobs := [] }))
     let bank : Fin 9 := 3
     let a : AdmCmd := ⟨3, WADM⟩
     let e : Descr := EADM
     let j : Nat := 0
     s.awake ∧ (s.dev.bud.adm = some a) ∧ (a.bank = bank.val) ∧ (descrOf a.words = some e) ∧ (s.dev.jobNo e.job = none)
       ∧ (∀ f ∈ e.fields, s.dev.draining f = false) ∧ (freeKey 64 s.dev.bud.jobs = some j) ∧ ((s.dev.judgeAdm e).outcome
       ≠ 2)) ∧
    (let s : State := stD (fun d => (inTime (fun t => { t with count := 3000 }) d |>.wrB TB_STATUS_STOPPED false).updBud fun b => { b with tray := { b.tray with next := some (333, true) }, rack := { b.rack with next := none } })
     s.awake ∧ (s.dev.rdB TB_STATUS_STOPPED = false) ∧ (s.dev.time.count % 1000 = 0)) ∧
    (let s : State := stD (fun d => d.wrB TB_STATUS_STOPPED true)
     s.awake ∧ (s.dev.rdB TB_STATUS_STOPPED = true ∨ s.dev.time.count % 1000 ≠ 0)) ∧
    (let s : State := stD (fun d => (inTime (fun t => { t with count := 3000 }) d |>.wrB TB_STATUS_STOPPED false).updBud fun b => { b with tray := { b.tray with defer := some ⟨444, [(1, 2)], 0, false⟩ } })
     let x : CapDefer := ⟨444, [(1, 2)], 0, false⟩
     s.awake ∧ (s.dev.rdB TB_STATUS_STOPPED = false) ∧ (s.dev.time.count % 1000 = 0) ∧ (s.dev.bud.tray.defer = some x) ∧
       (x.due ≤ s.dev.time.nbRun ∨ x.wins = [])) := by
  decide +kernel

/-- The hypotheses of AdmissionAndCaps are met, clause by clause. -/
theorem witness_AdmissionAndCaps_3 :
    (let s : State := stD (fun d => (inTime (fun t => { t with count := 3000 }) d |>.wrB TB_STATUS_STOPPED false).updBud fun b => { b with tray := { b.tray with defer := some ⟨444, [(1, 2)], 7000, false⟩ } })
     let x : CapDefer := ⟨444, [(1, 2)], 7000, false⟩
     s.awake ∧ (s.dev.rdB TB_STATUS_STOPPED = false) ∧ (s.dev.time.count % 1000 = 0) ∧ (s.dev.bud.tray.defer = some x) ∧
       (s.dev.time.nbRun < x.due) ∧ (x.wins ≠ []) ∧ (x.again = false) ∧ (s.dev.bud.rack.again = false)) := by
  decide +kernel

/-- The hypotheses of BarriersAndFloors are met, clause by clause. -/
theorem witness_BarriersAndFloors :
    (let s : State := stD (fun d => ((((d |>.wrB TB_STATUS_STOPPED false |>.wr JZ_SEL_STATUS_STATE 1 |>.wrB (ST_BUD_STATUS_HELDc 3 6) false).updFd 3 fun x => { x with shut := false }).updDm 3 1 fun x => { x with shut := false, released := [] }).updPt 3 9 fun x => { x with critCeil := none }).updTi 3 9 200 fun x => { x with job := some 77, arm := some ⟨77, false, 9, 5⟩, wait := .none, wads := false })
     let f : Fin 96 := 3
     let p : Fin 36 := 9
     let n : BitVec 8 := 200
     let barrier : Bool := true
     let a : TileArm := ⟨77, false, 9, 5⟩
     s.awake ∧ ((s.dev.ti f p n.toNat).arm = some a) ∧ (a.light = true ∨ barrier = true)) ∧
    (let s : State := stD (fun d => ((((d |>.wrB TB_STATUS_STOPPED false |>.wr JZ_SEL_STATUS_STATE 1 |>.wrB (ST_BUD_STATUS_HELDc 3 6) false).updFd 3 fun x => { x with shut := false }).updDm 3 1 fun x => { x with shut := false, released := [] }).updPt 3 9 fun x => { x with critCeil := none }).updTi 3 9 200 fun x => { x with job := some 77, arm := some ⟨77, false, 9, 5⟩, wait := .none, wads := false })
     let f : Fin 96 := 3
     let p : Fin 36 := 9
     let n : BitVec 8 := 200
     let barrier : Bool := false
     let a : TileArm := ⟨77, false, 9, 5⟩
     s.awake ∧ ((s.dev.ti f p n.toNat).arm = some a) ∧ (a.light = false) ∧ (barrier = false)) ∧
    (let s : State := stD (fun d => ((((d |>.wrB TB_STATUS_STOPPED false |>.wr JZ_SEL_STATUS_STATE 1 |>.wrB (ST_BUD_STATUS_HELDc 3 6) false).updFd 3 fun x => { x with shut := false }).updDm 3 1 fun x => { x with shut := false, released := [] }).updPt 3 9 fun x => { x with critCeil := none }).updTi 3 9 200 fun x => { x with job := some 77, arm := none, wait := .none, wads := false })
     let f : Fin 96 := 3
     let p : Fin 36 := 9
     let n : BitVec 8 := 200
     let barrier : Bool := true
     s.awake ∧ ((s.dev.ti f p n.toNat).arm = none) ∧ (barrier = true) ∧ (((s.dev.ti f p n.toNat).job.bind
       s.dev.jobNo).all (fun x => !x.2.tight) = true)) ∧
    (let s : State := stD (fun d => (S5t (((((d |>.wrB TB_STATUS_STOPPED false |>.wr JZ_SEL_STATUS_STATE 1 |>.wrB (ST_BUD_STATUS_HELDc 3 6) false).updFd 3 fun x => { x with shut := false }).updDm 3 1 fun x => { x with shut := false, released := [] }).updPt 3 9 fun x => { x with critCeil := none }).updTi 3 9 200 fun x => { x with job := some 78, arm := none, wait := .none, wads := false })))
     let f : Fin 96 := 3
     let p : Fin 36 := 9
     let n : BitVec 8 := 200
     let barrier : Bool := true
     let j : Nat := 2
     let e : JobE := E5t
     s.awake ∧ ((s.dev.ti f p n.toNat).arm = none) ∧ (barrier = true) ∧ ((s.dev.ti f p n.toNat).job.bind s.dev.jobNo =
       some (j, e)) ∧ (e.tight = true) ∧ (s.dev.job j = some e) ∧ (e.missTold = false)) ∧
    (let s : State := stD (fun d => (fun d => ((((d |>.wrB TB_STATUS_STOPPED false |>.wr JZ_SEL_STATUS_STATE 1 |>.wrB (ST_BUD_STATUS_HELDc 3 6) false).updFd 3 fun x => { x with shut := false }).updDm 3 1 fun x => { x with shut := false, released := [] }).updPt 3 9 fun x => { x with critCeil := none }).updTi 3 9 200 fun x => { x with job := some 77, arm := some ⟨77, false, 9, 5⟩, wait := .barrier, wads := true }) (d.wr (ST_HED_STATE_STATE 3 1) 2))
     let f : Fin 96 := 3
     let p : Fin 36 := 9
     let n : BitVec 8 := 200
     s.awake ∧ ((s.dev.ti f p n.toNat).barrierArm = true) ∧ ((s.dev.ti f p n.toNat).wait = .barrier) ∧ (s.dev.plan f
       (domOf p) ≠ plRamp)) ∧
    (let s : State := stD (fun d => ((((d |>.wrB TB_STATUS_STOPPED false |>.wr JZ_SEL_STATUS_STATE 1 |>.wrB (ST_BUD_STATUS_HELDc 3 6) false).updFd 3 fun x => { x with shut := false }).updDm 3 1 fun x => { x with shut := false, released := [] }).updPt 3 9 fun x => { x with critCeil := none }).updTi 3 9 200 fun x => { x with job := some 77, arm := some ⟨77, true, 9, 5⟩, wait := .barrier, wads := true })
     let f : Fin 96 := 3
     let p : Fin 36 := 9
     let n : BitVec 8 := 200
     s.awake ∧ ((s.dev.ti f p n.toNat).barrierArm = false ∨ (s.dev.ti f p n.toNat).wait ≠ .barrier)) := by
  decide +kernel

/-- The hypotheses of BarriersAndFloors are met, clause by clause. -/
theorem witness_BarriersAndFloors_2 :
    (let s : State := stD (fun (d : Dev) => ((fun (d : Dev) => ((((d |>.wrB TB_STATUS_STOPPED false |>.wr JZ_SEL_STATUS_STATE 1 |>.wrB (ST_BUD_STATUS_HELDc 3 6) false).updFd 3 fun x => { x with shut := false }).updDm 3 1 fun x => { x with shut := false, released := [] }).updPt 3 9 fun x => { x with critCeil := none }).updTi 3 9 200 fun x => { x with job := some 77, arm := some ⟨77, false, 9, 5⟩, wait := .barrier, wads := true }) (d.wr (ST_HED_STATE_STATE 3 1) 3)).updDm 3 1 fun x => { x with released := [shedIx 9 12], toStart := [], matrixHeld := false })
     let f : Fin 96 := 3
     let p : Fin 36 := 9
     let n : BitVec 8 := 200
     s.awake ∧ ((s.dev.ti f p n.toNat).barrierArm = true) ∧ ((s.dev.ti f p n.toNat).wait = .barrier) ∧ (s.dev.plan f
       (domOf p) = plRamp) ∧ (shedIx p (shedOf n.toNat) ∈ (s.dev.dm f (domOf p)).released) ∧ ((s.dev.dm f (domOf
       p)).toStart = []) ∧ (s.dev.startHeld f (domOf p) = false) ∧ (s.dev.heddleShut f (domOf p) = false)) ∧
    (let s : State := stD (fun d => ((inTime (fun t => { t with count := 3000 }) d).wr (ST_HED_STATE_STATE 3 1) 2 |>.wr (ST_WAD_CFG_FLOOR_HOLD 3) 100).updDm 3 1 fun x => { x with eRel := some 2900, iFloor := 7 })
     let f : Fin 96 := 3
     let k : Fin 4 := 1
     let e : Nat := 2900
     s.awake ∧ ((s.dev.dm f k).relPast = false) ∧ ((s.dev.dm f k).eRel = some e) ∧ (e + s.dev.rd (ST_WAD_CFG_FLOOR_HOLD
       f) ≤ s.dev.time.count) ∧ (s.dev.plan f k = plFloor ∨ s.dev.plan f k = plDecay)) ∧
    (let s : State := stD (fun d => ((inTime (fun t => { t with count := 3000 }) d).wr (ST_HED_STATE_STATE 3 1) 0 |>.wr (ST_WAD_CFG_FLOOR_HOLD 3) 100).updDm 3 1 fun x => { x with eRel := some 2900, relPast := false })
     let f : Fin 96 := 3
     let k : Fin 4 := 1
     s.awake ∧ (s.dev.relPasses f k = true) ∧ (s.dev.plan f k ≠ plFloor) ∧ (s.dev.plan f k ≠ plDecay)) ∧
    (let s : State := stD (fun d => (d.wr (ST_HED_STATE_STATE 3 1) 2).wrB (ST_HED_STATE_KIND 3 1) true)
     let f : Fin 96 := 3
     let k : Fin 4 := 1
     s.awake ∧ (s.dev.relPasses f k = false) ∧ (s.dev.plan f k = plFloor) ∧ (s.dev.rdB (ST_HED_STATE_KIND f k) = true)) ∧
    (let s : State := State.reset
     let f : Fin 96 := 3
     let k : Fin 4 := 1
     s.awake ∧ (s.dev.relPasses f k = false) ∧ (s.dev.plan f k ≠ plFloor ∨ s.dev.rdB (ST_HED_STATE_KIND f k) = false)) := by
  decide +kernel

/-- The hypotheses of BarriersAndFloors are met, clause by clause. -/
theorem witness_BarriersAndFloors_3 :
    (let s : State := stD (fun d => ((((d |>.wrB TB_STATUS_STOPPED false |>.wr JZ_SEL_STATUS_STATE 1 |>.wrB (ST_BUD_STATUS_HELDc 3 6) false).updFd 3 fun x => { x with shut := false }).updDm 3 1 fun x => { x with shut := false, released := [] }).updPt 3 9 fun x => { x with critCeil := none }).updTi 3 9 200 fun x => { x with job := some 77, arm := some ⟨77, false, 9, 5⟩, wait := .barrier, wads := true })
     let f : Fin 96 := 3
     let k : Fin 4 := 1
     s.awake ∧ (s.dev.armedDom f k = true) ∧ ((s.dev.dm f k).counted = false)) ∧
    (let s : State := State.reset
     let f : Fin 96 := 90
     let k : Fin 4 := 1
     s.awake ∧ (s.dev.armedDom f k = false ∨ (s.dev.dm f k).counted = true)) := by
  decide +kernel

/-- The hypotheses of BeginsAreApplied are met, clause by clause. -/
theorem witness_BeginsAreApplied :
    (let s : State := stD (LG7)
     let f : Fin 96 := 3
     let p : Fin 36 := 9
     let n : BitVec 8 := 200
     let tag : BitVec 64 := TAG7
     let stamp : BitVec 64 := 99
     let g : Fin 96 := 5
     let k : Nat := 0
     s.awake ∧ (s.dev.eventWaits (.begin_ (beginM f p n tag [] stamp)) = false) ∧ (s.dev.recList = []) ∧
       (s.dev.led.early = []) ∧ (s.dev.discards f p tag.toNat = false) ∧ (s.dev.led.waits.any (fun w => w.field = f.val
       && w.patch = p.val && w.tile = n.toNat) = false) ∧ (s.dev.beginWaits (beginM f p n tag [] stamp) = false) ∧
       (s.dev.keyIx (tagJob tag.toNat) (tagSeq tag.toNat) = none) ∧ (s.dev.prevRef none (beginM f p n tag [] stamp) =
       none) ∧ (footTiles (tagFoot tag.toNat) ≠ 0) ∧ (footSpan (tagFoot tag.toNat) + 1 ≤ (s.dev.reserveOf g).length) ∧
       ((s.dev.ti f p n.toNat).cur = none) ∧ (tget 0 s.dev.rp.watch (f * 4096 + tagJob tag.toNat) = 0) ∧ (s.dev.freeEnt
       = some k)) := by
  decide +kernel

/-- The hypotheses of BeginsAreApplied are met, clause by clause. -/
theorem witness_BeginsAreApplied_2 :
    (let s : State := stD (inEnts [(7, some ENT7a)])
     let f : Fin 96 := 3
     let p : Fin 36 := 9
     let n : BitVec 8 := 200
     let tag : BitVec 64 := TAG7
     let stamp : BitVec 64 := 99
     let o : TagObs := ⟨BitVec.ofNat 64 (outTag 7 0 4 77), 0xFFFF⟩
     let g : Fin 96 := 5
     let k : Nat := 0
     let j : Nat := 7
     let y : Nat := 0
     let x : Entry := ENT7a
     s.awake ∧ (s.dev.eventWaits (.begin_ (beginM f p n tag [o] stamp)) = false) ∧ (s.dev.recList = []) ∧
       (s.dev.led.early = []) ∧ (s.dev.discards f p tag.toNat = false) ∧ (s.dev.led.waits.any (fun w => w.field = f.val
       && w.patch = p.val && w.tile = n.toNat) = false) ∧ (s.dev.beginWaits (beginM f p n tag [o] stamp) = false) ∧
       (s.dev.keyIx (tagJob tag.toNat) (tagSeq tag.toNat) = none) ∧ (s.dev.prevRef none (beginM f p n tag [o] stamp) =
       none) ∧ (footTiles (tagFoot tag.toNat) ≠ 0) ∧ (footSpan (tagFoot tag.toNat) + 1 ≤ (s.dev.reserveOf g).length) ∧
       ((s.dev.ti f p n.toNat).cur = none) ∧ (tget 0 s.dev.rp.watch (f * 4096 + tagJob tag.toNat) = 0) ∧ (s.dev.freeEnt
       = some k) ∧ (s.dev.needsProxy (outTagOf o) = false) ∧ (s.dev.tagRef none (outTagOf o) = some (j, y)) ∧ (k ≠ j) ∧
       (s.dev.ent j = some x) ∧ (x.st = .basted) ∧ (x.closed = false) ∧ (x.gen = y)) := by
  decide +kernel

/-- The hypotheses of BeginsAreApplied are met, clause by clause. -/
theorem witness_BeginsAreApplied_3 :
    (let s : State := stD (fun d => (LG7 d).updRp fun r => { r with assays := [(3, 9)] })
     let f : Fin 96 := 3
     let p : Fin 36 := 9
     let n : BitVec 8 := 200
     let tag : BitVec 64 := TAG7
     let stamp : BitVec 64 := 99
     let l : List TagObs := []
     s.awake ∧ (s.dev.eventWaits (.begin_ (beginM f p n tag l stamp)) = false) ∧ (s.dev.runOf f p tag.toNat = none) ∧
       (s.dev.discards f p tag.toNat = false) ∧ (s.dev.beginWaits (beginM f p n tag l stamp) = true)) ∧
    (let s : State := stD (LG7)
     let f : Fin 96 := 3
     let p : Fin 36 := 9
     let n : BitVec 8 := 200
     let tag : BitVec 64 := TAG8
     let stamp : BitVec 64 := 99
     let l : List TagObs := []
     s.awake ∧ (s.dev.eventWaits (.begin_ (beginM f p n tag l stamp)) = false) ∧ (s.dev.runOf f p tag.toNat = none) ∧
       (s.dev.discards f p tag.toNat = true)) ∧
    (let s : State := stD (fun d => (LG7 d).updLed fun l => { l with cls := 4 })
     let f : Fin 96 := 3
     let p : Fin 36 := 9
     let n : BitVec 8 := 200
     let tag : BitVec 64 := TAG7
     let stamp : BitVec 64 := 99
     let l : List TagObs := []
     s.awake ∧ (s.dev.runOf f p tag.toNat = none) ∧ (s.dev.eventWaits (.begin_ (beginM f p n tag l stamp)) = true)) := by
  decide +kernel

/-- The hypotheses of BeginsAreApplied are met, clause by clause. -/
theorem witness_BeginsAreApplied_4 :
    (let s : State := stD (fun d => (LG7 d).updLed fun l => { l with waits := [beginM 3 9 200 TAG7 [] 99] })
     let f : Fin 96 := 3
     let p : Fin 36 := 9
     let n : BitVec 8 := 200
     let tag : BitVec 64 := TAG7
     let stamp : BitVec 64 := 99
     let g : Fin 96 := 5
     let k : Nat := 0
     s.awake ∧ (s.dev.stopped = false) ∧ (s.dev.recList = []) ∧ (s.dev.led.early = []) ∧ (s.dev.led.waits = [beginM f p
       n tag [] stamp]) ∧ (s.dev.beginWaits (beginM f p n tag [] stamp) = false) ∧ (s.dev.keyIx (tagJob tag.toNat)
       (tagSeq tag.toNat) = none) ∧ (s.dev.prevRef none (beginM f p n tag [] stamp) = none) ∧ (footTiles (tagFoot
       tag.toNat) ≠ 0) ∧ (footSpan (tagFoot tag.toNat) + 1 ≤ (s.dev.reserveOf g).length) ∧ ((s.dev.ti f p n.toNat).cur =
       none) ∧ (tget 0 s.dev.rp.watch (f * 4096 + tagJob tag.toNat) = 0) ∧ (s.dev.freeEnt = some k)) := by
  decide +kernel

/-- The hypotheses of EndsAndMarksApply are met, clause by clause. -/
theorem witness_EndsAndMarksApply :
    (let s : State := stD (inAud)
     let f : Fin 96 := 3
     let p : Fin 36 := 9
     let n : BitVec 8 := 200
     let tag : BitVec 64 := TAG7
     let stamp : BitVec 64 := 99
     let dg : BitVec 64 := 6
     let o : StatObs := ⟨0, 0, 0, 0, 0⟩
     let k : Nat := 7
     let e : Entry := ENT7b
     s.awake ∧ (s.dev.eventWaits (.end_ (endM f p n tag dg false o stamp)) = false) ∧ (s.dev.led.marks = []) ∧
       (s.dev.recList = []) ∧ (s.dev.discards f p tag.toNat = false) ∧ (s.dev.keyIx (tagJob tag.toNat) (tagSeq
       tag.toNat) = some k) ∧ (s.dev.ent k = some e) ∧ (e.field = f) ∧ (e.begTiles.contains (p * 256 + n.toNat) = true)
       ∧ (e.endTiles.contains (p * 256 + n.toNat) = false) ∧ (e.foot = (tagFoot tag.toNat)) ∧ (e.st = .open_) ∧ (e.prods
       = []) ∧ (e.stats = none) ∧ (e.endCnt + 1 = footTiles e.foot) ∧ (s.dev.audited e.job e.seq = false) ∧ (e.suspect =
       false) ∧ (e.dests = []) ∧ (e.notes = []) ∧ (e.wdraw = false) ∧ (e.held = false) ∧ (e.remote = false)) := by
  decide +kernel

/-- The hypotheses of EndsAndMarksApply are met, clause by clause. -/
theorem witness_EndsAndMarksApply_2 :
    (let s : State := stD (inEnts [(7, some ENT7)])
     let f : Fin 96 := 3
     let p : Fin 36 := 9
     let n : BitVec 8 := 200
     let tag : BitVec 64 := TAG7
     let stamp : BitVec 64 := 99
     let dg : BitVec 64 := 6
     let o : StatObs := ⟨0, 0, 0, 0, 0⟩
     let k : Nat := 7
     let e : Entry := ENT7
     s.awake ∧ (s.dev.eventWaits (.end_ (endM f p n tag dg false o stamp)) = false) ∧ (s.dev.led.marks = []) ∧
       (s.dev.recList = []) ∧ (s.dev.discards f p tag.toNat = false) ∧ (s.dev.keyIx (tagJob tag.toNat) (tagSeq
       tag.toNat) = some k) ∧ (s.dev.ent k = some e) ∧ (e.field = f) ∧ (e.begTiles.contains (p * 256 + n.toNat) = true)
       ∧ (e.endTiles.contains (p * 256 + n.toNat) = false) ∧ (e.foot = (tagFoot tag.toNat)) ∧ (e.st = .open_) ∧ (e.prods
       = []) ∧ (e.stats = none) ∧ (e.endCnt + 1 < footTiles e.foot)) := by
  decide +kernel

/-- The hypotheses of EndsAndMarksApply are met, clause by clause. -/
theorem witness_EndsAndMarksApply_3 :
    (let s : State := stD (inEnts [(7, some ENT7)])
     let f : Fin 96 := 3
     let p : Fin 36 := 9
     let n : BitVec 8 := 200
     let tag : BitVec 64 := TAG7
     let stamp : BitVec 64 := 99
     let dg : BitVec 64 := 6
     let o : StatObs := ⟨0, 0, 0, 0, 0⟩
     let k : Nat := 7
     let e : Entry := ENT7
     s.awake ∧ (s.dev.eventWaits (.end_ (endM f p n tag dg true o stamp)) = false) ∧ (s.dev.led.marks = []) ∧
       (s.dev.recList = []) ∧ (s.dev.discards f p tag.toNat = false) ∧ (s.dev.keyIx (tagJob tag.toNat) (tagSeq
       tag.toNat) = some k) ∧ (s.dev.ent k = some e) ∧ (e.field = f) ∧ (e.begTiles.contains (p * 256 + n.toNat) = true)
       ∧ (e.endTiles.contains (p * 256 + n.toNat) = false) ∧ (e.foot = (tagFoot tag.toNat)) ∧ (e.st = .open_) ∧ (e.prods
       = []) ∧ (e.stats = none) ∧ (e.endCnt + 1 < footTiles e.foot) ∧ (e.dests = []) ∧ (e.remote = false)) ∧
    (let s : State := stD (LG7)
     let f : Fin 96 := 3
     let p : Fin 36 := 9
     let n : BitVec 8 := 200
     let tag : BitVec 64 := TAG7
     let stamp : BitVec 64 := 99
     let dg : BitVec 64 := 6
     let b : Bool := true
     let o : StatObs := ⟨0, 0, 0, 0, 0⟩
     s.awake ∧ (s.dev.eventWaits (.end_ (endM f p n tag dg b o stamp)) = false) ∧ (s.dev.led.marks = []) ∧ (s.dev.runOf
       f p tag.toNat = none) ∧ (s.dev.discards f p tag.toNat = false) ∧ (s.dev.keyIx (tagJob tag.toNat) (tagSeq
       tag.toNat) = none)) := by
  decide +kernel

/-- The hypotheses of EndsAndMarksApply are met, clause by clause. -/
theorem witness_EndsAndMarksApply_4 :
    (let s : State := stD (fun d => (LG7 d).updLed fun l => { l with cls := 4 })
     let f : Fin 96 := 3
     let p : Fin 36 := 9
     let n : BitVec 8 := 200
     let tag : BitVec 64 := TAG7
     let stamp : BitVec 64 := 99
     let dg : BitVec 64 := 6
     let b : Bool := true
     let o : StatObs := ⟨0, 0, 0, 0, 0⟩
     s.awake ∧ (s.dev.runOf f p tag.toNat = none) ∧ (s.dev.eventWaits (.end_ (endM f p n tag dg b o stamp)) = true)) ∧
    (let s : State := stD (fun d => (inEnts [(7, some ENT7)] d).updLed fun l => { l with marks := [⟨.uv, 3, [9], [(77, 5)], [40]⟩] })
     let k : Nat := 7
     let e : Entry := ENT7
     let m : Mark := ⟨.uv, 3, [9], [(77, 5)], [40]⟩
     let l : List Mark := []
     let j : Nat := 77
     let q : Nat := 5
     let i : Nat := 0
     s.awake ∧ (s.dev.stopped = false) ∧ (s.dev.led.cls ≤ 2) ∧ (s.dev.recList = []) ∧ (s.dev.led.marks = m :: l) ∧
       (m.steps = [(j, q)]) ∧ (s.dev.keyIx j q = some k) ∧ (s.dev.ent k = some e) ∧ (e.st = .open_) ∧ (e.ended = false)
       ∧ (e.prods = []) ∧ (e.rslot = none) ∧ (e.notes = []) ∧ (e.wdraw = false) ∧ (e.remote = false) ∧ (e.held = false)
       ∧ (freeKey 1024 s.dev.rp.recs = some i)) ∧
    (let s : State := stD (LG7)
     s.awake ∧ (s.dev.stopped = true ∨ 2 < s.dev.led.cls ∨ s.dev.led.marks = [])) := by
  decide +kernel

/-- The hypotheses of EndsAndMarksApply are met, clause by clause. -/
theorem witness_EndsAndMarksApply_5 :
    (let s : State := stD (fun d => (inRecs (fun r => { r with recs := [(2, some { REC7 with run := some RUN7 })] }) d).wr (ST_LINK_DOWN_VREF 5 0) 255)
     let f : Fin 96 := 5
     let p : Fin 36 := 2
     let n : BitVec 8 := 200
     let tag : BitVec 64 := TAG7
     let stamp : BitVec 64 := 99
     let dg : BitVec 64 := 0
     let b : Bool := false
     let i : Nat := 2
     let r : RRec := { REC7 with run := some RUN7 }
     let run : Run := RUN7
     s.awake ∧ (s.dev.eventWaits (.run (runM f p n tag false dg b stamp)) = false) ∧ (s.dev.runOf f p tag.toNat = some
       (i, r, run)) ∧ (s.dev.recd i = some r) ∧ (r.run = some run) ∧ (run.kind ≠ 1) ∧ (s.dev.runMayStart run = true) ∧
       (tagFoot tag.toNat = r.foot) ∧ (run.beg.contains ((run.reg.patches.findIdx? (· = p.val)).getD 0 * 256 + n.toNat)
       = false) ∧ (run.beg.length < footTiles r.foot)) ∧
    (let s : State := stD (inRecs fun r => { r with recs := [(2, some { REC7 with run := some RUN7 })] })
     let f : Fin 96 := 5
     let p : Fin 36 := 1
     let n : BitVec 8 := 4
     let tag : BitVec 64 := TAG7
     let stamp : BitVec 64 := 99
     let dg : BitVec 64 := 8
     let i : Nat := 2
     let j : Nat := 0
     let r : RRec := { REC7 with run := some RUN7 }
     let run : Run := RUN7
     s.awake ∧ (s.dev.eventWaits (.run (runM f p n tag true dg false stamp)) = false) ∧ (s.dev.runOf f p tag.toNat =
       some (i, r, run)) ∧ (s.dev.recd i = some r) ∧ (r.run = some run) ∧ (tagFoot tag.toNat = r.foot) ∧ (j =
       (run.reg.patches.findIdx? (· = p.val)).getD 0) ∧ (run.beg.contains (j * 256 + n.toNat) = true) ∧
       (run.fin.contains (j * 256 + n.toNat) = false) ∧ (run.fin.length + 1 ≠ footTiles r.foot)) ∧
    (let s : State := stD (LG7)
     let f : Fin 96 := 3
     let p : Fin 36 := 9
     let n : BitVec 8 := 200
     let tag : BitVec 64 := TAG7
     let stamp : BitVec 64 := 99
     let x : Bool := true
     let dg : BitVec 64 := 0
     let b : Bool := false
     s.awake ∧ (s.dev.eventWaits (.run (runM f p n tag x dg b stamp)) = false) ∧ (s.dev.runOf f p tag.toNat = none)) := by
  decide +kernel

/-- The hypotheses of EndsAndMarksApply are met, clause by clause. -/
theorem witness_EndsAndMarksApply_6 :
    (let s : State := stD (fun d => (LG7 d).wrB TB_STATUS_STOPPED true)
     let f : Fin 96 := 3
     let p : Fin 36 := 9
     let n : BitVec 8 := 200
     let tag : BitVec 64 := TAG7
     let stamp : BitVec 64 := 99
     let x : Bool := true
     let dg : BitVec 64 := 0
     let b : Bool := false
     s.awake ∧ (s.dev.eventWaits (.run (runM f p n tag x dg b stamp)) = true)) ∧
    (let s : State := stD (fun d => (inRecs (fun r => { r with recs := [(2, some { REC7 with run := some RUN7 })] }) d).wrB (ST_BUD_STATUS_HELDc 5 7) true)
     let f : Fin 96 := 5
     let p : Fin 36 := 2
     let n : BitVec 8 := 200
     let tag : BitVec 64 := TAG7
     let stamp : BitVec 64 := 99
     let dg : BitVec 64 := 0
     let b : Bool := false
     let i : Nat := 2
     let r : RRec := { REC7 with run := some RUN7 }
     let run : Run := RUN7
     s.awake ∧ (s.dev.eventWaits (.run (runM f p n tag false dg b stamp)) = false) ∧ (s.dev.runOf f p tag.toNat = some
       (i, r, run)) ∧ (tagFoot tag.toNat = r.foot) ∧ (s.dev.runMayStart run = false)) := by
  decide +kernel

/-- The hypotheses of NoticesAndLapses are met, clause by clause. -/
theorem witness_NoticesAndLapses :
    (let s : State := stD (fun d => d.wrB TB_STATUS_STOPPED true)
     let h : BitVec 32 := 9
     let x : Bool := true
     s.awake ∧ (s.dev.stopped = true ∨ s.dev.time.count % 1000 ≠ 0)) ∧
    (let s : State := stD (fun d => (inTime (fun t => { t with count := 3000 }) ((inEnts [(7, some ENT7w)] d).wr LG_HOSTQ_QHANDLE 9)).updBud fun b => { b with jobs := [] })
     let h : BitVec 32 := 9
     let k : Nat := 7
     let e : Entry := ENT7w
     s.awake ∧ (s.dev.stopped = false) ∧ (s.dev.time.count % 1000 = 0) ∧ (s.dev.jobList = []) ∧ (s.dev.live = [(k, e)])
       ∧ (s.dev.ent k = some e) ∧ (e.notes = []) ∧ (e.wdraw = true) ∧ (s.dev.rd LG_HOSTQ_QHANDLE = h.toNat) ∧ (h ≠ 0)) ∧
    (let s : State := stD (fun d => inTime (fun t => { t with nbRun := 900000 }) ((inEnts [(7, some ENT7a)] d).wr (LG_JOB_QHANDLE 2) 9))
     let k : BitVec 16 := 7
     let e : Entry := ENT7a
     let h : Nat := 9
     s.awake ∧ (s.dev.stopped = false) ∧ (s.dev.ent k.toNat = some e) ∧ (e.st.basty = true) ∧ (e.closed = false) ∧
       (e.closedTold = false) ∧ (s.dev.passed e.since (1000 * orDef (s.dev.rd LG_CFG0_BAST_WIN) 1) = true) ∧ (e.notes =
       []) ∧ (e.wdraw = false) ∧ (h = s.dev.qhandle e.job) ∧ (s.dev.takes h = true)) := by
  decide +kernel

/-- The hypotheses of NoticesAndLapses are met, clause by clause. -/
theorem witness_NoticesAndLapses_2 :
    (let s : State := stD (fun d => inTime (fun t => { t with nbRun := 900000 }) ((inEnts [(7, some ENT7a)] d).wr (LG_JOB_QHANDLE 2) 0))
     let k : BitVec 16 := 7
     let e : Entry := ENT7a
     let h : Nat := 0
     s.awake ∧ (s.dev.stopped = false) ∧ (s.dev.ent k.toNat = some e) ∧ (e.st.basty = true) ∧ (e.closed = false) ∧
       (e.closedTold = false) ∧ (s.dev.passed e.since (1000 * orDef (s.dev.rd LG_CFG0_BAST_WIN) 1) = true) ∧ (e.wdraw =
       false) ∧ (h = s.dev.qhandle e.job) ∧ (s.dev.takes h = false)) ∧
    (let s : State := stD (inEnts [(7, some ENT7)])
     let k : BitVec 16 := 7
     let e : Entry := ENT7
     s.awake ∧ (s.dev.stopped = false) ∧ (s.dev.ent k.toNat = some e) ∧ (e.st.basty = false ∨ e.closed = true ∨
       s.dev.passed e.since (1000 * orDef (s.dev.rd LG_CFG0_BAST_WIN) 1) = false)) ∧
    (let s : State := stD (fun d => inRecs (fun r => { r with owed := [⟨5, 6, 7, true⟩] }) (d.wr LG_RP_QHANDLE_QHANDLE 9))
     let h : BitVec 32 := 9
     let q : RunReq := ⟨5, 6, 7, true⟩
     s.awake ∧ (s.dev.stopped = false) ∧ (s.dev.rp.owed = [q]) ∧ (s.dev.rd LG_RP_QHANDLE_QHANDLE = h.toNat) ∧ (h ≠ 0)) ∧
    (let s : State := State.reset
     let h : BitVec 32 := 9
     let x : Bool := false
     s.awake ∧ (s.dev.stopped = true ∨ s.dev.rp.owed = [])) := by
  decide +kernel

/-- The hypotheses of NoticesAndLapses are met, clause by clause. -/
theorem witness_NoticesAndLapses_3 :
    (let s : State := stD (fun d => inTime (fun t => { t with nbRun := 99000000 }) (inRecs (fun r => { r with recs := [(2, some { REC7 with run := some RUN7 })] }) d))
     let i : BitVec 10 := 2
     let r : RRec := { REC7 with run := some RUN7 }
     let run : Run := RUN7
     s.awake ∧ (s.dev.stopped = false) ∧ (s.dev.recd i.toNat = some r) ∧ (r.run = some run) ∧ (run.kind ≤ 2) ∧
       (s.dev.passed run.reqAt (1000 * orDef (s.dev.rd LG_RP_CFG0_RUN_WIN) 1) = true)) ∧
    (let s : State := stD (inRecs fun r => { r with recs := [(2, some REC7)] })
     let i : BitVec 10 := 2
     let r : RRec := REC7
     s.awake ∧ (s.dev.stopped = false) ∧ (s.dev.recd i.toNat = some r) ∧ (r.run = none)) ∧
    (let s : State := stD (fun d => inTime (fun t => { t with nbRun := 99000000 }) (inRecs (fun r => { r with recs := [(2, some REC7)] }) (inEnts [(7, some { ENT7 with st := .basted, rslot := some 2 })] d)))
     let i : BitVec 10 := 2
     let r : RRec := REC7
     let a : Nat := 0
     let e : Entry := { ENT7 with st := .basted, rslot := some 2 }
     s.awake ∧ (s.dev.stopped = false) ∧ (s.dev.recd i.toNat = some r) ∧ (r.handAt = some a) ∧ (r.verdict = .none) ∧
       (s.dev.passed a (1000 * orDef (s.dev.rd LG_RP_CFG0_GIVEUP) 1) = true) ∧ (s.dev.rp.waiting = []) ∧ (s.dev.ent
       r.entry = some e) ∧ (e.st = .basted)) ∧
    (let s : State := stD (inRecs fun r => { r with recs := [(2, some { REC7 with handAt := none })] })
     let i : BitVec 10 := 2
     let r : RRec := { REC7 with handAt := none }
     s.awake ∧ (s.dev.stopped = false) ∧ (s.dev.recd i.toNat = some r) ∧ (r.handAt = none ∨ r.verdict ≠ .none)) := by
  decide +kernel

/-- The hypotheses of NoticesAndLapses are met, clause by clause. -/
theorem witness_NoticesAndLapses_4 :
    (let s : State := stD (fun d => inTime (fun t => { t with nbRun := 99000000 }) (inRecs (fun r => { r with recs := [(2, some { REC7 with phase := .repeat_, repAt := some 5 })] }) d))
     let i : BitVec 10 := 2
     let r : RRec := { REC7 with phase := .repeat_, repAt := some 5 }
     let a : Nat := 5
     s.awake ∧ (s.dev.stopped = false) ∧ (s.dev.recd i.toNat = some r) ∧ (r.phase = .repeat_) ∧ (r.run = none) ∧
       (r.repAt = some a) ∧ (s.dev.passed a (1000 * orDef (s.dev.rd LG_RP_CFG0_REPEAT_WIN) 1) = true)) ∧
    (let s : State := stD (inRecs fun r => { r with recs := [(2, some REC7)] })
     let i : BitVec 10 := 2
     let r : RRec := REC7
     s.awake ∧ (s.dev.stopped = false) ∧ (s.dev.recd i.toNat = some r) ∧ (r.phase = .tiebreak)) ∧
    (let s : State := stD (fun d => d.wrB TB_STATUS_STOPPED true)
     let i : BitVec 10 := 2
     s.awake ∧ (s.dev.stopped = true)) ∧
    (let s : State := stD (fun d => d.wrB TB_STATUS_STOPPED true)
     let i : BitVec 10 := 2
     s.awake ∧ (s.dev.stopped = true)) := by
  decide +kernel

/-- The hypotheses of DestinationsAndReplacement are met, clause by clause. -/
theorem witness_DestinationsAndReplacement :
    (let s : State := stD (fun d => d.wrB TB_STATUS_STOPPED true)
     let tag : BitVec 64 := TAG7
     let dst : BitVec 16 := 4
     s.awake ∧ (s.dev.eventWaits (.report (outTagOf ⟨tag, 0xFFFF⟩) dst.toNat) = true)) ∧
    (let s : State := stD (inEnts [])
     let tag : BitVec 64 := TAG7
     let dst : BitVec 16 := 4
     s.awake ∧ (s.dev.eventWaits (.report (outTagOf ⟨tag, 0xFFFF⟩) dst.toNat) = false) ∧ (s.dev.ent (outTagOf ⟨tag,
       0xFFFF⟩).index = none)) ∧
    (let s : State := stD (fun d => (inEnts [(7, some ENT7)] d).setPeer 3 (some PEER3))
     let tag : BitVec 64 := BitVec.ofNat 64 (outTag 7 0 5 77)
     let dst : BitVec 16 := 600
     let p : Nat := 3
     let e : Entry := ENT7
     s.awake ∧ (s.dev.eventWaits (.report (outTagOf ⟨tag, 0xFFFF⟩) dst.toNat) = false) ∧ (s.dev.ent (outTagOf ⟨tag,
       0xFFFF⟩).index = some e) ∧ (e.remote = false) ∧ (e.job = (outTagOf ⟨tag, 0xFFFF⟩).job) ∧ (e.seq % 2 ^ 32 =
       (outTagOf ⟨tag, 0xFFFF⟩).seq % 2 ^ 32) ∧ (s.dev.peerIx dst.toNat = some p) ∧ (e.dests.any (·.peer = p) = false) ∧
       (e.dests.length < 16) ∧ (e.owes = none)) := by
  decide +kernel

/-- The hypotheses of DestinationsAndReplacement are met, clause by clause. -/
theorem witness_DestinationsAndReplacement_2 :
    (let s : State := stD (fun d => (inEnts [(7, some ENT7f)] d).setPeer 3 (some PEER3))
     let tag : BitVec 64 := BitVec.ofNat 64 (outTag 7 0 5 77)
     let dst : BitVec 16 := 600
     let p : Nat := 3
     let e : Entry := ENT7f
     s.awake ∧ (s.dev.eventWaits (.report (outTagOf ⟨tag, 0xFFFF⟩) dst.toNat) = false) ∧ (s.dev.ent (outTagOf ⟨tag,
       0xFFFF⟩).index = some e) ∧ (e.remote = false) ∧ (e.job = (outTagOf ⟨tag, 0xFFFF⟩).job) ∧ (e.seq % 2 ^ 32 =
       (outTagOf ⟨tag, 0xFFFF⟩).seq % 2 ^ 32) ∧ (s.dev.peerIx dst.toNat = some p) ∧ (e.dests.any (·.peer = p) = false) ∧
       (16 ≤ e.dests.length) ∧ (e.st ≠ .sewn)) ∧
    (let s : State := stD (fun d => (inEnts [(7, some { ENT7f with st := .sewn })] d).setPeer 3 (some PEER3))
     let tag : BitVec 64 := BitVec.ofNat 64 (outTag 7 0 5 77)
     let dst : BitVec 16 := 600
     let p : Nat := 3
     let e : Entry := { ENT7f with st := .sewn }
     s.awake ∧ (s.dev.eventWaits (.report (outTagOf ⟨tag, 0xFFFF⟩) dst.toNat) = false) ∧ (s.dev.ent (outTagOf ⟨tag,
       0xFFFF⟩).index = some e) ∧ (e.remote = false) ∧ (e.job = (outTagOf ⟨tag, 0xFFFF⟩).job) ∧ (e.seq % 2 ^ 32 =
       (outTagOf ⟨tag, 0xFFFF⟩).seq % 2 ^ 32) ∧ (s.dev.peerIx dst.toNat = some p) ∧ (e.dests.any (·.peer = p) = false) ∧
       (16 ≤ e.dests.length) ∧ (e.st = .sewn)) := by
  decide +kernel

/-- The hypotheses of DestinationsAndReplacement are met, clause by clause. -/
theorem witness_DestinationsAndReplacement_3 :
    (let s : State := stD (fun d => ((inEnts [(7, some ENT7u)] d).setPeer 3 (some PEER3)).wrB PP_STATUS_SELF_VALID true |>.wr JZ_SEL_STATUS_STATE 1)
     let k : BitVec 16 := 7
     let e : Entry := ENT7u
     let x : Dest := ⟨3, 0, none⟩
     let y : Peer := PEER3
     s.awake ∧ (s.dev.stopped = false) ∧ (s.dev.ent k.toNat = some e) ∧ (e.remote = false) ∧ (e.st = .unpicked) ∧
       (e.dests = [x]) ∧ (x.dack = 0) ∧ (s.dev.resendDue x = true) ∧ (s.dev.peer x.peer = some y) ∧ (y.st ≠ .absent) ∧
       (s.dev.portUp = true) ∧ (s.dev.rd CK_STATUS_SEL ≠ 5)) ∧
    (let s : State := stD (inEnts [(7, some ENT7)])
     let k : BitVec 16 := 7
     let e : Entry := ENT7
     s.awake ∧ (s.dev.stopped = false) ∧ (s.dev.ent k.toNat = some e) ∧ (e.owes = none)) ∧
    (let s : State := stD (fun d => inTime (fun t => { t with nbRun := 99000000 }) ((inEnts [(7, some { ENT7 with dests := [⟨3, 0, none⟩] })] d).setPeer 3 (some { PEER3 with st := .absent, absentAt := 5 })))
     let k : BitVec 16 := 7
     let e : Entry := { ENT7 with dests := [⟨3, 0, none⟩] }
     let p : BitVec 10 := 3
     let x : Dest := ⟨3, 0, none⟩
     s.awake ∧ (s.dev.stopped = false) ∧ (s.dev.ent k.toNat = some e) ∧ (e.remote = false) ∧ (e.dests = [x]) ∧ (x.peer =
       p.toNat) ∧ (x.dack ≠ 2) ∧ (s.dev.longAbsent p.toNat = true)) := by
  decide +kernel

/-- The hypotheses of DestinationsAndReplacement are met, clause by clause. -/
theorem witness_DestinationsAndReplacement_4 :
    (let s : State := stD (fun d => inEnts [(7, some ENT7r)] (d.wrB JZ_STATUS_READY true))
     let who : Fin 9 := 8
     let k : BitVec 16 := 7
     let e : Entry := ENT7r
     s.awake ∧ (s.dev.ready = true) ∧ (s.dev.recList = []) ∧ (s.dev.eventWaits (.replaced who.val k.toNat) = false) ∧
       (s.dev.ent k.toNat = some e) ∧ (e.st = .unpicked) ∧ (e.cause = .replaced) ∧ (s.dev.ownsJob who e.job = true) ∧
       (e.remote = false) ∧ (e.rslot = none) ∧ (e.dests = []) ∧ (e.notes = []) ∧ (e.wdraw = false) ∧ (e.held = false)) ∧
    (let s : State := State.reset
     let who : Fin 9 := 8
     let k : BitVec 16 := 7
     s.awake ∧ (s.dev.ready = false)) ∧
    (let s : State := stD (fun d => d.wrB JZ_STATUS_READY true)
     let who : Fin 9 := 8
     let k : BitVec 16 := 7
     s.awake ∧ (s.dev.ready = true) ∧ (s.dev.eventWaits (.replaced who.val k.toNat) = false) ∧ ((s.dev.ent k.toNat).any
       (fun e => e.st = .unpicked && e.cause = .replaced && s.dev.ownsJob who e.job) = false)) ∧
    (let s : State := stD (fun d => (d.wrB JZ_STATUS_READY true).wrB TB_STATUS_STOPPED true)
     let who : Fin 9 := 8
     let k : BitVec 16 := 7
     s.awake ∧ (s.dev.ready = true) ∧ (s.dev.eventWaits (.replaced who.val k.toNat) = true)) ∧
    (let s : State := State.reset
     let k : BitVec 16 := 7
     s.awake) := by
  decide +kernel

/-- The hypotheses of DestinationsAndReplacement are met, clause by clause. -/
theorem witness_DestinationsAndReplacement_5 :
    (let s : State := State.reset
     let i : BitVec 10 := 7
     s.awake) := by
  decide +kernel

/-- The hypotheses of PeersAndGroups are met, clause by clause. -/
theorem witness_PeersAndGroups :
    (let s : State := stD PP9
     s.awake ∧ s.dev.selStop = false ∧ s.dev.selfValid = true ∧ s.dev.badMsg (nats (MSG 0x77 [])) = true) ∧
    (let s : State := stD (fun d => { d.wrB PP_STATUS_SELF_VALID false with start := { d.start with step := 9 } })
     let a : BitVec 16 := 5
     s.awake ∧ (s.dev.selfValid = false) ∧ (8 ≤ s.dev.start.step) ∧ (a ≠ 0xFFFF)) ∧
    (let s : State := stD (PP9)
     let a : BitVec 16 := 5
     s.awake ∧ (s.dev.selfValid = true ∨ s.dev.start.step < 8)) ∧
    (let s : State := stD (fun d => { d.wrB PP_STATUS_SELF_VALID false with start := { d.start with step := 9 } })
     s.awake ∧ (s.dev.selfValid = false) ∧ (8 ≤ s.dev.start.step)) ∧
    (let s : State := stD (PP9)
     let m : List Byte := MSG 0x30 (leBytes 4 8 ++ [3, 1])
     s.awake ∧ (s.dev.selStop = false) ∧ (s.dev.selfValid = true) ∧ (s.dev.badMsg (nats m) = false) ∧ (mType (nats m) =
       0x30)) ∧
    (let s : State := stD (fun d => (PP9 d).wrB PP_STATUS_SELF_VALID false)
     let m : List Byte := MSG 0x30 ([])
     s.awake ∧ (s.dev.selStop = false) ∧ (s.dev.selfValid = false)) := by
  decide +kernel

/-- The hypotheses of PeersAndGroups are met, clause by clause. -/
theorem witness_PeersAndGroups_2 :
    (let s : State := stD (fun d => ((PP9 d).setPeer 3 (some { PEER3 with silent := 999 })).updPP fun p => { p with tx := [⟨3, 6, 4, [], true, 0, 0⟩, ⟨3, 6, 5, [], false, 0, 0⟩] })
     let i : BitVec 10 := 3
     let x : Peer := { PEER3 with silent := 999 }
     s.awake ∧ (s.dev.peer i.toNat = some x) ∧ (x.st = .present) ∧ (orDef (s.dev.rd PP_CFG0_MISS) 1 * orDef (s.dev.rd
       PP_CFG0_HB_PERIOD) 1 + 1 ≤ x.silent)) ∧
    (let s : State := stD (fun d => (PP9 d).setPeer 3 (some { PEER3 with st := .listed }))
     let i : BitVec 10 := 3
     let x : Peer := { PEER3 with st := .listed }
     s.awake ∧ (s.dev.peer i.toNat = some x) ∧ (x.st ≠ .present ∨ x.silent < orDef (s.dev.rd PP_CFG0_MISS) 1 * orDef
       (s.dev.rd PP_CFG0_HB_PERIOD) 1 + 1)) ∧
    (let s : State := stD (fun d => (PP9 d).setPeer 3 (some { PEER3 with st := .listed, idle := 99999 }))
     let i : BitVec 10 := 3
     let x : Peer := { PEER3 with st := .listed, idle := 99999 }
     s.awake ∧ (s.dev.peer i.toNat = some x) ∧ (x.st ≠ .present) ∧ (s.dev.refs i.toNat = 0) ∧ (s.dev.rd PP_CFG0_EVICT ≤
       x.idle)) ∧
    (let s : State := stD (PP9)
     let i : BitVec 10 := 3
     let x : Peer := PEER3
     s.awake ∧ (s.dev.peer i.toNat = some x) ∧ (x.st = .present ∨ s.dev.refs i.toNat ≠ 0 ∨ x.idle < s.dev.rd
       PP_CFG0_EVICT)) ∧
    (let s : State := stD (fun d => ((PP9 d).wr PP_GRP_ADDR_ADDR 600).updPP fun p => { p with grps := [(4, 3)] })
     let g : BitVec 16 := 5
     let i : Nat := 3
     s.awake ∧ (s.dev.ready = true) ∧ (s.dev.peerIx (s.dev.rd PP_GRP_ADDR_ADDR) = some i) ∧ ((g.toNat, i) ∉
       s.dev.pp.grps) ∧ (g.toNat ∈ s.dev.groups ∨ s.dev.groups.length < 64) ∧ (s.dev.pp.grps.length < 4096)) := by
  decide +kernel

/-- The hypotheses of PeersAndGroups are met, clause by clause. -/
theorem witness_PeersAndGroups_3 :
    (let s : State := stD (fun d => ((PP9 d).wr PP_GRP_ADDR_ADDR 600).updPP fun p => { p with grps := [(5, 3)] })
     let g : BitVec 16 := 5
     let i : Nat := 3
     s.awake ∧ (s.dev.ready = true) ∧ (s.dev.peerIx (s.dev.rd PP_GRP_ADDR_ADDR) = some i) ∧ ((g.toNat, i) ∈
       s.dev.pp.grps)) ∧
    (let s : State := stD (fun d => ((PP9 d).wr PP_GRP_ADDR_ADDR 601).updPP fun p => { p with grps := [(5, 3)] })
     let g : BitVec 16 := 5
     let i : Nat := 0
     s.awake ∧ (s.dev.ready = true) ∧ (s.dev.peerIx (s.dev.rd PP_GRP_ADDR_ADDR) = none) ∧ (s.dev.freePeer = some i) ∧
       (g.toNat ∈ s.dev.groups ∨ s.dev.groups.length < 64) ∧ (s.dev.pp.grps.length < 4096)) ∧
    (let s : State := stD (fun d => ((PP9 d).wr PP_GRP_ADDR_ADDR 601).updPP fun p => { p with grps := (List.range 64).map fun k => (k, 3) })
     let g : BitVec 16 := 64
     s.awake ∧ (s.dev.ready = true) ∧ (s.dev.peerIx (s.dev.rd PP_GRP_ADDR_ADDR) = none) ∧ (g.toNat ∉ s.dev.groups) ∧ (64
       ≤ s.dev.groups.length)) ∧
    (let s : State := stD (fun d => d.wrB JZ_STATUS_READY false)
     let g : BitVec 16 := 5
     s.awake ∧ (s.dev.ready = false)) ∧
    (let s : State := stD (fun d => ((PP9 d).wr PP_GRP_ADDR_ADDR 600).updPP fun p => { p with grps := [(5, 3)] })
     let g : BitVec 16 := 5
     let i : Nat := 3
     s.awake ∧ (s.dev.ready = true) ∧ (s.dev.peerIx (s.dev.rd PP_GRP_ADDR_ADDR) = some i) ∧ ((g.toNat, i) ∈
       s.dev.pp.grps)) ∧
    (let s : State := stD (fun d => ((PP9 d).wr PP_GRP_ADDR_ADDR 601).updPP fun p => { p with grps := [(5, 3)] })
     let g : BitVec 16 := 5
     s.awake ∧ (s.dev.ready = false ∨ s.dev.peerIx (s.dev.rd PP_GRP_ADDR_ADDR) = none)) := by
  decide +kernel

/-- The hypotheses of PeersAndGroups are met, clause by clause. -/
theorem witness_PeersAndGroups_4 :
    (let s : State := stD (fun d => ((PP9 d).wr PP_GRP_ADDR_ADDR 600).updPP fun p => { p with grps := [(5, 3)] })
     let g : BitVec 16 := 5
     s.awake ∧ (s.dev.ready = true) ∧ (g.toNat ∈ s.dev.groups)) ∧
    (let s : State := stD (fun d => ((PP9 d).wr PP_GRP_ADDR_ADDR 600).updPP fun p => { p with grps := [(5, 3)] })
     let g : BitVec 16 := 6
     s.awake ∧ (s.dev.ready = false ∨ g.toNat ∉ s.dev.groups)) ∧
    (let s : State := State.reset
     let i : BitVec 10 := 3
     s.awake) := by
  decide +kernel

/-- The hypotheses of RequestsAreSent are met, clause by clause. -/
theorem witness_RequestsAreSent :
    (let s : State := stD (fun d => txMsg 0x77 0 1 [] (PP9 d))
     let i : BitVec 10 := 3
     let q : BitVec 12 := 5
     s.awake ∧ (formOk s.dev.txBuf = false)) ∧
    (let s : State := stD (fun d => txMsg 4 0 1 [9, 0] (PP9 d))
     let i : BitVec 10 := 4
     let q : BitVec 12 := 5
     s.awake ∧ (formOk s.dev.txBuf = true) ∧ (bodyOk s.dev.txBuf = true) ∧ (mType s.dev.txBuf ≠ 0x3E) ∧ (mType
       s.dev.txBuf ≠ 0x3F) ∧ (s.dev.peer i.toNat = none ∨ s.dev.portUp = false)) ∧
    (let s : State := stD (fun d => txMsg 4 0 1 [9, 0] (PP9 d))
     let i : BitVec 10 := 3
     let q : BitVec 12 := 5
     let x : Peer := PEER3
     s.awake ∧ (formOk s.dev.txBuf = true) ∧ (bodyOk s.dev.txBuf = true) ∧ (s.dev.peer i.toNat = some x) ∧ (s.dev.peerIx
       x.addr = some i.toNat) ∧ (s.dev.portUp = true) ∧ (isRequest (mType s.dev.txBuf) = false) ∧ (mType s.dev.txBuf ≠
       2) ∧ (mType s.dev.txBuf ≠ 0x3E) ∧ (mType s.dev.txBuf ≠ 0x3F) ∧ (s.dev.rd CK_STATUS_SEL ≠ 5)) := by
  decide +kernel

/-- The hypotheses of RequestsAreSent are met, clause by clause. -/
theorem witness_RequestsAreSent_2 :
    (let s : State := stD (fun d => txMsg 6 0 3 [0x10000, 0] (ringEmpty (d.wr PP_RING_RES_RES_MAX 9)))
     let i : BitVec 10 := 3
     let q : BitVec 12 := 5
     let x : Peer := PEER3
     s.awake ∧ (formOk s.dev.txBuf = true) ∧ (bodyOk s.dev.txBuf = true) ∧ (s.dev.peer i.toNat = some x) ∧ (s.dev.peerIx
       x.addr = some i.toNat) ∧ (s.dev.portUp = true) ∧ (isRequest (mType s.dev.txBuf) = true) ∧ (x.st = .present) ∧
       (mType s.dev.txBuf = 1 → s.dev.mayLoan i.toNat = true) ∧ (s.dev.flying i.toNat < x.grant) ∧ (s.dev.pp.resv.length
       < s.dev.rd PP_RING_RES_RES_MAX) ∧ (s.dev.pp.resv.length < s.dev.ringFree) ∧ (s.dev.txCells + mCells s.dev.txBuf ≤
       128) ∧ (s.dev.rd CK_STATUS_SEL ≠ 5)) ∧
    (let s : State := stD (fun d => txMsg 6 0 3 [0x10000, 0] ((fun d => d.setPeer 3 (some { PEER3 with grant := 0 })) (ringEmpty (d.wr PP_RING_RES_RES_MAX 9))))
     let i : BitVec 10 := 3
     let q : BitVec 12 := 5
     let x : Peer := { PEER3 with grant := 0 }
     s.awake ∧ (formOk s.dev.txBuf = true) ∧ (bodyOk s.dev.txBuf = true) ∧ (s.dev.peer i.toNat = some x) ∧ (s.dev.peerIx
       x.addr = some i.toNat) ∧ (s.dev.portUp = true) ∧ (isRequest (mType s.dev.txBuf) = true) ∧ (x.st = .present) ∧
       (mType s.dev.txBuf = 1 → s.dev.mayLoan i.toNat = true) ∧ (x.grant ≤ s.dev.flying i.toNat)) := by
  decide +kernel

/-- The hypotheses of RequestsAreSent are met, clause by clause. -/
theorem witness_RequestsAreSent_3 :
    (let s : State := stD (fun d => txMsg 6 0 3 [0x10000, 0] (ringEmpty (d.wr PP_RING_RES_RES_MAX 0)))
     let i : BitVec 10 := 3
     let q : BitVec 12 := 5
     let x : Peer := PEER3
     s.awake ∧ (formOk s.dev.txBuf = true) ∧ (bodyOk s.dev.txBuf = true) ∧ (s.dev.peer i.toNat = some x) ∧ (s.dev.peerIx
       x.addr = some i.toNat) ∧ (s.dev.portUp = true) ∧ (isRequest (mType s.dev.txBuf) = true) ∧ (x.st = .present) ∧
       (mType s.dev.txBuf = 1 → s.dev.mayLoan i.toNat = true) ∧ (s.dev.flying i.toNat < x.grant) ∧ (s.dev.rd
       PP_RING_RES_RES_MAX ≤ s.dev.pp.resv.length ∨ s.dev.ringFree ≤ s.dev.pp.resv.length)) ∧
    (let s : State := stD (inPP fun p => { p with tx := [TX9 false] })
     let i : BitVec 10 := 3
     let x : TxReq := TX9 false
     s.awake ∧ (s.dev.pp.tx = [x]) ∧ (x.peer = i.toNat) ∧ (x.flying = false)) ∧
    (let s : State := stD (inPP fun p => { p with tx := [TX9 true] })
     let i : BitVec 10 := 3
     s.awake ∧ (∀ x ∈ s.dev.pp.tx, x.peer = i.toNat → x.flying = true)) ∧
    (let s : State := stD (inPP fun p => { p with tx := [TX9 true] })
     let m : List Byte := MSG 0x3E (leBytes 2 4)
     let i : Nat := 3
     s.awake ∧ (s.dev.selStop = false) ∧ (s.dev.selfValid = true) ∧ (s.dev.badMsg (nats m) = false) ∧ (mType (nats m) =
       0x3E) ∧ (s.dev.peerIx (mSrc (nats m)) = some i)) := by
  decide +kernel

/-- The hypotheses of RequestsAreSent are met, clause by clause. -/
theorem witness_RequestsAreSent_4 :
    (let s : State := stD (inPP fun p => { p with tx := [TX9 true] })
     let m : List Byte := MSG 0x3F (leBytes 2 4 ++ [1])
     let i : Nat := 3
     s.awake ∧ (s.dev.selStop = false) ∧ (s.dev.selfValid = true) ∧ (s.dev.badMsg (nats m) = false) ∧ (mType (nats m) =
       0x3F) ∧ (s.dev.peerIx (mSrc (nats m)) = some i)) ∧
    (let s : State := stD (fun d => inTime (fun t => { t with nbRun := 99999 }) (inPP (fun p => { p with tx := [TX9 false] }) (d.wr PP_CFG1_RESEND_MAX 7)))
     let i : BitVec 10 := 3
     let q : BitVec 16 := 4
     let x : TxReq := TX9 false
     let y : Peer := PEER3
     s.awake ∧ (s.dev.pp.tx = [x]) ∧ (x.peer = i.toNat) ∧ (x.seq = q.toNat) ∧ (x.flying = false) ∧ (s.dev.peer i.toNat =
       some y) ∧ (s.dev.expired x.nackAt (orDef (s.dev.rd PP_CFG1_RESEND_DELAY) 1) = true) ∧ (x.resends < s.dev.rd
       PP_CFG1_RESEND_MAX) ∧ (s.dev.portUp = true) ∧ (0 < y.grant) ∧ (s.dev.rd CK_STATUS_SEL ≠ 5)) := by
  decide +kernel

/-- The hypotheses of RequestsAreSent are met, clause by clause. -/
theorem witness_RequestsAreSent_5 :
    (let s : State := stD (fun d => inTime (fun t => { t with nbRun := 99999 }) (inPP (fun p => { p with tx := [TX9 false] }) (d.wr PP_CFG1_RESEND_MAX 0)))
     let i : BitVec 10 := 3
     let q : BitVec 16 := 4
     let x : TxReq := TX9 false
     let y : Peer := PEER3
     s.awake ∧ (s.dev.pp.tx = [x]) ∧ (x.peer = i.toNat) ∧ (x.seq = q.toNat) ∧ (x.flying = false) ∧ (s.dev.peer i.toNat =
       some y) ∧ (s.dev.expired x.nackAt (orDef (s.dev.rd PP_CFG1_RESEND_DELAY) 1) = true) ∧ (s.dev.rd
       PP_CFG1_RESEND_MAX ≤ x.resends)) ∧
    (let s : State := stD (inPP fun p => { p with tx := [TX9 true] })
     let i : BitVec 10 := 3
     let q : BitVec 16 := 4
     s.awake ∧ (∀ x ∈ s.dev.pp.tx, x.peer = i.toNat → x.seq = q.toNat → x.flying = true)) ∧
    (let s : State := stD (inPP fun p => { p with resv := [⟨3, 6, 4, 0, 0, 0⟩] })
     let i : BitVec 10 := 3
     let q : BitVec 16 := 4
     s.awake) ∧
    (let s : State := stD (fun d => txMsg 4 0 1 [9, 0] ((PP9 d).wr CK_STATUS_SEL 5))
     let i : BitVec 10 := 3
     let q : BitVec 12 := 5
     let x : Peer := PEER3
     s.awake ∧ (formOk s.dev.txBuf = true) ∧ (bodyOk s.dev.txBuf = true) ∧ (s.dev.peer i.toNat = some x) ∧ (s.dev.peerIx
       x.addr = some i.toNat) ∧ (s.dev.portUp = true) ∧ (isRequest (mType s.dev.txBuf) = false) ∧ (mType s.dev.txBuf ≠
       2) ∧ (mType s.dev.txBuf ≠ 0x3E) ∧ (mType s.dev.txBuf ≠ 0x3F) ∧ (s.dev.rd CK_STATUS_SEL = 5)) := by
  decide +kernel

/-- The hypotheses of RingAndStaging are met, clause by clause. -/
theorem witness_RingAndStaging :
    (let s : State := stD (ringEmpty)
     let m : List Byte := REQ9
     s.awake ∧ (s.dev.selStop = false) ∧ (s.dev.selfValid = true) ∧ (s.dev.badMsg (nats m) = false) ∧ (isRequest (mType
       (nats m)) = true) ∧ ((s.dev.peerIx (mSrc (nats m))).isSome = true) ∧ ((s.dev.pp.staged.filter (·.src = mSrc (nats
       m))).length < s.dev.rd PP_CFG0_GRANT_OFFER) ∧ (mCells (nats m) + s.dev.pp.resv.length ≤ s.dev.ringFree) ∧ (mCells
       (nats m) ≤ 4096 - s.dev.ringTail) ∧ (s.dev.rd CK_STATUS_SEL ≠ 5)) ∧
    (let s : State := stD (fun d => (ringEmpty d).wr PP_RING_TAIL_TAIL 19)
     let m : List Byte := REQ9
     s.awake ∧ (s.dev.selStop = false) ∧ (s.dev.selfValid = true) ∧ (s.dev.badMsg (nats m) = false) ∧ (isRequest (mType
       (nats m)) = true) ∧ ((s.dev.peerIx (mSrc (nats m))).isSome = true) ∧ ((s.dev.pp.staged.filter (·.src = mSrc (nats
       m))).length < s.dev.rd PP_CFG0_GRANT_OFFER) ∧ (s.dev.ringFree < mCells (nats m) + s.dev.pp.resv.length) ∧
       (s.dev.stagedCells + mCells (nats m) ≤ 64)) := by
  decide +kernel

/-- The hypotheses of RingAndStaging are met, clause by clause. -/
theorem witness_RingAndStaging_2 :
    (let s : State := stD (fun d => ((ringEmpty d).wr PP_RING_TAIL_TAIL 19).updPP fun p => { p with staged := [⟨601, 5, List.replicate 4096 0, 0⟩] })
     let m : List Byte := REQ9
     s.awake ∧ (s.dev.selStop = false) ∧ (s.dev.selfValid = true) ∧ (s.dev.badMsg (nats m) = false) ∧ (isRequest (mType
       (nats m)) = true) ∧ ((s.dev.peerIx (mSrc (nats m))).isSome = true) ∧ ((s.dev.pp.staged.filter (·.src = mSrc (nats
       m))).length < s.dev.rd PP_CFG0_GRANT_OFFER) ∧ (s.dev.ringFree < mCells (nats m) + s.dev.pp.resv.length) ∧ (64 <
       s.dev.stagedCells + mCells (nats m)) ∧ (s.dev.rd CK_STATUS_SEL ≠ 5)) ∧
    (let s : State := stD (fun d => (ringEmpty d).wr PP_CFG0_GRANT_OFFER 0)
     let m : List Byte := REQ9
     s.awake ∧ (s.dev.selStop = false) ∧ (s.dev.selfValid = true) ∧ (s.dev.badMsg (nats m) = false) ∧ (isRequest (mType
       (nats m)) = true) ∧ (s.dev.rd PP_CFG0_GRANT_OFFER ≤ (s.dev.pp.staged.filter (·.src = mSrc (nats m))).length) ∧
       (s.dev.rd CK_STATUS_SEL ≠ 5)) ∧
    (let s : State := stD (fun d => (ringEmpty d).updPP fun p => { p with staged := [⟨600, 5, nats REQ9, 0⟩] })
     let x : Staged := ⟨600, 5, nats REQ9, 0⟩
     let l : List Staged := []
     s.awake ∧ (s.dev.pp.staged = x :: l) ∧ (divUp x.bytes.length 64 + s.dev.pp.resv.length ≤ s.dev.ringFree) ∧ (divUp
       x.bytes.length 64 ≤ 4096 - s.dev.ringTail) ∧ (s.dev.rd CK_STATUS_SEL ≠ 5)) ∧
    (let s : State := State.reset
     s.awake ∧ (s.dev.pp.staged = [])) := by
  decide +kernel

/-- The hypotheses of RingAndStaging are met, clause by clause. -/
theorem witness_RingAndStaging_3 :
    (let s : State := stD (fun d => inTime (fun t => { t with nbRun := 99999 }) ((ringEmpty d).updPP fun p => { p with staged := [⟨600, 5, nats REQ9, 0⟩] }))
     let x : Staged := ⟨600, 5, nats REQ9, 0⟩
     s.awake ∧ (s.dev.pp.staged = [x]) ∧ (s.dev.expired x.at_ (orDef (s.dev.rd PP_CFG1_STAGE_LIMIT) 1) = true) ∧
       (s.dev.rd CK_STATUS_SEL ≠ 5)) ∧
    (let s : State := stD (ringEmpty)
     s.awake ∧ (∀ x ∈ s.dev.pp.staged, s.dev.expired x.at_ (orDef (s.dev.rd PP_CFG1_STAGE_LIMIT) 1) = false)) ∧
    (let s : State := stD (fun d => ((ringEmpty d).wr PP_RING_TAIL_TAIL 23).updPP fun p => { p with ring := [⟨20, 3, false⟩] })
     let v : BitVec 12 := 23
     let k : Nat := 1
     s.awake ∧ (ringBoundary s.dev.ringTail v.toNat s.dev.pp.ring = some k)) ∧
    (let s : State := stD (fun d => ((ringEmpty d).wr PP_RING_TAIL_TAIL 23).updPP fun p => { p with ring := [⟨20, 3, false⟩] })
     let v : BitVec 12 := 21
     s.awake ∧ (ringBoundary s.dev.ringTail v.toNat s.dev.pp.ring = none)) ∧
    (let s : State := stD (fun d => (ringEmpty d).wr CK_STATUS_SEL 5)
     let m : List Byte := REQ9
     s.awake ∧ (s.dev.selStop = false) ∧ (s.dev.selfValid = true) ∧ (s.dev.badMsg (nats m) = false) ∧ (isRequest (mType
       (nats m)) = true) ∧ ((s.dev.peerIx (mSrc (nats m))).isSome = true) ∧ ((s.dev.pp.staged.filter (·.src = mSrc (nats
       m))).length < s.dev.rd PP_CFG0_GRANT_OFFER) ∧ (s.dev.rd CK_STATUS_SEL = 5) ∧ (mCells (nats m) +
       s.dev.pp.resv.length ≤ s.dev.ringFree) ∧ (mCells (nats m) ≤ 4096 - s.dev.ringTail)) := by
  decide +kernel

/-- The hypotheses of NoticesBetweenLedgers are met, clause by clause. -/
theorem witness_NoticesBetweenLedgers :
    (let s : State := stD (fun d => ((inEnts [(9, some PROXY9)] (PP9 d))))
     let m : List Byte := MSG 0x10 (leBytes 8 (outTag 12 0 5 77) ++ [1])
     let i : Nat := 9
     let p : Nat := 3
     let e : Entry := PROXY9
     s.awake ∧ (s.dev.selStop = false) ∧ (s.dev.selfValid = true) ∧ (s.dev.badMsg (nats m) = false) ∧ (mType (nats m) =
       0x10) ∧ (mBody (nats m) 8 1 = 1) ∧ (s.dev.stopped = false) ∧ (s.dev.led.cls ≤ 5) ∧ (s.dev.peerIx (mSrc (nats m))
       = some p) ∧ (s.dev.proxyIx (mTag (nats m)) = some i) ∧ (s.dev.ent i = some e) ∧ (e.st = .basted) ∧ (e.gen = (mTag
       (nats m)).gen) ∧ (s.dev.rd CK_STATUS_SEL ≠ 5)) ∧
    (let s : State := stD (fun d => (PP9 d).wrB TB_STATUS_STOPPED true)
     let m : List Byte := MSG 0x10 (leBytes 8 (outTag 12 0 5 77) ++ [1])
     s.awake ∧ (s.dev.selStop = false) ∧ (s.dev.selfValid = true) ∧ (s.dev.badMsg (nats m) = false) ∧ (mType (nats m) =
       0x10) ∧ (mBody (nats m) 8 1 ≠ 4) ∧ (s.dev.stopped = true ∨ 5 < s.dev.led.cls) ∧ (s.dev.pp.ledQ.length < 256)) := by
  decide +kernel

/-- The hypotheses of NoticesBetweenLedgers are met, clause by clause. -/
theorem witness_NoticesBetweenLedgers_2 :
    (let s : State := stD (fun d => ((PP9 d).wrB TB_STATUS_STOPPED true).updPP fun p => { p with ledQ := List.replicate 256 (0, []) })
     let m : List Byte := MSG 0x10 (leBytes 8 (outTag 12 0 5 77) ++ [1])
     s.awake ∧ (s.dev.selStop = false) ∧ (s.dev.selfValid = true) ∧ (s.dev.badMsg (nats m) = false) ∧ (mType (nats m) =
       0x10) ∧ (mBody (nats m) 8 1 ≠ 4) ∧ (s.dev.stopped = true ∨ 5 < s.dev.led.cls) ∧ (256 ≤ s.dev.pp.ledQ.length)) ∧
    (let s : State := stD (fun d => ((inEnts [(12, some ENT7u)] (PP9 d))))
     let m : List Byte := MSG 0x10 (leBytes 8 (outTag 12 0 5 77) ++ [4, 2])
     let p : Nat := 3
     let e : Entry := ENT7u
     s.awake ∧ (s.dev.selStop = false) ∧ (s.dev.selfValid = true) ∧ (s.dev.badMsg (nats m) = false) ∧ (mType (nats m) =
       0x10) ∧ (mBody (nats m) 8 1 = 4) ∧ (mBody (nats m) 9 1 = 2) ∧ (s.dev.stopped = false) ∧ (s.dev.led.cls ≤ 5) ∧
       (s.dev.peerIx (mSrc (nats m)) = some p) ∧ (s.dev.ent (mTag (nats m)).index = some e) ∧ (e.remote = false) ∧
       (e.job = (mTag (nats m)).job) ∧ (e.seq % 2 ^ 32 = (mTag (nats m)).seq % 2 ^ 32) ∧ (e.st = .unpicked ∨ e.st =
       .poisoned) ∧ (e.wgen = (mTag (nats m)).gen)) := by
  decide +kernel

/-- The hypotheses of NoticesBetweenLedgers are met, clause by clause. -/
theorem witness_NoticesBetweenLedgers_3 :
    (let s : State := stD (fun d => ((inEnts [] ((PP9 d).setPeer 3 none))))
     let m : List Byte := MSG 0x10 (leBytes 8 (outTag 12 0 5 77) ++ [4, 0])
     s.awake ∧ (s.dev.selStop = false) ∧ (s.dev.selfValid = true) ∧ (s.dev.badMsg (nats m) = false) ∧ (mType (nats m) =
       0x10) ∧ (mBody (nats m) 8 1 = 4) ∧ (mBody (nats m) 9 1 = 0) ∧ (s.dev.stopped = false) ∧ (s.dev.led.cls ≤ 5) ∧
       (s.dev.ent (mTag (nats m)).index = none) ∧ (s.dev.peerIx (mSrc (nats m)) = none) ∧ (s.dev.rd CK_STATUS_SEL ≠ 5)) := by
  decide +kernel

/-- The hypotheses of NoticesBetweenLedgers are met, clause by clause. -/
theorem witness_NoticesBetweenLedgers_4 :
    (let s : State := stD (fun d => ((inEnts [(12, some ENT7)] (PP9 d))))
     let m : List Byte := MSG 0x10 (leBytes 8 (outTag 12 0 5 77) ++ [4, 0])
     let p : Nat := 3
     let e : Entry := ENT7
     s.awake ∧ (s.dev.selStop = false) ∧ (s.dev.selfValid = true) ∧ (s.dev.badMsg (nats m) = false) ∧ (mType (nats m) =
       0x10) ∧ (mBody (nats m) 8 1 = 4) ∧ (mBody (nats m) 9 1 = 0) ∧ (s.dev.stopped = false) ∧ (s.dev.led.cls ≤ 5) ∧
       (s.dev.peerIx (mSrc (nats m)) = some p) ∧ (s.dev.ent (mTag (nats m)).index = some e) ∧ (e.remote = false) ∧
       (e.job = (mTag (nats m)).job) ∧ (e.seq % 2 ^ 32 = (mTag (nats m)).seq % 2 ^ 32) ∧ (e.st = .open_) ∧ (e.dests.any
       (·.peer = p) = false) ∧ (e.dests.length < 16)) := by
  decide +kernel

/-- The hypotheses of NoticesBetweenLedgers are met, clause by clause. -/
theorem witness_NoticesBetweenLedgers_5 :
    (let s : State := stD (fun d => (inPP (fun p => { p with grpsEff := [(5, 3)] }) (d.wrB TB_STATUS_RACK_FEAT true)).updBud fun b => { b with bars := [(4, some ⟨5, [(600, 3), (9, 1)], 1⟩)] })
     let m : List Byte := MSG 4 ([5, 0])
     let i : Nat := 4
     let b : BarGroup := ⟨5, [(600, 3), (9, 1)], 1⟩
     s.awake ∧ (s.dev.selStop = false) ∧ (s.dev.selfValid = true) ∧ (s.dev.badMsg (nats m) = false) ∧ (mType (nats m) =
       4) ∧ (s.dev.rdB TB_STATUS_RACK_FEAT = true) ∧ (s.dev.pp.grpsEff.any (·.1 = mBody (nats m) 0 2) = true) ∧
       (s.dev.barList.find? (fun x => x.2.group = mBody (nats m) 0 2) = some (i, b))) ∧
    (let s : State := stD (fun d => PP9 (d.wrB TB_STATUS_RACK_FEAT true))
     let m : List Byte := MSG 4 ([5, 0])
     s.awake ∧ (s.dev.selStop = false) ∧ (s.dev.selfValid = true) ∧ (s.dev.badMsg (nats m) = false) ∧ (mType (nats m) =
       4) ∧ (s.dev.rdB TB_STATUS_RACK_FEAT = true) ∧ (s.dev.pp.grpsEff.any (·.1 = mBody (nats m) 0 2) = false) ∧
       (s.dev.armedGroups.contains (mBody (nats m) 0 2) = false)) ∧
    (let s : State := stD (fun d => PP9 (d.wrB TB_STATUS_RACK_FEAT false))
     let m : List Byte := MSG 4 ([5, 0])
     s.awake ∧ (s.dev.selStop = false) ∧ (s.dev.selfValid = true) ∧ (s.dev.badMsg (nats m) = false) ∧ (mType (nats m) =
       4) ∧ (s.dev.rdB TB_STATUS_RACK_FEAT = false)) := by
  decide +kernel

/-- The hypotheses of NoticesBetweenLedgers are met, clause by clause. -/
theorem witness_NoticesBetweenLedgers_6 :
    (let s : State := stD (fun d => (PP9 (d.wrB TB_STATUS_RACK_FEAT true)).updBud fun b => { b with wins := [(4, some WIN9)] })
     let m : List Byte := MSG 5 ([5, 0, 44])
     let i : Nat := 4
     let w : Win := WIN9
     s.awake ∧ (s.dev.selStop = false) ∧ (s.dev.selfValid = true) ∧ (s.dev.badMsg (nats m) = false) ∧ (mType (nats m) =
       5) ∧ (s.dev.rdB TB_STATUS_RACK_FEAT = true) ∧ (s.dev.openWins.filter (fun x => x.2.group = mBody (nats m) 0 2) =
       [(i, w)])) ∧
    (let s : State := stD (fun d => PP9 (d.wrB TB_STATUS_RACK_FEAT true))
     let m : List Byte := MSG 5 ([5, 0, 44])
     s.awake ∧ (s.dev.selStop = false) ∧ (s.dev.selfValid = true) ∧ (s.dev.badMsg (nats m) = false) ∧ (mType (nats m) =
       5) ∧ (s.dev.rdB TB_STATUS_RACK_FEAT = true) ∧ (s.dev.pp.grpsEff.any (·.1 = mBody (nats m) 0 2) = false) ∧
       (s.dev.openWins.any (·.2.group = mBody (nats m) 0 2) = false)) := by
  decide +kernel

/-- The hypotheses of LoansAndTime are met, clause by clause. -/
theorem witness_LoansAndTime :
    (let s : State := stD (fun d => inTime (fun t => { t with count := 50 }) ((inPP (fun p => { p with resv := [⟨3, 1, 4, 6, 40, 0⟩] }) d).wrB TB_STATUS_STOPPED false))
     let m : List Byte := MSG 2 (leBytes 4 40 ++ leBytes 4 6 ++ leBytes 8 5000)
     let p : Nat := 3
     let n : Nat := 0
     s.awake ∧ (s.dev.selStop = false) ∧ (s.dev.selfValid = true) ∧ (s.dev.badMsg (nats m) = false) ∧ (mType (nats m) =
       2) ∧ (s.dev.stopped = false) ∧ (s.dev.peerIx (mSrc (nats m)) = some p) ∧ (s.dev.grantOk p (nats m) = true) ∧
       (mBody (nats m) 0 4 ≠ 0) ∧ (n = s.dev.freeLoan) ∧ (n < 32)) ∧
    (let s : State := stD (fun d => (PP9 d).wrB TB_STATUS_STOPPED false)
     let m : List Byte := MSG 2 ([])
     s.awake ∧ (s.dev.selStop = false) ∧ (s.dev.selfValid = true) ∧ (s.dev.badMsg (nats m) = false) ∧ (mType (nats m) =
       2) ∧ (s.dev.pp.resv = [])) := by
  decide +kernel

/-- The hypotheses of LoansAndTime are met, clause by clause. -/
theorem witness_LoansAndTime_2 :
    (let s : State := stD (fun d => inTime (fun t => { t with count := 50 }) ((inPP (fun p => { p with resv := [⟨3, 1, 4, 6, 40, 0⟩] }) d).wrB TB_STATUS_STOPPED true))
     let m : List Byte := MSG 2 (leBytes 4 40 ++ leBytes 4 6 ++ leBytes 8 5000)
     let p : Nat := 3
     s.awake ∧ (s.dev.selStop = false) ∧ (s.dev.selfValid = true) ∧ (s.dev.badMsg (nats m) = false) ∧ (mType (nats m) =
       2) ∧ (s.dev.stopped = true) ∧ (s.dev.peerIx (mSrc (nats m)) = some p) ∧ (s.dev.grantOk p (nats m) = true)) ∧
    (let s : State := stD (fun d => (PP9 d).wrB TB_STATUS_STOPPED true)
     let m : List Byte := MSG 3 ([])
     s.awake ∧ (s.dev.selStop = false) ∧ (s.dev.selfValid = true) ∧ (s.dev.badMsg (nats m) = false) ∧ (mType (nats m) =
       3) ∧ (s.dev.stopped = true)) ∧
    (let s : State := stD (fun d => (inPP (fun p => { p with loans := [(33, some LOAN9)] }) d).wrB TB_STATUS_STOPPED false)
     let m : List Byte := MSG 3 (leBytes 4 40 ++ leBytes 4 6)
     let k : Nat := 33
     let l : Loan := LOAN9
     s.awake ∧ (s.dev.selStop = false) ∧ (s.dev.selfValid = true) ∧ (s.dev.badMsg (nats m) = false) ∧ (mType (nats m) =
       3) ∧ (s.dev.stopped = false) ∧ (s.dev.loanList.find? (fun x => decide (32 ≤ x.1) && x.2.id = mBody (nats m) 4 4
       && some x.2.peer = s.dev.peerIx (mSrc (nats m)) && x.2.inForce) = some (k, l))) := by
  decide +kernel

/-- The hypotheses of LoansAndTime are met, clause by clause. -/
theorem witness_LoansAndTime_3 :
    (let s : State := stD (fun d => (PP9 d).wrB TB_STATUS_STOPPED false)
     let m : List Byte := MSG 3 ([])
     s.awake ∧ (s.dev.selStop = false) ∧ (s.dev.selfValid = true) ∧ (s.dev.badMsg (nats m) = false) ∧ (mType (nats m) =
       3) ∧ (s.dev.stopped = false) ∧ (s.dev.loanList = [])) ∧
    (let s : State := stD (fun d => BB9 (inPP (fun p => { p with loans := [(3, some LOAN9)] }) d))
     let i : Fin 32 := 3
     let l : Loan := LOAN9
     let y : Peer := PEER3
     s.awake ∧ (s.dev.stopped = false) ∧ (s.dev.led.cls ≤ 5) ∧ (s.dev.time.count % 1000 = 0) ∧ (s.dev.loan i = some l) ∧
       (s.dev.loanEnds l = true) ∧ (l.inForce = true) ∧ (s.dev.loanExpired l = false) ∧ (s.dev.peer l.peer = some y) ∧
       (s.dev.portUp = true) ∧ (s.dev.rd CK_STATUS_SEL ≠ 5)) ∧
    (let s : State := stD (fun d => (inPP (fun p => { p with loans := [(3, some LOAN9)] }) d).wrB TB_STATUS_STOPPED true)
     let i : Fin 32 := 3
     let l : Loan := LOAN9
     s.awake ∧ (s.dev.loan i = some l) ∧ (s.dev.stopped = true ∨ s.dev.time.count % 1000 ≠ 0 ∨ s.dev.loanEnds l =
       false)) := by
  decide +kernel

/-- The hypotheses of LoansAndTime are met, clause by clause. -/
theorem witness_LoansAndTime_4 :
    (let s : State := stD (fun d => inTime (fun t => { t with nbRun := 9000000 }) (BB9 (inPP (fun p => { p with loans := [(33, some LOAN9)] }) d)))
     let i : Fin 32 := 1
     let l : Loan := LOAN9
     s.awake ∧ (s.dev.stopped = false) ∧ (s.dev.led.cls ≤ 5) ∧ (s.dev.time.count % 1000 = 0) ∧ (s.dev.loan (32 + i) =
       some l) ∧ (l.inForce = true) ∧ (s.dev.passed l.at_ (1000 * s.dev.loanTimeout) = true) ∧ (l.amount ≠ 0)) ∧
    (let s : State := stD (fun d => (inPP (fun p => { p with loans := [(33, some LOAN9)] }) d).wrB TB_STATUS_STOPPED true)
     let i : Fin 32 := 1
     let l : Loan := LOAN9
     s.awake ∧ (s.dev.loan (32 + i) = some l) ∧ (s.dev.stopped = true ∨ s.dev.time.count % 1000 ≠ 0 ∨ s.dev.passed l.at_
       (1000 * s.dev.loanTimeout) = false)) ∧
    (let s : State := stD (inPP fun p => { p with loans := [(3, some LOAN9)] })
     let i : Fin 32 := 3
     let l : Loan := LOAN9
     s.awake ∧ (s.dev.loan i = some l)) ∧
    (let s : State := State.reset
     let i : Fin 32 := 3
     s.awake ∧ (s.dev.loan i = none)) ∧
    (let s : State := stD (fun d => (inPP (fun p => { p with pass := some ⟨1, 2, 9, 0, 500, true, 0⟩, counters := [] }) (inTime (fun t => { t with count := 42 }) d)).wr BU_CAP_LIMITS_CAP_MIN 0 |>.wr BU_CAP_LIMITS_CAP_MAX 600)
     let v : BitVec 16 := 500
     let u : Bool := true
     let x : SigPass := ⟨1, 2, 9, 0, 500, true, 0⟩
     s.awake ∧ (s.dev.pp.pass = some x) ∧ (x.purpose = 1) ∧ (x.value = v.toNat) ∧ (x.urgent = u) ∧ (s.dev.newCounter
       x.key x.counter = true) ∧ (s.dev.freshStamp x.stamp = true) ∧ (s.dev.capRange v.toNat = true)) := by
  decide +kernel

/-- The hypotheses of LoansAndTime are met, clause by clause. -/
theorem witness_LoansAndTime_5 :
    (let s : State := stD (fun d => inPP (fun p => { p with pass := some ⟨1, 2, 9, 0, 500, true, 0⟩, counters := [(2, some 9)] }) d)
     let v : BitVec 16 := 500
     let u : Bool := true
     let x : SigPass := ⟨1, 2, 9, 0, 500, true, 0⟩
     s.awake ∧ (s.dev.pp.pass = some x) ∧ (s.dev.newCounter x.key x.counter = false ∨ s.dev.freshStamp x.stamp = false)) ∧
    (let s : State := State.reset
     let v : BitVec 16 := 500
     let u : Bool := true
     s.awake ∧ (s.dev.pp.pass = none)) ∧
    (let s : State := stD (PP9)
     let m : List Byte := MSG 0x20 ([1])
     let t2 : BitVec 12 := 5
     let t3 : BitVec 12 := 9
     s.awake ∧ (s.dev.selStop = false) ∧ (s.dev.selfValid = true) ∧ (s.dev.badMsg (nats m) = false) ∧ (mType (nats m) =
       0x20) ∧ (s.dev.rd CK_STATUS_SEL ≠ 5)) ∧
    (let s : State := stD (PP9)
     let m : List Byte := MSG 0x21 ([])
     let t4 : BitVec 12 := 9
     s.awake ∧ (s.dev.selStop = false) ∧ (s.dev.selfValid = true) ∧ (s.dev.badMsg (nats m) = false) ∧ (mType (nats m) =
       0x21) ∧ (s.dev.pp.timeReqs = [])) := by
  decide +kernel

/-- The hypotheses of LoansAndTime are met, clause by clause. -/
theorem witness_LoansAndTime_6 :
    (let s : State := stD (fun d => (inTime (fun t => { t with count := 42 }) ((inPP (fun p => { p with timeReqs := [(3, 40 * 4096, false)] }) d).wrB TB_STATUS_H false)).wr PP_CFG2_RTT_MAX 9 |>.wr PP_CFG2_TIME_TOL 9)
     let m : List Byte := MSG 0x21 (leBytes 8 (40 * 4096) ++ leBytes 8 (40 * 4096 + 9) ++ [1, 0])
     let t4 : BitVec 12 := 9
     let p : Nat := 3
     let a : Nat := 40 * 4096
     s.awake ∧ (s.dev.selStop = false) ∧ (s.dev.selfValid = true) ∧ (s.dev.badMsg (nats m) = false) ∧ (mType (nats m) =
       0x21) ∧ (s.dev.peerIx (mSrc (nats m)) = some p) ∧ (s.dev.pp.timeReqs = [(p, a, false)]) ∧ (a = mBody (nats m) 0
       8) ∧ ((s.dev.stamp t4.toNat : Int) - a - ((mStamp (nats m) : Int) - mBody (nats m) 8 8) ≤ s.dev.rd
       PP_CFG2_RTT_MAX * 4096) ∧ (bitsOf (mBody (nats m) 17 1) 0 2 = 0) ∧ (mH (nats m) = false) ∧ (s.dev.hNow = false) ∧
       ((((mBody (nats m) 8 8 : Int) - a) - ((s.dev.stamp t4.toNat : Int) - mStamp (nats m))).natAbs ≤ s.dev.rd
       PP_CFG2_TIME_TOL * 8192)) ∧
    (let s : State := stD (fun d => (PP9 d).wr CK_STATUS_SEL 5)
     let m : List Byte := MSG 0x20 ([1])
     let t2 : BitVec 12 := 5
     let t3 : BitVec 12 := 9
     s.awake ∧ (s.dev.selStop = false) ∧ (s.dev.selfValid = true) ∧ (s.dev.badMsg (nats m) = false) ∧ (mType (nats m) =
       0x20) ∧ (s.dev.rd CK_STATUS_SEL = 5)) := by
  decide +kernel

/-- The hypotheses of SelvedgeStops are met, clause by clause. -/
theorem witness_SelvedgeStops :
    (let s : State := stD (fun d => d.wr JZ_SEL_STATUS_STATE 1)
     let f : Fin 96 := 3
     let p : Fin 36 := 4
     let c0 : Bool := true
     let c1 : Bool := true
     let q : BitVec 12 := 5
     s.awake ∧ (s.dev.trips f p c0 c1 = true) ∧ (s.dev.selStop = false)) ∧
    (let s : State := stD (fun d => d.wr JZ_SEL_STATUS_STATE 1)
     let f : Fin 96 := 3
     let p : Fin 36 := 4
     let c0 : Bool := false
     let c1 : Bool := false
     let q : BitVec 12 := 5
     s.awake ∧ (s.dev.trips f p c0 c1 = false)) ∧
    (let s : State := stD (fun d => (d.wr JZ_SEL_STATUS_STATE 2).wrB JZ_SEL_STATUS_CAUSE_TRIP true)
     let f : Fin 96 := 3
     let p : Fin 36 := 4
     let c0 : Bool := true
     let c1 : Bool := true
     let q : BitVec 12 := 5
     s.awake ∧ (s.dev.selStop = true) ∧ (s.dev.rdB JZ_SEL_STATUS_CAUSE_TRIP = true)) ∧
    (let s : State := stD (fun d => (d.wr JZ_SEL_STATUS_STATE 2).wrB JZ_SEL_STATUS_CAUSE_TRIP false)
     let f : Fin 96 := 3
     let p : Fin 36 := 4
     let c0 : Bool := true
     let c1 : Bool := true
     let q : BitVec 12 := 5
     s.awake ∧ (s.dev.trips f p c0 c1 = true) ∧ (s.dev.selStop = true) ∧ (s.dev.rdB JZ_SEL_STATUS_CAUSE_TRIP = false)) ∧
    (let s : State := stD (fun d => d.wr JZ_SEL_STATUS_STATE 1)
     let q : BitVec 12 := 5
     s.awake ∧ (s.dev.pins.coolOk = false) ∧ (s.dev.selState = selRun ∨ s.dev.selState = selRestart)) ∧
    (let s : State := stD (fun d => d.wr JZ_SEL_STATUS_STATE 0)
     let q : BitVec 12 := 5
     s.awake ∧ (s.dev.pins.coolOk = false) ∧ (s.dev.selState = selWait)) := by
  decide +kernel

/-- The hypotheses of SelvedgeStops are met, clause by clause. -/
theorem witness_SelvedgeStops_2 :
    (let s : State := stD (fun d => { d with pins := { d.pins with coolOk := true } })
     let q : BitVec 12 := 5
     s.awake ∧ (s.dev.pins.coolOk = true)) ∧
    (let s : State := stD (fun d => (((d.wr JZ_SEL_STATUS_STATE 2).wrB JZ_SEL_STATUS_OFF false).wrB (PS_TS_HEALTH_SUSPECT 3 4 1) false).updDm 3 (domOf 4) (fun x => { x with railAt := some modeRetention }) |>.wrB (ST_LINK_STATUS_STALE 3 (domOf 4)) true)
     let f : Fin 96 := 3
     let p : Fin 36 := 4
     let x : Fin 2 := 1
     s.awake ∧ (s.dev.selStop = true) ∧ (s.dev.rdB JZ_SEL_STATUS_OFF = false) ∧ (s.dev.suspect f p x = false) ∧
       (s.dev.railRetained f (domOf p) = true)) ∧
    (let s : State := stD (fun d => d.wr JZ_SEL_STATUS_STATE 1)
     let f : Fin 96 := 3
     let p : Fin 36 := 4
     let x : Fin 2 := 1
     s.awake ∧ (s.dev.selStop = false ∨ s.dev.rdB JZ_SEL_STATUS_OFF = true ∨ s.dev.suspect f p x = true ∨
       s.dev.railRetained f (domOf p) = false)) ∧
    (let s : State := stD (fun d => { d with pins := { d.pins with coolOk := true } })
     (s.dev.pins.coolOk = true) ∧ (s.dev.sel.okFor = none)) ∧
    (let s : State := stD (fun d => ({ d with pins := { d.pins with coolOk := true } }).updSel fun x => { x with okFor := some 7 })
     let n : Nat := 7
     (s.dev.pins.coolOk = true) ∧ (s.dev.sel.okFor = some n)) ∧
    (let s : State := State.reset
     s.dev.pins.coolOk = false) := by
  decide +kernel

/-- The hypotheses of SelvedgeStops are met, clause by clause. -/
theorem witness_SelvedgeStops_3 :
    (let s : State := stD (fun d => ((d.wr JZ_SEL_STATUS_STATE 0).wrB JZ_SEL_STATUS_COOL_OK true).updSel fun x => { x with okFor := some 99999999, onRosc := false })
     (s.dev.selState = selWait) ∧ (s.dev.rdB JZ_SEL_STATUS_COOL_OK = true) ∧ (s.dev.okBolts (s.dev.rd
       JZ_SEL_TIME0_COOL_START) = true) ∧ (s.dev.tripping = [])) ∧
    (let s : State := stD (fun d => ((d.wr JZ_SEL_STATUS_STATE 0).wrB JZ_SEL_STATUS_COOL_OK true).updSel fun x => { x with okFor := some 0, onRosc := true })
     (s.dev.selState = selWait) ∧ (s.dev.rdB JZ_SEL_STATUS_COOL_OK = true) ∧ (s.dev.sel.onRosc = true) ∧
       (s.dev.sel.okFor ≠ none) ∧ (s.dev.tripping = [])) ∧
    (let s : State := State.reset
     s.dev.selState ≠ selWait ∨ s.dev.rdB JZ_SEL_STATUS_COOL_OK = false ∨ s.dev.tripping ≠ [] ∨ (s.dev.okBolts (s.dev.rd
       JZ_SEL_TIME0_COOL_START) = false ∧ (s.dev.sel.onRosc = false ∨ s.dev.sel.okFor = none))) ∧
    (let s : State := stD (RST12)
     s.awake ∧ (s.dev.mayRestart = true) ∧ (s.dev.start.step ≠ 9)) ∧
    (let s : State := stD (fun d => { RST12 d with start := { d.start with step := 9 } })
     s.awake ∧ (s.dev.mayRestart = true) ∧ (s.dev.start.step = 9)) ∧
    (let s : State := stD (fun d => d.wr JZ_SEL_STATUS_STATE 1)
     s.awake ∧ (s.dev.mayRestart = false)) := by
  decide +kernel

/-- The hypotheses of SelvedgeStops are met, clause by clause. -/
theorem witness_SelvedgeStops_4 :
    (let s : State := stD (fun d => d.wr JZ_SEL_STATUS_STATE 3)
     s.awake ∧ (s.dev.selState = selRestart) ∧ (s.dev.restarted = true)) ∧
    (let s : State := stD (fun d => d.wr JZ_SEL_STATUS_STATE 1)
     s.awake ∧ (s.dev.selState ≠ selRestart ∨ s.dev.restarted = false)) ∧
    (let s : State := stD (fun d => d.wr JZ_SEL_STATUS_STATE 4)
     s.awake ∧ (s.dev.selState = selLatched)) ∧
    (let s : State := stD (fun d => d.wr JZ_SEL_STATUS_STATE 1)
     s.awake ∧ (s.dev.selState ≠ selLatched)) := by
  decide +kernel

/-- The hypotheses of MemoryAndOptics are met, clause by clause. -/
theorem witness_MemoryAndOptics :
    (let s : State := stD (fun d => d.wr (ST_MEM_NCH_NCH 3) 0)
     let f : Fin 96 := 3
     let k : Fin 32 := 5
     let c : BitVec 5 := 6
     s.awake ∧ (s.dev.rd (ST_MEM_NCH_NCH f) ≤ k)) ∧
    (let s : State := stD (fun d => setChn 3 5 ⟨0, 0⟩ ((((d.wr (ST_MEM_NCH_NCH 3) 8).wr (ST_MEM_ZONE 3 5) 0).wr (ST_MEM_MR4MAP 3 6) 3).wr (ST_MEM_CFG_MEM_HYST 3) 3))
     let f : Fin 96 := 3
     let k : Fin 32 := 5
     let c : BitVec 5 := 6
     s.awake ∧ (k.val < s.dev.rd (ST_MEM_NCH_NCH f)) ∧ (s.dev.zone f k < 2) ∧ (min 2 (s.dev.rd (ST_MEM_MR4MAP f
       c.toNat)) = 2)) ∧
    (let s : State := stD (fun d => setChn 3 5 ⟨0, 0⟩ ((((d.wr (ST_MEM_NCH_NCH 3) 8).wr (ST_MEM_ZONE 3 5) 0).wr (ST_MEM_MR4MAP 3 6) 1).wr (ST_MEM_CFG_MEM_HYST 3) 3))
     let f : Fin 96 := 3
     let k : Fin 32 := 5
     let c : BitVec 5 := 6
     s.awake ∧ (k.val < s.dev.rd (ST_MEM_NCH_NCH f)) ∧ (s.dev.zone f k < min 2 (s.dev.rd (ST_MEM_MR4MAP f c.toNat))) ∧
       (min 2 (s.dev.rd (ST_MEM_MR4MAP f c.toNat)) < 2)) ∧
    (let s : State := stD (fun d => setChn 3 5 ⟨0, 0⟩ ((((d.wr (ST_MEM_NCH_NCH 3) 8).wr (ST_MEM_ZONE 3 5) 1).wr (ST_MEM_MR4MAP 3 6) 1).wr (ST_MEM_CFG_MEM_HYST 3) 3))
     let f : Fin 96 := 3
     let k : Fin 32 := 5
     let c : BitVec 5 := 6
     s.awake ∧ (k.val < s.dev.rd (ST_MEM_NCH_NCH f)) ∧ (s.dev.zone f k = min 2 (s.dev.rd (ST_MEM_MR4MAP f c.toNat)))) ∧
    (let s : State := stD (fun d => setChn 3 5 ⟨0, 0⟩ ((((d.wr (ST_MEM_NCH_NCH 3) 8).wr (ST_MEM_ZONE 3 5) 1).wr (ST_MEM_MR4MAP 3 6) 0).wr (ST_MEM_CFG_MEM_HYST 3) 3))
     let f : Fin 96 := 3
     let k : Fin 32 := 5
     let c : BitVec 5 := 6
     s.awake ∧ (k.val < s.dev.rd (ST_MEM_NCH_NCH f)) ∧ (min 2 (s.dev.rd (ST_MEM_MR4MAP f c.toNat)) < s.dev.zone f k) ∧
       (s.dev.zone f k < 3) ∧ ((s.dev.chn f k).cooler + 1 < orDef (s.dev.rd (ST_MEM_CFG_MEM_HYST f)) 1)) ∧
    (let s : State := stD (fun d => setChn 3 5 ⟨5, 0⟩ ((((d.wr (ST_MEM_NCH_NCH 3) 8).wr (ST_MEM_ZONE 3 5) 1).wr (ST_MEM_MR4MAP 3 6) 0).wr (ST_MEM_CFG_MEM_HYST 3) 3))
     let f : Fin 96 := 3
     let k : Fin 32 := 5
     let c : BitVec 5 := 6
     s.awake ∧ (k.val < s.dev.rd (ST_MEM_NCH_NCH f)) ∧ (min 2 (s.dev.rd (ST_MEM_MR4MAP f c.toNat)) < 1) ∧ (s.dev.zone f
       k = 1) ∧ (orDef (s.dev.rd (ST_MEM_CFG_MEM_HYST f)) 1 ≤ (s.dev.chn f k).cooler + 1)) := by
  decide +kernel

/-- The hypotheses of MemoryAndOptics are met, clause by clause. -/
theorem witness_MemoryAndOptics_2 :
    (let s : State := stD (fun d => setChn 3 5 ⟨5, 0⟩ ((((d.wr (ST_MEM_NCH_NCH 3) 8).wr (ST_MEM_ZONE 3 5) 2).wr (ST_MEM_MR4MAP 3 6) 0).wr (ST_MEM_CFG_MEM_HYST 3) 3))
     let f : Fin 96 := 3
     let k : Fin 32 := 5
     let c : BitVec 5 := 6
     s.awake ∧ (k.val < s.dev.rd (ST_MEM_NCH_NCH f)) ∧ (min 2 (s.dev.rd (ST_MEM_MR4MAP f c.toNat)) < 2) ∧ (2 ≤
       s.dev.zone f k) ∧ (orDef (s.dev.rd (ST_MEM_CFG_MEM_HYST f)) 1 ≤ (s.dev.chn f k).cooler + 1)) ∧
    (let s : State := stD (fun d => inTime (fun t => { t with nbRun := 999999 }) ((fun d => setChn 3 5 ⟨0, 0⟩ ((((d.wr (ST_MEM_NCH_NCH 3) 8).wr (ST_MEM_ZONE 3 5) 1).wr (ST_MEM_MR4MAP 3 6) 0).wr (ST_MEM_CFG_MEM_HYST 3) 3)) d))
     let f : Fin 96 := 3
     let k : Fin 32 := 5
     s.awake ∧ (k.val < s.dev.rd (ST_MEM_NCH_NCH f)) ∧ (s.dev.zone f k ≠ 3) ∧ (s.dev.expired (s.dev.chn f k).seen (4 *
       orDef (s.dev.rd (ST_MEM_CFG_MR4_PERIOD f)) 1) = true)) ∧
    (let s : State := stD (fun d => setChn 3 5 ⟨0, 0⟩ ((((d.wr (ST_MEM_NCH_NCH 3) 8).wr (ST_MEM_ZONE 3 5) 3).wr (ST_MEM_MR4MAP 3 6) 0).wr (ST_MEM_CFG_MEM_HYST 3) 3))
     let f : Fin 96 := 3
     let k : Fin 32 := 5
     s.awake ∧ (s.dev.rd (ST_MEM_NCH_NCH f) ≤ k ∨ s.dev.zone f k = 3 ∨ s.dev.expired (s.dev.chn f k).seen (4 * orDef
       (s.dev.rd (ST_MEM_CFG_MR4_PERIOD f)) 1) = false)) ∧
    (let s : State := stD (fun d => ((d.wr JZ_OPT_OUT_OUT 0).wrS JZ_OPT_CFG_OPT_HI 70).updFd 3 fun x => { x with enable := true, optics := [5] })
     let e : Fin 24 := 5
     let a : BitVec 8 := 60
     let b : BitVec 8 := 71
     s.awake ∧ (s.dev.bit JZ_OPT_OUT_OUT e = false) ∧ (a.toInt < s.dev.rdS JZ_OPT_CFG_OPT_LO ∨ s.dev.rdS
       JZ_OPT_CFG_OPT_HI < b.toInt)) ∧
    (let s : State := stD (fun d => ((d.wr JZ_OPT_OUT_OUT 0).wrS JZ_OPT_CFG_OPT_HI 70).wrS JZ_OPT_CFG_OPT_LO 10)
     let e : Fin 24 := 5
     let a : BitVec 8 := 60
     let b : BitVec 8 := 70
     s.awake ∧ (s.dev.bit JZ_OPT_OUT_OUT e = false) ∧ (s.dev.rdS JZ_OPT_CFG_OPT_LO ≤ a.toInt) ∧ (a.toInt ≤ s.dev.rdS
       JZ_OPT_CFG_OPT_HI) ∧ (s.dev.rdS JZ_OPT_CFG_OPT_LO ≤ b.toInt) ∧ (b.toInt ≤ s.dev.rdS JZ_OPT_CFG_OPT_HI)) := by
  decide +kernel

/-- The hypotheses of MemoryAndOptics are met, clause by clause. -/
theorem witness_MemoryAndOptics_3 :
    (let s : State := stD (fun d => (((d.wr JZ_OPT_OUT_OUT 0xFF).wrS JZ_OPT_CFG_OPT_HI 70).wrS JZ_OPT_CFG_OPT_LO 10).wr JZ_OPT_CFG_OPT_HYST 3)
     let e : Fin 24 := 5
     let a : BitVec 8 := 60
     let b : BitVec 8 := 67
     s.awake ∧ (s.dev.bit JZ_OPT_OUT_OUT e = true) ∧ (s.dev.rdS JZ_OPT_CFG_OPT_LO + (s.dev.rd JZ_OPT_CFG_OPT_HYST : Int)
       ≤ a.toInt) ∧ (a.toInt ≤ s.dev.rdS JZ_OPT_CFG_OPT_HI - (s.dev.rd JZ_OPT_CFG_OPT_HYST : Int)) ∧ (s.dev.rdS
       JZ_OPT_CFG_OPT_LO + (s.dev.rd JZ_OPT_CFG_OPT_HYST : Int) ≤ b.toInt) ∧ (b.toInt ≤ s.dev.rdS JZ_OPT_CFG_OPT_HI -
       (s.dev.rd JZ_OPT_CFG_OPT_HYST : Int))) ∧
    (let s : State := stD (fun d => inTime (fun t => { t with nbRun := 999 }) (d.wr JZ_OPT_OUT_OUT 0))
     let e : Fin 24 := 5
     s.awake ∧ (s.dev.bit JZ_OPT_OUT_OUT e = false) ∧ (s.dev.expired (tget 0 s.dev.opt e) 400 = true)) ∧
    (let s : State := stD (fun d => d.wr JZ_OPT_OUT_OUT 0xFFFFFF)
     let e : Fin 24 := 5
     s.awake ∧ (s.dev.bit JZ_OPT_OUT_OUT e = true ∨ s.dev.expired (tget 0 s.dev.opt e) 400 = false)) := by
  decide +kernel

/-- The hypotheses of ImageSessions are met, clause by clause. -/
theorem witness_ImageSessions :
    (let s : State := stD (fun d => GATE9 <| inTime (fun t => { t with count := 55 }) (inPP (fun p => { p with pass := some PASS13 }) d))
     let m : List Byte := OPEN13
     let q : BitVec 12 := 5
     let x : SigPass := PASS13
     s.awake ∧ (mType (nats m) = 8) ∧ (s.dev.badMsg (nats m) = false) ∧ (s.dev.portUp = true) ∧ (s.dev.gateOk 9 = true)
       ∧ (s.dev.pp.pass = some x) ∧ (x.purpose = 2) ∧ (x.len = mBody (nats m) 0 3) ∧ (x.key = mBody (nats m) 3 1) ∧
       (x.counter = mBody (nats m) 8 8) ∧ (s.dev.nv.session = none) ∧ (s.dev.newCounter x.key x.counter = true) ∧
       (s.dev.freshStamp x.stamp = true) ∧ (s.dev.rd CK_STATUS_SEL ≠ 5)) := by
  decide +kernel

/-- The hypotheses of ImageSessions are met, clause by clause. -/
theorem witness_ImageSessions_2 :
    (let s : State := stD (fun d => GATE9 <| inTime (fun t => { t with count := 55 }) (inPP (fun p => { p with pass := some PASS13, counters := [(2, some 9)] }) d))
     let m : List Byte := OPEN13
     let q : BitVec 12 := 5
     let x : SigPass := PASS13
     s.awake ∧ (mType (nats m) = 8) ∧ (s.dev.badMsg (nats m) = false) ∧ (s.dev.portUp = true) ∧ (s.dev.gateOk 9 = true)
       ∧ (s.dev.pp.pass = some x) ∧ (x.purpose = 2) ∧ (x.len = mBody (nats m) 0 3) ∧ (x.key = mBody (nats m) 3 1) ∧
       (x.counter = mBody (nats m) 8 8) ∧ (s.dev.nv.session = none) ∧ (s.dev.newCounter x.key x.counter = false ∨
       s.dev.freshStamp x.stamp = false) ∧ (s.dev.rd CK_STATUS_SEL ≠ 5)) ∧
    (let s : State := stD (fun d => GATE9 (PP9 d))
     let m : List Byte := OPEN13
     let q : BitVec 12 := 5
     s.awake ∧ (mType (nats m) = 8) ∧ (s.dev.badMsg (nats m) = false) ∧ (s.dev.portUp = true) ∧ (s.dev.gateOk 9 = true)
       ∧ (s.dev.pp.pass = none) ∧ (s.dev.nv.session = none) ∧ (s.dev.rd CK_STATUS_SEL ≠ 5)) := by
  decide +kernel

/-- The hypotheses of ImageSessions are met, clause by clause. -/
theorem witness_ImageSessions_3 :
    (let s : State := stD (fun d => (PP9 d).wrB (CK_GATE_EN 9) false)
     let m : List Byte := OPEN13
     let q : BitVec 12 := 5
     s.awake ∧ (mType (nats m) = 8) ∧ (s.dev.badMsg (nats m) = false) ∧ (s.dev.portUp = true) ∧ (s.dev.gateOk 9 = false)
       ∧ (s.dev.rd CK_STATUS_SEL ≠ 5)) ∧
    (let s : State := stD (fun d => GATE9 (inNv (fun n => { n with session := some (SES13 8 false) }) d))
     let m : List Byte := CHUNK13
     let q : BitVec 12 := 5
     let x : Session := SES13 8 false
     s.awake ∧ (mType (nats m) = 9) ∧ (s.dev.badMsg (nats m) = false) ∧ (s.dev.portUp = true) ∧ (s.dev.nv.session = some
       x) ∧ (x.peer = true) ∧ (x.sender = some (mSrc (nats m))) ∧ (x.verifying = false) ∧ (s.dev.gateOk 9 = true) ∧
       (mBody (nats m) 0 4 = x.next) ∧ (x.next + mBody (nats m) 4 2 < x.len) ∧ (x.len ≤ 0x800000) ∧ (s.dev.rd
       CK_STATUS_SEL ≠ 5)) := by
  decide +kernel

/-- The hypotheses of ImageSessions are met, clause by clause. -/
theorem witness_ImageSessions_4 :
    (let s : State := stD (fun d => GATE9 (inNv (fun n => { n with session := some (SES13 4 false) }) d))
     let m : List Byte := CHUNK13
     let q : BitVec 12 := 5
     let x : Session := SES13 4 false
     s.awake ∧ (mType (nats m) = 9) ∧ (s.dev.badMsg (nats m) = false) ∧ (s.dev.portUp = true) ∧ (s.dev.nv.session = some
       x) ∧ (x.peer = true) ∧ (x.sender = some (mSrc (nats m))) ∧ (x.verifying = false) ∧ (s.dev.gateOk 9 = true) ∧
       (mBody (nats m) 0 4 ≠ x.next) ∧ (s.dev.rd CK_STATUS_SEL ≠ 5)) ∧
    (let s : State := stD (fun d => GATE9 (PP9 d))
     let m : List Byte := CHUNK13
     let q : BitVec 12 := 5
     s.awake ∧ (mType (nats m) = 9) ∧ (s.dev.badMsg (nats m) = false) ∧ (s.dev.portUp = true) ∧ (s.dev.nv.session =
       none) ∧ (s.dev.gateOk 9 = true) ∧ (s.dev.rd CK_STATUS_SEL ≠ 5)) ∧
    (let s : State := stD (fun d => inTime (fun t => { t with nbRun := 999999 }) (inNv (fun n => { n with session := some (SES13 4 false) }) d))
     let x : Session := SES13 4 false
     s.awake ∧ (s.dev.nv.session = some x) ∧ (x.verifying = false) ∧ (s.dev.expired x.last (1000 * imageIdle) = true)) ∧
    (let s : State := stD (PP9)
     s.awake ∧ (∀ x : Session, s.dev.nv.session = some x → x.verifying = true ∨ s.dev.expired x.last (1000 * imageIdle)
       = false)) := by
  decide +kernel

/-- The hypotheses of ImageSessions are met, clause by clause. -/
theorem witness_ImageSessions_5 :
    (let s : State := VER13 ROOT13
     let o : SigObs := ⟨5, true⟩
     let q : BitVec 12 := 5
     let x : Session := SES13 240 true
     s.awake ∧ (s.dev.nv.session = some x) ∧ (x.verifying = true) ∧ (s.dev.imgFails s.fuses x.slotB x.len o true =
       none)) ∧
    (let s : State := VER13 State.reset.fuses
     let o : SigObs := ⟨5, true⟩
     let q : BitVec 12 := 5
     let x : Session := SES13 240 true
     s.awake ∧ (s.dev.nv.session = some x) ∧ (x.verifying = true) ∧ (s.dev.imgFails s.fuses x.slotB x.len o true = some
       4)) := by
  decide +kernel

/-- The hypotheses of SignaturesAndMargins are met, clause by clause. -/
theorem witness_SignaturesAndMargins :
    (let s : State := State.reset
     let k : BitVec 2 := 2
     let p : BitVec 2 := 1
     let n : BitVec 8 := 28
     s.awake ∧ (s.dev.nv.sig = none) ∧ (p ≠ 3) ∧ (1 ≤ n.toNat) ∧ (n.toNat ≤ 128) ∧ (p ≠ 1 ∨ n = 28)) ∧
    (let s : State := State.reset
     let k : BitVec 2 := 2
     let p : BitVec 2 := 1
     let n : BitVec 8 := 27
     s.awake ∧ (s.dev.nv.sig.isSome = true ∨ p = 3 ∨ n = 0 ∨ 128 < n.toNat ∨ (p = 1 ∧ n ≠ 28))) ∧
    (let s : State := stD (inNv fun n => { n with sig := some ⟨2, 1, List.range 28⟩, keys := [(2, some [5])] })
     let r : SigReq := ⟨2, 1, List.range 28⟩
     s.awake ∧ (s.dev.nv.sig = some r) ∧ ((tget none s.dev.nv.keys r.key).isSome = true) ∧ (r.purpose ≠ 2)) ∧
    (let s : State := stD (inNv fun n => { n with sig := some ⟨2, 2, List.range 28⟩, keys := [(2, some [5])] })
     let r : SigReq := ⟨2, 2, List.range 28⟩
     s.awake ∧ (s.dev.nv.sig = some r) ∧ ((tget none s.dev.nv.keys r.key).isSome = true) ∧ (r.purpose = 2) ∧
       (s.dev.nv.session = none)) ∧
    (let s : State := stD (inNv fun n => { n with sig := some ⟨2, 1, List.range 28⟩ })
     let b : Bool := true
     let r : SigReq := ⟨2, 1, List.range 28⟩
     s.awake ∧ (s.dev.nv.sig = some r) ∧ (b = false ∨ tget none s.dev.nv.keys r.key = none)) ∧
    (let s : State := State.reset
     let b : Bool := true
     s.awake ∧ (s.dev.nv.sig = none)) := by
  decide +kernel

/-- The hypotheses of SignaturesAndMargins are met, clause by clause. -/
theorem witness_SignaturesAndMargins_2 :
    (let s : State := stD (fun d => GATE9 (inNv (fun n => { n with margDue := some 5 }) d))
     let c : Nat := 0
     let n : Nat := 1
     s.awake ∧ (s.dev.nv.margDue.isSome = true) ∧ (s.dev.gateOk 9 = true) ∧ ((c, n) = s.dev.margNow.elim (0, 1) (fun x
       => (1 - x.1, x.2 + 1)))) ∧
    (let s : State := State.reset
     s.awake ∧ (s.dev.nv.margDue = none ∨ s.dev.gateOk 9 = false)) := by
  decide +kernel

/-- The hypotheses of PllAndInputs are met, clause by clause. -/
theorem witness_PllAndInputs :
    (let s : State := stD (fun d => (((d.wr CK_STATUS_SEL 5).wr CK_STATUS_REF_Q 0).wr CK_STATUS_ROSC_RUN 1).wr TB_STATUS_MODE NO_SOURCE)
     let u : BitVec 32 := 5
     s.awake ∧ (s.dev.rdB CK_STATUS_REF_Q = false) ∧ (s.dev.rdB CK_STATUS_ROSC_RUN = true) ∧ (s.dev.ckSel = ckWait)) ∧
    (let s : State := stD (fun d => (((d.wr CK_STATUS_SEL 2).wr CK_STATUS_REF_Q 0).wr CK_STATUS_ROSC_RUN 1).wr TB_STATUS_MODE ACQUIRING)
     let u : BitVec 32 := 5
     s.awake ∧ (s.dev.rdB CK_STATUS_REF_Q = false) ∧ (s.dev.rdB CK_STATUS_ROSC_RUN = true) ∧ (s.dev.ckSel ≠ ckWait) ∧
       (s.dev.ckSel ≠ ckBoot ∨ s.dev.mode ≠ NO_SOURCE)) ∧
    (let s : State := stD (fun d => (((d.wr CK_STATUS_SEL 0).wr CK_STATUS_REF_Q 0).wr CK_STATUS_ROSC_RUN 1).wr TB_STATUS_MODE NO_SOURCE)
     let u : BitVec 32 := 5
     s.awake ∧ (s.dev.rdB CK_STATUS_REF_Q = false) ∧ (s.dev.rdB CK_STATUS_ROSC_RUN = true) ∧ (s.dev.ckSel = ckBoot) ∧
       (s.dev.mode = NO_SOURCE)) ∧
    (let s : State := stD (fun d => (d.wr CK_STATUS_REF_Q 1))
     let u : BitVec 32 := 5
     s.awake ∧ (s.dev.rdB CK_STATUS_REF_Q = true ∨ s.dev.rdB CK_STATUS_ROSC_RUN = false)) ∧
    (let s : State := stD (fun d => (((d.wr CK_STATUS_SEL 5).wr CK_STATUS_TB_Q 0).wr CK_STATUS_ROSC_RUN 1))
     let u : BitVec 32 := 5
     s.awake ∧ (s.dev.rdB CK_STATUS_TB_Q = false) ∧ (s.dev.rdB CK_STATUS_ROSC_RUN = true) ∧ (s.dev.time.laneOff = false)
       ∧ (s.dev.ckSel = ckWait)) := by
  decide +kernel

/-- The hypotheses of PllAndInputs are met, clause by clause. -/
theorem witness_PllAndInputs_2 :
    (let s : State := stD (fun d => (((d.wr CK_STATUS_SEL 3).wr CK_STATUS_TB_Q 0).wr CK_STATUS_ROSC_RUN 1))
     let u : BitVec 32 := 5
     s.awake ∧ (s.dev.rdB CK_STATUS_TB_Q = false) ∧ (s.dev.rdB CK_STATUS_ROSC_RUN = true) ∧ (s.dev.time.laneOff = false)
       ∧ (s.dev.ckSel ≠ ckWait) ∧ (s.dev.ckSel ≠ ckBoot ∨ s.dev.mode ≠ NO_SOURCE)) ∧
    (let s : State := stD (fun d => (((d.wr CK_STATUS_SEL 0).wr CK_STATUS_TB_Q 1).wr CK_STATUS_REF_Q 0))
     let b : Bool := true
     s.awake ∧ (s.dev.ckSel = ckBoot) ∧ (s.dev.ckPick = some b)) ∧
    (let s : State := stD (fun d => (((d.wr CK_STATUS_SEL 0).wr CK_STATUS_TB_Q 0).wr CK_STATUS_REF_Q 0))
     s.awake ∧ (s.dev.ckSel = ckBoot) ∧ (s.dev.ckPick = none)) ∧
    (let s : State := stD (fun d => (d.wr CK_STATUS_SEL 2))
     s.awake ∧ (s.dev.ckSel ≠ ckBoot)) ∧
    (let s : State := stD (fun d => (d.wr CK_STATUS_SEL 1).wr TB_STATUS_MODE NO_SOURCE)
     s.awake ∧ (s.dev.ckSel = ckLocking) ∧ (s.dev.mode = NO_SOURCE)) ∧
    (let s : State := stD (fun d => (d.wr CK_STATUS_SEL 1).wr TB_STATUS_MODE 2)
     s.awake ∧ (s.dev.ckSel = ckLocking) ∧ (s.dev.mode ≠ NO_SOURCE)) := by
  decide +kernel

/-- The hypotheses of PllAndInputs are met, clause by clause. -/
theorem witness_PllAndInputs_3 :
    (let s : State := stD (fun d => (d.wr CK_STATUS_SEL 2))
     s.awake ∧ (s.dev.ckSel ≠ ckLocking)) ∧
    (let s : State := stD (fun d => (((d.wr CK_STATUS_SEL 1).wr CK_STATUS_PLL_SRC 1).wr CK_STATUS_REF_Q 1))
     let b : Bool := true
     s.awake ∧ (s.dev.ckSel = ckLocking) ∧ (s.dev.rdB CK_STATUS_PLL_SRC = b) ∧ (s.dev.qualified (!b) = true)) ∧
    (let s : State := stD (fun d => (((d.wr CK_STATUS_SEL 1).wr CK_STATUS_PLL_SRC 1).wr CK_STATUS_REF_Q 0))
     s.awake ∧ (s.dev.ckSel = ckLocking) ∧ (s.dev.qualified (!s.dev.rdB CK_STATUS_PLL_SRC) = false)) ∧
    (let s : State := stD (fun d => ((((d.wr CK_STATUS_SEL 2).wr CK_STATUS_PLL_SRC 1).wr CK_STATUS_REF_Q 1).wr CK_STATUS_TB_Q 1))
     s.awake ∧ (s.dev.rdB CK_STATUS_TB_Q = true) ∧ (s.dev.onPll = true) ∧ (s.dev.rdB CK_STATUS_PLL_SRC = true) ∧
       (s.dev.rdB CK_STATUS_REF_Q = true)) ∧
    (let s : State := stD (fun d => ((((d.wr CK_STATUS_SEL 2).wr CK_STATUS_PLL_SRC 1).wr CK_STATUS_REF_Q 0).wr CK_STATUS_TB_Q 1))
     s.awake ∧ (s.dev.rdB CK_STATUS_TB_Q = true) ∧ (s.dev.onPll = true) ∧ (s.dev.rdB CK_STATUS_PLL_SRC = true) ∧
       (s.dev.rdB CK_STATUS_REF_Q = false)) ∧
    (let s : State := stD (fun d => ((((d.wr CK_STATUS_SEL 2).wr CK_STATUS_PLL_SRC 1).wr CK_STATUS_REF_Q 1).wr CK_STATUS_TB_Q 1))
     s.awake ∧ (s.dev.rdB CK_STATUS_REF_Q = true) ∧ (s.dev.onPll = true) ∧ (s.dev.rdB CK_STATUS_PLL_SRC = true)) := by
  decide +kernel

/-- The hypotheses of PllAndInputs are met, clause by clause. -/
theorem witness_PllAndInputs_4 :
    (let s : State := stD (fun d => (d.wr CK_STATUS_REF_Q 0))
     s.awake ∧ (s.dev.rdB CK_STATUS_REF_Q = false)) ∧
    (let s : State := stD (fun d => (d.wr CK_STATUS_TB_Q 0))
     s.awake ∧ (s.dev.rdB CK_STATUS_TB_Q = false)) ∧
    (let s : State := stD (fun d => (d.wr CK_STATUS_SEL 3))
     s.awake ∧ (s.dev.ckSel = ckOnTb ∨ s.dev.ckSel = ckOnRef)) ∧
    (let s : State := stD (fun d => (d.wr CK_STATUS_SEL 4))
     s.awake ∧ (s.dev.ckSel = ckHolding)) ∧
    (let s : State := stD (fun d => (d.wr CK_STATUS_SEL 4))
     s.awake ∧ (s.dev.ckSel = ckHolding)) ∧
    (let s : State := stD (fun d => (d.wr CK_STATUS_SEL 2))
     s.awake ∧ (s.dev.ckSel ≠ ckHolding)) := by
  decide +kernel

/-- The hypotheses of PllAndInputs are met, clause by clause. -/
theorem witness_PllAndInputs_5 :
    (let s : State := stD (fun d => inTime (fun t => { t with count := 7000, nb := 999999 }) ((((d.wr CK_STATUS_SEL 3).wr CK_STATUS_TB_Q 1)).wrB CK_CFG_PREF_TB true))
     s.awake ∧ (s.dev.ckSel = ckOnRef) ∧ (s.dev.time.count % 1000 = 0) ∧ (s.dev.rdB CK_CFG_PREF_TB = true) ∧ (s.dev.rdB
       CK_STATUS_TB_Q = true) ∧ (s.dev.expiredAll s.dev.clk.tbQualAt (1000 * orDef (s.dev.rd CK_CFG_TB_RETURN) 1) =
       true)) ∧
    (let s : State := stD (fun d => (d.wr CK_STATUS_SEL 2))
     s.awake ∧ (s.dev.ckSel ≠ ckOnRef)) ∧
    (let s : State := State.reset
     s.awake) := by
  decide +kernel

/-- The hypotheses of GatesAndClockOutput are met, clause by clause. -/
theorem witness_GatesAndClockOutput :
    (let s : State := stD (fun d => d.wr ⟨0x20020020, 0, 32⟩ 0xFFF)
     let v : BitVec 32 := 0xDFF
     s.awake ∧ (∀ b ∈ gated, s.dev.rdB (CK_GATE_EN b) = true → bitOf v.toNat b = false → s.dev.mayClose b = true)) ∧
    (let s : State := stD (fun d => (d.wr ⟨0x20020020, 0, 32⟩ 0xFFF).wrB JZ_STATUS_READY true)
     let v : BitVec 32 := 0
     let b : Fin 12 := 3
     s.awake ∧ (b.val ∈ gated) ∧ (s.dev.rdB (CK_GATE_EN b) = true) ∧ (bitOf v.toNat b = false) ∧ (s.dev.mayClose b =
       false)) ∧
    (let s : State := stD (fun d => (d.wrB (CK_GATE_EN 9) true).wrB (CK_GATE_STAT_QUIESCE_BIT 9) false)
     let b : Fin 12 := 9
     s.awake ∧ (s.dev.rdB (CK_GATE_EN b) = true) ∧ (s.dev.rdB (CK_GATE_STAT_QUIESCE_BIT b) = false)) ∧
    (let s : State := stD (fun d => d.wrB (CK_GATE_EN 9) false)
     let b : Fin 12 := 9
     s.awake ∧ (s.dev.rdB (CK_GATE_EN b) = false ∨ s.dev.rdB (CK_GATE_STAT_QUIESCE_BIT b) = true)) ∧
    (let s : State := stD (fun d => d.wrB (CK_GATE_STAT_QUIESCE_BIT 9) true)
     let b : Fin 12 := 9
     s.awake ∧ (s.dev.rdB (CK_GATE_STAT_QUIESCE_BIT b) = true)) ∧
    (let s : State := stD (fun d => d.wrB (CK_GATE_STAT_QUIESCE_BIT 9) true)
     let b : Fin 12 := 9
     let x : AccessObs := ⟨0x20090000, 2, true⟩
     s.awake ∧ (s.dev.rdB (CK_GATE_STAT_QUIESCE_BIT b) = true)) := by
  decide +kernel

/-- The hypotheses of GatesAndClockOutput are met, clause by clause. -/
theorem witness_GatesAndClockOutput_2 :
    (let s : State := stD (fun d => d.wrB (CK_GATE_STAT_QUIESCE_BIT 9) false)
     let b : Fin 12 := 9
     let x : Option AccessObs := none
     s.awake ∧ (s.dev.rdB (CK_GATE_STAT_QUIESCE_BIT b) = false)) ∧
    (let s : State := State.reset
     let v : BitVec 32 := 0x5000B
     s.awake) ∧
    (let s : State := State.reset
     let v : BitVec 32 := 0x503
     s.awake) := by
  decide +kernel

/-- The hypotheses of ResetsAndPower are met, clause by clause. -/
theorem witness_ResetsAndPower :
    (let s : State := State.reset
     Tab.wf resetWord 0 s.dev.regs = true) ∧
    (let s : State := State.reset
     let q : BitVec 2 := 2
     s.dev.pins.resetN = false ∨ s.dev.start.step = 1) ∧
    (let s : State := stD (IN15 4)
     let q : BitVec 2 := 2
     (s.dev.pins.resetN = true) ∧ (s.dev.start.step ≠ 1)) ∧
    (let s : State := stD (fun d => { IN15 9 d with fc := { d.fc with l4 := some 5, l4Bolts := 2 } })
     let b : Bool := false
     s.awake ∧ (s.dev.fc.l4.isSome = true) ∧ (2 ≤ s.dev.fc.l4Bolts ∨ (b = true ∧ s.dev.boundaries = false))) ∧
    (let s : State := State.reset
     let b : Bool := false
     s.awake ∧ (s.dev.fc.l4 = none ∨ (s.dev.fc.l4Bolts < 2 ∧ b = false))) ∧
    (let s : State := stD (fun d => nvProg 0 (hdrBytes { HDR15 with st := (slPending, slEmpty) }) ((IN15 4 d).wrB NV_STATUS_NO_IMAGE true))
     s.awake ∧ (s.dev.rdB NV_STATUS_NO_IMAGE = true) ∧ (s.dev.hdr.st.1 = slPending ∨ s.dev.hdr.st.2 = slPending) ∧
       (s.dev.hdrNow.isSome = true)) := by
  decide +kernel

/-- The hypotheses of ResetsAndPower are met, clause by clause. -/
theorem witness_ResetsAndPower_2 :
    (let s : State := stD (fun d => d.wrB NV_STATUS_NO_IMAGE false)
     s.awake ∧ (s.dev.rdB NV_STATUS_NO_IMAGE = false)) := by
  decide +kernel

/-- The hypotheses of StartUpSteps are met, clause by clause. -/
theorem witness_StartUpSteps :
    (let s : State := stD (IN15 3)
     let x : BitVec 8 × BitVec 8 := (1, 2)
     let b : Bool := true
     s.awake ∧ (s.dev.start.step = 3) ∧ (s.dev.start.dead = false)) ∧
    (let s : State := stD (fun d => (IN15 3 d).wr FC_L4_COUNT 3)
     let b : Bool := true
     s.awake ∧ (s.dev.start.step = 3) ∧ (s.dev.start.dead = false) ∧ (s.dev.rd FC_L4_COUNT = 3)) ∧
    (let s : State := stD (fun d => (IN15 3 d).wr FC_L4_COUNT 0)
     s.awake ∧ (s.dev.start.step = 3) ∧ (s.dev.start.dead = false) ∧ (s.dev.rd FC_L4_COUNT ≠ 3)) ∧
    (let s : State := stD (fun d => (IN15 3 d).wr FC_L4_COUNT 0)
     s.awake ∧ (s.dev.start.step = 3) ∧ (s.dev.start.dead = false) ∧ (s.dev.rd FC_L4_COUNT ≠ 3)) ∧
    (let s : State := State.reset
     let x : Option (BitVec 8 × BitVec 8) := none
     let b : Bool := true
     s.awake ∧ (s.dev.start.step ≠ 3 ∨ s.dev.start.dead = true)) ∧
    (let s : State := stD (IN15 4)
     let oa : SigObs := ⟨5, true⟩
     let ob : SigObs := ⟨5, true⟩
     let y : SfdpObs := ⟨false, true, 6, 25⟩
     s.awake ∧ (s.dev.start.step = 4) ∧ (s.dev.start.dead = false) ∧ (s.dev.rdB NV_STATUS_NO_IMAGE = false) ∧ (y.ok =
       false)) := by
  decide +kernel

/-- The hypotheses of StartUpSteps are met, clause by clause. -/
theorem witness_StartUpSteps_2 :
    (let s : State := BOOT15 ROOT13
     let oa : SigObs := ⟨5, true⟩
     let ob : SigObs := ⟨5, true⟩
     let y : SfdpObs := SFDP15
     let b : Bool := false
     let n : Nat := slActive
     let l : List (Bool × Nat) := []
     let h : Nat × Hdr := (0, HDR15)
     s.awake ∧ (s.dev.start.step = 4) ∧ (s.dev.start.dead = false) ∧ (s.dev.rdB NV_STATUS_NO_IMAGE = false) ∧ (y.ok =
       true) ∧ (s.dev.tryOrder = (b, n) :: l) ∧ (s.dev.hdrNow = some h) ∧ (s.dev.imgFails s.fuses b (pick2 b h.2.len)
       (if b = true then ob else oa) true = none) ∧ ((s.dev.sections b).all (·.1 ≠ 1) = true)) ∧
    (let s : State := BOOT15 State.reset.fuses
     let oa : SigObs := ⟨5, true⟩
     let ob : SigObs := ⟨5, true⟩
     let y : SfdpObs := SFDP15
     s.awake ∧ (s.dev.start.step = 4) ∧ (s.dev.start.dead = false) ∧ (s.dev.rdB NV_STATUS_NO_IMAGE = false) ∧ (y.ok =
       true) ∧ (s.dev.tryOrder.all (fun x => (s.dev.imgFails s.fuses x.1 (pick2 x.1 s.dev.hdr.len) (if x.1 = true then
       ob else oa) true).isSome) = true) ∧ (s.dev.hdrNow.isSome = true)) ∧
    (let s : State := State.reset
     let oa : SigObs := ⟨5, true⟩
     let ob : SigObs := ⟨5, true⟩
     let y : SfdpObs := SFDP15
     s.awake ∧ (s.dev.start.step ≠ 4)) ∧
    (let s : State := stD (fun d => d.wrB JZ_CONFIG_CONFIG_LOCK false)
     s.awake ∧ (s.dev.locked = false)) ∧
    (let s : State := stD (fun d => d.wrB JZ_CONFIG_CONFIG_LOCK true)
     s.awake ∧ (s.dev.locked = true)) := by
  decide +kernel

/-- The hypotheses of StartUpSteps are met, clause by clause. -/
theorem witness_StartUpSteps_3 :
    (let s : State := stD (IN15 7)
     s.awake ∧ (s.dev.start.step = 7) ∧ (s.dev.start.begun = false) ∧ (s.dev.start.dead = false) ∧ (s.dev.time.count %
       1000 = 0) ∧ (s.dev.start.since < s.dev.time.nb) ∧ (s.dev.boundaries = true) ∧ (s.dev.selState = selRun) ∧
       (s.dev.stopped = false)) ∧
    (let s : State := State.reset
     s.awake ∧ (s.dev.start.step ≠ 7)) ∧
    (let s : State := stD (BRING15)
     let f : Fin 96 := 3
     s.awake ∧ (s.dev.toBring.contains f.val = true) ∧ ((s.dev.stressOf f).phase = 7) ∧ ((s.dev.stressOf f).result = 1)
       ∧ (s.dev.linksUp f = true) ∧ (s.dev.boundaries = true) ∧ (s.dev.stopped = false) ∧ (s.dev.selStop = false) ∧
       (s.dev.start.step = 8 ∨ s.dev.start.step = 9)) ∧
    (let s : State := stD (IN15 7)
     let f : Fin 96 := 4
     s.awake ∧ (s.dev.toBring.contains f.val = false)) := by
  decide +kernel

/-- The hypotheses of StartUpSteps are met, clause by clause. -/
theorem witness_StartUpSteps_4 :
    (let s : State := stD (fun d => { IN15 9 d with fc := { d.fc with l4 := none } })
     s.awake ∧ (s.dev.mayReady = true) ∧ (s.dev.start.step = 9)) ∧
    (let s : State := stD (fun d => { IN15 8 d with start := ⟨8, 5, true, true, false⟩ })
     s.awake ∧ (s.dev.mayReady = true) ∧ (s.dev.start.step = 8) ∧ (s.dev.mg.lc ≠ .field)) ∧
    (let s : State := stD (fun d => { IN15 8 d with start := ⟨8, 5, true, true, false⟩, mg := { d.mg with lc := .field } })
     s.awake ∧ (s.dev.mayReady = true) ∧ (s.dev.start.step = 8) ∧ (s.dev.mg.lc = .field)) ∧
    (let s : State := State.reset
     s.awake ∧ (s.dev.mayReady = false)) ∧
    (let s : State := stD (IN15 4 ∘ fun d => d.wr BT_IMG_ADDR_WORD 7)
     let w : BitVec 32 := 0x12345678
     let a : Nat := slotBase false + 28
     s.awake ∧ (s.dev.mg.lc ≠ .field) ∧ (a = slotBase s.dev.inactive + 4 * s.dev.rd BT_IMG_ADDR_WORD)) ∧
    (let s : State := stD (fun d => { d with mg := { d.mg with lc := .field } })
     let w : BitVec 32 := 5
     s.awake ∧ (s.dev.mg.lc = .field)) := by
  decide +kernel

/-- The hypotheses of StartUpSteps are met, clause by clause. -/
theorem witness_StartUpSteps_5 :
    (let s : State := LOAD15
     s.awake ∧ (s.dev.mg.lc ≠ .field) ∧ (s.dev.start.dead = false) ∧ (s.dev.start.step = 4) ∧ (s.dev.imgFails s.fuses
       s.dev.inactive (if s.dev.hdrNow.isSome = true then pick2 s.dev.inactive s.dev.hdr.len else 0x800000) ⟨0, true⟩
       false = none) ∧ ((s.dev.sections s.dev.inactive).all (·.1 ≠ 1) = true)) ∧
    (let s : State := State.reset
     s.awake ∧ (s.dev.mg.lc = .field ∨ s.dev.start.dead = true ∨ s.dev.start.step ≠ 4)) := by
  decide +kernel

/-- The hypotheses of SlicesRun are met, clause by clause. -/
theorem witness_SlicesRun :
    (let s : State := stD (SRV16)
     let w : BitVec 32 := 0x40310
     let b : Bool := false
     s.awake ∧ ((s.dev.rdB BT_STATUS_TAP && !b) = false) ∧ (b = false ∨ s.dev.mg.lc ≠ .field) ∧ (s.dev.sliceMay (bitsOf
       w.toNat 0 8) (bitsOf w.toNat 8 7) (bitsOf w.toNat 16 6) = true) ∧ (isPatchSlice (bitsOf w.toNat 0 8) = true)) ∧
    (let s : State := stD (SRV16)
     let w : BitVec 32 := 0x40302
     let b : Bool := false
     s.awake ∧ ((s.dev.rdB BT_STATUS_TAP && !b) = false) ∧ (b = false ∨ s.dev.mg.lc ≠ .field) ∧ (s.dev.sliceMay (bitsOf
       w.toNat 0 8) (bitsOf w.toNat 8 7) (bitsOf w.toNat 16 6) = true) ∧ (isPatchSlice (bitsOf w.toNat 0 8) = false) ∧
       ((bitsOf w.toNat 0 8) ≠ 1) ∧ ((bitsOf w.toNat 0 8) ≠ 0x40) ∧ ((bitsOf w.toNat 0 8) ≠ 0x20) ∧ (s.dev.stopped =
       false) ∧ (s.dev.test.slices = [])) ∧
    (let s : State := stD (SRV16)
     let w : BitVec 32 := 0x40320
     let b : Bool := false
     s.awake ∧ ((s.dev.rdB BT_STATUS_TAP && !b) = false) ∧ (b = false ∨ s.dev.mg.lc ≠ .field) ∧ (s.dev.sliceMay (bitsOf
       w.toNat 0 8) (bitsOf w.toNat 8 7) (bitsOf w.toNat 16 6) = true) ∧ ((bitsOf w.toNat 0 8) = 0x20) ∧ (s.dev.stopped
       = false) ∧ (s.dev.test.slices = [])) := by
  decide +kernel

/-- The hypotheses of SlicesRun are met, clause by clause. -/
theorem witness_SlicesRun_2 :
    (let s : State := stD (fun d => (SRV16 d).updFd 3 fun x => { x with up := false })
     let w : BitVec 32 := 0x340
     let b : Bool := false
     s.awake ∧ ((s.dev.rdB BT_STATUS_TAP && !b) = false) ∧ (b = false ∨ s.dev.mg.lc ≠ .field) ∧ (s.dev.sliceMay (bitsOf
       w.toNat 0 8) (bitsOf w.toNat 8 7) (bitsOf w.toNat 16 6) = true) ∧ ((bitsOf w.toNat 0 8) = 0x40) ∧
       (s.dev.inService (bitsOf w.toNat 8 7) = false)) ∧
    (let s : State := stD (SRV16)
     let w : BitVec 32 := 0x340
     let b : Bool := false
     s.awake ∧ ((s.dev.rdB BT_STATUS_TAP && !b) = false) ∧ (b = false ∨ s.dev.mg.lc ≠ .field) ∧ (s.dev.sliceMay (bitsOf
       w.toNat 0 8) (bitsOf w.toNat 8 7) (bitsOf w.toNat 16 6) = true) ∧ ((bitsOf w.toNat 0 8) = 0x40) ∧
       (s.dev.inService (bitsOf w.toNat 8 7) = true)) ∧
    (let s : State := stD (SRV16)
     let w : BitVec 32 := 0x405
     let b : Bool := false
     s.awake ∧ (s.dev.sliceMay (bitsOf w.toNat 0 8) (bitsOf w.toNat 8 7) (bitsOf w.toNat 16 6) = false)) ∧
    (let s : State := stD (inTest fun t => { t with slices := [SL16 0x10 false] })
     let f : BitVec 7 := 3
     let x : Slice := SL16 0x10 false
     s.awake ∧ (s.dev.test.slices = [x]) ∧ (x.field = f.toNat) ∧ (x.run = false) ∧ (s.dev.regionFree x = true) ∧
       (isPatchSlice x.id = true) ∧ (x.id ≠ 0x19) ∧ (x.id ≠ 0x1F)) ∧
    (let s : State := stD (inTest fun t => { t with slices := [SL16 0x10 true] })
     let f : BitVec 7 := 3
     s.awake ∧ (∀ x ∈ s.dev.test.slices, x.field = f.toNat → x.run = true ∨ s.dev.regionFree x = false)) := by
  decide +kernel

/-- The hypotheses of SlicesRun are met, clause by clause. -/
theorem witness_SlicesRun_3 :
    (let s : State := stD (inTest fun t => { t with slices := [SL16 0x10 false] })
     let f : BitVec 7 := 3
     let x : Slice := SL16 0x10 false
     s.awake ∧ (s.dev.test.slices = [x]) ∧ (x.field = f.toNat) ∧ (x.run = false) ∧ (s.dev.expired x.at_ (1000 * orDef
       (s.dev.rd BT_CFG0_REGION_WAIT) 1) = true)) ∧
    (let s : State := stD (inTest fun t => { t with slices := [SL16 0x10 true] })
     let f : BitVec 7 := 3
     s.awake ∧ (∀ x ∈ s.dev.test.slices, x.field = f.toNat → x.run = true ∨ s.dev.expired x.at_ (1000 * orDef (s.dev.rd
       BT_CFG0_REGION_WAIT) 1) = false)) ∧
    (let s : State := stD (inTest fun t => { t with slices := [SL16 0x20 true] })
     let f : BitVec 7 := 3
     let x : Slice := SL16 0x20 true
     s.awake ∧ (s.dev.test.slices = [x]) ∧ (x.field = f.toNat) ∧ (x.run = true) ∧ (s.dev.expired x.at_ x.budget = true)
       ∧ (s.dev.rp.assaying = none) ∧ (isPatchSlice x.id = false)) ∧
    (let s : State := stD (inTest fun t => { t with slices := [SL16 0x10 true] })
     let f : BitVec 7 := 3
     let x : Slice := SL16 0x10 true
     s.awake ∧ (s.dev.test.slices = [x]) ∧ (x.field = f.toNat) ∧ (x.run = true) ∧ (s.dev.expired x.at_ x.budget = true)
       ∧ (s.dev.rp.assaying = none) ∧ (isPatchSlice x.id = true) ∧ (x.saved = [])) ∧
    (let s : State := stD (inTest fun t => { t with slices := [SL16 0x10 false] })
     let f : BitVec 7 := 3
     s.awake ∧ (∀ x ∈ s.dev.test.slices, x.field = f.toNat → x.run = false ∨ s.dev.expired x.at_ x.budget = false)) := by
  decide +kernel

/-- The hypotheses of SlicesRun are met, clause by clause. -/
theorem witness_SlicesRun_4 :
    (let s : State := stD (inTest fun t => { t with slices := [SL16 0x20 true] })
     let f : BitVec 7 := 3
     let x : Slice := SL16 0x20 true
     s.awake ∧ (s.dev.test.slices = [x]) ∧ (x.field = f.toNat) ∧ (x.run = true) ∧ (isPatchSlice x.id = false)) ∧
    (let s : State := stD (inTest fun t => { t with slices := [SL16 0x20 true] })
     let f : BitVec 7 := 3
     let x : Slice := SL16 0x20 true
     let c : BitVec 4 := 5
     s.awake ∧ (s.dev.test.slices = [x]) ∧ (x.field = f.toNat) ∧ (x.run = true) ∧ (x.id = 0x20)) ∧
    (let s : State := stD (inTest fun t => { t with slices := [SL16 0x10 true] })
     let f : BitVec 7 := 3
     let x : Slice := SL16 0x10 true
     let l : List (BitVec 16) := []
     let b : Bool := false
     let c : Nat := 0
     s.awake ∧ (s.dev.test.slices = [x]) ∧ (x.field = f.toNat) ∧ (x.run = true) ∧ (x.id = 0x10) ∧ (x.saved = []) ∧
       (x.field < 96) ∧ (x.patch < 36) ∧ (clockFail l b = some c) ∧ (s.dev.retired x.field x.patch = false)) ∧
    (let s : State := stD (inTest fun t => { t with slices := [SL16 0x10 false] })
     let f : BitVec 7 := 3
     let o : List SliceObs := []
     s.awake ∧ (∀ x ∈ s.dev.test.slices, x.field = f.toNat → x.run = false)) := by
  decide +kernel

/-- The hypotheses of SlicesRun are met, clause by clause. -/
theorem witness_SlicesRun_5 :
    (let s : State := stD (inTest fun t => { t with slices := [SL16 0x20 true] })
     let f : BitVec 7 := 3
     let x : Slice := SL16 0x20 true
     s.awake ∧ (s.dev.test.slices = [x]) ∧ (x.field = f.toNat) ∧ (s.dev.rp.assaying = none) ∧ (isPatchSlice x.id =
       false)) ∧
    (let s : State := stD (SRV16)
     let f : BitVec 7 := 3
     s.awake ∧ (s.dev.test.slices = []) ∧ (s.dev.rp.assaying = none) ∧ (s.dev.inStress f.toNat = false ∨ (s.dev.stressOf
       f.toNat).retest = false)) := by
  decide +kernel

/-- The hypotheses of StressTestsAndAssays are met, clause by clause. -/
theorem witness_StressTestsAndAssays :
    (let s : State := stD (inStr (STR16 1))
     let f : Fin 96 := 3
     let o : PhaseObs := ⟨none, [], [], []⟩
     s.awake ∧ (s.dev.stopped = false) ∧ ((s.dev.stressOf f).failed = false) ∧ (s.dev.stressOver f = false) ∧
       ((s.dev.stressOf f).phase = 1) ∧ (o.engine = none) ∧ (o.links = []) ∧ (o.patches = [])) ∧
    (let s : State := stD (fun d => forN 4 (fun k d => d.wr (ST_LINK_STATUS_STATE 3 k) 1) (inStr (STR16 2) d))
     let f : Fin 96 := 3
     let o : PhaseObs := ⟨none, [], [], []⟩
     s.awake ∧ (s.dev.stopped = false) ∧ ((s.dev.stressOf f).failed = false) ∧ (s.dev.stressOver f = false) ∧
       ((s.dev.stressOf f).phase = 2) ∧ (s.dev.linksUp f = true)) ∧
    (let s : State := stD (inStr (STR16 3))
     let f : Fin 96 := 3
     let o : PhaseObs := ⟨none, [], [], []⟩
     s.awake ∧ (s.dev.stopped = false) ∧ ((s.dev.stressOf f).failed = false) ∧ (s.dev.stressOver f = false) ∧
       ((s.dev.stressOf f).phase = 3) ∧ (o.points = [])) := by
  decide +kernel

/-- The hypotheses of StressTestsAndAssays are met, clause by clause. -/
theorem witness_StressTestsAndAssays_2 :
    (let s : State := stD (fun d => (inStr (STR16 4) d).wr JZ_SEL_LIMITS_T_CTRL 0)
     let f : Fin 96 := 3
     let o : PhaseObs := ⟨none, [], [], []⟩
     s.awake ∧ (s.dev.stopped = false) ∧ ((s.dev.stressOf f).failed = false) ∧ (s.dev.stressOver f = false) ∧
       ((s.dev.stressOf f).phase = 4) ∧ (s.dev.heated f = true)) ∧
    (let s : State := stD (inStr (STR16 5))
     let f : Fin 96 := 3
     let o : PhaseObs := ⟨none, [], [], []⟩
     s.awake ∧ (s.dev.stopped = false) ∧ ((s.dev.stressOf f).failed = false) ∧ (s.dev.stressOver f = false) ∧
       ((s.dev.stressOf f).phase = 5) ∧ (o.points = [])) ∧
    (let s : State := stD (inStr { STR16 1 with phaseAt := 0 })
     let f : Fin 96 := 3
     let o : PhaseObs := ⟨none, [], [], []⟩
     s.awake ∧ (s.dev.stopped = false) ∧ (s.dev.inStress f = true) ∧ ((s.dev.stressOf f).failed = false) ∧
       (s.dev.stressOver f = true)) ∧
    (let s : State := stD (SRV16)
     let f : Fin 96 := 3
     let o : PhaseObs := ⟨none, [], [], []⟩
     s.awake ∧ (s.dev.inStress f = false ∨ (s.dev.stressOf f).failed = true)) ∧
    (let s : State := stD (fun d => (inStr { STR16 4 with phaseAt := 0 } d).wr BT_CFG2_HEAT_LIMIT 3)
     let f : Fin 96 := 3
     s.awake ∧ (s.dev.stopped = false) ∧ ((s.dev.stressOf f).phase = 4) ∧ ((s.dev.stressOf f).failed = false) ∧
       (s.dev.expired (s.dev.stressOf f).phaseAt (1000 * s.dev.rd BT_CFG2_HEAT_LIMIT) = true)) := by
  decide +kernel

/-- The hypotheses of StressTestsAndAssays are met, clause by clause. -/
theorem witness_StressTestsAndAssays_3 :
    (let s : State := stD (SRV16)
     let f : Fin 96 := 3
     s.awake ∧ ((s.dev.stressOf f).phase ≠ 4)) ∧
    (let s : State := stD (inStr (STR16 6))
     let f : Fin 96 := 3
     s.awake ∧ (s.dev.start.step ≠ 7) ∧ (s.dev.stopped = false) ∧ ((s.dev.stressOf f).failed = false) ∧
       (s.dev.stressOver f = false) ∧ ((s.dev.stressOf f).phase = 6) ∧ (∀ p : Fin 36, (s.dev.marg f p).next = none)) ∧
    (let s : State := stD (inStr { STR16 6 with failed := true })
     let f : Fin 96 := 3
     s.awake ∧ (s.dev.start.step ≠ 7) ∧ (s.dev.stopped = false) ∧ (s.dev.inStress f = true) ∧ ((s.dev.stressOf f).failed
       = true) ∧ (s.dev.expired (s.dev.stressOf f).from_ 20000000 = false)) ∧
    (let s : State := stD (fun d => { inStr (STR16 6) d with start := ⟨7, 5, true, false, false⟩ })
     let f : Fin 96 := 3
     s.awake ∧ (s.dev.start.step = 7) ∧ (s.dev.start.begun = true) ∧ (s.dev.enabled.contains f.val = true) ∧
       (s.dev.stopped = false) ∧ ((s.dev.stressOf f).failed = false) ∧ (s.dev.stressOver f = false) ∧ ((s.dev.stressOf
       f).phase = 6)) := by
  decide +kernel

/-- The hypotheses of StressTestsAndAssays are met, clause by clause. -/
theorem witness_StressTestsAndAssays_4 :
    (let s : State := stD (SRV16)
     let f : Fin 96 := 3
     s.awake ∧ (s.dev.start.step ≠ 7) ∧ (s.dev.inStress f = false)) ∧
    (let s : State := stD (SRV16)
     let who : Fin 9 := 8
     let f : BitVec 7 := 3
     let p : BitVec 6 := 4
     s.awake ∧ (f.toNat ∈ s.dev.fieldsOf who) ∧ (p.toNat < 36) ∧ (s.dev.retired f.toNat p.toNat = false) ∧
       (s.dev.rp.assays.length < 8)) ∧
    (let s : State := stD (SRV16)
     let who : Fin 9 := 8
     let f : BitVec 7 := 3
     let p : BitVec 6 := 36
     s.awake ∧ (f.toNat ∉ s.dev.fieldsOf who ∨ 36 ≤ p.toNat ∨ s.dev.retired f.toNat p.toNat = true ∨ 8 ≤
       s.dev.rp.assays.length)) ∧
    (let s : State := stD (fun d => (SRV16 d).updRp fun r => { r with assays := [(3, 4)] })
     let a : Assay := ⟨3, 4, true, none⟩
     s.awake ∧ (s.dev.stopped = false) ∧ (s.dev.rp.assaying = none) ∧ (s.dev.nextAssay = some a) ∧ (s.dev.patchServes
       a.field a.patch = true) ∧ (s.dev.openSteps a.field a.patch = []) ∧ (s.dev.test.slices = []) ∧ (s.dev.holder
       a.field a.patch = none) ∧ (s.dev.replayHeld a.field a.patch = false)) ∧
    (let s : State := stD (fun d => ((SRV16 d).wrB (ST_BUD_STATUS_HELDc 3 7) true).updRp fun r => { r with assays := [(3, 4)], verdictAssays := [] })
     let a : Assay := ⟨3, 4, true, none⟩
     s.awake ∧ (s.dev.nextAssay = some a) ∧ (s.dev.replayHeld a.field a.patch = true)) ∧
    (let s : State := stD (SRV16)
     s.awake ∧ (s.dev.stopped = true ∨ s.dev.rp.assaying.isSome = true ∨ s.dev.nextAssay = none)) := by
  decide +kernel

/-- The hypotheses of StressTestsAndAssays are met, clause by clause. -/
theorem witness_StressTestsAndAssays_5 :
    (let s : State := stD (fun d => ((SRV16 d).wr (ST_OP_PATCH_STATE 3 4) 3).updRp fun r => { r with assays := [(3, 4)], verdictAssays := [] })
     let a : Assay := ⟨3, 4, true, none⟩
     s.awake ∧ (s.dev.stopped = false) ∧ (s.dev.rp.assaying = none) ∧ (s.dev.nextAssay = some a) ∧ (s.dev.patchServes
       a.field a.patch = false) ∧ (s.dev.test.slices = []) ∧ (a.rel = none) ∧ (a.asked = true) ∧ (s.dev.replayHeld
       a.field a.patch = false)) ∧
    (let s : State := stD (fun d => (inTest (fun t => { t with slices := [{ SL16 0x1F true with go := true }] }) d).updRp fun r => { r with assaying := some ⟨3, 4, true, none⟩ })
     let a : Assay := ⟨3, 4, true, none⟩
     let x : Slice := { SL16 0x1F true with go := true }
     s.awake ∧ (s.dev.rp.assaying = some a) ∧ (s.dev.test.slices = [x]) ∧ (x.field = a.field) ∧ (x.patch = a.patch) ∧
       (x.id = 0x1F) ∧ (x.run = true) ∧ (x.go = true) ∧ (x.saved = []) ∧ (a.asked = true) ∧ (a.rel = none)) ∧
    (let s : State := State.reset
     let o : List SliceObs := []
     s.awake ∧ (s.dev.rp.assaying = none)) := by
  decide +kernel

/-- The hypotheses of RecordsAreKept are met, clause by clause. -/
theorem witness_RecordsAreKept :
    (let s : State := stD (fun d => inFC (fun f => { f with raised := [{ Dev.init.report .elec 4 central 4 with cls := 2 }] }) ((inTime (fun t => { t with count := 7000, nb := 900 }) d)))
     let q : BitVec 12 := 9
     let r : Report := { Dev.init.report .elec 4 central 4 with cls := 2 }
     let x : Rec := ⟨2, 4, 0, false, false, central, 4, 0, 0, none, 7000 * 4096 + 9⟩
     s.awake ∧ (firstReport s.dev.fc.raised = some r) ∧ (x = ⟨r.cls, r.typ, s.dev.levelOf r.cls r.typ, r.forced,
       s.dev.hNow, r.field, r.index, r.sub, r.value, r.job, s.dev.stamp q.toNat⟩) ∧ (r.cls < 6) ∧ (s.dev.levelOf r.cls
       r.typ = 0) ∧ (s.dev.fcLevel r.cls < 3)) ∧
    (let s : State := stD (fun d => inFC (fun f => { f with raised := [{ Dev.init.report .elec 5 central 4 with cls := 2 }] }) ((inTime (fun t => { t with count := 7000, nb := 900 }) d)))
     let q : BitVec 12 := 9
     let r : Report := { Dev.init.report .elec 5 central 4 with cls := 2 }
     let x : Rec := ⟨2, 5, 1, false, false, central, 4, 0, 0, none, 7000 * 4096 + 9⟩
     s.awake ∧ (firstReport s.dev.fc.raised = some r) ∧ (x = ⟨r.cls, r.typ, s.dev.levelOf r.cls r.typ, r.forced,
       s.dev.hNow, r.field, r.index, r.sub, r.value, r.job, s.dev.stamp q.toNat⟩) ∧ (r.cls < 6) ∧ (s.dev.levelOf r.cls
       r.typ = 1) ∧ (s.dev.fcActive r.cls = false)) ∧
    (let s : State := stD (fun d => inFC (fun f => { f with raised := [{ Dev.init.report .elec 1 central 4 with cls := 1 }] }) ((inTime (fun t => { t with count := 7000, nb := 900 }) d)))
     let q : BitVec 12 := 9
     let r : Report := { Dev.init.report .elec 1 central 4 with cls := 1 }
     let x : Rec := ⟨1, 1, 2, false, false, central, 4, 0, 0, none, 7000 * 4096 + 9⟩
     s.awake ∧ (firstReport s.dev.fc.raised = some r) ∧ (x = ⟨r.cls, r.typ, s.dev.levelOf r.cls r.typ, r.forced,
       s.dev.hNow, r.field, r.index, r.sub, r.value, r.job, s.dev.stamp q.toNat⟩) ∧ (r.cls < 6) ∧ (s.dev.levelOf r.cls
       r.typ = 2) ∧ (s.dev.fcActive r.cls = false)) := by
  decide +kernel

/-- The hypotheses of RecordsAreKept are met, clause by clause. -/
theorem witness_RecordsAreKept_2 :
    (let s : State := stD (fun d => inFC (fun f => { f with raised := [{ Dev.init.report .elec 5 central 4 with cls := 2 }], cls := [(2, ⟨some 700, true, [], false, none⟩)] }) ((((inTime (fun t => { t with count := 7000, nb := 900 }) d)).wr (FC_STATE_LEVEL 2) 2).wrB (FC_STATE_ACKED 2) false))
     let q : BitVec 12 := 9
     let r : Report := { Dev.init.report .elec 5 central 4 with cls := 2 }
     let x : Rec := ⟨2, 5, 1, false, false, central, 4, 0, 0, none, 7000 * 4096 + 9⟩
     s.awake ∧ (firstReport s.dev.fc.raised = some r) ∧ (x = ⟨r.cls, r.typ, s.dev.levelOf r.cls r.typ, r.forced,
       s.dev.hNow, r.field, r.index, r.sub, r.value, r.job, s.dev.stamp q.toNat⟩) ∧ (r.cls < 6) ∧ (s.dev.levelOf r.cls
       r.typ = 1) ∧ (s.dev.fcActive r.cls = true) ∧ (s.dev.fcLevel r.cls < 3) ∧ ((s.dev.fcls r.cls).joining = true)) ∧
    (let s : State := stD (fun d => inFC (fun f => { f with raised := [{ Dev.init.report .elec 5 central 4 with cls := 2 }], cls := [(2, ⟨some 700, false, [], false, none⟩)] }) ((((inTime (fun t => { t with count := 7000, nb := 900 }) d)).wr (FC_STATE_LEVEL 2) 1).wrB (FC_STATE_ACKED 2) false))
     let q : BitVec 12 := 9
     let r : Report := { Dev.init.report .elec 5 central 4 with cls := 2 }
     let x : Rec := ⟨2, 5, 1, false, false, central, 4, 0, 0, none, 7000 * 4096 + 9⟩
     s.awake ∧ (firstReport s.dev.fc.raised = some r) ∧ (x = ⟨r.cls, r.typ, s.dev.levelOf r.cls r.typ, r.forced,
       s.dev.hNow, r.field, r.index, r.sub, r.value, r.job, s.dev.stamp q.toNat⟩) ∧ (r.cls < 6) ∧ (s.dev.levelOf r.cls
       r.typ = 1) ∧ (s.dev.fcActive r.cls = true) ∧ (s.dev.fcLevel r.cls = 1) ∧ ((s.dev.fcls r.cls).joining = false)) := by
  decide +kernel

/-- The hypotheses of RecordsAreKept are met, clause by clause. -/
theorem witness_RecordsAreKept_3 :
    (let s : State := stD (fun d => inFC (fun f => { f with raised := [{ Dev.init.report .elec 2 3 4 with cls := 0 }], cls := [(0, ⟨some 700, false, [], false, none⟩)] }) ((((inTime (fun t => { t with count := 7000, nb := 900 }) d)).wr (FC_STATE_LEVEL 0) 2).wrB (FC_STATE_ACKED 0) false))
     let q : BitVec 12 := 9
     let r : Report := { Dev.init.report .elec 2 3 4 with cls := 0 }
     let x : Rec := ⟨0, 2, 1, false, false, 3, 4, 0, 0, none, 7000 * 4096 + 9⟩
     s.awake ∧ (firstReport s.dev.fc.raised = some r) ∧ (x = ⟨r.cls, r.typ, s.dev.levelOf r.cls r.typ, r.forced,
       s.dev.hNow, r.field, r.index, r.sub, r.value, r.job, s.dev.stamp q.toNat⟩) ∧ (r.cls < 12) ∧ (s.dev.levelOf r.cls
       r.typ = 1) ∧ (s.dev.fcActive r.cls = true) ∧ (s.dev.fcLevel r.cls = 2) ∧ ((s.dev.fcls r.cls).joining = false) ∧
       ((s.dev.fcls r.cls).central = false) ∧ (r.field < 96)) ∧
    (let s : State := stD (fun d => inFC (fun f => { f with raised := [{ Dev.init.report .elec 2 central 4 with cls := 7 }] }) ((inTime (fun t => { t with count := 7000, nb := 900 }) d)))
     let q : BitVec 12 := 9
     let r : Report := { Dev.init.report .elec 2 central 4 with cls := 7 }
     let x : Rec := ⟨7, 2, 4, false, false, central, 4, 0, 0, none, 7000 * 4096 + 9⟩
     s.awake ∧ (firstReport s.dev.fc.raised = some r) ∧ (x = ⟨r.cls, r.typ, s.dev.levelOf r.cls r.typ, r.forced,
       s.dev.hNow, r.field, r.index, r.sub, r.value, r.job, s.dev.stamp q.toNat⟩) ∧ (r.cls < 12) ∧ (s.dev.levelOf r.cls
       r.typ = 4) ∧ (s.dev.fcActive r.cls = false) ∧ (s.dev.fc.l4 = none)) := by
  decide +kernel

/-- The hypotheses of RecordsAreKept are met, clause by clause. -/
theorem witness_RecordsAreKept_4 :
    (let s : State := stD (fun d => inFC (fun f => { f with raised := [{ Dev.init.report .elec 1 central 4 with cls := 7 }] }) ((inTime (fun t => { t with count := 7000, nb := 900 }) d)))
     let q : BitVec 12 := 9
     let r : Report := { Dev.init.report .elec 1 central 4 with cls := 7 }
     let x : Rec := ⟨7, 1, 0, false, false, central, 4, 0, 0, none, 7000 * 4096 + 9⟩
     s.awake ∧ (firstReport s.dev.fc.raised = some r) ∧ (x = ⟨r.cls, r.typ, s.dev.levelOf r.cls r.typ, r.forced,
       s.dev.hNow, r.field, r.index, r.sub, r.value, r.job, s.dev.stamp q.toNat⟩) ∧ (6 ≤ r.cls) ∧ (r.cls < 12) ∧
       (s.dev.levelOf r.cls r.typ = 0) ∧ (s.dev.fcLevel r.cls < 3) ∧ (s.dev.rdB (FC_CAP_INFO_VALID (r.cls - 6)) =
       false)) ∧
    (let s : State := stD (fun d => inFC (fun f => { f with raised := [{ Dev.init.report .elec 1 central 4 with cls := 7 }] }) (((inTime (fun t => { t with count := 7000, nb := 900 }) d)).wrB (FC_CAP_INFO_VALID 1) true))
     let q : BitVec 12 := 9
     let r : Report := { Dev.init.report .elec 1 central 4 with cls := 7 }
     let x : Rec := ⟨7, 1, 0, false, false, central, 4, 0, 0, none, 7000 * 4096 + 9⟩
     s.awake ∧ (firstReport s.dev.fc.raised = some r) ∧ (x = ⟨r.cls, r.typ, s.dev.levelOf r.cls r.typ, r.forced,
       s.dev.hNow, r.field, r.index, r.sub, r.value, r.job, s.dev.stamp q.toNat⟩) ∧ (6 ≤ r.cls) ∧ (r.cls < 12) ∧
       (s.dev.levelOf r.cls r.typ = 0) ∧ (s.dev.fcLevel r.cls < 3) ∧ (s.dev.rdB (FC_CAP_INFO_VALID (r.cls - 6)) = true)) := by
  decide +kernel

/-- The hypotheses of RecordsAreKept are met, clause by clause. -/
theorem witness_RecordsAreKept_5 :
    (let s : State := stD (fun d => inFC (fun f => { f with raised := [{ Dev.init.report .elec 1 central 4 with cls := 6 }] }) (((inTime (fun t => { t with count := 7000, nb := 900 }) d)).wrB (FC_CAP_INFO_VALID 0) true))
     let q : BitVec 12 := 9
     let r : Report := { Dev.init.report .elec 1 central 4 with cls := 6 }
     let x : Rec := ⟨6, 1, 1, false, false, central, 4, 0, 0, none, 7000 * 4096 + 9⟩
     s.awake ∧ (firstReport s.dev.fc.raised = some r) ∧ (x = ⟨r.cls, r.typ, s.dev.levelOf r.cls r.typ, r.forced,
       s.dev.hNow, r.field, r.index, r.sub, r.value, r.job, s.dev.stamp q.toNat⟩) ∧ (6 ≤ r.cls) ∧ (r.cls < 12) ∧
       (s.dev.levelOf r.cls r.typ = 1) ∧ (s.dev.fcActive r.cls = false) ∧ (s.dev.rdB (FC_CAP_INFO_VALID (r.cls - 6)) =
       true) ∧ (s.dev.rd (FC_CAP_INFO_LEVEL (r.cls - 6)) = 0)) ∧
    (let s : State := State.reset
     let q : BitVec 12 := 9
     s.awake ∧ (s.dev.fc.raised = [])) := by
  decide +kernel

/-- The hypotheses of EscalationAndClears are met, clause by clause. -/
theorem witness_EscalationAndClears :
    (let s : State := stD (fun d => inFC (fun f => { f with cls := [(2, ⟨some 700, false, [3], false, some ⟨2, 5, 1, false, false, central, 4, 0, 0, none, 99⟩⟩)] }) (((((inTime (fun t => { t with count := 7000, nb := 900 }) d)).wr (FC_STATE_LEVEL 2) 1).wrB (FC_STATE_ACKED 2) false) |> inTime fun t => { t with count := 900000, nb := 900000 }))
     let c : Fin 12 := 2
     let a : Nat := 700
     let r : Rec := ⟨2, 5, 1, false, false, central, 4, 0, 0, none, 99⟩
     s.awake ∧ ((s.dev.fcls c).timer = some a) ∧ ((s.dev.fcls c).latest = some r) ∧ (s.dev.fcActive c = true) ∧
       (s.dev.expiredAll a (1000 * s.dev.levelTimer (s.dev.fcLevel c)) = true) ∧ (s.dev.fcLevel c = 1)) ∧
    (let s : State := stD (fun d => inFC (fun f => { f with cls := [(2, ⟨some 700, false, [3], false, some ⟨2, 5, 1, false, false, central, 4, 0, 0, none, 99⟩⟩)] }) (((((inTime (fun t => { t with count := 7000, nb := 900 }) d)).wr (FC_STATE_LEVEL 2) 2).wrB (FC_STATE_ACKED 2) false) |> inTime fun t => { t with count := 900000, nb := 900000 }))
     let c : Fin 12 := 2
     let a : Nat := 700
     let r : Rec := ⟨2, 5, 1, false, false, central, 4, 0, 0, none, 99⟩
     s.awake ∧ ((s.dev.fcls c).timer = some a) ∧ ((s.dev.fcls c).latest = some r) ∧ (s.dev.fcActive c = true) ∧
       (s.dev.expiredAll a (1000 * s.dev.levelTimer (s.dev.fcLevel c)) = true) ∧ (s.dev.fcLevel c = 2) ∧ ((s.dev.fcls
       c).central = false)) ∧
    (let s : State := stD (fun d => inFC (fun f => { f with cls := [(2, ⟨some 700, false, [3], true, some ⟨2, 5, 1, false, false, central, 4, 0, 0, none, 99⟩⟩)] }) (((((inTime (fun t => { t with count := 7000, nb := 900 }) d)).wr (FC_STATE_LEVEL 2) 2).wrB (FC_STATE_ACKED 2) false) |> inTime fun t => { t with count := 900000, nb := 900000 }))
     let c : Fin 12 := 2
     let a : Nat := 700
     let r : Rec := ⟨2, 5, 1, false, false, central, 4, 0, 0, none, 99⟩
     s.awake ∧ ((s.dev.fcls c).timer = some a) ∧ ((s.dev.fcls c).latest = some r) ∧ (s.dev.fcActive c = true) ∧
       (s.dev.expiredAll a (1000 * s.dev.levelTimer (s.dev.fcLevel c)) = true) ∧ (s.dev.fcLevel c = 2) ∧ ((s.dev.fcls
       c).central = true) ∧ (s.dev.fc.l4 = none)) ∧
    (let s : State := State.reset
     let c : Fin 12 := 2
     s.awake ∧ ((s.dev.fcls c).timer = none ∨ s.dev.fcActive c = false)) ∧
    (let s : State := stD (fun d => inFC (fun f => { f with cls := [(2, ⟨some 700, false, [3], false, some ⟨2, 5, 1, false, false, central, 4, 0, 0, none, 99⟩⟩)] }) (((((inTime (fun t => { t with count := 7000, nb := 900 }) d)).wr (FC_STATE_LEVEL 2) 1).wrB (FC_STATE_ACKED 2) false) |> inTime fun t => { t with count := 900000, nb := 900000 }))
     let m : BitVec 12 := 5
     s.awake) := by
  decide +kernel

/-- The hypotheses of EscalationAndClears are met, clause by clause. -/
theorem witness_EscalationAndClears_2 :
    (let s : State := stD (fun d => inFC (fun f => { f with cls := [(2, ⟨some 700, false, [3], false, some ⟨2, 5, 1, false, false, central, 4, 0, 0, none, 99⟩⟩)] }) (((((inTime (fun t => { t with count := 7000, nb := 900 }) d)).wr (FC_STATE_LEVEL 2) 1).wrB (FC_STATE_ACKED 2) false) |> inTime fun t => { t with count := 900000, nb := 900000 }))
     let m : BitVec 12 := 5
     s.awake ∧ (∃ c : Fin 12, bitOf m.toNat c = true ∧ s.dev.fcActive c = true)) ∧
    (let s : State := stD (fun d => inFC (fun f => { f with cls := [(2, ⟨some 700, false, [3], false, some ⟨2, 5, 1, false, false, central, 4, 0, 0, none, 99⟩⟩)] }) (((((inTime (fun t => { t with count := 7000, nb := 900 }) d)).wr (FC_STATE_LEVEL 2) 1).wrB (FC_STATE_ACKED 2) false) |> inTime fun t => { t with count := 900000, nb := 900000 }))
     let m : BitVec 12 := 0x82
     s.awake ∧ (∀ c : Fin 12, bitOf m.toNat c = true → s.dev.fcActive c = false)) ∧
    (let s : State := State.reset
     let w : BitVec 32 := 0x1011
     s.awake ∧ (bitOf w.toNat 12 = true) ∧ ((typeRow (bitsOf w.toNat 0 4) (bitsOf w.toNat 4 8)).isSome = true)) ∧
    (let s : State := State.reset
     let w : BitVec 32 := 0x100F
     s.awake ∧ (bitOf w.toNat 12 = true) ∧ (typeRow (bitsOf w.toNat 0 4) (bitsOf w.toNat 4 8) = none)) ∧
    (let s : State := State.reset
     let w : BitVec 32 := 0x11
     s.awake ∧ (bitOf w.toNat 12 = false)) ∧
    (let s : State := State.reset
     s.awake) := by
  decide +kernel

/-- The hypotheses of EscalationAndClears are met, clause by clause. -/
theorem witness_EscalationAndClears_3 :
    (let s : State := stD id
     s.awake ∧ s.dev.selStop = false ∧ Instr.dlv ⟨[], true⟩ ∈ [Instr.dlv ⟨[], true⟩]) ∧
    (let s : State := stD (fun d => (inFC (fun f => { f with owed := [⟨2, 7, 8⟩] }) d).wr FC_HOSTQ_QHANDLE 40)
     let h : BitVec 32 := 40
     let o : Owed := ⟨2, 7, 8⟩
     s.awake ∧ (s.dev.fc.owed = [o]) ∧ (s.dev.rd FC_HOSTQ_QHANDLE = h.toNat) ∧ (h ≠ 0)) ∧
    (let s : State := State.reset
     let h : BitVec 32 := 0
     s.awake ∧ (s.dev.rd FC_HOSTQ_QHANDLE = h.toNat)) ∧
    (let s : State := stD (inFC fun f => { f with readyBolts := 100000 })
     s.awake ∧ (100000 ≤ s.dev.fc.readyBolts)) ∧
    (let s : State := State.reset
     s.awake ∧ (s.dev.fc.readyBolts < 100000)) := by
  decide +kernel

/-- The hypotheses of OperatingHours are met, clause by clause. -/
theorem witness_OperatingHours :
    (let s : State := stD (fun d => inTime (fun t => { t with nb := 36000000 }) (RDY18 id d))
     s.awake ∧ (s.dev.boundaries = true) ∧ (s.dev.ev.hourAt + 36000000 ≤ s.dev.time.nb)) ∧
    (let s : State := stD (RDY18 id)
     s.awake ∧ (s.dev.boundaries = false ∨ s.dev.time.nb < s.dev.ev.hourAt + 36000000)) ∧
    (let s : State := stD (fun d => (RDY18 (fun e => { e with pend := [[1]] }) { d with fld := [] }).wr EV_HOURS_HOURS 200)
     s.awake ∧ (s.dev.hourEnds = true)) ∧
    (let s : State := stD (fun d => { (RDY18 (fun e => { e with pend := [[1]] }) d).wr EV_HOURS_HOURS 200 with fld := [] })
     s.awake ∧ (s.dev.hourEnds = true) ∧ (s.dev.enabled = [])) ∧
    (let s : State := stD (fun d => ((RDY18 id d).wr EV_HOURS_HOURS 200).updPt 3 4 fun x => { x with slackN := 5000, slackSum := 40000 })
     let f : Fin 96 := 3
     let p : Fin 36 := 4
     let v : Int := 8
     s.awake ∧ (s.dev.hourEnds = true) ∧ (f.val ∈ s.dev.enabled) ∧ (orDef (s.dev.rd (ST_AGE_CFG1_MIN_SAMPLES f)) 1 ≤
       (s.dev.pt f p).slackN) ∧ (nextTrend (s.dev.pt f p).trended (s.dev.rdS (ST_AGE_PATCH_TREND f p)) (divHalfAway
       (s.dev.pt f p).slackSum (s.dev.pt f p).slackN) = v) ∧ (-2 ^ 19 ≤ v) ∧ (v < 2 ^ 19)) ∧
    (let s : State := stD (fun d => (RDY18 id d).wr EV_HOURS_HOURS 200)
     let f : Fin 96 := 3
     let p : Fin 36 := 4
     s.awake ∧ (s.dev.hourEnds = true) ∧ (f.val ∈ s.dev.enabled) ∧ ((s.dev.pt f p).slackN < orDef (s.dev.rd
       (ST_AGE_CFG1_MIN_SAMPLES f)) 1)) := by
  decide +kernel

/-- The hypotheses of OperatingHours are met, clause by clause. -/
theorem witness_OperatingHours_2 :
    (let s : State := stD (RDY18 id)
     s.awake ∧ (s.dev.hourEnds = false)) := by
  decide +kernel

/-- The hypotheses of RingWritesAndScan are met, clause by clause. -/
theorem witness_RingWritesAndScan :
    (let s : State := stD (RDY18 fun e => { e with pend := [REC18, [5]], next := 70, series := [] })
     let r : List Nat := REC18
     let l : List (List Nat) := [[5]]
     s.awake ∧ (s.dev.ringReady = true) ∧ (s.dev.ev.pend = r :: l) ∧ (s.dev.repeatOf r = none) ∧ (r.length = 56) ∧ ((∀ b
       ∈ r, b < 256)) ∧ (s.dev.ev.next < 2 ^ 32) ∧ ((∀ j : Fin 64, s.dev.nvByte (slotAddr s.dev.ev.next + j) = 0xFF))) ∧
    (let s : State := stD (fun d => STORE18 (RDY18 (fun e => { e with pend := [REC18], next := 4, series := [(6 * 4096 + 127, 4)] }) d))
     let r : List Nat := REC18
     let l : List (List Nat) := []
     let m : Nat := 3
     let k : Nat := 1
     s.awake ∧ (s.dev.ringReady = true) ∧ (s.dev.ev.pend = r :: l) ∧ (s.dev.repeatOf r = some m) ∧ (isClear r = false) ∧
       (k < 32) ∧ (bytesAt (s.dev.slotBytes m) 56 4 = 2 ^ 32 - 2 ^ k)) ∧
    (let s : State := State.reset
     let n : BitVec 10 := 5
     s.awake ∧ (s.dev.ringReady = false)) ∧
    (let s : State := stD (RDY18 id)
     let n : BitVec 10 := 5
     s.awake ∧ (s.dev.ringReady = true) ∧ (s.dev.ev.pend = [])) := by
  decide +kernel

/-- The hypotheses of RingWritesAndScan are met, clause by clause. -/
theorem witness_RingWritesAndScan_2 :
    (let s : State := stD (fun d => { (RDY18 id d).wrB EV_STATUS_SCANNED false with nv.flash := [(5, 6)] })
     s.awake ∧ (7 ≤ s.dev.start.step) ∧ (s.dev.rdB EV_STATUS_SCANNED = false) ∧ (s.dev.gateOk 9 = true) ∧ (∀ c ∈
       s.dev.nv.flash, c.1 < evBase ∨ evBase + 0x800000 ≤ c.1)) ∧
    (let s : State := stD (fun d => nvProg (slotAddr 0) (([6, 0, 127, 0, 0, 0, 0, 0] ++ List.replicate 48 0) ++ leBytes 4 0xFFFFFFFE ++ leBytes 4 (crc32 ([6, 0, 127, 0, 0, 0, 0, 0] ++ List.replicate 48 0))) ((RDY18 id d).wrB EV_STATUS_SCANNED false))
     let j : Fin 2048 := 0
     let n : Nat := 0
     s.awake ∧ (7 ≤ s.dev.start.step) ∧ (s.dev.rdB EV_STATUS_SCANNED = false) ∧ (s.dev.gateOk 9 = true) ∧ (s.dev.slotSeq
       (64 * j) = some n)) ∧
    (let s : State := State.reset
     s.awake ∧ (s.dev.start.step < 7 ∨ s.dev.rdB EV_STATUS_SCANNED = true ∨ s.dev.gateOk 9 = false)) ∧
    (let s : State := stD (RDY18 fun e => { e with keyOk := true })
     s.awake ∧ (s.dev.ev.keyOk = true) ∧ (s.dev.rdB EV_STATUS_PENDING = false) ∧ (s.dev.rdB EV_STATUS_CLEARING = false)
       ∧ (s.dev.ringReady = true)) ∧
    (let s : State := stD (fun d => (RDY18 (fun e => { e with keyOk := true }) d).wrB (CK_GATE_EN 9) false)
     s.awake ∧ (s.dev.ev.keyOk = true) ∧ (s.dev.rdB EV_STATUS_PENDING = false) ∧ (s.dev.rdB EV_STATUS_CLEARING = false)
       ∧ (s.dev.rdB EV_STATUS_SCANNED = true) ∧ (s.dev.ringReady = false)) := by
  decide +kernel

/-- The hypotheses of RingWritesAndScan are met, clause by clause. -/
theorem witness_RingWritesAndScan_3 :
    (let s : State := State.reset
     s.awake ∧ (s.dev.ev.keyOk = false ∨ s.dev.rdB EV_STATUS_PENDING = true ∨ s.dev.rdB EV_STATUS_CLEARING = true ∨
       s.dev.rdB EV_STATUS_SCANNED = false)) ∧
    (let s : State := stD (fun d => (STORE18 (RDY18 (fun e => { e with clear := [0, 5] }) d)).wrB EV_STATUS_CLEARING true)
     s.awake ∧ (s.dev.rdB EV_STATUS_CLEARING = true) ∧ (s.dev.gateOk 9 = true) ∧ (s.dev.ev.pend.any isClear = false)) ∧
    (let s : State := State.reset
     s.awake ∧ (s.dev.rdB EV_STATUS_CLEARING = false ∨ s.dev.gateOk 9 = false ∨ s.dev.ev.pend.any isClear = true)) ∧
    (let s : State := stD (fun d => (STORE18 (((RDY18 (fun e => { e with reading := true, next := 4 }) d).wr EV_CURSOR_SEQ 3).wr EV_HEAD_SEQ 3)).wr EV_OLDEST_SEQ 0)
     let b : List Nat := SLOT18 ++ leBytes 4 0xFFFFFFFE ++ leBytes 4 (crc32 SLOT18)
     s.awake ∧ (s.dev.ev.reading = true) ∧ (s.dev.gateOk 9 = true) ∧ (s.dev.readRecord (s.dev.rd EV_CURSOR_SEQ) = (b,
       true))) ∧
    (let s : State := stD (RDY18 fun e => { e with reading := true, next := 0 })
     s.awake ∧ (s.dev.ev.reading = true) ∧ (s.dev.gateOk 9 = true) ∧ (s.dev.rdB EV_STATUS_SCANNED = false ∨
       s.dev.ev.next = 0 ∨ s.dev.rd EV_HEAD_SEQ < s.dev.rd EV_CURSOR_SEQ ∨ s.dev.rd EV_CURSOR_SEQ < s.dev.rd
       EV_OLDEST_SEQ)) ∧
    (let s : State := State.reset
     s.awake ∧ (s.dev.ev.reading = false ∨ s.dev.gateOk 9 = false)) := by
  decide +kernel

/-- The hypotheses of PMBusReads are met, clause by clause. -/
theorem witness_PMBusReads :
    (let s : State := stD (PM19)
     s.awake ∧ (s.dev.pmAnswers = true)) ∧
    (let s : State := stD (PM19)
     s.awake ∧ (s.dev.pmAnswers = true)) ∧
    (let s : State := stD (PM19)
     s.awake ∧ (s.dev.pmAnswers = true)) ∧
    (let s : State := stD (PM19)
     let p : Pec := .good
     s.awake ∧ (s.dev.pmAnswers = true)) ∧
    (let s : State := stD (PM19)
     s.awake ∧ (s.dev.pmAnswers = true)) ∧
    (let s : State := stD (PM19)
     s.awake ∧ (s.dev.pmAnswers = true)) := by
  decide +kernel

/-- The hypotheses of PMBusReads are met, clause by clause. -/
theorem witness_PMBusReads_2 :
    (let s : State := stD (PM19)
     s.awake ∧ (s.dev.pmAnswers = true)) ∧
    (let s : State := stD (PM19)
     s.awake ∧ (s.dev.pmAnswers = true)) ∧
    (let s : State := stD (PM19)
     s.awake ∧ (s.dev.pmAnswers = true)) ∧
    (let s : State := stD (PM19)
     s.awake ∧ (s.dev.pmAnswers = true)) ∧
    (let s : State := stD (PM19)
     s.awake ∧ (s.dev.pmAnswers = true)) ∧
    (let s : State := stD (PM19)
     s.awake ∧ (s.dev.pmAnswers = true)) := by
  decide +kernel

/-- The hypotheses of PMBusReads are met, clause by clause. -/
theorem witness_PMBusReads_3 :
    (let s : State := stD (PM19)
     s.awake ∧ (s.dev.pmAnswers = true)) ∧
    (let s : State := stD (PM19)
     s.awake ∧ (s.dev.pmAnswers = true)) ∧
    (let s : State := stD (PM19)
     let n : BitVec 32 := 5
     s.awake ∧ (s.dev.pmAnswers = true)) ∧
    (let s : State := stD (PM19)
     s.awake ∧ (s.dev.pmAnswers = true)) ∧
    (let s : State := stD (fun d => ((PM19 d).wrB PM_STATUS_ALERT true).updMg fun m => { m with word := ((PM19 d).wrB PM_STATUS_ALERT true).statusWord })
     s.awake ∧ (s.dev.pmAnswers = true) ∧ (s.dev.rdB PM_STATUS_ALERT = true) ∧ (s.dev.statusWord = s.dev.mg.word)) ∧
    (let s : State := stD (fun d => (PM19 d).wrB PM_STATUS_ALERT true)
     s.awake ∧ (s.dev.pmAnswers = true) ∧ (s.dev.rdB PM_STATUS_ALERT = true)) := by
  decide +kernel

/-- The hypotheses of PMBusReads are met, clause by clause. -/
theorem witness_PMBusReads_4 :
    (let s : State := stD (PM19)
     s.awake ∧ (s.dev.pmAnswers = false ∨ s.dev.rdB PM_STATUS_ALERT = false)) ∧
    (let s : State := State.reset
     s.awake ∧ s.dev.pmAnswers = false) := by
  decide +kernel

/-- The hypotheses of PMBusWrites are met, clause by clause. -/
theorem witness_PMBusWrites :
    (let s : State := stD (inMg fun m => { m with cml := 64 })
     let p : Pec := .good
     s.awake ∧ (s.dev.pmAnswers = true) ∧ (p = .good ∨ (p = .absent ∧ s.dev.rdB PM_CFG_PEC_REQ = false))) ∧
    (let s : State := stD (fun d => ((PM19 d).wrB PM_STATUS_ALERT true).updMg fun m => { m with word := ((PM19 d).wrB PM_STATUS_ALERT true).statusWord })
     let p : Pec := .good
     s.awake ∧ (s.dev.pmAnswers = true) ∧ (p = .good ∨ (p = .absent ∧ s.dev.rdB PM_CFG_PEC_REQ = false)) ∧ (s.dev.mg.cml
       = 0) ∧ (s.dev.statusWord = s.dev.mg.word)) ∧
    (let s : State := stD (inMg fun m => { m with cml := 66 })
     let w : BitVec 8 := 64
     let p : Pec := .good
     s.awake ∧ (s.dev.pmAnswers = true) ∧ (p = .good ∨ (p = .absent ∧ s.dev.rdB PM_CFG_PEC_REQ = false))) ∧
    (let s : State := stD (PM19)
     let p : Pec := .good
     s.awake ∧ (s.dev.pmAnswers = true) ∧ (p = .good ∨ (p = .absent ∧ s.dev.rdB PM_CFG_PEC_REQ = false))) := by
  decide +kernel

/-- The hypotheses of PMBusWrites are met, clause by clause. -/
theorem witness_PMBusWrites_2 :
    (let s : State := stD (PM9)
     let n : BitVec 32 := 240
     let p : Pec := .good
     s.awake ∧ (s.dev.pmAnswers = true) ∧ (p = .good ∨ (p = .absent ∧ s.dev.rdB PM_CFG_PEC_REQ = false)) ∧
       (s.dev.nv.session = none) ∧ (s.dev.gateOk 9 = true) ∧ (0 < n.toNat) ∧ (n.toNat % 4 = 0) ∧ (n.toNat ≤ 0x800000)) ∧
    (let s : State := stD (SES19)
     let n : BitVec 32 := 240
     let p : Pec := .good
     s.awake ∧ (s.dev.pmAnswers = true) ∧ (p = .good ∨ (p = .absent ∧ s.dev.rdB PM_CFG_PEC_REQ = false)) ∧
       (s.dev.nv.session.isSome = true ∨ s.dev.gateOk 9 = false)) ∧
    (let s : State := stD (PM9)
     let n : BitVec 32 := 241
     let p : Pec := .good
     s.awake ∧ (s.dev.pmAnswers = true) ∧ (p = .good ∨ (p = .absent ∧ s.dev.rdB PM_CFG_PEC_REQ = false)) ∧
       (s.dev.nv.session = none) ∧ (s.dev.gateOk 9 = true) ∧ (n.toNat = 0 ∨ n.toNat % 4 ≠ 0 ∨ 0x800000 < n.toNat)) := by
  decide +kernel

/-- The hypotheses of PMBusWrites are met, clause by clause. -/
theorem witness_PMBusWrites_3 :
    (let s : State := stD (SES19)
     let o : BitVec 32 := 0
     let m : List Byte := [1, 2]
     let x : Session := { SES13 0 false with peer := false, sender := none, len := 8 }
     let p : Pec := .good
     s.awake ∧ (s.dev.pmAnswers = true) ∧ (p = .good ∨ (p = .absent ∧ s.dev.rdB PM_CFG_PEC_REQ = false)) ∧ (1 ≤
       m.length) ∧ (m.length ≤ 240) ∧ (s.dev.nv.session = some x) ∧ (x.peer = false) ∧ (x.verifying = false) ∧
       (s.dev.gateOk 9 = true) ∧ (o.toNat = x.next) ∧ (o.toNat + m.length ≤ x.len) ∧ (x.len ≤ 0x800000)) ∧
    (let s : State := stD (SES19)
     let o : BitVec 32 := 4
     let m : List Byte := [1, 2]
     let x : Session := { SES13 0 false with peer := false, sender := none, len := 8 }
     let p : Pec := .good
     s.awake ∧ (s.dev.pmAnswers = true) ∧ (p = .good ∨ (p = .absent ∧ s.dev.rdB PM_CFG_PEC_REQ = false)) ∧ (1 ≤
       m.length) ∧ (m.length ≤ 240) ∧ (s.dev.nv.session = some x) ∧ (x.peer = false) ∧ (x.verifying = false) ∧
       (s.dev.gateOk 9 = true) ∧ (o.toNat ≠ x.next)) := by
  decide +kernel

/-- The hypotheses of PMBusWrites are met, clause by clause. -/
theorem witness_PMBusWrites_4 :
    (let s : State := stD (PM9)
     let o : BitVec 32 := 0
     let m : List Byte := [1, 2]
     let b : Bool := true
     let p : Pec := .good
     s.awake ∧ (s.dev.pmAnswers = true) ∧ (p = .good ∨ (p = .absent ∧ s.dev.rdB PM_CFG_PEC_REQ = false)) ∧ (1 ≤
       m.length) ∧ (m.length ≤ 240) ∧ (s.dev.pmSession = false)) ∧
    (let s : State := stD (SES19)
     let o : BitVec 32 := 0
     let m : List Byte := [1, 2]
     let p : Pec := .good
     s.awake ∧ (s.dev.pmAnswers = true) ∧ (p = .good ∨ (p = .absent ∧ s.dev.rdB PM_CFG_PEC_REQ = false)) ∧ (1 ≤
       m.length) ∧ (m.length ≤ 240) ∧ (s.dev.pmSession = true)) ∧
    (let s : State := stD (SES19)
     let o : BitVec 32 := 0
     let m : List Byte := []
     let b : Bool := true
     let p : Pec := .good
     s.awake ∧ (s.dev.pmAnswers = true) ∧ (p = .good ∨ (p = .absent ∧ s.dev.rdB PM_CFG_PEC_REQ = false)) ∧ (m.length = 0
       ∨ 240 < m.length)) := by
  decide +kernel

/-- The hypotheses of PMBusWrites are met, clause by clause. -/
theorem witness_PMBusWrites_5 :
    (let s : State := stD (SES19)
     let x : Session := { SES13 0 false with peer := false, sender := none, len := 8 }
     let p : Pec := .good
     s.awake ∧ (s.dev.pmAnswers = true) ∧ (p = .good ∨ (p = .absent ∧ s.dev.rdB PM_CFG_PEC_REQ = false)) ∧
       (s.dev.nv.session = some x) ∧ (x.peer = false)) ∧
    (let s : State := stD (PM19)
     let p : Pec := .good
     s.awake ∧ (s.dev.pmAnswers = true) ∧ (p = .good ∨ (p = .absent ∧ s.dev.rdB PM_CFG_PEC_REQ = false)) ∧
       (s.dev.pmSession = false)) ∧
    (let s : State := { stD (inMg fun m => { m with lc := .field }) with fuses := { State.reset.fuses with lc := .field, keySet := true } }
     let c : List Byte := List.replicate 32 7
     let g : List Byte := [1, 2, 3]
     s.awake ∧ (s.dev.pmAnswers = true) ∧ (c.length = 32) ∧ (s.dev.mg.lc = .test ∨ s.dev.mg.lc = .field) ∧
       (s.fuses.keySet = true) ∧ (s.fuses.keyKilled = false)) ∧
    (let s : State := stD (PM19)
     let c : List Byte := []
     let g : List Byte := []
     s.awake ∧ (s.dev.pmAnswers = true) ∧ (c.length ≠ 32 ∨ s.dev.mg.lc = .blank ∨ s.dev.mg.lc = .ret ∨ s.fuses.keySet =
       false ∨ s.fuses.keyKilled = true)) := by
  decide +kernel

/-- The hypotheses of PMBusWrites are met, clause by clause. -/
theorem witness_PMBusWrites_6 :
    (let s : State := stD (PM19)
     let r : List Byte := []
     let b : Bool := true
     let p : Pec := .good
     s.awake ∧ (s.dev.pmAnswers = true) ∧ (p = .good ∨ (p = .absent ∧ s.dev.rdB PM_CFG_PEC_REQ = false)) ∧ (s.dev.mg.lc
       ≠ .field ∨ b = false ∨ nats r ≠ s.dev.serial)) ∧
    (let s : State := stD (PM19)
     let c : BitVec 8 := 9
     let w : Bool := true
     s.awake ∧ (s.dev.pmAnswers = true)) ∧
    (let s : State := stD (PM19)
     let c : BitVec 8 := 9
     let w : Bool := true
     s.awake ∧ (s.dev.pmAnswers = true)) ∧
    (let s : State := stD (PM19)
     let c : BitVec 8 := 9
     let w : Bool := true
     s.awake ∧ (s.dev.pmAnswers = true)) := by
  decide +kernel

/-- The hypotheses of CapThroughPMBus are met, clause by clause. -/
theorem witness_CapThroughPMBus :
    (let s : State := stD (fun d => ((PM19 d).wr BU_CAP_LIMITS_CAP_MIN 0).wr BU_CAP_LIMITS_CAP_MAX 600)
     let v : BitVec 15 := 500
     let u : Bool := true
     let p : Pec := .good
     s.awake ∧ (s.dev.pmAnswers = true) ∧ (p = .good ∨ (p = .absent ∧ s.dev.rdB PM_CFG_PEC_REQ = false)) ∧
       (s.dev.capRange v.toNat = true)) ∧
    (let s : State := stD (fun d => ((PM19 d).wr BU_CAP_LIMITS_CAP_MIN 0).wr BU_CAP_LIMITS_CAP_MAX 600)
     let v : BitVec 15 := 700
     let u : Bool := true
     let p : Pec := .good
     s.awake ∧ (s.dev.pmAnswers = true) ∧ (p = .good ∨ (p = .absent ∧ s.dev.rdB PM_CFG_PEC_REQ = false)) ∧
       (s.dev.capRange v.toNat = false)) ∧
    (let s : State := stD (fun d => (PM19 d).wrB PM_CFG_PEC_REQ true)
     let v : BitVec 15 := 500
     let u : Bool := true
     s.awake ∧ (s.dev.pmAnswers = true) ∧ (s.dev.rdB PM_CFG_PEC_REQ = true)) := by
  decide +kernel

/-- The hypotheses of TestPortAndTrace are met, clause by clause. -/
theorem witness_TestPortAndTrace :
    (let s : State := State.reset
     let x : BitVec 27 := 5
     let y : BitVec 27 := 0x70
     s.awake ∧ (s.dev.mg.lc ≠ .field)) ∧
    (let s : State := stD (fun d => inMg (fun m => { m with lc := .field }) d)
     let x : BitVec 27 := 5
     let y : BitVec 27 := 0x70
     s.awake ∧ (s.dev.mg.lc = .field)) ∧
    (let s : State := stD (fun d => { d with pins := { d.pins with resetN := false } })
     let x : BitVec 27 := 5
     let y : BitVec 27 := 0x70
     s.dev.pins.resetN = false) ∧
    (let s : State := State.reset
     let x : BitVec 27 := 5
     let y : BitVec 27 := 0x70
     s.dev.mg.extest = false) ∧
    (let s : State := State.reset
     let a : BitVec 32 := 0x10000104
     let v : BitVec 32 := 0x80FF0001
     let q : BitVec 12 := 0
     s.awake ∧ (s.dev.mg.lc = .blank ∨ s.dev.mg.lc = .ret) ∧ (0x10000000 ≤ a.toNat) ∧ (a.toNat + 4 ≤ 0x10080000) ∧
       (a.toNat % 4 = 0)) ∧
    (let s : State := State.reset
     let a : BitVec 32 := 0x10000104
     let v : BitVec 32 := 0x80FF0001
     let q : BitVec 12 := 0
     s.awake ∧ (s.dev.mg.lc = .blank ∨ s.dev.mg.lc = .ret) ∧ (0x10000000 ≤ a.toNat) ∧ (a.toNat + 4 ≤ 0x10080000) ∧
       (a.toNat % 4 = 0)) := by
  decide +kernel

/-- The hypotheses of TestPortAndTrace are met, clause by clause. -/
theorem witness_TestPortAndTrace_2 :
    (let s : State := stD (fun d => inMg (fun m => { m with lc := .field }) d)
     let a : BitVec 32 := 0x10000104
     let v : BitVec 32 := 0x80FF0001
     let q : BitVec 12 := 0
     let b : Bool := true
     s.awake ∧ (s.dev.mg.lc = .field)) ∧
    (let s : State := stD (fun d => inMg (fun m => { m with lc := .test }) d)
     let a : BitVec 32 := 0x10000104
     let v : BitVec 32 := 0x80FF0001
     let q : BitVec 12 := 0
     let b : Bool := true
     s.awake ∧ (s.dev.mg.lc = .test) ∧ (a.toNat < 0x20070000 ∨ 0x20080000 ≤ a.toNat)) ∧
    (let s : State := { stD (fun d => inMg (fun m => { m with lc := .test }) d) with fuses := { State.reset.fuses with lc := .test } }
     let r : Option (BitVec 384) := some 9
     let c : Bool := true
     let n : BitVec 7 := 3
     s.awake ∧ (s.dev.mg.lc = .test)) ∧
    (let s : State := State.reset
     let r : Option (BitVec 384) := some 9
     let c : Bool := true
     let n : BitVec 7 := 3
     s.awake ∧ (s.dev.mg.lc ≠ .test)) ∧
    (let s : State := { stD (fun d => inMg (fun m => { m with lc := .test }) d) with fuses := { State.reset.fuses with lc := .test } }
     let b : List Byte := [1, 2, 3]
     s.awake ∧ (s.dev.mg.lc = .test) ∧ (s.fuses.keySet = false) ∧ (b.length ≤ 96)) ∧
    (let s : State := { stD (fun d => inMg (fun m => { m with lc := .test }) d) with fuses := { State.reset.fuses with lc := .test, keySet := true } }
     let b : List Byte := [1, 2, 3]
     s.awake ∧ (s.dev.mg.lc = .test) ∧ (s.fuses.keySet = true)) := by
  decide +kernel

/-- The hypotheses of TestPortAndTrace are met, clause by clause. -/
theorem witness_TestPortAndTrace_3 :
    (let s : State := State.reset
     let b : List Byte := [1, 2, 3]
     s.awake ∧ (s.dev.mg.lc ≠ .test)) ∧
    (let s : State := State.reset
     let c : BitVec 8 := 0x55
     tapAllows c.toNat s.dev.mg.lc s.dev.pins.resetN = none) ∧
    (let s : State := stD (fun d => inMg (fun m => { m with lc := .field }) d)
     let c : BitVec 8 := 0x10
     s.awake ∧ (tapAllows c.toNat s.dev.mg.lc s.dev.pins.resetN = some false)) ∧
    (let s : State := stD (inMg fun m => { m with traceSet := 9000000 })
     s.awake ∧ (s.dev.time.count + 2 ≤ s.dev.mg.traceSet)) ∧
    (let s : State := State.reset
     s.awake ∧ (s.dev.mg.traceSet < s.dev.time.count + 2)) ∧
    (let s : State := stD (fun d => (PM19 d).wrB DB_STATUS_ARMED true)
     s.awake ∧ (s.dev.rdB DB_STATUS_ARMED = true) ∧ (s.dev.mg.traceAt ≤ s.dev.time.count)) := by
  decide +kernel

/-- The hypotheses of TestPortAndTrace are met, clause by clause. -/
theorem witness_TestPortAndTrace_4 :
    (let s : State := State.reset
     s.awake ∧ (s.dev.rdB DB_STATUS_ARMED = false ∨ s.dev.time.count < s.dev.mg.traceAt)) := by
  decide +kernel

/-- The hypotheses of FusesOnlyBurn are met by a step that changes a fuse. -/
theorem witness_FusesOnlyBurn :
    let fz : Fuses := { State.reset.fuses with lc := .test, rootSet := true, keySet := true, calibrated := true }
    let s : State := { stD (inMg fun m => { m with lc := .test }) with pending := [.lcAdv], fuses := fz }
    (fz.lc = .field → fz.rootSet = true ∧ fz.keySet = true ∧ fz.calibrated = true) ∧ (fz.lc = .ret → fz.keyKilled = true) ∧
      (match step s with | .next t => decide (t.fuses.lc = .field) | _ => false) = true := by
  decide +kernel

/-- The hypotheses of FuseCommands are met. -/
theorem witness_FuseCommands :
    let s : State := { stD (inMg fun m => { m with lc := .test }) with fuses := { State.reset.fuses with lc := .test } }
    (match exec (.fuse (some 5) true 3) s with | .next t => decide (t.fuses ≠ s.fuses) | _ => false) = true := by
  decide +kernel

/-- The hypotheses of LifeCycleMoves are met, clause by clause. -/
theorem witness_LifeCycleMoves :
    (let s : State := State.reset
     s.awake ∧ (s.dev.mg.lc = .blank) ∧ (s.fuses.lc = .blank)) ∧
    (let s : State := { stD (fun d => inMg (fun m => { m with lc := .test }) d) with fuses := { State.reset.fuses with lc := .test, rootSet := true, keySet := true, calibrated := true } }
     s.awake ∧ (s.dev.mg.lc = .test) ∧ (s.fuses.lc = .test) ∧ (s.fuses.rootSet = true) ∧ (s.fuses.keySet = true) ∧
       (s.fuses.calibrated = true)) ∧
    (let s : State := { stD (fun d => inMg (fun m => { m with lc := .test }) d) with fuses := { State.reset.fuses with lc := .test } }
     s.awake ∧ (s.dev.mg.lc = .field ∨ s.dev.mg.lc = .ret ∨ (s.dev.mg.lc = .test ∧ (s.fuses.rootSet = false ∨
       s.fuses.keySet = false ∨ s.fuses.calibrated = false)))) ∧
    (let s : State := { stD (fun d => nvProg 0x10000 [1, 2, 3, 4, 5, 6, 7, 8] (inMg (fun m => { m with lc := .field }) d)) with fuses := { State.reset.fuses with lc := .field, keySet := true } }
     let r : List Byte := [1, 2, 3, 4, 5, 6, 7, 8]
     let p : Pec := .good
     s.awake ∧ (s.dev.pmAnswers = true) ∧ (p = .good ∨ (p = .absent ∧ s.dev.rdB PM_CFG_PEC_REQ = false)) ∧ (s.dev.mg.lc
       = .field) ∧ (nats r = s.dev.serial)) ∧
    (let s : State := stD (fun d => inMg (fun m => { m with lc := .field }) d)
     s.awake ∧ s.dev.mg.lc = .field) ∧
    (let s : State := { stD (fun d => inMg (fun m => { m with lc := .test }) d) with fuses := { State.reset.fuses with lc := .test } }
     let a : BitVec 32 := 0x20000004
     let q : BitVec 12 := 5
     s.awake ∧ (a.toNat = 0x20000004)) := by
  decide +kernel

/-- The hypotheses of LifeCycleMoves are met, clause by clause. -/
theorem witness_LifeCycleMoves_2 :
    (let s : State := stD (fun d => inMg (fun m => { m with lc := .field }) d)
     s.awake ∧ (s.dev.pmAnswers = true)) := by
  decide +kernel

/-- The hypotheses of SecurityVersions are met, clause by clause. -/
theorem witness_SecurityVersions :
    (let s : State := stD (fun d => { IN15 8 d with start := ⟨8, 5, true, true, false⟩, mg := { d.mg with lc := .field } })
     s.awake ∧ (s.dev.mayReady = true) ∧ (s.dev.start.step = 8) ∧ (s.dev.mg.lc = .field)) ∧
    (let s : State := State.reset
     s.awake ∧ (s.dev.mg.lc ≠ .field)) ∧
    (let s : State := VER13 ROOT13
     let d : Dev := { s.dev with mg := { s.dev.mg with lc := .field } }
     d.imgFails ROOT13 false 240 ⟨5, true⟩ false = none ∧ ROOT13.rootSet = true ∧ d.mg.lc = .field) := by
  decide +kernel

/-- The hypotheses of HistogramBins are met, case by case. -/
theorem witness_HistogramBins :
    let h : Hist := { Hist.init with bins := [3, 100000], total := 100003 }
    (∀ j : Fin 16, h.bins.getD j 0 ≤ h.total) ∧ h.total ≠ 0 ∧ h.bins.getD 0 0 * 65535 / h.total ≠ 0 ∧ h.bins.getD 2 0 = 0 ∧
      (let g : Hist := { Hist.init with bins := [1, 99999], total := 100000 }
       (∀ j : Fin 16, g.bins.getD j 0 ≤ g.total) ∧ g.bins.getD 0 0 ≠ 0 ∧ g.bins.getD 0 0 * 65535 / g.total = 0) ∧
      (∀ j : Fin 16, Hist.init.bins.getD j 0 ≤ Hist.init.total) ∧ Hist.init.total = 0 := by
  decide +kernel

end Sys2Proof.Machine
end

section
/-! O58: the fused count of security versions (R333). What every command does to the fuses is said once (`exec_fuses`);
each change of fuses raises the count or leaves it, and no raise takes it beyond 64. -/

namespace Sys2Proof.Machine

/-! The fuses after a command. -/

/-- The fuses after a command: five commands may blow some (R333, R422, R427), every other one leaves them. -/
def fusesAfter (s : State) : Instr → Fuses
  | .ready => if s.dev.released then readyFuses s.dev s.fuses else s.fuses
  | .fuse root cal secver => fuseProg (root.map (·.toNat)) cal secver.toNat s.dev s.fuses
  | .idkey _ => idKeyFuses s.dev s.fuses
  | .lcAdv => lcAdvFuses s.dev s.fuses
  | .mfrJzReturn serial ok pec => returnFuses (s.dev.returns (nats serial) ok pec) s.fuses
  | _ => s.fuses

theorem fusesAfter_ready (s : State) :
    fusesAfter s .ready = if s.dev.released then readyFuses s.dev s.fuses else s.fuses := rfl

/-- A command answers a next state, with its own fuses and the same queue. -/
theorem exec_next_fuses (i : Instr) (s : State) :
    ∃ d, exec i s = .next { s with dev := d, fuses := fusesAfter s i } := by
  cases i <;> exact ⟨_, rfl⟩

/-- The fuses of the state that a command answers. -/
theorem exec_fuses {i : Instr} {s t : State} (h : exec i s = .next t) : t.fuses = fusesAfter s i := by
  obtain ⟨d, hd⟩ := exec_next_fuses i s
  cases hd.symm.trans h
  rfl

/-! The count of security versions never falls, and no change of fuses takes it beyond 64. -/

/-- From one set of fuses to the next the count does not fall, and stays within 64 where it was. -/
def Fuses.SecverGrows (a b : Fuses) : Prop := a.secver ≤ b.secver ∧ (a.secver ≤ 64 → b.secver ≤ 64)

/-- A change that keeps the count. -/
theorem Fuses.SecverGrows.of_eq {a b : Fuses} (h : b.secver = a.secver) : a.SecverGrows b := by
  rw [Fuses.SecverGrows, h]
  exact ⟨Nat.le_refl _, id⟩

/-- A count raised to a version, at most 64 (R333, R427). -/
theorem Fuses.SecverGrows.of_eq_max {a b : Fuses} {n : Nat} (h : b.secver = max a.secver (min 64 n)) : a.SecverGrows b := by
  rw [Fuses.SecverGrows, h]
  exact ⟨Nat.le_max_left _ _, fun ha => Nat.max_le.2 ⟨ha, Nat.min_le_left _ _⟩⟩

theorem secverGrows_readyFuses (d : Dev) (fz : Fuses) : fz.SecverGrows (readyFuses d fz) := by
  unfold readyFuses
  split
  · exact .of_eq_max rfl
  · exact .of_eq rfl

theorem secverGrows_fuseProg (root : Option Nat) (cal : Bool) (n : Nat) (d : Dev) (fz : Fuses) :
    fz.SecverGrows (fuseProg root cal n d fz) := by
  unfold fuseProg
  split
  · exact .of_eq_max rfl
  · exact .of_eq rfl

theorem secver_idKeyFuses (d : Dev) (fz : Fuses) : (idKeyFuses d fz).secver = fz.secver := by
  unfold idKeyFuses
  split <;> rfl

theorem secver_lcAdvFuses (d : Dev) (fz : Fuses) : (lcAdvFuses d fz).secver = fz.secver := by
  unfold lcAdvFuses
  split
  · rfl
  · split <;> rfl

theorem secver_returnFuses (go : Bool) (fz : Fuses) : (returnFuses go fz).secver = fz.secver := by
  unfold returnFuses
  split <;> rfl

/-- No command lowers the count, nor raises it beyond 64. -/
theorem secverGrows_fusesAfter (s : State) (i : Instr) : s.fuses.SecverGrows (fusesAfter s i) := by
  cases i with
  | ready =>
    rw [fusesAfter_ready]
    split
    · exact secverGrows_readyFuses _ _
    · exact .of_eq rfl
  | fuse => exact secverGrows_fuseProg _ _ _ _ _
  | idkey => exact .of_eq (secver_idKeyFuses _ _)
  | lcAdv => exact .of_eq (secver_lcAdvFuses _ _)
  | mfrJzReturn => exact .of_eq (secver_returnFuses _ _)
  | _ => exact .of_eq rfl

/-- No step lowers the count, nor raises it beyond 64: an idle step changes nothing, any other runs a command. -/
theorem secverGrows_step {s t : State} (h : step s = .next t) : s.fuses.SecverGrows t.fuses := by
  cases hp : s.pending with
  | nil =>
    simp only [step, hp, Host.Outcome.next.injEq] at h
    exact .of_eq (by rw [h])
  | cons i rest =>
    simp only [step, hp] at h
    rw [exec_fuses h]
    exact secverGrows_fusesAfter { s with pending := rest } i

/-! READY (R318, R333). -/

/-- READY with the part released completes with the fuses of `readyFuses`. -/
theorem completes_ready_fuses {s : State} (h : s.awake) :
    Completes .ready s fun t => t.fuses = readyFuses s.dev s.fuses := by
  obtain ⟨d, hd⟩ := exec_next_fuses .ready s
  exact ⟨_, hd, (fusesAfter_ready s).trans (if_pos h)⟩

/-! The checks of an image (R326). -/

/-- An image that passes unsigned passes checks 1 to 3. -/
theorem imgFails_unsigned {d : Dev} {fz : Fuses} {b : Bool} {n : Nat} {o : SigObs} (h : d.imgFails fz b n o false = none) :
    d.imgCheck1 b n = true ∧ d.imgCheck2 b = true ∧
      ((d.sections b).all fun s => crc32 (d.nvBytes (slotBase b + s.2.1) s.2.2.1) = s.2.2.2) = true := by
  unfold Dev.imgFails at h
  split at h
  · cases h
  next h1 =>
    split at h
    · cases h
    next h2 =>
      split at h
      · cases h
      next h3 =>
        simp only [Bool.not_eq_true', Bool.not_eq_false] at h1 h2 h3
        exact ⟨h1, h2, h3⟩

/-- Where checks 1 to 3 pass, and checks 4 and 5 too, check 6 alone decides. -/
theorem imgFails_signed {d : Dev} {fz : Fuses} {b : Bool} {n : Nat} {o : SigObs} (h : d.imgFails fz b n o false = none)
    (hroot : fz.rootSet = true) (hhash : o.hash.toNat = fz.rootHash) (hsig : o.sig = true) :
    d.imgFails fz b n o true =
      if d.mg.lc = .field ∧ d.nvNum (slotBase b + 12) 4 < fz.secver then some 6 else none := by
  obtain ⟨h1, h2, h3⟩ := imgFails_unsigned h
  unfold Dev.imgFails
  rw [h1, h2, h3, hroot, hsig, decide_eq_true hhash]
  rfl

/-- Settles O58: READY by `readyFuses`, the image by `imgFails_signed`, the steps by `secverGrows_step`. -/
theorem securityVersions : Obligations.SecurityVersions := by
  unfold Obligations.SecurityVersions
  refine ⟨fun s hs hready hstep hlc => ?_, fun s hs hlc => ?_, fun d fz b n o h hroot hhash hsig hlc => ?_,
    fun s t h => secverGrows_step h⟩
  · have hfz := completes_ready_fuses hs
    rwa [readyFuses, if_pos ⟨hready, hstep, hlc⟩] at hfz
  · have hfz := completes_ready_fuses hs
    rwa [readyFuses, if_neg fun hc => hlc hc.2.2] at hfz
  · rw [imgFails_signed h hroot hhash hsig]
    simp only [hlc, true_and]

end Sys2Proof.Machine
end

section
/-! O59: the bins of a histogram record (R383). A number's little-endian bytes read back (`ofBytes_leBytes`), a list of
blocks of one length reads block by block (`take_drop_flatMap_range`), so the payload's bin i reads back its share. -/

namespace Sys2Proof.Machine

/-! Little-endian bytes (R14). -/

theorem leBytes_length (n v : Nat) : (leBytes n v).length = n := by
  induction n generalizing v with
  | zero => rfl
  | succ n ih => rw [leBytes, List.length_cons, ih]

/-- The bytes of a number spell the number, where it fits them. -/
theorem ofBytes_leBytes {n v : Nat} (hv : v < 256 ^ n) : ofBytes (leBytes n v) = v := by
  induction n generalizing v with
  | zero =>
    obtain rfl := Nat.lt_one_iff.mp hv
    rfl
  | succ n ih =>
    have hq : v / 256 < 256 ^ n := Nat.div_lt_of_lt_mul (by rwa [Nat.pow_succ, Nat.mul_comm] at hv)
    simp only [leBytes, ofBytes, ih hq]
    omega

/-! Blocks of one length. -/

theorem length_flatMap_blocks {α β : Type} {k : Nat} {g : α → List β} (hg : ∀ a, (g a).length = k) (l : List α) :
    (l.flatMap g).length = l.length * k := by
  induction l with
  | nil => rw [List.flatMap_nil, List.length_nil, List.length_nil, Nat.zero_mul]
  | cons a l ih => rw [List.flatMap_cons, List.length_append, hg, ih, List.length_cons, Nat.succ_mul, Nat.add_comm]

/-- In a list of n blocks of k elements, block i stands at k × i, whatever follows the blocks. -/
theorem take_drop_flatMap_range {β : Type} {k n i : Nat} {g : Nat → List β} (hg : ∀ j, (g j).length = k) (hi : i < n)
    (r : List β) : (((List.range n).flatMap g ++ r).drop (k * i)).take k = g i := by
  obtain ⟨m, rfl⟩ : ∃ m, n = i + 1 + m := ⟨n - (i + 1), by omega⟩
  have hlen : ((List.range i).flatMap g).length = k * i := by
    rw [length_flatMap_blocks hg, List.length_range, Nat.mul_comm]
  rw [List.range_add, List.range_succ]
  simp only [List.flatMap_append, List.flatMap_singleton, List.append_assoc]
  rw [List.drop_left' hlen, List.take_left' (hg i)]

/-! The share of a bin (R383). -/

theorem binShare_zero (total : Nat) : binShare 0 total = 0 := rfl

theorem binShare_eq {count total : Nat} (hc : count ≠ 0) (ht : total ≠ 0) :
    binShare count total = max 1 (count * 65535 / total) := by
  rw [binShare, if_neg hc, Nat.max_eq_right (Nat.one_le_iff_ne_zero.mpr ht)]

/-- The share of a count that does not exceed the total fits the two bytes of a bin. -/
theorem binShare_le {count total : Nat} (h : count ≤ total) : binShare count total ≤ 65535 := by
  by_cases hc : count = 0
  · rw [hc, binShare_zero]
    exact Nat.zero_le _
  · have hle : count * 65535 / total ≤ 65535 := Nat.div_le_of_le_mul (Nat.mul_le_mul_right _ h)
    rw [binShare_eq hc (by omega)]
    exact Nat.max_le.mpr ⟨by decide, hle⟩

/-- Bin i of the payload holds the share of its count, where that does not exceed the total. -/
theorem histPayload_bin {h : Hist} {i : Nat} (hi : i < 16) (hle : h.bins.getD i 0 ≤ h.total) :
    bytesAt (histPayload h) (2 * i) 2 = binShare (h.bins.getD i 0) h.total := by
  have hshare := binShare_le hle
  rw [bytesAt, histPayload, take_drop_flatMap_range (fun _ => leBytes_length 2 _) hi, ofBytes_leBytes (by omega)]

/-- Settles O59: each bin reads back its share (`histPayload_bin`), which `binShare_zero` and `binShare_eq` give. -/
theorem histogramBins : Obligations.HistogramBins := by
  unfold Obligations.HistogramBins
  intro h i hle
  rw [histPayload_bin i.isLt (hle i)]
  refine ⟨fun ht => ?_, fun ht hq => ?_, fun hc hq => ?_, fun hc => ?_⟩
  · have hc : h.bins.getD i 0 = 0 := Nat.le_zero.mp (ht ▸ hle i)
    rw [hc, binShare_zero]
  · have hc : h.bins.getD i 0 ≠ 0 := fun hc => hq (by rw [hc, Nat.zero_mul, Nat.zero_div])
    rw [binShare_eq hc ht, Nat.max_eq_right (Nat.one_le_iff_ne_zero.mpr hq)]
  · have ht : h.total ≠ 0 := fun ht => hc (Nat.le_zero.mp (ht ▸ hle i))
    rw [binShare_eq hc ht, hq, Nat.max_eq_left (Nat.zero_le 1)]
  · rw [hc, binShare_zero]

end Sys2Proof.Machine
end

section
/-! The PMBus writes (R412, R419). A transaction is counted (`Dev.counted`), has its effect, and is recorded
(`Dev.recorded`); O53 and the return of O57 rest on what these two do. -/

namespace Sys2Proof.Machine

/-! A transaction: counted first, recorded last. -/

/-- R431: the device as a transaction begins: counted, with no answer yet. -/
def Dev.counted (d : Dev) : Dev := reply [] (d.inc PM_CNT_XFERS)

/-- R431: the device as a transaction ends: its result r in STATUS_CML and in PM_LAST. -/
def Dev.recorded (cmd : Nat) (write : Bool) (r : Nat) (d : Dev) : Dev :=
  (((setCml (cmlBit r) d).wr PM_LAST_CMD cmd).wrB PM_LAST_WRITE write).wr PM_LAST_RESULT r

/-- What a slave that answers makes of a transaction. -/
theorem transact_answered {d : Dev} (h : d.pmAnswers = true) (cmd : Nat) (write : Bool) (g : Dev → Dev × Nat) :
    transact cmd write g d = (g d.counted).1.recorded cmd write (g d.counted).2 := if_pos h

@[simp] theorem Dev.counted_bud (d : Dev) : d.counted.bud = d.bud := by
  rw [Dev.counted, reply, Dev.updMg_bud, Dev.inc_bud]

@[simp] theorem Dev.recorded_bud (cmd : Nat) (write : Bool) (r : Nat) (d : Dev) : (d.recorded cmd write r).bud = d.bud := by
  rw [Dev.recorded, setCml, Dev.wr_bud, Dev.wrB_bud, Dev.wr_bud, Dev.updMg_bud]

/-- A transaction that begins counts. -/
theorem rd_counted_xfers (d : Dev) : d.counted.rd PM_CNT_XFERS = satN 0xFFFF (d.rd PM_CNT_XFERS + 1) := by
  rw [Dev.counted, reply, Dev.updMg_rd]
  exact rd_inc_max PM_CNT_XFERS d (by decide) (by decide)

/-- A transaction that begins leaves the other fields. -/
theorem rd_counted_ne {x : Fld} (d : Dev) (h : x.apart PM_CNT_XFERS) : d.counted.rd x = d.rd x := by
  rw [Dev.counted, reply, Dev.updMg_rd]
  exact rd_inc_ne PM_CNT_XFERS x d h

/-- A transaction that ends leaves the fields outside PM_LAST. -/
theorem rd_recorded_ne {x : Fld} (cmd : Nat) (write : Bool) (r : Nat) (d : Dev) (hc : x.apart PM_LAST_CMD)
    (hw : x.apart PM_LAST_WRITE) (hr : x.apart PM_LAST_RESULT) : (d.recorded cmd write r).rd x = d.rd x := by
  unfold Dev.recorded
  rw [rd_wr_ne _ _ _ _ hr, rd_wrB_ne _ _ _ _ hw, rd_wr_ne _ _ _ _ hc, setCml, Dev.updMg_rd]

/-- PM_LAST.CMD of a transaction. -/
theorem rd_recorded_cmd {cmd : Nat} (write : Bool) (r : Nat) (d : Dev) (h : cmd < 256) :
    (d.recorded cmd write r).rd PM_LAST_CMD = cmd := by
  unfold Dev.recorded
  rw [rd_wr_ne _ _ _ _ (by decide), rd_wrB_ne _ _ _ _ (by decide), rd_wr_same _ _ _ (by decide)]
  exact Nat.mod_eq_of_lt h

/-- PM_LAST.WRITE of a transaction. -/
theorem rdB_recorded_write (cmd : Nat) (write : Bool) (r : Nat) (d : Dev) :
    (d.recorded cmd write r).rdB PM_LAST_WRITE = write := by
  unfold Dev.recorded Dev.rdB
  rw [rd_wr_ne _ _ _ _ (by decide)]
  exact rdB_wrB_same _ _ _ (by decide) (by decide)

/-- PM_LAST.RESULT of a transaction. -/
theorem rd_recorded_result (cmd : Nat) (write : Bool) {r : Nat} (d : Dev) (h : r < 4) :
    (d.recorded cmd write r).rd PM_LAST_RESULT = r := by
  unfold Dev.recorded
  rw [rd_wr_same _ _ _ (by decide)]
  exact Nat.mod_eq_of_lt h

/-! A write that its PEC does not refuse. -/

/-- R412: the PEC of a write lets it act: it is right, or it is missing and not required. -/
def Dev.pecPasses (d : Dev) (p : Pec) : Prop := p = .good ∨ (p = .absent ∧ d.rdB PM_CFG_PEC_REQ = false)

theorem pmWrite_good (cmd : Nat) (g : Dev → Dev × Nat) : pmWrite cmd .good g = transact cmd true g := rfl

theorem pmWrite_absent (cmd : Nat) (g : Dev → Dev × Nat) :
    pmWrite cmd .absent g = transact cmd true fun d => if d.rdB PM_CFG_PEC_REQ then (d, pmPec) else g d := rfl

/-- A write whose PEC passes has its effect and is recorded with its result. -/
theorem pmWrite_passed {d : Dev} {p : Pec} (h : d.pmAnswers = true) (hp : d.pecPasses p) (cmd : Nat) (g : Dev → Dev × Nat) :
    pmWrite cmd p g d = (g d.counted).1.recorded cmd true (g d.counted).2 := by
  rcases hp with rfl | ⟨rfl, hreq⟩
  · rw [pmWrite_good, transact_answered h]
  · have hc : d.counted.rdB PM_CFG_PEC_REQ = false := by
      rw [Dev.rdB, rd_counted_ne d (by decide)]
      exact hreq
    rw [pmWrite_absent, transact_answered h, if_neg (by rw [hc]; decide)]

/-! O53: the tray's cap (R191, R419). -/

@[simp] theorem Dev.updBud_bud (g : BudgetS → BudgetS) (d : Dev) : (d.updBud g).bud = g d.bud := rfl

/-- The limits of the cap stand as a transaction begins. -/
theorem capRange_counted (d : Dev) (v : Nat) : d.counted.capRange v = d.capRange v := by
  unfold Dev.capRange
  rw [rd_counted_ne d (by decide), rd_counted_ne d (by decide)]

/-- R191: a value of the tray's source within the limits is a further value for the deferral of the rack's. -/
theorem rack_setCap_tray {d : Dev} {v : Nat} (u : Bool) (h : d.capRange v = true) :
    (setCap false v u d).bud.rack = d.bud.rack.heed (!u && !d.bud.tray.own) := by
  rw [setCap, if_neg (by rw [h]; decide), if_neg (by decide), Dev.updBud_bud, Dev.wr_bud]

/-- MFR_JZ_CAP with a value within the limits: the rack's source heeds it. -/
theorem rack_mfrJzCapWrite {s t : State} {v : BitVec 15} {u : Bool} {p : Pec} (hs : s.awake) (ha : s.dev.pmAnswers = true)
    (hp : s.dev.pecPasses p) (hr : s.dev.capRange v.toNat = true) (h : exec (.mfrJzCapWrite v u p) s = .next t) :
    t.dev.bud.rack = s.dev.bud.rack.heed (!u && !s.dev.bud.tray.own) := by
  have hc : s.dev.counted.capRange v.toNat = true := (capRange_counted _ _).trans hr
  cases (done_high (pmWrite 0xD0 p (capWrite v.toNat u)) s hs).symm.trans h
  rw [settle_bud, pmWrite_passed ha hp, Dev.recorded_bud, capWrite, if_pos hc]
  exact rack_setCap_tray u hc

/-- A device that answers on the PMBus, while a decrease of the rack's cap to 200 is deferred over a window of job 77. -/
def deferringState : State :=
  { State.reset with
    dev := { Dev.init with
      start := { Dev.init.start with step := 3 }
      bud := { Dev.init.bud with rack := { Dev.init.bud.rack with defer := some ⟨200, [(77, 5)], 5000, false⟩ } } } }

/-- Refutes O53: a value of the tray that comes while the rack's deferral runs marks that deferral (R191, log entry 50;
`rack_mfrJzCapWrite`), where the first clause's frame holds the rack's source unchanged. -/
theorem not_capThroughPMBus : ¬ Obligations.CapThroughPMBus := by
  unfold Obligations.CapThroughPMBus
  rintro ⟨hin, -, -⟩
  have hs : deferringState.awake := by decide +kernel
  have ha : deferringState.dev.pmAnswers = true := by decide +kernel
  have hr : deferringState.dev.capRange (560#15).toNat = true := by decide +kernel
  obtain ⟨t, ht, -, -, -, -, -, -, -, hparts, -⟩ := hin deferringState 560#15 false .good hs ha (.inl rfl) hr
  have hkept : t.dev.bud.rack = deferringState.dev.bud.rack := congrArg (·.dev.bud.rack) hparts
  have hheed := rack_mfrJzCapWrite hs ha (.inl rfl) hr ht
  exact absurd (hkept.symm.trans hheed) (by decide)

end Sys2Proof.Machine
end

section
/-! O57: the life cycle (R422, R427). A TAP instruction loads, or is refused and reported (`completes_tapLoad`,
`completes_tapRefuse`); no command's fuses (`fusesAfter`) stand earlier in the life cycle than those before it. -/

namespace Sys2Proof.Machine

/-! The TAP. -/

/-- A released part has RESET_N high. -/
theorem State.awake.resetN {s : State} (h : s.awake) : s.dev.pins.resetN = true := (Bool.and_eq_true_iff.mp h).1

theorem tap_allowed {code : Nat} {g : Dev → Dev} {d : Dev} (h : tapAllows code d.mg.lc d.pins.resetN = some true) :
    tap code g d = g (tapLoad code d) := if_pos h

theorem tap_refused {code : Nat} {g : Dev → Dev} {d : Dev} (h : tapAllows code d.mg.lc d.pins.resetN = some false) :
    tap code g d = tapRefuse code d := if_neg (by rw [h]; decide)

/-- R427: which of the instructions FIELD refuses while RESET_N is high. -/
theorem tapAllows_field {code : Nat} (h : code ∈ [0, 0x10, 0x11, 0x12, 0x13]) : tapAllows code .field true = some false := by
  revert code
  decide

/-- An instruction that loads changes the TAP's own state and BT_STATUS.TAP. -/
theorem tapLoad_fields (code : Nat) (d : Dev) {x : Fld} (h : ∀ y ∈ [BT_STATUS_TAP], x.apart y) : (tapLoad code d).rd x = d.rd x :=
  rd_wrB_ne BT_STATUS_TAP x _ _ (h _ (List.mem_singleton.mpr rfl))

section
variable {c : Instr} {s : State} {g : Dev → Dev} {fz : Fuses}

/-- A TAP command completes with its fuses and its effect, while the part is released. -/
theorem completes_selvedge {Q : State → Prop} (hc : exec c s = always (selvedge g) { s with fuses := fz }) (hs : s.awake)
    (hq : Q { s with dev := settle (g s.dev), fuses := fz }) : Completes c s Q := by
  refine ⟨_, hc.trans (always_next _ _), ?_⟩
  have hg : selvedge g s.dev = g s.dev := if_pos hs.resetN
  simpa only [hg] using hq

/-- R427: an instruction that loads, with no effect but on the fuses. -/
theorem completes_tapLoad {code : Nat} {fz' : Fuses} (hc : exec c s = always (selvedge g) { s with fuses := fz }) (hs : s.awake)
    (hg : g s.dev = tapLoad code s.dev) (hfz : fz = fz') :
    Completes c s fun t => t.fuses = fz' ∧ State.changes { s with fuses := t.fuses } t
      { s.dev with mg := { s.dev.mg with ir := code, extest := code = 0 } } [BT_STATUS_TAP] := by
  refine completes_selvedge hc hs ⟨hfz, ?_⟩
  rw [hg]
  exact changes_settle (s := { s with fuses := fz }) rfl fun x hx => tapLoad_fields code s.dev hx

/-- R427: an instruction that is refused loads BYPASS and is reported, and leaves the fuses. -/
theorem completes_tapRefuse {code : Nat} (hc : exec c s = always (selvedge g) { s with fuses := fz }) (hs : s.awake)
    (hg : g s.dev = tapRefuse code s.dev) (hfz : fz = s.fuses) :
    Completes c s fun t => s.changes t
      { s.dev with
        mg := { s.dev.mg with ir := 255, extest := false }
        fc := { s.dev.fc with raised := s.dev.fc.raised ++ [{ s.dev.report .secure 2 central 0 with addr := code, master := 1 }] } }
      [BT_STATUS_TAP] := by
  subst hfz
  refine completes_selvedge hc hs ?_
  rw [hg]
  exact changes_settle rfl fun x hx => tapLoad_fields tapBypass s.dev hx

end

/-- R427: an instruction of the TAP that FIELD does not allow. -/
theorem tap_field {d : Dev} {code : Nat} {g : Dev → Dev} (hlc : d.mg.lc = .field) (hN : d.pins.resetN = true)
    (h : code ∈ [0, 0x10, 0x11, 0x12, 0x13]) : tap code g d = tapRefuse code d :=
  tap_refused (by rw [hlc, hN]; exact tapAllows_field h)

/-! LC_ADV (R422). -/

/-- LC_ADV is refused in FIELD and RETURN, and in TEST with what FIELD needs missing. -/
theorem lcAdv_refused {d : Dev} {fz : Fuses}
    (h : d.mg.lc = .field ∨ d.mg.lc = .ret ∨ (d.mg.lc = .test ∧ lcMissing fz = true)) : lcAdv fz d = tapRefuse 0x13 d := by
  unfold lcAdv
  split
  · rfl
  next hn =>
    have hend : d.mg.lc = .field ∨ d.mg.lc = .ret := by
      rcases h with h | h | h
      · exact .inl h
      · exact .inr h
      · exact absurd h hn
    refine tap_refused ?_
    rcases hend with h | h <;> rw [h] <;> rfl

/-- LC_ADV loads in BLANK, and in TEST with nothing missing. -/
theorem lcAdv_loaded {d : Dev} {fz : Fuses} (h : d.mg.lc = .blank ∨ (d.mg.lc = .test ∧ lcMissing fz = false)) :
    lcAdv fz d = tapLoad 0x13 d := by
  unfold lcAdv
  rcases h with h | ⟨h, hm⟩
  · rw [h, if_neg (by simp), tap_allowed (by rw [h]; rfl)]
    rfl
  · rw [hm, if_neg (by simp), tap_allowed (by rw [h]; rfl)]
    rfl

/-- Where LC_ADV is refused it blows no fuse. -/
theorem lcAdvFuses_refused {d : Dev} {fz : Fuses}
    (h : d.mg.lc = .field ∨ d.mg.lc = .ret ∨ (d.mg.lc = .test ∧ lcMissing fz = true)) : lcAdvFuses d fz = fz := by
  unfold lcAdvFuses
  rcases h with h | h | ⟨h, hm⟩
  · simp [h]
  · simp [h]
  · simp [h, hm]

/-- What FIELD needs is missing where one of the three is not fused. -/
theorem lcMissing_iff (fz : Fuses) :
    lcMissing fz = true ↔ fz.rootSet = false ∨ fz.keySet = false ∨ fz.calibrated = false := by
  simp only [lcMissing, Bool.not_eq_true', Bool.and_eq_false_iff, or_assoc]

theorem lcMissing_eq_false {fz : Fuses} (hr : fz.rootSet = true) (hk : fz.keySet = true) (hc : fz.calibrated = true) :
    lcMissing fz = false := by
  rw [lcMissing, hr, hk, hc]
  rfl

/-! The fuses only move forward (R422). -/

theorem rank_le_lcAdvFuses (d : Dev) (fz : Fuses) : fz.lc.rank ≤ (lcAdvFuses d fz).lc.rank := by
  unfold lcAdvFuses
  split
  next h =>
    rw [h.2]
    exact Nat.zero_le _
  · split
    next h =>
      rw [h.2.1]
      exact Nat.le_succ 1
    · exact Nat.le_refl _

theorem LifeCycle.rank_le_ret (lc : LifeCycle) : lc.rank ≤ LifeCycle.ret.rank := by
  cases lc <;> decide

theorem rank_le_returnFuses (go : Bool) (fz : Fuses) : fz.lc.rank ≤ (returnFuses go fz).lc.rank := by
  unfold returnFuses
  split
  · exact fz.lc.rank_le_ret
  · exact Nat.le_refl _

theorem lc_readyFuses (d : Dev) (fz : Fuses) : (readyFuses d fz).lc = fz.lc := by
  unfold readyFuses
  split <;> rfl

theorem lc_fuseProg (root : Option Nat) (cal : Bool) (n : Nat) (d : Dev) (fz : Fuses) : (fuseProg root cal n d fz).lc = fz.lc := by
  unfold fuseProg
  split <;> rfl

theorem lc_idKeyFuses (d : Dev) (fz : Fuses) : (idKeyFuses d fz).lc = fz.lc := by
  unfold idKeyFuses
  split <;> rfl

/-- No command moves the life cycle back. -/
theorem rank_le_fusesAfter (s : State) (i : Instr) : s.fuses.lc.rank ≤ (fusesAfter s i).lc.rank := by
  cases i with
  | ready =>
    rw [fusesAfter_ready]
    split
    · exact Nat.le_of_eq (congrArg _ (lc_readyFuses _ _).symm)
    · exact Nat.le_refl _
  | fuse => exact Nat.le_of_eq (congrArg _ (lc_fuseProg _ _ _ _ _).symm)
  | idkey => exact Nat.le_of_eq (congrArg _ (lc_idKeyFuses _ _).symm)
  | lcAdv => exact rank_le_lcAdvFuses _ _
  | mfrJzReturn => exact rank_le_returnFuses _ _
  | _ => exact Nat.le_refl _

/-- A step leaves the fuses, or leaves them as the command at the front of the queue does. -/
theorem fuses_step {s t : State} (h : step s = .next t) :
    t.fuses = s.fuses ∨ ∃ i rest, t.fuses = fusesAfter { s with pending := rest } i := by
  cases hp : s.pending with
  | nil =>
    simp only [step, hp, Host.Outcome.next.injEq] at h
    exact .inl (by rw [h])
  | cons i rest =>
    simp only [step, hp] at h
    exact .inr ⟨i, rest, exec_fuses h⟩

/-- No step moves the life cycle back. -/
theorem rank_le_step {s t : State} (h : step s = .next t) : s.fuses.lc.rank ≤ t.fuses.lc.rank := by
  rcases fuses_step h with h | ⟨i, rest, h⟩
  · exact Nat.le_of_eq (congrArg (·.lc.rank) h.symm)
  · rw [h]
    exact rank_le_fusesAfter { s with pending := rest } i

/-- RETURN is the last state of the life cycle. -/
theorem LifeCycle.eq_ret_of_rank_le {lc : LifeCycle} (h : LifeCycle.ret.rank ≤ lc.rank) : lc = .ret := by
  cases lc with
  | ret => rfl
  | _ => exact absurd h (by decide)

/-! MFR_JZ_RETURN (R421). -/

/-- R421: a return that the device accepts. -/
theorem returns_accepted {d : Dev} {serial : List Nat} {p : Pec} (ha : d.pmAnswers = true) (hp : d.pecPasses p)
    (hlc : d.mg.lc = .field) (hser : serial = d.serial) : d.returns serial true p = true := by
  unfold Dev.returns
  rcases hp with rfl | ⟨rfl, hreq⟩
  · simp [ha, hlc, hser]
  · simp [ha, hlc, hser, hreq]

/-- A return that is accepted is counted and recorded as done, and does nothing more to the device. -/
theorem mfrReturn_accepted {d : Dev} {serial : List Nat} {p : Pec} (ha : d.pmAnswers = true) (hp : d.pecPasses p)
    (hlc : d.mg.lc = .field) (hser : serial = d.serial) :
    mfrReturn serial true p d = d.counted.recorded 0xE9 true pmDone := by
  rw [mfrReturn, pmWrite_passed ha hp]
  dsimp only
  rw [if_pos ⟨hlc, rfl, hser⟩]

/-- A transaction that is done and has no effect of its own changes the counts, PM_LAST and the answer alone. -/
theorem changes_recorded {s : State} (cmd : Nat) (write : Bool) :
    s.changes { s with dev := settle (s.dev.counted.recorded cmd write pmDone) }
      { s.dev with mg := { s.dev.mg with reply := [] } } [PM_CNT_XFERS, PM_LAST_CMD, PM_LAST_WRITE, PM_LAST_RESULT] := by
  refine changes_settle ?_ fun x hx => ?_
  · have hcml : s.dev.mg.cml ||| cmlBit pmDone = s.dev.mg.cml := Nat.or_zero _
    simp only [Dev.recorded, Dev.counted, setCml, reply, Dev.updMg, Dev.wr, Dev.wrB, Dev.inc, Dev.add, Dev.setReg, hcml]
  · simp only [List.forall_mem_cons] at hx
    obtain ⟨hxfers, hcmd, hwrite, hresult, -⟩ := hx
    rw [rd_recorded_ne _ _ _ _ hcmd hwrite hresult, rd_counted_ne _ hxfers]

/-! Where the life cycle shows (R417, R430). -/

theorem LifeCycle.code_lt (lc : LifeCycle) : lc.code < 4 := by
  cases lc <;> decide

@[simp] theorem settle_lc (d : Dev) : (settle d).mg.lc = d.mg.lc := by rw [settle_eq d]
@[simp] theorem settle_reply (d : Dev) : (settle d).mg.reply = d.mg.reply := by rw [settle_eq d]

/-- The core reads JZ_STATUS: the word stored, with LC in its field. -/
theorem busRead_jzStatus (fz : Fuses) (sub : Nat) (d : Dev) :
    busRead fz .core sub 0x20000004 d = answer (fldSet JZ_STATUS_LC d.mg.lc.code (d.reg 0x20000004)) d := by
  have hdec : decoded 0x20000004 = true := by decide +kernel
  have hplace : placeOf 0x20000004 = some ⟨.jz, 0, 0, 4⟩ := by decide
  have hpair : roPair 0x20000004 = none ∧ rwPair 0x20000004 = none ∧ roPair 0x20000000 = none ∧ rwPair 0x20000000 = none := by decide
  obtain ⟨hro, hrw, hro', hrw'⟩ := hpair
  have hopen : d.blockOpen 0x20000004 = true := by
    rw [Dev.blockOpen, hplace]
    rfl
  have hview : d.view fz .core sub 0x20000004 = fldSet JZ_STATUS_LC d.mg.lc.code (d.reg 0x20000004) := by
    rw [Dev.view, hplace]
    rfl
  have hread : readReg fz .core sub 0x20000004 d = answer (d.view fz .core sub 0x20000004) d := by
    simp [readReg, hplace, hro, hrw, hro', hrw', CK_WAIT_TIME_US]
  simp [busRead, Dev.denied, hdec, hopen, hread, hview, inRom, inSram]

/-- JZ_STATUS.LC of that word. -/
theorem lc_of_jzStatus (lc : LifeCycle) (w : Word) : (fldSet JZ_STATUS_LC lc.code w).toNat / 4 % 4 = lc.code :=
  (fldGet_fldSet_same JZ_STATUS_LC lc.code w (by decide)).trans (Nat.mod_eq_of_lt lc.code_lt)

/-- The answer to a read of the PMBus. -/
theorem reply_pmRead {d : Dev} (h : d.pmAnswers = true) (cmd : Nat) (g : Dev → List Nat) :
    (pmRead cmd g d).mg.reply = g d.counted := by
  rw [pmRead, transact_answered h]
  rfl

/-- R417: byte 2 of MFR_JZ_STATUS holds the life cycle in its low bits. -/
theorem lc_of_mfrStatus (d : Dev) : d.mfrStatus.getD 2 0 % 4 = d.mg.lc.code := by
  have := d.mg.lc.code_lt
  change (d.mg.lc.code + d.rd JZ_SEL_STATUS_OFF * 4) % 4 = d.mg.lc.code
  omega

/-- Settles O57: LC_ADV and the refused instructions by `completes_tapLoad` and `completes_tapRefuse`, the return by
`mfrReturn_accepted`, the steps by `rank_le_step`, what shows by `busRead_jzStatus` and `lc_of_mfrStatus`. -/
theorem lifeCycleMoves : Obligations.LifeCycleMoves := by
  unfold Obligations.LifeCycleMoves
  refine ⟨fun s hs hlc hfz => ?_, fun s hs hlc hfz hroot hkey hcal => ?_, fun s hs h => ?_,
    fun s r p hs ha hp hlc hser => ?_, fun s hs hlc x y r b n l a v q z hz => ?_, fun s t h => ?_,
    fun s _ => ⟨_, rfl, settle_lc _, rfl⟩, fun s a q hs haddr => ?_, fun s hs ha => ?_⟩
  · exact completes_tapLoad rfl hs (lcAdv_loaded (.inl hlc)) (if_pos ⟨hlc, hfz⟩)
  · have hm := lcMissing_eq_false hroot hkey hcal
    refine completes_tapLoad rfl hs (lcAdv_loaded (.inr ⟨hlc, hm⟩)) ?_
    simp [lcAdvFuses, hlc, hfz, hm]
  · rw [← lcMissing_iff] at h
    exact completes_tapRefuse rfl hs (lcAdv_refused h) (lcAdvFuses_refused h)
  · refine ⟨_, done_high _ _ hs, ?_⟩
    rw [mfrReturn_accepted ha hp hlc hser, returns_accepted ha hp hlc hser]
    refine ⟨?_, ?_, ?_, ?_, rfl, changes_recorded _ _⟩
    · exact ((settle_rd _ _ (by decide)).trans (rd_recorded_ne _ _ _ _ (by decide) (by decide) (by decide))).trans
        (rd_counted_xfers _)
    · exact (settle_rd _ _ (by decide)).trans (rd_recorded_cmd _ _ _ (by decide))
    · exact (settle_rdB _ _ (by decide)).trans (rdB_recorded_write _ _ _ _)
    · exact (settle_rd _ _ (by decide)).trans (rd_recorded_result _ _ _ (by decide))
  · have htap {code : Nat} (g : Dev → Dev) (h : code ∈ [0, 0x10, 0x11, 0x12, 0x13]) : tap code g s.dev = tapRefuse code s.dev :=
      tap_field hlc hs.resetN h
    simp only [List.mem_cons, List.not_mem_nil, or_false] at hz
    rcases hz with rfl | rfl | rfl | rfl | rfl
    · exact completes_tapRefuse rfl hs (htap _ (by decide)) rfl
    · exact completes_tapRefuse rfl hs (htap _ (by decide)) rfl
    · exact completes_tapRefuse rfl hs (htap _ (by decide)) (if_neg (by rw [hlc]; decide))
    · exact completes_tapRefuse rfl hs (htap _ (by decide)) (if_neg (by rw [hlc]; decide))
    · exact completes_tapRefuse rfl hs (lcAdv_refused (.inl hlc)) (lcAdvFuses_refused (.inl hlc))
  · have hrank := rank_le_step h
    exact ⟨hrank, fun hret => LifeCycle.eq_ret_of_rank_le (hret ▸ hrank)⟩
  · refine completes_done rfl hs ?_
    have hcore : masterOf 8 = .core := rfl
    rw [hcore, haddr, busRead_jzStatus, settle_busData]
    exact ⟨lc_of_jzStatus _ _, changes_settle rfl fun x _ => rfl⟩
  · refine completes_done rfl hs ?_
    rw [settle_reply, reply_pmRead ha]
    exact lc_of_mfrStatus _

end Sys2Proof.Machine
end

section
/-! O1 to O4: the step, and reset. O55 and O56: what a step may do to the fuses (R422), from what each of the five commands
that blow some does to them (`fusesAfter`). -/

namespace Sys2Proof.Machine

/-! The step. -/

/-- Settles O1: the step runs the command at the front. -/
theorem stepRunsFrontCommand : Obligations.StepRunsFrontCommand := by
  intro c rest s h
  rw [step, h]

/-- Settles O2: an empty queue leaves the state. -/
theorem stepIdlesOnEmptyQueue : Obligations.StepIdlesOnEmptyQueue := by
  intro s h
  rw [step, h]

/-- Settles O3, by `exec_next_fuses`. -/
theorem everyCommandAnswers : Obligations.EveryCommandAnswers := by
  intro c s
  obtain ⟨d, hd⟩ := exec_next_fuses c s
  exact ⟨_, hd, rfl⟩

/-! Reset. -/

/-- A field of a register reads its reset value after reset. -/
theorem rd_reset (x : Fld) : State.reset.dev.rd x = fldGet x (resetWord x.addr) := rfl

/-- No steward shows hold-safe at reset. -/
theorem holdSafe_reset (f : Fin 96) : State.reset.dev.rdB (ST_OP_STATUS_HOLD_SAFE f) = false := by
  revert f
  decide +kernel

/-- Settles O4: every register reads its reset value, and nothing is in progress. -/
theorem resetLeaves : Obligations.ResetLeaves := by
  unfold Obligations.ResetLeaves
  refine ⟨by decide +kernel, by decide +kernel, by decide +kernel, fun _ => rfl, by decide +kernel, by decide +kernel,
    holdSafe_reset, ⟨nofun, nofun⟩, rfl, rfl⟩

/-! What fuses may become (R422). -/

/-- From one set of fuses to the next nothing unburns: the life cycle moves forward, what is fused stays fused, and soundness
is kept. -/
def Fuses.Burns (a b : Fuses) : Prop :=
  a.lc.rank ≤ b.lc.rank ∧ (a.rootSet = true → b.rootSet = true ∧ b.rootHash = a.rootHash) ∧
    (a.keySet = true → b.keySet = true) ∧ (a.keyKilled = true → b.keyKilled = true) ∧
    (a.calibrated = true → b.calibrated = true) ∧ a.secver ≤ b.secver ∧ b.site = a.site ∧ b.rev = a.rev ∧
    (a.sound → b.sound)

theorem Fuses.Burns.refl (a : Fuses) : a.Burns a :=
  ⟨Nat.le_refl _, fun h => ⟨h, rfl⟩, id, id, id, Nat.le_refl _, rfl, rfl, id⟩

/-- A count that rises burns nothing else (R333). -/
theorem Fuses.Burns.secver {a : Fuses} {n : Nat} (h : a.secver ≤ n) : a.Burns { a with secver := n } :=
  ⟨Nat.le_refl _, fun h => ⟨h, rfl⟩, id, id, id, h, rfl, rfl, id⟩

theorem burns_readyFuses (d : Dev) (fz : Fuses) : fz.Burns (readyFuses d fz) := by
  unfold readyFuses
  split
  · exact .secver (Nat.le_max_left _ _)
  · exact .refl fz

/-- FUSE adds to what is fused, and keeps the hash of a root key that is (R427). -/
theorem burns_fuseProg (root : Option Nat) (cal : Bool) (n : Nat) (d : Dev) (fz : Fuses) : fz.Burns (fuseProg root cal n d fz) := by
  unfold fuseProg
  split
  · refine ⟨Nat.le_refl _, fun h => ⟨by rw [h]; rfl, if_pos h⟩, id, id, fun h => by rw [h]; rfl, Nat.le_max_left _ _, rfl, rfl, ?_⟩
    rintro ⟨hfield, hret⟩
    refine ⟨fun h => ?_, hret⟩
    obtain ⟨hroot, hkey, hcal⟩ := hfield h
    exact ⟨by rw [hroot]; rfl, hkey, by rw [hcal]; rfl⟩
  · exact .refl fz

theorem burns_idKeyFuses (d : Dev) (fz : Fuses) : fz.Burns (idKeyFuses d fz) := by
  unfold idKeyFuses
  split
  · exact ⟨Nat.le_refl _, fun h => ⟨h, rfl⟩, fun _ => rfl, id, id, Nat.le_refl _, rfl, rfl,
      fun ⟨hfield, hret⟩ => ⟨fun h => ⟨(hfield h).1, rfl, (hfield h).2.2⟩, hret⟩⟩
  · exact .refl fz

/-- LC_ADV reaches FIELD only with nothing missing (R422). -/
theorem sound_lcAdvFuses (d : Dev) {fz : Fuses} (h : fz.sound) : (lcAdvFuses d fz).sound := by
  unfold lcAdvFuses
  split
  · exact ⟨nofun, nofun⟩
  · split
    next hm =>
      obtain ⟨-, -, hmiss⟩ := hm
      simp only [lcMissing, Bool.not_eq_false', Bool.and_eq_true] at hmiss
      obtain ⟨⟨hroot, hkey⟩, hcal⟩ := hmiss
      exact ⟨fun _ => ⟨hroot, hkey, hcal⟩, nofun⟩
    · exact h

theorem lcAdvFuses_eq (d : Dev) (fz : Fuses) : lcAdvFuses d fz = { fz with lc := (lcAdvFuses d fz).lc } := by
  unfold lcAdvFuses
  split
  · rfl
  · split <;> rfl

theorem burns_lcAdvFuses (d : Dev) (fz : Fuses) : fz.Burns (lcAdvFuses d fz) := by
  have hsound := sound_lcAdvFuses d (fz := fz)
  have hrank := rank_le_lcAdvFuses d fz
  rw [lcAdvFuses_eq] at hsound hrank ⊢
  exact ⟨hrank, fun h => ⟨h, rfl⟩, id, id, id, Nat.le_refl _, rfl, rfl, hsound⟩

theorem burns_returnFuses (go : Bool) (fz : Fuses) : fz.Burns (returnFuses go fz) := by
  unfold returnFuses
  split
  · exact ⟨fz.lc.rank_le_ret, fun h => ⟨h, rfl⟩, id, fun _ => rfl, id, Nat.le_refl _, rfl, rfl,
      fun _ => ⟨nofun, fun _ => rfl⟩⟩
  · exact .refl fz

/-- No command unburns a fuse. -/
theorem burns_fusesAfter (s : State) (i : Instr) : s.fuses.Burns (fusesAfter s i) := by
  cases i with
  | ready =>
    rw [fusesAfter_ready]
    split
    · exact burns_readyFuses _ _
    · exact .refl _
  | fuse => exact burns_fuseProg _ _ _ _ _
  | idkey => exact burns_idKeyFuses _ _
  | lcAdv => exact burns_lcAdvFuses _ _
  | mfrJzReturn => exact burns_returnFuses _ _
  | _ => exact .refl _

/-- Settles O55: a step leaves the fuses or runs a command (`fuses_step`), and no command unburns one. -/
theorem fusesOnlyBurn : Obligations.FusesOnlyBurn := by
  intro s t h
  rcases fuses_step h with h | ⟨i, rest, h⟩
  · rw [h]
    exact Fuses.Burns.refl _
  · rw [h]
    exact burns_fusesAfter { s with pending := rest } i

/-! Which commands change a fuse. -/

theorem returns_field {d : Dev} {serial : List Nat} {ok : Bool} {p : Pec} (h : d.returns serial ok p = true) :
    d.mg.lc = .field ∧ serial = d.serial := by
  simp only [Dev.returns, Bool.and_eq_true, decide_eq_true_eq] at h
  obtain ⟨⟨⟨⟨-, hlc⟩, -⟩, hser⟩, -⟩ := h
  exact ⟨hlc, hser⟩

/-- LC_ADV changes the fuses in BLANK and TEST alone. -/
theorem lcAdvFuses_ne {d : Dev} {fz : Fuses} (h : lcAdvFuses d fz ≠ fz) : d.mg.lc = .blank ∨ d.mg.lc = .test := by
  unfold lcAdvFuses at h
  split at h
  next hb => exact .inl hb.1
  · split at h
    next ht => exact .inr ht.1
    · exact absurd rfl h

/-- READY changes the fuses in FIELD alone, and of them SECVER alone (R333). -/
theorem readyFuses_ne {d : Dev} {fz : Fuses} (h : readyFuses d fz ≠ fz) :
    d.mg.lc = .field ∧ readyFuses d fz = { fz with secver := (readyFuses d fz).secver } := by
  unfold readyFuses at h ⊢
  split at h
  next hr =>
    rw [if_pos hr]
    exact ⟨hr.2.2, rfl⟩
  · exact absurd rfl h

/-- Settles O56: the five commands that blow fuses (`fusesAfter`), each in the life cycles that let it. -/
theorem fuseCommands : Obligations.FuseCommands := by
  intro i s t h hne
  rw [exec_fuses h] at hne ⊢
  cases i with
  | fuse root cal n =>
    refine .inl ⟨root, cal, n, rfl, ?_, lc_fuseProg _ _ _ _ _⟩
    refine Decidable.byContradiction fun hlc => ?_
    exact hne (if_neg hlc)
  | idkey b =>
    have hlc : s.dev.mg.lc = .test := by
      refine Decidable.byContradiction fun hlc => ?_
      exact hne (if_neg hlc)
    exact .inr (.inl ⟨b, rfl, hlc, if_pos hlc⟩)
  | lcAdv => exact .inr (.inr (.inl ⟨rfl, lcAdvFuses_ne hne, lcAdvFuses_eq _ _⟩))
  | mfrJzReturn r b p =>
    have hr : s.dev.returns (nats r) b p = true := by
      refine Decidable.byContradiction fun hr => ?_
      exact hne (if_neg hr)
    obtain ⟨hlc, hser⟩ := returns_field hr
    exact .inr (.inr (.inr (.inl ⟨r, b, p, rfl, hlc, hser, congrArg Fuses.lc (if_pos hr)⟩)))
  | ready =>
    rw [fusesAfter_ready] at hne ⊢
    split at hne
    next hrel =>
      rw [if_pos hrel]
      exact .inr (.inr (.inr (.inr ⟨rfl, readyFuses_ne hne⟩)))
    · exact absurd rfl hne
  | _ => exact absurd rfl hne

end Sys2Proof.Machine
end

section
/-! The registers that a statement names, read through the changes that a command makes: one rule for each kind of write, each
under the hypothesis that the field read shares no bit with the field written; and the forms in which a command completes. -/

namespace Sys2Proof.Machine

/-! Reads of fields apart from the one written. -/

section
variable {x fl : Fld} {d : Dev}

@[simp] theorem rd_settle (h : x.apart PM_STATUS_ALERT) : (settle d).rd x = d.rd x := settle_rd d x h
@[simp] theorem rdB_settle (h : x.apart PM_STATUS_ALERT) : (settle d).rdB x = d.rdB x := settle_rdB d x h
@[simp] theorem rd_wr_apart (v : Nat) (h : x.apart fl) : (d.wr fl v).rd x = d.rd x := rd_wr_ne fl x v d h
@[simp] theorem rdB_wr_apart (v : Nat) (h : x.apart fl) : (d.wr fl v).rdB x = d.rdB x := by rw [Dev.rdB, rd_wr_apart v h, Dev.rdB]
@[simp] theorem rdS_wr_apart (v : Nat) (h : x.apart fl) : (d.wr fl v).rdS x = d.rdS x := by rw [Dev.rdS, rd_wr_apart v h, Dev.rdS]
@[simp] theorem rd_wrB_apart (b : Bool) (h : x.apart fl) : (d.wrB fl b).rd x = d.rd x := rd_wr_apart _ h
@[simp] theorem rdB_wrB_apart (b : Bool) (h : x.apart fl) : (d.wrB fl b).rdB x = d.rdB x := rdB_wr_apart _ h
@[simp] theorem rdS_wrB_apart (b : Bool) (h : x.apart fl) : (d.wrB fl b).rdS x = d.rdS x := rdS_wr_apart _ h
@[simp] theorem rd_wrS_apart (z : Int) (h : x.apart fl) : (d.wrS fl z).rd x = d.rd x := rd_wr_apart _ h
@[simp] theorem rdB_wrS_apart (z : Int) (h : x.apart fl) : (d.wrS fl z).rdB x = d.rdB x := rdB_wr_apart _ h
@[simp] theorem rdS_wrS_apart (z : Int) (h : x.apart fl) : (d.wrS fl z).rdS x = d.rdS x := rdS_wr_apart _ h
@[simp] theorem rd_add_apart (n : Nat) (h : x.apart fl) : (d.add fl n).rd x = d.rd x := rd_wr_apart _ h
@[simp] theorem rdB_add_apart (n : Nat) (h : x.apart fl) : (d.add fl n).rdB x = d.rdB x := rdB_wr_apart _ h
@[simp] theorem rd_inc_apart (h : x.apart fl) : (d.inc fl).rd x = d.rd x := rd_wr_apart _ h
@[simp] theorem rdB_inc_apart (h : x.apart fl) : (d.inc fl).rdB x = d.rdB x := rdB_wr_apart _ h
@[simp] theorem rdS_inc_apart (h : x.apart fl) : (d.inc fl).rdS x = d.rdS x := rdS_wr_apart _ h

/-! Reads of the field written. -/

@[simp] theorem rd_wr_eq (v : Nat) (h : x.fits) : (d.wr x v).rd x = v % 2 ^ x.w := rd_wr_same x v d h
@[simp] theorem rdB_wrB_eq (b : Bool) (h : x.w = 1 ∧ x.fits) : (d.wrB x b).rdB x = b := rdB_wrB_same x b d h.1 h.2
theorem rd_inc_eq (h : x.fits) : (d.inc x).rd x = satN (2 ^ x.w - 1) (d.rd x + 1) := rd_inc_same x d h

/-- A field holds a number below the power of its width. -/
theorem rd_lt (x : Fld) (d : Dev) : d.rd x < 2 ^ x.w := bitsOf_lt _ _ _

end

/-- A field of a register that holds a word. -/
theorem rd_of_reg {d : Dev} {a : Nat} {w : Word} (x : Fld) (ha : x.addr = a) (h : d.reg a = w) : d.rd x = fldGet x w := by
  rw [Dev.rd, ha, h]

theorem rd_eq_of_reg {d d' : Dev} {x : Fld} (h : d'.reg x.addr = d.reg x.addr) : d'.rd x = d.rd x := by rw [Dev.rd, h, Dev.rd]

/-! Reads through repeated and conditional changes. -/

theorem rd_onlyIf {x : Fld} {b : Bool} {g : Dev → Dev} {d : Dev} (h : (g d).rd x = d.rd x) : (onlyIf b g d).rd x = d.rd x := by
  unfold onlyIf
  split
  · exact h
  · rfl

theorem rd_forL {α : Type} {x : Fld} (l : List α) {g : α → Dev → Dev} (d : Dev) (h : ∀ a d, (g a d).rd x = d.rd x) :
    (forL l g d).rd x = d.rd x := forL_keep (fun d => d.rd x) l g h d

theorem rd_forN {x : Fld} (n : Nat) {g : Nat → Dev → Dev} (d : Dev) (h : ∀ i d, (g i d).rd x = d.rd x) :
    (forN n g d).rd x = d.rd x := forN_keep (fun d => d.rd x) n g h d

/-! A device without its registers. Two devices that differ in their registers alone are one bare device, so that what a
command changes beside the registers is read off from the bare devices. The rules are applied as equations, and never left to
the kernel's reduction (`simp -implicitDefEqProofs`), which would compute register tables. -/

/-- The device with no register written. -/
def Dev.bare (d : Dev) : Dev := { d with regs := [] }

theorem eq_of_bare {d e : Dev} (h : d.bare = e.bare) : d = { e with regs := d.regs } :=
  calc d = { d.bare with regs := d.regs } := rfl
    _ = { e.bare with regs := d.regs } := by rw [h]
    _ = { e with regs := d.regs } := rfl

@[simp] theorem bare_bare (d : Dev) : d.bare.bare = d.bare := rfl

/-- A device given part by part. -/
theorem bare_mk (r : Tab Word) (sram shadow busData pins time pat dom fld cls tile inst bud led rp fc pp clk start nv test ev mg sel
    chan opt out hostFull fresh) :
    Dev.bare ⟨r, sram, shadow, busData, pins, time, pat, dom, fld, cls, tile, inst, bud, led, rp, fc, pp, clk, start, nv, test, ev,
      mg, sel, chan, opt, out, hostFull, fresh⟩ =
    ⟨[], sram, shadow, busData, pins, time, pat, dom, fld, cls, tile, inst, bud, led, rp, fc, pp, clk, start, nv, test, ev,
      mg, sel, chan, opt, out, hostFull, fresh⟩ := rfl

section
variable (d : Dev)

@[simp] theorem bare_setReg (a : Nat) (w : Word) : (d.setReg a w).bare = d.bare := rfl
@[simp] theorem bare_wr (fl : Fld) (v : Nat) : (d.wr fl v).bare = d.bare := rfl
@[simp] theorem bare_wrB (fl : Fld) (b : Bool) : (d.wrB fl b).bare = d.bare := rfl
@[simp] theorem bare_wrS (fl : Fld) (z : Int) : (d.wrS fl z).bare = d.bare := rfl
@[simp] theorem bare_add (fl : Fld) (n : Nat) : (d.add fl n).bare = d.bare := rfl
@[simp] theorem bare_inc (fl : Fld) : (d.inc fl).bare = d.bare := rfl
@[simp] theorem time_updTime (g : TimeS → TimeS) : (d.updTime g).time = g d.time := rfl
@[simp] theorem bare_conflict (fl : Fld) : (conflict fl d).bare = d.bare := rfl
@[simp] theorem bare_updPt (f p : Nat) (g : PatchS → PatchS) : (d.updPt f p g).bare = d.bare.updPt f p g := rfl
@[simp] theorem bare_updDm (f k : Nat) (g : DomS → DomS) : (d.updDm f k g).bare = d.bare.updDm f k g := rfl
@[simp] theorem bare_updFd (f : Nat) (g : FieldS → FieldS) : (d.updFd f g).bare = d.bare.updFd f g := rfl
@[simp] theorem bare_updCl (f c : Nat) (g : ClassB → ClassB) : (d.updCl f c g).bare = d.bare.updCl f c g := rfl
@[simp] theorem bare_updTi (f p n : Nat) (g : TileS → TileS) : (d.updTi f p n g).bare = d.bare.updTi f p n g := rfl
@[simp] theorem bare_updIn (f i : Nat) (g : InstS → InstS) : (d.updIn f i g).bare = d.bare.updIn f i g := rfl
@[simp] theorem bare_updLins (l : LoopRef) (g : InstS → InstS) : (d.updLins l g).bare = d.bare.updLins l g := rfl
@[simp] theorem bare_setEnt (k : Nat) (e : Option Entry) : (d.setEnt k e).bare = d.bare.setEnt k e := rfl
@[simp] theorem bare_setRecd (k : Nat) (r : Option RRec) : (d.setRecd k r).bare = d.bare.setRecd k r := rfl
@[simp] theorem bare_setJob (j : Nat) (e : Option JobE) : (d.setJob j e).bare = d.bare.setJob j e := rfl
@[simp] theorem bare_takeFree : (d.takeFree).bare = d.bare.takeFree := rfl
@[simp] theorem bare_emit (o : Out) : (d.emit o).bare = d.bare.emit o := rfl
@[simp] theorem bare_raiseR (r : Report) : (d.raiseR r).bare = d.bare.raiseR r := rfl
@[simp] theorem bare_raise (c : FClass) (y f n : Nat) : (d.raise c y f n).bare = d.bare.raise c y f n := rfl
@[simp] theorem bare_updTime (g : TimeS → TimeS) : (d.updTime g).bare = d.bare.updTime g := rfl
@[simp] theorem bare_updNv (g : NvmS → NvmS) : (d.updNv g).bare = d.bare.updNv g := rfl
@[simp] theorem bare_updSel (g : SelS → SelS) : (d.updSel g).bare = d.bare.updSel g := rfl
@[simp] theorem bare_updMg (g : MgmtS → MgmtS) : (d.updMg g).bare = d.bare.updMg g := rfl
@[simp] theorem bare_updEv (g : RecS → RecS) : (d.updEv g).bare = d.bare.updEv g := rfl
@[simp] theorem bare_updPP (g : PeerS → PeerS) : (d.updPP g).bare = d.bare.updPP g := rfl
@[simp] theorem bare_setPeer (i : Nat) (x : Option Peer) : (d.setPeer i x).bare = d.bare.setPeer i x := rfl
@[simp] theorem bare_updLed (g : LedgerS → LedgerS) : (d.updLed g).bare = d.bare.updLed g := rfl
@[simp] theorem bare_updRp (g : ReplayS → ReplayS) : (d.updRp g).bare = d.bare.updRp g := rfl
@[simp] theorem bare_updBud (g : BudgetS → BudgetS) : (d.updBud g).bare = d.bare.updBud g := rfl
@[simp] theorem bare_updTest (g : TestS → TestS) : (d.updTest g).bare = d.bare.updTest g := rfl

end

theorem bare_onlyIf {b : Bool} {g : Dev → Dev} {d : Dev} (h : (g d).bare = d.bare) : (onlyIf b g d).bare = d.bare := by
  unfold onlyIf
  split
  · exact h
  · rfl

theorem bare_forL {α : Type} (l : List α) {g : α → Dev → Dev} (h : ∀ a d, (g a d).bare = d.bare) (d : Dev) :
    (forL l g d).bare = d.bare := forL_keep Dev.bare l g h d

theorem bare_forN (n : Nat) {g : Nat → Dev → Dev} (h : ∀ i d, (g i d).bare = d.bare) (d : Dev) : (forN n g d).bare = d.bare :=
  forN_keep Dev.bare n g h d

/-! Reads of registers through updates of other parts of the state. -/

section
variable (d : Dev)

@[simp] theorem updLins_rd (l : LoopRef) (g : InstS → InstS) (x : Fld) : (d.updLins l g).rd x = d.rd x := rfl
@[simp] theorem updLins_rdB (l : LoopRef) (g : InstS → InstS) (x : Fld) : (d.updLins l g).rdB x = d.rdB x := rfl
@[simp] theorem updLins_rdS (l : LoopRef) (g : InstS → InstS) (x : Fld) : (d.updLins l g).rdS x = d.rdS x := rfl
@[simp] theorem updSel_rd (g : SelS → SelS) (x : Fld) : (d.updSel g).rd x = d.rd x := rfl
@[simp] theorem updSel_rdB (g : SelS → SelS) (x : Fld) : (d.updSel g).rdB x = d.rdB x := rfl
@[simp] theorem updSel_rdS (g : SelS → SelS) (x : Fld) : (d.updSel g).rdS x = d.rdS x := rfl
@[simp] theorem updEv_rd (g : RecS → RecS) (x : Fld) : (d.updEv g).rd x = d.rd x := rfl
@[simp] theorem updEv_rdB (g : RecS → RecS) (x : Fld) : (d.updEv g).rdB x = d.rdB x := rfl
@[simp] theorem updEv_rdS (g : RecS → RecS) (x : Fld) : (d.updEv g).rdS x = d.rdS x := rfl
@[simp] theorem updPP_rd (g : PeerS → PeerS) (x : Fld) : (d.updPP g).rd x = d.rd x := rfl
@[simp] theorem updPP_rdB (g : PeerS → PeerS) (x : Fld) : (d.updPP g).rdB x = d.rdB x := rfl
@[simp] theorem updPP_rdS (g : PeerS → PeerS) (x : Fld) : (d.updPP g).rdS x = d.rdS x := rfl
@[simp] theorem setPeer_rd (i : Nat) (y : Option Peer) (x : Fld) : (d.setPeer i y).rd x = d.rd x := rfl
@[simp] theorem setPeer_rdB (i : Nat) (y : Option Peer) (x : Fld) : (d.setPeer i y).rdB x = d.rdB x := rfl
@[simp] theorem setPeer_rdS (i : Nat) (y : Option Peer) (x : Fld) : (d.setPeer i y).rdS x = d.rdS x := rfl
@[simp] theorem updLed_rd (g : LedgerS → LedgerS) (x : Fld) : (d.updLed g).rd x = d.rd x := rfl
@[simp] theorem updLed_rdB (g : LedgerS → LedgerS) (x : Fld) : (d.updLed g).rdB x = d.rdB x := rfl
@[simp] theorem updLed_rdS (g : LedgerS → LedgerS) (x : Fld) : (d.updLed g).rdS x = d.rdS x := rfl
@[simp] theorem updRp_rd (g : ReplayS → ReplayS) (x : Fld) : (d.updRp g).rd x = d.rd x := rfl
@[simp] theorem updRp_rdB (g : ReplayS → ReplayS) (x : Fld) : (d.updRp g).rdB x = d.rdB x := rfl
@[simp] theorem updRp_rdS (g : ReplayS → ReplayS) (x : Fld) : (d.updRp g).rdS x = d.rdS x := rfl
@[simp] theorem updBud_rd (g : BudgetS → BudgetS) (x : Fld) : (d.updBud g).rd x = d.rd x := rfl
@[simp] theorem updBud_rdB (g : BudgetS → BudgetS) (x : Fld) : (d.updBud g).rdB x = d.rdB x := rfl
@[simp] theorem updBud_rdS (g : BudgetS → BudgetS) (x : Fld) : (d.updBud g).rdS x = d.rdS x := rfl
@[simp] theorem updTest_rd (g : TestS → TestS) (x : Fld) : (d.updTest g).rd x = d.rd x := rfl
@[simp] theorem updTest_rdB (g : TestS → TestS) (x : Fld) : (d.updTest g).rdB x = d.rdB x := rfl
@[simp] theorem updTest_rdS (g : TestS → TestS) (x : Fld) : (d.updTest g).rdS x = d.rdS x := rfl

end

/-! How a command completes. -/

section
variable {c : Instr} {s : State} {g : Dev → Dev}

/-- A command whose change leaves everything as it was. -/
theorem completes_unchanged (hc : exec c s = done g s) (hs : s.awake) (hg : g s.dev = s.dev) :
    Completes c s fun t => s.changes t s.dev [] :=
  completes_done hc hs (by rw [hg]; exact changes_settle rfl fun _ _ => rfl)

/-- A command with a known next state of the device. -/
theorem completes_eq {Q : State → Prop} {d : Dev} (hc : exec c s = done g s) (hs : s.awake) (hg : g s.dev = d)
    (hq : Q { s with dev := settle d }) : Completes c s Q :=
  completes_done hc hs (by rw [hg]; exact hq)

/-- A change with its bare device and the fields that it keeps, settled. -/
theorem changes_bare {d e : Dev} {l : List Fld} (h : d.bare = e.bare)
    (h' : ∀ x : Fld, (∀ y ∈ l, x.apart y) → d.rd x = s.dev.rd x) : s.changes { s with dev := settle d } e l :=
  changes_settle (eq_of_bare h) h'

/-- A command refused for the present state sets its STATE_CONFLICT, and nothing else. -/
theorem completes_conflict {fl : Fld} (hc : exec c s = done g s) (hs : s.awake) (hg : g s.dev = conflict fl s.dev)
    (hw : fl.w = 1 ∧ fl.fits) (ha : fl.apart PM_STATUS_ALERT) :
    Completes c s fun t => t.dev.rdB fl = true ∧ s.changes t s.dev [fl] := by
  refine completes_eq hc hs hg ⟨(rdB_settle ha).trans (rdB_wrB_eq true hw), changes_settle rfl fun x hx => ?_⟩
  exact rd_wrB_apart true (hx _ (List.mem_singleton.mpr rfl))

end

end Sys2Proof.Machine
end

section
/-! O5 and O6: the register bus (R14 to R18, R409, R410). What an access of the core comes to at an address of the SRAM, of a
register, and at one that nothing decodes, is said once each. -/

namespace Sys2Proof.Machine

/-! The SRAM (R14, R15). -/

theorem putBytes_eq (off : Nat) (bs : List Nat) (d : Dev) : putBytes off bs d = { d with sram := (putBytes off bs d).sram } := by
  induction bs generalizing off d with
  | nil => rfl
  | cons b bs ih =>
    rw [putBytes, ih]
    rfl

/-- The four bytes at an offset, as the word that they spell. -/
theorem memWord_eq (d : Dev) (off : Nat) : d.memWord off =
    BitVec.ofNat 32 (ofBytes [(d.byte off).toNat, (d.byte (off + 1)).toNat, (d.byte (off + 2)).toNat, (d.byte (off + 3)).toNat]) := rfl

/-- A word written is read back. -/
theorem memWord_putWord (off : Nat) (w : Word) (d : Dev) : (putWord off w d).memWord off = w := by
  have hbyte (i : Nat) (h : i < 4) : ((putWord off w d).byte (off + i)).toNat = (leBytes 4 w.toNat).getD i 0 % 256 := by
    rw [putWord, byte_putBytes_in _ _ _ (by rwa [leBytes_length]), BitVec.toNat_ofNat]
  have hbytes : [((putWord off w d).byte off).toNat, ((putWord off w d).byte (off + 1)).toNat,
      ((putWord off w d).byte (off + 2)).toNat, ((putWord off w d).byte (off + 3)).toNat] = leBytes 4 w.toNat := by
    have h0 := hbyte 0 (by decide)
    rw [Nat.add_zero] at h0
    rw [h0, hbyte 1 (by decide), hbyte 2 (by decide), hbyte 3 (by decide)]
    simp [leBytes]
  rw [memWord_eq, hbytes, ofBytes_leBytes w.isLt, BitVec.ofNat_toNat, BitVec.setWidth_eq]

/-! Accesses of the core. -/

theorem masterOf_core {m : Fin 9} (h : m = 8) : masterOf m = .core := by
  subst h
  rfl

theorem inSram_iff (a : Nat) : inSram a = true ↔ 0x10000000 ≤ a ∧ a < 0x10080000 := by
  simp [inSram]

theorem inRom_of_inSram {a : Nat} (h : inSram a = true) : inRom a = false := by
  rw [inSram_iff] at h
  simp only [inRom, decide_eq_false_iff_not]
  omega

theorem decoded_of_inSram {a : Nat} (h : inSram a = true) : decoded a = true := by
  rw [decoded, h, Bool.or_true, Bool.true_or]

theorem busWrite_sram {fz : Fuses} {sub a : Nat} {v : Word} {d : Dev} (h : inSram a = true) (ha : a % 4 = 0) :
    busWrite fz .core sub a v d = putWord (a - 0x10000000) v d := by
  simp [busWrite, Dev.denied, ha, decoded_of_inSram h, inRom_of_inSram h, h]

theorem busRead_sram {fz : Fuses} {sub a : Nat} {d : Dev} (h : inSram a = true) (ha : a % 4 = 0) :
    busRead fz .core sub a d = answer (d.memWord (a - 0x10000000)) d := by
  simp [busRead, Dev.denied, ha, decoded_of_inSram h, inRom_of_inSram h, h]

/-- A write of the core to a register that its block lets in. -/
theorem busWrite_reg {fz : Fuses} {sub a : Nat} {v : Word} {d : Dev} (ha : a % 4 = 0) (hdec : (fieldsAt a).isSome = true)
    (hrom : inRom a = false) (hram : inSram a = false) (hopen : d.blockOpen a = true) :
    busWrite fz .core sub a v d = regWrite fz .core sub a v d := by
  simp [busWrite, Dev.denied, ha, decoded, hdec, hrom, hram, hopen]

theorem busRead_reg {fz : Fuses} {sub a : Nat} {d : Dev} (ha : a % 4 = 0) (hdec : (fieldsAt a).isSome = true)
    (hrom : inRom a = false) (hram : inSram a = false) (hopen : d.blockOpen a = true) :
    busRead fz .core sub a d = readReg fz .core sub a d := by
  simp [busRead, Dev.denied, ha, decoded, hdec, hrom, hram, hopen]

/-- A block without a gate is open (R312). -/
theorem blockOpen_of_ungated {a : Nat} {pl : Place} (d : Dev) (hp : placeOf a = some pl) (hg : gateOf pl.blk = none) :
    d.blockOpen a = true := by
  simp [Dev.blockOpen, hp, hg]

/-- R18, R49: the core reads TB_NOW_LO: its low word, with the high word and H in the core's shadow. -/
theorem busRead_nowLo {a : Nat} (ha : a = TB_NOW_LO_SUB.addr) (fz : Fuses) (sub : Nat) (d : Dev) :
    busRead fz .core sub a d = answer (BitVec.ofNat 32 (d.stamp sub))
      (setShadow .core TB_NOW_HI_PICK_H.addr (BitVec.ofNat 32 (d.stamp sub / 2 ^ 32), d.hNow) d) := by
  subst ha
  have hplace : placeOf 0x20010004 = some ⟨.tb, 0, 0, 4⟩ := by decide
  exact (busRead_reg (by decide) (by decide +kernel) (by decide) (by decide) (blockOpen_of_ungated d hplace rfl)).trans rfl

/-- R18: the core reads TB_NOW_HI: its shadow. -/
theorem busRead_nowHi {a : Nat} (ha : a = TB_NOW_HI_PICK_H.addr) (fz : Fuses) (sub : Nat) (d : Dev) :
    busRead fz .core sub a d = answer (d.shadowOf .core TB_NOW_HI_PICK_H.addr).1 d := by
  subst ha
  have hplace : placeOf 0x20010008 = some ⟨.tb, 0, 0, 8⟩ := by decide
  exact (busRead_reg (by decide) (by decide +kernel) (by decide) (by decide) (blockOpen_of_ungated d hplace rfl)).trans rfl

/-! The commands of the core. -/

section
variable {s : State} {m : Fin 9} {a v : BitVec 32} {sub : BitVec 12} {d : Dev} {Q : State → Prop}

theorem completes_coreRead (hs : s.awake) (hm : m = 8) (h : busRead s.fuses .core sub.toNat a.toNat s.dev = d)
    (q : Q { s with dev := settle d }) : Completes (.pairLowRead m a sub) s Q :=
  completes_eq rfl hs (by rwa [masterOf_core hm]) q

theorem completes_coreWrite (hs : s.awake) (hm : m = 8) (h : busWrite s.fuses .core sub.toNat a.toNat v s.dev = d)
    (q : Q { s with dev := settle d }) : Completes (.registerWrite m a v sub) s Q :=
  completes_eq rfl hs (by rwa [masterOf_core hm]) q

/-- R18: a write of the high word of a pair. -/
theorem completes_coreHighWrite (hs : s.awake) (hm : m = 8) (hp : (rwPair (a.toNat - 4)).isSome = true)
    (h : busWrite s.fuses .core sub.toNat a.toNat v s.dev = d) (q : Q { s with dev := settle d }) :
    Completes (.pairHighWrite m a v sub) s Q :=
  completes_eq rfl hs (by rwa [hp, onlyIf_true, masterOf_core hm]) q

end

/-- Settles O5: the SRAM by `busWrite_sram`, `memWord_putWord` and `busRead_sram`, the pair by `busRead_nowLo` and
`busRead_nowHi`. -/
theorem sramAndRegisterReads : Obligations.SramAndRegisterReads := by
  unfold Obligations.SramAndRegisterReads
  refine ⟨fun s m a v sub hs hm hlo hhi hal => ?_, fun s m a sub hs hm hlo hhi hal => ?_, fun s m a sub hs hm ha => ?_,
    fun s m a sub hs hm ha => ?_⟩
  · have hin : inSram a.toNat = true := (inSram_iff _).mpr ⟨hlo, hhi⟩
    refine completes_coreWrite hs hm (busWrite_sram hin hal) ⟨?_, fun b hb => ?_, fun hwf => ?_, ?_⟩
    · simpa only [Dev.memWord, Dev.byte, settle_sram] using memWord_putWord (a.toNat - 0x10000000) v s.dev
    · simpa only [Dev.byte, settle_sram] using byte_putWord_out _ v s.dev hb
    · simpa only [settle_sram] using putWord_wf _ v s.dev hwf
    · rw [settle_sram]
      refine changes_settle ?_ fun x _ => ?_
      · exact putBytes_eq _ _ s.dev
      · rw [putWord, putBytes_eq]
        rfl
  · have hin : inSram a.toNat = true := (inSram_iff _).mpr ⟨hlo, hhi⟩
    refine completes_coreRead hs hm (busRead_sram hin hal) ?_
    rw [settle_busData]
    exact ⟨rfl, changes_settle rfl fun x _ => rfl⟩
  · refine completes_coreRead hs hm (busRead_nowLo ha _ _ _) ?_
    rw [settle_busData, settle_shadow]
    refine ⟨rfl, ?_, changes_settle rfl fun x _ => rfl⟩
    rw [Dev.shadowOf, settle_shadow]
    exact tget_tput_same _ _ _ _
  · refine completes_coreRead hs hm (busRead_nowHi ha _ _ _) ?_
    rw [settle_busData]
    exact ⟨rfl, changes_settle rfl fun x _ => rfl⟩

/-! Registers written (R16). -/

/-- A field replaced by what it holds. -/
theorem fldSet_fldGet (x : Fld) (w : Word) : fldSet x (fldGet x w) w = w := by
  apply BitVec.eq_of_toNat_eq
  apply Nat.eq_of_testBit_eq
  intro i
  by_cases hi : i < 32
  · rw [testBit_fldSet _ _ _ _ hi, fldGet, testBit_bitsOf]
    split
    · rename_i hx
      have hlt : i - x.lo < x.w := by omega
      rw [decide_eq_true hlt, Bool.true_and, Nat.add_sub_cancel' hx.1]
    · rfl
  · have hpow : 2 ^ 32 ≤ 2 ^ i := Nat.pow_le_pow_right (by decide) (by omega)
    rw [Nat.testBit_lt_two_pow (Nat.lt_of_lt_of_le (BitVec.isLt _) hpow),
      Nat.testBit_lt_two_pow (Nat.lt_of_lt_of_le (BitVec.isLt _) hpow)]

/-- A register written with the word that it holds. -/
theorem rd_setReg_self (a : Nat) (d : Dev) (x : Fld) : (d.setReg a (d.reg a)).rd x = d.rd x := by
  by_cases ha : x.addr = a
  · rw [rd_of_reg x ha (reg_setReg_same a _ d), Dev.rd, ha]
  · exact rd_eq_of_reg (reg_setReg_ne _ d ha)

/-- The core writes a register of the selvedge's limits: its three fields before CONFIG_LOCK, none after (R16). -/
theorem busWrite_selLimits {a : Nat} (ha : a = JZ_SEL_LIMITS_T_CTRL.addr) (fz : Fuses) (sub : Nat) (v : Word) (d : Dev) :
    busWrite fz .core sub a v d = d.setReg JZ_SEL_LIMITS_T_CTRL.addr
      ([JZ_SEL_LIMITS_T_CTRL, JZ_SEL_LIMITS_TRIP, JZ_SEL_LIMITS_T_RESTART].foldl
        (fun w x => fldSet x (if d.locked then fldGet x (d.reg JZ_SEL_LIMITS_T_CTRL.addr) else fldGet x v) w)
        (d.reg JZ_SEL_LIMITS_T_CTRL.addr)) := by
  subst ha
  have hplace : placeOf 0x20000404 = some ⟨.jz, 0, 0, 0x404⟩ := by decide
  exact (busWrite_reg (by decide) (by decide +kernel) (by decide) (by decide) (blockOpen_of_ungated d hplace rfl)).trans rfl

/-- R18, R45: the core writes the high word of TB_STOP_AT. -/
theorem busWrite_stopAt {a n : Nat} {v : Word} {d : Dev} (ha : a = TB_STOP_AT_HI_AT_H.addr)
    (hn : n = d.rd TB_STOP_AT_LO_AT_L + v.toNat % 2 ^ 20 * 2 ^ 32) (fz : Fuses) (sub : Nat) :
    busWrite fz .core sub a v d = (d.wr TB_STOP_AT_HI_AT_H (fldGet TB_STOP_AT_HI_AT_H v)).updTime fun t => { t with stopAt := n } := by
  subst ha
  have hplace : placeOf 0x20010044 = some ⟨.tb, 0, 0, 0x44⟩ := by decide
  have hlo := rd_wr_apart (d := d) (x := TB_STOP_AT_LO_AT_L) (fl := TB_STOP_AT_HI_AT_H) (fldGet TB_STOP_AT_HI_AT_H v) (by decide)
  have hhi := rd_wr_eq (d := d) (x := TB_STOP_AT_HI_AT_H) (fldGet TB_STOP_AT_HI_AT_H v) (by decide)
  have hv : fldGet TB_STOP_AT_HI_AT_H v % 2 ^ 20 = v.toNat % 2 ^ 20 := by simp [fldGet, bitsOf, TB_STOP_AT_HI_AT_H]
  rw [hn, ← hv]
  refine (busWrite_reg (by decide) (by decide +kernel) (by decide) (by decide) (blockOpen_of_ungated d hplace rfl)).trans ?_
  rw [← hlo]
  exact congrArg (fun n => (d.wr TB_STOP_AT_HI_AT_H (fldGet TB_STOP_AT_HI_AT_H v)).updTime fun t => { t with stopAt := _ + n * 2 ^ 32 }) hhi

/-- R18, R48: the core writes the high word of TB_RESUME_AT. -/
theorem busWrite_resumeAt {a n : Nat} {v : Word} {d : Dev} (ha : a = TB_RESUME_AT_HI_AT_H.addr)
    (hn : n = d.rd TB_RESUME_AT_LO_AT_L + v.toNat % 2 ^ 20 * 2 ^ 32) (fz : Fuses) (sub : Nat) :
    busWrite fz .core sub a v d = (d.wr TB_RESUME_AT_HI_AT_H (fldGet TB_RESUME_AT_HI_AT_H v)).updTime fun t => { t with resumeAt := n } := by
  subst ha
  have hplace : placeOf 0x2001004C = some ⟨.tb, 0, 0, 0x4C⟩ := by decide
  have hlo := rd_wr_apart (d := d) (x := TB_RESUME_AT_LO_AT_L) (fl := TB_RESUME_AT_HI_AT_H) (fldGet TB_RESUME_AT_HI_AT_H v) (by decide)
  have hhi := rd_wr_eq (d := d) (x := TB_RESUME_AT_HI_AT_H) (fldGet TB_RESUME_AT_HI_AT_H v) (by decide)
  have hv : fldGet TB_RESUME_AT_HI_AT_H v % 2 ^ 20 = v.toNat % 2 ^ 20 := by simp [fldGet, bitsOf, TB_RESUME_AT_HI_AT_H]
  rw [hn, ← hv]
  refine (busWrite_reg (by decide) (by decide +kernel) (by decide) (by decide) (blockOpen_of_ungated d hplace rfl)).trans ?_
  rw [← hlo]
  exact congrArg (fun n => (d.wr TB_RESUME_AT_HI_AT_H (fldGet TB_RESUME_AT_HI_AT_H v)).updTime fun t => { t with resumeAt := _ + n * 2 ^ 32 }) hhi

/-- R15: an access of the core that is not aligned or not decoded. -/
theorem malformed_core {a : Nat} {write narrow : Bool} {d : Dev} (h : a % 4 ≠ 0 ∨ decoded a = false) :
    malformed .core a write narrow d = onlyIf (!write) (answer 0) (busFault .core a write d) := by
  unfold malformed
  simp only [Dev.denied]
  rw [if_pos]
  rcases h with h | h <;> simp [h]

/-- R409, R410: an access that a context in use may not make. -/
theorem hostDenied_eq {k : Fin 8} {a : Nat} {write : Bool} {d : Dev} (hon : d.ctxOn k = true) (hmay : d.hostMay k a write = false) :
    hostDenied k a write d = onlyIf (!write) (answer 0) (busFault (.host k) a write (countDeny k d)) := by
  simp [hostDenied, Dev.denied, hon, hmay]

/-- R15, R409: the bus answers zero to a read that faults, and nothing to a write. -/
theorem onlyIf_answer (write : Bool) (d : Dev) :
    onlyIf (!write) (answer 0) d = answer (if write then d.busData else 0) d := by
  cases write <;> rfl

@[simp] theorem answer_rd (w : Word) (d : Dev) (x : Fld) : (answer w d).rd x = d.rd x := rfl
@[simp] theorem answer_busData (w : Word) (d : Dev) : (answer w d).busData = w := rfl
@[simp] theorem bare_answer (w : Word) (d : Dev) : (answer w d).bare = answer w d.bare := rfl

/-- A BUS fault ACCESS changes no register. -/
@[simp] theorem busFault_rd (m : Master) (a : Nat) (write : Bool) (d : Dev) (x : Fld) : (busFault m a write d).rd x = d.rd x := rfl
@[simp] theorem bare_busFault (m : Master) (a : Nat) (write : Bool) (d : Dev) :
    (busFault m a write d).bare = busFault m a write d.bare := rfl
@[simp] theorem bare_countDeny (k : Nat) (d : Dev) : (countDeny k d).bare = d.bare := by rw [countDeny, bare_wr, bare_inc]

/-- R409: a refused access leaves the other fields. -/
theorem rd_countDeny_apart {k : Nat} {d : Dev} {x : Fld} (hc : x.apart JZ_HW_DENY_CNT) (hl : x.apart JZ_HW_DENY_LAST_CTX) :
    (countDeny k d).rd x = d.rd x := (rd_wr_apart _ hl).trans (rd_inc_apart hc)

/-- The register of the selvedge's limits before CONFIG_LOCK: each field takes the bits written (R16). -/
theorem rd_selLimits {d : Dev} {v : Word} {x : Fld}
    (hx : x = JZ_SEL_LIMITS_T_CTRL ∨ x = JZ_SEL_LIMITS_TRIP ∨ x = JZ_SEL_LIMITS_T_RESTART) :
    (d.setReg JZ_SEL_LIMITS_T_CTRL.addr ([JZ_SEL_LIMITS_T_CTRL, JZ_SEL_LIMITS_TRIP, JZ_SEL_LIMITS_T_RESTART].foldl
      (fun w x => fldSet x (fldGet x v) w) (d.reg JZ_SEL_LIMITS_T_CTRL.addr))).rd x = fldGet x v := by
  have haddr : x.addr = JZ_SEL_LIMITS_T_CTRL.addr := by rcases hx with rfl | rfl | rfl <;> rfl
  rw [rd_of_reg x haddr (reg_setReg_same _ _ d)]
  simp only [List.foldl]
  rcases hx with rfl | rfl | rfl
  · rw [fldGet_fldSet_ne _ _ _ _ (by decide), fldGet_fldSet_ne _ _ _ _ (by decide), fldGet_fldSet_same _ _ _ (by decide)]
    exact Nat.mod_eq_of_lt (bitsOf_lt _ _ _)
  · rw [fldGet_fldSet_ne _ _ _ _ (by decide), fldGet_fldSet_same _ _ _ (by decide)]
    exact Nat.mod_eq_of_lt (bitsOf_lt _ _ _)
  · rw [fldGet_fldSet_same _ _ _ (by decide)]
    exact Nat.mod_eq_of_lt (bitsOf_lt _ _ _)

/-- A register rewritten field by field keeps the fields apart from those. -/
theorem rd_setReg_fields {d : Dev} {a : Nat} {v : Fld → Nat} {x : Fld} {l : List Fld} (hl : ∀ y ∈ l, y.addr = a)
    (hx : ∀ y ∈ l, x.apart y) : (d.setReg a (l.foldl (fun w y => fldSet y (v y) w) (d.reg a))).rd x = d.rd x := by
  by_cases ha : x.addr = a
  · rw [rd_of_reg x ha (reg_setReg_same _ _ d), Dev.rd, ha]
    generalize d.reg a = w
    induction l generalizing w with
    | nil => rfl
    | cons y l ih =>
      have hy : x.lo + x.w ≤ y.lo ∨ y.lo + y.w ≤ x.lo :=
        (hx y List.mem_cons_self).resolve_left fun h => h (ha.trans (hl y List.mem_cons_self).symm)
      rw [List.foldl_cons, ih (fun z hz => hl z (List.mem_cons_of_mem _ hz)) (fun z hz => hx z (List.mem_cons_of_mem _ hz)),
        fldGet_fldSet_ne _ _ _ _ hy]
  · exact rd_eq_of_reg (reg_setReg_ne _ d ha)

/-- Settles O6: the limits by `busWrite_selLimits`, the pairs by `busWrite_stopAt` and `busWrite_resumeAt`, the faults by
`malformed_core` and `hostDenied_eq`. -/
theorem registerAccesses : Obligations.RegisterAccesses := by
  unfold Obligations.RegisterAccesses
  refine ⟨fun s m a v sub hs hm ha hl => ?_, fun s m a v sub hs hm ha hl => ?_, fun s m a v sub hs hm ha => ?_,
    fun s m a v sub hs hm ha => ?_, fun s m a write narrow hs hm h => ?_, fun s k a write hs hon hmay => ?_⟩
  · have hw := busWrite_selLimits ha s.fuses sub.toNat v s.dev
    simp only [hl, Bool.false_eq_true, if_false] at hw
    refine completes_coreWrite hs hm hw ⟨?_, ?_, ?_, changes_settle rfl fun x hx => ?_⟩
    · rw [rd_settle (by decide), rd_selLimits (by decide)]
      simp [fldGet, bitsOf, JZ_SEL_LIMITS_T_CTRL]
    · rw [rd_settle (by decide), rd_selLimits (by decide)]
      rfl
    · rw [rd_settle (by decide), rd_selLimits (by decide)]
      have := v.isLt
      change v.toNat / 2 ^ 24 % 2 ^ 8 = _
      omega
    · exact rd_setReg_fields (by decide) hx
  · refine completes_coreWrite hs hm (busWrite_selLimits ha _ _ _ _) (changes_settle rfl fun x _ => ?_)
    simp only [List.foldl, hl, if_true, fldSet_fldGet]
    exact rd_setReg_self _ _ x
  · obtain ⟨n, hn⟩ : ∃ n, n = s.dev.rd TB_STOP_AT_LO_AT_L + v.toNat % 2 ^ 20 * 2 ^ 32 := ⟨_, rfl⟩
    refine completes_coreHighWrite hs hm (by rw [ha]; decide) (busWrite_stopAt ha hn _ _) ?_
    rw [settle_time]
    refine ⟨hn, changes_bare ?_ fun x hx => ?_⟩
    · simp -implicitDefEqProofs only [bare_updTime, bare_wr]
      rfl
    · exact (Dev.updTime_rd _ _ _).trans (rd_wr_apart _ (hx _ (List.mem_singleton.mpr rfl)))
  · obtain ⟨n, hn⟩ : ∃ n, n = s.dev.rd TB_RESUME_AT_LO_AT_L + v.toNat % 2 ^ 20 * 2 ^ 32 := ⟨_, rfl⟩
    refine completes_coreHighWrite hs hm (by rw [ha]; decide) (busWrite_resumeAt ha hn _ _) ?_
    rw [settle_time]
    refine ⟨hn, changes_bare ?_ fun x hx => ?_⟩
    · simp -implicitDefEqProofs only [bare_updTime, bare_wr]
      rfl
    · exact (Dev.updTime_rd _ _ _).trans (rd_wr_apart _ (hx _ (List.mem_singleton.mpr rfl)))
  · refine completes_eq rfl hs (by rw [masterOf_core hm, malformed_core h, onlyIf_answer]) ?_
    rw [settle_busData, answer_busData]
    refine ⟨fun hw => by rw [hw]; rfl, changes_bare ?_ fun x _ => ?_⟩
    · rw [bare_answer, bare_busFault]
      rfl
    · rw [answer_rd, busFault_rd]
  · refine completes_eq rfl hs ((hostDenied_eq hon hmay).trans (onlyIf_answer _ _)) ?_
    rw [settle_busData, answer_busData, rd_settle (by decide), rd_settle (by decide), answer_rd, answer_rd, busFault_rd, busFault_rd]
    refine ⟨?_, ?_, fun hw => by rw [hw]; rfl, changes_bare ?_ fun x hx => ?_⟩
    · exact (rd_wr_apart _ (by decide)).trans (rd_inc_max _ _ (by decide) (by decide))
    · exact (rd_wr_eq _ (by decide)).trans (Nat.mod_eq_of_lt (by simp only [JZ_HW_DENY_LAST_CTX]; omega))
    · rw [bare_answer, bare_busFault, bare_countDeny]
      rfl
    · rw [answer_rd, busFault_rd]
      exact rd_countDeny_apart (hx _ (by simp)) (hx _ (by simp))

end Sys2Proof.Machine
end

section
/-! O10 to O12: the timing lane, the modes of the timebase unit, the sentinels' copies of the count and the action slots
(R26 to R42). -/

namespace Sys2Proof.Machine

/-! Modes (R30). -/

/-- The timebase unit's mode as last written. -/
theorem mode_wr {d : Dev} {m : Nat} (h : m < 8) : (d.wr TB_STATUS_MODE m).mode = m :=
  (rd_wr_eq m (by decide)).trans (Nat.mod_eq_of_lt h)

/-! Timing frames (R26, R27). -/

theorem frameHold_eq (word : BitVec 64) : frameHold word = word.getLsbD 52 := rfl

theorem frameCount_eq (word : BitVec 64) : frameCount word = word.toNat % 2 ^ 52 := by
  rw [frameCount, bitsOf, Nat.pow_zero, Nat.div_one]

/-- A frame that meets the four conditions of R27. -/
theorem frameValid_of {d : Dev} {word : BitVec 64} {crc : BitVec 16} (hcrc : crc16 (leBytes 8 word.toNat) = crc.toNat)
    (hcont : ∀ r, d.time.lane = some r → word.toNat % 2 ^ 52 = r.count + r.periods + 1)
    (hlock : d.mode = LOCKED → word.toNat % 2 ^ 52 = d.time.count + 1) : frameValid d word crc true true = true := by
  have hcont' : frameContinuous d (frameCount word) = true := by
    unfold frameContinuous
    split
    · rfl
    next r hr => exact decide_eq_true ((frameCount_eq word).trans (hcont r hr))
  have hlock' : (decide (d.mode ≠ LOCKED) || decide (frameCount word = d.time.count + 1)) = true := by
    by_cases hm : d.mode = LOCKED
    · rw [decide_eq_true ((frameCount_eq word).trans (hlock hm)), Bool.or_true]
    · rw [decide_eq_true hm, Bool.true_or]
  rw [frameValid, hcont', hlock', frameSound, decide_eq_true hcrc]
  rfl

/-- A frame that fails one of the first three conditions of R27. -/
theorem frameSound_of_not {word : BitVec 64} {crc : BitVec 16} {spaced clean : Bool}
    (h : spaced = false ∨ clean = false ∨ crc16 (leBytes 8 word.toNat) ≠ crc.toNat) : frameSound word crc spaced clean = false := by
  rcases h with rfl | rfl | h
  · rfl
  · rw [frameSound, Bool.and_false, Bool.false_and]
  · rw [frameSound, decide_eq_false h, Bool.and_false]

/-- A timing frame of a receiver that is on. -/
theorem timingFrame_eq {word : BitVec 64} {crc : BitVec 16} {spaced clean : Bool} {d : Dev} (at_ : BitVec 13)
    (h : d.time.laneOff = false) : timingFrame word crc spaced clean at_ d =
      if frameValid d word crc spaced clean = true then
        (d.wrB TB_STATUS_RACK_HOLD (frameHold word)).updTime fun t =>
          { t with
            lane := laneAfter (frameSound word crc spaced clean) (frameCount word) d.time.lane
            valid := t.valid + 1, invalid := 0, laneCount := frameCount word
            delta := frameDelta d (frameCount word) at_.toNat - adjLeft t.adj at_.toNat }
      else
        (d.inc TB_LANE_ERR_COUNT).updTime fun t =>
          { t with
            lane := laneAfter (frameSound word crc spaced clean) (frameCount word) d.time.lane
            valid := 0, invalid := t.invalid + 1 } := by
  simp -implicitDefEqProofs only [timingFrame, h, Bool.false_eq_true, if_false]

/-- A lane too far behind (R35) is not followed. -/
theorem tbAlignStart_ahead {d : Dev} (hm : d.mode = HOLDOVER) (hv : 16 ≤ d.time.valid) (hd : d.time.delta < -(1000000 * 4096)) :
    tbAlignStart d = onlyIf (!d.rdB TB_STATUS_AHEAD_LIMIT) (·.raise .clock 5 central 0)
      ((d.wrB TB_STATUS_AHEAD_LIMIT true).wrB TB_STATUS_RACK_FEAT false) := by
  have hfar : tooFarAhead d.time.delta = true := decide_eq_true hd
  rw [tbAlignStart, if_pos ⟨hm, hv⟩, if_pos hfar]

theorem timeStep_due {d : Dev} (hm : d.mode = ALIGNING) (hd : 4096 ≤ d.time.delta) :
    timeStep d = d.updTime fun t => { t with step := (t.delta / 4096).toNat } := if_pos ⟨hm, hd⟩

/-- Settles O10: frames by `timingFrame_eq`, steps by `timeStep_due`, a lane too far behind by `tbAlignStart_ahead`. -/
theorem framesAndSteps : Obligations.FramesAndSteps := by
  unfold Obligations.FramesAndSteps
  refine ⟨fun s word crc at_ hs hoff hcrc hcont hlock => ?_, fun s word crc spaced clean at_ hs hoff h => ?_,
    fun s hs hm hd => ?_, fun s hs hm hv hd ha => ?_, fun s hs hm hv hd ha => ?_⟩
  · have hg := (timingFrame_eq at_ hoff).trans (if_pos (frameValid_of hcrc hcont hlock))
    refine completes_eq rfl hs hg ⟨?_, ?_, ?_, ?_, ?_, changes_bare ?_ fun x hx => ?_⟩
    · rw [rdB_settle (by decide), Dev.updTime_rdB, rdB_wrB_eq _ (by decide), frameHold_eq]
    · simp -implicitDefEqProofs
    · simp -implicitDefEqProofs
    · simp -implicitDefEqProofs [frameCount_eq]
    · simp -implicitDefEqProofs [laneAfter, frameSound, hcrc, frameCount_eq]
    · simp -implicitDefEqProofs
      rfl
    · simp -implicitDefEqProofs (disch := exact hx _ (by simp))
  · have hsound := frameSound_of_not h
    have hinvalid : ¬ frameValid s.dev word crc spaced clean = true := by
      rw [frameValid, hsound, Bool.false_and, Bool.false_and]
      decide
    have hg := (timingFrame_eq at_ hoff).trans (if_neg hinvalid)
    refine completes_eq rfl hs hg ⟨?_, ?_, ?_, changes_bare ?_ fun x hx => ?_⟩
    · rw [rd_settle (by decide), Dev.updTime_rd]
      exact rd_inc_max _ _ (by decide) (by decide)
    · simp -implicitDefEqProofs
    · simp -implicitDefEqProofs
    · simp -implicitDefEqProofs
      rfl
    · simp -implicitDefEqProofs (disch := exact hx _ (by simp))
  · refine completes_eq rfl hs (timeStep_due hm hd) ⟨?_, changes_bare ?_ fun x _ => ?_⟩
    · simp -implicitDefEqProofs
      omega
    · simp -implicitDefEqProofs
      rfl
    · simp -implicitDefEqProofs
  · have hg := tbAlignStart_ahead hm hv hd
    rw [ha] at hg
    refine completes_eq rfl hs hg ⟨?_, ?_, ?_, changes_bare ?_ fun x hx => ?_⟩
    · simpa -implicitDefEqProofs (disch := decide) [Dev.mode] using hm
    · simp -implicitDefEqProofs (disch := decide)
    · simp -implicitDefEqProofs (disch := decide)
    · simp -implicitDefEqProofs
      rfl
    · simp -implicitDefEqProofs (disch := exact hx _ (by simp))
  · have hg := tbAlignStart_ahead hm hv hd
    rw [ha] at hg
    refine completes_eq rfl hs hg ⟨?_, ?_, ?_, changes_bare ?_ fun x hx => ?_⟩
    · simpa -implicitDefEqProofs (disch := decide) [Dev.mode] using hm
    · simp -implicitDefEqProofs (disch := decide)
    · simp -implicitDefEqProofs (disch := decide)
    · simp -implicitDefEqProofs
    · simp -implicitDefEqProofs (disch := exact hx _ (by simp))

/-! Moves between the modes (R30, R34, R35). -/

theorem expiredAll_of {d : Dev} {b n : Nat} (h : b + 1 + n ≤ d.time.nb) : d.expiredAll b n = true := by
  simp only [Dev.expiredAll, decide_eq_true_eq]
  omega

theorem tbAlignStart_follows {d : Dev} (hm : d.mode = HOLDOVER) (hv : 16 ≤ d.time.valid) (hd : -(1000000 * 4096) ≤ d.time.delta) :
    tbAlignStart d = (d.wr TB_STATUS_MODE ALIGNING).wrB TB_STATUS_AHEAD_LIMIT false := by
  have hfar : tooFarAhead d.time.delta = false := decide_eq_false (Int.not_lt.mpr hd)
  rw [tbAlignStart, if_pos ⟨hm, hv⟩, hfar]
  rfl

/-! The sentinels' copies (R40, R41). -/

theorem bitOf_toNat {w : Nat} (b : BitVec w) (i : Nat) : bitOf b.toNat i = b.getLsbD i := rfl

/-- The marks of the fields of a mask. -/
theorem tget_markFields (fields : BitVec 96) (ok : Option Bool → Bool) (v : Bool) (l : Tab (Option Bool)) (f : Fin 96) :
    tget none (markFields fields ok v l) f.val =
      if fields.getLsbD f ∧ ok (tget none l f.val) = true then some v else tget none l f.val := by
  have hrange : ∀ n, tget none ((List.range n).foldl
      (fun l f => if bitOf fields.toNat f && ok (tget none l f) then tput none f (some v) l else l) l) f.val =
      if f.val < n ∧ fields.getLsbD f ∧ ok (tget none l f.val) = true then some v else tget none l f.val := by
    intro n
    induction n with
    | zero => simp
    | succ n ih =>
      rw [List.range_succ, List.foldl_append, List.foldl_cons, List.foldl_nil]
      by_cases hn : f.val = n
      · subst hn
        simp only [Nat.lt_irrefl, false_and, if_false] at ih
        rw [ih, bitOf_toNat]
        by_cases h : fields.getLsbD f.val = true ∧ ok (tget none l f.val) = true
        · simp [h]
        · rw [if_neg (by rwa [Bool.and_eq_true]), ih, if_neg fun hh => h hh.2]
      · rw [apply_ite (fun t => tget none t f.val), tget_tput_ne _ _ _ hn, ite_self, ih]
        have : f.val < n + 1 ↔ f.val < n := by omega
        simp only [this]
  rw [markFields, hrange 96]
  simp [f.isLt]

/-- Settles O11. -/
theorem modesAndCopies : Obligations.ModesAndCopies := by
  unfold Obligations.ModesAndCopies
  refine ⟨fun s hs hm hv => ?_, fun s b hs hm hb hn => ?_, fun s hs hm hv => ?_, fun s hs hm hl hn => ?_, fun s hs hm hv hd => ?_,
    fun s hs hm hd => ?_, fun s f p ofs hs hc ho hr h0 => ?_, fun s f p ofs hs h => ?_, fun s fields hs => ?_, fun s fields hs => ?_⟩
  · have hg : tbLock s.dev = _ := if_pos ⟨hm, hv⟩
    rw [enterLocked] at hg
    refine completes_eq rfl hs hg ⟨?_, ?_, ?_, ?_, changes_bare ?_ fun x hx => ?_⟩
    · simp -implicitDefEqProofs (disch := decide) [Dev.mode, LOCKED]
    · simp -implicitDefEqProofs (disch := decide)
    · simp -implicitDefEqProofs (disch := decide)
    · simp -implicitDefEqProofs
    · simp -implicitDefEqProofs
      rfl
    · simp -implicitDefEqProofs (disch := exact hx _ (by simp))
  · have hg : tbAcqTimeout s.dev = ((((s.dev.wr TB_STATUS_MODE HOLDOVER).wrB TB_STATUS_H true).wrB TB_STATUS_RACK_FEAT false).raise .clock 1 central 0) := by
      simp only [tbAcqTimeout, hb]
      exact if_pos ⟨hm, expiredAll_of hn⟩
    refine completes_eq rfl hs hg ⟨?_, ?_, ?_, changes_bare ?_ fun x hx => ?_⟩
    · simp -implicitDefEqProofs (disch := decide) [Dev.mode, HOLDOVER]
      rfl
    · simp -implicitDefEqProofs (disch := decide)
    · simp -implicitDefEqProofs (disch := decide)
    · simp -implicitDefEqProofs
      rfl
    · simp -implicitDefEqProofs (disch := exact hx _ (by simp))
  · have hg : tbLaneLost s.dev = _ := if_pos ⟨hm, hv⟩
    refine completes_eq rfl hs hg ⟨?_, ?_, ?_, ?_, changes_bare ?_ fun x hx => ?_⟩
    · simp -implicitDefEqProofs (disch := decide) [Dev.mode, HOLDOVER]
      rfl
    · simp -implicitDefEqProofs
    · simp -implicitDefEqProofs
    · simp -implicitDefEqProofs
    · simp -implicitDefEqProofs
      rfl
    · simp -implicitDefEqProofs (disch := exact hx _ (by simp))
  · have hg : tbHoldoverLimit s.dev = _ := if_pos ⟨hm, hl, expiredAll_of hn⟩
    refine completes_eq rfl hs hg ⟨?_, ?_, changes_bare ?_ fun x hx => ?_⟩
    · simpa -implicitDefEqProofs (disch := decide) [Dev.mode] using hm
    · simp -implicitDefEqProofs (disch := decide)
    · simp -implicitDefEqProofs
      rfl
    · simp -implicitDefEqProofs (disch := exact hx _ (by simp))
  · refine completes_eq rfl hs (tbAlignStart_follows hm hv hd) ⟨?_, ?_, changes_bare ?_ fun x hx => ?_⟩
    · simp -implicitDefEqProofs (disch := decide) [Dev.mode, ALIGNING]
      rfl
    · simp -implicitDefEqProofs (disch := decide)
    · simp -implicitDefEqProofs
    · simp -implicitDefEqProofs (disch := exact hx _ (by simp))
  · have hg : tbAlignDone s.dev = _ := if_pos ⟨hm, hd⟩
    rw [enterLocked] at hg
    refine completes_eq rfl hs hg ⟨?_, ?_, ?_, ?_, changes_bare ?_ fun x hx => ?_⟩
    · simp -implicitDefEqProofs (disch := decide) [Dev.mode, LOCKED]
    · simp -implicitDefEqProofs (disch := decide)
    · simp -implicitDefEqProofs
    · simp -implicitDefEqProofs
    · simp -implicitDefEqProofs
      rfl
    · simp -implicitDefEqProofs (disch := exact hx _ (by simp))
  · have hg : countReload f.val p.val ofs s.dev = _ := if_neg (by simp [hc, hr, ho, h0])
    refine completes_eq rfl hs hg ⟨?_, fun k hk => ?_, changes_bare ?_ fun x hx => ?_⟩
    · simp -implicitDefEqProofs
    · simpa -implicitDefEqProofs using tget_tput_ne _ _ _ hk _
    · simp -implicitDefEqProofs
      rfl
    · simp -implicitDefEqProofs
  · refine completes_unchanged rfl hs (if_pos ?_)
    rcases h with h | h
    · exact .inl h
    · exact .inr (.inl h)
  · refine completes_eq rfl hs rfl ⟨fun f => ?_, changes_bare ?_ fun x hx => ?_⟩
    · simpa -implicitDefEqProofs [netReroute] using tget_markFields fields (fun _ => true) false s.dev.time.rerouted f
    · simp -implicitDefEqProofs [netReroute]
      rfl
    · simp -implicitDefEqProofs [netReroute]
  · refine completes_eq rfl hs rfl ⟨fun f => ?_, changes_bare ?_ fun x hx => ?_⟩
    · simpa -implicitDefEqProofs [netDelayMeasured, Option.isSome_iff_ne_none] using tget_markFields fields (·.isSome) true s.dev.time.rerouted f
    · simp -implicitDefEqProofs [netDelayMeasured]
      rfl
    · simp -implicitDefEqProofs [netDelayMeasured]

/-! Action slots (R42 to R44). -/

@[simp] theorem slot_updSlot_same (i : Nat) (g : Slot → Slot) (d : Dev) : (d.updSlot i g).slot i = g (d.slot i) :=
  tget_tupd_same _ _ _ _

theorem slot_updSlot_ne {i j : Nat} (h : j ≠ i) (g : Slot → Slot) (d : Dev) : (d.updSlot i g).slot j = d.slot j :=
  tget_tupd_ne _ _ _ h _

@[simp] theorem slot_settle (i : Nat) (d : Dev) : (settle d).slot i = d.slot i := by rw [Dev.slot, settle_time, Dev.slot]

theorem updSlot_time (i : Nat) (g : Slot → Slot) (d : Dev) :
    d.updSlot i g = { d with time := { d.time with slots := (d.updSlot i g).time.slots } } := rfl

/-- An operation that changes nothing but a slot. -/
theorem completes_updSlot {c : Instr} {s : State} {g : Dev → Dev} {i : Nat} {u : Slot → Slot} {Q : Slot → Prop} (hc : exec c s = done g s)
    (hs : s.awake) (hg : g s.dev = s.dev.updSlot i u) (hq : Q (u (s.dev.slot i))) : Completes c s fun t =>
      Q (t.dev.slot i) ∧ (∀ j, j ≠ i → t.dev.slot j = s.dev.slot j) ∧
      s.changes t { s.dev with time := { s.dev.time with slots := t.dev.time.slots } } [] := by
  refine completes_eq hc hs hg ⟨?_, fun j hj => ?_, changes_settle ?_ fun _ _ => rfl⟩
  · rwa [slot_settle, slot_updSlot_same]
  · rw [slot_settle, slot_updSlot_ne hj]
  · rw [settle_time]
    rfl

/-- R42: an arming is accepted under its four conditions. -/
theorem armable_iff (d : Dev) (x : Slot) : armable d x = true ↔
    d.time.count + 2 ≤ x.at_ ∧ writable x.addr = true ∧ ¬ (rwlReg x.addr = true ∧ d.locked = true) ∧ x.st = .free := by
  cases h : rwlReg x.addr <;> simp [armable, and_assoc, h]

theorem slotDue_of {d : Dev} {i : Nat} (ha : (d.slot i).st = .armed) (hp : (d.slot i).at_ ≤ d.time.count)
    (hr : d.rdB TB_STATUS_STOPPED = false) : d.slotDue i = true := by
  simp [Dev.slotDue, ha, hp, Dev.stopped, hr]

/-- R43: a slot whose write may be made. -/
theorem slotApply_write {fz : Fuses} {d : Dev} {i : Nat} (hd : d.slotDue i = true)
    (hl : (rwlReg (d.slot i).addr && d.locked) = false) : slotApply fz i d =
      (onlyIf (decide ((d.slot i).at_ < d.time.count)) (·.wrB TB_STATUS_ACT_MISSED true)
        (busWrite fz .core 0 (d.slot i).addr (BitVec.ofNat 32 (d.slot i).data) d)).updSlot i
          fun x => { x with st := if decide ((d.slot i).at_ < d.time.count) then .missed else .done } := by
  simp -implicitDefEqProofs only [slotApply, hd, hl, Bool.not_true, Bool.false_eq_true, if_false]

/-- R44: a slot whose register is locked. -/
theorem slotApply_locked {fz : Fuses} {d : Dev} {i : Nat} (hd : d.slotDue i = true) (hr : rwlReg (d.slot i).addr = true)
    (hl : d.locked = true) : slotApply fz i d = ((d.wrB TB_STATUS_STATE_CONFLICT true).wrB TB_STATUS_ACT_MISSED true).updSlot i
      fun x => { x with st := .missed } := by
  simp -implicitDefEqProofs only [slotApply, conflict, hd, hr, hl, Bool.not_true, Bool.and_self, Bool.false_eq_true, if_true, if_false]

theorem updSlot_rd (i : Nat) (g : Slot → Slot) (d : Dev) (x : Fld) : (d.updSlot i g).rd x = d.rd x := rfl
theorem updSlot_rdB (i : Nat) (g : Slot → Slot) (d : Dev) (x : Fld) : (d.updSlot i g).rdB x = d.rdB x := rfl
theorem bare_updSlot (i : Nat) (g : Slot → Slot) (d : Dev) : (d.updSlot i g).bare = d.bare.updSlot i g := rfl

/-- Settles O12. -/
theorem scheduledActions : Obligations.ScheduledActions := by
  unfold Obligations.ScheduledActions
  refine ⟨fun s hs hf hp hw hl => ?_, fun s hs h => ?_, fun s hs => ?_, fun s hs => ?_, fun s i hs ha hp hr hl => ?_,
    fun s i hs ha hp hr hw hl => ?_⟩
  · have harm : armable s.dev (s.dev.slot s.dev.actSel) = true :=
      (armable_iff _ _).mpr ⟨hp, hw, fun h => absurd (hl h.1) (by simp [h.2]), hf⟩
    exact completes_updSlot (Q := (· = _)) rfl hs (if_pos harm) rfl
  · have harm : ¬ armable s.dev (s.dev.slot s.dev.actSel) = true := fun ha => by
      obtain ⟨hp, hw, hl, hf⟩ := (armable_iff _ _).mp ha
      rcases h with h | h | h | h
      · omega
      · simp [h] at hw
      · exact hl h
      · exact h hf
    exact completes_conflict rfl hs (if_neg harm) (by decide) (by decide)
  · refine completes_updSlot (Q := fun x => x.st = _) rfl hs rfl ?_
    split <;> rfl
  · refine completes_updSlot (Q := fun x => x.st = _) rfl hs rfl ?_
    split <;> rfl
  · have hlock : (rwlReg (s.dev.slot i).addr && s.dev.locked) = false := by
      by_cases h : rwlReg (s.dev.slot i).addr = true
      · rw [hl h, Bool.and_false]
      · rw [Bool.eq_false_iff.mpr h, Bool.false_and]
    refine completes_eq rfl hs (slotApply_write (slotDue_of ha hp hr) hlock) ⟨?_, fun x hx hm => ?_, fun h => ?_⟩
    · rw [slot_settle, slot_updSlot_same]
      simp only [decide_eq_true_eq]
    · rw [rd_settle hx, updSlot_rd]
      exact rd_onlyIf (rd_wrB_apart _ hm)
    · rw [rdB_settle (by decide), updSlot_rdB, decide_eq_true h]
      exact rdB_wrB_eq true (by decide)
  · refine completes_eq rfl hs (slotApply_locked (slotDue_of ha hp hr) hw hl) ⟨?_, ?_, ?_, changes_bare ?_ fun x hx => ?_⟩
    · rw [slot_settle, slot_updSlot_same]
    · rw [rdB_settle (by decide), updSlot_rdB, rdB_wrB_eq _ (by decide)]
    · rw [rdB_settle (by decide), updSlot_rdB, rdB_wrB_apart _ (by decide), rdB_wrB_eq _ (by decide)]
    · rw [bare_updSlot, bare_wrB, bare_wrB, settle_time]
      rfl
    · rw [updSlot_rd, rd_wrB_apart _ (hx _ (by simp)), rd_wrB_apart _ (hx _ (by simp))]

end Sys2Proof.Machine
end

section
/-! O16 to O18: the control engine (R80 to R107). A loop instance is one of a steward's, or L-CAP. -/

namespace Sys2Proof.Machine

/-- A change with its bare device and the registers that it keeps, settled. -/
theorem within_bare {s : State} {d e : Dev} {lo hi : Nat} (h : d.bare = e.bare)
    (h' : ∀ x : Fld, (x.addr < lo ∨ hi ≤ x.addr) → d.rd x = s.dev.rd x) : s.within { s with dev := settle d } e lo hi :=
  ⟨parts_settle (eq_of_bare h), fun x hx hr => (rd_settle hx).trans (h' x hr)⟩

/-- A device that differs in the loops' states alone. -/
theorem bare_inst {D d : Dev} {i : Tab InstS} (h : D.bare = { d.bare with inst := i }) : D.bare = Dev.bare { d with inst := D.inst } := by
  have hi : D.bare.inst = i := by rw [h]
  change D.bare = { d.bare with inst := D.bare.inst }
  rw [hi, h]

/-! The instance's own fields. -/

/-- A word of the instance's registers. -/
def Fld.isWord (x : Fld) : Prop := x.lo = 0 ∧ x.w = 32

/-- Writing zero to words clears those, and leaves every other word. -/
theorem rd_forL_zero {x : Fld} (hx : Fld.isWord x) (l : List Fld) (hl : ∀ y ∈ l, Fld.isWord y) (d : Dev) :
    (forL l (fun y => Dev.wr y 0) d).rd x = if x ∈ l then 0 else d.rd x := by
  induction l generalizing d with
  | nil => rfl
  | cons y l ih =>
    obtain ⟨hy0, hyw⟩ := hl y List.mem_cons_self
    obtain ⟨hx0, hxw⟩ := hx
    have hstep : (forL (y :: l) (fun y => Dev.wr y 0) d).rd x = (forL l (fun y => Dev.wr y 0) (d.wr y 0)).rd x := rfl
    rw [hstep, ih (fun z hz => hl z (List.mem_cons_of_mem _ hz))]
    by_cases hxl : x ∈ l
    · simp [hxl]
    · by_cases hxy : x = y
      · subst hxy
        rw [if_neg hxl, if_pos List.mem_cons_self, rd_wr_eq 0 (Nat.le_of_eq (by rw [hx0, hxw])), Nat.zero_mod]
      · have hne : x.addr ≠ y.addr := fun h => hxy (by cases x; cases y; simp_all)
        rw [if_neg hxl, if_neg (by simp [hxy, hxl]), rd_wr_apart 0 (.inl hne)]

namespace LoopRef

/-- R82, R101: the states of the sections and of the model. -/
def states (l : LoopRef) : List Fld :=
  [l.s1 0, l.s2 0, l.s1 1, l.s2 1, l.s1 2, l.s2 2, l.s1 3, l.s2 3, l.ms1 0, l.ms2 0, l.ms1 1, l.ms2 1]

theorem states_isWord (l : LoopRef) : ∀ y ∈ l.states, Fld.isWord y := by
  simp [states, Fld.isWord, s1, s2, ms1, ms2]

/-- The end of the instance's registers: L-CAP's take U_NEXT in. -/
def top (l : LoopRef) : Nat := if l.typ = 3 then l.inst + 0x50 else l.inst + 0x40

end LoopRef

theorem zeroStates_eq (l : LoopRef) (d : Dev) : zeroStates l d = forL l.states (fun y => Dev.wr y 0) d := rfl

theorem bare_zeroStates (l : LoopRef) (d : Dev) : (zeroStates l d).bare = d.bare := by
  rw [zeroStates_eq]
  exact bare_forL _ (fun _ _ => bare_wr _ _ _) d

/-- What is no state of a section or of the model stands. -/
theorem rd_zeroStates_apart {l : LoopRef} {x : Fld} (h : ∀ y ∈ l.states, x.apart y) (d : Dev) : (zeroStates l d).rd x = d.rd x := by
  rw [zeroStates_eq]
  generalize l.states = ys at h
  induction ys generalizing d with
  | nil => rfl
  | cons y ys ih =>
    exact (ih (d.wr y 0) fun z hz => h z (List.mem_cons_of_mem _ hz)).trans (rd_wr_apart 0 (h y List.mem_cons_self))

theorem rd_zeroStates {l : LoopRef} {x : Fld} (h : x ∈ l.states) (d : Dev) : (zeroStates l d).rd x = 0 := by
  rw [zeroStates_eq, rd_forL_zero (l.states_isWord x h) _ l.states_isWord, if_pos h]

/-- How an instance's registers lie: its settings below them, PM_STATUS elsewhere, and L-CAP's U_NEXT after them. -/
structure LoopRef.Placed (l : LoopRef) : Prop where
  sets : l.sets + 0x20 ≤ l.inst
  far : l.inst + 0x50 ≤ 0x200A0000 ∨ 0x200A0000 < l.inst
  next : l.typ = 3 → l.inst = 0x20038C00

theorem loopType_le (i : Nat) : loopType i ≤ 2 := by
  unfold loopType
  split
  · omega
  · split <;> omega

theorem placed_loopRef (f i : Nat) : (loopRef f i).Placed := by
  have := loopType_le i
  constructor
  · simp only [loopRef]
    omega
  · simp only [loopRef, ceBase, stBase]
    omega
  · intro h
    simp only [loopRef] at h
    omega

theorem placed_capRef : capRef.Placed := ⟨by decide, .inl (by decide), fun _ => rfl⟩

theorem top_capRef : capRef.top = capRef.inst + 0x50 := rfl

theorem top_loopRef (f i : Nat) : (loopRef f i).top = (loopRef f i).inst + 0x40 := by
  have := loopType_le i
  rw [LoopRef.top, if_neg]
  simp only [loopRef]
  omega

section
variable {l : LoopRef}

/-- A state lies in its own word, between 0x10 and 0x40 of the instance's registers. -/
theorem LoopRef.mem_states {y : Fld} (h : y ∈ l.states) : l.inst + 0x10 ≤ y.addr ∧ y.addr < l.inst + 0x40 := by
  simp only [states, s1, s2, ms1, ms2, List.mem_cons, List.not_mem_nil, or_false] at h
  rcases h with rfl | rfl | rfl | rfl | rfl | rfl | rfl | rfl | rfl | rfl | rfl | rfl <;> constructor <;> simp

/-- What lies in the first four words, or outside the instance's registers, is no state. -/
theorem LoopRef.apart_states {x : Fld} (h : x.addr < l.inst + 0x10 ∨ l.inst + 0x40 ≤ x.addr) : ∀ y ∈ l.states, x.apart y := by
  intro y hy
  have := LoopRef.mem_states hy
  exact .inl (by omega)

theorem LoopRef.s1_mem_states {j : Nat} (h : j < 4) : l.s1 j ∈ l.states := by
  have : j = 0 ∨ j = 1 ∨ j = 2 ∨ j = 3 := by omega
  rcases this with rfl | rfl | rfl | rfl <;> simp [states]

theorem LoopRef.s2_mem_states {j : Nat} (h : j < 4) : l.s2 j ∈ l.states := by
  have : j = 0 ∨ j = 1 ∨ j = 2 ∨ j = 3 := by omega
  rcases this with rfl | rfl | rfl | rfl <;> simp [states]

theorem LoopRef.ms_mem_states {j : Nat} (h : j < 2) : l.ms1 j ∈ l.states ∧ l.ms2 j ∈ l.states := by
  have : j = 0 ∨ j = 1 := by omega
  rcases this with rfl | rfl <;> simp [states]

theorem LoopRef.s2_apart_s1 (l : LoopRef) (i j : Nat) : (l.s2 i).apart (l.s1 j) := by
  simp only [Fld.apart, s1, s2]
  omega

theorem LoopRef.ms_apart_s1 {i j : Nat} (hi : i < 2) (hj : j < 4) : (l.ms1 i).apart (l.s1 j) ∧ (l.ms2 i).apart (l.s1 j) := by
  simp only [Fld.apart, ms1, ms2, s1]
  omega

/-! What the instance reads stands while states are written. -/

theorem lins_of_bare {d e : Dev} (h : d.bare = e.bare) (l : LoopRef) : d.lins l = e.lins l := by
  have : d.bare.inst = e.bare.inst := by rw [h]
  change tget _ d.bare.inst _ = tget _ e.bare.inst _
  rw [this]

theorem cmd_of_rd {d e : Dev} (h : d.rd l.u = e.rd l.u) : d.cmd l = e.cmd l := by
  rw [Dev.cmd, Dev.cmd, Dev.rdS, Dev.rdS, h]

theorem lawLen_of_rd {d e : Dev} (h : d.rd l.chainN = e.rd l.chainN) : d.lawLen l = e.lawLen l := by
  rw [Dev.lawLen, Dev.lawLen, h]

end

@[simp] theorem lins_settle (l : LoopRef) (d : Dev) : (settle d).lins l = d.lins l := by rw [Dev.lins, settle_inst, Dev.lins]

@[simp] theorem lins_updLins_same (l : LoopRef) (g : InstS → InstS) (d : Dev) : (d.updLins l g).lins l = g (d.lins l) :=
  tget_tupd_same _ _ _ _

/-! Re-arming (R105). -/

/-- The device with the instance's states cleared, but for the first one of the last section of its law. -/
def Dev.rearmed (d : Dev) (l : LoopRef) : Dev :=
  onlyIf (d.lawLen l ≠ 0) (fun e => e.wrS (l.s1 (d.lawLen l - 1)) (d.cmd l * (2 ^ d.rd l.outShift : Nat))) (zeroStates l d)

section
variable {l : LoopRef} {d : Dev}

theorem rd_rearmed_apart {x : Fld} (h : x.addr < l.inst + 0x10 ∨ l.inst + 0x40 ≤ x.addr) : (d.rearmed l).rd x = d.rd x := by
  have hlen : d.lawLen l ≤ 4 := Nat.min_le_left _ _
  refine (rd_onlyIf ?_).trans (rd_zeroStates_apart (LoopRef.apart_states h) d)
  refine rd_wrS_apart _ (.inl ?_)
  simp only [LoopRef.s1]
  omega

theorem bare_rearmed : (d.rearmed l).bare = d.bare := by
  rw [Dev.rearmed, bare_onlyIf (bare_wrS _ _ _), bare_zeroStates]

theorem rd_rearmed_s1 {j n : Nat} (hn : d.lawLen l = n) (h : j < 4) : (d.rearmed l).rd (l.s1 j) =
    if j + 1 = n then unsignedOf 32 (d.cmd l * (2 ^ d.rd l.outShift : Nat)) else 0 := by
  have hz := rd_zeroStates (LoopRef.s1_mem_states (l := l) h) d
  unfold Dev.rearmed onlyIf
  rw [hn]
  by_cases hj : j + 1 = n
  · subst hj
    simp only [Nat.add_sub_cancel, ne_eq, Nat.add_one_ne_zero, not_false_eq_true, decide_true, if_true, Dev.wrS]
    rw [rd_wr_eq _ (by simp [Fld.fits, LoopRef.s1])]
    exact Nat.mod_eq_of_lt (by simp only [LoopRef.s1, unsignedOf]; omega)
  · rw [if_neg hj]
    split
    · refine (rd_wrS_apart _ (.inl ?_)).trans hz
      simp only [LoopRef.s1]
      simp at *
      omega
    · exact hz

theorem rd_rearmed_word {x : Fld} (hm : x ∈ l.states) (h : ∀ j < 4, x.apart (l.s1 j)) : (d.rearmed l).rd x = 0 :=
  have hlen : d.lawLen l ≤ 4 := Nat.min_le_left _ _
  (rd_onlyIf (rd_wrS_apart _ (h _ (by omega)))).trans (rd_zeroStates hm d)

/-- R105: the re-arm that an instance waits for, at its period boundary. -/
theorem rearmApply_due (hl : l.Placed) (hf : d.rdB l.frozen = true) (hp : d.rdB l.rearmPend = true) : rearmApply l d =
    ((((d.rearmed l).wr l.pcnt 0).wrB l.frozen false).wrB l.rearmPend false).updLins l
      fun i => { i with exempt := true, uPrev := d.cmd l } := by
  have hs := hl.sets
  have hz {x : Fld} (h : x.addr < l.inst + 0x10) : (zeroStates l d).rd x = d.rd x := rd_zeroStates_apart (LoopRef.apart_states (.inl h)) d
  have hlen : (zeroStates l d).lawLen l = d.lawLen l := lawLen_of_rd (hz (by simp only [LoopRef.chainN]; omega))
  have hcmd : (zeroStates l d).cmd l = d.cmd l := cmd_of_rd (hz (by simp only [LoopRef.u]; omega))
  have hsh : (zeroStates l d).rd l.outShift = d.rd l.outShift := hz (by simp only [LoopRef.outShift]; omega)
  have hcmd' : (d.rearmed l).cmd l = d.cmd l := cmd_of_rd (rd_rearmed_apart (by simp only [LoopRef.u]; omega))
  have hre : onlyIf ((zeroStates l d).lawLen l ≠ 0) (fun e => e.wrS (l.s1 (e.lawLen l - 1))
      (e.cmd l * (2 ^ e.rd l.outShift : Nat))) (zeroStates l d) = d.rearmed l := by
    unfold Dev.rearmed onlyIf
    simp only [hlen, hcmd, hsh]
  simp -implicitDefEqProofs only [rearmApply, hf, hp, Bool.and_self, if_true, hre, hcmd']

end

/-- R105: a re-arm that waits for the period boundary. -/
theorem completes_rearmReq {c : Instr} {s : State} {l : LoopRef} {confl : Fld} {g : Dev → Dev} (hc : exec c s = done g s)
    (hs : s.awake) (hg : g s.dev = rearmReq l confl s.dev) (hl : l.Placed) (hf : s.dev.rdB l.frozen = true) :
    Completes c s fun t => t.dev.rdB l.rearmPend = true ∧ s.changes t s.dev [l.rearmPend] := by
  have hfar := hl.far
  refine completes_eq hc hs (hg.trans (if_pos hf)) ⟨?_, changes_bare (bare_wrB _ _ _) fun x hx => rd_wrB_apart _ (hx _ (by simp))⟩
  rw [rdB_settle (.inl (by simp only [LoopRef.rearmPend, PM_STATUS_ALERT]; omega)), rdB_wrB_eq _ ⟨rfl, by simp [Fld.fits, LoopRef.rearmPend]⟩]

/-- R105: a re-arm of an instance that is not frozen. -/
theorem rearmReq_refused {l : LoopRef} {confl : Fld} {d : Dev} (hf : d.rdB l.frozen = false) : rearmReq l confl d = conflict confl d := by
  rw [rearmReq, hf]
  rfl

/-- R105: what a re-arm leaves. -/
theorem completes_rearm {c : Instr} {s : State} {l : LoopRef} {n : Nat} {g : Dev → Dev} (hc : exec c s = done g s) (hs : s.awake)
    (hg : g s.dev = rearmApply l s.dev) (hl : l.Placed) (hf : s.dev.rdB l.frozen = true) (hp : s.dev.rdB l.rearmPend = true)
    (hn : s.dev.lawLen l = n) : Completes c s fun t => t.dev.rdB l.frozen = false ∧ t.dev.rdB l.rearmPend = false ∧
      t.dev.rd l.pcnt = 0 ∧ (t.dev.lins l).exempt = true ∧ (t.dev.lins l).uPrev = s.dev.cmd l ∧
      (∀ j : Fin 4, t.dev.rd (l.s1 j) = if j.val + 1 = n then unsignedOf 32 (s.dev.cmd l * (2 ^ s.dev.rd l.outShift : Nat)) else 0) ∧
      (∀ j : Fin 4, t.dev.rd (l.s2 j) = 0) ∧ (∀ j : Fin 2, t.dev.rd (l.ms1 j) = 0 ∧ t.dev.rd (l.ms2 j) = 0) ∧
      s.within t { s.dev with inst := t.dev.inst } l.inst (l.inst + 0x40) := by
  have hfar := hl.far
  have hset (x : Fld) (h : l.inst ≤ x.addr ∧ x.addr < l.inst + 0x50) : x.apart PM_STATUS_ALERT :=
    .inl (by simp only [PM_STATUS_ALERT]; omega)
  refine completes_eq hc hs (hg.trans (rearmApply_due hl hf hp)) ⟨?_, ?_, ?_, ?_, ?_, fun j => ?_, fun j => ?_, fun j => ⟨?_, ?_⟩, ?_⟩
  · rw [rdB_settle (hset _ (by simp [LoopRef.frozen]))]
    simp -implicitDefEqProofs [Fld.apart, Fld.fits, LoopRef.frozen, LoopRef.rearmPend]
  · rw [rdB_settle (hset _ (by simp [LoopRef.rearmPend]))]
    simp -implicitDefEqProofs [Fld.fits, LoopRef.rearmPend]
  · rw [rd_settle (hset _ (by simp [LoopRef.pcnt]))]
    simp -implicitDefEqProofs [Fld.apart, Fld.fits, LoopRef.frozen, LoopRef.rearmPend, LoopRef.pcnt]
  · rw [lins_settle, lins_updLins_same]
  · rw [lins_settle, lins_updLins_same]
  · rw [rd_settle (hset _ (by simp [LoopRef.s1]; omega)), ← rd_rearmed_s1 hn j.isLt]
    simp -implicitDefEqProofs [Fld.apart, LoopRef.frozen, LoopRef.rearmPend, LoopRef.pcnt, LoopRef.s1, Nat.add_assoc]
  · rw [rd_settle (hset _ (by simp [LoopRef.s2]; omega)), ← rd_rearmed_word (d := s.dev) (LoopRef.s2_mem_states j.isLt) fun i _ => LoopRef.s2_apart_s1 l j i]
    simp -implicitDefEqProofs [Fld.apart, LoopRef.frozen, LoopRef.rearmPend, LoopRef.pcnt, LoopRef.s2, Nat.add_assoc]
  · rw [rd_settle (hset _ (by simp [LoopRef.ms1]; omega)),
      ← rd_rearmed_word (l := l) (d := s.dev) (LoopRef.ms_mem_states j.isLt).1 fun i hi => LoopRef.ms_apart_s1 j.isLt hi |>.1]
    simp -implicitDefEqProofs [Fld.apart, LoopRef.frozen, LoopRef.rearmPend, LoopRef.pcnt, LoopRef.ms1, Nat.add_assoc]
  · rw [rd_settle (hset _ (by simp [LoopRef.ms2]; omega)),
      ← rd_rearmed_word (l := l) (d := s.dev) (LoopRef.ms_mem_states j.isLt).2 fun i hi => LoopRef.ms_apart_s1 j.isLt hi |>.2]
    simp -implicitDefEqProofs [Fld.apart, LoopRef.frozen, LoopRef.rearmPend, LoopRef.pcnt, LoopRef.ms2, Nat.add_assoc]
  · refine within_bare ?_ fun x hx => ?_
    · rw [settle_inst]
      refine bare_inst (i := (s.dev.updLins l fun i => { i with exempt := true, uPrev := s.dev.cmd l }).inst) ?_
      rw [bare_updLins, bare_wrB, bare_wrB, bare_wr, bare_rearmed]
      rfl
    · have hne : x.addr ≠ l.inst := by omega
      simp only [updLins_rd]
      rw [rd_wrB_apart _ (.inl hne), rd_wrB_apart _ (.inl hne), rd_wr_apart _ (.inl hne), rd_rearmed_apart (by omega)]

/-- Settles O18. -/
theorem rearming : Obligations.Rearming := by
  unfold Obligations.Rearming
  refine ⟨fun s f i hs hi hf => ?_, fun s f i hs h => ?_, fun s hs hf => ?_, fun s hs hf => ?_, fun s f i n hs hf hon hb hz hp hn _ => ?_,
    fun s f i n hs hf hn _ hr hsel hper hz hp => ?_⟩
  · exact completes_rearmReq rfl hs (if_pos hi) (placed_loopRef _ _) hf
  · refine completes_conflict rfl hs ?_ ⟨rfl, by simp [Fld.fits, CE_STATUS_STATE_CONFLICT]⟩ (.inl ?_)
    · rcases h with h | h
      · exact if_neg (by omega)
      · by_cases hi : i.toNat ≤ 40
        · exact (if_pos hi).trans (rearmReq_refused h)
        · exact if_neg hi
    · simp only [CE_STATUS_STATE_CONFLICT, PM_STATUS_ALERT, ceBase, stBase]
      omega
  · exact completes_rearmReq rfl hs rfl placed_capRef hf
  · exact completes_conflict rfl hs (rearmReq_refused hf) (by decide) (by decide)
  · refine completes_rearm rfl hs ?_ (placed_loopRef _ _) hz hp hn
    rw [if_neg hf, rearmSteward, if_pos (by rw [hon, hb]; rfl)]
  · have hg : rearmCap s.dev = rearmApply capRef s.dev := by
      rw [rearmCap, if_pos (by rw [Dev.stopped, hr, hsel, hper]; rfl)]
    have hc : exec (.rearmApply f i) s = done rearmCap s := by
      change done (if f.val = 96 then rearmCap else rearmSteward f.val i.val) s = _
      rw [if_pos hf]
    obtain ⟨t, ht, hfz, hpend, hcnt, hex, hprev, hs1, hs2, hms, hparts, hregs⟩ := completes_rearm hc hs hg placed_capRef hz hp hn
    exact ⟨t, ht, hfz, hpend, hcnt, hex, hprev, fun j => ⟨hs1 j, hs2 j⟩, hms, hparts, hregs⟩

/-! What law and model of an instance change at a sample (R80 to R102). -/

/-- The fields of an instance's registers that its law and its model write, beside the error. -/
def LoopRef.worked (l : LoopRef) : List Fld := [l.sat, l.lim, l.uNext, l.pred] ++ l.states

/-- A field that neither law nor model of the instance writes. -/
def LoopRef.Spares (l : LoopRef) (x : Fld) : Prop := ∀ y ∈ l.worked, x.apart y

/-- A device that differs from another in the loops' states, its reports and its registers at most. -/
def Dev.LoopsMove (d e : Dev) : Prop := e.bare = { d.bare with inst := e.inst, fc := { d.fc with raised := e.fc.raised } }

theorem Dev.LoopsMove.trans {d e e' : Dev} (h : d.LoopsMove e) (h' : e.LoopsMove e') : d.LoopsMove e' := by
  unfold Dev.LoopsMove at *
  have hb := congrArg Dev.fc h
  change e.fc = _ at hb
  rw [h', h, hb]

/-- What law and model of an instance change at most: its commands, states and prediction; reports are added. -/
structure LoopRef.Evolves (l : LoopRef) (d e : Dev) : Prop where
  bare : d.LoopsMove e
  rd : ∀ x, l.Spares x → e.rd x = d.rd x
  sampledAt : (e.lins l).sampledAt = (d.lins l).sampledAt
  hasLast : (e.lins l).hasLast = (d.lins l).hasLast
  exempt : (e.lins l).exempt = (d.lins l).exempt

namespace LoopRef.Evolves
variable {l : LoopRef} {d e e' : Dev}

theorem refl (l : LoopRef) (d : Dev) : l.Evolves d d := ⟨rfl, fun _ _ => rfl, rfl, rfl, rfl⟩

theorem trans (h : l.Evolves d e) (h' : l.Evolves e e') : l.Evolves d e' where
  bare := h.bare.trans h'.bare
  rd x hx := (h'.rd x hx).trans (h.rd x hx)
  sampledAt := h'.sampledAt.trans h.sampledAt
  hasLast := h'.hasLast.trans h.hasLast
  exempt := h'.exempt.trans h.exempt

theorem wr {fl : Fld} (h : fl ∈ l.worked) (v : Nat) (d : Dev) : l.Evolves d (d.wr fl v) :=
  ⟨rfl, fun _ hx => rd_wr_apart v (hx fl h), rfl, rfl, rfl⟩

theorem wrS {fl : Fld} (h : fl ∈ l.worked) (z : Int) (d : Dev) : l.Evolves d (d.wrS fl z) := wr h _ d

theorem wrB {fl : Fld} (h : fl ∈ l.worked) (b : Bool) (d : Dev) : l.Evolves d (d.wrB fl b) := wr h _ d

theorem setSat (limited : Bool) (d : Dev) : l.Evolves d (Machine.setSat l limited d) := by
  unfold Machine.setSat
  split
  · exact ⟨rfl, fun x hx => rd_wrB_apart true (hx l.sat (by simp [worked])), rfl, rfl, rfl⟩
  · exact refl l d

theorem secStore {f1 f2 : Fld} (h1 : f1 ∈ l.worked) (h2 : f2 ∈ l.worked) (slot b : Nat) (x yf : Int) (d : Dev) :
    l.Evolves d (Machine.secStore l f1 f2 slot b x yf d) :=
  ((wrS h1 _ d).trans (wrS h2 _ _)).trans (setSat _ _)

theorem chainRun {f1 f2 : Nat → Fld} (b : Nat) : ∀ (slots : List Nat) (j : Nat) (x : Int) (d : Dev),
    (∀ i, j ≤ i → i < j + slots.length → f1 i ∈ l.worked ∧ f2 i ∈ l.worked) → l.Evolves d (Machine.chainRun l f1 f2 b j slots x d).1
  | [], _, _, d, _ => refl l d
  | slot :: rest, j, x, d, h => by
    obtain ⟨h1, h2⟩ := h j (Nat.le_refl j) (by simp)
    have hsec : l.Evolves d (secRun l (f1 j) (f2 j) slot b x d).1 := (setSat _ d).trans (secStore h1 h2 _ _ _ _ _)
    refine hsec.trans (chainRun b rest (j + 1) _ _ fun i hi hr => h i (by omega) ?_)
    rw [List.length_cons]
    omega

theorem s_worked {j : Nat} (h : j < 4) : l.s1 j ∈ l.worked ∧ l.s2 j ∈ l.worked :=
  ⟨List.mem_append_right _ (s1_mem_states h), List.mem_append_right _ (s2_mem_states h)⟩

theorem ms_worked {j : Nat} (h : j < 2) : l.ms1 j ∈ l.worked ∧ l.ms2 j ∈ l.worked :=
  ⟨List.mem_append_right _ (ms_mem_states h).1, List.mem_append_right _ (ms_mem_states h).2⟩

theorem uNext_worked : l.uNext ∈ l.worked := by simp [worked]
theorem lim_worked : l.lim ∈ l.worked := by simp [worked]
theorem pred_worked : l.pred ∈ l.worked := by simp [worked]

/-- R88 to R90: the law stores the error, and evolves. -/
theorem law (x : SampleIn) (d : Dev) : l.Evolves
    (d.wrS l.inWord (sat32 ((x.sp - x.fb) * (2 ^ d.rd (l.inShift x.band) : Nat)))) (Machine.law l x d) := by
  have hlen (d : Dev) : (d.lawSlots l).length ≤ 4 := by
    rw [Dev.lawSlots, List.length_map, List.length_range]
    exact Nat.min_le_left _ _
  simp -implicitDefEqProofs only [Machine.law]
  refine (setSat (limits32 ((x.sp - x.fb) * (2 ^ d.rd (l.inShift x.band) : Nat))) _).trans ?_
  generalize Machine.setSat l _ _ = d1
  have h4 := hlen d1
  split
  · exact (wrS uNext_worked _ _).trans (wrB lim_worked _ _)
  next slot hslot =>
    have hpos := (List.length_pos_iff (l := d1.lawSlots l)).mpr (by rintro h; rw [h] at hslot; cases hslot)
    have hlast := s_worked (l := l) (j := (d1.lawSlots l).length - 1) (by omega)
    refine (chainRun (f1 := l.s1) (f2 := l.s2) _ _ _ _ d1 fun i _ hi => s_worked ?_).trans
      ((((setSat _ _).trans (secStore hlast.1 hlast.2 _ _ _ _ _)).trans (wrS uNext_worked _ _)).trans (wrB lim_worked _ _))
    rw [List.length_dropLast] at hi
    omega

/-- R101: the model evolves. -/
theorem modelRun (v : Int) (d : Dev) : l.Evolves d (Machine.modelRun l v d).1 := by
  refine (setSat _ d).trans (chainRun _ _ _ _ _ fun i _ hi => ms_worked ?_)
  have : (d.modelSlots l).length ≤ 2 := by
    rw [Dev.modelSlots, List.length_map, List.length_range]
    exact Nat.min_le_left _ _
  omega

/-- A change of the states that a prediction keeps. -/
theorem updLins {g : InstS → InstS} (h : ∀ i, (g i).sampledAt = i.sampledAt ∧ (g i).hasLast = i.hasLast ∧ (g i).exempt = i.exempt)
    (d : Dev) : l.Evolves d (d.updLins l g) where
  bare := rfl
  rd _ _ := rfl
  sampledAt := by rw [lins_updLins_same, (h _).1]
  hasLast := by rw [lins_updLins_same, (h _).2.1]
  exempt := by rw [lins_updLins_same, (h _).2.2]

theorem predict (x : SampleIn) (d : Dev) : l.Evolves d (Machine.predict l x d) := by
  refine (((modelRun _ d).trans (wrS pred_worked _ _)).trans (setSat _ _)).trans (updLins ?_ _)
  exact fun _ => ⟨rfl, rfl, rfl⟩

theorem predictTherm (x : SampleIn) (d : Dev) : l.Evolves d (Machine.predictTherm l x d) := by
  refine (wrS pred_worked _ d).trans (updLins ?_ _)
  exact fun _ => ⟨rfl, rfl, rfl⟩

end LoopRef.Evolves

/-! One sample (R88 to R104). -/

/-- The device at a sample, with the region chosen. -/
def Dev.banked (d : Dev) (l : LoopRef) (x : SampleIn) : Dev :=
  chooseBank l x (d.updLins l fun i => { i with sampledAt := some d.time.nb })

section
variable {l : LoopRef} {x : SampleIn} {d : Dev}

theorem rd_banked {y : Fld} (h : y.apart l.bank) : (d.banked l x).rd y = d.rd y := by
  rw [Dev.banked, chooseBank, updLins_rd, rd_wr_apart _ h, updLins_rd]

theorem bare_banked : (d.banked l x).bare =
    (d.bare.updLins l fun i => { i with sampledAt := some d.time.nb }).updLins l fun i => { i with hasRegion := true } := by
  rw [Dev.banked, chooseBank, bare_updLins, bare_wr, bare_updLins]

theorem lins_banked : (d.banked l x).lins l = { d.lins l with sampledAt := some d.time.nb, hasRegion := true } := by
  rw [lins_of_bare (e := (d.updLins l fun i => { i with sampledAt := some d.time.nb }).updLins l fun i => { i with hasRegion := true })]
  · rw [lins_updLins_same, lins_updLins_same]
  · rw [bare_banked, bare_updLins, bare_updLins]

/-- R103: an exempt sample is stale for the comparison. -/
theorem compare_exempt (h : (d.lins l).exempt = true) :
    compare l x d = (d.updLins l fun i => { i with exempt := false }).wrB l.stale true := by
  simp -implicitDefEqProofs only [compare, h, Bool.true_or, if_true]

/-- The device after an exempt sample's comparison. -/
def Dev.exempted (d : Dev) (l : LoopRef) (x : SampleIn) : Dev :=
  ((d.banked l x).updLins l fun i => { i with exempt := false }).wrB l.stale true

/-- R88 to R103: an exempt sample of an instance that is not frozen, after which it has a last command. -/
theorem sample_exempt (hf : d.rdB l.frozen = false) (hn : (d.lins l).sampledAt ≠ some d.time.nb) (he : (d.lins l).exempt = true)
    (hp : d.rd l.pcnt ≠ 16) : l.Evolves ((law l x (d.exempted l x)).updLins l fun i => { i with hasLast := true }) (sample l x d) := by
  have hexc : ((d.banked l x).lins l).exempt = true := by rw [lins_banked, he]
  have hcmp : compare l x (d.banked l x) = d.exempted l x := compare_exempt hexc
  have hcnt : (d.exempted l x).rd l.pcnt = d.rd l.pcnt := by
    rw [Dev.exempted, rd_wrB_apart _ (by simp [Fld.apart, LoopRef.pcnt, LoopRef.stale]), updLins_rd,
      rd_banked (by simp [Fld.apart, LoopRef.pcnt, LoopRef.bank])]
  rw [Dev.banked] at hcmp
  simp -implicitDefEqProofs only [sample, hf, hn, hcmp, hcnt, hp, decide_false, Bool.or_self, Bool.false_eq_true, if_false]
  split
  · exact .refl _ _
  · split
    · exact .predictTherm _ _
    · exact .predict _ _

end

section
variable {l : LoopRef}

/-- What lies outside the instance's registers is spared by its law and its model. -/
theorem LoopRef.Placed.spares_outside (hl : l.Placed) {x : Fld} (h : x.addr < l.inst ∨ l.top ≤ x.addr) : l.Spares x := by
  have hnext := hl.next
  intro y hy
  refine .inl fun ha => ?_
  rw [LoopRef.top] at h
  simp only [LoopRef.worked, List.cons_append, List.nil_append, List.mem_cons] at hy
  rcases hy with rfl | rfl | rfl | rfl | hy
  · simp only [LoopRef.sat] at ha
    split at h <;> omega
  · simp only [LoopRef.lim] at ha
    split at h <;> omega
  · rw [LoopRef.uNext] at ha
    split at h <;> rename_i ht <;> simp only [ht, if_true, if_false] at ha <;> omega
  · simp only [LoopRef.pred] at ha
    split at h <;> omega
  · have := LoopRef.mem_states hy
    split at h <;> omega

/-- The first words of the instance's registers but for SAT and LIM are spared. -/
theorem LoopRef.Placed.spares_first (hl : l.Placed) {x : Fld} (h : (x.addr = l.inst ∧ (x.lo + x.w ≤ 1 ∨ 3 ≤ x.lo)) ∨ x.addr = l.inst + 4) :
    l.Spares x := by
  have hnext := hl.next
  intro y hy
  simp only [LoopRef.worked, List.cons_append, List.nil_append, List.mem_cons] at hy
  rcases hy with rfl | rfl | rfl | rfl | hy
  · simp only [Fld.apart, LoopRef.sat]
    omega
  · simp only [Fld.apart, LoopRef.lim]
    omega
  · refine .inl fun ha => ?_
    rw [LoopRef.uNext] at ha
    split at ha <;> simp only at ha <;> omega
  · refine .inl ?_
    simp only [LoopRef.pred]
    omega
  · have := LoopRef.mem_states hy
    exact .inl (by omega)

theorem signedOf_unsignedOf {z : Int} (h : -2147483648 ≤ z) (h' : z ≤ 2147483647) : signedOf 32 (unsignedOf 32 z % 2 ^ 32) = z := by
  simp only [signedOf, unsignedOf]
  omega

theorem sat32_bounds (z : Int) : -2147483648 ≤ sat32 z ∧ sat32 z ≤ 2147483647 := by
  simp only [sat32, clampI]
  split
  · omega
  · split <;> omega

theorem rd_exempted {x : SampleIn} {d : Dev} {y : Fld} (hb : y.apart l.bank) (hs : y.apart l.stale) : (d.exempted l x).rd y = d.rd y := by
  rw [Dev.exempted, rd_wrB_apart _ hs, updLins_rd, rd_banked hb]

theorem loopsMove_wrS (fl : Fld) (z : Int) (d : Dev) : d.LoopsMove (d.wrS fl z) := rfl

theorem loopsMove_updLins (l : LoopRef) (g : InstS → InstS) (d : Dev) : d.LoopsMove (d.updLins l g) := rfl

theorem loopsMove_banked {x : SampleIn} {d : Dev} : d.LoopsMove (d.banked l x) := rfl

theorem loopsMove_exempted {x : SampleIn} {d : Dev} : d.LoopsMove (d.exempted l x) := rfl

/-- R88 to R103: what an exempt sample leaves. -/
theorem completes_exemptSample {c : Instr} {s : State} {g : Dev → Dev} {x : SampleIn} (hc : exec c s = done g s) (hs : s.awake)
    (hg : g s.dev = sample l x s.dev) (hl : l.Placed) (hf : s.dev.rdB l.frozen = false)
    (hn : (s.dev.lins l).sampledAt ≠ some s.dev.time.nb) (he : (s.dev.lins l).exempt = true) (hp : s.dev.rd l.pcnt ≠ 16) :
    Completes c s fun t => (t.dev.lins l).sampledAt = some s.dev.time.nb ∧ (t.dev.lins l).hasLast = true ∧
      (t.dev.lins l).exempt = false ∧ t.dev.rdB l.stale = true ∧ t.dev.rdB l.frozen = false ∧
      t.dev.rdS l.inWord = sat32 ((x.sp - x.fb) * (2 ^ s.dev.rd (l.inShift x.band) : Nat)) ∧
      s.within t { s.dev with inst := t.dev.inst, fc := { s.dev.fc with raised := t.dev.fc.raised } } l.inst l.top := by
  have hfar := hl.far
  have hsets := hl.sets
  have hset {y : Fld} (h : l.inst ≤ y.addr ∧ y.addr < l.inst + 0x50) : y.apart PM_STATUS_ALERT :=
    .inl (by simp only [PM_STATUS_ALERT]; omega)
  have hlaw := LoopRef.Evolves.law (l := l) x (s.dev.exempted l x)
  have hend := sample_exempt (x := x) hf hn he hp
  rw [rd_exempted (by simp only [Fld.apart, LoopRef.inShift, LoopRef.bank]; omega)
    (by simp only [Fld.apart, LoopRef.inShift, LoopRef.stale]; omega)] at hlaw
  generalize hD : sample l x s.dev = D at hend
  have hrd {y : Fld} (hy : l.Spares y) : D.rd y = ((s.dev.exempted l x).wrS l.inWord (sat32 ((x.sp - x.fb) * (2 ^ s.dev.rd (l.inShift x.band) : Nat)))).rd y :=
    (hend.rd y hy).trans (hlaw.rd y hy)
  have hins : ((s.dev.exempted l x).lins l) = { s.dev.lins l with sampledAt := some s.dev.time.nb, hasRegion := true, exempt := false } := by
    rw [Dev.exempted, lins_of_bare (bare_wrB _ _ _), lins_updLins_same, lins_banked]
  refine completes_eq hc hs (hg.trans hD) ⟨?_, ?_, ?_, ?_, ?_, ?_, within_bare ?_ fun y hy => ?_⟩
  · rw [lins_settle, hend.sampledAt, lins_updLins_same, hlaw.sampledAt, lins_of_bare (bare_wrS _ _ _), hins]
  · rw [lins_settle, hend.hasLast, lins_updLins_same]
  · rw [lins_settle, hend.exempt, lins_updLins_same, hlaw.exempt, lins_of_bare (bare_wrS _ _ _), hins]
  · rw [rdB_settle (hset (by simp [LoopRef.stale])), Dev.rdB, hrd (hl.spares_first (by simp [LoopRef.stale])),
      rd_wrS_apart _ (by simp [Fld.apart, LoopRef.stale, LoopRef.inWord])]
    exact rdB_wrB_eq true ⟨rfl, by simp [Fld.fits, LoopRef.stale]⟩
  · rw [rdB_settle (hset (by simp [LoopRef.frozen])), Dev.rdB, hrd (hl.spares_first (by simp [LoopRef.frozen])),
      rd_wrS_apart _ (by simp [Fld.apart, LoopRef.frozen, LoopRef.inWord]),
      rd_exempted (by simp [Fld.apart, LoopRef.frozen, LoopRef.bank]) (by simp [Fld.apart, LoopRef.frozen, LoopRef.stale])]
    exact hf
  · rw [Dev.rdS, rd_settle (hset (by simp [LoopRef.inWord])), hrd (hl.spares_first (by simp [LoopRef.inWord])), Dev.wrS,
      rd_wr_eq _ (by simp [Fld.fits, LoopRef.inWord])]
    have hw : l.inWord.w = 32 := rfl
    rw [hw]
    exact signedOf_unsignedOf (sat32_bounds _).1 (sat32_bounds _).2
  · have hb : s.dev.LoopsMove D := 
      (((loopsMove_exempted.trans (loopsMove_wrS _ _ _)).trans hlaw.bare).trans (loopsMove_updLins _ _ _)).trans hend.bare
    rw [settle_inst, settle_fc]
    exact hb
  · have ho : y.addr < l.inst ∨ l.inst + 0x40 ≤ y.addr := by
      rw [LoopRef.top] at hy
      split at hy <;> omega
    rw [hrd (hl.spares_outside hy), rd_wrS_apart _ (.inl (by simp only [LoopRef.inWord]; omega)),
      rd_exempted (.inl (by simp only [LoopRef.bank]; omega)) (.inl (by simp only [LoopRef.stale]; omega))]

end

/-- Settles O16. -/
theorem loopSamples : Obligations.LoopSamples := by
  unfold Obligations.LoopSamples
  refine ⟨fun s f k hs hon hf hn he hp => ?_, fun s f hs hon hper hf hn he hp => ?_, fun s hs hr hres hsel hnb hper hf hn he hp => ?_⟩
  · have hg : slewSample f.val k.val s.dev = _ := if_pos hon
    have h := completes_exemptSample (c := .lSlewSample f k) rfl hs hg (placed_loopRef f k) hf hn he hp
    rwa [top_loopRef] at h
  · have hg : powerSample f.val s.dev = _ := if_pos (by rw [hon, hper]; rfl)
    have h := completes_exemptSample (c := .lPowerSample f) rfl hs hg (placed_loopRef f 4) hf hn he hp
    rwa [top_loopRef] at h
  · have hg : capSample s.dev = _ := if_pos (by simp [Dev.stopped, hr, hres, hsel, hnb, hper])
    have h := completes_exemptSample (c := .lCapSample) rfl hs hg placed_capRef hf hn he hp
    rwa [top_capRef] at h

/-- R94: the pending command of an instance comes into force. -/
theorem completes_loopEffect {c : Instr} {s : State} {l : LoopRef} {g : Dev → Dev} (hc : exec c s = done g s) (hs : s.awake)
    (hg : g s.dev = loopEffect l s.dev) (hl : l.Placed) (hn : (s.dev.lins l).sampledAt ≠ some s.dev.time.nb) :
    Completes c s fun t => t.dev.rd l.u = s.dev.rd l.uNext ∧ s.changes t s.dev [l.u] := by
  have hfar := hl.far
  have hw : l.u.w = l.uNext.w ∧ l.u.fits := by
    rw [Fld.fits, LoopRef.u, LoopRef.uNext]
    split <;> simp
  have hg' : loopEffect l s.dev = s.dev.wr l.u (s.dev.rd l.uNext) := by rw [loopEffect, if_neg hn, takeEffect]
  refine completes_eq hc hs (hg.trans hg') ⟨?_, changes_bare (bare_wr _ _ _) fun x hx => rd_wr_apart _ (hx _ (by simp))⟩
  rw [rd_settle (.inl (by simp only [LoopRef.u, PM_STATUS_ALERT]; omega)), rd_wr_eq _ hw.2, hw.1]
  exact Nat.mod_eq_of_lt (rd_lt _ _)

/-- The command limits of the safe value and the last command, read through a device that holds the same of them. -/
theorem safeCmd_lastCmd {l : LoopRef} {d e : Dev} (sp : Int) (hsafe : d.rd l.safe = e.rd l.safe) (hu : d.rd l.u = e.rd l.u)
    (hlast : (d.lins l).hasLast = (e.lins l).hasLast) : d.safeCmd l sp (d.lastCmd l) = e.safeCmd l sp (e.lastCmd l) := by
  have hcmd : d.lastCmd l = e.lastCmd l := by rw [Dev.lastCmd, Dev.lastCmd, hlast, cmd_of_rd hu]
  simp -implicitDefEqProofs only [hcmd, Dev.safeCmd, Dev.rdS, hsafe]

/-- The device of an implausible sample before the freeze. -/
def Dev.implausible (d : Dev) (l : LoopRef) (x : SampleIn) : Dev :=
  (((d.banked l x).updLins l fun i => { i with exempt := false }).wrB l.stale false).wr l.pcnt 16

theorem rd_implausible {l : LoopRef} {x : SampleIn} {d : Dev} {y : Fld} (hb : y.apart l.bank) (hs : y.apart l.stale) (hp : y.apart l.pcnt) :
    (d.implausible l x).rd y = d.rd y := by
  rw [Dev.implausible, rd_wr_apart _ hp, rd_wrB_apart _ hs, updLins_rd, rd_banked hb]

theorem lins_implausible {l : LoopRef} {x : SampleIn} {d : Dev} : (d.implausible l x).lins l =
    { d.lins l with sampledAt := some d.time.nb, hasRegion := true, exempt := false } := by
  have hb : (d.implausible l x).bare = ((d.banked l x).updLins l fun i => { i with exempt := false }).bare := by
    rw [Dev.implausible, bare_wr, bare_wrB]
  rw [lins_of_bare hb, lins_updLins_same, lins_banked]

/-- R104: the sixteenth implausible sample in a row freezes the instance. -/
theorem sample_freezes {l : LoopRef} {x : SampleIn} {d : Dev} (hl : l.Placed) (hf : d.rdB l.frozen = false)
    (hn : (d.lins l).sampledAt ≠ some d.time.nb) (he : (d.lins l).exempt = false) (hst : x.stale = false) (hm : d.modelLen l ≠ 0)
    (hlim : d.plausLimit l < ((x.fb - d.rdS l.pred).natAbs : Int)) (hp : d.rd l.pcnt = 15) :
    sample l x d = freeze l x (x.fb - d.rdS l.pred).natAbs (d.implausible l x) := by
  have hsets := hl.sets
  have hrd {y : Fld} (h : y.addr ≠ l.inst) : (d.banked l x).rd y = d.rd y := rd_banked (.inl h)
  have hmod : (d.banked l x).modelLen l = d.modelLen l := by
    rw [Dev.modelLen, hrd (by simp only [LoopRef.modelN]; omega), Dev.modelLen]
  have hpred : (d.banked l x).rdS l.pred = d.rdS l.pred := by
    rw [Dev.rdS, hrd (by simp only [LoopRef.pred]; omega), Dev.rdS]
  have hplaus : (d.banked l x).plausLimit l = d.plausLimit l := by
    rw [Dev.plausLimit, hpred, hrd (by simp only [LoopRef.plausBand]; omega), hrd (by simp only [LoopRef.plausAbs]; omega), Dev.plausLimit]
  have hcnt : (d.banked l x).rd l.pcnt = 15 := (rd_banked (by simp [Fld.apart, LoopRef.pcnt, LoopRef.bank])).trans hp
  have hexc : ((d.banked l x).lins l).exempt = false := by rw [lins_banked, he]
  have hcmp : compare l x (d.banked l x) =
      (((d.banked l x).updLins l fun i => { i with exempt := false }).wrB l.stale false).wr l.pcnt 16 := by
    simp -implicitDefEqProofs only [compare, hexc, hst, hmod, hm, hplaus, hpred, hlim, hcnt, Bool.or_self, Bool.false_eq_true, if_false, if_true, satN,
      Nat.lt_irrefl]
  have h16 : (((((d.banked l x).updLins l fun i => { i with exempt := false }).wrB l.stale false).wr l.pcnt 16).rd l.pcnt) = 16 :=
    rd_wr_eq 16 (by simp [Fld.fits, LoopRef.pcnt])
  rw [Dev.implausible]
  rw [Dev.banked] at hcmp h16 ⊢
  simp -implicitDefEqProofs only [sample, hf, hn, hcmp, h16, decide_false, Bool.or_self, Bool.false_eq_true, if_false, if_true]

theorem bare_implausible {l : LoopRef} {x : SampleIn} {d : Dev} :
    (d.implausible l x).bare = { d.bare with inst := (d.implausible l x).inst } := by
  rw [Dev.implausible, bare_wr, bare_wrB, bare_updLins, bare_banked]
  rfl

/-- R91, R104: a freeze of a steward's instance. -/
theorem completes_freeze {c : Instr} {s : State} {l : LoopRef} {x : SampleIn} {n : Nat} {g : Dev → Dev} (hc : exec c s = done g s)
    (hs : s.awake) (hg : g s.dev = freeze l x n (s.dev.implausible l x)) (hl : l.Placed) (ht : l.typ ≠ 3) :
    Completes c s fun t => t.dev.rdB l.frozen = true ∧ t.dev.rd l.pcnt = 16 ∧
      t.dev.rd l.uNext = unsignedOf 16 (s.dev.safeCmd l x.sp (s.dev.lastCmd l)) ∧
      s.changes t { s.dev with inst := t.dev.inst, fc := { s.dev.fc with raised := s.dev.fc.raised ++
        [{ s.dev.report .ctrl 2 l.field l.index with value := n % 2 ^ 32 }] } } [l.frozen, l.pcnt, l.uNext, l.bank, l.stale] := by
  have hfar := hl.far
  have hsets := hl.sets
  have hn : l.uNext = ⟨l.inst + 8, 16, 16⟩ := if_neg ht
  have hu : l.u = ⟨l.inst + 8, 0, 16⟩ := by rw [LoopRef.u, if_neg ht]
  have hsafe : (s.dev.implausible l x).safeCmd l x.sp ((s.dev.implausible l x).lastCmd l) = s.dev.safeCmd l x.sp (s.dev.lastCmd l) := by
    refine safeCmd_lastCmd _ (rd_implausible ?_ ?_ ?_) (rd_implausible ?_ ?_ ?_) (by rw [lins_implausible])
    · exact .inl (by simp only [LoopRef.safe, LoopRef.bank]; omega)
    · exact .inl (by simp only [LoopRef.safe, LoopRef.stale]; omega)
    · exact .inl (by simp only [LoopRef.safe, LoopRef.pcnt]; omega)
    · exact .inl (by simp [hu, LoopRef.bank])
    · exact .inl (by simp [hu, LoopRef.stale])
    · exact .inl (by simp [hu, LoopRef.pcnt])
  have hg' : g s.dev = (((s.dev.implausible l x).wrB l.frozen true).wrS l.uNext (s.dev.safeCmd l x.sp (s.dev.lastCmd l))).raiseR
      { s.dev.report .ctrl 2 l.field l.index with value := n % 2 ^ 32 } := by
    rw [hg, freeze, hsafe]
    rfl
  refine completes_eq hc hs hg' ⟨?_, ?_, ?_, changes_bare ?_ fun y hy => ?_⟩
  · rw [rdB_settle (.inl (by simp only [LoopRef.frozen, PM_STATUS_ALERT]; omega)), Dev.raiseR_rdB,
      rdB_wrS_apart _ (.inl (by simp [hn, LoopRef.frozen])), rdB_wrB_eq _ ⟨rfl, by simp [Fld.fits, LoopRef.frozen]⟩]
  · rw [rd_settle (.inl (by simp only [LoopRef.pcnt, PM_STATUS_ALERT]; omega)), Dev.raiseR_rd,
      rd_wrS_apart _ (.inl (by simp [hn, LoopRef.pcnt])), rd_wrB_apart _ (by simp [Fld.apart, LoopRef.pcnt, LoopRef.frozen]), Dev.implausible,
      rd_wr_eq _ (by simp [Fld.fits, LoopRef.pcnt])]
    simp [LoopRef.pcnt]
  · rw [rd_settle (.inl (by simp only [hn, PM_STATUS_ALERT]; omega)), Dev.raiseR_rd, Dev.wrS, rd_wr_eq _ (by simp [Fld.fits, hn]), hn]
    exact Nat.mod_eq_of_lt (by simp only [unsignedOf]; omega)
  · generalize { s.dev.report .ctrl 2 l.field l.index with value := n % 2 ^ 32 } = r
    rw [settle_inst, bare_raiseR, bare_wrS, bare_wrB, bare_implausible]
    rfl
  · rw [Dev.raiseR_rd, rd_wrS_apart _ (hy _ (by simp)), rd_wrB_apart _ (hy _ (by simp)),
      rd_implausible (hy _ (by simp)) (hy _ (by simp)) (hy _ (by simp))]

/-- Settles O17. -/
theorem loopsFreezeAndApply : Obligations.LoopsFreezeAndApply := by
  unfold Obligations.LoopsFreezeAndApply
  refine ⟨fun s f k hs hon hf hn he hst hm hlim hp => ?_, fun s f k hs hf => ?_, fun s f i hs hf hin hr hsel hb hn => ?_,
    fun s f i hs hf hr hper hn => ?_⟩
  · have ht : (loopRef f.val k.val).typ ≠ 3 := by
      have := loopType_le k.val
      simp only [loopRef]
      omega
    have hg : slewSample f.val k.val s.dev = _ := if_pos hon
    have hg' := hg.trans (sample_freezes (placed_loopRef f k) hf hn he hst hm hlim hp)
    have h := completes_freeze (c := .lSlewSample f k) rfl hs hg' (placed_loopRef f k) ht
    exact h
  · refine completes_unchanged rfl hs ?_
    rw [slewSample]
    split
    · rw [sample, hf]
      rfl
    · rfl
  · refine completes_loopEffect rfl hs ?_ (placed_loopRef f i) hn
    rw [if_neg hf, stewardEffect, if_pos (by simp [hin, Dev.stopped, hr, hsel, hb])]
  · refine completes_loopEffect rfl hs ?_ placed_capRef hn
    rw [if_pos hf, capEffect, if_pos (by simp [Dev.stopped, hr, hper])]

end Sys2Proof.Machine
end


section
/-! The layer for the stewards' commands: registers and numbered parts read after a command, and what the shared operations of
chapters 02 and 04 change. -/

namespace Sys2Proof.Machine

/-! Numbered parts of a settled device. -/

section
variable (d : Dev)

@[simp] theorem pt_settle (f p : Nat) : (settle d).pt f p = d.pt f p := by rw [Dev.pt, settle_pat, Dev.pt]
@[simp] theorem dm_settle (f k : Nat) : (settle d).dm f k = d.dm f k := by rw [Dev.dm, settle_dom, Dev.dm]
@[simp] theorem fd_settle (f : Nat) : (settle d).fd f = d.fd f := by rw [Dev.fd, settle_fld, Dev.fd]
@[simp] theorem cl_settle (f c : Nat) : (settle d).cl f c = d.cl f c := by rw [Dev.cl, settle_cls, Dev.cl]
@[simp] theorem ti_settle (f p n : Nat) : (settle d).ti f p n = d.ti f p n := by rw [Dev.ti, settle_tile, Dev.ti]
@[simp] theorem ent_settle (k : Nat) : (settle d).ent k = d.ent k := by rw [Dev.ent, settle_led, Dev.ent]
@[simp] theorem recd_settle (k : Nat) : (settle d).recd k = d.recd k := by rw [Dev.recd, settle_rp, Dev.recd]
@[simp] theorem job_settle (j : Nat) : (settle d).job j = d.job j := by rw [Dev.job, settle_bud, Dev.job]

end

/-- The stewards' registers (R19) lie apart from PM_STATUS. -/
theorem apart_alert {x : Fld} (h : 0x30000000 ≤ x.addr) : x.apart PM_STATUS_ALERT := .inl (by simp only [PM_STATUS_ALERT]; omega)

theorem stBase_le (f n : Nat) : 0x30000000 ≤ stBase f + n := by rw [stBase]; omega

theorem psBase_le (f p n : Nat) : 0x30000000 ≤ psBase f p + n := by rw [psBase, stBase]; omega

/-! Parts of devices with the same bare device. -/

section
variable {d e : Dev} (h : d.bare = e.bare)
include h

theorem pat_of_bare : d.pat = e.pat := by change d.bare.pat = e.bare.pat; rw [h]
theorem dom_of_bare : d.dom = e.dom := by change d.bare.dom = e.bare.dom; rw [h]
theorem fld_of_bare : d.fld = e.fld := by change d.bare.fld = e.bare.fld; rw [h]
theorem cls_of_bare : d.cls = e.cls := by change d.bare.cls = e.bare.cls; rw [h]
theorem tile_of_bare : d.tile = e.tile := by change d.bare.tile = e.bare.tile; rw [h]
theorem led_of_bare : d.led = e.led := by change d.bare.led = e.bare.led; rw [h]
theorem fc_of_bare : d.fc = e.fc := by change d.bare.fc = e.bare.fc; rw [h]
theorem time_of_bare : d.time = e.time := by change d.bare.time = e.bare.time; rw [h]
theorem pt_of_bare (f p : Nat) : d.pt f p = e.pt f p := by rw [Dev.pt, pat_of_bare h, Dev.pt]
theorem dm_of_bare (f k : Nat) : d.dm f k = e.dm f k := by rw [Dev.dm, dom_of_bare h, Dev.dm]
theorem fd_of_bare (f : Nat) : d.fd f = e.fd f := by rw [Dev.fd, fld_of_bare h, Dev.fd]

end

/-! Repeated changes. -/

/-- What the changes for the elements of a list keep, the whole list keeps. -/
theorem forL_keep_mem {α β : Type} (proj : Dev → β) {l : List α} {g : α → Dev → Dev} (h : ∀ a ∈ l, ∀ d, proj (g a d) = proj d) (d : Dev) :
    proj (forL l g d) = proj d := by
  induction l generalizing d with
  | nil => rfl
  | cons b l ih => exact (ih (fun a ha => h a (List.mem_cons_of_mem _ ha)) (g b d)).trans (h b List.mem_cons_self d)

theorem forN_keep_lt {β : Type} (proj : Dev → β) {n : Nat} {g : Nat → Dev → Dev} (h : ∀ i < n, ∀ d, proj (g i d) = proj d) (d : Dev) :
    proj (forN n g d) = proj d := forL_keep_mem proj (fun i hi => h i (List.mem_range.mp hi)) d

/-- What the change for one element of a list sets, and every change keeps, holds after the list. -/
theorem forL_of_mem {α : Type} {P : Dev → Prop} {l : List α} {g : α → Dev → Dev} {a : α} (ha : a ∈ l) (hset : ∀ d, P (g a d))
    (hkeep : ∀ b ∈ l, ∀ d, P d → P (g b d)) (d : Dev) : P (forL l g d) := by
  have hrest : ∀ (l : List α), (∀ b ∈ l, ∀ d, P d → P (g b d)) → ∀ d, P d → P (forL l g d) := by
    intro l
    induction l with
    | nil => exact fun _ d hd => hd
    | cons b l ih =>
      exact fun h d hd => ih (fun c hc => h c (List.mem_cons_of_mem _ hc)) _ (h b List.mem_cons_self d hd)
  induction l generalizing d with
  | nil => exact absurd ha List.not_mem_nil
  | cons b l ih =>
    have hl : ∀ c ∈ l, ∀ d, P d → P (g c d) := fun c hc => hkeep c (List.mem_cons_of_mem _ hc)
    rcases List.mem_cons.mp ha with rfl | hmem
    · exact hrest l hl _ (hset d)
    · exact ih hmem hl (g b d)

/-- What the changes for the elements of a list other than a keep, and the change for a makes of it alone, is after the list what that
change makes. -/
theorem forL_at {α β : Type} (proj : Dev → β) {l : List α} {g : α → Dev → Dev} {a : α} (hl : l.Nodup) (ha : a ∈ l)
    (hne : ∀ b ∈ l, b ≠ a → ∀ d, proj (g b d) = proj d) (hcongr : ∀ d e, proj d = proj e → proj (g a d) = proj (g a e)) (d : Dev) :
    proj (forL l g d) = proj (g a d) := by
  induction l generalizing d with
  | nil => exact absurd ha List.not_mem_nil
  | cons b l ih =>
    obtain ⟨hb, hnd⟩ := List.nodup_cons.mp hl
    have hrest : ∀ c ∈ l, c ≠ a → ∀ d, proj (g c d) = proj d := fun c hc => hne c (List.mem_cons_of_mem _ hc)
    rcases List.mem_cons.mp ha with rfl | hmem
    · exact forL_keep_mem proj (fun c hc => hrest c hc fun h => hb (h ▸ hc)) (g a d)
    · have hba : b ≠ a := fun h => hb (h ▸ hmem)
      exact (ih hnd hmem hrest (g b d)).trans (hcongr _ _ (hne b List.mem_cons_self hba d))

theorem forN_at {β : Type} (proj : Dev → β) {n a : Nat} {g : Nat → Dev → Dev} (ha : a < n)
    (hne : ∀ b < n, b ≠ a → ∀ d, proj (g b d) = proj d) (hcongr : ∀ d e, proj d = proj e → proj (g a d) = proj (g a e)) (d : Dev) :
    proj (forN n g d) = proj (g a d) :=
  forL_at proj List.nodup_range (List.mem_range.mpr ha) (fun b hb => hne b (List.mem_range.mp hb)) hcongr d

/-! Deduplicated lists. -/

theorem mem_distinct_foldl {α : Type} [DecidableEq α] {x : α} (l acc : List α) :
    x ∈ l.foldl (fun acc x => if x ∈ acc then acc else x :: acc) acc ↔ x ∈ l ∨ x ∈ acc := by
  induction l generalizing acc with
  | nil => simp
  | cons y l ih =>
    rw [List.foldl_cons, ih, List.mem_cons]
    by_cases hy : y ∈ acc
    · rw [if_pos hy]
      constructor
      · rintro (h | h)
        · exact .inl (.inr h)
        · exact .inr h
      · rintro ((rfl | h) | h)
        · exact .inr hy
        · exact .inl h
        · exact .inr h
    · rw [if_neg hy, List.mem_cons]
      exact or_left_comm.trans or_assoc.symm

@[simp] theorem mem_distinct {α : Type} [DecidableEq α] {x : α} {l : List α} : x ∈ distinct l ↔ x ∈ l := by
  rw [distinct, List.mem_reverse, mem_distinct_foldl]
  simp

theorem distinct_ne_nil {α : Type} [DecidableEq α] {l : List α} (h : l ≠ []) : distinct l ≠ [] := by
  obtain ⟨x, hx⟩ := List.exists_mem_of_ne_nil l h
  exact List.ne_nil_of_mem (mem_distinct.mpr hx)

/-! What shared operations leave. -/

@[simp] theorem rd_dirtyWindow (f p : Nat) (d : Dev) (x : Fld) : (dirtyWindow f p d).rd x = d.rd x := by
  unfold dirtyWindow
  split <;> rfl

/-- R68: a window is marked disturbed in the patch's own state alone. -/
theorem bare_dirtyWindow (f p : Nat) (d : Dev) : (dirtyWindow f p d).bare = { d.bare with pat := (dirtyWindow f p d).pat } := by
  unfold dirtyWindow
  split <;> rfl

end Sys2Proof.Machine
end
section
/-! O15: clock stretch and floor crossings (R62, R65, R112, R113, R199). -/

namespace Sys2Proof.Machine

/-- A device that differs from another in its patches' own states and its registers at most. -/
def Dev.PatchesMove (d e : Dev) : Prop := e.bare = { d.bare with pat := e.pat }

theorem Dev.PatchesMove.trans {d e e' : Dev} (h : d.PatchesMove e) (h' : e.PatchesMove e') : d.PatchesMove e' := by
  unfold Dev.PatchesMove at *
  rw [h', h]

section
variable (d : Dev)

theorem patchesMove_wr (fl : Fld) (v : Nat) : d.PatchesMove (d.wr fl v) := rfl
theorem patchesMove_inc (fl : Fld) : d.PatchesMove (d.inc fl) := rfl
theorem patchesMove_updPt (f p : Nat) (g : PatchS → PatchS) : d.PatchesMove (d.updPt f p g) := rfl

theorem patchesMove_onlyIf {d : Dev} (b : Bool) {g : Dev → Dev} (h : ∀ e : Dev, e.PatchesMove (g e)) : d.PatchesMove (onlyIf b g d) := by
  unfold onlyIf
  split
  · exact h d
  · rfl

end

theorem Dev.PatchesMove.test {d e : Dev} (h : d.PatchesMove e) : e.test = d.test := by
  change e.bare.test = d.bare.test
  rw [h]

theorem maxN_le {l : List Nat} {n : Nat} (h : ∀ x ∈ l, x ≤ n) : maxN l ≤ n := by
  have hfold : ∀ (l : List Nat) (a : Nat), a ≤ n → (∀ x ∈ l, x ≤ n) → l.foldl max a ≤ n := by
    intro l
    induction l with
    | nil => exact fun a ha _ => ha
    | cons x l ih =>
      exact fun a ha h => ih _ (Nat.max_le.mpr ⟨ha, h x List.mem_cons_self⟩) fun y hy => h y (List.mem_cons_of_mem _ hy)
  exact hfold l 0 (Nat.zero_le n) h

/-- R112: there are four levels of stretch. -/
theorem stretchCall_le (d : Dev) (f p depth : Nat) : d.stretchCall f p depth ≤ 4 := by
  refine maxN_le fun n hn => ?_
  have := List.mem_range.mp (List.mem_filter.mp hn).1
  omega

section
variable {f p depth : Nat} {d : Dev}

/-- R65: the device with a crossing of the threshold recorded. -/
def Dev.crossed (d : Dev) (f p depth : Nat) : Dev := onlyIf (d.crosses f p depth) (·.updPt f p fun x => { x with crossed := true }) d

theorem rd_crossed (x : Fld) : (d.crossed f p depth).rd x = d.rd x := rd_onlyIf rfl

theorem patchesMove_crossed : d.PatchesMove (d.crossed f p depth) := by
  unfold Dev.crossed onlyIf
  split <;> rfl

theorem stretched_crossed : ((d.crossed f p depth).pt f p).stretched = (d.pt f p).stretched := by
  unfold Dev.crossed onlyIf
  split
  · rw [pt_updPt]
  · rfl

/-- What the level called for depends on. -/
theorem stretch_crossed : (d.crossed f p depth).stretchCall f p depth = d.stretchCall f p depth ∧
    (d.crossed f p depth).stretchOn f p = d.stretchOn f p := by
  have hrdB (x : Fld) : (d.crossed f p depth).rdB x = d.rdB x := by rw [Dev.rdB, rd_crossed, Dev.rdB]
  have htest : (d.crossed f p depth).test = d.test := patchesMove_crossed.test
  have hthr : (d.crossed f p depth).stretchThr f p = d.stretchThr f p := by
    funext n
    simp only [Dev.stretchThr, rd_crossed]
  constructor
  · rw [Dev.stretchCall, hthr, Dev.stretchCall]
  · simp only [Dev.stretchOn, Dev.droopTest, rd_crossed, hrdB, htest]

end

section
variable {f p depth : Nat} {d : Dev}

/-- R112: a droop that calls for a deeper level. -/
theorem stretchEntry_deeper (ho : d.stretchOn f p = true) (hn : d.rd (PS_STATUS_STRETCH f p) < d.stretchCall f p depth) :
    stretchEntry f p depth d = onlyIf (!(d.pt f p).stretched) (·.inc (PS_DD_CNT_STRETCH_PICKS f p))
      ((dirtyWindow f p ((d.crossed f p depth).wr (PS_STATUS_STRETCH f p) (d.stretchCall f p depth))).updPt f p
        fun x => { x with stretched := true, stretchMax := max x.stretchMax (d.stretchCall f p depth) }) := by
  have hc := stretch_crossed (f := f) (p := p) (depth := depth) (d := d)
  have hs := stretched_crossed (f := f) (p := p) (depth := depth) (d := d)
  have hr := rd_crossed (f := f) (p := p) (depth := depth) (d := d) (PS_STATUS_STRETCH f p)
  unfold Dev.crossed at hc hs hr ⊢
  simp -implicitDefEqProofs only [stretchEntry, hc.1, hc.2, hr, hs, ho, hn, and_self, if_true]

/-- R65, R112: a droop that calls for no deeper level. -/
theorem stretchEntry_stays (h : d.stretchOn f p = false ∨ d.stretchCall f p depth ≤ d.rd (PS_STATUS_STRETCH f p)) :
    stretchEntry f p depth d = d.crossed f p depth := by
  have hc := stretch_crossed (f := f) (p := p) (depth := depth) (d := d)
  have hr := rd_crossed (f := f) (p := p) (depth := depth) (d := d) (PS_STATUS_STRETCH f p)
  have hno : ¬ (d.stretchOn f p = true ∧ d.rd (PS_STATUS_STRETCH f p) < d.stretchCall f p depth) := by
    rintro ⟨ho, hn⟩
    rcases h with h | h
    · rw [h] at ho
      exact absurd ho (by decide)
    · omega
  unfold Dev.crossed at hc hr ⊢
  simp -implicitDefEqProofs only [stretchEntry, hc.1, hc.2, hr, hno, if_false]

end

/-- R200: a mark sets out. -/
def Dev.addMark (d : Dev) (m : Mark) : Dev := { d with led := { d.led with marks := d.led.marks ++ [m] } }

@[simp] theorem addMark_pt (m : Mark) (d : Dev) (f p : Nat) : (d.addMark m).pt f p = d.pt f p := rfl

theorem sendMark_steps {c : Cause} {f : Nat} {ps : List Nat} {steps : List (Nat × Nat)} (h : steps ≠ []) (d : Dev) : d.sendMark c f ps steps =
    d.addMark { cause := c, field := f, patches := ps, steps, fidx := ps.map fun p => d.rd (ST_OP_PATCH_FIDX f p) } := if_neg h

/-- R65, R199: the first floor crossing of a pick on a patch with steps open. -/
theorem floorCrossing_first {f p depth sub : Nat} {d : Dev} (ha : d.rdB (PS_STATUS_DD_ARMED f p) = true) (ht : d.droopTest f p = false)
    (hd : d.floorNow f p ≤ depth) (hf : (d.pt f p).floored = false) (hm : d.markSteps f p ≠ []) : floorCrossing f p depth sub d =
    ((d.updPt f p fun x => { x with floored := true, floorAt := some (d.sentStamp f p sub) }).inc (PS_DD_CNT_FLOOR_PICKS f p)).addMark
      { cause := .floor, field := f, patches := [p], steps := distinct (d.markSteps f p)
        fidx := [((d.updPt f p fun x => { x with floored := true, floorAt := some (d.sentStamp f p sub) }).inc
          (PS_DD_CNT_FLOOR_PICKS f p)).rd (ST_OP_PATCH_FIDX f p)] } := by
  simp -implicitDefEqProofs only [floorCrossing, ha, ht, hd, hf, and_self, if_true, Bool.not_false, onlyIf_true, Dev.markOpen, List.flatMap_cons,
    List.flatMap_nil, List.append_nil]
  exact sendMark_steps (distinct_ne_nil hm) _

/-- Settles O15. -/
theorem droopAndStretch : Obligations.DroopAndStretch := by
  unfold Obligations.DroopAndStretch
  refine ⟨fun s f p depth hs ho hn => ?_, fun s f p depth hs h hc => ?_, fun s f p depth hs h hc => ?_, fun s f p hs => ?_,
    fun s f p depth sub hs ha ht hd hf hm => ?_, fun s f p depth sub hs h => ?_⟩
  · have hlevel := stretchCall_le s.dev f p depth.toNat
    have hset : (PS_STATUS_STRETCH f p).apart PM_STATUS_ALERT := apart_alert (psBase_le f p 0)
    have hcnt : (PS_DD_CNT_STRETCH_PICKS f p).apart PM_STATUS_ALERT := apart_alert (psBase_le f p _)
    refine completes_eq rfl hs (stretchEntry_deeper ho hn) ⟨?_, ?_, ?_, changes_bare ?_ fun x hx => ?_⟩
    · rw [rd_settle hset, rd_onlyIf (rd_inc_apart (by simp [Fld.apart, PS_STATUS_STRETCH, PS_DD_CNT_STRETCH_PICKS])), Dev.updPt_rd, rd_dirtyWindow,
        rd_wr_eq _ (by simp [Fld.fits, PS_STATUS_STRETCH])]
      exact Nat.mod_eq_of_lt (by simp only [PS_STATUS_STRETCH]; omega)
    · rw [pt_settle]
      unfold onlyIf
      split
      · rw [Dev.inc_pt, pt_updPt]
      · rw [pt_updPt]
    · rw [rd_settle hcnt]
      have hbase : (((dirtyWindow f p ((s.dev.crossed f p depth.toNat).wr (PS_STATUS_STRETCH f p) (s.dev.stretchCall f p depth.toNat))).updPt f p
          fun x => { x with stretched := true, stretchMax := max x.stretchMax (s.dev.stretchCall f p depth.toNat) }).rd
            (PS_DD_CNT_STRETCH_PICKS f p)) = s.dev.rd (PS_DD_CNT_STRETCH_PICKS f p) := by
        rw [Dev.updPt_rd, rd_dirtyWindow, rd_wr_apart _ (by simp [Fld.apart, PS_STATUS_STRETCH, PS_DD_CNT_STRETCH_PICKS]), rd_crossed]
      cases h : (s.dev.pt f p).stretched
      · rw [Bool.not_false, onlyIf_true, rd_inc_eq (by simp [Fld.fits, PS_DD_CNT_STRETCH_PICKS]), hbase]
        simp [PS_DD_CNT_STRETCH_PICKS]
      · rw [Bool.not_true, onlyIf_false, hbase, if_pos rfl]
    · rw [settle_pat]
      exact ((patchesMove_crossed.trans (patchesMove_wr _ _ _)).trans (bare_dirtyWindow _ _ _)).trans
        ((patchesMove_updPt _ _ _ _).trans (patchesMove_onlyIf _ fun e => patchesMove_inc e _))
    · rw [rd_onlyIf (rd_inc_apart (hx _ (by simp))), Dev.updPt_rd, rd_dirtyWindow, rd_wr_apart _ (hx _ (by simp)), rd_crossed]
  · refine completes_eq rfl hs (stretchEntry_stays h) ?_
    rw [Dev.crossed, hc, onlyIf_true]
    refine ⟨?_, ?_, changes_bare ?_ fun x _ => rfl⟩
    · rw [pt_settle, pt_updPt]
    · rw [pt_settle, pt_updPt]
    · rw [settle_pat]
      rfl
  · refine completes_unchanged rfl hs ((stretchEntry_stays h).trans ?_)
    rw [Dev.crossed, hc, onlyIf_false]
  · have hset : (PS_STATUS_STRETCH f p).apart PM_STATUS_ALERT := apart_alert (psBase_le f p 0)
    refine completes_eq rfl hs rfl ⟨?_, changes_bare (bare_wr _ _ _) fun x hx => rd_wr_apart _ (hx _ (by simp))⟩
    have := rd_lt (PS_STATUS_STRETCH f p) s.dev
    rw [rd_settle hset, stretchRelease, rd_wr_eq _ (by simp [Fld.fits, PS_STATUS_STRETCH])]
    exact Nat.mod_eq_of_lt (by omega)
  · have hcnt : (PS_DD_CNT_FLOOR_PICKS f p).apart PM_STATUS_ALERT := apart_alert (psBase_le f p _)
    refine completes_eq rfl hs (floorCrossing_first ha ht hd hf hm) ⟨?_, ?_, ?_, ?_, changes_bare ?_ fun x hx => ?_⟩
    · rw [rd_settle hcnt]
      exact rd_inc_max _ _ (by simp [PS_DD_CNT_FLOOR_PICKS]) (by simp [PS_DD_CNT_FLOOR_PICKS])
    · rw [pt_settle]
      rw [addMark_pt, Dev.inc_pt, pt_updPt]
    · rw [settle_led]
      exact List.length_append
    · rw [settle_led]
      exact ⟨_, List.mem_append_right _ (List.mem_singleton.mpr rfl), rfl, rfl, rfl, rfl⟩
    · rw [settle_pat, settle_led]
      rfl
    · exact rd_inc_apart (hx _ (by simp))
  · refine completes_unchanged rfl hs (if_neg ?_)
    rintro ⟨ha, ht, hd⟩
    rcases h with h | h | h
    · exact absurd (h.symm.trans ha) (by decide)
    · exact absurd (h.symm.trans ht) (by decide)
    · omega

end Sys2Proof.Machine
end

section
/-! O20 and O21: the step link (R121, R128 to R136). -/

namespace Sys2Proof.Machine

/-- The device after a command that completes. -/
theorem dev_of_next {c : Instr} {s t : State} {g : Dev → Dev} (hc : exec c s = done g s) (hs : s.awake) (ht : exec c s = .next t) :
    t.dev = settle (g s.dev) := by
  rw [hc, done_high g s hs] at ht
  cases ht
  rfl

/-! A good frame of a link in DEGRADED whose regulator holds begins the run of good frames anew (R135). -/

/-- The link of domain 0 of field 0 is DEGRADED. -/
def degradedState : State := { State.reset with dev := Dev.init.wr (ST_LINK_STATUS_STATE 0 0) linkDegraded }

/-- An up frame of domain 0 whose status says that the regulator holds. -/
def holdingFrame : BitVec 64 := BitVec.ofNat 64 (2 ^ 33)

def holdingCrc : BitVec 16 := BitVec.ofNat 16 (crc16 (leBytes 8 holdingFrame.toNat))

/-- Refutes O20: the first clause lets every good frame lengthen the run of good frames, where R135 asks of a link in DEGRADED
that the regulator holds no longer (`goodUp`): at `holdingFrame` the run stays 0. -/
theorem not_upFrames : ¬ Obligations.UpFrames := by
  unfold Obligations.UpFrames
  rintro ⟨hgood, -⟩
  have hs : degradedState.awake := by decide +kernel
  have hsound : upSound holdingFrame holdingCrc true = true := by decide +kernel
  have hdom : upDom holdingFrame = dkey (0 : Fin 96) (0 : Fin 4) := by decide +kernel
  have hlag : upLags degradedState.dev (0 : Fin 96) (0 : Fin 4) holdingFrame = false := by decide +kernel
  have hseen : (degradedState.dev.dm (0 : Fin 96) (0 : Fin 4)).upSeen = false := by decide +kernel
  obtain ⟨t, ht, -, -, -, -, -, -, -, -, hrun, -⟩ := hgood degradedState 0 0 holdingFrame holdingCrc true hs hseen hsound hdom hlag
  have hzero : ((upFrame (0 : Fin 96) (0 : Fin 4) holdingFrame holdingCrc true degradedState.dev).dm (0 : Fin 96) (0 : Fin 4)).good = 0 := by decide +kernel
  have hone : (degradedState.dev.dm (0 : Fin 96) (0 : Fin 4)).good + 1 = 1 := by decide +kernel
  rw [dev_of_next (c := .upFrame 0 0 holdingFrame holdingCrc true) rfl hs ht, dm_settle, hzero, hone] at hrun
  exact absurd hrun (by decide)

/-! The states of a link (R135). -/

/-- A device that differs from another in its domains' own states and its registers at most. -/
def Dev.DomainsMove (d e : Dev) : Prop := e.bare = { d.bare with dom := e.dom }

/-- Bits cleared one by one are clear. -/
theorem rdB_forL_clear {α : Type} {fl : α → Fld} (hw : ∀ a, (fl a).w = 1 ∧ (fl a).fits) (h : ∀ a b, fl a = fl b ∨ (fl a).apart (fl b))
    {l : List α} {a : α} (ha : a ∈ l) (d : Dev) : (forL l (fun a d => d.wrB (fl a) false) d).rdB (fl a) = false := by
  refine forL_of_mem (P := fun e => e.rdB (fl a) = false) (g := fun a d => d.wrB (fl a) false) ha (fun e => rdB_wrB_eq false (hw a))
    (fun b _ e he => ?_) d
  rcases h a b with hb | hb
  · simp only [hb]
    exact rdB_wrB_eq false (hw b)
  · exact (rdB_wrB_apart _ hb).trans he

theorem bare_cancelRaises (f k : Nat) (d : Dev) : (cancelRaises f k d).bare = d.bare := bare_forL _ (fun _ _ => bare_wrB _ _ _) d

theorem rd_cancelRaises {f k : Nat} {x : Fld} (h : ∀ p ∈ patchesOf k, x.apart (ST_OP_PATCH_WAIT f p)) (d : Dev) :
    (cancelRaises f k d).rd x = d.rd x := by
  unfold cancelRaises forL
  generalize patchesOf k = ps at h
  induction ps generalizing d with
  | nil => rfl
  | cons p ps ih => exact (ih _ fun q hq => h q (List.mem_cons_of_mem _ hq)).trans (rd_wrB_apart _ (h p List.mem_cons_self))

theorem wait_cancelRaises {f k p : Nat} (hp : p ∈ patchesOf k) (d : Dev) : (cancelRaises f k d).rdB (ST_OP_PATCH_WAIT f p) = false := by
  refine rdB_forL_clear (fl := ST_OP_PATCH_WAIT f) (fun _ => ⟨rfl, by simp [Fld.fits, ST_OP_PATCH_WAIT]⟩) (fun a b => ?_) hp d
  by_cases h : a = b
  · exact .inl (by rw [h])
  · exact .inr (.inl (by simp only [ST_OP_PATCH_WAIT]; omega))

theorem mem_patchesOf {p : Fin 36} {k : Nat} (h : domOf p = k) : p.val ∈ patchesOf k :=
  List.mem_filter.mpr ⟨List.mem_range.mpr p.isLt, decide_eq_true h⟩

theorem lt_of_mem_patchesOf {p k : Nat} (h : p ∈ patchesOf k) : p < 36 := List.mem_range.mp (List.mem_filter.mp h).1

theorem link_apart_wait {f k p : Nat} (h : p ∈ patchesOf k) : (ST_LINK_STATUS_STATE f k).apart (ST_OP_PATCH_WAIT f p) := by
  have := lt_of_mem_patchesOf h
  exact .inl (by simp only [ST_LINK_STATUS_STATE, ST_OP_PATCH_WAIT]; omega)

theorem rd_stopWadding (f k : Nat) (d : Dev) (x : Fld) : (stopWadding f k d).rd x = d.rd x := by
  refine rd_forL _ _ fun y e => ?_
  split
  · exact Dev.updTi_rd _ _ _ _ _ _
  · rfl

/-- The device without its tiles. -/
def Dev.sansTiles (d : Dev) : Dev := { d.bare with tile := [] }

theorem bare_of_sansTiles {d e : Dev} (h : d.sansTiles = e.sansTiles) : d.bare = { e.bare with tile := d.tile } :=
  calc d.bare = { d.sansTiles with tile := d.tile } := rfl
    _ = { e.sansTiles with tile := d.tile } := by rw [h]

/-- R135: wadding goes off in the tiles alone. -/
theorem bare_stopWadding (f k : Nat) (d : Dev) : (stopWadding f k d).bare = { d.bare with tile := (stopWadding f k d).tile } := by
  refine bare_of_sansTiles (forL_keep Dev.sansTiles _ _ (fun x e => ?_) d)
  split <;> rfl

theorem link_settle (f k : Nat) (d : Dev) : (settle d).link f k = d.link f k := rd_settle (apart_alert (by rw [ST_LINK_STATUS_STATE, Nat.add_assoc]; exact stBase_le f _))

theorem rd_setLink {f k n : Nat} {x : Fld} (h : x.apart (ST_LINK_STATUS_STATE f k)) (d : Dev) : (setLink f k n d).rd x = d.rd x :=
  rd_wr_apart _ h

theorem link_setLink {f k n : Nat} (h : n < 8) (d : Dev) : (setLink f k n d).link f k = n :=
  (rd_wr_eq n (by simp [Fld.fits, ST_LINK_STATUS_STATE])).trans (Nat.mod_eq_of_lt h)

theorem dom_updDm_congr {d e : Dev} {f k : Nat} {g : DomS → DomS} (h : d.dom = e.dom) : (d.updDm f k g).dom = (e.updDm f k g).dom := by
  rw [Dev.updDm, h, Dev.updDm]

/-- R135: a loss that is told. -/
theorem linkLostDo_tells {f k : Nat} {d : Dev} (hl : linkLoses d f k = true) (hq : (d.dm f k).noBoundary = false) : linkLostDo f k d =
    ((stopWadding f k (cancelRaises f k (setLink f k linkLost d))).updDm f k fun x => { x with ackSafe := false, shut := true, slew := none }).raise
      .elec 2 f k := by
  simp -implicitDefEqProofs only [linkLostDo, hl, hq, if_true, Bool.not_false, onlyIf_true]

/-- Settles O21. -/
theorem linkStates : Obligations.LinkStates := by
  unfold Obligations.LinkStates
  refine ⟨fun s f k hs hg hl => ?_, fun s f k hs hg => ?_, fun s f k hs hl hb => ?_, fun s f k hs hl hb hq => ?_, fun s f k hs hl => ?_,
    fun s f k hs hl => ?_, fun s f k hs hl hg => ?_, fun s f k hs hl hb hg hr hm hv => ?_⟩
  · have hg' : linkUpDo f k s.dev = _ := if_pos ⟨hg, hl⟩
    refine completes_eq rfl hs hg' ⟨?_, ?_, ?_, changes_bare ?_ fun x hx => ?_⟩
    · rw [link_settle]
      exact link_setLink (by decide) _
    · rw [dm_settle, dm_updDm, setLink, dm_updDm]
    · rw [dm_settle, dm_updDm]
    · rw [settle_dom, setLink]
      rfl
    · rw [Dev.updDm_rd, rd_setLink (hx _ (by simp))]
  · exact completes_unchanged rfl hs (if_neg fun h => by omega)
  · have hg' : linkDegradedDo f k s.dev = _ := if_pos ⟨hl, hb⟩
    refine completes_eq rfl hs hg' ⟨?_, ?_, fun p hp => ?_, changes_bare ?_ fun x hx => ?_⟩
    · rw [link_settle]
      exact (rd_cancelRaises (fun p hp => link_apart_wait hp) _).trans (link_setLink (by decide) _)
    · rw [dm_settle, Dev.raise_dm, dm_of_bare (bare_cancelRaises _ _ _), setLink, dm_updDm]
    · rw [rdB_settle (apart_alert (by simp only [ST_OP_PATCH_WAIT, stBase]; omega)), Dev.raise_rdB, wait_cancelRaises (mem_patchesOf hp)]
    · rw [bare_raise, bare_cancelRaises, settle_dom, Dev.raise_dom, dom_of_bare (bare_cancelRaises _ _ _)]
      rfl
    · rw [Dev.raise_rd, rd_cancelRaises fun p hp => hx _ (List.mem_cons_of_mem _ (List.mem_map_of_mem hp)), rd_setLink (hx _ List.mem_cons_self)]
  · have hlose : linkLoses s.dev f k = true := by
      rcases hl with hl | hl | hl <;> simp [linkLoses, hl, hb]
    refine completes_eq rfl hs (linkLostDo_tells hlose hq) ⟨?_, ?_, ?_, ?_, fun p hp => ?_, changes_bare ?_ fun x hx => ?_⟩
    · rw [link_settle, Dev.link, Dev.raise_rd, Dev.updDm_rd, rd_stopWadding, rd_cancelRaises fun p hp => link_apart_wait hp]
      exact link_setLink (by decide) _
    · rw [Dev.heddleShut, dm_settle, Dev.raise_dm, dm_updDm]
      simp
    · rw [dm_settle, Dev.raise_dm, dm_updDm]
    · rw [dm_settle, Dev.raise_dm, dm_updDm]
    · rw [rdB_settle (apart_alert (by simp only [ST_OP_PATCH_WAIT, stBase]; omega)), Dev.raise_rdB, Dev.updDm_rdB, Dev.rdB, rd_stopWadding]
      exact wait_cancelRaises (mem_patchesOf hp) _
    · rw [bare_raise, bare_updDm, bare_stopWadding, bare_cancelRaises, settle_dom, settle_tile]
      have hdom : (stopWadding f k (cancelRaises f k (setLink f k linkLost s.dev))).dom = (setLink f k linkLost s.dev).dom := by
        change (stopWadding _ _ _).bare.dom = _
        rw [bare_stopWadding, bare_cancelRaises]
        rfl
      rw [Dev.raise_dom, dom_updDm_congr hdom]
      rfl
    · rw [Dev.raise_rd, Dev.updDm_rd, rd_stopWadding, rd_cancelRaises fun p hp => hx _ (List.mem_cons_of_mem _ (List.mem_map_of_mem hp)),
        rd_setLink (hx _ List.mem_cons_self)]
  · have hg' : reenable f k s.dev = _ := if_pos hl
    refine completes_eq rfl hs hg' ⟨?_, ?_, ?_, ?_, changes_bare ?_ fun x hx => ?_⟩
    · rw [link_settle]
      exact (rd_wr_apart _ (by simp [Fld.apart, ST_LINK_STATUS_STATE, ST_LINK_STATUS_BAD])).trans (link_setLink (by decide) _)
    · rw [rd_settle (apart_alert (by simp only [ST_LINK_STATUS_BAD, stBase]; omega)), Dev.updDm_rd, rd_wr_eq _ (by simp [Fld.fits, ST_LINK_STATUS_BAD])]
      rfl
    · rw [dm_settle, dm_updDm, Dev.wr_dm, setLink, dm_updDm]
    · rw [dm_settle, dm_updDm]
    · rw [settle_dom, setLink]
      rfl
    · rw [Dev.updDm_rd, rd_wr_apart _ (hx _ (by simp)), rd_setLink (hx _ (by simp))]
  · exact completes_conflict rfl hs (if_neg hl) ⟨rfl, by simp [Fld.fits, ST_OP_STATUS_STATE_CONFLICT]⟩ (apart_alert (stBase_le f _))
  · have hg' : linkAckSafe f k s.dev = _ := if_pos ⟨hl, hg⟩
    refine completes_eq rfl hs hg' ⟨?_, ?_, changes_bare ?_ fun x hx => rfl⟩
    · rw [dm_settle, dm_updDm]
    · rw [dm_settle, dm_updDm]
    · rw [settle_dom]
      rfl
  · have hg' : linkRecovered f k s.dev = _ := if_pos ⟨hl, hb, hg, hr, hm, hv⟩
    have hvid : s.dev.vidOf f k < 256 := rd_lt (ST_LINK_DOWN_VID f k) s.dev
    refine completes_eq rfl hs hg' ⟨?_, ?_, ?_, ?_, ?_, changes_bare ?_ fun x hx => ?_⟩
    · rw [link_settle]
      exact (rd_wr_apart _ (.inl (by simp only [ST_LINK_STATUS_STATE, ST_LINK_DOWN_VREF]; omega))).trans (link_setLink (by decide) _)
    · rw [rd_settle (apart_alert (by simp only [ST_LINK_DOWN_VREF, stBase]; omega)), Dev.updDm_rd, rd_wr_eq _ (by simp [Fld.fits, ST_LINK_DOWN_VREF])]
      exact Nat.mod_eq_of_lt hvid
    · rw [dm_settle, dm_updDm]
    · rw [dm_settle, dm_updDm]
    · rw [dm_settle, dm_updDm]
    · rw [settle_dom, setLink]
      rfl
    · rw [Dev.updDm_rd, rd_wr_apart _ (hx _ (by simp)), rd_setLink (hx _ (by simp))]

end Sys2Proof.Machine
end

section
/-! O22: hold-safe and the domains' ceilings (R124, R153, R307, R308, R438). -/

namespace Sys2Proof.Machine

/-- The device without what a patch clock's stop changes: the patches' own states, the marks on their way and the registers. -/
def Dev.sansStops (d : Dev) : Dev := { d.bare with pat := [], led := { d.led with marks := [] } }

theorem bare_of_sansStops {d e : Dev} (h : d.sansStops = e.sansStops) :
    d.bare = { e.bare with pat := d.pat, led := { e.led with marks := d.led.marks } } := by
  have hled : d.sansStops.led = e.sansStops.led := by rw [h]
  calc d.bare = { d.sansStops with pat := d.pat, led := { d.sansStops.led with marks := d.led.marks } } := rfl
    _ = { e.sansStops with pat := d.pat, led := { e.sansStops.led with marks := d.led.marks } } := by rw [h]

/-- The registers that a patch clock's stop writes. -/
def stopRegs (f p : Nat) : List Fld :=
  [ST_OP_PATCH_STATE f p, PS_STATUS_CLK_ON f p, PS_STATUS_DD_ARMED f p, PS_STATUS_STRETCH f p, ST_OP_PATCH_WAIT f p]

section
variable {f p st : Nat} {d : Dev}

theorem sendMark_rd (c : Cause) (f : Nat) (ps : List Nat) (steps : List (Nat × Nat)) (d : Dev) (x : Fld) :
    (d.sendMark c f ps steps).rd x = d.rd x := by
  unfold Dev.sendMark
  split <;> rfl

theorem markOpen_rd (c : Cause) (f : Nat) (ps : List Nat) (d : Dev) (x : Fld) : (d.markOpen c f ps).rd x = d.rd x := sendMark_rd _ _ _ _ _ _

theorem sansStops_sendMark (c : Cause) (f : Nat) (ps : List Nat) (steps : List (Nat × Nat)) (d : Dev) :
    (d.sendMark c f ps steps).sansStops = d.sansStops := by
  unfold Dev.sendMark
  split <;> rfl

theorem sansStops_markOpen (c : Cause) (f : Nat) (ps : List Nat) (d : Dev) : (d.markOpen c f ps).sansStops = d.sansStops :=
  sansStops_sendMark _ _ _ _ _

theorem sansStops_of_bare {d e : Dev} (h : d.bare = e.bare) : d.sansStops = e.sansStops := by
  change { d.bare with pat := [], led := { d.bare.led with marks := [] } } = { e.bare with pat := [], led := { e.bare.led with marks := [] } }
  rw [h]

theorem sansStops_dirtyWindow (f p : Nat) (d : Dev) : (dirtyWindow f p d).sansStops = d.sansStops := by
  unfold dirtyWindow
  split <;> rfl

/-- R111: the stop of a patch clock, by the patch's state. -/
theorem stopClock_running (h : d.pstate f p = psRunning) : stopClock st f p d = dirtyWindow f p
    ((((((((d.updPt f p fun x => { x with starting := none }).markOpen .stop f [p]).wr (ST_OP_PATCH_STATE f p) st).wrB (PS_STATUS_CLK_ON f p) false).wrB
      (PS_STATUS_DD_ARMED f p) false).wr (PS_STATUS_STRETCH f p) 0).wrB (ST_OP_PATCH_WAIT f p) false)) := by
  simp -implicitDefEqProofs only [stopClock, h, ne_eq, not_true_eq_false, if_false]

theorem stopClock_retired (h : d.pstate f p = psRetired) : stopClock st f p d = d.updPt f p fun x => { x with starting := none } := by
  simp -implicitDefEqProofs only [stopClock, h]
  rfl

theorem stopClock_idle (h : d.pstate f p ≠ psRunning) (h' : d.pstate f p ≠ psRetired) : stopClock st f p d =
    (d.updPt f p fun x => { x with starting := none }).wr (ST_OP_PATCH_STATE f p) st := by
  simp -implicitDefEqProofs only [stopClock, h, h', ne_eq, not_false_eq_true, if_true, if_false]

theorem sansStops_stopClock (st f p : Nat) (d : Dev) : (stopClock st f p d).sansStops = d.sansStops := by
  by_cases h : d.pstate f p = psRunning
  · rw [stopClock_running h, sansStops_dirtyWindow]
    have hbare := sansStops_of_bare (e := (d.updPt f p fun x => { x with starting := none }).markOpen .stop f [p]) (d := _)
      ((bare_wrB _ (ST_OP_PATCH_WAIT f p) false).trans ((bare_wr _ (PS_STATUS_STRETCH f p) 0).trans ((bare_wrB _ (PS_STATUS_DD_ARMED f p) false).trans
        ((bare_wrB _ (PS_STATUS_CLK_ON f p) false).trans (bare_wr _ (ST_OP_PATCH_STATE f p) st)))))
    exact hbare.trans ((sansStops_markOpen _ _ _ _).trans rfl)
  · by_cases h' : d.pstate f p = psRetired
    · rw [stopClock_retired h']
      rfl
    · rw [stopClock_idle h h', sansStops_of_bare (bare_wr _ _ _)]
      rfl

theorem rd_stopClock {x : Fld} (hx : ∀ y ∈ stopRegs f p, x.apart y) (d : Dev) : (stopClock st f p d).rd x = d.rd x := by
  have h1 := hx (ST_OP_PATCH_STATE f p) (by simp [stopRegs])
  by_cases h : d.pstate f p = psRunning
  · have h2 := hx (PS_STATUS_CLK_ON f p) (by simp [stopRegs])
    have h3 := hx (PS_STATUS_DD_ARMED f p) (by simp [stopRegs])
    have h4 := hx (PS_STATUS_STRETCH f p) (by simp [stopRegs])
    have h5 := hx (ST_OP_PATCH_WAIT f p) (by simp [stopRegs])
    rw [stopClock_running h, rd_dirtyWindow, rd_wrB_apart _ h5, rd_wr_apart _ h4, rd_wrB_apart _ h3, rd_wrB_apart _ h2, rd_wr_apart _ h1, markOpen_rd,
      Dev.updPt_rd]
  · by_cases h' : d.pstate f p = psRetired
    · rw [stopClock_retired h', Dev.updPt_rd]
    · rw [stopClock_idle h h', rd_wr_apart _ h1, Dev.updPt_rd]

/-- R111: the patch's state after its clock has stopped. -/
theorem pstate_stopClock (_hp : p < 36) (hst : st < 4) (d : Dev) : (stopClock st f p d).pstate f p = if d.pstate f p = psRetired then psRetired else st := by
  have hw (e : Dev) : (e.wr (ST_OP_PATCH_STATE f p) st).rd (ST_OP_PATCH_STATE f p) = st :=
    (rd_wr_eq st (by simp [Fld.fits, ST_OP_PATCH_STATE])).trans (Nat.mod_eq_of_lt hst)
  by_cases h : d.pstate f p = psRunning
  · rw [if_neg (by rw [h]; decide), Dev.pstate, stopClock_running h, rd_dirtyWindow,
      rd_wrB_apart _ (by simp [Fld.apart, ST_OP_PATCH_STATE, ST_OP_PATCH_WAIT]),
      rd_wr_apart _ (.inl (by simp only [ST_OP_PATCH_STATE, PS_STATUS_STRETCH, psBase]; omega)),
      rd_wrB_apart _ (.inl (by simp only [ST_OP_PATCH_STATE, PS_STATUS_DD_ARMED, psBase]; omega)),
      rd_wrB_apart _ (.inl (by simp only [ST_OP_PATCH_STATE, PS_STATUS_CLK_ON, psBase]; omega)), hw]
  · by_cases h' : d.pstate f p = psRetired
    · rw [if_pos h', stopClock_retired h']
      exact h'
    · rw [if_neg h', Dev.pstate, stopClock_idle h h', hw]

end

/-! Hold-safe (R307). -/

/-- R307: hold-safe as it is asserted at a steward that does not show it yet. -/
def holdSafeAssert (f : Nat) (d : Dev) : Dev :=
  (forN 4 (fun k d => cancelRaises f k (stopWadding f k d))
    (forN 36 (fun p d => (stopClock psHeld f p d).wr (ST_OP_PATCH_FIDX f p) 0) (d.wrB (ST_OP_STATUS_HOLD_SAFE f) true))).updFd f
      fun x => { x with shut := true }

theorem holdSafeField_eq (f : Nat) (d : Dev) :
    holdSafeField f d = if d.rdB (ST_OP_STATUS_HOLD_SAFE f) || !(d.fd f).up then d else holdSafeAssert f d := rfl

/-- A register of a steward that hold-safe does not write: it lies in another block, or is neither HOLD_SAFE nor one of a patch's
that its clock's stop writes. -/
def HoldSpares (f : Nat) (x : Fld) : Prop :=
  x.apart (ST_OP_STATUS_HOLD_SAFE f) ∧ ∀ p < 36, x.apart (ST_OP_PATCH_FIDX f p) ∧ ∀ y ∈ stopRegs f p, x.apart y

section
variable {f : Nat}

theorem rd_holdWadding {x : Fld} (h : ∀ p < 36, x.apart (ST_OP_PATCH_WAIT f p)) (d : Dev) :
    (forN 4 (fun k d => cancelRaises f k (stopWadding f k d)) d).rd x = d.rd x := by
  refine rd_forN _ _ fun k e => ?_
  rw [rd_cancelRaises fun p hp => h p (lt_of_mem_patchesOf hp), rd_stopWadding]

theorem rd_holdPatches {x : Fld} (h : ∀ p < 36, x.apart (ST_OP_PATCH_FIDX f p) ∧ ∀ y ∈ stopRegs f p, x.apart y) (d : Dev) :
    (forN 36 (fun p d => (stopClock psHeld f p d).wr (ST_OP_PATCH_FIDX f p) 0) d).rd x = d.rd x := by
  refine forN_keep_lt (fun e => e.rd x) (fun p hp e => ?_) d
  rw [rd_wr_apart _ (h p hp).1, rd_stopClock (h p hp).2]

theorem rd_holdSafeAssert {x : Fld} (h : HoldSpares f x) (d : Dev) : (holdSafeAssert f d).rd x = d.rd x := by
  obtain ⟨hh, hp⟩ := h
  rw [holdSafeAssert, Dev.updFd_rd, rd_holdWadding fun p hpp => (hp p hpp).2 _ (by simp [stopRegs]), rd_holdPatches hp, rd_wrB_apart _ hh]

/-- What hold-safe at a steward writes lies in its block. -/
theorem holdSpares_outside {x : Fld} (h : x.addr < stBase f ∨ stBase (f + 1) ≤ x.addr) : HoldSpares f x := by
  simp only [stBase] at h
  refine ⟨.inl ?_, fun p hp => ⟨.inl ?_, fun y hy => .inl ?_⟩⟩
  · simp only [ST_OP_STATUS_HOLD_SAFE, stBase]
    omega
  · simp only [ST_OP_PATCH_FIDX, stBase]
    omega
  · simp only [stopRegs, List.mem_cons, List.not_mem_nil, or_false] at hy
    rcases hy with rfl | rfl | rfl | rfl | rfl <;>
      simp only [ST_OP_PATCH_STATE, PS_STATUS_CLK_ON, PS_STATUS_DD_ARMED, PS_STATUS_STRETCH, ST_OP_PATCH_WAIT, psBase, stBase] <;> omega

theorem rd_holdSafeField {x : Fld} (h : HoldSpares f x) (d : Dev) : (holdSafeField f d).rd x = d.rd x := by
  rw [holdSafeField_eq]
  split
  · rfl
  · exact rd_holdSafeAssert h d

/-- What hold-safe changes beside the registers. -/
def Dev.sansHold (d : Dev) : Dev := { d.bare with fld := [], pat := [], tile := [], led := { d.led with marks := [] } }

theorem sansHold_of_bare {d e : Dev} (h : d.bare = e.bare) : d.sansHold = e.sansHold := by
  change { d.bare with fld := [], pat := [], tile := [], led := { d.bare.led with marks := [] } } =
    { e.bare with fld := [], pat := [], tile := [], led := { e.bare.led with marks := [] } }
  rw [h]

theorem sansHold_of_sansStops {d e : Dev} (h : d.sansStops = e.sansStops) : d.sansHold = e.sansHold := by
  change { d.sansStops with fld := [], tile := [] } = { e.sansStops with fld := [], tile := [] }
  rw [h]

theorem sansHold_of_sansTiles {d e : Dev} (h : d.sansTiles = e.sansTiles) : d.sansHold = e.sansHold := by
  change { d.sansTiles with fld := [], pat := [], led := { d.sansTiles.led with marks := [] } } =
    { e.sansTiles with fld := [], pat := [], led := { e.sansTiles.led with marks := [] } }
  rw [h]

theorem sansHold_updFd (f : Nat) (g : FieldS → FieldS) (d : Dev) : (d.updFd f g).sansHold = d.sansHold := rfl

theorem sansTiles_stopWadding (f k : Nat) (d : Dev) : (stopWadding f k d).sansTiles = d.sansTiles := by
  refine forL_keep Dev.sansTiles _ _ (fun x e => ?_) d
  split <;> rfl

theorem sansHold_holdSafeAssert (f : Nat) (d : Dev) : (holdSafeAssert f d).sansHold = d.sansHold := by
  rw [holdSafeAssert, sansHold_updFd, forN_keep Dev.sansHold, forN_keep Dev.sansHold]
  · exact sansHold_of_bare (bare_wrB _ _ _)
  · exact fun p e => (sansHold_of_bare (bare_wr _ _ _)).trans (sansHold_of_sansStops (sansStops_stopClock _ _ _ _))
  · exact fun k e => (sansHold_of_bare (bare_cancelRaises _ _ _)).trans (sansHold_of_sansTiles (sansTiles_stopWadding _ _ _))

theorem sansHold_holdSafeField (f : Nat) (d : Dev) : (holdSafeField f d).sansHold = d.sansHold := by
  rw [holdSafeField_eq]
  split
  · rfl
  · exact sansHold_holdSafeAssert f d

end

section
variable {f p : Nat}

theorem fld_of_sansStops {d e : Dev} (h : d.sansStops = e.sansStops) : d.fld = e.fld := by change d.sansStops.fld = e.sansStops.fld; rw [h]

theorem fld_of_sansTiles {d e : Dev} (h : d.sansTiles = e.sansTiles) : d.fld = e.fld := by change d.sansTiles.fld = e.sansTiles.fld; rw [h]

theorem fld_holdSafeAssert (f : Nat) (d : Dev) : (holdSafeAssert f d).fld = (d.updFd f fun x => { x with shut := true }).fld := by
  have hfld : (forN 4 (fun k d => cancelRaises f k (stopWadding f k d))
      (forN 36 (fun p d => (stopClock psHeld f p d).wr (ST_OP_PATCH_FIDX f p) 0) (d.wrB (ST_OP_STATUS_HOLD_SAFE f) true))).fld = d.fld := by
    rw [forN_keep Dev.fld, forN_keep Dev.fld]
    · exact Dev.wrB_fld _ _ _
    · exact fun q e => (Dev.wr_fld _ _ _).trans (fld_of_sansStops (sansStops_stopClock _ _ _ _))
    · exact fun k e => (fld_of_bare (bare_cancelRaises _ _ _)).trans (fld_of_sansTiles (sansTiles_stopWadding _ _ _))
  rw [holdSafeAssert, Dev.updFd, hfld, Dev.updFd]

theorem fd_holdSafeAssert_same (f : Nat) (d : Dev) : (holdSafeAssert f d).fd f = { d.fd f with shut := true } := by
  rw [Dev.fd, fld_holdSafeAssert, ← Dev.fd, fd_updFd]

theorem fd_holdSafeAssert_ne {g : Nat} (h : g ≠ f) (d : Dev) : (holdSafeAssert f d).fd g = d.fd g := by
  rw [Dev.fd, fld_holdSafeAssert, ← Dev.fd, fd_updFd_ne _ _ h]

theorem fd_holdSafeField_ne {g : Nat} (h : g ≠ f) (d : Dev) : (holdSafeField f d).fd g = d.fd g := by
  rw [holdSafeField_eq]
  split
  · rfl
  · exact fd_holdSafeAssert_ne h d

/-- R307: hold-safe stops each patch at index 0. -/
theorem pstate_holdPatches (hp : p < 36) (d : Dev) :
    (forN 36 (fun p d => (stopClock psHeld f p d).wr (ST_OP_PATCH_FIDX f p) 0) d).pstate f p =
      if d.pstate f p = psRetired then psRetired else psHeld := by
  have hstop (e : Dev) : (((stopClock psHeld f p e).wr (ST_OP_PATCH_FIDX f p) 0).pstate f p) = if e.pstate f p = psRetired then psRetired else psHeld :=
    (rd_wr_apart _ (by simp [Fld.apart, ST_OP_PATCH_STATE, ST_OP_PATCH_FIDX])).trans (pstate_stopClock hp (by decide) e)
  rw [forN_at (fun e => e.pstate f p) hp]
  · exact hstop d
  · intro q hq hne e
    refine (rd_wr_apart _ (.inl ?_)).trans (rd_stopClock (fun y hy => .inl ?_) e)
    · simp only [ST_OP_PATCH_STATE, ST_OP_PATCH_FIDX]
      omega
    · simp only [stopRegs, List.mem_cons, List.not_mem_nil, or_false] at hy
      rcases hy with rfl | rfl | rfl | rfl | rfl <;>
        simp only [ST_OP_PATCH_STATE, PS_STATUS_CLK_ON, PS_STATUS_DD_ARMED, PS_STATUS_STRETCH, ST_OP_PATCH_WAIT, psBase] <;> omega
  · intro e e' he
    rw [hstop, hstop, he]

theorem fidx_holdPatches (hp : p < 36) (d : Dev) :
    (forN 36 (fun p d => (stopClock psHeld f p d).wr (ST_OP_PATCH_FIDX f p) 0) d).fidx f p = 0 := by
  refine forL_of_mem (P := fun e => e.fidx f p = 0) (g := fun p d => (stopClock psHeld f p d).wr (ST_OP_PATCH_FIDX f p) 0)
    (List.mem_range.mpr hp) (fun e => ?_) (fun q hq e he => ?_) d
  · exact (rd_wr_eq 0 (by simp [Fld.fits, ST_OP_PATCH_FIDX])).trans (Nat.zero_mod _)
  · have hq' := List.mem_range.mp hq
    by_cases hqp : q = p
    · subst hqp
      exact (rd_wr_eq 0 (by simp [Fld.fits, ST_OP_PATCH_FIDX])).trans (Nat.zero_mod _)
    · refine ((rd_wr_apart _ (.inl ?_)).trans (rd_stopClock (fun y hy => ?_) e)).trans he
      · simp only [ST_OP_PATCH_FIDX]
        omega
      · simp only [stopRegs, List.mem_cons, List.not_mem_nil, or_false] at hy
        rcases hy with rfl | rfl | rfl | rfl | rfl <;>
          simp only [Fld.apart, ST_OP_PATCH_FIDX, ST_OP_PATCH_STATE, PS_STATUS_CLK_ON, PS_STATUS_DD_ARMED, PS_STATUS_STRETCH, ST_OP_PATCH_WAIT, psBase] <;>
          omega

/-- R307: what hold-safe asserted at a steward shows. -/
theorem holdSafeAssert_shows (hp : p < 36) (d : Dev) : (holdSafeAssert f d).rdB (ST_OP_STATUS_HOLD_SAFE f) = true ∧
    (holdSafeAssert f d).fidx f p = 0 ∧
    (holdSafeAssert f d).pstate f p = if d.pstate f p = psRetired then psRetired else psHeld := by
  have hwad (x : Fld) (h : ∀ q < 36, x.apart (ST_OP_PATCH_WAIT f q)) : (holdSafeAssert f d).rd x =
      (forN 36 (fun p d => (stopClock psHeld f p d).wr (ST_OP_PATCH_FIDX f p) 0) (d.wrB (ST_OP_STATUS_HOLD_SAFE f) true)).rd x := by
    rw [holdSafeAssert, Dev.updFd_rd, rd_holdWadding h]
  refine ⟨?_, ?_, ?_⟩
  · rw [Dev.rdB, hwad _ fun q hq => .inl (by simp only [ST_OP_STATUS_HOLD_SAFE, ST_OP_PATCH_WAIT]; omega),
      rd_holdPatches fun q hq => ⟨.inl (by simp only [ST_OP_STATUS_HOLD_SAFE, ST_OP_PATCH_FIDX]; omega), fun y hy => .inl ?_⟩]
    · exact rdB_wrB_eq true ⟨rfl, by simp [Fld.fits, ST_OP_STATUS_HOLD_SAFE]⟩
    · simp only [stopRegs, List.mem_cons, List.not_mem_nil, or_false] at hy
      rcases hy with rfl | rfl | rfl | rfl | rfl <;>
        simp only [ST_OP_STATUS_HOLD_SAFE, ST_OP_PATCH_STATE, PS_STATUS_CLK_ON, PS_STATUS_DD_ARMED, PS_STATUS_STRETCH, ST_OP_PATCH_WAIT, psBase] <;> omega
  · exact (hwad _ fun q hq => by simp only [Fld.apart, ST_OP_PATCH_FIDX, ST_OP_PATCH_WAIT]; omega).trans (fidx_holdPatches hp _)
  · refine ((hwad _ fun q hq => by simp only [Fld.apart, ST_OP_PATCH_STATE, ST_OP_PATCH_WAIT]; omega).trans (pstate_holdPatches hp _)).trans ?_
    have hsame : (d.wrB (ST_OP_STATUS_HOLD_SAFE f) true).pstate f p = d.pstate f p :=
      rd_wrB_apart true (.inl (by simp only [ST_OP_STATUS_HOLD_SAFE, ST_OP_PATCH_STATE]; omega))
    rw [hsame]

end

/-- What a steward shows of hold-safe: HOLD_SAFE, the field's own state, and a patch's index and state. -/
def Dev.holdShown (d : Dev) (f p : Nat) : Bool × FieldS × Nat × Nat := (d.rdB (ST_OP_STATUS_HOLD_SAFE f), d.fd f, d.fidx f p, d.pstate f p)

/-- R307: what hold-safe makes of it. -/
def holdSafeShown : Bool × FieldS × Nat × Nat → Bool × FieldS × Nat × Nat
  | (held, x, i, st) => if held || !x.up then (held, x, i, st) else (true, { x with shut := true }, 0, if st = psRetired then psRetired else psHeld)

section
variable {f p : Nat}

theorem holdShown_holdSafeField (hp : p < 36) (d : Dev) : (holdSafeField f d).holdShown f p = holdSafeShown (d.holdShown f p) := by
  obtain ⟨hheld, hidx, hst⟩ := holdSafeAssert_shows (f := f) hp d
  rw [holdSafeField_eq, Dev.holdShown, Dev.holdShown, holdSafeShown]
  split
  · rfl
  · rw [hheld, hidx, hst, fd_holdSafeAssert_same]

theorem holdShown_holdSafeField_ne (hp : p < 36) {g : Nat} (h : g ≠ f) (d : Dev) : (holdSafeField g d).holdShown f p = d.holdShown f p := by
  have hrd {x : Fld} (hx : stBase f ≤ x.addr ∧ x.addr < stBase (f + 1)) : (holdSafeField g d).rd x = d.rd x := by
    refine rd_holdSafeField (holdSpares_outside ?_) d
    simp only [stBase] at hx ⊢
    omega
  have h1 := hrd (x := ST_OP_STATUS_HOLD_SAFE f) (by simp only [ST_OP_STATUS_HOLD_SAFE, stBase]; omega)
  have h2 := hrd (x := ST_OP_PATCH_FIDX f p) (by simp only [ST_OP_PATCH_FIDX, stBase]; omega)
  have h3 := hrd (x := ST_OP_PATCH_STATE f p) (by simp only [ST_OP_PATCH_STATE, stBase]; omega)
  rw [Dev.holdShown, Dev.rdB, h1, fd_holdSafeField_ne (Ne.symm h), Dev.fidx, h2, Dev.pstate, h3]
  rfl

/-- R307: hold-safe at every steward. -/
theorem holdShown_holdSafeEnter (hf : f < 96) (hp : p < 36) (d : Dev) : (forN 96 holdSafeField d).holdShown f p = holdSafeShown (d.holdShown f p) := by
  rw [forN_at (fun e => e.holdShown f p) hf (fun g _ hg e => holdShown_holdSafeField_ne hp hg e)]
  · exact holdShown_holdSafeField hp d
  · intro e e' he
    rw [holdShown_holdSafeField hp, holdShown_holdSafeField hp, he]

end

/-- R307: hold-safe newly asserted at a steward. -/
theorem holdSafeEnter_asserts {f p : Nat} {d : Dev} (hf : f < 96) (hp : p < 36) (hup : (d.fd f).up = true)
    (hno : d.rdB (ST_OP_STATUS_HOLD_SAFE f) = false) : (forN 96 holdSafeField d).rdB (ST_OP_STATUS_HOLD_SAFE f) = true ∧
      (forN 96 holdSafeField d).fd f = { d.fd f with shut := true } ∧ (forN 96 holdSafeField d).fidx f p = 0 ∧
      (forN 96 holdSafeField d).pstate f p = if d.pstate f p = psRetired then psRetired else psHeld := by
  have h := holdShown_holdSafeEnter hf hp d
  rwa [Dev.holdShown, Dev.holdShown, holdSafeShown, if_neg (by simp [hup, hno]), Prod.mk.injEq, Prod.mk.injEq, Prod.mk.injEq] at h

/-- R307: hold-safe at a steward that shows it already, or is not brought up. -/
theorem holdSafeEnter_keeps {f : Nat} {d : Dev} (hf : f < 96) (h : (d.rdB (ST_OP_STATUS_HOLD_SAFE f) || !(d.fd f).up) = true) :
    (forN 96 holdSafeField d).rdB (ST_OP_STATUS_HOLD_SAFE f) = d.rdB (ST_OP_STATUS_HOLD_SAFE f) := by
  have hshow := holdShown_holdSafeEnter hf (p := 0) (by decide) d
  rw [Dev.holdShown, Dev.holdShown, holdSafeShown, if_pos h] at hshow
  exact congrArg Prod.fst hshow

/-! The release (R308). -/

/-- What a steward shows of its release: HOLD_SAFE and a patch's state. -/
def Dev.liftShown (d : Dev) (f p : Nat) : Bool × Nat := (d.rdB (ST_OP_STATUS_HOLD_SAFE f), d.pstate f p)

/-- The device without what the release changes beside the registers. -/
def Dev.sansLift (d : Dev) : Dev := { d.bare with fld := [], inst := [] }

theorem sansLift_of_bare {d e : Dev} (h : d.bare = e.bare) : d.sansLift = e.sansLift := by
  change { d.bare with fld := [], inst := [] } = { e.bare with fld := [], inst := [] }
  rw [h]

/-- R308: the patches held become stopped. -/
def releaseHeld (f p : Nat) (d : Dev) : Dev := if d.pstate f p = psHeld then d.wr (ST_OP_PATCH_STATE f p) psStopped else d

section
variable {f p : Nat}

theorem bare_releaseHeld (d : Dev) : (releaseHeld f p d).bare = d.bare := by
  unfold releaseHeld
  split
  · exact bare_wr _ _ _
  · rfl

theorem rd_releaseHeld {x : Fld} (h : x.apart (ST_OP_PATCH_STATE f p)) (d : Dev) : (releaseHeld f p d).rd x = d.rd x := by
  unfold releaseHeld
  split
  · exact rd_wr_apart _ h
  · rfl

theorem pstate_releaseHeld (d : Dev) : (releaseHeld f p d).pstate f p = if d.pstate f p = psHeld then psStopped else d.pstate f p := by
  unfold releaseHeld
  split
  · exact (rd_wr_eq _ (by simp [Fld.fits, ST_OP_PATCH_STATE])).trans rfl
  · rfl

theorem exemptNext_rd (l : LoopRef) (d : Dev) (x : Fld) : (exemptNext l d).rd x = d.rd x := rfl

theorem rd_forLoops_exempt (f : Nat) (d : Dev) (x : Fld) : (forLoops f exemptNext d).rd x = d.rd x := rd_forN _ _ fun _ _ => rfl

theorem sansLift_updFd (f : Nat) (g : FieldS → FieldS) (d : Dev) : (d.updFd f g).sansLift = d.sansLift := rfl

theorem sansLift_exemptNext (l : LoopRef) (d : Dev) : (exemptNext l d).sansLift = d.sansLift := by
  rw [exemptNext, Dev.sansLift, bare_updLins]
  rfl

theorem holdSafeLift_eq (f : Nat) (d : Dev) : holdSafeLift f d = forLoops f exemptNext
    ((forN 36 (releaseHeld f) (d.wrB (ST_OP_STATUS_HOLD_SAFE f) false)).updFd f fun x => { x with shut := x.stop ≠ .none }) := rfl

theorem rd_holdSafeLift {x : Fld} (hh : x.apart (ST_OP_STATUS_HOLD_SAFE f)) (hp : ∀ p < 36, x.apart (ST_OP_PATCH_STATE f p)) (d : Dev) :
    (holdSafeLift f d).rd x = d.rd x := by
  rw [holdSafeLift_eq, rd_forLoops_exempt, Dev.updFd_rd, forN_keep_lt (fun e => e.rd x) fun q hq e => rd_releaseHeld (hp q hq) e, rd_wrB_apart _ hh]

theorem sansLift_holdSafeLift (f : Nat) (d : Dev) : (holdSafeLift f d).sansLift = d.sansLift := by
  have hloops (e : Dev) : (forLoops f exemptNext e).sansLift = e.sansLift := forN_keep Dev.sansLift _ _ (fun _ _ => sansLift_exemptNext _ _) e
  rw [holdSafeLift_eq, hloops, sansLift_updFd]
  exact sansLift_of_bare ((bare_forN _ (fun _ _ => bare_releaseHeld _) _).trans (bare_wrB _ _ _))

theorem liftShown_holdSafeLift (hp : p < 36) (d : Dev) : (holdSafeLift f d).liftShown f p =
    (false, if d.pstate f p = psHeld then psStopped else d.pstate f p) := by
  have hstate : (forN 36 (releaseHeld f) (d.wrB (ST_OP_STATUS_HOLD_SAFE f) false)).pstate f p =
      (releaseHeld f p (d.wrB (ST_OP_STATUS_HOLD_SAFE f) false)).pstate f p := by
    refine forN_at (fun e => e.pstate f p) hp (fun q _ hq e => rd_releaseHeld (.inl ?_) e) (fun e e' he => ?_) _
    · simp only [ST_OP_PATCH_STATE]
      omega
    · rw [pstate_releaseHeld, pstate_releaseHeld, he]
  have hsame : (d.wrB (ST_OP_STATUS_HOLD_SAFE f) false).pstate f p = d.pstate f p :=
    rd_wrB_apart _ (.inl (by simp only [ST_OP_STATUS_HOLD_SAFE, ST_OP_PATCH_STATE]; omega))
  have hheld : (holdSafeLift f d).rdB (ST_OP_STATUS_HOLD_SAFE f) = false := by
    rw [Dev.rdB, holdSafeLift_eq, rd_forLoops_exempt, Dev.updFd_rd, forN_keep_lt (fun e => e.rd (ST_OP_STATUS_HOLD_SAFE f)) fun q hq e =>
      rd_releaseHeld (.inl (by simp only [ST_OP_STATUS_HOLD_SAFE, ST_OP_PATCH_STATE]; omega)) e]
    exact rdB_wrB_eq false ⟨rfl, by simp [Fld.fits, ST_OP_STATUS_HOLD_SAFE]⟩
  have hst : (holdSafeLift f d).pstate f p = if d.pstate f p = psHeld then psStopped else d.pstate f p := by
    rw [← hsame, ← pstate_releaseHeld, ← hstate]
    exact rd_forLoops_exempt _ _ _
  rw [Dev.liftShown, hheld, hst]

theorem liftShown_holdSafeLift_ne (hp : p < 36) {g : Nat} (h : g ≠ f) (d : Dev) : (holdSafeLift g d).liftShown f p = d.liftShown f p := by
  have hrd {x : Fld} (hx : stBase f ≤ x.addr ∧ x.addr < stBase (f + 1)) : (holdSafeLift g d).rd x = d.rd x := by
    simp only [stBase] at hx
    refine rd_holdSafeLift (.inl ?_) (fun q hq => .inl ?_) d
    · simp only [ST_OP_STATUS_HOLD_SAFE, stBase]
      omega
    · simp only [ST_OP_PATCH_STATE, stBase]
      omega
  rw [Dev.liftShown, Dev.rdB, hrd (by simp only [ST_OP_STATUS_HOLD_SAFE, stBase]; omega), Dev.pstate,
    hrd (by simp only [ST_OP_PATCH_STATE, stBase]; omega)]
  rfl

/-- R308: the release lifts hold-safe from the fields that serve. -/
theorem liftShown_release (hf : f < 96) (hp : p < 36) (d : Dev) : (forL d.serving holdSafeLift d).liftShown f p =
    (d.rdB (ST_OP_STATUS_HOLD_SAFE f) && !d.inService f,
      if d.inService f = true ∧ d.pstate f p = psHeld then psStopped else d.pstate f p) := by
  have hnd : d.serving.Nodup := List.nodup_range.filter _
  have hmem : f ∈ d.serving ↔ d.inService f = true := by
    rw [Dev.serving, List.mem_filter, List.mem_range]
    exact and_iff_right hf
  cases hin : d.inService f with
  | true =>
    rw [forL_at (fun e => e.liftShown f p) hnd (hmem.mpr hin) (fun g _ hg e => liftShown_holdSafeLift_ne hp hg e)]
    · rw [liftShown_holdSafeLift hp]
      simp
    · intro e e' he
      rw [liftShown_holdSafeLift hp, liftShown_holdSafeLift hp, show e.pstate f p = e'.pstate f p from congrArg Prod.snd he]
  | false =>
    rw [forL_keep_mem (fun e => e.liftShown f p) fun g hg e => liftShown_holdSafeLift_ne hp (fun h => ?_) e]
    · simp [Dev.liftShown]
    · rw [h] at hg
      exact absurd (hin.symm.trans (hmem.mp hg)) (by decide)

end

/-- R308: hold-safe is in force, or not. -/
def Dev.setHeld (d : Dev) (b : Bool) : Dev := { d with clk := { d.clk with held := b } }

theorem setHeld_rd (b : Bool) (d : Dev) (x : Fld) : (d.setHeld b).rd x = d.rd x := rfl
theorem setHeld_rdB (b : Bool) (d : Dev) (x : Fld) : (d.setHeld b).rdB x = d.rdB x := rfl

theorem bare_setHeld_of_sansHold {d e : Dev} {b : Bool} (h : d.sansHold = e.sansHold) : (d.setHeld b).bare = Dev.bare
    { e with fld := d.fld, pat := d.pat, tile := d.tile, led := { e.led with marks := d.led.marks }, clk := { e.clk with held := b } } :=
  calc (d.setHeld b).bare = { d.sansHold with
        fld := d.fld, pat := d.pat, tile := d.tile, led := { d.sansHold.led with marks := d.led.marks }, clk := { d.sansHold.clk with held := b } } := rfl
    _ = _ := by rw [h]; rfl

theorem bare_setHeld_of_sansLift {d e : Dev} {b : Bool} (h : d.sansLift = e.sansLift) :
    (d.setHeld b).bare = Dev.bare { e with fld := d.fld, inst := d.inst, clk := { e.clk with held := b } } :=
  calc (d.setHeld b).bare = { d.sansLift with fld := d.fld, inst := d.inst, clk := { d.sansLift.clk with held := b } } := rfl
    _ = _ := by rw [h]; rfl

theorem holdSafeRelease_due {d : Dev} (hheld : d.clk.held = true) (hrosc : d.rdB CK_STATUS_ROSC_RUN = true) (hmode : d.mode ≠ NO_SOURCE)
    (hbolt : d.time.count % 1000 = 0) (hstop : d.rdB TB_STATUS_STOPPED = false) :
    holdSafeRelease d = (exemptNext capRef (forL d.serving holdSafeLift d)).setHeld false := by
  unfold holdSafeRelease
  rw [if_pos (by simp [hheld, hrosc, hmode, hbolt, Dev.stopped, hstop])]
  rfl

theorem patchesMove_forL {α : Type} (l : List α) {g : α → Dev → Dev} (h : ∀ a (e : Dev), e.PatchesMove (g a e)) (d : Dev) :
    d.PatchesMove (forL l g d) := by
  induction l generalizing d with
  | nil => rfl
  | cons a l ih => exact (h a d).trans (ih (g a d))

theorem dom_of_patchesMove {d e : Dev} (h : d.PatchesMove e) : e.dom = d.dom := by
  change e.bare.dom = d.bare.dom
  rw [h]

theorem dm_of_patchesMove {d e : Dev} (h : d.PatchesMove e) (f k : Nat) : e.dm f k = d.dm f k := by
  rw [Dev.dm, dom_of_patchesMove h, Dev.dm]

theorem pt_updPt_ne {f p q : Nat} (h : p ≠ q) (g : PatchS → PatchS) (d : Dev) : (d.updPt f q g).pt f p = d.pt f p :=
  tget_tupd_ne _ _ _ (by simp only [pkey]; omega) _

/-- Settles O22. -/
theorem holdSafeAndCeilings : Obligations.HoldSafeAndCeilings := by
  unfold Obligations.HoldSafeAndCeilings
  refine ⟨fun s hs => ?_, fun s hs hheld hrosc hmode hbolt hstop => ?_, fun s f k hs hstop ht hc => ?_, fun s f k hs h => ?_,
    fun s f k hs hc hq => ?_⟩
  · have hass (f : Fin 96) (p : Fin 36) := holdSafeEnter_asserts (d := s.dev) f.isLt p.isLt
    have hkeep (f : Fin 96) := holdSafeEnter_keeps (d := s.dev) f.isLt
    have hsans : (forN 96 holdSafeField s.dev).sansHold = s.dev.sansHold := forN_keep Dev.sansHold _ _ sansHold_holdSafeField s.dev
    have hframe {x : Fld} (h : x.addr < 0x30000000 ∨ 0x36000000 ≤ x.addr) : (forN 96 holdSafeField s.dev).rd x = s.dev.rd x := by
      refine forN_keep_lt (fun e => e.rd x) (fun g hg e => rd_holdSafeField (holdSpares_outside ?_) e) s.dev
      simp only [stBase]
      omega
    have hg : holdSafeEnter s.dev = (forN 96 holdSafeField s.dev).setHeld true := rfl
    generalize forN 96 holdSafeField s.dev = D at hass hkeep hsans hframe hg
    refine completes_eq rfl hs hg ⟨fun f => ?_, fun f p hup hno => ?_, fun f hup hno => ?_, within_bare ?_ fun x hx => hframe hx⟩
    · rw [rdB_settle (apart_alert (stBase_le f _)), setHeld_rdB]
      cases hno : s.dev.rdB (ST_OP_STATUS_HOLD_SAFE f) with
      | true => exact (hkeep f (by rw [hno]; rfl)).trans hno
      | false =>
        cases hup : (s.dev.fd f).up with
        | true => exact (hass f 0 hup hno).1
        | false => exact (hkeep f (by rw [hup, Bool.not_false, Bool.or_true])).trans hno
    · obtain ⟨-, -, hidx, hst⟩ := hass f p hup hno
      refine ⟨(rd_settle (apart_alert (by simp only [ST_OP_PATCH_FIDX, stBase]; omega))).trans hidx, ?_⟩
      have hst' : (settle (D.setHeld true)).pstate f p = _ := (rd_settle (apart_alert (by simp only [ST_OP_PATCH_STATE, stBase]; omega))).trans hst
      rw [hst']
      split
      · next h => exact .inr h
      · exact .inl rfl
    · obtain ⟨-, hfd, -⟩ := hass f 0 hup hno
      rw [fd_settle]
      exact congrArg FieldS.shut hfd
    · rw [settle_fld, settle_pat, settle_tile, settle_led]
      exact bare_setHeld_of_sansHold hsans
  · have hshow (f : Fin 96) (p : Fin 36) := liftShown_release f.isLt p.isLt s.dev
    have hg := holdSafeRelease_due hheld hrosc hmode hbolt hstop
    have hsans : (exemptNext capRef (forL s.dev.serving holdSafeLift s.dev)).sansLift = s.dev.sansLift :=
      (sansLift_exemptNext _ _).trans (forL_keep Dev.sansLift _ _ sansLift_holdSafeLift s.dev)
    have hframe {x : Fld} (h : x.addr < 0x30000000 ∨ 0x36000000 ≤ x.addr) : (forL s.dev.serving holdSafeLift s.dev).rd x = s.dev.rd x := by
      refine forL_keep_mem (fun e => e.rd x) (fun g hg e => ?_) s.dev
      have hlt : g < 96 := List.mem_range.mp (List.mem_filter.mp hg).1
      refine rd_holdSafeLift (.inl ?_) (fun q hq => .inl ?_) e
      · simp only [ST_OP_STATUS_HOLD_SAFE, stBase]
        omega
      · simp only [ST_OP_PATCH_STATE, stBase]
        omega
    refine completes_eq rfl hs hg ⟨?_, fun f => ?_, fun f p => ?_, within_bare ?_ fun x hx => hframe hx⟩
    · rw [settle_clk]
      rfl
    · rw [rdB_settle (apart_alert (stBase_le f _)), setHeld_rdB]
      exact congrArg Prod.fst (hshow f 0)
    · exact (rd_settle (apart_alert (by simp only [ST_OP_PATCH_STATE, stBase]; omega))).trans (congrArg Prod.snd (hshow f p))
    · rw [settle_fld, settle_inst]
      exact bare_setHeld_of_sansLift hsans
  · have hg : domCeiling f k s.dev = (s.dev.updDm f k fun y => { y with domDue := true, domCut := true, overAll := (s.dev.dm f k).overRun }).raiseR
        { s.dev.report .elec 7 f k with value := s.dev.rd (ST_LINK_UP0_IOUT f k) } := by
      simp -implicitDefEqProofs [domCeiling, Dev.stopped, hstop, ht, hc]
      rfl
    refine completes_eq rfl hs hg ⟨?_, ?_, ?_, changes_bare ?_ fun x _ => rfl⟩
    · rw [dm_settle, Dev.raiseR_dm, dm_updDm]
    · rw [dm_settle, Dev.raiseR_dm, dm_updDm]
    · rw [dm_settle, Dev.raiseR_dm, dm_updDm]
    · rw [settle_dom]
      rfl
  · refine completes_unchanged rfl hs ?_
    rcases h with h | h <;> simp [domCeiling, Dev.stopped, h]
  · have hg : domLift f k s.dev = _ := if_pos (by simp [hc, hq])
    have hmove := patchesMove_forL (patchesOf k) (g := fun p d => d.updPt f p fun y => { y with domCeil := none }) (fun _ e => patchesMove_updPt e _ _ _)
      (s.dev.updDm f k fun y => { y with domCut := false, domDue := false, overAll := 0, quiet := 0 })
    have hdm := (dm_of_patchesMove hmove f k).trans (dm_updDm _ _ _ _)
    refine completes_eq rfl hs hg ⟨?_, ?_, fun p hp => ?_, changes_bare ?_ fun x _ => rd_forL _ _ fun _ _ => rfl⟩
    · rw [dm_settle, hdm]
    · rw [dm_settle, hdm]
    · rw [pt_settle]
      refine forL_of_mem (P := fun e => (e.pt f p).domCeil = none) (g := fun p d => d.updPt f p fun y => { y with domCeil := none })
        (mem_patchesOf hp) (fun e => by rw [pt_updPt]) (fun q _ e he => ?_) _
      by_cases hqp : q = p
      · rw [hqp, pt_updPt]
      · rw [pt_updPt_ne (Ne.symm hqp), he]
    · rw [settle_dom, settle_pat, hmove, dom_of_patchesMove hmove]
      rfl

end Sys2Proof.Machine
end

section
/-! O19: raises and starts, margin offsets, retirement (R64, R66, R111, R119 to R123, R399). -/

namespace Sys2Proof.Machine

/-! Floors (R64). -/

section
variable {f p : Nat}

/-- The floors of a patch: five fields of one register. -/
def floorsReg (f p : Nat) : Fld := ⟨psBase f p + 0x24, 0, 30⟩

theorem rd_setFloors {x : Fld} (h : x.apart (floorsReg f p)) (d : Dev) : (setFloors f p d).rd x = d.rd x := by
  refine forN_keep_lt (fun e => e.rd x) (fun i hi e => rd_wr_apart _ ?_) d
  simp only [Fld.apart, floorsReg, PS_DD_FLOOR_FLOOR] at h ⊢
  omega

theorem bare_setFloors (d : Dev) : (setFloors f p d).bare = d.bare := bare_forN _ (fun _ _ => bare_wr _ _ _) d

/-! Raises (R119, R121). -/

/-- What a waiting raise of a patch in domain k depends on. -/
structure RaiseView where
  fidx : Nat
  freq : Nat
  state : Nat
  wait : Bool
  waitAt : Nat
  link : Nat
  met : Bool
  nb : Nat

/-- What a waiting raise of a patch in domain k depends on, in a device. -/
def Dev.raiseView (d : Dev) (f k p : Nat) : RaiseView :=
  ⟨d.fidx f p, d.rd (ST_OP_PATCH_FREQ f p), d.pstate f p, d.rdB (ST_OP_PATCH_WAIT f p), (d.pt f p).waitAt, d.link f k, d.targetMet f k, d.time.nb⟩

/-- R119, R121: the raise completes. -/
def RaiseView.due (v : RaiseView) : Bool := v.state = psRunning && v.wait && decide (v.waitAt < v.nb) && v.link = linkUp && v.met

def RaiseView.raised (v : RaiseView) : RaiseView := if v.due then { v with fidx := v.freq, wait := false } else v

theorem waitAt_dirtyWindow (f p q : Nat) (d : Dev) : ((dirtyWindow f p d).pt f q).waitAt = (d.pt f q).waitAt := by
  unfold dirtyWindow
  split
  · by_cases h : q = p
    · rw [h, pt_updPt]
    · rw [pt_updPt_ne h]
  · rfl

theorem patchesMove_dirtyWindow (f p : Nat) (d : Dev) : d.PatchesMove (dirtyWindow f p d) := bare_dirtyWindow f p d

theorem patchesMove_of_bare {d e : Dev} (h : e.bare = d.bare) : d.PatchesMove e := by
  have hp : e.pat = d.pat := pat_of_bare h
  rw [Dev.PatchesMove, hp, h]
  rfl

/-- R119: the device after the raise of a patch. -/
def Dev.raised (d : Dev) (f p : Nat) : Dev :=
  setFloors f p (dirtyWindow f p ((d.wr (ST_OP_PATCH_FIDX f p) (d.rd (ST_OP_PATCH_FREQ f p))).wrB (ST_OP_PATCH_WAIT f p) false))

theorem RaiseView.due_iff (v : RaiseView) : v.due = true ↔
    v.state = psRunning ∧ v.wait = true ∧ v.waitAt < v.nb ∧ v.link = linkUp ∧ v.met = true := by
  simp [RaiseView.due, and_assoc]

theorem due_raiseView (f k p : Nat) (d : Dev) : (d.raiseView f k p).due = true ↔
    d.runs f p = true ∧ d.rdB (ST_OP_PATCH_WAIT f p) = true ∧ (d.pt f p).waitAt < d.time.nb ∧ d.link f k = linkUp ∧ d.targetMet f k = true := by
  rw [RaiseView.due_iff, Dev.runs, decide_eq_true_iff]
  rfl

theorem completeRaise_eq (f k p : Nat) (d : Dev) : completeRaise f k p d = if (d.raiseView f k p).due = true then d.raised f p else d := by
  by_cases h : (d.raiseView f k p).due = true
  · rw [if_pos h, completeRaise, if_pos ((due_raiseView f k p d).mp h), Dev.raised]
  · rw [if_neg h, completeRaise, if_neg (mt (due_raiseView f k p d).mpr h)]

theorem patchesMove_raised (d : Dev) : d.PatchesMove (d.raised f p) :=
  (patchesMove_of_bare ((bare_wrB _ _ _).trans (bare_wr _ _ _))).trans ((patchesMove_dirtyWindow _ _ _).trans (patchesMove_of_bare (bare_setFloors _)))

theorem rd_raised {x : Fld} (hi : x.apart (ST_OP_PATCH_FIDX f p)) (hw : x.apart (ST_OP_PATCH_WAIT f p)) (hf : x.apart (floorsReg f p)) (d : Dev) :
    (d.raised f p).rd x = d.rd x := by
  rw [Dev.raised, rd_setFloors hf, rd_dirtyWindow, rd_wrB_apart _ hw, rd_wr_apart _ hi]

theorem waitAt_raised (q : Nat) (d : Dev) : ((d.raised f p).pt f q).waitAt = (d.pt f q).waitAt := by
  rw [Dev.raised, pt_of_bare (bare_setFloors _), waitAt_dirtyWindow, pt_of_bare ((bare_wrB _ _ _).trans (bare_wr _ _ _))]

theorem targetMet_of_patchesMove {d e : Dev} (h : d.PatchesMove e) (f k : Nat) : e.targetMet f k = d.targetMet f k := by
  rw [Dev.targetMet, dm_of_patchesMove h, Dev.targetMet]

theorem time_of_patchesMove {d e : Dev} (h : d.PatchesMove e) : e.time = d.time := by
  change e.bare.time = d.bare.time
  rw [h]

/-- A raise of a patch leaves the steward's other registers below the detectors' blocks. -/
theorem rd_raised_below {x : Fld} (h : x.addr < stBase f + 0x40000) (hi : x.apart (ST_OP_PATCH_FIDX f p)) (hw : x.apart (ST_OP_PATCH_WAIT f p)) (d : Dev) :
    (d.raised f p).rd x = d.rd x := rd_raised hi hw (.inl (by simp only [floorsReg, psBase]; omega)) d

theorem link_raised {k : Nat} (hp : p < 36) (hk : k < 4) (d : Dev) : (d.raised f p).link f k = d.link f k := by
  refine rd_raised_below (by simp only [ST_LINK_STATUS_STATE]; omega) (.inl ?_) (.inl ?_) d
  · simp only [ST_LINK_STATUS_STATE, ST_OP_PATCH_FIDX]
    omega
  · simp only [ST_LINK_STATUS_STATE, ST_OP_PATCH_WAIT]
    omega

/-- A raise of a patch leaves what the raises of the others depend on. -/
theorem raiseView_raised_ne {k q : Nat} (hp : p < 36) (hq : q < 36) (hk : k < 4) (h : q ≠ p) (d : Dev) :
    (d.raised f q).raiseView f k p = d.raiseView f k p := by
  have hrd {x : Fld} (hx : x.addr = stBase f + 0x400 + p * 4) : (d.raised f q).rd x = d.rd x := by
    refine rd_raised_below (by omega) (.inl ?_) (.inl ?_) d
    · simp only [ST_OP_PATCH_FIDX]
      omega
    · simp only [ST_OP_PATCH_WAIT]
      omega
  rw [Dev.raiseView, Dev.fidx, hrd rfl, hrd (x := ST_OP_PATCH_FREQ f p) rfl, Dev.pstate, hrd rfl, Dev.rdB, hrd rfl, waitAt_raised, link_raised hq hk,
    targetMet_of_patchesMove (patchesMove_raised d), time_of_patchesMove (patchesMove_raised d)]
  rfl

/-- The raise of a patch: the index it waited for, and no wait. -/
theorem raiseView_raised {k : Nat} (hp : p < 36) (hk : k < 4) (d : Dev) :
    (d.raised f p).raiseView f k p = { d.raiseView f k p with fidx := d.rd (ST_OP_PATCH_FREQ f p), wait := false } := by
  have hfloor {x : Fld} (hx : x.addr = stBase f + 0x400 + p * 4) : x.apart (floorsReg f p) := .inl (by simp only [floorsReg, psBase]; omega)
  have hlt : d.rd (ST_OP_PATCH_FREQ f p) < 2 ^ 7 := rd_lt (ST_OP_PATCH_FREQ f p) d
  have hidx : (d.raised f p).fidx f p = d.rd (ST_OP_PATCH_FREQ f p) := by
    rw [Dev.fidx, Dev.raised, rd_setFloors (hfloor rfl), rd_dirtyWindow, rd_wrB_apart _ (by simp [Fld.apart, ST_OP_PATCH_FIDX, ST_OP_PATCH_WAIT]),
      rd_wr_eq _ (by simp [Fld.fits, ST_OP_PATCH_FIDX])]
    exact Nat.mod_eq_of_lt hlt
  have hwait : (d.raised f p).rdB (ST_OP_PATCH_WAIT f p) = false := by
    rw [Dev.rdB, Dev.raised, rd_setFloors (hfloor rfl), rd_dirtyWindow]
    exact rdB_wrB_eq false ⟨rfl, by simp [Fld.fits, ST_OP_PATCH_WAIT]⟩
  have hrd {x : Fld} (hx : x.addr = stBase f + 0x400 + p * 4) (hi : 7 ≤ x.lo) (hw : x.lo + x.w ≤ 15 ∨ 16 ≤ x.lo) : (d.raised f p).rd x = d.rd x :=
    rd_raised_below (by omega) (by simp only [Fld.apart, ST_OP_PATCH_FIDX]; omega) (by simp only [Fld.apart, ST_OP_PATCH_WAIT]; omega) d
  rw [Dev.raiseView, hidx, hwait, hrd (x := ST_OP_PATCH_FREQ f p) rfl (by simp [ST_OP_PATCH_FREQ]) (by simp [ST_OP_PATCH_FREQ]), Dev.pstate,
    hrd rfl (by simp [ST_OP_PATCH_STATE]) (by simp [ST_OP_PATCH_STATE]), waitAt_raised, link_raised hp hk,
    targetMet_of_patchesMove (patchesMove_raised d), time_of_patchesMove (patchesMove_raised d)]
  rfl

theorem raiseView_completeRaise {k : Nat} (hp : p < 36) (hk : k < 4) (d : Dev) :
    (completeRaise f k p d).raiseView f k p = (d.raiseView f k p).raised := by
  rw [completeRaise_eq, RaiseView.raised]
  split
  · exact raiseView_raised hp hk d
  · rfl

theorem raiseView_completeRaise_ne {k q : Nat} (hp : p < 36) (hq : q < 36) (hk : k < 4) (h : q ≠ p) (d : Dev) :
    (completeRaise f k q d).raiseView f k p = d.raiseView f k p := by
  rw [completeRaise_eq]
  split
  · exact raiseView_raised_ne hp hq hk h d
  · rfl

theorem nodup_patchesOf (k : Nat) : (patchesOf k).Nodup := List.nodup_range.filter _

/-- R119: after the raises of a domain each of its patches that was due has the index it waited for. -/
theorem raiseView_completeRaises {k : Nat} (hp : p < 36) (hk : k < 4) (d : Dev) :
    (forL (patchesOf k) (completeRaise f k) d).raiseView f k p = if p ∈ patchesOf k then (d.raiseView f k p).raised else d.raiseView f k p := by
  split
  next h =>
    rw [forL_at (fun e => e.raiseView f k p) (nodup_patchesOf k) h fun q hq hne e =>
      raiseView_completeRaise_ne hp (lt_of_mem_patchesOf hq) hk hne e]
    · exact raiseView_completeRaise hp hk d
    · intro e e' he
      rw [raiseView_completeRaise hp hk, raiseView_completeRaise hp hk, he]
  next h =>
    exact forL_keep_mem (fun e => e.raiseView f k p)
      (fun q hq e => raiseView_completeRaise_ne hp (lt_of_mem_patchesOf hq) hk (fun hqp => h (hqp ▸ hq)) e) d

theorem patchesMove_completeRaise (k : Nat) (d : Dev) : d.PatchesMove (completeRaise f k p d) := by
  rw [completeRaise_eq]
  split
  · exact patchesMove_raised d
  · rfl

end

section
variable {f k : Nat}

/-- R119: the device after the slew of a domain. -/
def Dev.slewEnded (d : Dev) (f k : Nat) : Dev := forL (patchesOf k) (setFloors f)
  ((d.updDm f k fun x => { x with slew := none, bandVid := d.vidOf f k }).wr (ST_LINK_DOWN_VREF f k) (d.vidOf f k))

theorem bare_slewEnded (d : Dev) : (d.slewEnded f k).bare = d.bare.updDm f k fun x => { x with slew := none, bandVid := d.vidOf f k } := by
  rw [Dev.slewEnded, bare_forL _ (fun _ _ => bare_setFloors _), bare_wr, bare_updDm]

theorem rd_slewEnded {x : Fld} (hv : x.apart (ST_LINK_DOWN_VREF f k)) (hf : ∀ p < 36, x.apart (floorsReg f p)) (d : Dev) :
    (d.slewEnded f k).rd x = d.rd x := by
  rw [Dev.slewEnded, forL_keep_mem (fun e => e.rd x) fun p hp e => rd_setFloors (hf p (lt_of_mem_patchesOf hp)) e, rd_wr_apart _ hv, Dev.updDm_rd]

theorem vref_slewEnded (_hk : k < 4) (d : Dev) : (d.slewEnded f k).rd (ST_LINK_DOWN_VREF f k) = d.vidOf f k := by
  have hvid : d.vidOf f k < 256 := rd_lt (ST_LINK_DOWN_VID f k) d
  rw [Dev.slewEnded, forL_keep_mem (fun e => e.rd (ST_LINK_DOWN_VREF f k)) fun p hp e =>
    rd_setFloors (.inl (by simp only [ST_LINK_DOWN_VREF, floorsReg, psBase]; omega)) e, rd_wr_eq _ (by simp [Fld.fits, ST_LINK_DOWN_VREF])]
  exact Nat.mod_eq_of_lt hvid

theorem dom_slewEnded (d : Dev) : (d.slewEnded f k).dom = (d.updDm f k fun x => { x with slew := none, bandVid := d.vidOf f k }).dom :=
  dom_of_bare (by rw [bare_slewEnded, bare_updDm])

theorem endSlew_known {d : Dev} {x : Slew} (hs : (d.dm f k).slew = some x) (hd : x.down = false) (hl : d.link f k = linkUp)
    (hkn : slewKnown d f x = true) : endSlew f k d = d.slewEnded f k := by
  rw [endSlew, hs]
  simp -implicitDefEqProofs only [hd, Bool.false_eq_true, if_false, hl, hkn, and_self, if_true]
  rfl

theorem endSlew_none {d : Dev} (hs : (d.dm f k).slew = none) : endSlew f k d = d := by
  rw [endSlew, hs]

/-- R119: a domain with no slew has reached its target. -/
theorem targetMet_of_no_slew {d : Dev} (hs : (d.dm f k).slew = none) : d.targetMet f k = true := by
  rw [Dev.targetMet, hs]

theorem dm_slewEnded (d : Dev) : (d.slewEnded f k).dm f k = { d.dm f k with slew := none, bandVid := d.vidOf f k } := by
  rw [dm_of_bare (e := d.updDm f k fun x => { x with slew := none, bandVid := d.vidOf f k }) (by rw [bare_slewEnded, bare_updDm]), dm_updDm]

end

/-- R119: the index of a patch after RAISE_COMPLETE in a domain whose target is known complete; e is the device at the end of the
slew. -/
theorem fidx_completeRaises {f k : Nat} {p : Fin 36} {d e : Dev} (hk : k < 4) (hl : d.link f k = linkUp)
    (he : e.raiseView f k p = { d.raiseView f k p with met := true }) :
    (forL (patchesOf k) (completeRaise f k) e).fidx f p = if domOf p = k ∧ d.runs f p = true ∧ d.rdB (ST_OP_PATCH_WAIT f p) = true ∧
      (d.pt f p).waitAt < d.time.nb then d.rd (ST_OP_PATCH_FREQ f p) else d.fidx f p := by
  have h := congrArg RaiseView.fidx (raiseView_completeRaises (f := f) p.isLt hk e)
  have hdue : (e.raiseView f k p).due = true ↔
      d.runs f p = true ∧ d.rdB (ST_OP_PATCH_WAIT f p) = true ∧ (d.pt f p).waitAt < d.time.nb := by
    rw [he, RaiseView.due_iff, Dev.runs, decide_eq_true_iff]
    simp [Dev.raiseView, hl]
  refine h.trans ?_
  by_cases hp : domOf p = k
  · rw [if_pos (mem_patchesOf hp), RaiseView.raised]
    by_cases hv : (e.raiseView f k p).due = true
    · rw [if_pos hv, if_pos ⟨hp, hdue.mp hv⟩, he]
      rfl
    · rw [if_neg hv, if_neg fun h => hv (hdue.mpr h.2), he]
      rfl
  · have hmem : p.val ∉ patchesOf k := fun h => hp (of_decide_eq_true (List.mem_filter.mp h).2)
    rw [if_neg hmem, if_neg fun h => hp h.1, he]
    rfl

/-! Parts of a bare device. -/

theorem bare_pat (d : Dev) : d.bare.pat = d.pat := rfl
theorem bare_nv (d : Dev) : d.bare.nv = d.nv := rfl
theorem bare_ev (d : Dev) : d.bare.ev = d.ev := rfl
theorem bare_led (d : Dev) : d.bare.led = d.led := rfl

/-! Retirement (R399, R400). -/

/-- R399: what the writing of RETIRE leaves of a patch: one that runs keeps its state until the boundary. -/
def retireState (f p : Nat) (d : Dev) : Dev :=
  onlyIf (!d.runs f p) (fun d => (stopClock psStopped f p d).wr (ST_OP_PATCH_STATE f p) psRetired) d

/-- R399, R400: the marks of a retirement, and its report. -/
def retireMarks (f p : Nat) (d : Dev) : Dev :=
  let d := countRec f 6 (margDirty (d.wrB (ST_OP_PATCH_RETIRE f p) true))
  let d := (d.wrB (JZ_RET f p) true).wr JZ_AGE_STATUS_RSEQ ((d.rd JZ_AGE_STATUS_RSEQ + 1) % 65536)
  (d.wr JZ_AGE_STATUS_RETIRED (sumN ((List.range 96).map fun g => (d.retiredOf g).length))).raise .selftest 6 f p

theorem retirePatch_eq {f p : Nat} {d : Dev} (h : d.retired f p = false) : retirePatch f p d =
    if ((retireMarks f p (retireState f p d)).fd f).up = true ∧ ((retireMarks f p (retireState f p d)).fd f).stop = .none ∧
        (retireMarks f p (retireState f p d)).rd BT_CFG1_FIELD_RETIRE_MAX < ((retireMarks f p (retireState f p d)).retiredOf f).length
      then (stopField .retired f (retireMarks f p (retireState f p d))).raise .selftest 2 f 0 else retireMarks f p (retireState f p d) := by
  have hno : ¬ d.retired f p = true := by rw [h]; decide
  rw [retirePatch, if_neg hno, retireMarks, retireState]

section
variable {f p : Nat}

theorem margDirty_rd (d : Dev) (x : Fld) : (margDirty d).rd x = d.rd x := rfl
theorem countRec_rd (f k : Nat) (d : Dev) (x : Fld) : (countRec f k d).rd x = d.rd x := rfl
theorem bare_margDirty (d : Dev) : (margDirty d).bare = margDirty d.bare := rfl
theorem bare_countRec (f k : Nat) (d : Dev) : (countRec f k d).bare = countRec f k d.bare := rfl

theorem rd_retireMarks {x : Fld} (h1 : x.apart (ST_OP_PATCH_RETIRE f p)) (h2 : x.apart (JZ_RET f p)) (h3 : x.apart JZ_AGE_STATUS_RSEQ)
    (h4 : x.apart JZ_AGE_STATUS_RETIRED) (d : Dev) : (retireMarks f p d).rd x = d.rd x := by
  rw [retireMarks, Dev.raise_rd, rd_wr_apart _ h4, rd_wr_apart _ h3, rd_wrB_apart _ h2, countRec_rd, margDirty_rd, rd_wrB_apart _ h1]

theorem bare_retireMarks (d : Dev) : (retireMarks f p d).bare = (countRec f 6 (margDirty d.bare)).raise .selftest 6 f p := by
  simp -implicitDefEqProofs only [retireMarks, bare_raise, bare_wr, bare_wrB, bare_countRec, bare_margDirty]

theorem sansStops_retireState (d : Dev) : (retireState f p d).sansStops = d.sansStops :=
  onlyIf_keep Dev.sansStops _ _ (fun e => (sansStops_of_bare (bare_wr _ _ _)).trans (sansStops_stopClock _ _ _ e)) d

theorem rd_retireState {x : Fld} (h : ∀ y ∈ stopRegs f p, x.apart y) (d : Dev) : (retireState f p d).rd x = d.rd x :=
  rd_onlyIf ((rd_wr_apart _ (h _ (by simp [stopRegs]))).trans (rd_stopClock h d))

theorem pstate_retireState (d : Dev) : (retireState f p d).pstate f p = if d.runs f p = true then d.pstate f p else psRetired := by
  unfold retireState onlyIf
  cases h : d.runs f p
  · exact (rd_wr_eq _ (by simp [Fld.fits, ST_OP_PATCH_STATE])).trans rfl
  · rfl

theorem bare_retire {d e : Dev} (h : e.sansStops = d.sansStops) : (retireMarks f p e).bare = Dev.bare
    { d with pat := (retireMarks f p e).pat, nv := (retireMarks f p e).nv, ev := (retireMarks f p e).ev,
             led := { d.led with marks := (retireMarks f p e).led.marks },
             fc := { d.fc with raised := d.fc.raised ++ [d.report .selftest 6 f p] } } := by
  have hb := bare_retireMarks (f := f) (p := p) e
  have hpat := bare_pat (retireMarks f p e)
  have hnv := bare_nv (retireMarks f p e)
  have hev := bare_ev (retireMarks f p e)
  have hled := bare_led (retireMarks f p e)
  rw [← hpat, ← hnv, ← hev, ← hled, hb, bare_of_sansStops h]
  rfl

/-- R401: a retirement adds at most the patch to the field's retired ones. -/
theorem length_retiredOf_retireMarks {d e : Dev} (h : ∀ q < 36, q ≠ p → e.rd (JZ_RET f q) = d.rd (JZ_RET f q)) :
    (e.retiredOf f).length ≤ (d.retiredOf f).length + 1 := by
  have hsub : e.retiredOf f ⊆ p :: d.retiredOf f := by
    intro q hq
    obtain ⟨hr, hb⟩ := List.mem_filter.mp hq
    by_cases hqp : q = p
    · rw [hqp]
      exact List.mem_cons_self
    · refine List.mem_cons_of_mem _ (List.mem_filter.mpr ⟨hr, ?_⟩)
      rwa [Dev.bit, h q (List.mem_range.mp hr) hqp] at hb
  have hnd : (e.retiredOf f).Nodup := List.nodup_range.filter _
  exact List.Nodup.length_le_of_subset hnd hsub

/-- Registers outside the stewards' windows are not written by a clock's stop. -/
theorem apart_stopRegs {x : Fld} (h : x.addr < 0x30000000) : ∀ y ∈ stopRegs f p, x.apart y := by
  intro y hy
  refine .inl ?_
  simp only [stopRegs, List.mem_cons, List.not_mem_nil, or_false] at hy
  rcases hy with rfl | rfl | rfl | rfl | rfl <;>
    simp only [ST_OP_PATCH_STATE, PS_STATUS_CLK_ON, PS_STATUS_DD_ARMED, PS_STATUS_STRETCH, ST_OP_PATCH_WAIT, psBase, stBase] <;> omega

theorem retire_retireMarks (hf : f < 96) (d : Dev) : (retireMarks f p d).rdB (ST_OP_PATCH_RETIRE f p) = true := by
  rw [retireMarks, Dev.raise_rdB, Dev.rdB, rd_wr_apart _ (.inl ?_), rd_wr_apart _ (.inl ?_), rd_wrB_apart _ (.inl ?_), countRec_rd, margDirty_rd]
  · exact rdB_wrB_eq true ⟨rfl, by simp [Fld.fits, ST_OP_PATCH_RETIRE]⟩
  · simp only [ST_OP_PATCH_RETIRE, JZ_RET, stBase]
    omega
  · simp only [ST_OP_PATCH_RETIRE, JZ_AGE_STATUS_RSEQ, stBase]
    omega
  · simp only [ST_OP_PATCH_RETIRE, JZ_AGE_STATUS_RETIRED, stBase]
    omega

theorem ret_retireMarks (d : Dev) : (retireMarks f p d).rdB (JZ_RET f p) = true := by
  rw [retireMarks, Dev.raise_rdB, Dev.rdB, rd_wr_apart _ (.inl ?_), rd_wr_apart _ (.inl ?_)]
  · have hlo : p % 32 < 32 := Nat.mod_lt _ (by decide)
    exact rdB_wrB_eq true ⟨rfl, by simp only [Fld.fits, JZ_RET]; omega⟩
  · simp only [JZ_RET, JZ_AGE_STATUS_RSEQ]
    omega
  · simp only [JZ_RET, JZ_AGE_STATUS_RETIRED]
    omega

theorem rseq_retireMarks (d : Dev) : (retireMarks f p d).rd JZ_AGE_STATUS_RSEQ = (d.rd JZ_AGE_STATUS_RSEQ + 1) % 65536 := by
  have hreq : JZ_AGE_STATUS_RSEQ.apart (ST_OP_PATCH_RETIRE f p) := .inl (by simp only [ST_OP_PATCH_RETIRE, JZ_AGE_STATUS_RSEQ, stBase]; omega)
  rw [retireMarks, Dev.raise_rd, rd_wr_apart _ (by simp [Fld.apart, JZ_AGE_STATUS_RSEQ, JZ_AGE_STATUS_RETIRED]),
    rd_wr_eq _ (by simp [Fld.fits, JZ_AGE_STATUS_RSEQ]), countRec_rd, margDirty_rd, rd_wrB_apart _ hreq]
  exact Nat.mod_eq_of_lt (Nat.mod_lt _ (by decide))

theorem fld_of_raised {d e : Dev} (h : d.bare = (countRec f 6 (margDirty e.bare)).raise .selftest 6 f p) : d.fld = e.fld := by
  change d.bare.fld = _
  rw [h]
  rfl

/-- A retirement leaves the steward's stop and its coming up. -/
theorem fd_retire (d : Dev) : (retireMarks f p (retireState f p d)).fd f = d.fd f := by
  rw [Dev.fd, fld_of_raised (bare_retireMarks _), fld_of_sansStops (sansStops_retireState d), Dev.fd]

/-- A retirement leaves the bits of the retired map of the field's other patches. -/
theorem ret_retire_ne {q : Nat} (hf : f < 96) (hp : p < 36) (hq : q < 36) (h : q ≠ p) (d : Dev) :
    (retireMarks f p (retireState f p d)).rd (JZ_RET f q) = d.rd (JZ_RET f q) := by
  rw [rd_retireMarks, rd_retireState (apart_stopRegs (by simp only [JZ_RET]; omega))]
  · refine .inl ?_
    simp only [JZ_RET, ST_OP_PATCH_RETIRE, stBase]
    omega
  · by_cases hw : q / 32 = p / 32
    · have hne : q % 32 ≠ p % 32 := by omega
      simp only [Fld.apart, JZ_RET]
      omega
    · refine .inl ?_
      simp only [JZ_RET]
      omega
  · refine .inl ?_
    simp only [JZ_RET, JZ_AGE_STATUS_RSEQ]
    omega
  · refine .inl ?_
    simp only [JZ_RET, JZ_AGE_STATUS_RETIRED]
    omega

/-- R401: while the field's retired patches stay within FIELD_RETIRE_MAX, or the field is not in service, a retirement stops nothing. -/
theorem retirePatch_stays {d : Dev} (hf : f < 96) (hp : p < 36) (h : d.retired f p = false)
    (hsv : d.inService f = false ∨ (d.retiredOf f).length < d.rd BT_CFG1_FIELD_RETIRE_MAX) :
    retirePatch f p d = retireMarks f p (retireState f p d) := by
  have hmax : (retireMarks f p (retireState f p d)).rd BT_CFG1_FIELD_RETIRE_MAX = d.rd BT_CFG1_FIELD_RETIRE_MAX := by
    rw [rd_retireMarks, rd_retireState (apart_stopRegs (by simp only [BT_CFG1_FIELD_RETIRE_MAX]; omega))]
    · refine .inl ?_
      simp only [BT_CFG1_FIELD_RETIRE_MAX, ST_OP_PATCH_RETIRE, stBase]
      omega
    · refine .inl ?_
      simp only [BT_CFG1_FIELD_RETIRE_MAX, JZ_RET]
      omega
    · exact .inl (by simp [BT_CFG1_FIELD_RETIRE_MAX, JZ_AGE_STATUS_RSEQ])
    · exact .inl (by simp [BT_CFG1_FIELD_RETIRE_MAX, JZ_AGE_STATUS_RETIRED])
  rw [retirePatch_eq h, fd_retire, hmax]
  refine if_neg ?_
  rintro ⟨hup, hstop, hlen⟩
  rcases hsv with hsv | hsv
  · rw [Dev.inService, hup, hstop] at hsv
    exact absurd hsv (by decide)
  · have := length_retiredOf_retireMarks (f := f) (p := p) (d := d) fun q hq hne => ret_retire_ne hf hp hq hne d
    omega

end

/-- The registers that the raise of a patch writes. -/
def raiseRegs (f p : Nat) : List Fld := [ST_OP_PATCH_FIDX f p, ST_OP_PATCH_WAIT f p, floorsReg f p]

theorem rd_completeRaises {f k : Nat} {x : Fld} (h : ∀ p < 36, ∀ y ∈ raiseRegs f p, x.apart y) (d : Dev) :
    (forL (patchesOf k) (completeRaise f k) d).rd x = d.rd x := by
  refine forL_keep_mem (fun e => e.rd x) (fun p hp e => ?_) d
  have hx := h p (lt_of_mem_patchesOf hp)
  rw [completeRaise_eq]
  split
  · exact rd_raised (hx _ (by simp [raiseRegs])) (hx _ (by simp [raiseRegs])) (hx _ (by simp [raiseRegs])) e
  · rfl

/-- The links' registers and those of other blocks are not written by raises. -/
theorem apart_raiseRegs {f p : Nat} {x : Fld} (hp : p < 36) (h : x.addr < stBase f + 0x400 ∨ stBase f + 0x800 ≤ x.addr ∧ x.addr < stBase f + 0x40000 ∨
    stBase f + 0x100000 ≤ x.addr) : ∀ y ∈ raiseRegs f p, x.apart y := by
  intro y hy
  simp only [raiseRegs, List.mem_cons, List.not_mem_nil, or_false] at hy
  rcases hy with rfl | rfl | rfl
  · exact .inl (by simp only [ST_OP_PATCH_FIDX]; omega)
  · exact .inl (by simp only [ST_OP_PATCH_WAIT]; omega)
  · exact .inl (by simp only [floorsReg, psBase]; omega)

/-- The end of a slew leaves what the raises of a patch depend on, but for the slew. -/
theorem raiseView_slewEnded {f k p : Nat} (hk : k < 4) (hp : p < 36) (d : Dev) :
    (d.slewEnded f k).raiseView f k p = { d.raiseView f k p with met := true } := by
  have hrd {x : Fld} (hx : x.addr = stBase f + 0x400 + p * 4) : (d.slewEnded f k).rd x = d.rd x := by
    refine rd_slewEnded (.inl ?_) (fun q hq => .inl ?_) d
    · simp only [ST_LINK_DOWN_VREF]
      omega
    · simp only [floorsReg, psBase]
      omega
  have hlink : (d.slewEnded f k).link f k = d.link f k := by
    refine rd_slewEnded (.inl ?_) (fun q hq => .inl ?_) d
    · simp [ST_LINK_STATUS_STATE, ST_LINK_DOWN_VREF]
    · simp only [ST_LINK_STATUS_STATE, floorsReg, psBase]
      omega
  have hbare : (d.slewEnded f k).bare = (d.updDm f k fun x => { x with slew := none, bandVid := d.vidOf f k }).bare := by rw [bare_slewEnded, bare_updDm]
  rw [Dev.raiseView, Dev.fidx, hrd rfl, hrd (x := ST_OP_PATCH_FREQ f p) rfl, Dev.pstate, hrd rfl, Dev.rdB, hrd rfl, hlink, pt_of_bare hbare,
    time_of_bare hbare, targetMet_of_no_slew (by rw [dm_slewEnded])]
  rfl

/-! Starts (R66, R111). -/

/-- R111: the device of a patch clock that starts, before its detectors are armed. -/
def Dev.clockStarted (d : Dev) (f p : Nat) : Dev :=
  ((((d.updPt f p fun x => { x with starting := none }).wr (ST_OP_PATCH_STATE f p) psRunning).wr (ST_OP_PATCH_FIDX f p) 0).wrB
    (PS_STATUS_CLK_ON f p) true).updPt f p fun x => { x with ran := true }

/-- R111: a patch clock that starts, at index 0. -/
theorem patchClockStart_due {f p : Nat} {d : Dev} (ha : (d.pt f p).asked d.time.nb = true) (hm : d.mayStart f p = true)
    (hr : d.rdB TB_STATUS_STOPPED = false) (hrail : (d.dm f (domOf p)).railAt = none) (ht : d.targetMet f (domOf p) = true)
    (hv : d.vmin f p 0 + d.guard f p ≤ d.rd (ST_LINK_DOWN_VREF f (domOf p))) :
    patchClockStart f p d = setFloors f p (armDetectors f p (d.clockStarted f p)) := by
  have hgo : ((d.pt f p).asked d.time.nb && d.mayStart f p && !d.stopped && (d.dm f (domOf p)).railAt.isNone && d.targetMet f (domOf p)
      && decide (d.vmin f p 0 + d.guard f p ≤ d.rd (ST_LINK_DOWN_VREF f (domOf p)))) = true := by
    simp [ha, hm, Dev.stopped, hr, hrail, ht, hv]
  rw [patchClockStart, if_pos hgo]
  rfl

section
variable {f p : Nat}

theorem rd_clockStarted {x : Fld} (hs : x.apart (ST_OP_PATCH_STATE f p)) (hi : x.apart (ST_OP_PATCH_FIDX f p)) (hc : x.apart (PS_STATUS_CLK_ON f p))
    (d : Dev) : (d.clockStarted f p).rd x = d.rd x := by
  rw [Dev.clockStarted, Dev.updPt_rd, rd_wrB_apart _ hc, rd_wr_apart _ hi, rd_wr_apart _ hs, Dev.updPt_rd]

theorem bare_clockStarted (d : Dev) : (d.clockStarted f p).bare =
    (d.bare.updPt f p fun x => { x with starting := none }).updPt f p fun x => { x with ran := true } := by
  rw [Dev.clockStarted, bare_updPt, bare_wrB, bare_wr, bare_wr, bare_updPt]

theorem starting_clockStarted (d : Dev) : ((d.clockStarted f p).pt f p).starting = none := by
  rw [Dev.clockStarted, pt_updPt, Dev.wrB_pt, Dev.wr_pt, Dev.wr_pt, pt_updPt]

theorem patchesMove_clockStarted (d : Dev) : d.PatchesMove (d.clockStarted f p) := by
  have hp := bare_pat (d.clockStarted f p)
  rw [Dev.PatchesMove, ← hp, bare_clockStarted]
  rfl

theorem pstate_clockStarted (d : Dev) : (d.clockStarted f p).pstate f p = psRunning := by
  have hne : stBase f + 0x400 + p * 4 ≠ psBase f p := by
    simp only [psBase, stBase]
    omega
  rw [Dev.pstate, Dev.clockStarted, Dev.updPt_rd, rd_wrB_apart _ (.inl hne),
    rd_wr_apart _ (by simp [Fld.apart, ST_OP_PATCH_STATE, ST_OP_PATCH_FIDX]), rd_wr_eq _ (by simp [Fld.fits, ST_OP_PATCH_STATE])]
  rfl

theorem fidx_clockStarted (d : Dev) : (d.clockStarted f p).fidx f p = 0 := by
  have hne : stBase f + 0x400 + p * 4 ≠ psBase f p := by
    simp only [psBase, stBase]
    omega
  rw [Dev.fidx, Dev.clockStarted, Dev.updPt_rd, rd_wrB_apart _ (.inl hne), rd_wr_eq _ (by simp [Fld.fits, ST_OP_PATCH_FIDX])]
  rfl

theorem clkOn_clockStarted (d : Dev) : (d.clockStarted f p).rdB (PS_STATUS_CLK_ON f p) = true := by
  rw [Dev.clockStarted, Dev.updPt_rdB]
  exact rdB_wrB_eq true ⟨rfl, by simp [Fld.fits, PS_STATUS_CLK_ON]⟩

theorem rd_armDetectors {x : Fld} (h : x.apart (PS_STATUS_DD_ARMED f p)) (d : Dev) : (armDetectors f p d).rd x = d.rd x := rd_wrB_apart _ h

theorem bare_armDetectors (d : Dev) : (armDetectors f p d).bare = d.bare := bare_wrB _ _ _

theorem armed_armDetectors (d : Dev) : (armDetectors f p d).rdB (PS_STATUS_DD_ARMED f p) =
    (d.runs f p && d.rd (ST_LINK_DOWN_MODE f (domOf p)) ≠ modeRetention && d.rd (ST_LINK_DOWN_MODE f (domOf p)) ≠ modeOff &&
      (d.dm f (domOf p)).railAt.isNone) := rdB_wrB_eq _ ⟨rfl, by simp [Fld.fits, PS_STATUS_DD_ARMED]⟩

end

theorem domOf_lt (p : Nat) : domOf p < 4 := by
  rw [domOf]
  split <;> split <;> omega

/-- Settles O19. -/
theorem raisesMarginsAndRetirement : Obligations.RaisesMarginsAndRetirement := by
  unfold Obligations.RaisesMarginsAndRetirement
  refine ⟨fun s f k x hs hr hx hd hl hkn => ?_, fun s f k hs hr hx hl => ?_, fun s f k hs hr => ?_, fun s f p hs ha hm hr hrail ht hv => ?_,
    fun s f p v hs h => ?_, fun s f p v hs hl hv => ?_, fun s f p hs h => ?_, fun s f p hs hc hr => ?_, fun s f k m hs hm => ?_,
    fun s f k m hs hm => ?_, fun s f p hs hret hsv => ?_, fun s f p hs hret => ?_⟩
  · have hg : raiseComplete f k s.dev = forL (patchesOf k) (completeRaise f k) (s.dev.slewEnded f k) := by
      rw [raiseComplete, Dev.stopped, hr, completeSlew, endSlew_known hx hd hl hkn]
      rfl
    have hmove := patchesMove_forL (patchesOf k) (fun p e => patchesMove_completeRaise (f := f) (p := p) k e) (s.dev.slewEnded f k)
    refine completes_eq rfl hs hg ⟨?_, ?_, fun p => ?_, within_bare ?_ fun x hx => ?_⟩
    · rw [dm_settle, dm_of_patchesMove hmove, dm_slewEnded]
    · rw [rd_settle (apart_alert (by simp only [ST_LINK_DOWN_VREF, stBase]; omega)),
        rd_completeRaises fun p hp => apart_raiseRegs hp (.inr (.inl (by simp only [ST_LINK_DOWN_VREF]; omega))), vref_slewEnded k.isLt]
    · exact (rd_settle (apart_alert (by simp only [ST_OP_PATCH_FIDX, stBase]; omega))).trans
        (fidx_completeRaises k.isLt hl (raiseView_slewEnded k.isLt p.isLt _))
    · rw [settle_dom, settle_pat, hmove, dom_of_patchesMove hmove, bare_slewEnded, dom_slewEnded]
      rfl
    · have hout : x.addr < stBase f + 0x400 ∨ stBase f + 0x100000 ≤ x.addr := by
        simp only [stBase] at hx ⊢
        omega
      rw [rd_completeRaises fun p hp => apart_raiseRegs hp (by omega), rd_slewEnded (.inl ?_) fun p hp => .inl ?_]
      · simp only [stBase] at hx
        simp only [ST_LINK_DOWN_VREF, stBase]
        omega
      · simp only [stBase] at hx
        simp only [floorsReg, psBase, stBase]
        omega
  · have hg : raiseComplete f k s.dev = forL (patchesOf k) (completeRaise f k) s.dev := by
      rw [raiseComplete, Dev.stopped, hr, completeSlew, endSlew_none hx]
      rfl
    have hmove := patchesMove_forL (patchesOf k) (fun p e => patchesMove_completeRaise (f := f) (p := p) k e) s.dev
    refine completes_eq rfl hs hg ⟨?_, fun p => ?_, within_bare ?_ fun x hx => ?_⟩
    · rw [rd_settle (apart_alert (by simp only [ST_LINK_DOWN_VREF, stBase]; omega)),
        rd_completeRaises fun p hp => apart_raiseRegs hp (.inr (.inl (by simp only [ST_LINK_DOWN_VREF]; omega)))]
    · refine (rd_settle (apart_alert (by simp only [ST_OP_PATCH_FIDX, stBase]; omega))).trans (fidx_completeRaises k.isLt hl ?_)
      rw [Dev.raiseView, targetMet_of_no_slew hx]
    · rw [settle_pat, hmove]
      rfl
    · refine rd_completeRaises (fun p hp => apart_raiseRegs hp ?_) _
      simp only [stBase] at hx ⊢
      omega
  · refine completes_unchanged rfl hs ?_
    rw [raiseComplete, Dev.stopped, hr]
    rfl
  · refine completes_eq rfl hs (patchClockStart_due ha hm hr hrail ht hv) ⟨?_, ?_, ?_, ?_, ?_, changes_bare ?_ fun x hx => ?_⟩
    · rw [Dev.pstate, rd_settle (apart_alert (by simp only [ST_OP_PATCH_STATE, stBase]; omega)), rd_setFloors (.inl ?_), rd_armDetectors (.inl ?_)]
      · exact pstate_clockStarted _
      · simp only [ST_OP_PATCH_STATE, PS_STATUS_DD_ARMED, psBase, stBase]
        omega
      · simp only [ST_OP_PATCH_STATE, floorsReg, psBase, stBase]
        omega
    · rw [Dev.fidx, rd_settle (apart_alert (by simp only [ST_OP_PATCH_FIDX, stBase]; omega)), rd_setFloors (.inl ?_), rd_armDetectors (.inl ?_)]
      · exact fidx_clockStarted _
      · simp only [ST_OP_PATCH_FIDX, PS_STATUS_DD_ARMED, psBase, stBase]
        omega
      · simp only [ST_OP_PATCH_FIDX, floorsReg, psBase, stBase]
        omega
    · rw [Dev.rdB, rd_settle (apart_alert (by simp only [PS_STATUS_CLK_ON, psBase, stBase]; omega)),
        rd_setFloors (.inl (by simp [PS_STATUS_CLK_ON, floorsReg])), rd_armDetectors (by simp [Fld.apart, PS_STATUS_CLK_ON, PS_STATUS_DD_ARMED])]
      exact clkOn_clockStarted _
    · rw [pt_settle, pt_of_bare (bare_setFloors _), pt_of_bare (bare_armDetectors _), starting_clockStarted]
    · have hmode : (s.dev.clockStarted f p).rd (ST_LINK_DOWN_MODE f (domOf p)) = s.dev.rd (ST_LINK_DOWN_MODE f (domOf p)) := by
        have hk := domOf_lt p
        refine rd_clockStarted (.inl ?_) (.inl ?_) (.inl ?_) _
        · simp only [ST_LINK_DOWN_MODE, ST_OP_PATCH_STATE]
          omega
        · simp only [ST_LINK_DOWN_MODE, ST_OP_PATCH_FIDX]
          omega
        · simp only [ST_LINK_DOWN_MODE, PS_STATUS_CLK_ON, psBase]
          omega
      rw [Dev.rdB, rd_settle (apart_alert (by simp only [PS_STATUS_DD_ARMED, psBase, stBase]; omega)),
        rd_setFloors (.inl (by simp [PS_STATUS_DD_ARMED, floorsReg]))]
      refine (armed_armDetectors _).trans ?_
      rw [Dev.runs, pstate_clockStarted, hmode, dm_of_patchesMove (patchesMove_clockStarted _), hrail]
      simp
    · rw [settle_pat, bare_setFloors, bare_armDetectors]
      have hpat := bare_pat (s.dev.clockStarted f p)
      rw [pat_of_bare (bare_setFloors _), pat_of_bare (bare_armDetectors _)]
      exact patchesMove_clockStarted _
    · rw [rd_setFloors (hx _ (by simp [floorsReg])), rd_armDetectors (hx _ (by simp)),
        rd_clockStarted (hx _ (by simp)) (hx _ (by simp)) (hx _ (by simp))]
  · have hno : ¬ s.dev.mofsRefused f p v.toNat = true := by
      rcases h with h | h
      · simp [Dev.mofsRefused, h]
      · simp [Dev.mofsRefused, Nat.not_lt.mpr h]
    refine completes_eq rfl hs (if_neg hno) ⟨?_, changes_bare (bare_wr _ _ _) fun x hx => rd_wr_apart _ (hx _ (by simp))⟩
    have := v.isLt
    rw [rd_settle (apart_alert (by simp only [ST_OP_PATCH_MOFS, stBase]; omega)), rd_wr_eq _ (by simp [Fld.fits, ST_OP_PATCH_MOFS])]
    exact Nat.mod_eq_of_lt this
  · have hyes : s.dev.mofsRefused f p v.toNat = true := by simp [Dev.mofsRefused, hl, hv]
    exact completes_conflict rfl hs (if_pos hyes) ⟨rfl, by simp [Fld.fits, ST_OP_STATUS_STATE_CONFLICT]⟩ (apart_alert (stBase_le f _))
  · by_cases hne : (s.dev.pt f p).mofs ≠ s.dev.rd (ST_OP_PATCH_MOFS f p)
    · refine completes_eq rfl hs (if_pos ⟨h, hne⟩) ⟨?_, changes_bare ?_ fun x _ => rfl⟩
      · rw [pt_settle, pt_updPt]
      · rw [settle_pat]
        rfl
    · refine completes_eq rfl hs (if_neg fun h => hne h.2) ⟨?_, changes_bare ?_ fun x _ => rfl⟩
      · rw [pt_settle]
        exact Decidable.not_not.mp hne
      · rw [settle_pat]
  · refine completes_unchanged rfl hs (if_neg ?_)
    rintro ⟨h | h, -⟩
    · exact hc h
    · rw [hr] at h
      exact absurd h (by decide)
  · have hm' : m.toNat ≠ 1 := fun h => hm (BitVec.eq_of_toNat_eq h)
    have hlt := m.isLt
    refine completes_eq rfl hs (if_neg hm') ⟨?_, changes_bare (bare_wr _ _ _) fun x hx => rd_wr_apart _ (hx _ (by simp))⟩
    rw [rd_settle (apart_alert (by simp only [ST_LINK_CMD_MODE_REQ, stBase]; omega)), rd_wr_eq _ (by simp [Fld.fits, ST_LINK_CMD_MODE_REQ])]
    exact Nat.mod_eq_of_lt hlt
  · exact completes_conflict rfl hs (if_pos (by rw [hm]; rfl)) ⟨rfl, by simp [Fld.fits, ST_OP_STATUS_STATE_CONFLICT]⟩ (apart_alert (stBase_le f _))
  · have hg := retirePatch_stays f.isLt p.isLt hret hsv
    refine completes_eq rfl hs hg ⟨?_, ?_, ?_, ?_, ?_, changes_bare ?_ fun x hx => ?_⟩
    · rw [Dev.pstate, rd_settle (apart_alert (by simp only [ST_OP_PATCH_STATE, stBase]; omega)), rd_retireMarks]
      · exact pstate_retireState _
      · simp [Fld.apart, ST_OP_PATCH_STATE, ST_OP_PATCH_RETIRE]
      · refine .inl ?_
        simp only [ST_OP_PATCH_STATE, JZ_RET, stBase]
        omega
      · exact .inl (by simp only [ST_OP_PATCH_STATE, JZ_AGE_STATUS_RSEQ, stBase]; omega)
      · exact .inl (by simp only [ST_OP_PATCH_STATE, JZ_AGE_STATUS_RETIRED, stBase]; omega)
    · rw [Dev.rdB, rd_settle (apart_alert (by simp only [ST_OP_PATCH_RETIRE, stBase]; omega))]
      exact retire_retireMarks f.isLt _
    · rw [Dev.rdB, rd_settle (.inl (by simp only [JZ_RET, PM_STATUS_ALERT]; omega))]
      exact ret_retireMarks _
    · rw [rd_settle (.inl (by simp [JZ_AGE_STATUS_RSEQ, PM_STATUS_ALERT])), rseq_retireMarks,
        rd_retireState (apart_stopRegs (by simp [JZ_AGE_STATUS_RSEQ]))]
    · rw [fd_settle, fd_retire]
    · rw [settle_pat, settle_nv, settle_ev, settle_led]
      exact bare_retire (sansStops_retireState _)
    · have hstop : ∀ y ∈ stopRegs f p, x.apart y := by
        intro y hy
        refine hx y ?_
        simp only [stopRegs, List.mem_cons, List.not_mem_nil, or_false] at hy
        rcases hy with rfl | rfl | rfl | rfl | rfl <;> simp
      rw [rd_retireMarks (hx _ (by simp)) (hx _ (by simp)) (hx _ (by simp)) (hx _ (by simp)), rd_retireState hstop]
  · exact completes_unchanged rfl hs (if_pos hret)

end Sys2Proof.Machine
end

section
/-! The flash, its header and its sessions (R324, R335, R339): what each writing of the flash leaves and what it writes. -/

namespace Sys2Proof.Machine

/-! The flash. -/

section
variable {a n : Nat} {bs : List Nat}

/-- A device with a flash. -/
def Dev.setFlash (x : Tab Byte) (d : Dev) : Dev := d.updNv fun y => { y with flash := x }

@[simp] theorem setFlash_rd (x : Tab Byte) (d : Dev) (y : Fld) : (d.setFlash x).rd y = d.rd y := rfl
@[simp] theorem setFlash_time (x : Tab Byte) (d : Dev) : (d.setFlash x).time = d.time := rfl
@[simp] theorem bare_setFlash (x : Tab Byte) (d : Dev) : (d.setFlash x).bare = d.bare.setFlash x := rfl

/-- Programming writes the flash alone. -/
theorem nvProg_eq (a : Nat) (bs : List Nat) (d : Dev) : nvProg a bs d = d.setFlash (nvProg a bs d).nv.flash := by
  induction bs generalizing a d with
  | nil => rfl
  | cons b bs ih =>
    rw [nvProg, ih]
    rfl

theorem nvErase_eq (a n : Nat) (d : Dev) : nvErase a n d = d.setFlash (nvErase a n d).nv.flash := rfl

@[simp] theorem rd_nvProg (d : Dev) (x : Fld) : (nvProg a bs d).rd x = d.rd x := by
  rw [nvProg_eq]
  rfl

@[simp] theorem rd_nvErase (d : Dev) (x : Fld) : (nvErase a n d).rd x = d.rd x := rfl

theorem nvByte_lt (d : Dev) (x : Nat) : d.nvByte x < 256 := BitVec.isLt _

/-- A byte of the flash depends on the flash alone. -/
theorem nvByte_of_flash {d e : Dev} (h : d.nv.flash = e.nv.flash) (x : Nat) : d.nvByte x = e.nvByte x := by
  rw [Dev.nvByte, h, Dev.nvByte]

theorem nvBytes_of_nvByte {d e : Dev} {k : Nat} (h : ∀ x, a ≤ x → x < a + k → d.nvByte x = e.nvByte x) : d.nvBytes a k = e.nvBytes a k :=
  List.map_congr_left fun i hi => h _ (Nat.le_add_right _ _) (by
    have := List.mem_range.mp hi
    omega)

/-- A byte of the flash after one is programmed. -/
theorem nvByte_prog (b : Nat) (d : Dev) (x : Nat) :
    (d.updNv fun y => { y with flash := tput 0xFF a (BitVec.ofNat 8 (d.nvByte a &&& b)) y.flash }).nvByte x =
      if x = a then d.nvByte a &&& b else d.nvByte x := by
  split
  next h =>
    rw [h, Dev.nvByte, Dev.updNv, tget_tput_same, BitVec.toNat_ofNat]
    exact Nat.mod_eq_of_lt (Nat.lt_of_le_of_lt Nat.and_le_left (nvByte_lt d a))
  next h => rw [Dev.nvByte, Dev.updNv, tget_tput_ne _ _ _ h, Dev.nvByte]

theorem nvByte_nvProg_out {x : Nat} (h : x < a ∨ a + bs.length ≤ x) (d : Dev) : (nvProg a bs d).nvByte x = d.nvByte x := by
  induction bs generalizing a d with
  | nil => rfl
  | cons b bs ih =>
    rw [List.length_cons] at h
    rw [nvProg, ih (by omega), nvByte_prog, if_neg (by omega)]

/-- Programming only clears bits (R324). -/
theorem nvByte_nvProg_in {j : Nat} (h : j < bs.length) (d : Dev) : (nvProg a bs d).nvByte (a + j) = d.nvByte (a + j) &&& bs.getD j 0 := by
  induction bs generalizing a d j with
  | nil => simp at h
  | cons b bs ih =>
    rw [nvProg]
    cases j with
    | zero =>
      rw [nvByte_nvProg_out (by omega), nvByte_prog, if_pos (Nat.add_zero a)]
      rfl
    | succ j =>
      have hs : a + (j + 1) = a + 1 + j := by omega
      rw [hs, ih (by simpa using h), nvByte_prog, if_neg (by omega)]
      rfl

theorem tget_filter {α : Type} (dv : α) (p : Nat → Bool) (t : Tab α) (k : Nat) :
    tget dv (t.filter fun c => p c.1) k = if p k = true then tget dv t k else dv := by
  induction t with
  | nil => simp [tget]
  | cons c t ih =>
    obtain ⟨i, v⟩ := c
    by_cases hi : i = k
    · cases hp : p k <;> simp [tget, hi, hp, ih]
    · cases hp : p i <;> simp [tget, hi, hp, ih]

theorem nvByte_nvErase (d : Dev) (x : Nat) : (nvErase a n d).nvByte x = if a ≤ x ∧ x < a + n then 0xFF else d.nvByte x := by
  rw [Dev.nvByte, nvErase, Dev.updNv]
  dsimp only
  have hf := tget_filter (0xFF : Byte) (fun c => decide (c < a ∨ a + n ≤ c)) d.nv.flash x
  rw [hf]
  by_cases h : a ≤ x ∧ x < a + n
  · rw [if_pos h, if_neg (by simp only [decide_eq_true_eq]; omega)]
    rfl
  · rw [if_neg h, if_pos (by simp only [decide_eq_true_eq]; omega), Dev.nvByte]

end

theorem nv_of_bare {d e : Dev} (h : d.bare = e.bare) : d.nv = e.nv := by
  change d.bare.nv = e.bare.nv
  rw [h]

theorem nvByte_of_bare {d e : Dev} (h : d.bare = e.bare) (x : Nat) : d.nvByte x = e.nvByte x := by
  rw [Dev.nvByte, nv_of_bare h, Dev.nvByte]

theorem setFlash_setFlash (x y : Tab Byte) (d : Dev) : (d.setFlash x).setFlash y = d.setFlash y := rfl

theorem bare_nvProg (a : Nat) (bs : List Nat) (d : Dev) : (nvProg a bs d).bare = d.bare.setFlash (nvProg a bs d).nv.flash := by
  have h := congrArg Dev.bare (nvProg_eq a bs d)
  rwa [bare_setFlash] at h

theorem bare_nvErase (a n : Nat) (d : Dev) : (nvErase a n d).bare = d.bare.setFlash (nvErase a n d).nv.flash := rfl

/-! The header (R324). -/

theorem length_hdrBytes (h : Hdr) : (hdrBytes h).length = 64 := by
  simp only [hdrBytes, List.length_append, leBytes_length, List.length_replicate, List.length_cons, List.length_nil]

theorem hdrNow_copy {d : Dev} {c : Nat} {h : Hdr} (hc : d.hdrNow = some (c, h)) : c ≤ 1 := by
  unfold Dev.hdrNow at hc
  split at hc
  · split at hc <;> (cases hc; decide)
  · cases hc; decide
  · cases hc; decide
  · cases hc

/-- The fields that show the header (R339). -/
def hdrRegs : List Fld := [NV_SLOT_STATE_A, NV_SLOT_STATE_B, NV_SLOT_ACTIVE, NV_SLOT_ACTIVE_VALID, NV_SLOT_SECVER_A, NV_SLOT_SECVER_B]

theorem rd_showHdr {x : Fld} (hx : ∀ y ∈ hdrRegs, x.apart y) (h : Hdr) (d : Dev) : (showHdr h d).rd x = d.rd x := by
  simp only [hdrRegs, List.forall_mem_cons] at hx
  obtain ⟨h1, h2, h3, h4, h5, h6, -⟩ := hx
  rw [showHdr, rd_wr_apart _ h6, rd_wr_apart _ h5, rd_wrB_apart _ h4, rd_wr_apart _ h3, rd_wr_apart _ h2, rd_wr_apart _ h1]

theorem bare_showHdr (h : Hdr) (d : Dev) : (showHdr h d).bare = d.bare := by
  rw [showHdr, bare_wr, bare_wr, bare_wrB, bare_wr, bare_wr, bare_wr]

/-- The field that shows the state of a slot. -/
def slotState (b : Bool) : Fld := if b then NV_SLOT_STATE_B else NV_SLOT_STATE_A

theorem slotState_showHdr (b : Bool) (h : Hdr) (d : Dev) : (showHdr h d).rd (slotState b) = pick2 b h.st % 8 := by
  cases b
  · rw [showHdr, rd_wr_apart _ (by decide), rd_wr_apart _ (by decide), rd_wrB_apart _ (by decide), rd_wr_apart _ (by decide),
      rd_wr_apart _ (by decide)]
    exact rd_wr_eq _ (by decide)
  · rw [showHdr, rd_wr_apart _ (by decide), rd_wr_apart _ (by decide), rd_wrB_apart _ (by decide), rd_wr_apart _ (by decide)]
    exact rd_wr_eq _ (by decide)

/-- The copy that a header is written to, and its SEQ. -/
def Dev.hdrNext (d : Dev) : Nat × Nat := match d.hdrNow with | some (c, x) => (1 - c, x.seq + 1) | none => (0, 1)

theorem putHdr_eq (h : Hdr) (d : Dev) : putHdr h d = showHdr h (nvProg (d.hdrNext.1 * 0x1000)
    (hdrBytes { h with seq := d.hdrNext.2 % 2 ^ 32 }) (nvErase (d.hdrNext.1 * 0x1000) 0x1000 d)) := rfl

theorem hdrNext_le (d : Dev) : d.hdrNext.1 ≤ 1 := by
  unfold Dev.hdrNext
  split
  · exact Nat.sub_le _ _
  · exact Nat.zero_le _

section
variable (h : Hdr) (d : Dev)

theorem rd_putHdr {x : Fld} (hx : ∀ y ∈ hdrRegs, x.apart y) : (putHdr h d).rd x = d.rd x := by
  rw [putHdr_eq, rd_showHdr hx, rd_nvProg, rd_nvErase]

theorem slotState_putHdr (b : Bool) : (putHdr h d).rd (slotState b) = pick2 b h.st % 8 := by rw [putHdr_eq, slotState_showHdr]

/-- A header written changes the flash, and what shows the header. -/
theorem bare_putHdr : (putHdr h d).bare = d.bare.setFlash (putHdr h d).nv.flash := by
  have hb : (putHdr h d).bare = (nvProg (d.hdrNext.1 * 0x1000) (hdrBytes { h with seq := d.hdrNext.2 % 2 ^ 32 })
      (nvErase (d.hdrNext.1 * 0x1000) 0x1000 d)).bare := by rw [putHdr_eq, bare_showHdr]
  rw [nv_of_bare hb, hb, bare_nvProg, bare_nvErase, setFlash_setFlash]

/-- A header written leaves the flash beyond the two copies. -/
theorem nvByte_putHdr {x : Nat} (hx : 0x2000 ≤ x) : (putHdr h d).nvByte x = d.nvByte x := by
  have hle := hdrNext_le d
  rw [putHdr_eq, nvByte_of_bare (bare_showHdr _ _), nvByte_nvProg_out (by rw [length_hdrBytes]; omega), nvByte_nvErase, if_neg (by omega)]

end

/-! Sessions (R335, R339). -/

/-- The fields that show a session. -/
def xferRegs : List Fld := [NV_XFER_STATE, NV_XFER_PATH, NV_XFER_LEN_LENGTH, NV_XFER_NEXT_NEXT]

theorem rd_showXfer {x : Fld} (hx : ∀ y ∈ xferRegs, x.apart y) (d : Dev) : (showXfer d).rd x = d.rd x := by
  simp only [xferRegs, List.forall_mem_cons] at hx
  obtain ⟨h1, h2, h3, h4, -⟩ := hx
  unfold showXfer
  split
  · rw [rd_wr_apart _ h4, rd_wr_apart _ h3, rd_wrB_apart _ h2, rd_wr_apart _ h1]
  · rw [rd_wr_apart _ h1]

theorem rd_showXfer_none {x : Fld} {d : Dev} (h : d.nv.session = none) (hx : x.apart NV_XFER_STATE) : (showXfer d).rd x = d.rd x := by
  rw [showXfer, h]
  exact rd_wr_apart _ hx

theorem bare_showXfer (d : Dev) : (showXfer d).bare = d.bare := by
  unfold showXfer
  split
  · rw [bare_wr, bare_wr, bare_wrB, bare_wr]
  · rw [bare_wr]

theorem xferState_showXfer {d : Dev} (h : d.nv.session = none) : (showXfer d).rd NV_XFER_STATE = 0 := by
  rw [showXfer, h]
  exact rd_wr_eq _ (by decide)

theorem rd_xferResult {x : Fld} (h : x.apart NV_XFER_RESULT) (r : Nat) (d : Dev) : (xferResult r d).rd x = d.rd x := rd_wr_apart _ h

theorem bare_xferResult (r : Nat) (d : Dev) : (xferResult r d).bare = d.bare := bare_wr _ _ _

theorem result_xferResult {r : Nat} (h : r < 16) (d : Dev) : (xferResult r d).rd NV_XFER_RESULT = r :=
  (rd_wr_eq _ (by decide)).trans (Nat.mod_eq_of_lt h)

section
variable (d : Dev)

/-- The session of a device. -/
def Dev.setSession (x : Option Session) (d : Dev) : Dev := d.updNv fun y => { y with session := x }

@[simp] theorem setSession_rd (x : Option Session) (y : Fld) : (d.setSession x).rd y = d.rd y := rfl
@[simp] theorem bare_setSession (x : Option Session) : (d.setSession x).bare = d.bare.setSession x := rfl

/-- The fields that the opening and the end of a session write. -/
def sessionRegs : List Fld := NV_XFER_RESULT :: (hdrRegs ++ xferRegs)

theorem apart_sessionRegs {x : Fld} (h : ∀ y ∈ sessionRegs, x.apart y) :
    x.apart NV_XFER_RESULT ∧ (∀ y ∈ hdrRegs, x.apart y) ∧ ∀ y ∈ xferRegs, x.apart y := by
  rw [sessionRegs, List.forall_mem_cons, List.forall_mem_append] at h
  exact h

/-- What R335 makes the header of a slot that a session opens on. -/
def Dev.hdrOpened (d : Dev) (len : Nat) : Hdr :=
  { d.hdr with st := set2 d.inactive slWriting d.hdr.st, len := set2 d.inactive len d.hdr.len }

theorem openSession_eq (peer : Bool) (sender : Option Nat) (len : Nat) : openSession peer sender len d =
    showXfer (xferResult imOk ((putHdr (d.hdrOpened len) (nvErase (slotBase d.inactive) 0x800000 d)).setSession
      (some ⟨peer, sender, d.inactive, len, 0, (putHdr (d.hdrOpened len) (nvErase (slotBase d.inactive) 0x800000 d)).time.nbRun, false⟩))) := rfl

theorem time_putHdr (h : Hdr) : (putHdr h d).time = d.time := by
  rw [time_of_bare (e := d.setFlash (putHdr h d).nv.flash) (by rw [bare_putHdr, bare_setFlash]), setFlash_time]

theorem time_nvErase (a n : Nat) : (nvErase a n d).time = d.time := rfl

theorem flash_of_session {d e : Dev} {y : Tab Byte} {x : Option Session} (h : d.bare = (e.setFlash y).setSession x) : d.nv.flash = y := by
  change d.bare.nv.flash = y
  rw [h]
  rfl

theorem session_of_session {d e : Dev} {y : Tab Byte} {x : Option Session} (h : d.bare = (e.setFlash y).setSession x) : d.nv.session = x := by
  change d.bare.nv.session = x
  rw [h]
  rfl

theorem flash_of_sessionEnd {d e : Dev} {y : Tab Byte} {r : Report} {x : Option Session} (h : d.bare = ((e.setFlash y).raiseR r).setSession x) :
    d.nv.flash = y := by
  change d.bare.nv.flash = y
  rw [h]
  rfl

/-- R335: the header of an opened session, in the flash whose slot is erased. -/
def Dev.slotOpened (d : Dev) (len : Nat) : Dev := putHdr (d.hdrOpened len) (nvErase (slotBase d.inactive) 0x800000 d)

theorem bare_openSession_eq (peer : Bool) (sender : Option Nat) (len : Nat) : (openSession peer sender len d).bare =
    (d.bare.setFlash (d.slotOpened len).nv.flash).setSession (some ⟨peer, sender, d.inactive, len, 0, d.time.nbRun, false⟩) := by
  rw [openSession_eq, bare_showXfer, bare_xferResult, bare_setSession, time_putHdr, time_nvErase, bare_putHdr, bare_nvErase, setFlash_setFlash,
    Dev.slotOpened]

/-- R335: what the opening of a session changes beside the registers. -/
theorem bare_openSession (peer : Bool) (sender : Option Nat) (len : Nat) : (openSession peer sender len d).bare =
    (d.bare.setFlash (openSession peer sender len d).nv.flash).setSession (some ⟨peer, sender, d.inactive, len, 0, d.time.nbRun, false⟩) := by
  have hb := bare_openSession_eq d peer sender len
  rw [flash_of_session hb, hb]

theorem rd_openSession {x : Fld} (hx : ∀ y ∈ sessionRegs, x.apart y) (peer : Bool) (sender : Option Nat) (len : Nat) :
    (openSession peer sender len d).rd x = d.rd x := by
  obtain ⟨hr, hh, hs⟩ := apart_sessionRegs hx
  rw [openSession_eq, rd_showXfer hs, rd_xferResult hr, setSession_rd, rd_putHdr _ _ hh, rd_nvErase]

theorem result_openSession (peer : Bool) (sender : Option Nat) (len : Nat) : (openSession peer sender len d).rd NV_XFER_RESULT = imOk := by
  rw [openSession_eq, rd_showXfer (by decide), result_xferResult (by decide)]

theorem slotBase_ge (b : Bool) : 0x100000 ≤ slotBase b := by cases b <;> decide

/-- R335: the slot that a session opens on is erased. -/
theorem nvByte_openSession {x : Nat} (h : slotBase d.inactive ≤ x) (h' : x < slotBase d.inactive + 0x800000) (peer : Bool)
    (sender : Option Nat) (len : Nat) : (openSession peer sender len d).nvByte x = 0xFF := by
  have hge := slotBase_ge d.inactive
  rw [nvByte_of_flash (flash_of_session (bare_openSession_eq d peer sender len)), Dev.slotOpened, nvByte_putHdr _ _ (by omega), nvByte_nvErase,
    if_pos ⟨h, h'⟩]

/-- R335, R362: the report of a session's end. -/
def Dev.sessionReport (d : Dev) (b : Bool) (n : Nat) : Report :=
  { d.report (if n ≤ 3 then FClass.config else FClass.secure) 1 central 0 with
    addr := b01 b * 2 ^ 31 + n, master := Master.nvm.code, access := 0 }

theorem failReport_eq (b : Bool) (n : Nat) : failReport b n d = d.raiseR (d.sessionReport b n) := rfl

/-- What R335 makes the header of a slot whose session ends early. -/
def Dev.hdrBad (d : Dev) (b : Bool) : Hdr := { d.hdr with st := set2 b slBad d.hdr.st }

theorem badSession_eq (x : Session) (n : Nat) : badSession x n d =
    showXfer (xferResult imVerifyFail ((failReport x.slotB n (putHdr (d.hdrBad x.slotB) d)).setSession none)) := rfl

/-- R335: what the early end of a session changes beside the registers. -/
theorem bare_badSession (x : Session) (n : Nat) : (badSession x n d).bare =
    ((d.bare.setFlash (badSession x n d).nv.flash).raiseR (d.sessionReport x.slotB n)).setSession none := by
  have hrep : (putHdr (d.hdrBad x.slotB) d).sessionReport x.slotB n = d.sessionReport x.slotB n := by
    rw [Dev.sessionReport, Dev.report, time_putHdr, Dev.sessionReport, Dev.report]
  have hb : (badSession x n d).bare = ((d.bare.setFlash (putHdr (d.hdrBad x.slotB) d).nv.flash).raiseR (d.sessionReport x.slotB n)).setSession none := by
    rw [badSession_eq, bare_showXfer, bare_xferResult, bare_setSession, failReport_eq, bare_raiseR, hrep, bare_putHdr]
  rw [flash_of_sessionEnd hb, hb]

/-- The fields that the end of a session writes. -/
def endRegs : List Fld := NV_XFER_STATE :: NV_XFER_RESULT :: hdrRegs

theorem rd_badSession {y : Fld} (hy : ∀ z ∈ endRegs, y.apart z) (x : Session) (n : Nat) : (badSession x n d).rd y = d.rd y := by
  simp only [endRegs, List.forall_mem_cons] at hy
  obtain ⟨hs, hr, hh⟩ := hy
  have hnone : (xferResult imVerifyFail ((failReport x.slotB n (putHdr (d.hdrBad x.slotB) d)).setSession none)).nv.session = none := by
    rw [nv_of_bare (bare_xferResult _ _)]
    rfl
  rw [badSession_eq, rd_showXfer_none hnone hs, rd_xferResult hr, setSession_rd, failReport_eq, Dev.raiseR_rd, rd_putHdr _ _ hh]

theorem result_badSession (x : Session) (n : Nat) : (badSession x n d).rd NV_XFER_RESULT = imVerifyFail := by
  rw [badSession_eq, rd_showXfer (by decide), result_xferResult (by decide)]

theorem state_badSession (x : Session) (n : Nat) : (badSession x n d).rd NV_XFER_STATE = 0 := by
  rw [badSession_eq, xferState_showXfer]
  rw [nv_of_bare (bare_xferResult _ _)]
  rfl

theorem pick2_set2 (b : Bool) (v : Nat) (x : Nat × Nat) : pick2 b (set2 b v x) = v := by cases b <;> rfl

theorem apart_slotState (b : Bool) : (∀ y ∈ xferRegs, (slotState b).apart y) ∧ (slotState b).apart NV_XFER_RESULT := by
  cases b <;> decide

theorem slotState_badSession (x : Session) (n : Nat) : (badSession x n d).rd (slotState x.slotB) = slBad := by
  obtain ⟨hs, hr⟩ := apart_slotState x.slotB
  rw [badSession_eq, rd_showXfer hs, rd_xferResult hr, setSession_rd, failReport_eq, Dev.raiseR_rd, slotState_putHdr, Dev.hdrBad, pick2_set2]
  rfl

end

/-! What depends on the flash alone. -/

section
variable {d e : Dev} (h : d.nv.flash = e.nv.flash)
include h

theorem nvBytes_of_flash (a n : Nat) : d.nvBytes a n = e.nvBytes a n := nvBytes_of_nvByte fun x _ _ => nvByte_of_flash h x

theorem hdrCopy_of_flash (c : Nat) : d.hdrCopy c = e.hdrCopy c := by rw [Dev.hdrCopy, nvBytes_of_flash h, Dev.hdrCopy]

theorem hdrNow_of_flash : d.hdrNow = e.hdrNow := by
  rw [Dev.hdrNow, hdrCopy_of_flash h, hdrCopy_of_flash h, Dev.hdrNow]

theorem hdr_of_flash : d.hdr = e.hdr := by
  rw [Dev.hdr, hdrNow_of_flash h, Dev.hdr]

theorem inactive_of_flash : d.inactive = e.inactive := by rw [Dev.inactive, hdr_of_flash h, Dev.inactive]

end

/-! Chunks (R297, R420). -/

/-- R297: a session after a chunk at off of n bytes. -/
def Session.after (x : Session) (off n now : Nat) : Session := { x with next := off + n, last := now, verifying := off + n = x.len }

section
variable {d : Dev} {x : Session} {off : Nat} {data : List Nat}

/-- R297: the device that a chunk in order leaves. -/
def chunkWritten (x : Session) (off : Nat) (data : List Nat) (d : Dev) : Dev :=
  showXfer ((nvProg (slotBase x.slotB + off) data d).setSession (some (x.after off data.length d.time.nbRun)))

theorem time_nvProg (a : Nat) (bs : List Nat) (d : Dev) : (nvProg a bs d).time = d.time := by rw [nvProg_eq, setFlash_time]

/-- R297: a chunk in order is programmed. -/
theorem writeChunk_ok (hs : d.nv.session = some x) (hv : x.verifying = false) (hg : d.gateOk 9 = true) (ho : off = x.next)
    (hl : off + data.length ≤ x.len) (hm : off + data.length ≤ 0x800000) : writeChunk off data d = (chunkWritten x off data d, imOk) := by
  have hready : ¬ (x.verifying = true ∨ (!d.gateOk 9) = true) := by simp [hv, hg]
  rw [writeChunk, hs]
  dsimp only
  rw [if_neg hready, if_neg (not_not_intro ho), if_neg (by omega), chunkWritten, Session.after, time_nvProg]
  rfl

theorem writeChunk_order (hs : d.nv.session = some x) (hv : x.verifying = false) (hg : d.gateOk 9 = true) (ho : off ≠ x.next) :
    writeChunk off data d = (d, imOrder) := by
  have hready : ¬ (x.verifying = true ∨ (!d.gateOk 9) = true) := by simp [hv, hg]
  rw [writeChunk, hs]
  dsimp only
  rw [if_neg hready, if_pos ho]

theorem writeChunk_none (hs : d.nv.session = none) : writeChunk off data d = (d, imNoSession) := by rw [writeChunk, hs]

theorem bare_chunkWritten_eq : (chunkWritten x off data d).bare =
    (d.bare.setFlash (nvProg (slotBase x.slotB + off) data d).nv.flash).setSession (some (x.after off data.length d.time.nbRun)) := by
  rw [chunkWritten, bare_showXfer, bare_setSession, bare_nvProg]

theorem bare_chunkWritten : (chunkWritten x off data d).bare =
    (d.bare.setFlash (chunkWritten x off data d).nv.flash).setSession (some (x.after off data.length d.time.nbRun)) := by
  rw [flash_of_session bare_chunkWritten_eq, bare_chunkWritten_eq]

theorem rd_chunkWritten {y : Fld} (hy : ∀ z ∈ xferRegs, y.apart z) : (chunkWritten x off data d).rd y = d.rd y := by
  rw [chunkWritten, rd_showXfer hy, setSession_rd, rd_nvProg]

theorem nvByte_chunkWritten (y : Nat) : (chunkWritten x off data d).nvByte y = (nvProg (slotBase x.slotB + off) data d).nvByte y :=
  nvByte_of_flash (flash_of_session bare_chunkWritten_eq) y

end

end Sys2Proof.Machine
end

section
/-! O51 and O52: what the PMBus slave answers and does (R412 to R421). A transaction is begun (`Dev.counted`), has its effect, and is
recorded (`Dev.recorded`); what a read answers is read off the device as the transaction begins, which shows what the device shows. -/

namespace Sys2Proof.Machine

/-! What STATUS_WORD is made of. -/

section
variable {d e : Dev} (hrd : ∀ x : Fld, x.addr < 0x200A0000 → d.rd x = e.rd x)
include hrd

theorem rdB_of_rd {x : Fld} (h : x.addr < 0x200A0000) : d.rdB x = e.rdB x := by rw [Dev.rdB, hrd x h, Dev.rdB]

theorem classErr_of_rd {c : Nat} (h : c < 12) : d.classErr c = e.classErr c := by
  have hany : (FC_UNCLR_ANY c).addr < 0x200A0000 := by simp only [FC_UNCLR_ANY]; omega
  have hmax : (FC_UNCLR_MAX c).addr < 0x200A0000 := by simp only [FC_UNCLR_MAX]; omega
  rw [Dev.classErr, Dev.errLevel, rdB_of_rd hrd hany, hrd _ hmax, hrd _ (by decide), Dev.classErr, Dev.errLevel]

theorem errLow_of_rd (hp : d.pins = e.pins) : d.errLow = e.errLow := by
  have hany : (List.range 12).any d.classErr = (List.range 12).any e.classErr :=
    Bool.eq_iff_iff.mpr (by
      simp only [List.any_eq_true]
      exact exists_congr fun c => and_congr_right fun hc => by rw [classErr_of_rd hrd (List.mem_range.mp hc)])
  rw [Dev.errLow, hany, hp, rdB_of_rd hrd (by decide), rdB_of_rd hrd (by decide), Dev.errLow]

theorem mfrByte1_of_rd (hp : d.pins = e.pins) (hb : d.bud = e.bud) : d.mfrByte1 = e.mfrByte1 := by
  simp (disch := decide) only [Dev.mfrByte1, errLow_of_rd hrd hp, Dev.capDeferred, hb, hrd]

/-- R413: STATUS_WORD shows no register of the PMBus slave. -/
theorem statusWord_of_rd (hp : d.pins = e.pins) (hb : d.bud = e.bud) (hc : d.mg.cml = e.mg.cml) : d.statusWord = e.statusWord := by
  simp (disch := decide) only [Dev.statusWord, Dev.ready, mfrByte1_of_rd hrd hp hb, classErr_of_rd hrd, hc, hrd, rdB_of_rd hrd]
  rfl

end

/-- R413: the alert stands as it was while STATUS_WORD does. -/
theorem settle_of_word {d : Dev} (h : d.statusWord = d.mg.word) : settle d = d := by
  rw [settle, if_pos h, ite_self]

/-! The device as a transaction begins. -/

section
variable (d : Dev)

theorem bare_reply (l : List Nat) : (reply l d).bare = reply l d.bare := rfl

theorem bare_counted : d.counted.bare = reply [] d.bare := by rw [Dev.counted, bare_reply, bare_inc]

theorem reg_counted {a : Nat} (h : a ≠ 0x200A0008) : d.counted.reg a = d.reg a := reg_wr_ne PM_CNT_XFERS _ d h

@[simp] theorem rd_counted {x : Fld} (h : x.addr ≠ 0x200A0008) : d.counted.rd x = d.rd x := rd_eq_of_reg (reg_counted d h)
@[simp] theorem rdB_counted {x : Fld} (h : x.addr ≠ 0x200A0008) : d.counted.rdB x = d.rdB x := by rw [Dev.rdB, rd_counted d h, Dev.rdB]
@[simp] theorem rdS_counted {x : Fld} (h : x.addr ≠ 0x200A0008) : d.counted.rdS x = d.rdS x := by rw [Dev.rdS, rd_counted d h, Dev.rdS]

theorem counted_eq : d.counted = { reply [] d with regs := d.counted.regs } := eq_of_bare (by rw [bare_counted, bare_reply])

@[simp] theorem pins_counted : d.counted.pins = d.pins := by rw [counted_eq]; rfl
@[simp] theorem time_counted : d.counted.time = d.time := by rw [counted_eq]; rfl
@[simp] theorem fd_counted (f : Nat) : d.counted.fd f = d.fd f := by rw [counted_eq]; rfl
@[simp] theorem nv_counted : d.counted.nv = d.nv := by rw [counted_eq]; rfl
@[simp] theorem ev_counted : d.counted.ev = d.ev := by rw [counted_eq]; rfl
@[simp] theorem fc_counted : d.counted.fc = d.fc := by rw [counted_eq]; rfl
@[simp] theorem mg_counted : d.counted.mg = { d.mg with reply := [] } := by rw [counted_eq]; rfl

theorem capDeferred_counted : d.counted.capDeferred = d.capDeferred := by rw [Dev.capDeferred, Dev.counted_bud, Dev.capDeferred]

theorem cap_counted : d.counted.cap = d.cap := by rw [Dev.cap, Dev.counted_bud, Dev.cap]

theorem ready_counted : d.counted.ready = d.ready := rdB_counted d (by decide)

theorem mfrByte1_counted : d.counted.mfrByte1 = d.mfrByte1 :=
  mfrByte1_of_rd (fun x hx => rd_counted d (by omega)) (pins_counted d) (Dev.counted_bud d)

theorem statusWord_counted : d.counted.statusWord = d.statusWord :=
  statusWord_of_rd (fun x hx => rd_counted d (by omega)) (pins_counted d) (Dev.counted_bud d) (by rw [mg_counted])

theorem nvBytes_counted (a n : Nat) : d.counted.nvBytes a n = d.nvBytes a n := nvBytes_of_nvByte fun x _ _ => nvByte_of_flash (by rw [nv_counted]) x

theorem healthyCount_counted : d.counted.healthyCount = d.healthyCount := by
  have h : allFields.filter d.counted.healthyField = allFields.filter d.healthyField :=
    List.filter_congr fun f hf => by
      have hlt : f < 96 := List.mem_range.mp hf
      have haddr : (BT_PASS_FIELD f).addr ≠ 0x200A0008 := by simp only [BT_PASS_FIELD]; omega
      rw [Dev.healthyField, rdB_counted d haddr, fd_counted, Dev.healthyField]
  rw [Dev.healthyCount, h, Dev.healthyCount]

theorem mfrStatus_counted : d.counted.mfrStatus = d.mfrStatus := by
  simp (disch := decide) only [Dev.mfrStatus, Dev.selState, ready_counted, mfrByte1_counted, healthyCount_counted, mg_counted, rd_counted]

theorem mfrFaults_counted : d.counted.mfrFaults = d.mfrFaults := by
  rw [Dev.mfrFaults, reg_counted d (by decide), reg_counted d (by decide), Dev.mfrFaults]

theorem temp_counted (f p : Nat) : d.counted.temp f p = d.temp f p := by
  have haddr (t : Nat) : (PS_TS_USED f p t).addr ≠ 0x200A0008 := by simp only [PS_TS_USED, psBase, stBase]; omega
  rw [Dev.temp, Dev.used, Dev.used, rdS_counted d (haddr 0), rdS_counted d (haddr 1), Dev.temp, Dev.used, Dev.used]

theorem enabled_counted : d.counted.enabled = d.enabled := by simp only [Dev.enabled, fd_counted]

theorem mfrTelem_counted : d.counted.mfrTelem = d.mfrTelem := by
  simp (disch := decide) only [Dev.mfrTelem, Dev.hottest, enabled_counted, temp_counted, Dev.counted_bud, cap_counted, rd_counted]

theorem mfrCounts_counted : d.counted.mfrCounts = d.mfrCounts := by
  simp (disch := decide) only [Dev.mfrCounts, Dev.counted_bud, rd_counted]

theorem mfrRecord_counted (n : Nat) : d.counted.mfrRecord n = d.mfrRecord n := by
  have h : d.counted.readRecord n = d.readRecord n := by
    rw [Dev.readRecord, rdB_counted d (by decide), rd_counted d (by decide), rd_counted d (by decide), ev_counted, Dev.slotBytes, nvBytes_counted,
      Dev.readRecord, Dev.slotBytes]
  rw [Dev.mfrRecord, h, rd_counted d (by decide), Dev.mfrRecord]

theorem imgStatus_counted : d.counted.imgStatus = d.imgStatus := by
  simp (disch := decide) only [Dev.imgStatus, Dev.xferIdle, time_counted, nv_counted, reg_counted]

theorem gateOk_counted (b : Nat) : d.counted.gateOk b = d.gateOk b := by
  rw [Dev.gateOk, rdB_counted d (by simp [CK_GATE_EN]), rdB_counted d (by simp [CK_GATE_STAT_OPEN_BIT]), rdB_counted d (by simp [CK_GATE_STAT_QUIESCE_BIT]),
    Dev.gateOk]

end

/-! How a transaction completes. -/

/-- R431: the fields of a transaction. -/
def lastRegs : List Fld := [PM_LAST_CMD, PM_LAST_WRITE, PM_LAST_RESULT]

section
variable {c : Instr} {s : State} {g : Dev → Dev} {e : Dev} {cmd r : Nat} {write : Bool} {Q : State → Prop}

theorem bare_recorded (cmd : Nat) (write : Bool) (r : Nat) (d : Dev) : (d.recorded cmd write r).bare = setCml (cmlBit r) d.bare := by
  have h (x : Nat) (y : Dev) : (setCml x y).bare = setCml x y.bare := rfl
  rw [Dev.recorded, bare_wr, bare_wrB, bare_wr, h]

/-- A transaction with an effect e: counted, recorded, and whatever the effect shows. -/
theorem completes_recorded (hc : exec c s = done g s) (hs : s.awake) (hg : g s.dev = e.recorded cmd write r) (hcmd : cmd < 256) (hr : r < 4)
    (hx : e.rd PM_CNT_XFERS = satN 0xFFFF (s.dev.rd PM_CNT_XFERS + 1)) (hq : Q { s with dev := settle (e.recorded cmd write r) }) :
    Completes c s fun t => t.dev.rd PM_CNT_XFERS = satN 0xFFFF (s.dev.rd PM_CNT_XFERS + 1) ∧ t.dev.rd PM_LAST_CMD = cmd ∧
      t.dev.rdB PM_LAST_WRITE = write ∧ t.dev.rd PM_LAST_RESULT = r ∧ Q t := by
  refine completes_eq hc hs hg ⟨?_, ?_, ?_, ?_, hq⟩
  · rw [rd_settle (by decide), rd_recorded_ne _ _ _ _ (by decide) (by decide) (by decide), hx]
  · rw [rd_settle (by decide), rd_recorded_cmd _ _ _ hcmd]
  · rw [rdB_settle (by decide), rdB_recorded_write]
  · rw [rd_settle (by decide), rd_recorded_result _ _ _ hr]

/-- What a transaction changes: its own fields, and what its effect changes. -/
theorem changes_of_recorded {e' : Dev} {l : List Fld} (hb : setCml (cmlBit r) e.bare = e'.bare)
    (hl : ∀ x : Fld, (∀ y ∈ PM_CNT_XFERS :: l, x.apart y) → e.rd x = s.dev.rd x) :
    s.changes { s with dev := settle (e.recorded cmd write r) } e' ([PM_CNT_XFERS, PM_LAST_CMD, PM_LAST_WRITE, PM_LAST_RESULT] ++ l) := by
  refine changes_bare (by rw [bare_recorded, hb]) fun x hx => ?_
  simp only [List.cons_append, List.nil_append, List.forall_mem_cons] at hx
  obtain ⟨hxfers, hcmd, hwrite, hresult, hrest⟩ := hx
  rw [rd_recorded_ne _ _ _ _ hcmd hwrite hresult, hl x (List.forall_mem_cons.mpr ⟨hxfers, hrest⟩)]

theorem setCml_done (d : Dev) : setCml (cmlBit 0) d = d := by
  have h : d.mg.cml ||| cmlBit 0 = d.mg.cml := Nat.or_zero _
  rw [setCml, Dev.updMg, h]

/-- A read that the slave acknowledges. -/
theorem completes_pmRead {f : Dev → List Nat} {l : List Nat} (hc : exec c s = done (pmRead cmd f) s) (hs : s.awake) (ha : s.dev.pmAnswers = true)
    (hcmd : cmd < 256) (hf : f s.dev.counted = l) :
    Completes c s fun t => t.dev.rd PM_CNT_XFERS = satN 0xFFFF (s.dev.rd PM_CNT_XFERS + 1) ∧ t.dev.rd PM_LAST_CMD = cmd ∧
      t.dev.rdB PM_LAST_WRITE = false ∧ t.dev.rd PM_LAST_RESULT = 0 ∧ s.changes t { s.dev with mg := { s.dev.mg with reply := l } }
        [PM_CNT_XFERS, PM_LAST_CMD, PM_LAST_WRITE, PM_LAST_RESULT] := by
  have hg : pmRead cmd f s.dev = (reply l s.dev.counted).recorded cmd false 0 := by
    rw [pmRead, transact_answered ha, hf]
    rfl
  refine completes_recorded hc hs hg hcmd (by decide) (rd_counted_xfers _) (changes_of_recorded (l := []) ?_ fun x hx => ?_)
  · rw [setCml_done, bare_reply, bare_counted]
    rfl
  · exact rd_counted_ne _ (hx _ (List.mem_singleton.mpr rfl))

end

/-- Settles O51. -/
theorem pMBusReads : Obligations.PMBusReads := by
  unfold Obligations.PMBusReads
  refine ⟨fun s hs ha => ?_, fun s hs ha => ?_, fun s hs ha => ?_, fun s p hs ha => ?_, fun s hs ha => ?_, fun s hs ha => ?_,
    fun s hs ha => ?_, fun s hs ha => ?_, fun s hs ha => ?_, fun s hs ha => ?_, fun s hs ha => ?_, fun s hs ha => ?_, fun s hs ha => ?_,
    fun s hs ha => ?_, fun s n hs ha => ?_, fun s hs ha => ?_, fun s hs ha hal hw => ?_, fun s hs ha hal => ?_, fun s hs h => ?_, fun s hs ha i hi => ?_⟩
  · exact completes_pmRead rfl hs ha (by decide) rfl
  · exact completes_pmRead rfl hs ha (by decide) (by rw [statusWord_counted])
  · exact completes_pmRead rfl hs ha (by decide) (by rw [statusWord_counted])
  · exact completes_pmRead rfl hs ha (by decide) (by rw [mg_counted])
  · exact completes_pmRead rfl hs ha (by decide) rfl
  · exact completes_pmRead rfl hs ha (by decide) rfl
  · exact completes_pmRead rfl hs ha (by decide) rfl
  · exact completes_pmRead rfl hs ha (by decide) rfl
  · exact completes_pmRead rfl hs ha (by decide) (nvBytes_counted _ _ _)
  · exact completes_pmRead rfl hs ha (by decide) (by rw [Dev.capReply, cap_counted, capDeferred_counted])
  · exact completes_pmRead rfl hs ha (by decide) (mfrStatus_counted _)
  · exact completes_pmRead rfl hs ha (by decide) (mfrFaults_counted _)
  · exact completes_pmRead rfl hs ha (by decide) (mfrTelem_counted _)
  · exact completes_pmRead rfl hs ha (by decide) (mfrCounts_counted _)
  · exact completes_pmRead rfl hs ha (by decide) (mfrRecord_counted _ _)
  · exact completes_pmRead rfl hs ha (by decide) (imgStatus_counted _)
  · have hg : alertResponse s.dev = reply [2 * s.dev.rd PM_STATUS_ADDR] (s.dev.wrB PM_STATUS_ALERT false) := if_pos ⟨ha, hal⟩
    have hstill : (reply [2 * s.dev.rd PM_STATUS_ADDR] (s.dev.wrB PM_STATUS_ALERT false)).statusWord = s.dev.statusWord :=
      statusWord_of_rd (fun x hx => rd_wrB_apart false (.inl (by simp only [PM_STATUS_ALERT]; omega))) rfl rfl rfl
    refine completes_eq rfl hs hg ⟨?_, changes_bare ?_ fun x hx => rd_wrB_apart _ (hx _ (by simp))⟩
    · rw [settle_of_word (hstill.trans hw)]
      exact rdB_wrB_eq false (by decide)
    · rw [bare_reply, bare_wrB]
      rfl
  · have hg : alertResponse s.dev = reply [2 * s.dev.rd PM_STATUS_ADDR] (s.dev.wrB PM_STATUS_ALERT false) := if_pos ⟨ha, hal⟩
    refine completes_eq rfl hs hg (changes_bare ?_ fun x hx => rd_wrB_apart _ (hx _ (by simp)))
    rw [bare_reply, bare_wrB]
    rfl
  · refine completes_unchanged rfl hs (if_neg ?_)
    rintro ⟨ha, hal⟩
    rcases h with h | h
    · rw [ha] at h
      exact absurd h (by decide)
    · rw [hal] at h
      exact absurd h (by decide)
  · have hno {cmd : Nat} {write : Bool} (g : Dev → Dev × Nat) : transact cmd write g s.dev = s.dev := if_neg (by rw [ha]; decide)
    simp only [List.mem_cons, List.not_mem_nil, or_false] at hi
    rcases hi with rfl | rfl | rfl | rfl | rfl | rfl | rfl | rfl | rfl | rfl | rfl | rfl | rfl | rfl | rfl | rfl | rfl <;>
      exact completes_unchanged rfl hs (hno _)

end Sys2Proof.Machine
end

section
/-! O52: what the PMBus slave does at its writes (R412 to R414, R420, R421). -/

namespace Sys2Proof.Machine

section
variable {c : Instr} {s : State} {e : Dev} {cmd r : Nat} {p : Pec} {f : Dev → Dev × Nat} {Q : State → Prop}

/-- A write that its PEC lets act, with its effect e and its result r. -/
theorem completes_pmWrite (hc : exec c s = done (pmWrite cmd p f) s) (hs : s.awake) (ha : s.dev.pmAnswers = true) (hp : s.dev.pecPasses p)
    (hcmd : cmd < 256) (hr : r < 4) (hf : f s.dev.counted = (e, r)) (hx : e.rd PM_CNT_XFERS = s.dev.counted.rd PM_CNT_XFERS)
    (hq : Q { s with dev := settle (e.recorded cmd true r) }) :
    Completes c s fun t => t.dev.rd PM_CNT_XFERS = satN 0xFFFF (s.dev.rd PM_CNT_XFERS + 1) ∧ t.dev.rd PM_LAST_CMD = cmd ∧
      t.dev.rdB PM_LAST_WRITE = true ∧ t.dev.rd PM_LAST_RESULT = r ∧ Q t :=
  completes_recorded hc hs (by rw [pmWrite_passed ha hp, hf]) hcmd hr (hx.trans (rd_counted_xfers _)) hq

/-- A transaction with its effect e and its result r. -/
theorem completes_transact {write : Bool} (hc : exec c s = done (transact cmd write f) s) (hs : s.awake) (ha : s.dev.pmAnswers = true)
    (hcmd : cmd < 256) (hr : r < 4) (hf : f s.dev.counted = (e, r)) (hx : e.rd PM_CNT_XFERS = s.dev.counted.rd PM_CNT_XFERS)
    (hq : Q { s with dev := settle (e.recorded cmd write r) }) :
    Completes c s fun t => t.dev.rd PM_CNT_XFERS = satN 0xFFFF (s.dev.rd PM_CNT_XFERS + 1) ∧ t.dev.rd PM_LAST_CMD = cmd ∧
      t.dev.rdB PM_LAST_WRITE = write ∧ t.dev.rd PM_LAST_RESULT = r ∧ Q t :=
  completes_recorded hc hs (by rw [transact_answered ha, hf]) hcmd hr (hx.trans (rd_counted_xfers _)) hq

/-- A field of the effect, after the transaction. -/
theorem rd_effect {x : Fld} (hx : x.addr ≠ 0x200A000C ∧ x.addr ≠ 0x200A0000) (cmd : Nat) (write : Bool) (r : Nat) :
    (settle (e.recorded cmd write r)).rd x = e.rd x := by
  obtain ⟨hlast, hal⟩ := hx
  rw [rd_settle (.inl hal), rd_recorded_ne _ _ _ _ (.inl hlast) (.inl hlast) (.inl hlast)]

theorem nv_effect (cmd : Nat) (write : Bool) (r : Nat) : (settle (e.recorded cmd write r)).nv = e.nv := by
  rw [settle_nv, nv_of_bare (e := setCml (cmlBit r) e) (bare_recorded _ _ _ _)]
  rfl

theorem nvByte_effect (cmd : Nat) (write : Bool) (r x : Nat) : (settle (e.recorded cmd write r)).nvByte x = e.nvByte x :=
  nvByte_of_flash (by rw [nv_effect]) x

/-- A write that leaves everything but the transaction's own marks: it is refused, or does nothing. -/
theorem changes_refused {write : Bool} (hr : cmlBit r = n) : s.changes { s with dev := settle (s.dev.counted.recorded cmd write r) }
    { s.dev with mg := { s.dev.mg with reply := [], cml := s.dev.mg.cml ||| n } } [PM_CNT_XFERS, PM_LAST_CMD, PM_LAST_WRITE, PM_LAST_RESULT] := by
  refine changes_of_recorded (l := []) ?_ fun x hx => rd_counted_ne _ (hx _ (List.mem_singleton.mpr rfl))
  rw [bare_counted, hr]
  rfl

/-- A write whose data are out of range. -/
theorem completes_pmRefused (hc : exec c s = done (pmWrite cmd p f) s) (hs : s.awake) (ha : s.dev.pmAnswers = true) (hp : s.dev.pecPasses p)
    (hcmd : cmd < 256) (hf : f s.dev.counted = (s.dev.counted, pmData)) :
    Completes c s fun t => t.dev.rd PM_CNT_XFERS = satN 0xFFFF (s.dev.rd PM_CNT_XFERS + 1) ∧ t.dev.rd PM_LAST_CMD = cmd ∧
      t.dev.rdB PM_LAST_WRITE = true ∧ t.dev.rd PM_LAST_RESULT = 2 ∧ s.changes t
        { s.dev with mg := { s.dev.mg with reply := [], cml := s.dev.mg.cml ||| 64 } } [PM_CNT_XFERS, PM_LAST_CMD, PM_LAST_WRITE, PM_LAST_RESULT] :=
  completes_pmWrite hc hs ha hp hcmd (by decide) hf rfl (changes_refused rfl)

/-- A write of the image transfer that is refused with a result of its own. -/
theorem completes_pmXferRefused {n : Nat} (hc : exec c s = done (pmWrite cmd p f) s) (hs : s.awake) (ha : s.dev.pmAnswers = true)
    (hp : s.dev.pecPasses p) (hcmd : cmd < 256) (hn : n < 16) (hf : f s.dev.counted = (xferResult n s.dev.counted, pmData)) :
    Completes c s fun t => t.dev.rd PM_CNT_XFERS = satN 0xFFFF (s.dev.rd PM_CNT_XFERS + 1) ∧ t.dev.rd PM_LAST_CMD = cmd ∧
      t.dev.rdB PM_LAST_WRITE = true ∧ t.dev.rd PM_LAST_RESULT = 2 ∧ t.dev.rd NV_XFER_RESULT = n ∧ s.changes t
        { s.dev with mg := { s.dev.mg with reply := [], cml := s.dev.mg.cml ||| 64 } }
        [PM_CNT_XFERS, PM_LAST_CMD, PM_LAST_WRITE, PM_LAST_RESULT, NV_XFER_RESULT] := by
  refine completes_pmWrite hc hs ha hp hcmd (by decide) hf (rd_xferResult (by decide) _ _) ⟨?_, ?_⟩
  · rw [rd_effect (by decide), result_xferResult hn]
  · refine changes_of_recorded (l := [NV_XFER_RESULT]) ?_ fun x hx => ?_
    · rw [bare_xferResult, bare_counted]
      rfl
    · rw [rd_xferResult (hx _ (by simp)), rd_counted_ne _ (hx _ (by simp))]

end

/-- R414: CLEAR_FAULTS, in a transaction. -/
theorem bare_clearFaults (d : Dev) : (clearFaults d).bare = d.bare.updMg fun m => { m with cml := 0 } := by
  rw [clearFaults, bare_wrB, bare_updMg]

theorem rd_clearFaults {x : Fld} (h : x.apart PM_STATUS_ALERT) (d : Dev) : (clearFaults d).rd x = d.rd x := by
  rw [clearFaults, rd_wrB_apart _ h, Dev.updMg_rd]

theorem changes_sansAlert {s t : State} {e : Dev} {l : List Fld} (h : s.changes t e (PM_STATUS_ALERT :: l)) : s.changes t e l :=
  ⟨h.1, fun x ha hx => h.2 x ha (List.forall_mem_cons.mpr ⟨ha, hx⟩)⟩

/-- R413: the device after CLEAR_FAULTS. -/
def Dev.faultsCleared (d : Dev) : Dev := (clearFaults d.counted).recorded 0x03 true pmDone

theorem bare_faultsCleared (d : Dev) : d.faultsCleared.bare = (reply [] d.bare).updMg fun m => { m with cml := 0 } := by
  rw [Dev.faultsCleared, bare_recorded, pmDone, setCml_done, bare_clearFaults, bare_counted]

theorem rd_faultsCleared {x : Fld} (d : Dev) (hx : x.apart PM_CNT_XFERS) (hl : ∀ y ∈ lastRegs, x.apart y) (ha : x.apart PM_STATUS_ALERT) :
    d.faultsCleared.rd x = d.rd x := by
  rw [Dev.faultsCleared, rd_recorded_ne _ _ _ _ (hl _ (by simp [lastRegs])) (hl _ (by simp [lastRegs])) (hl _ (by simp [lastRegs])),
    rd_clearFaults ha, rd_counted_ne _ hx]

/-- R413: what CLEAR_FAULTS changes. -/
theorem changes_faultsCleared {s : State} : s.changes { s with dev := settle s.dev.faultsCleared }
    { s.dev with mg := { s.dev.mg with reply := [], cml := 0 } } [PM_CNT_XFERS, PM_LAST_CMD, PM_LAST_WRITE, PM_LAST_RESULT] := by
  refine changes_sansAlert (changes_bare ?_ fun x hx => ?_)
  · rw [bare_faultsCleared]
    rfl
  · exact rd_faultsCleared _ (hx _ (by simp)) (fun y hy => hx y (List.mem_cons_of_mem _ (List.mem_cons_of_mem _ hy))) (hx _ (by simp))

theorem pins_of_bare {d e : Dev} (h : d.bare = e.bare) : d.pins = e.pins := by
  change d.bare.pins = e.bare.pins
  rw [h]

theorem bud_of_bare {d e : Dev} (h : d.bare = e.bare) : d.bud = e.bud := by
  change d.bare.bud = e.bare.bud
  rw [h]

theorem mg_of_bare {d e : Dev} (h : d.bare = e.bare) : d.mg = e.mg := by
  change d.bare.mg = e.bare.mg
  rw [h]

/-- R413: with STATUS_CML clear and STATUS_WORD as the alert last saw it, CLEAR_FAULTS releases the alert. -/
theorem alert_faultsCleared {d : Dev} (hc : d.mg.cml = 0) (hw : d.statusWord = d.mg.word) :
    (settle d.faultsCleared).rdB PM_STATUS_ALERT = false := by
  have hb : d.faultsCleared.bare = ((reply [] d).updMg fun m => { m with cml := 0 }).bare := by rw [bare_faultsCleared, bare_updMg, bare_reply]
  have hstill : d.faultsCleared.statusWord = d.statusWord := by
    refine statusWord_of_rd (fun x hx => rd_faultsCleared d (.inl ?_) (fun y hy => .inl ?_) (.inl ?_)) ?_ ?_ ?_
    · simp only [PM_CNT_XFERS]
      omega
    · simp only [lastRegs, List.mem_cons, List.not_mem_nil, or_false] at hy
      rcases hy with rfl | rfl | rfl
      · simp only [PM_LAST_CMD]
        omega
      · simp only [PM_LAST_WRITE]
        omega
      · simp only [PM_LAST_RESULT]
        omega
    · simp only [PM_STATUS_ALERT]
      omega
    · rw [pins_of_bare hb]
      rfl
    · rw [bud_of_bare hb]
      rfl
    · rw [mg_of_bare hb, hc]
      rfl
  have hword : d.faultsCleared.mg.word = d.mg.word := by
    rw [mg_of_bare hb]
    rfl
  rw [settle_of_word (by rw [hstill, hw, hword]), Dev.rdB, Dev.faultsCleared, rd_recorded_ne _ _ _ _ (by decide) (by decide) (by decide)]
  exact rdB_wrB_eq false (by decide)

/-- A transaction that leaves a flash and a session. -/
theorem bare_session (d : Dev) (l : List Nat) (y : Tab Byte) (x : Option Session) : ((reply l d.bare).setFlash y).setSession x =
    Dev.bare { d with mg := { d.mg with reply := l, cml := d.mg.cml }, nv := { d.nv with flash := y, session := x } } := rfl

theorem imgOpen_busy {d : Dev} (n : Nat) (h : d.nv.session.isSome = true ∨ d.gateOk 9 = false) : imgOpen n d = (xferResult imBusy d, pmData) := by
  refine if_pos ?_
  rcases h with h | h
  · exact .inl h
  · exact .inr (by rw [h]; rfl)

theorem imgOpen_ready {d : Dev} (n : Nat) (h : d.nv.session = none) (hg : d.gateOk 9 = true) :
    imgOpen n d = if n = 0 ∨ n % 4 ≠ 0 ∨ 0x800000 < n then (d, pmData) else (openSession false none n d, pmDone) := by
  refine if_neg ?_
  simp [h, hg]

theorem nats_length (m : List Byte) : (nats m).length = m.length := List.length_map ..

theorem imgChunk_length {d : Dev} {off : Nat} {m : List Byte} {late : Bool} (h : 1 ≤ m.length) (h' : m.length ≤ 240) :
    imgChunk off (nats m) late d = if !d.pmSession then (xferResult imNoSession d, pmData)
      else if late then (setCml 2 (xferResult imBusy d), pmData)
      else (xferResult (writeChunk off (nats m) d).2 (writeChunk off (nats m) d).1, if (writeChunk off (nats m) d).2 = imOk then pmDone else pmData) := by
  refine if_neg ?_
  rintro (h0 | h0)
  · have := congrArg List.length h0
    rw [nats_length] at this
    simp only [List.length_nil] at this
    omega
  · rw [nats_length] at h0
    omega

theorem nats_getD (m : List Byte) (j : Nat) : (nats m).getD j 0 = (m.getD j 0).toNat := by
  rw [nats, List.getD_eq_getElem?_getD, List.getElem?_map, List.getD_eq_getElem?_getD]
  cases m[j]? <;> rfl

/-- A byte of the flash and a byte of the data, as a byte. -/
theorem byte_and (b : Byte) {n : Nat} (h : n < 256) : ((n &&& b.toNat : Nat) : Byte) = (n : Byte) &&& b := by
  refine BitVec.eq_of_toNat_eq ?_
  have hn : ((n : Nat) : Byte).toNat = n := Nat.mod_eq_of_lt h
  rw [BitVec.toNat_and, hn]
  exact Nat.mod_eq_of_lt (Nat.lt_of_le_of_lt Nat.and_le_left h)

/-- The report of a session's end, in a transaction. -/
theorem bare_sessionEnd (d : Dev) (l : List Nat) (y : Tab Byte) (r : Report) : (((reply l d.bare).setFlash y).raiseR r).setSession none =
    Dev.bare { d with mg := { d.mg with reply := l, cml := d.mg.cml }, nv := { d.nv with flash := y, session := none },
                      fc := { d.fc with raised := d.fc.raised ++ [r] } } := rfl

/-- R335, R362: the report of a session that is ended, in a transaction. -/
theorem sessionReport_counted (d : Dev) (b : Bool) : d.counted.sessionReport b 0 =
    { d.report .config 1 central 0 with addr := b01 b * 2 ^ 31, master := 5, access := 0 } := by
  rw [Dev.sessionReport, if_pos (by decide), Nat.add_zero, Dev.report, time_counted, Dev.report]
  rfl

theorem bare_setCml (n : Nat) (d : Dev) : (setCml n d).bare = setCml n d.bare := rfl

theorem pmSession_counted (d : Dev) : d.counted.pmSession = d.pmSession := by rw [Dev.pmSession, nv_counted, Dev.pmSession]

theorem pmSession_of {d : Dev} {x : Session} (h : d.nv.session = some x) (hp : x.peer = false) : d.pmSession = true := by
  rw [Dev.pmSession, h]
  simp [hp]

theorem imgAbort_none {d : Dev} (h : d.pmSession = false) : imgAbort d = (d, pmData) := by
  rw [Dev.pmSession] at h
  rw [imgAbort]
  split
  next x hx =>
    rw [hx] at h
    have hp : x.peer = true := by simpa using h
    rw [if_pos hp]
  next => rfl

/-- R412: a write with a bad PEC. -/
theorem pmWrite_bad {d : Dev} (h : d.pmAnswers = true) (cmd : Nat) (g : Dev → Dev × Nat) :
    pmWrite cmd .bad g d = (d.counted.inc PM_CNT_PEC_ERR).recorded cmd true pmPec := transact_answered h _ _ _

theorem pecErr_counted (d : Dev) : (d.counted.inc PM_CNT_PEC_ERR).rd PM_CNT_PEC_ERR = satN 0xFFFF (d.rd PM_CNT_PEC_ERR + 1) := by
  rw [rd_inc_eq (by decide), rd_counted_ne _ (by decide)]
  rfl

/-- R412: what a bad PEC changes. -/
theorem changes_badPec {s : State} {cmd : Nat} {write : Bool} :
    s.changes { s with dev := settle ((s.dev.counted.inc PM_CNT_PEC_ERR).recorded cmd write pmPec) }
      { s.dev with mg := { s.dev.mg with reply := [], cml := s.dev.mg.cml ||| 32 } }
      [PM_CNT_XFERS, PM_LAST_CMD, PM_LAST_WRITE, PM_LAST_RESULT, PM_CNT_PEC_ERR] := by
  refine changes_of_recorded (l := [PM_CNT_PEC_ERR]) ?_ fun x hx => ?_
  · rw [bare_inc, bare_counted]
    rfl
  · rw [rd_inc_apart (hx _ (by simp)), rd_counted_ne _ (hx _ (by simp))]

theorem invalidCommand_eq {d : Dev} {cmd kind : Nat} {write : Bool} (ha : d.pmAnswers = true) (h : kind ≠ 2) :
    invalidCommand cmd write kind d = d.counted.recorded cmd write (kind + 1) := by
  rw [invalidCommand, transact_answered ha, if_neg h]

theorem invalidCommand_pec {d : Dev} {cmd : Nat} {write : Bool} (ha : d.pmAnswers = true) :
    invalidCommand cmd write 2 d = (d.counted.inc PM_CNT_PEC_ERR).recorded cmd write pmPec := by
  rw [invalidCommand, transact_answered ha, if_pos rfl]

/-- Settles O52. -/
theorem pMBusWrites : Obligations.PMBusWrites := by
  unfold Obligations.PMBusWrites
  refine ⟨fun s p hs ha hp => ?_, fun s p hs ha hp hcml hw => ?_, fun s w p hs ha hp => ?_, fun s p hs ha hp => ?_,
    fun s n p hs ha hp hses hg h1 h2 h3 => ?_, fun s n p hs ha hp hb => ?_, fun s n p hs ha hp hses hg hn => ?_,
    fun s o m x p hs ha hp h1 h2 hx hpeer hv hg ho hl hm => ?_, fun s o m x p hs ha hp h1 h2 hx hpeer hv hg ho => ?_,
    fun s o m b p hs ha hp h1 h2 hx => ?_, fun s o m p hs ha hp h1 h2 hx => ?_, fun s o m b p hs ha hp hm => ?_,
    fun s x p hs ha hp hx hpeer => ?_, fun s p hs ha hp hx => ?_, fun s ch sg hs ha hlen hlc hk hkk => ?_, fun s ch sg hs ha h => ?_,
    fun s ser b p hs ha hp h => ?_, fun s cmd w hs ha => ?_, fun s cmd w hs ha => ?_, fun s cmd w hs ha => ?_,
    fun s w v u n o m ser hs ha i hi => ?_⟩
  · exact completes_pmWrite rfl hs ha hp (by decide) (by decide) rfl (rd_clearFaults (by decide) _) changes_faultsCleared
  · exact completes_pmWrite rfl hs ha hp (by decide) (by decide) rfl (rd_clearFaults (by decide) _) ⟨alert_faultsCleared hcml hw, changes_faultsCleared⟩
  · refine completes_pmWrite (e := s.dev.counted.updMg fun m => { m with cml := m.cml &&& (255 - w.toNat % 256) }) rfl hs ha hp (by decide) (by decide)
      rfl rfl (changes_of_recorded (l := []) ?_ fun x hx => rd_counted_ne _ (hx _ (by simp)))
    rw [setCml_done, bare_updMg, bare_counted, Nat.mod_eq_of_lt w.isLt]
    rfl
  · refine completes_pmWrite (e := askShutdown s.dev.counted) rfl hs ha hp (by decide) (by decide) rfl (rd_wrB_apart _ (by decide)) ⟨?_,
      changes_of_recorded (l := [EV_STATUS_SHUT_DONE]) ?_ fun x hx => ?_⟩
    · rw [Dev.rdB, rd_effect (by decide)]
      exact rdB_wrB_eq false (by decide)
    · rw [setCml_done, askShutdown, bare_updEv, bare_wrB, bare_counted]
      rfl
    · rw [askShutdown, updEv_rd, rd_wrB_apart _ (hx _ (by simp)), rd_counted_ne _ (hx _ (by simp))]
  · have hf : imgOpen n.toNat s.dev.counted = (openSession false none n.toNat s.dev.counted, pmDone) := by
      rw [imgOpen_ready _ (by rw [nv_counted]; exact hses) (by rw [gateOk_counted]; exact hg), if_neg (by omega)]
    have hin : s.dev.counted.inactive = s.dev.inactive := inactive_of_flash (by rw [nv_counted])
    refine completes_pmWrite rfl hs ha hp (by decide) (by decide) hf (rd_openSession _ (by decide) _ _ _) ⟨?_, ?_, fun a h h' => ?_,
      changes_of_recorded (l := [NV_SLOT_STATE_A, NV_SLOT_STATE_B, NV_SLOT_ACTIVE, NV_SLOT_ACTIVE_VALID, NV_SLOT_SECVER_A, NV_SLOT_SECVER_B,
        NV_XFER_STATE, NV_XFER_PATH, NV_XFER_RESULT, NV_XFER_LEN_LENGTH, NV_XFER_NEXT_NEXT]) ?_ fun x hx => ?_⟩
    · rw [nv_effect, session_of_session (bare_openSession _ _ _ _), hin, time_counted]
    · rw [rd_effect (by decide), result_openSession]
    · rw [nvByte_effect, nvByte_openSession _ (by rwa [hin]) (by rwa [hin])]
    · rw [setCml_done, nv_effect, bare_openSession, session_of_session (bare_openSession _ _ _ _), bare_counted]
      exact bare_session _ _ _ _
    · rw [rd_openSession, rd_counted_ne _ (hx _ (by simp))]
      intro y hy
      refine hx y (List.mem_cons_of_mem _ ?_)
      revert hy
      revert y
      decide
  · exact completes_pmXferRefused rfl hs ha hp (by decide) (by decide) (imgOpen_busy _ (by rwa [nv_counted, gateOk_counted]))
  · refine completes_pmRefused rfl hs ha hp (by decide) ?_
    rw [imgOpen_ready _ (by rw [nv_counted]; exact hses) (by rw [gateOk_counted]; exact hg), if_pos hn]
  · have hx' : s.dev.counted.nv.session = some x := by rw [nv_counted]; exact hx
    have hlen : (nats m).length = m.length := nats_length m
    have hok := writeChunk_ok (data := nats m) hx' hv (by rw [gateOk_counted]; exact hg) ho (by rwa [hlen]) (by rw [hlen]; omega)
    have hf : imgChunk o.toNat (nats m) false s.dev.counted = (xferResult imOk (chunkWritten x o.toNat (nats m) s.dev.counted), pmDone) := by
      rw [imgChunk_length h1 h2, pmSession_counted, pmSession_of hx hpeer, hok]
      rfl
    have hbare : (xferResult imOk (chunkWritten x o.toNat (nats m) s.dev.counted)).bare = _ := (bare_xferResult _ _).trans bare_chunkWritten
    have hbyte (a : Nat) : (xferResult imOk (chunkWritten x o.toNat (nats m) s.dev.counted)).nvByte a =
        (nvProg (slotBase x.slotB + o.toNat) (nats m) s.dev.counted).nvByte a := by
      rw [nvByte_of_bare (bare_xferResult _ _), nvByte_chunkWritten]
    have hkeep (a : Nat) : s.dev.counted.nvByte a = s.dev.nvByte a := nvByte_of_flash (by rw [nv_counted]) a
    refine completes_pmWrite rfl hs ha hp (by decide) (by decide) hf
      ((rd_xferResult (by decide) _ _).trans (rd_chunkWritten (by decide))) ⟨?_, ?_, fun j hj => ?_, fun a ha => ?_,
      changes_of_recorded (l := [NV_XFER_STATE, NV_XFER_PATH, NV_XFER_RESULT, NV_XFER_LEN_LENGTH, NV_XFER_NEXT_NEXT]) ?_ fun y hy => ?_⟩
    · rw [nv_effect, session_of_session hbare, hlen, time_counted, Session.after, ho]
    · rw [rd_effect (by decide), result_xferResult (by decide)]
    · rw [nvByte_effect, hbyte, nvByte_nvProg_in (by rwa [hlen]), hkeep, nats_getD, byte_and _ (nvByte_lt _ _)]
    · rw [nvByte_effect, hbyte, nvByte_nvProg_out (by rwa [hlen]), hkeep]
    · rw [setCml_done, nv_effect, hbare, nv_of_bare (bare_xferResult _ _), session_of_session bare_chunkWritten, bare_counted]
      exact bare_session _ _ _ _
    · rw [rd_xferResult (hy _ (by simp)), rd_chunkWritten, rd_counted_ne _ (hy _ (by simp))]
      intro z hz
      refine hy z (List.mem_cons_of_mem _ ?_)
      revert hz
      revert z
      decide
  · refine completes_pmXferRefused rfl hs ha hp (by decide) (by decide : imOrder < 16) ?_
    have hord := writeChunk_order (d := s.dev.counted) (data := nats m) (off := o.toNat) (by rw [nv_counted]; exact hx) hv (by rw [gateOk_counted]; exact hg) ho
    rw [imgChunk_length h1 h2, pmSession_counted, pmSession_of hx hpeer, hord]
    rfl
  · refine completes_pmXferRefused rfl hs ha hp (by decide) (by decide : imNoSession < 16) ?_
    rw [imgChunk_length h1 h2, pmSession_counted, hx]
    rfl
  · have hf : imgChunk o.toNat (nats m) true s.dev.counted = (setCml 2 (xferResult imBusy s.dev.counted), pmData) := by
      rw [imgChunk_length h1 h2, pmSession_counted, hx]
      rfl
    refine completes_pmWrite rfl hs ha hp (by decide) (by decide) hf (rd_xferResult (by decide) _ _) ⟨?_,
      changes_of_recorded (l := [NV_XFER_RESULT]) ?_ fun x hx => ?_⟩
    · rw [rd_effect (by decide)]
      exact result_xferResult (by decide) _
    · rw [bare_setCml, bare_xferResult, bare_counted]
      rfl
    · exact (rd_xferResult (hx _ (by simp)) _ _).trans (rd_counted_ne _ (hx _ (by simp)))
  · refine completes_pmRefused rfl hs ha hp (by decide) (if_pos ?_)
    rcases hm with h | h
    · exact .inl (List.eq_nil_of_length_eq_zero (by rw [nats_length, h]))
    · exact .inr (by rwa [nats_length])
  · have hf : imgAbort s.dev.counted = (badSession x 0 s.dev.counted, pmDone) := by
      have hx' : s.dev.counted.nv.session = some x := by rw [nv_counted]; exact hx
      rw [imgAbort, hx']
      dsimp only
      rw [if_neg (by rw [hpeer]; decide)]
    have hbare := bare_badSession s.dev.counted x 0
    refine completes_pmWrite rfl hs ha hp (by decide) (by decide) hf (rd_badSession _ (by decide) _ _) ⟨?_, ?_, ?_,
      changes_of_recorded (l := [NV_SLOT_STATE_A, NV_SLOT_STATE_B, NV_SLOT_ACTIVE, NV_SLOT_ACTIVE_VALID, NV_SLOT_SECVER_A, NV_SLOT_SECVER_B,
        NV_XFER_STATE, NV_XFER_RESULT]) ?_ fun y hy => ?_⟩
    · rw [rd_effect (by decide), result_badSession]
    · rw [rd_effect (by decide), state_badSession]
    · refine (rd_effect ?_ _ _ _).trans (slotState_badSession _ _ _)
      cases x.slotB <;> decide
    · rw [setCml_done, nv_effect, hbare, bare_counted, sessionReport_counted]
      exact bare_sessionEnd _ _ _ _
    · rw [rd_badSession, rd_counted_ne _ (hy _ (by simp))]
      intro z hz
      refine hy z (List.mem_cons_of_mem _ ?_)
      revert hz
      revert z
      decide
  · exact completes_pmRefused rfl hs ha hp (by decide) (imgAbort_none (by rwa [pmSession_counted]))
  · have hf : identity s.fuses (nats ch) (nats sg) s.dev.counted =
        (reply (s.dev.serial ++ (nats sg ++ List.replicate (96 - sg.length) 0).take 96) s.dev.counted, pmDone) := by
      have hok : ¬ ((nats ch).length ≠ 32 ∨ s.dev.counted.mg.lc = .blank ∨ s.dev.counted.mg.lc = .ret ∨ s.fuses.keySet = false ∨ s.fuses.keyKilled = true) := by
        rw [nats_length, hlen, hk, hkk, mg_counted]
        rcases hlc with h | h <;> simp [h]
      rw [identity, if_neg hok, Dev.serial, nvBytes_counted, nats_length, Dev.serial]
    refine completes_transact rfl hs ha (by decide) (by decide) hf rfl
      (changes_of_recorded (l := []) ?_ fun x hx => rd_counted_ne _ (hx _ (List.mem_singleton.mpr rfl)))
    rw [setCml_done, bare_reply, bare_counted]
    rfl
  · refine completes_transact rfl hs ha (by decide) (by decide) (if_pos ?_) rfl (changes_refused rfl)
    rwa [nats_length, mg_counted]
  · have hret : s.dev.returns (nats ser) b p = false := by
      rcases h with h | h | h <;> simp [Dev.returns, h]
    have hc : exec (.mfrJzReturn ser b p) s = done (mfrReturn (nats ser) b p) s := by
      change done (mfrReturn (nats ser) b p) { s with fuses := returnFuses (s.dev.returns (nats ser) b p) s.fuses } = _
      rw [hret]
      rfl
    have hno : ¬ (s.dev.mg.lc = .field ∧ b = true ∧ nats ser = s.dev.serial) := by
      rintro ⟨h1, h2, h3⟩
      rcases h with h | h | h
      · exact h h1
      · rw [h2] at h
        exact absurd h (by decide)
      · exact h h3
    have hg : mfrReturn (nats ser) b p s.dev = s.dev.counted.recorded 0xE9 true pmData := by
      rw [mfrReturn, pmWrite_passed ha hp]
      dsimp only
      rw [if_neg hno]
    exact completes_recorded hc hs hg (by decide) (by decide) (rd_counted_xfers _) (changes_refused rfl)
  · exact completes_recorded rfl hs (invalidCommand_eq ha (by decide)) cmd.isLt (by decide) (rd_counted_xfers _) (changes_refused rfl)
  · exact completes_recorded rfl hs (invalidCommand_eq ha (by decide)) cmd.isLt (by decide) (rd_counted_xfers _) (changes_refused rfl)
  · refine completes_recorded rfl hs (invalidCommand_pec ha) cmd.isLt (by decide) ((rd_inc_apart (by decide)).trans (rd_counted_xfers _))
      ⟨?_, changes_badPec⟩
    rw [rd_effect (by decide), pecErr_counted]
  · have hbad {c : Instr} {cmd : Nat} {g : Dev → Dev} (hc : exec c s = done g s)
        (hg : g s.dev = (s.dev.counted.inc PM_CNT_PEC_ERR).recorded cmd true pmPec) : Completes c s fun t =>
        t.dev.rd PM_LAST_RESULT = 3 ∧ t.dev.rd PM_CNT_PEC_ERR = satN 0xFFFF (s.dev.rd PM_CNT_PEC_ERR + 1) ∧
          s.changes t { s.dev with mg := { s.dev.mg with reply := [], cml := s.dev.mg.cml ||| 32 } }
            [PM_CNT_XFERS, PM_LAST_CMD, PM_LAST_WRITE, PM_LAST_RESULT, PM_CNT_PEC_ERR] := by
      refine completes_eq hc hs hg ⟨?_, ?_, changes_badPec⟩
      · rw [rd_settle (by decide), rd_recorded_result _ _ _ (by decide)]
        rfl
      · rw [rd_effect (by decide), pecErr_counted]
    simp only [List.mem_cons, List.not_mem_nil, or_false] at hi
    rcases hi with rfl | rfl | rfl | rfl | rfl | rfl | rfl | rfl
    · exact hbad rfl (pmWrite_bad ha _ _)
    · exact hbad (g := statusCml (some w.toNat) .bad) rfl (by rw [statusCml, pmWrite_bad ha])
    · exact hbad rfl (pmWrite_bad ha _ _)
    · exact hbad rfl (pmWrite_bad ha _ _)
    · exact hbad rfl (pmWrite_bad ha _ _)
    · exact hbad rfl (pmWrite_bad ha _ _)
    · exact hbad rfl (pmWrite_bad ha _ _)
    · refine hbad (cmd := 0xE9) (g := mfrReturn (nats ser) u .bad) ?_ (by rw [mfrReturn, pmWrite_bad ha])
      change done (mfrReturn (nats ser) u .bad) { s with fuses := returnFuses (s.dev.returns (nats ser) u .bad) s.fuses } = _
      have hret : s.dev.returns (nats ser) u .bad = false := by simp [Dev.returns]
      rw [hret]
      rfl

end Sys2Proof.Machine
end

section
/-! O54: the test access port and the trace (R425, R427 to R429, R432). -/

namespace Sys2Proof.Machine

/-! Numbers made of bits. -/

/-- The number whose bits below n are those of c. -/
def bitsNum (c : Nat → Bool) (n : Nat) : Nat := sumN ((List.range n).map fun i => b01 (c i) * 2 ^ i)

theorem bitsNum_succ (c : Nat → Bool) (n : Nat) : bitsNum c (n + 1) = bitsNum c n + b01 (c n) * 2 ^ n := by
  rw [bitsNum, List.range_succ, List.map_append, sumN, List.foldl_append]
  rfl

theorem bitsNum_lt (c : Nat → Bool) (n : Nat) : bitsNum c n < 2 ^ n := by
  induction n with
  | zero => exact Nat.zero_lt_one
  | succ n ih =>
    rw [bitsNum_succ, Nat.pow_succ]
    have hbit : b01 (c n) * 2 ^ n ≤ 1 * 2 ^ n := Nat.mul_le_mul_right _ (by cases c n <;> decide)
    omega

theorem bitOf_bitsNum (c : Nat → Bool) {n k : Nat} (h : k < n) : bitOf (bitsNum c n) k = c k := by
  induction n with
  | zero => omega
  | succ n ih =>
    have hsum : bitsNum c (n + 1) = 2 ^ n * b01 (c n) + bitsNum c n := by rw [bitsNum_succ, Nat.mul_comm, Nat.add_comm]
    rw [bitOf, hsum, Nat.testBit_two_pow_mul_add _ (bitsNum_lt c n)]
    split
    next hk => exact ih hk
    next hk =>
      have hkn : k = n := by omega
      rw [hkn, Nat.sub_self]
      cases c n <;> rfl

/-- R428: the cells captured. -/
theorem bitOf_capture (d : Dev) (pins : Nat) {k : Nat} (h : k < 27) : bitOf (d.capture pins) k = d.captureCell pins k :=
  bitOf_bitsNum (d.captureCell pins) h

/-! How a TAP command completes. -/

section
variable {c : Instr} {s : State} {g : Dev → Dev} {d e : Dev} {Q : State → Prop} {code : Nat}

theorem completes_always (hc : exec c s = always g s) (hg : g s.dev = d) (hq : Q { s with dev := settle d }) : Completes c s Q :=
  ⟨_, hc.trans (always_next _ _), by rw [hg]; exact hq⟩

/-- A TAP command under the selvedge's rule, while RESET_N is low. -/
theorem completes_held (hc : exec c s = always (selvedge g) s) (hN : s.dev.pins.resetN = false) (hg : g s.dev = d) (hfc : d.fc = s.dev.fc)
    (hq : Q { s with dev := settle d }) : Completes c s Q := by
  refine completes_always hc ?_ hq
  rw [selvedge, if_neg (by rw [hN]; decide), hg, ← hfc]

theorem bare_tapLoad (code : Nat) (d : Dev) : (tapLoad code d).bare = d.bare.updMg fun m => { m with ir := code, extest := code = 0 } := by
  rw [tapLoad, bare_wrB, bare_updMg]

theorem rd_tapLoad {x : Fld} (h : x.apart BT_STATUS_TAP) (code : Nat) (d : Dev) : (tapLoad code d).rd x = d.rd x := by
  rw [tapLoad, rd_wrB_apart _ h, Dev.updMg_rd]

theorem rdB_tapLoad {x : Fld} (h : x.apart BT_STATUS_TAP) (code : Nat) (d : Dev) : (tapLoad code d).rdB x = d.rdB x := by
  rw [Dev.rdB, rd_tapLoad h, Dev.rdB]

theorem tap_tapLoad (code : Nat) (d : Dev) : (tapLoad code d).rdB BT_STATUS_TAP = decide (code = tapMbus) := rdB_wrB_eq _ (by decide)

/-- What an instruction that loads and then touches no register shows and changes. -/
theorem changes_tapLoad (hb : d.bare = e.bare) (hr : ∀ x, d.rd x = (tapLoad code s.dev).rd x) :
    s.changes { s with dev := settle d } e [BT_STATUS_TAP] :=
  changes_bare hb fun x hx => by rw [hr, rd_tapLoad (hx _ (List.mem_singleton.mpr rfl))]

theorem tap_settled (hr : ∀ x, d.rd x = (tapLoad code s.dev).rd x) : (settle d).rdB BT_STATUS_TAP = decide (code = tapMbus) := by
  rw [rdB_settle (by decide), Dev.rdB, hr]
  exact tap_tapLoad code s.dev

theorem scanCells_rd (pins cells : Nat) (d : Dev) (x : Fld) : (scanCells pins cells d).rd x = d.rd x := by
  rw [scanCells, Dev.updMg_rd]

theorem bare_scanCells (pins cells : Nat) (d : Dev) :
    (scanCells pins cells d).bare = d.bare.updMg fun m => { m with dr := d.capture pins, bsr := cells } := by
  rw [scanCells, bare_updMg]

end

/-! What a scan captures (R428, R429). -/

section
variable {d : Dev} {pins : Nat}

theorem captureCell_resetN : d.captureCell pins 0 = d.pins.resetN := rfl
theorem captureCell_coolOk : d.captureCell pins 2 = d.pins.coolOk := rfl
theorem captureCell_trip : d.captureCell pins 6 = !d.pinLow 6 := rfl

theorem captureCell_input : d.captureCell pins 1 = bitOf pins 1 := by
  have hfind : heldCells.find? (fun x => x.1 = 1) = none := by decide
  rw [Dev.captureCell, if_neg (by decide), if_neg (by decide), if_neg (by decide), hfind, ite_self]

/-- R429: while EXTEST drives the pins, JZ_TRIP_N stands as its cell has it, unless the selvedge drives it. -/
theorem captureCell_trip_extest (h : d.extests = true) : d.captureCell pins 6 = (bitOf d.mg.bsr 6 && !d.rdB JZ_SEL_STATUS_TRIP_PIN) := by
  have hlow : d.drivesLow 6 = d.rdB JZ_SEL_STATUS_TRIP_PIN := rfl
  rw [captureCell_trip, Dev.pinLow, if_pos h, hlow]
  cases bitOf d.mg.bsr 6 <;> cases d.rdB JZ_SEL_STATUS_TRIP_PIN <;> rfl

theorem captureCell_trip_drive (h : d.extests = false) : d.captureCell pins 6 = !d.rdB JZ_SEL_STATUS_TRIP_PIN := by
  rw [captureCell_trip, Dev.pinLow, if_neg (by rw [h]; decide)]
  rfl

end

/-! A scan of the boundary register, as the TAP loads it. -/

section
variable (d : Dev)

@[simp] theorem settle_ir : (settle d).mg.ir = d.mg.ir := by rw [settle_eq d]
@[simp] theorem settle_extest : (settle d).mg.extest = d.mg.extest := by rw [settle_eq d]
@[simp] theorem settle_bsr : (settle d).mg.bsr = d.mg.bsr := by rw [settle_eq d]
@[simp] theorem settle_dr : (settle d).mg.dr = d.mg.dr := by rw [settle_eq d]

theorem mg_updMg (g : MgmtS → MgmtS) : (d.updMg g).mg = g d.mg := rfl

theorem mg_tapLoad (code : Nat) : (tapLoad code d).mg = { d.mg with ir := code, extest := code = 0 } := by
  rw [tapLoad, Dev.wrB_mg, mg_updMg]

theorem pins_tapLoad (code : Nat) : (tapLoad code d).pins = d.pins := by
  rw [tapLoad, Dev.wrB_pins, Dev.updMg_pins]

theorem mg_scan (code pins cells : Nat) : (scanCells pins cells (tapLoad code d)).mg =
    { d.mg with ir := code, extest := code = 0, dr := (tapLoad code d).capture pins, bsr := cells } := by
  rw [scanCells, mg_updMg, mg_tapLoad]

/-- A bare device with a TAP's instruction, data register and boundary register. -/
theorem bare_tapMg (code z cells : Nat) :
    ((d.bare.updMg fun m => { m with ir := code, extest := code = 0 }).updMg fun m => { m with dr := z, bsr := cells }) =
      Dev.bare { d with mg := { d.mg with ir := code, extest := code = 0, bsr := cells, dr := z } } := rfl

theorem bare_scan (code pins cells : Nat) : (scanCells pins cells (tapLoad code d)).bare = Dev.bare
    { d with mg := { d.mg with ir := code, extest := code = 0, bsr := cells, dr := (scanCells pins cells (tapLoad code d)).mg.dr } } := by
  rw [bare_scanCells, bare_tapLoad, mg_scan]
  exact bare_tapMg _ _ _ _

/-- What a scan shows of a cell. -/
theorem bitOf_scan (code pins cells : Nat) {k : Nat} (h : k < 27) :
    bitOf (settle (scanCells pins cells (tapLoad code d))).mg.dr k = (tapLoad code d).captureCell pins k := by
  rw [settle_dr, mg_scan]
  exact bitOf_capture _ _ h

/-- What a scan changes. -/
theorem changes_scan {s : State} (code pins cells : Nat) : s.changes { s with dev := settle (scanCells pins cells (tapLoad code s.dev)) }
    { s.dev with mg := { s.dev.mg with ir := code, extest := code = 0, bsr := cells, dr := (settle (scanCells pins cells (tapLoad code s.dev))).mg.dr } }
    [BT_STATUS_TAP] := by
  rw [settle_dr]
  exact changes_tapLoad (bare_scan _ _ _ _) (scanCells_rd _ _ _)

end

/-! The bus of the TAP (R357, R427). -/

theorem busWrite_tap {fz : Fuses} {sub a : Nat} {v : Word} {d : Dev} (h : inSram a = true) (ha : a % 4 = 0) :
    busWrite fz .tap sub a v d = putWord (a - 0x10000000) v d := by
  simp [busWrite, Dev.denied, ha, decoded_of_inSram h, inRom_of_inSram h, h]

theorem busRead_tap {fz : Fuses} {sub a : Nat} {d : Dev} (h : inSram a = true) (ha : a % 4 = 0) :
    busRead fz .tap sub a d = answer (d.memWord (a - 0x10000000)) d := by
  simp [busRead, Dev.denied, ha, decoded_of_inSram h, inRom_of_inSram h, h]

/-- P1's reach in BLANK and RETURN (R427). -/
theorem tapAccess_sram_write {fz : Fuses} {sub a : Nat} {v : Word} {d : Dev} (hN : d.pins.resetN = true) (hlc : d.mg.lc ≠ .test)
    (h : inSram a = true) (ha : a % 4 = 0) : tapAccess fz true a v sub d =
      (answer v (putWord (a - 0x10000000) v d)).updMg fun x => { x with dr := 2 * 2 ^ 64 + a * 2 ^ 32 + v.toNat } := by
  simp -implicitDefEqProofs [tapAccess, hN, hlc, busWrite_tap h ha, answer]

theorem tapAccess_sram_read {fz : Fuses} {sub a : Nat} {v : Word} {d : Dev} (hN : d.pins.resetN = true) (hlc : d.mg.lc ≠ .test)
    (h : inSram a = true) (ha : a % 4 = 0) : tapAccess fz false a v sub d =
      (answer (d.memWord (a - 0x10000000)) d).updMg fun x => { x with dr := 2 ^ 64 + a * 2 ^ 32 + (d.memWord (a - 0x10000000)).toNat } := by
  simp -implicitDefEqProofs [tapAccess, hN, hlc, busRead_tap h ha, answer]

/-- In TEST the TAP reaches the BT_ block alone (R357). -/
theorem tapAccess_outside {fz : Fuses} {sub a : Nat} {v : Word} {write : Bool} {d : Dev} (hN : d.pins.resetN = true) (hlc : d.mg.lc = .test)
    (h : a < 0x20070000 ∨ 0x20080000 ≤ a) : tapAccess fz write a v sub d =
      (answer 0 (busFault .tap a write d)).updMg fun x => { x with dr := (if write then 2 else 1) * 2 ^ 64 + a * 2 ^ 32 } := by
  have hout' : (decide (0x20070000 ≤ a) && decide (a < 0x20080000)) = false := by
    rw [Bool.and_eq_false_iff, decide_eq_false_iff_not, decide_eq_false_iff_not]
    omega
  simp -implicitDefEqProofs only [tapAccess, hN, hlc, hout', answer, Bool.not_true, Bool.false_eq_true, decide_true, Bool.not_false, Bool.and_true,
    if_true, if_false, BitVec.ofNat_eq_ofNat, BitVec.toNat_ofNat, Nat.zero_mod, Nat.add_zero]

/-- A word of the SRAM depends on the SRAM alone. -/
theorem memWord_of_sram {d e : Dev} (h : d.sram = e.sram) (o : Nat) : d.memWord o = e.memWord o := by
  simp only [Dev.memWord, Dev.byte, h]

theorem answer_sram (w : Word) (d : Dev) : (answer w d).sram = d.sram := rfl
theorem sram_tapLoad (code : Nat) (d : Dev) : (tapLoad code d).sram = d.sram := by rw [tapLoad, Dev.wrB_sram, Dev.updMg_sram]

theorem nv_tapLoad (code : Nat) (d : Dev) : (tapLoad code d).nv = d.nv := by rw [tapLoad, Dev.wrB_nv, Dev.updMg_nv]
theorem flash_settle (d : Dev) : (settle d).nv.flash = d.nv.flash := by rw [settle_nv]

/-- Under the selvedge's rule a load of the TAP is the same whatever RESET_N is. -/
theorem selvedge_tapLoad {g : Dev → Dev} {d : Dev} {code : Nat} (h : g d = tapLoad code d) : selvedge g d = tapLoad code d := by
  rw [selvedge, h]
  split <;> rfl

theorem bare_putWord (o : Nat) (w : Word) (d : Dev) : (putWord o w d).bare = { d.bare with sram := (putWord o w d).sram } := by
  have h := congrArg Dev.bare (putBytes_eq o (leBytes 4 w.toNat) d)
  exact h

theorem putWord_rd (o : Nat) (w : Word) (d : Dev) (x : Fld) : (putWord o w d).rd x = d.rd x := by
  rw [putWord, putBytes_eq]
  rfl


/-- A bare device with a TAP's instruction, its access and its data register. -/
theorem bare_tapBus (d : Dev) (code z : Nat) (y : Tab Byte) (w : Word) :
    (answer w { (d.bare.updMg fun m => { m with ir := code, extest := code = 0 }) with sram := y }).updMg (fun m => { m with dr := z }) =
      Dev.bare { d with mg := { d.mg with ir := code, extest := code = 0, dr := z }, sram := y, busData := w } := rfl

/-- R427: an instruction that is refused shows BYPASS, and is reported. -/
theorem completes_tapRefuse_shown {c : Instr} {s : State} {g : Dev → Dev} {fz : Fuses} {code : Nat}
    (hc : exec c s = always (selvedge g) { s with fuses := fz }) (hs : s.awake) (hg : g s.dev = tapRefuse code s.dev) (hfz : fz = s.fuses) :
    Completes c s fun t => t.dev.rdB BT_STATUS_TAP = false ∧ s.changes t
      { s.dev with
        mg := { s.dev.mg with ir := 255, extest := false }
        fc := { s.dev.fc with raised := s.dev.fc.raised ++ [{ s.dev.report .secure 2 central 0 with addr := code, master := 1 }] } }
      [BT_STATUS_TAP] := by
  subst hfz
  refine completes_selvedge hc hs ?_
  rw [hg]
  exact ⟨tap_settled (code := tapBypass) fun x => rfl, changes_settle rfl fun x hx => tapLoad_fields tapBypass s.dev hx⟩

/-- Settles O54. -/
theorem testPortAndTrace : Obligations.TestPortAndTrace := by
  unfold Obligations.TestPortAndTrace
  refine ⟨fun s => ?_, fun s => ?_, fun s x y hs hlc => ?_, fun s x y hs hlc => ?_, fun s x y hN => ?_, fun s x y hex => ?_,
    fun s a v q hs hlc h1 h2 h3 => ?_, fun s a v q hs hlc h1 h2 h3 => ?_, fun s a v q b hs hlc => ?_, fun s a v q b hs hlc ha => ?_,
    fun s r c n hs hlc => ?_, fun s r c n hs hlc => ?_, fun s b hs hlc hk hlen => ?_, fun s b hs hlc hk => ?_, fun s b hs hlc => ?_,
    fun s => ?_, fun s c hc => ?_, fun s c hs hc => ?_, fun s hs ht => ?_, fun s hs ht => ?_, fun s hs => ?_, fun s hs hrm ht => ?_, fun s hs h => ?_⟩
  · refine completes_always rfl rfl ⟨tap_settled fun _ => rfl, changes_tapLoad ?_ fun _ => rfl⟩
    rw [tapReset, bare_tapLoad]
    rfl
  · refine completes_always rfl (tap_allowed rfl) ⟨tap_settled (code := 1) fun _ => rfl, changes_tapLoad (code := 1) ?_ fun _ => rfl⟩
    rw [bare_updMg, bare_tapLoad]
    rfl
  · have hallow : tapAllows 0 s.dev.mg.lc s.dev.pins.resetN = some true := by simp [tapAllows, hlc]
    have hext : (tapLoad 0 s.dev).extests = true := by
      simp [Dev.extests, mg_tapLoad, hlc]
    refine completes_selvedge (fz := s.fuses) rfl hs ?_
    rw [tap_allowed hallow]
    refine ⟨tap_settled (code := 0) (scanCells_rd _ _ _), ?_, ?_, ?_, ?_, ?_, ?_, ?_, changes_scan 0 x.toNat y.toNat⟩
    · rw [settle_ir, mg_scan]
    · rw [settle_extest, mg_scan]
      rfl
    · rw [settle_bsr, mg_scan]
    · rw [bitOf_scan _ _ _ _ (by decide), captureCell_resetN, pins_tapLoad, hs.resetN]
    · rw [bitOf_scan _ _ _ _ (by decide), captureCell_coolOk, pins_tapLoad]
    · rw [bitOf_scan _ _ _ _ (by decide), captureCell_trip_extest hext, rdB_tapLoad (by decide), mg_tapLoad]
    · rw [bitOf_scan _ _ _ _ (by decide), captureCell_input]
  · exact completes_tapRefuse (fz := s.fuses) rfl hs (tap_field hlc hs.resetN (by decide)) rfl
  · have hallow : tapAllows 0 s.dev.mg.lc s.dev.pins.resetN = some true := by simp [tapAllows, hN]
    have hfc : (scanCells x.toNat y.toNat (tapLoad 0 s.dev)).fc = s.dev.fc := by
      rw [fc_of_bare (bare_scan _ _ _ _)]
    refine completes_held rfl hN (tap_allowed hallow) hfc ⟨?_, ?_, ?_, ?_, changes_scan 0 x.toNat y.toNat⟩
    · rw [settle_ir, mg_scan]
    · rw [settle_extest, mg_scan]
      rfl
    · rw [settle_bsr, mg_scan]
    · rw [bitOf_scan _ _ _ _ (by decide), captureCell_resetN, pins_tapLoad, hN]
  · have hext : (tapLoad 2 s.dev).extests = false := by simp [Dev.extests, mg_tapLoad]
    refine completes_always rfl (tap_allowed rfl) ⟨tap_settled (code := 2) (scanCells_rd _ _ _), ?_, ?_, ?_, ?_, ?_, changes_scan 2 x.toNat y.toNat⟩
    · rw [settle_bsr, mg_scan]
    · rw [bitOf_scan _ _ _ _ (by decide), captureCell_resetN, pins_tapLoad]
    · rw [bitOf_scan _ _ _ _ (by decide), captureCell_coolOk, pins_tapLoad]
    · rw [bitOf_scan _ _ _ _ (by decide), captureCell_trip_drive hext, rdB_tapLoad (by decide)]
    · rw [bitOf_scan _ _ _ _ (by decide), captureCell_input]
  · have hram : inSram a.toNat = true := (inSram_iff _).mpr (by omega)
    have hlc' : (tapLoad tapMbus s.dev).mg.lc ≠ .test := by
      rw [mg_tapLoad]
      rcases hlc with h | h <;> simp [h]
    have hallow : tapAllows tapMbus s.dev.mg.lc s.dev.pins.resetN = some true := by rcases hlc with h | h <;> rw [h] <;> rfl
    refine completes_selvedge (fz := s.fuses) rfl hs ?_
    rw [tap_allowed hallow, tapAccess_sram_write (by rw [pins_tapLoad, hs.resetN]) hlc' hram h3]
    have hr (x : Fld) : ((answer v (putWord (a.toNat - 0x10000000) v (tapLoad tapMbus s.dev))).updMg fun m =>
        { m with dr := 2 * 2 ^ 64 + a.toNat * 2 ^ 32 + v.toNat }).rd x = (tapLoad tapMbus s.dev).rd x := by
      rw [Dev.updMg_rd, answer_rd, putWord_rd]
    refine ⟨?_, ?_, tap_settled hr, changes_tapLoad ?_ hr⟩
    · rw [memWord_of_sram (settle_sram _), memWord_of_sram (Dev.updMg_sram _ _), memWord_of_sram (answer_sram _ _), memWord_putWord]
    · rw [settle_dr, mg_updMg]
    · rw [settle_dr, settle_sram, mg_updMg, Dev.updMg_sram, answer_sram, bare_updMg, bare_answer, bare_putWord, bare_tapLoad]
      exact bare_tapBus _ _ _ _ _
  · have hram : inSram a.toNat = true := (inSram_iff _).mpr (by omega)
    have hlc' : (tapLoad tapMbus s.dev).mg.lc ≠ .test := by
      rw [mg_tapLoad]
      rcases hlc with h | h <;> simp [h]
    have hallow : tapAllows tapMbus s.dev.mg.lc s.dev.pins.resetN = some true := by rcases hlc with h | h <;> rw [h] <;> rfl
    refine completes_selvedge (fz := s.fuses) rfl hs ?_
    rw [tap_allowed hallow, tapAccess_sram_read (by rw [pins_tapLoad, hs.resetN]) hlc' hram h3]
    have hword : (tapLoad tapMbus s.dev).memWord (a.toNat - 0x10000000) = s.dev.memWord (a.toNat - 0x10000000) :=
      memWord_of_sram (sram_tapLoad _ _) _
    rw [hword]
    generalize s.dev.memWord (a.toNat - 0x10000000) = w
    have hr (x : Fld) : ((answer w (tapLoad tapMbus s.dev)).updMg fun m =>
        { m with dr := 2 ^ 64 + a.toNat * 2 ^ 32 + w.toNat }).rd x = (tapLoad tapMbus s.dev).rd x := by
      rw [Dev.updMg_rd, answer_rd]
    refine ⟨?_, ?_, tap_settled hr, changes_tapLoad ?_ hr⟩
    · rw [settle_busData, Dev.updMg_busData, answer_busData]
    · rw [settle_dr, mg_updMg, settle_busData, Dev.updMg_busData, answer_busData]
    · rw [settle_dr, mg_updMg, settle_busData, Dev.updMg_busData, answer_busData, bare_updMg, bare_answer, bare_tapLoad]
      exact bare_tapBus _ _ _ s.dev.sram _
  · exact completes_tapRefuse_shown (fz := s.fuses) rfl hs (tap_field hlc hs.resetN (by decide)) rfl
  · have hallow : tapAllows tapMbus s.dev.mg.lc s.dev.pins.resetN = some true := by rw [hlc]; rfl
    refine completes_selvedge (fz := s.fuses) rfl hs ?_
    rw [tap_allowed hallow, tapAccess_outside (by rw [pins_tapLoad, hs.resetN]) (by rw [mg_tapLoad]; exact hlc) ha]
    have hr (x : Fld) : ((answer 0 (busFault .tap a.toNat b (tapLoad tapMbus s.dev))).updMg fun m =>
        { m with dr := (if b then 2 else 1) * 2 ^ 64 + a.toNat * 2 ^ 32 }).rd x = (tapLoad tapMbus s.dev).rd x := by
      rw [Dev.updMg_rd, answer_rd, busFault, Dev.raiseR_rd]
    refine ⟨tap_settled hr, ?_, changes_tapLoad ?_ hr⟩
    · rw [settle_dr, mg_updMg]
    · rw [settle_dr, mg_updMg, bare_updMg, bare_answer, busFault, bare_raiseR, bare_tapLoad]
      rfl
  · have hallow : tapAllows 0x11 s.dev.mg.lc s.dev.pins.resetN = some true := by rw [hlc]; rfl
    refine completes_selvedge rfl hs ?_
    rw [tap_allowed hallow]
    refine ⟨tap_settled (code := 0x11) fun x => rfl, ?_, changes_settle (s := { s with fuses := _ }) rfl fun x hx => tapLoad_fields 0x11 s.dev hx⟩
    rw [fuseProg, if_pos hlc]
    cases r <;> rfl
  · refine completes_tapRefuse rfl hs (tap_refused ?_) (if_neg hlc)
    simp [tapAllows, hlc]
  · have hallow : tapAllows 0x12 s.dev.mg.lc s.dev.pins.resetN = some true := by rw [hlc]; rfl
    have hg : idKey s.fuses (nats b) s.dev = nvProg 0x10008 (nats b) (tapLoad 0x12 s.dev) := by
      rw [idKey, tap_allowed hallow, if_neg (by rw [hk]; decide), List.take_of_length_le (by rwa [nats_length])]
    have hkeep (a : Nat) : (tapLoad 0x12 s.dev).nvByte a = s.dev.nvByte a := nvByte_of_flash (by rw [nv_tapLoad]) a
    refine completes_selvedge rfl hs ?_
    rw [hg]
    refine ⟨if_pos hlc, fun j hj => ?_, fun a ha => ?_, changes_bare (s := { s with fuses := _ }) ?_ fun x hx => ?_⟩
    · rw [nvByte_of_flash (flash_settle _), nvByte_nvProg_in (by rwa [nats_length]), hkeep, nats_getD, byte_and _ (nvByte_lt _ _)]
    · rw [nvByte_of_flash (flash_settle _), nvByte_nvProg_out (by rwa [nats_length]), hkeep]
    · rw [flash_settle, bare_nvProg, bare_tapLoad]
      generalize (nvProg 0x10008 (nats b) (tapLoad 0x12 s.dev)).nv.flash = y
      rfl
    · rw [rd_nvProg, rd_tapLoad (hx _ (List.mem_singleton.mpr rfl))]
  · have hallow : tapAllows 0x12 s.dev.mg.lc s.dev.pins.resetN = some true := by rw [hlc]; rfl
    have hg : idKey s.fuses (nats b) s.dev = tapLoad 0x12 s.dev := by
      rw [idKey, tap_allowed hallow, if_pos hk]
    have hfz : idKeyFuses s.dev s.fuses = s.fuses := by
      rw [idKeyFuses, if_pos hlc, ← hk]
    refine completes_selvedge rfl hs ?_
    rw [hg, hfz]
    exact changes_settle rfl fun x hx => tapLoad_fields 0x12 s.dev hx
  · refine completes_tapRefuse rfl hs (tap_refused ?_) (if_neg hlc)
    simp [tapAllows, hlc]
  · have hg : bypass 0xFF s.dev = tapLoad tapBypass s.dev := by rw [bypass]; rfl
    exact completes_always rfl (selvedge_tapLoad hg) ⟨tap_settled (code := tapBypass) fun x => rfl,
      changes_settle rfl fun x hx => tapLoad_fields tapBypass s.dev hx⟩
  · have hg : bypass c.toNat s.dev = tapLoad tapBypass s.dev := by rw [bypass, hc]
    exact completes_always rfl (selvedge_tapLoad hg) ⟨tap_settled (code := tapBypass) fun x => rfl,
      changes_settle rfl fun x hx => tapLoad_fields tapBypass s.dev hx⟩
  · have hg : bypass c.toNat s.dev = tapRefuse c.toNat s.dev := by rw [bypass, hc]
    exact completes_tapRefuse_shown (fz := s.fuses) rfl hs hg rfl
  · have hg : traceArm s.dev = ((((s.dev.wrB DB_STATUS_ARMED true).wrB DB_STATUS_RUN false).wrB DB_STATUS_DONE false).wr DB_STATUS_NEXT 0).updMg
        fun m => { m with traceAt := s.dev.mg.traceSet, traceStop := false } := by
      rw [traceArm]
      exact if_neg (by omega)
    refine completes_eq rfl hs hg ⟨?_, ?_, ?_, ?_, changes_bare ?_ fun x hx => ?_⟩
    · rw [rdB_settle (by decide), Dev.updMg_rdB, rdB_wr_apart _ (by decide), rdB_wrB_apart _ (by decide), rdB_wrB_apart _ (by decide),
        rdB_wrB_eq _ (by decide)]
    · rw [rdB_settle (by decide), Dev.updMg_rdB, rdB_wr_apart _ (by decide), rdB_wrB_apart _ (by decide), rdB_wrB_eq _ (by decide)]
    · rw [rdB_settle (by decide), Dev.updMg_rdB, rdB_wr_apart _ (by decide), rdB_wrB_eq _ (by decide)]
    · rw [rd_settle (by decide), Dev.updMg_rd, rd_wr_eq _ (by decide)]
      rfl
    · rw [bare_updMg, bare_wr, bare_wrB, bare_wrB, bare_wrB]
      rfl
    · rw [Dev.updMg_rd, rd_wr_apart _ (hx _ (by simp)), rd_wrB_apart _ (hx _ (by simp)), rd_wrB_apart _ (hx _ (by simp)),
        rd_wrB_apart _ (hx _ (by simp))]
  · exact completes_conflict rfl hs (if_pos ht) (by decide) (by decide)
  · exact completes_eq rfl hs rfl (changes_bare rfl fun x _ => rfl)
  · have hg : traceStart s.dev = ((s.dev.wrB DB_STATUS_ARMED false).wrB DB_STATUS_RUN true).wr DB_STATUS_NEXT 0 := if_pos ⟨hrm, ht⟩
    refine completes_eq rfl hs hg ⟨?_, ?_, ?_, changes_bare ?_ fun x hx => ?_⟩
    · rw [rdB_settle (by decide), rdB_wr_apart _ (by decide), rdB_wrB_apart _ (by decide), rdB_wrB_eq _ (by decide)]
    · rw [rdB_settle (by decide), rdB_wr_apart _ (by decide), rdB_wrB_eq _ (by decide)]
    · rw [rd_settle (by decide), rd_wr_eq _ (by decide)]
      rfl
    · rw [bare_wr, bare_wrB, bare_wrB]
    · rw [rd_wr_apart _ (hx _ (by simp)), rd_wrB_apart _ (hx _ (by simp)), rd_wrB_apart _ (hx _ (by simp))]
  · refine completes_unchanged rfl hs (if_neg ?_)
    rintro ⟨h1, h2⟩
    rcases h with h | h
    · rw [h1] at h
      exact absurd h (by decide)
    · omega

end Sys2Proof.Machine
end

section
/-! O42: clock gates and the clock output (R312 to R316). -/

namespace Sys2Proof.Machine

section
variable {v : Nat} {d : Dev}

/-- R312: the gates that a write of CK_GATE closes. -/
def Dev.closing (d : Dev) (v : Nat) : List Nat := gated.filter fun b => d.rdB (CK_GATE_EN b) && !bitOf v b

/-- R312: the enables as a write of CK_GATE sets them. -/
def enables (v : Nat) : Dev → Dev := forL gated fun b d => d.wrB (CK_GATE_EN b) (bitOf v b)

/-- R314: gates begin to quiesce, those that are open. -/
def quiesce (l : List Nat) : Dev → Dev := forL l fun b d => d.wrB (CK_GATE_STAT_QUIESCE_BIT b) (d.rdB (CK_GATE_STAT_OPEN_BIT b))

theorem ckGate_closes (h : ∀ b ∈ d.closing v, d.mayClose b = true) : ckGate v d = quiesce (d.closing v) (enables v d) :=
  if_pos (List.all_eq_true.mpr h)

theorem mem_closing {b : Nat} : b ∈ d.closing v ↔ b ∈ gated ∧ d.rdB (CK_GATE_EN b) = true ∧ bitOf v b = false := by
  rw [Dev.closing, List.mem_filter, Bool.and_eq_true, Bool.not_eq_true']

theorem gated_lt {b : Nat} (h : b ∈ gated) : b < 12 := by
  revert b
  decide

theorem nodup_gated : gated.Nodup := by decide

theorem gateEn_ne {b c : Nat} (h : b ≠ c) : (CK_GATE_EN b).apart (CK_GATE_EN c) := by simp only [Fld.apart, CK_GATE_EN]; omega
theorem gateQuiesce_ne {b c : Nat} (h : b ≠ c) : (CK_GATE_STAT_QUIESCE_BIT b).apart (CK_GATE_STAT_QUIESCE_BIT c) := by
  simp only [Fld.apart, CK_GATE_STAT_QUIESCE_BIT]
  omega
theorem gateOpen_quiesce {b c : Nat} (h : b < 12) : (CK_GATE_STAT_OPEN_BIT b).apart (CK_GATE_STAT_QUIESCE_BIT c) := by
  simp only [Fld.apart, CK_GATE_STAT_OPEN_BIT, CK_GATE_STAT_QUIESCE_BIT]
  omega
theorem gateStat_en (b c : Nat) : (CK_GATE_STAT_QUIESCE_BIT b).apart (CK_GATE_EN c) ∧ (CK_GATE_STAT_OPEN_BIT b).apart (CK_GATE_EN c) ∧
    (CK_GATE_EN c).apart (CK_GATE_STAT_QUIESCE_BIT b) := by simp [Fld.apart, CK_GATE_STAT_QUIESCE_BIT, CK_GATE_STAT_OPEN_BIT, CK_GATE_EN]

theorem rd_enables {x : Fld} (h : ∀ b ∈ gated, x.apart (CK_GATE_EN b)) (d : Dev) : (enables v d).rd x = d.rd x :=
  forL_keep_mem (fun e => e.rd x) (fun b hb _ => rd_wrB_apart _ (h b hb)) d

theorem rd_quiesce {x : Fld} {l : List Nat} (h : ∀ b ∈ l, x.apart (CK_GATE_STAT_QUIESCE_BIT b)) (d : Dev) : (quiesce l d).rd x = d.rd x :=
  forL_keep_mem (fun e => e.rd x) (fun b hb _ => rd_wrB_apart _ (h b hb)) d

theorem en_enables {b : Nat} (h : b ∈ gated) (d : Dev) : (enables v d).rdB (CK_GATE_EN b) = bitOf v b := by
  have hfit : (CK_GATE_EN b).w = 1 ∧ (CK_GATE_EN b).fits := ⟨rfl, by
    have := gated_lt h
    simp only [Fld.fits, CK_GATE_EN]
    omega⟩
  rw [enables, forL_at (fun e => e.rdB (CK_GATE_EN b)) nodup_gated h (fun c _ hne e => rdB_wrB_apart _ (gateEn_ne (Ne.symm hne)))]
  · exact rdB_wrB_eq _ hfit
  · exact fun e e' _ => (rdB_wrB_eq _ hfit).trans (rdB_wrB_eq _ hfit).symm

/-- R314: a gate that closes quiesces if it was open. -/
theorem quiesce_quiesce {b : Nat} {l : List Nat} (hl : l.Nodup) (hlt : ∀ c ∈ l, c < 12) (h : b ∈ l) (d : Dev) :
    (quiesce l d).rdB (CK_GATE_STAT_QUIESCE_BIT b) = d.rdB (CK_GATE_STAT_OPEN_BIT b) := by
  have hfit : (CK_GATE_STAT_QUIESCE_BIT b).w = 1 ∧ (CK_GATE_STAT_QUIESCE_BIT b).fits := ⟨rfl, by
    have := hlt b h
    simp only [Fld.fits, CK_GATE_STAT_QUIESCE_BIT]
    omega⟩
  have hat := forL_at (fun e => (e.rdB (CK_GATE_STAT_QUIESCE_BIT b), e.rdB (CK_GATE_STAT_OPEN_BIT b)))
    (g := fun b d => d.wrB (CK_GATE_STAT_QUIESCE_BIT b) (d.rdB (CK_GATE_STAT_OPEN_BIT b))) hl h
    (fun c _ hne e => by rw [rdB_wrB_apart _ (gateQuiesce_ne (Ne.symm hne)), rdB_wrB_apart _ (gateOpen_quiesce (hlt b h))])
    (fun e e' he => by
      obtain ⟨-, ho⟩ := Prod.mk.inj he
      rw [rdB_wrB_eq _ hfit, rdB_wrB_eq _ hfit, rdB_wrB_apart _ (gateOpen_quiesce (hlt b h)), rdB_wrB_apart _ (gateOpen_quiesce (hlt b h)), ho]) d
  rw [quiesce]
  refine (congrArg Prod.fst hat).trans ?_
  exact rdB_wrB_eq _ hfit

theorem bare_ckGate {l : List Nat} : (quiesce l (enables v d)).bare = d.bare := by
  rw [quiesce, bare_forL _ (fun _ _ => bare_wrB _ _ _), enables, bare_forL _ (fun _ _ => bare_wrB _ _ _)]

/-- R314: a gate closed. -/
def Dev.gateShut (d : Dev) (b : Nat) : Dev := (d.wrB (CK_GATE_STAT_QUIESCE_BIT b) false).wrB (CK_GATE_STAT_OPEN_BIT b) false

theorem gateClose_none {b : Nat} (h : d.rdB (CK_GATE_STAT_QUIESCE_BIT b) = true) : gateClose b none d = d.gateShut b := if_pos h

theorem gateClose_some {b a m : Nat} {w : Bool} (h : d.rdB (CK_GATE_STAT_QUIESCE_BIT b) = true) : gateClose b (some (a, m, w)) d =
    (d.gateShut b).raiseR { (d.gateShut b).report .bus 2 central 0 with addr := a, master := m, access := b01 w } := if_pos h

theorem rd_gateShut {x : Fld} {b : Nat} (h : x.apart (CK_GATE_STAT_OPEN_BIT b)) (h' : x.apart (CK_GATE_STAT_QUIESCE_BIT b)) :
    (d.gateShut b).rd x = d.rd x := by rw [Dev.gateShut, rd_wrB_apart _ h, rd_wrB_apart _ h']

theorem open_gateShut {b : Nat} (h : b < 12) : (d.gateShut b).rdB (CK_GATE_STAT_OPEN_BIT b) = false :=
  rdB_wrB_eq false ⟨rfl, by simp only [Fld.fits, CK_GATE_STAT_OPEN_BIT]; omega⟩

theorem quiesce_gateShut {b : Nat} (h : b < 12) : (d.gateShut b).rdB (CK_GATE_STAT_QUIESCE_BIT b) = false := by
  have hap : (CK_GATE_STAT_QUIESCE_BIT b).apart (CK_GATE_STAT_OPEN_BIT b) := by
    simp only [Fld.apart, CK_GATE_STAT_OPEN_BIT, CK_GATE_STAT_QUIESCE_BIT]
    omega
  rw [Dev.gateShut, rdB_wrB_apart _ hap]
  exact rdB_wrB_eq false ⟨rfl, by simp only [Fld.fits, CK_GATE_STAT_QUIESCE_BIT]; omega⟩

theorem bare_gateShut {b : Nat} : (d.gateShut b).bare = d.bare := by rw [Dev.gateShut, bare_wrB, bare_wrB]

theorem time_gateShut {b : Nat} : (d.gateShut b).time = d.time := time_of_bare bare_gateShut

end

theorem gate_alert (b : Nat) : (CK_GATE_STAT_OPEN_BIT b).apart PM_STATUS_ALERT ∧ (CK_GATE_STAT_QUIESCE_BIT b).apart PM_STATUS_ALERT ∧
    (CK_GATE_EN b).apart PM_STATUS_ALERT :=
  ⟨.inl (by simp [CK_GATE_STAT_OPEN_BIT, PM_STATUS_ALERT]), .inl (by simp [CK_GATE_STAT_QUIESCE_BIT, PM_STATUS_ALERT]),
    .inl (by simp [CK_GATE_EN, PM_STATUS_ALERT])⟩

/-- Settles O42. -/
theorem gatesAndClockOutput : Obligations.GatesAndClockOutput := by
  unfold Obligations.GatesAndClockOutput
  refine ⟨fun s v hs hmay => ?_, fun s v b hs hb hen hv hno => ?_, fun s b hs hen hq => ?_, fun s b hs h => ?_, fun s b hs hq => ?_,
    fun s b x hs hq => ?_, fun s b x hs hq => ?_, fun s v hs => ?_, fun s v hs => ?_⟩
  · have hg : ckGate v.toNat s.dev = quiesce (s.dev.closing v.toNat) (enables v.toNat s.dev) :=
      ckGate_closes fun b hb => by
        obtain ⟨hg, hen, hv⟩ := mem_closing.mp hb
        exact hmay b hg hen hv
    refine completes_eq rfl hs hg ⟨fun b hb => ⟨?_, ?_⟩, changes_bare bare_ckGate fun x hx => ?_⟩
    · rw [rdB_settle (gate_alert b).2.2, Dev.rdB, rd_quiesce fun c _ => (gateStat_en c b).2.2]
      exact en_enables hb s.dev
    · rw [rdB_settle (gate_alert b).2.1]
      have hstat (x : Fld) (hx : ∀ c, x.apart (CK_GATE_EN c)) : (enables v.toNat s.dev).rdB x = s.dev.rdB x := by
        rw [Dev.rdB, rd_enables fun c _ => hx c, Dev.rdB]
      by_cases hc : s.dev.rdB (CK_GATE_EN b) = true ∧ bitOf v.toNat b = false
      · rw [if_pos hc, quiesce_quiesce (l := s.dev.closing v.toNat) (nodup_gated.filter _) (fun c hc => gated_lt (mem_closing.mp hc).1) (mem_closing.mpr ⟨hb, hc⟩),
          hstat _ fun c => (gateStat_en b c).2.1]
      · rw [if_neg hc, Dev.rdB, rd_quiesce fun c hcl => gateQuiesce_ne fun hbc => hc (mem_closing.mp (by rw [hbc]; exact hcl)).2]
        exact hstat _ fun c => (gateStat_en b c).1
    · rw [List.forall_mem_append, List.forall_mem_map, List.forall_mem_map] at hx
      rw [rd_quiesce fun c hc => hx.2 c (mem_closing.mp hc).1, rd_enables hx.1]
  · refine completes_conflict rfl hs (if_neg fun hall => ?_) (by decide) (by decide)
    have hb' := List.all_eq_true.mp hall b.val (List.mem_filter.mpr ⟨hb, by rw [hen, hv]; rfl⟩)
    rw [hno] at hb'
    exact absurd hb' (by decide)
  · have hg : gateOpen b s.dev = s.dev.wrB (CK_GATE_STAT_OPEN_BIT b) true := if_pos ⟨b.isLt, hen, by rw [hq]; rfl⟩
    refine completes_eq rfl hs hg ⟨?_, changes_bare (bare_wrB _ _ _) fun x hx => rd_wrB_apart _ (hx _ (by simp))⟩
    rw [rdB_settle (gate_alert b).1]
    exact rdB_wrB_eq true ⟨rfl, by simp only [Fld.fits, CK_GATE_STAT_OPEN_BIT]; omega⟩
  · refine completes_unchanged rfl hs (if_neg ?_)
    rintro ⟨-, hen, hq⟩
    rcases h with h | h
    · rw [hen] at h
      exact absurd h (by decide)
    · rw [h] at hq
      exact absurd hq (by decide)
  · refine completes_eq rfl hs (gateClose_none hq) ⟨?_, ?_, changes_bare bare_gateShut fun x hx => rd_gateShut (hx _ (by simp)) (hx _ (by simp))⟩
    · rw [rdB_settle (gate_alert b).1, open_gateShut b.isLt]
    · rw [rdB_settle (gate_alert b).2.1, quiesce_gateShut b.isLt]
  · refine completes_eq rfl hs (gateClose_some hq) ⟨?_, ?_, changes_bare ?_ fun x hx => ?_⟩
    · rw [rdB_settle (gate_alert b).1, Dev.raiseR_rdB, open_gateShut b.isLt]
    · rw [rdB_settle (gate_alert b).2.1, Dev.raiseR_rdB, quiesce_gateShut b.isLt]
    · rw [bare_raiseR, bare_gateShut, Dev.report, time_gateShut]
      rfl
    · rw [Dev.raiseR_rd, rd_gateShut (hx _ (by simp)) (hx _ (by simp))]
  · exact completes_unchanged rfl hs (if_neg (by rw [hq]; decide))
  · have hg : clkoutChange false v.toNat s.dev = ((s.dev.wr CK_OUT_EN v.toNat).wr CK_OUT_SRC (v.toNat / 2)).wr CK_OUT_DIV (v.toNat / 2 ^ 16) := rfl
    have hv := v.isLt
    refine completes_eq rfl hs hg ⟨?_, ?_, ?_, changes_bare ?_ fun x hx => ?_⟩
    · rw [rd_settle (by decide), rd_wr_apart _ (by decide), rd_wr_apart _ (by decide), rd_wr_eq _ (by decide)]
      rfl
    · rw [rd_settle (by decide), rd_wr_apart _ (by decide), rd_wr_eq _ (by decide)]
      rfl
    · rw [rd_settle (by decide), rd_wr_eq _ (by decide)]
      exact Nat.mod_eq_of_lt (show v.toNat / 2 ^ 16 < 2 ^ 16 by omega)
    · rw [bare_wr, bare_wr, bare_wr]
    · rw [rd_wr_apart _ (hx _ (by simp)), rd_wr_apart _ (hx _ (by simp)), rd_wr_apart _ (hx _ (by simp))]
  · have hg : clkoutChange true v.toNat s.dev = (s.dev.wr CK_OUT_PATCH_FIELD v.toNat).wr CK_OUT_PATCH_PATCH (v.toNat / 2 ^ 8) := rfl
    refine completes_eq rfl hs hg ⟨?_, ?_, changes_bare ?_ fun x hx => ?_⟩
    · rw [rd_settle (by decide), rd_wr_apart _ (by decide), rd_wr_eq _ (by decide)]
      rfl
    · rw [rd_settle (by decide), rd_wr_eq _ (by decide)]
      rfl
    · rw [bare_wr, bare_wr]
    · rw [rd_wr_apart _ (hx _ (by simp)), rd_wr_apart _ (hx _ (by simp))]

end Sys2Proof.Machine
end

section
/-! O40: the signature engine and the margin area (R331, R337). -/

namespace Sys2Proof.Machine

/-! Bytes. -/

theorem leBytes_lt {n v b : Nat} (h : b ∈ leBytes n v) : b < 256 := by
  induction n generalizing v with
  | zero => exact absurd h List.not_mem_nil
  | succ n ih =>
    rcases List.mem_cons.mp h with rfl | h
    · exact Nat.mod_lt _ (by decide)
    · exact ih h

theorem ofBytes_leBytes_mod (n v : Nat) : ofBytes (leBytes n v) = v % 256 ^ n := by
  induction n generalizing v with
  | zero => exact (Nat.mod_one v).symm
  | succ n ih => rw [leBytes, ofBytes, ih, Nat.mod_mod, Nat.pow_succ, Nat.mul_comm (256 ^ n), Nat.mod_mul]

/-- An erased byte programmed. -/
theorem and_erased {b : Nat} (h : b < 256) : 0xFF &&& b = b := by
  have hff : (0xFF : Nat) = 2 ^ 8 - 1 := rfl
  rw [Nat.and_comm, hff, Nat.and_two_pow_sub_one_of_lt_two_pow h]

/-- Erased flash programmed reads as it was programmed. -/
theorem nvBytes_written {a n off k : Nat} {l : List Nat} (hl : l.length ≤ n) (hk : off + k ≤ l.length) (hlt : ∀ b ∈ (l.drop off).take k, b < 256)
    (d : Dev) : (nvProg a l (nvErase a n d)).nvBytes (a + off) k = (l.drop off).take k := by
  have hlen : ((l.drop off).take k).length = k := by
    rw [List.length_take, List.length_drop]
    omega
  refine List.ext_getElem ?_ fun j h1 h2 => ?_
  · rw [hlen, Dev.nvBytes, List.length_map, List.length_range]
  · have hj : j < k := by rwa [hlen] at h2
    have hget : ((l.drop off).take k)[j] = l.getD (off + j) 0 := by
      rw [List.getElem_take, List.getElem_drop, List.getD_eq_getElem?_getD, List.getElem?_eq_getElem (by omega), Option.getD_some]
    have hbyte : l.getD (off + j) 0 < 256 := hget ▸ hlt _ (List.getElem_mem h2)
    rw [hget]
    simp only [Dev.nvBytes, List.getElem_map, List.getElem_range]
    rw [Nat.add_assoc, nvByte_nvProg_in (by omega), nvByte_nvErase, if_pos (by omega), and_erased hbyte]

/-! The margin area (R331). -/

section
variable (d : Dev)

theorem length_marginRec (f p : Nat) : (d.marginRec f p).length = 128 := by
  have hst : ((tget [] d.rp.strikes (pkey f p)).take 15).length ≤ 15 := List.length_take_le _ _
  simp only [Dev.marginRec, List.length_append, List.length_cons, List.length_nil, leBytes_length, List.length_replicate,
    length_flatMap_blocks (leBytes_length 4)]
  omega

/-- R331: the records of the margin area. -/
def Dev.marginBody (d : Dev) : List Nat := (List.range 3456).flatMap fun k => d.marginRec (k / 36) (k % 36)

/-- R331: the margin area with its MSEQ. -/
def Dev.marginBytes (d : Dev) (q : Nat) : List Nat :=
  leBytes 4 0x4D4E5A4A ++ leBytes 4 q ++ leBytes 4 (d.rd EV_HOURS_HOURS) ++ leBytes 4 (crc32 d.marginBody) ++ List.replicate 48 0 ++ d.marginBody

theorem length_marginBytes (q : Nat) : (d.marginBytes q).length = 442432 := by
  have hbody : d.marginBody.length = 442368 := by
    rw [Dev.marginBody, length_flatMap_blocks fun k => length_marginRec d (k / 36) (k % 36), List.length_range]
  simp only [Dev.marginBytes, List.length_append, leBytes_length, List.length_replicate, hbody]

theorem take_marginBytes (q : Nat) : ((d.marginBytes q).drop 0).take 4 = leBytes 4 0x4D4E5A4A := by
  rw [List.drop_zero, Dev.marginBytes]
  simp only [List.append_assoc]
  exact List.take_left' (leBytes_length _ _)

theorem take_marginBytes_seq (q : Nat) : ((d.marginBytes q).drop 4).take 4 = leBytes 4 q := by
  rw [Dev.marginBytes]
  simp only [List.append_assoc]
  rw [List.drop_left' (leBytes_length _ _)]
  exact List.take_left' (leBytes_length _ _)

/-- R331: the margin area written, in copy c with MSEQ q. -/
def Dev.marginsWritten (d : Dev) (c q : Nat) : Dev := nvProg (margBase c) (d.marginBytes q) (nvErase (margBase c) 0x80000 d)

theorem marginWrite_due {d : Dev} {c q : Nat} (h : d.nv.margDue.isSome = true) (hg : d.gateOk 9 = true)
    (hn : (c, q) = d.margNow.elim (0, 1) fun x => (1 - x.1, x.2 + 1)) :
    marginWrite d = (d.marginsWritten c q).updNv fun x => { x with margDue := none } := by
  have hno : ¬ (d.nv.margDue.isNone || !d.gateOk 9) = true := by
    rw [hg]
    cases hm : d.nv.margDue
    · rw [hm] at h
      exact absurd h (by decide)
    · simp
  rw [marginWrite, if_neg hno]
  cases hm : d.margNow with
  | none =>
    rw [hm] at hn
    obtain ⟨rfl, rfl⟩ := Prod.mk.inj hn
    rfl
  | some x =>
    rw [hm] at hn
    obtain ⟨rfl, rfl⟩ := Prod.mk.inj hn
    rfl

theorem flash_margDue : (d.updNv fun x => { x with margDue := none }).nv.flash = d.nv.flash := rfl

theorem marginWrite_not {d : Dev} (h : d.nv.margDue = none ∨ d.gateOk 9 = false) : marginWrite d = d := by
  refine if_pos ?_
  rcases h with h | h
  · rw [h]
    rfl
  · rw [h, Bool.not_false, Bool.or_true]

end

/-! The signature engine (R337). -/

/-- The fields of NV_SIG_STATUS. -/
def sigRegs : List Fld := [NV_SIG_STATUS_BUSY, NV_SIG_STATUS_DONE, NV_SIG_STATUS_PASS, NV_SIG_STATUS_KEY_EMPTY]

section
variable {d : Dev} {key purpose len : Nat} {r : SigReq}

/-- R337: NV_SIG_STATUS as a verification starts. -/
def Dev.sigBusy (d : Dev) (key : Nat) : Dev := (((d.wrB NV_SIG_STATUS_BUSY true).wrB NV_SIG_STATUS_DONE false).wrB NV_SIG_STATUS_PASS false).wrB
  NV_SIG_STATUS_KEY_EMPTY (tget none d.nv.keys key).isNone

theorem rd_sigBusy {x : Fld} (h : ∀ y ∈ sigRegs, x.apart y) : (d.sigBusy key).rd x = d.rd x := by
  simp only [sigRegs, List.forall_mem_cons] at h
  obtain ⟨h1, h2, h3, h4, -⟩ := h
  rw [Dev.sigBusy, rd_wrB_apart _ h4, rd_wrB_apart _ h3, rd_wrB_apart _ h2, rd_wrB_apart _ h1]

theorem bare_sigBusy : (d.sigBusy key).bare = d.bare := by rw [Dev.sigBusy, bare_wrB, bare_wrB, bare_wrB, bare_wrB]

theorem sigMsg_sigBusy (n : Nat) : (d.sigBusy key).sigMsg n = d.sigMsg n := by
  have h (k : Nat) : (d.sigBusy key).rd (NV_SIG_MSG k) = d.rd (NV_SIG_MSG k) := by
    refine rd_sigBusy fun y hy => .inl ?_
    simp only [sigRegs, List.mem_cons, List.not_mem_nil, or_false] at hy
    rcases hy with rfl | rfl | rfl | rfl
    · simp only [NV_SIG_MSG, NV_SIG_STATUS_BUSY]
      omega
    · simp only [NV_SIG_MSG, NV_SIG_STATUS_DONE]
      omega
    · simp only [NV_SIG_MSG, NV_SIG_STATUS_PASS]
      omega
    · simp only [NV_SIG_MSG, NV_SIG_STATUS_KEY_EMPTY]
      omega
  simp only [Dev.sigMsg, h]

theorem sigVerify_starts (h : d.nv.sig = none) (hp : purpose ≠ 3) (h1 : 1 ≤ len) (h2 : len ≤ 128) (h3 : purpose ≠ 1 ∨ len = 28) :
    sigVerify key purpose len d = ((d.sigBusy key).updPP fun p => { p with pass := none }).updNv fun x =>
      { x with sig := some ⟨key, purpose, d.sigMsg len⟩ } := by
  have hno : ¬ (d.nv.sig.isSome = true ∨ purpose = 3 ∨ len = 0 ∨ 128 < len ∨ (purpose = 1 ∧ len ≠ 28)) := by
    rw [h]
    simp only [Option.isSome_none, Bool.false_eq_true, false_or]
    omega
  rw [sigVerify, if_neg hno, ← sigMsg_sigBusy (key := key)]
  rfl

/-- R337: what a pass latches. -/
def SigReq.passOf (r : SigReq) : SigPass := ⟨r.purpose, r.key, bytesAt r.msg 20 8, bytesAt r.msg 4 8, bytesAt r.msg 12 2, bitOf (bytesAt r.msg 14 1) 0,
  bytesAt r.msg 12 3⟩

/-- R337: NV_SIG_STATUS as a verification ends. -/
def Dev.sigEnded (d : Dev) : Dev := ((d.updNv fun x => { x with sig := none }).wrB NV_SIG_STATUS_BUSY false).wrB NV_SIG_STATUS_DONE true

/-- R337: a verification that passes. -/
def Dev.sigPassed (d : Dev) (r : SigReq) : Dev := (d.sigEnded.wrB NV_SIG_STATUS_PASS true).updPP fun p => { p with pass := some r.passOf }

theorem bare_sigEnded : d.sigEnded.bare = d.bare.updNv fun x => { x with sig := none } := by rw [Dev.sigEnded, bare_wrB, bare_wrB, bare_updNv]

theorem rd_sigEnded {x : Fld} (h1 : x.apart NV_SIG_STATUS_BUSY) (h2 : x.apart NV_SIG_STATUS_DONE) : d.sigEnded.rd x = d.rd x := by
  rw [Dev.sigEnded, rd_wrB_apart _ h2, rd_wrB_apart _ h1, Dev.updNv_rd]

theorem busy_sigEnded : d.sigEnded.rdB NV_SIG_STATUS_BUSY = false := by
  rw [Dev.sigEnded, rdB_wrB_apart _ (by decide)]
  exact rdB_wrB_eq false (by decide)

theorem done_sigEnded : d.sigEnded.rdB NV_SIG_STATUS_DONE = true := rdB_wrB_eq true (by decide)

theorem bare_sigPassed : (d.sigPassed r).bare = (d.bare.updNv fun x => { x with sig := none }).updPP fun p => { p with pass := some r.passOf } := by
  rw [Dev.sigPassed, bare_updPP, bare_wrB, bare_sigEnded]

theorem nv_updNv (g : NvmS → NvmS) (d : Dev) : (d.updNv g).nv = g d.nv := rfl

theorem pp_sigPassed : (d.sigPassed r).pp = { d.pp with pass := some r.passOf } := by
  change (d.sigPassed r).bare.pp = _
  rw [bare_sigPassed]
  rfl

theorem nv_sigPassed : (d.sigPassed r).nv = { d.nv with sig := none } := by
  change (d.sigPassed r).bare.nv = _
  rw [bare_sigPassed]
  rfl

theorem time_sigPassed : (d.sigPassed r).time = d.time := by
  change (d.sigPassed r).bare.time = _
  rw [bare_sigPassed]
  rfl

theorem pp_of_session {d e : Dev} {y : Tab Byte} {x : Option Session} (h : d.bare = (e.bare.setFlash y).setSession x) : d.pp = e.pp := by
  change d.bare.pp = e.pp
  rw [h]
  rfl

/-- A verification that opens a session. -/
theorem bare_sigSession (d : Dev) (p : Option SigPass) (y : Tab Byte) (x : Option Session) :
    (((d.bare.updNv fun z => { z with sig := none }).updPP fun z => { z with pass := p }).setFlash y).setSession x =
      Dev.bare { d with nv := { d.nv with sig := none, session := x, flash := y }, pp := { d.pp with pass := p } } := rfl

theorem rd_sigPassed {x : Fld} (h1 : x.apart NV_SIG_STATUS_BUSY) (h2 : x.apart NV_SIG_STATUS_DONE) (h3 : x.apart NV_SIG_STATUS_PASS) :
    (d.sigPassed r).rd x = d.rd x := by rw [Dev.sigPassed, updPP_rd, rd_wrB_apart _ h3, rd_sigEnded h1 h2]

theorem status_sigPassed : (d.sigPassed r).rdB NV_SIG_STATUS_BUSY = false ∧ (d.sigPassed r).rdB NV_SIG_STATUS_DONE = true ∧
    (d.sigPassed r).rdB NV_SIG_STATUS_PASS = true := by
  refine ⟨?_, ?_, ?_⟩
  · rw [Dev.sigPassed, updPP_rdB, rdB_wrB_apart _ (by decide), busy_sigEnded]
  · rw [Dev.sigPassed, updPP_rdB, rdB_wrB_apart _ (by decide), done_sigEnded]
  · rw [Dev.sigPassed, updPP_rdB]
    exact rdB_wrB_eq true (by decide)

theorem sigVerifyDone_fails {b : Bool} (h : d.nv.sig = some r) (hf : b = false ∨ tget none d.nv.keys r.key = none) :
    sigVerifyDone b d = d.sigEnded := by
  have hpass : (b && (tget none d.nv.keys r.key).isSome) = false := by
    rcases hf with hf | hf
    · rw [hf, Bool.false_and]
    · rw [hf, Option.isSome_none, Bool.and_false]
  rw [sigVerifyDone, h]
  dsimp only
  rw [hpass]
  exact if_pos rfl

theorem sigVerifyDone_passes (h : d.nv.sig = some r) (hk : (tget none d.nv.keys r.key).isSome = true) : sigVerifyDone true d =
    if r.purpose = 2 ∧ (d.sigPassed r).nv.session.isNone then openSession true none (bytesAt r.msg 12 3) (d.sigPassed r) else d.sigPassed r := by
  rw [sigVerifyDone, h]
  dsimp only
  rw [hk]
  exact if_neg (by decide)

end

/-- Settles O40. -/
theorem signaturesAndMargins : Obligations.SignaturesAndMargins := by
  unfold Obligations.SignaturesAndMargins
  refine ⟨fun s k p n hs hsig hp h1 h2 h3 => ?_, fun s k p n hs h => ?_, fun s r hs hsig hk hp => ?_, fun s r hs hsig hk hp hses => ?_,
    fun s b r hs hsig hf => ?_, fun s b hs hsig => ?_, fun s c n hs hdue hg hn => ?_, fun s hs h => ?_⟩
  · have hp' : p.toNat ≠ 3 := fun h => hp (BitVec.eq_of_toNat_eq h)
    have h3' : p.toNat ≠ 1 ∨ n.toNat = 28 := h3.imp (fun h e => h (BitVec.eq_of_toNat_eq e)) (fun h => by rw [h]; rfl)
    have hrd (x : Fld) : (((s.dev.sigBusy k.toNat).updPP fun y => { y with pass := none }).updNv fun y =>
        { y with sig := some ⟨k.toNat, p.toNat, s.dev.sigMsg n.toNat⟩ }).rd x = (s.dev.sigBusy k.toNat).rd x := by
      rw [Dev.updNv_rd, updPP_rd]
    refine completes_eq rfl hs (sigVerify_starts hsig hp' h1 h2 h3') ⟨?_, ?_, ?_, ?_, ?_, changes_bare ?_ fun x hx => ?_⟩
    · rw [settle_nv, nv_updNv]
    · rw [rdB_settle (by decide), Dev.rdB, hrd, Dev.sigBusy, rd_wrB_apart _ (by decide), rd_wrB_apart _ (by decide), rd_wrB_apart _ (by decide)]
      exact rdB_wrB_eq true (by decide)
    · rw [rdB_settle (by decide), Dev.rdB, hrd, Dev.sigBusy, rd_wrB_apart _ (by decide), rd_wrB_apart _ (by decide)]
      exact rdB_wrB_eq false (by decide)
    · rw [rdB_settle (by decide), Dev.rdB, hrd, Dev.sigBusy, rd_wrB_apart _ (by decide)]
      exact rdB_wrB_eq false (by decide)
    · rw [rdB_settle (by decide), Dev.rdB, hrd, Dev.sigBusy]
      exact rdB_wrB_eq _ (by decide)
    · rw [settle_nv, nv_updNv, bare_updNv, bare_updPP, bare_sigBusy]
      generalize s.dev.sigMsg n.toNat = m
      rfl
    · rw [hrd, rd_sigBusy hx]
  · refine completes_conflict rfl hs (if_pos ?_) (by decide) (by decide)
    rcases h with h | h | h | h | ⟨h, h'⟩
    · exact .inl h
    · exact .inr (.inl (by rw [h]; rfl))
    · exact .inr (.inr (.inl (by rw [h]; rfl)))
    · exact .inr (.inr (.inr (.inl h)))
    · exact .inr (.inr (.inr (.inr ⟨by rw [h]; rfl, fun e => h' (BitVec.eq_of_toNat_eq e)⟩)))
  · have hg : sigVerifyDone true s.dev = s.dev.sigPassed r := by rw [sigVerifyDone_passes hsig hk, if_neg fun h => hp h.1]
    obtain ⟨hbusy, hdone, hpass⟩ := status_sigPassed (d := s.dev) (r := r)
    refine completes_eq rfl hs hg ⟨?_, ?_, ?_, ?_, changes_bare ?_ fun x hx => rd_sigPassed (hx _ (by simp)) (hx _ (by simp)) (hx _ (by simp))⟩
    · rw [settle_pp, pp_sigPassed]
      rfl
    · rw [rdB_settle (by decide), hbusy]
    · rw [rdB_settle (by decide), hdone]
    · rw [rdB_settle (by decide), hpass]
    · rw [settle_pp, pp_sigPassed, bare_sigPassed]
      rfl
  · have hnone : (s.dev.sigPassed r).nv = { s.dev.nv with sig := none } := nv_sigPassed
    have hg : sigVerifyDone true s.dev = openSession true none (bytesAt r.msg 12 3) (s.dev.sigPassed r) := by
      rw [sigVerifyDone_passes hsig hk, if_pos ⟨hp, by rw [hnone, hses]; rfl⟩]
    have hin : (s.dev.sigPassed r).inactive = s.dev.inactive := inactive_of_flash (by rw [hnone])
    have htime : (s.dev.sigPassed r).time = s.dev.time := time_sigPassed
    obtain ⟨hbusy, hdone, hpass⟩ := status_sigPassed (d := s.dev) (r := r)
    have hbare := bare_openSession (s.dev.sigPassed r) true none (bytesAt r.msg 12 3)
    have hb (x : Fld) (hx : ∀ y ∈ sessionRegs, x.apart y) : (openSession true none (bytesAt r.msg 12 3) (s.dev.sigPassed r)).rdB x =
        (s.dev.sigPassed r).rdB x := by rw [Dev.rdB, rd_openSession _ hx, Dev.rdB]
    refine completes_eq rfl hs hg ⟨?_, ?_, ?_, ?_, changes_bare ?_ fun x hx => ?_⟩
    · rw [settle_nv, session_of_session hbare, hin, htime]
    · rw [rdB_settle (by decide), hb _ (by decide), hbusy]
    · rw [rdB_settle (by decide), hb _ (by decide), hdone]
    · rw [rdB_settle (by decide), hb _ (by decide), hpass]
    · rw [settle_nv, settle_pp, pp_of_session hbare, session_of_session hbare, hbare, bare_sigPassed, pp_sigPassed]
      exact bare_sigSession _ _ _ _
    · rw [rd_openSession, rd_sigPassed (hx _ (by simp)) (hx _ (by simp)) (hx _ (by simp))]
      intro y hy
      refine hx y ?_
      revert hy
      revert y
      decide
  · refine completes_eq rfl hs (sigVerifyDone_fails hsig hf) ⟨?_, ?_, changes_bare ?_ fun x hx => rd_sigEnded (hx _ (by simp)) (hx _ (by simp))⟩
    · rw [rdB_settle (by decide), busy_sigEnded]
    · rw [rdB_settle (by decide), done_sigEnded]
    · rw [bare_sigEnded]
      rfl
  · refine completes_unchanged rfl hs ?_
    rw [sigVerifyDone, hsig]
  · have hw : ((s.dev.marginsWritten c n).updNv fun x => { x with margDue := none }).nv.flash = (s.dev.marginsWritten c n).nv.flash := flash_margDue _
    have hbyte (a : Nat) : (settle ((s.dev.marginsWritten c n).updNv fun x => { x with margDue := none })).nvByte a =
        (s.dev.marginsWritten c n).nvByte a := nvByte_of_flash ((flash_settle _).trans hw) a
    have hbytes (a k : Nat) : (settle ((s.dev.marginsWritten c n).updNv fun x => { x with margDue := none })).nvBytes a k =
        (s.dev.marginsWritten c n).nvBytes a k := nvBytes_of_nvByte fun x _ _ => hbyte x
    have hlen := length_marginBytes s.dev n
    refine completes_eq rfl hs (marginWrite_due hdue hg hn) ⟨?_, ?_, fun a ha => ?_, changes_bare ?_ fun x _ => ?_⟩
    · rw [Dev.nvNum, hbytes]
      have h := nvBytes_written (a := margBase c) (n := 0x80000) (off := 0) (k := 4) (l := s.dev.marginBytes n) (by rw [hlen]; omega)
        (by rw [hlen]; omega) (by rw [take_marginBytes]; exact fun b => leBytes_lt) s.dev
      rw [Nat.add_zero, take_marginBytes] at h
      rw [Dev.marginsWritten, h, ofBytes_leBytes (by decide)]
    · rw [Dev.nvNum, hbytes]
      have h := nvBytes_written (a := margBase c) (n := 0x80000) (off := 4) (k := 4) (l := s.dev.marginBytes n) (by rw [hlen]; omega)
        (by rw [hlen]; omega) (by rw [take_marginBytes_seq]; exact fun b => leBytes_lt) s.dev
      rw [take_marginBytes_seq] at h
      rw [Dev.marginsWritten, h]
      exact ofBytes_leBytes_mod 4 n
    · rw [hbyte, Dev.marginsWritten, nvByte_nvProg_out (by rw [hlen]; omega), nvByte_nvErase, if_neg (by omega)]
    · rw [flash_settle, hw, bare_updNv, Dev.marginsWritten, bare_nvProg, bare_nvErase, setFlash_setFlash]
      generalize (nvProg (margBase c) (s.dev.marginBytes n) (nvErase (margBase c) 0x80000 s.dev)).nv.flash = y
      rfl
    · rw [Dev.updNv_rd, Dev.marginsWritten, rd_nvProg, rd_nvErase]
  · exact completes_unchanged rfl hs (marginWrite_not h)

end Sys2Proof.Machine
end

section
/-! O38: the memory channels' zones and the optical engines (R269 to R271). -/

namespace Sys2Proof.Machine

/-! Changes of the stewards' fields alone. -/

/-- Nothing but the registers and the stewards' own parts differ. -/
def Dev.FieldsMove (d e : Dev) : Prop := e.bare = { d.bare with fld := e.fld }

theorem Dev.FieldsMove.trans {a b c : Dev} (h : a.FieldsMove b) (h' : b.FieldsMove c) : a.FieldsMove c := by
  unfold Dev.FieldsMove at h h' ⊢
  rw [h', h]

theorem fieldsMove_refl (d : Dev) : d.FieldsMove d := rfl

theorem fld_updFd (f : Nat) (g : FieldS → FieldS) (d : Dev) : (d.updFd f g).fld = tupd FieldS.init f g d.fld := rfl

theorem fieldsMove_updFd (f : Nat) (g : FieldS → FieldS) (d : Dev) : d.FieldsMove (d.updFd f g) := by
  rw [Dev.FieldsMove, bare_updFd, fld_updFd]
  rfl

theorem fieldsMove_of_bare {d e : Dev} (h : e.bare = d.bare) : d.FieldsMove e := by
  rw [Dev.FieldsMove, fld_of_bare h, h]
  rfl

theorem fieldsMove_forL {α : Type} (l : List α) {g : α → Dev → Dev} (h : ∀ a (d : Dev), d.FieldsMove (g a d)) (d : Dev) : d.FieldsMove (forL l g d) := by
  induction l generalizing d with
  | nil => exact fieldsMove_refl d
  | cons a l ih => exact (h a d).trans (ih (g a d))

/-! Zones of channels (R269, R270). -/

section
variable {f k : Nat}

theorem chn_setChn (x : ChanS) (d : Dev) : (setChn f k x d).chn f k = x := tget_tput_same ChanS.init _ _ _

theorem bare_setChn (x : ChanS) (d : Dev) : (setChn f k x d).bare = { d.bare with chan := (setChn f k x d).chan } := rfl

theorem setChn_rd (x : ChanS) (d : Dev) (y : Fld) : (setChn f k x d).rd y = d.rd y := rfl

theorem fieldsMove_setZone (z : Nat) (d : Dev) : d.FieldsMove (setZone f k z d) :=
  (fieldsMove_of_bare (bare_wr d (ST_MEM_ZONE f k) z)).trans (fieldsMove_updFd _ _ _)

theorem rd_setZone {x : Fld} (h : x.apart (ST_MEM_ZONE f k)) (z : Nat) (d : Dev) : (setZone f k z d).rd x = d.rd x := by
  rw [setZone, Dev.updFd_rd, rd_wr_apart _ h]

theorem zone_setZone {z : Nat} (h : z < 4) (d : Dev) : (setZone f k z d).rd (ST_MEM_ZONE f k) = z := by
  rw [setZone, Dev.updFd_rd, rd_wr_eq _ (by simp only [Fld.fits, ST_MEM_ZONE]; omega)]
  exact Nat.mod_eq_of_lt h

theorem chan_setZone (z : Nat) (d : Dev) : (setZone f k z d).chan = d.chan := by
  rw [setZone, Dev.updFd_chan, Dev.wr_chan]

/-- A channel with its zone z and its state x. -/
def Dev.zoned (d : Dev) (f k z : Nat) (x : ChanS) : Dev := setZone f k z (setChn f k x d)

theorem bare_zoned (z : Nat) (x : ChanS) (d : Dev) : (d.zoned f k z x).bare =
    { d.bare with chan := (d.zoned f k z x).chan, fld := (d.zoned f k z x).fld } := by
  have h : (d.zoned f k z x).bare = _ := fieldsMove_setZone z (setChn f k x d)
  have hc : (d.zoned f k z x).chan = (setChn f k x d).chan := chan_setZone z _
  rw [h, bare_setChn, hc]
  rfl

theorem rd_zoned {y : Fld} (h : y.apart (ST_MEM_ZONE f k)) (z : Nat) (x : ChanS) (d : Dev) : (d.zoned f k z x).rd y = d.rd y := by
  rw [Dev.zoned, rd_setZone h, setChn_rd]

theorem chn_zoned (z : Nat) (x : ChanS) (d : Dev) : (d.zoned f k z x).chn f k = x := by
  rw [Dev.chn, Dev.zoned, chan_setZone]
  exact chn_setChn x d

theorem chn_settle (d : Dev) : (settle d).chn f k = d.chn f k := by rw [Dev.chn, settle_chan, Dev.chn]

theorem time_zoned (z : Nat) (x : ChanS) (d : Dev) : (d.zoned f k z x).time = d.time := by
  change (d.zoned f k z x).bare.time = _
  rw [bare_zoned]
  rfl

theorem zone_alert : (ST_MEM_ZONE f k).apart PM_STATUS_ALERT := apart_alert (by simp only [ST_MEM_ZONE, stBase]; omega)

/-- What a new zone of a channel shows, and all that it changes. -/
theorem zoned_shown {s : State} {z : Nat} {x : ChanS} (h : z < 4) : (settle (s.dev.zoned f k z x)).rd (ST_MEM_ZONE f k) = z ∧
    (settle (s.dev.zoned f k z x)).chn f k = x ∧ s.changes { s with dev := settle (s.dev.zoned f k z x) }
      { s.dev with chan := (settle (s.dev.zoned f k z x)).chan, fld := (settle (s.dev.zoned f k z x)).fld } [ST_MEM_ZONE f k] := by
  refine ⟨?_, ?_, changes_bare ?_ fun y hy => rd_zoned (hy _ (by simp)) _ _ _⟩
  · rw [rd_settle zone_alert]
    exact zone_setZone h _
  · rw [chn_settle, chn_zoned]
  · rw [settle_chan, settle_fld]
    exact bare_zoned _ _ _

/-- The same with a fault. -/
theorem zoned_raised {s : State} {z : Nat} {x : ChanS} {c : FClass} {t a b : Nat} (h : z < 4) :
    (settle ((s.dev.zoned f k z x).raise c t a b)).rd (ST_MEM_ZONE f k) = z ∧
    (settle ((s.dev.zoned f k z x).raise c t a b)).chn f k = x ∧ s.changes { s with dev := settle ((s.dev.zoned f k z x).raise c t a b) }
      { s.dev with
        chan := (settle ((s.dev.zoned f k z x).raise c t a b)).chan, fld := (settle ((s.dev.zoned f k z x).raise c t a b)).fld
        fc := { s.dev.fc with raised := s.dev.fc.raised ++ [s.dev.report c t a b] } } [ST_MEM_ZONE f k] := by
  refine ⟨?_, ?_, changes_bare ?_ fun y hy => rd_zoned (hy _ (by simp)) _ _ _⟩
  · rw [rd_settle zone_alert, Dev.raise_rd]
    exact zone_setZone h _
  · rw [chn_settle, Dev.chn, Dev.raise_chan]
    exact chn_zoned _ _ _
  · rw [settle_chan, settle_fld, Dev.raise_chan, Dev.raise_fld, Dev.raise, bare_raiseR, bare_zoned, Dev.report, time_zoned]
    rfl

end

/-- R269: the zone that a report asks for. -/
def Dev.mr4Want (d : Dev) (f code : Nat) : Nat := min 2 (d.rd (ST_MEM_MR4MAP f code))

/-- R269: a report of a channel that the field has. -/
theorem mr4Report_eq {f k code : Nat} {d : Dev} (h : k < d.rd (ST_MEM_NCH_NCH f)) : mr4Report f k code d =
    if min 2 (d.zone f k) ≤ d.mr4Want f code then
      onlyIf (d.mr4Want f code = 2 && decide (min 2 (d.zone f k) < 2)) (·.raise .therm 5 f k)
        (if d.mr4Want f code = d.zone f k then setChn f k ⟨0, d.time.nbRun⟩ d else d.zoned f k (d.mr4Want f code) ⟨0, d.time.nbRun⟩)
    else if orDef (d.rd (ST_MEM_CFG_MEM_HYST f)) 1 ≤ (d.chn f k).cooler + 1 then
      onlyIf (min 2 (d.zone f k) = 2) (·.raise .therm 6 f k) (d.zoned f k (min 2 (d.zone f k) - 1) ⟨0, d.time.nbRun⟩)
    else if min 2 (d.zone f k) = d.zone f k then setChn f k ⟨(d.chn f k).cooler + 1, d.time.nbRun⟩ d
      else d.zoned f k (min 2 (d.zone f k)) ⟨(d.chn f k).cooler + 1, d.time.nbRun⟩ := if_neg (Nat.not_le.mpr h)

/-- R269: a report that changes no zone. -/
theorem completes_seen {s : State} {f : Fin 96} {k : Fin 32} {c : BitVec 5} {x : ChanS} (hs : s.awake)
    (hg : mr4Report f k c.toNat s.dev = setChn f k x s.dev) : Completes (.mr4Report f k c) s fun t => t.dev.chn f k = x ∧
      s.changes t { s.dev with chan := t.dev.chan } [] := by
  refine completes_eq rfl hs hg ⟨?_, changes_bare ?_ fun y _ => setChn_rd _ _ _⟩
  · rw [chn_settle, chn_setChn]
  · rw [settle_chan]
    exact bare_setChn _ _

/-! Engines (R271). -/

theorem bit_eq_rdB {a n e : Nat} (h : e < n) (d : Dev) : d.bit ⟨a, 0, n⟩ e = d.rdB ⟨a, e, 1⟩ := by
  have hbit (x : Nat) : (x % 2 ^ n).testBit e = decide (x / 2 ^ e % 2 ≠ 0) := by
    rw [Nat.testBit_mod_two_pow, decide_eq_true h, Bool.true_and, Nat.testBit_eq_decide_div_mod_eq, decide_eq_decide]
    omega
  simp only [Dev.bit, bitOf, Dev.rdB, Dev.rd, fldGet, bitsOf, Nat.pow_zero, Nat.div_one, Nat.pow_one, hbit]

section
variable {e : Nat} {d : Dev}

/-- R271: the fields whose links an engine carries take note. -/
def optNote (l : List Nat) : Dev → Dev := forL l fun f d => d.updFd f fun x => { x with optEng := true, fixDue := true }

theorem fieldsMove_optNote (l : List Nat) (d : Dev) : d.FieldsMove (optNote l d) := fieldsMove_forL l (fun _ d => fieldsMove_updFd _ _ d) d

theorem optNote_rd (l : List Nat) (d : Dev) (x : Fld) : (optNote l d).rd x = d.rd x := rd_forL l d fun _ _ => Dev.updFd_rd _ _ _ _

theorem fd_optNote {l : List Nat} {f : Nat} (h : f ∈ l) (d : Dev) : ((optNote l d).fd f).optEng = true ∧ ((optNote l d).fd f).fixDue = true := by
  refine forL_of_mem (P := fun d => (d.fd f).optEng = true ∧ (d.fd f).fixDue = true)
    (g := fun f d => d.updFd f fun x => { x with optEng := true, fixDue := true }) h (fun d => ?_) (fun b _ d hd => ?_) d
  · rw [fd_updFd]
    exact ⟨rfl, rfl⟩
  · by_cases hb : f = b
    · rw [← hb, fd_updFd]
      exact ⟨rfl, rfl⟩
    · rwa [fd_updFd_ne _ _ hb]

/-- R153, R271: an engine that leaves its window. -/
def Dev.optLeft (d : Dev) (e : Nat) : Dev := (d.wrB (JZ_OPT_OUT_ENGINE e) true).raise .therm 7 central e

/-- R271: the fields whose links an engine carries. -/
def Dev.optFields (d : Dev) (e : Nat) : List Nat := d.enabled.filter fun f => e ∈ (d.fd f).optics

theorem optLeave_eq (e : Nat) (d : Dev) : optLeave e d = (optNote ((d.optLeft e).optFields e) (d.optLeft e)).emit (.linkDegraded e true) := rfl

theorem fd_optLeft (f : Nat) : (d.optLeft e).fd f = d.fd f := by rw [Dev.optLeft, Dev.raise_fd, Dev.wrB_fd]

theorem optFields_optLeft : (d.optLeft e).optFields e = d.optFields e := by
  simp only [Dev.optFields, Dev.enabled, fd_optLeft]

theorem bare_optLeave : (optLeave e d).bare = Dev.bare
    { d with
      fld := (optLeave e d).fld
      fc := { d.fc with raised := d.fc.raised ++ [d.report .therm 7 central e] }
      out := .linkDegraded e true :: d.out } := by
  have h := fieldsMove_optNote ((d.optLeft e).optFields e) (d.optLeft e)
  have hf : (optLeave e d).fld = (optNote ((d.optLeft e).optFields e) (d.optLeft e)).fld := by rw [optLeave_eq, Dev.emit_fld]
  rw [hf, optLeave_eq, bare_emit, h, Dev.optLeft, Dev.raise, bare_raiseR, bare_wrB, Dev.report, Dev.wrB_time]
  generalize (optNote _ _).fld = y
  rfl

theorem rd_optLeave {x : Fld} (h : x.apart (JZ_OPT_OUT_ENGINE e)) : (optLeave e d).rd x = d.rd x := by
  rw [optLeave_eq, Dev.emit_rd, optNote_rd, Dev.optLeft, Dev.raise_rd, rd_wrB_apart _ h]

theorem out_optLeave (h : e < 24) : (optLeave e d).rdB (JZ_OPT_OUT_ENGINE e) = true := by
  rw [optLeave_eq, Dev.emit_rdB, Dev.rdB, optNote_rd, Dev.optLeft, Dev.raise_rd]
  exact rdB_wrB_eq true ⟨rfl, by simp only [Fld.fits, JZ_OPT_OUT_ENGINE]; omega⟩

theorem fd_optLeave (f : Nat) : (optLeave e d).fd f = (optNote (d.optFields e) (d.optLeft e)).fd f := by
  rw [optLeave_eq, Dev.emit_fd, optFields_optLeft]

/-- R271: a report of an engine is noted. -/
def Dev.optSeen (d : Dev) (e : Nat) : Dev := { d with opt := tput 0 e d.time.nbRun d.opt }

theorem optReport_eq (temps : List Int) : optReport e temps d =
    if d.bit JZ_OPT_OUT_OUT e = true then
      if (temps.all fun t => decide (d.rdS JZ_OPT_CFG_OPT_LO + (d.rd JZ_OPT_CFG_OPT_HYST : Int) ≤ t) &&
          decide (t ≤ d.rdS JZ_OPT_CFG_OPT_HI - (d.rd JZ_OPT_CFG_OPT_HYST : Int))) = true
        then ((d.optSeen e).wrB (JZ_OPT_OUT_ENGINE e) false).emit (.linkDegraded e false) else d.optSeen e
    else if (temps.any fun t => decide (t < d.rdS JZ_OPT_CFG_OPT_LO) || decide (d.rdS JZ_OPT_CFG_OPT_HI < t)) = true
      then optLeave e (d.optSeen e) else d.optSeen e := rfl

theorem engine_alert : (JZ_OPT_OUT_ENGINE e).apart PM_STATUS_ALERT := .inl (by simp [JZ_OPT_OUT_ENGINE, PM_STATUS_ALERT])

theorem bit_out (h : e < 24) (d : Dev) : d.bit JZ_OPT_OUT_OUT e = d.rdB (JZ_OPT_OUT_ENGINE e) := bit_eq_rdB h d

end

/-- Settles O38. -/
theorem memoryAndOptics : Obligations.MemoryAndOptics := by
  unfold Obligations.MemoryAndOptics
  refine ⟨fun s f k c hs h => ?_, fun s f k c hs hk hz hw => ?_, fun s f k c hs hk hz hw => ?_, fun s f k c hs hk hz => ?_,
    fun s f k c hs hk hw hz hn => ?_, fun s f k c hs hk hw hz hn => ?_, fun s f k c hs hk hw hz hn => ?_, fun s f k hs hk hz he => ?_,
    fun s f k hs h => ?_, fun s e a b hs ho ht => ?_, fun s e a b hs ho h1 h2 h3 h4 => ?_, fun s e a b hs ho h1 h2 h3 h4 => ?_,
    fun s e hs ho he => ?_, fun s e hs h => ?_⟩
  · exact completes_unchanged rfl hs (if_pos h)
  · have hwant : s.dev.mr4Want f c.toNat = 2 := hw
    have hg : mr4Report f k c.toNat s.dev = (s.dev.zoned f k 2 ⟨0, s.dev.time.nbRun⟩).raise .therm 5 f k := by
      rw [mr4Report_eq hk, hwant, if_pos (by omega), if_neg (by omega), decide_eq_true (show min 2 (s.dev.zone f k) < 2 by omega)]
      rfl
    exact completes_eq rfl hs hg (zoned_raised (by decide))
  · have hwant : s.dev.mr4Want f c.toNat = min 2 (s.dev.rd (ST_MEM_MR4MAP f c.toNat)) := rfl
    have hg : mr4Report f k c.toNat s.dev = s.dev.zoned f k (s.dev.mr4Want f c.toNat) ⟨0, s.dev.time.nbRun⟩ := by
      rw [mr4Report_eq hk, if_pos (by omega), if_neg (by omega), decide_eq_false (show ¬ s.dev.mr4Want f c.toNat = 2 by omega)]
      rfl
    exact completes_eq rfl hs hg (zoned_shown (by omega))
  · have hwant : s.dev.mr4Want f c.toNat = s.dev.zone f k := hz.symm
    refine completes_seen hs ?_
    rw [mr4Report_eq hk, hwant, if_pos (by omega), if_pos rfl]
    by_cases h2 : s.dev.zone f k = 2
    · rw [h2]
      rfl
    · rw [decide_eq_false h2]
      rfl
  · have hwant : s.dev.mr4Want f c.toNat < s.dev.zone f k := hw
    refine completes_seen hs ?_
    rw [mr4Report_eq hk, if_neg (by omega), if_neg (by omega), if_pos (by omega)]
  · have hwant : s.dev.mr4Want f c.toNat < 1 := hw
    have hg : mr4Report f k c.toNat s.dev = s.dev.zoned f k 0 ⟨0, s.dev.time.nbRun⟩ := by
      rw [mr4Report_eq hk, if_neg (by omega), if_pos hn, hz]
      rfl
    exact completes_eq rfl hs hg (zoned_shown (by decide))
  · have hwant : s.dev.mr4Want f c.toNat < 2 := hw
    have hnow : min 2 (s.dev.zone f k) = 2 := by omega
    have hg : mr4Report f k c.toNat s.dev = (s.dev.zoned f k 1 ⟨0, s.dev.time.nbRun⟩).raise .therm 6 f k := by
      rw [mr4Report_eq hk, hnow, if_neg (by omega), if_pos hn]
      rfl
    exact completes_eq rfl hs hg (zoned_raised (by decide))
  · have hg : mr4Lost f k s.dev = (s.dev.zoned f k 3 { s.dev.chn f k with cooler := 0 }).raise .sense 5 f k := if_pos ⟨hk, hz, he⟩
    obtain ⟨h1, h2, h3⟩ := zoned_raised (s := s) (f := f) (k := k) (z := 3) (x := { s.dev.chn f k with cooler := 0 }) (c := .sense) (t := 5) (a := f)
      (b := k) (by decide)
    exact completes_eq rfl hs hg ⟨h1, by rw [h2], h3⟩
  · refine completes_unchanged rfl hs (if_neg ?_)
    rintro ⟨hk, hz, he⟩
    rcases h with h | h | h
    · omega
    · exact hz h
    · rw [he] at h
      exact absurd h (by decide)
  · have hg : optReport e [a.toInt, b.toInt] s.dev = optLeave e (s.dev.optSeen e) := by
      rw [optReport_eq, if_neg (by rw [ho]; decide), if_pos]
      rcases ht with h | h <;> simp [h]
    have hbit : (settle (optLeave e (s.dev.optSeen e))).bit JZ_OPT_OUT_OUT e = true := by
      rw [bit_out e.isLt, rdB_settle engine_alert, out_optLeave e.isLt]
    refine completes_eq rfl hs hg ⟨hbit, fun f hf ho => ?_, changes_bare ?_ fun x hx => rd_optLeave (hx _ (by simp))⟩
    · rw [fd_settle, fd_optLeave]
      exact fd_optNote (List.mem_filter.mpr ⟨hf, decide_eq_true ho⟩) _
    · rw [settle_fld, bare_optLeave]
      generalize (optLeave e (s.dev.optSeen e)).fld = y
      rfl
  · have hg : optReport e [a.toInt, b.toInt] s.dev = s.dev.optSeen e := by
      rw [optReport_eq, if_neg (by rw [ho]; decide), if_neg]
      simp [h1, h2, h3, h4]
    exact completes_eq rfl hs hg (changes_bare rfl fun x _ => rfl)
  · have hg : optReport e [a.toInt, b.toInt] s.dev = ((s.dev.optSeen e).wrB (JZ_OPT_OUT_ENGINE e) false).emit (.linkDegraded e false) := by
      rw [optReport_eq, if_pos ho, if_pos]
      simp [h1, h2, h3, h4]
    refine completes_eq rfl hs hg ⟨?_, changes_bare ?_ fun x hx => (rd_wrB_apart _ (hx _ (by simp))).trans rfl⟩
    · rw [bit_out e.isLt, rdB_settle engine_alert, Dev.emit_rdB]
      exact rdB_wrB_eq false ⟨rfl, by simp only [Fld.fits, JZ_OPT_OUT_ENGINE]; omega⟩
    · rw [bare_emit, bare_wrB]
      rfl
  · have hg : optLost e s.dev = optLeave e s.dev := if_pos ⟨by rw [ho]; rfl, he⟩
    refine completes_eq rfl hs hg ⟨?_, changes_bare ?_ fun x hx => rd_optLeave (hx _ (by simp))⟩
    · rw [bit_out e.isLt, rdB_settle engine_alert, out_optLeave e.isLt]
    · rw [settle_fld]
      exact bare_optLeave
  · refine completes_unchanged rfl hs (if_neg ?_)
    rintro ⟨ho, he⟩
    rcases h with h | h
    · rw [h] at ho
      exact absurd ho (by decide)
    · rw [he] at h
      exact absurd h (by decide)

end Sys2Proof.Machine
end

section
/-! O50: the ring in the flash (R379, R381, R384 to R389). -/

namespace Sys2Proof.Machine

/-! What the ring's commands write beside the registers. -/

/-- The device without its registers and without what writing the ring moves. -/
def Dev.sansRing (d : Dev) : Dev :=
  { d.bare with ev := { d.ev with pend := [], next := 0, series := [], clear := [] }, nv := { d.nv with flash := [] } }

/-- A device with given contents of what writing the ring moves. -/
def Dev.withRing (pend : List (List Nat)) (next : Nat) (series : Tab Nat) (clear : List Nat) (flash : Tab Byte) (d : Dev) : Dev :=
  { d with ev := { d.ev with pend, next, series, clear }, nv := { d.nv with flash } }

theorem sansRing_of_bare {d e : Dev} (h : d.bare = e.bare) : d.sansRing = e.sansRing := by
  have hb (d : Dev) : d.sansRing = d.bare.sansRing := rfl
  rw [hb, h, ← hb]

theorem bare_eq_withRing (d : Dev) : d.bare = d.sansRing.withRing d.ev.pend d.ev.next d.ev.series d.ev.clear d.nv.flash := rfl

theorem withRing_sansRing (d : Dev) (p : List (List Nat)) (n : Nat) (s : Tab Nat) (c : List Nat) (x : Tab Byte) :
    d.sansRing.withRing p n s c x = (d.withRing p n s c x).bare := rfl

/-- A device that moves the ring alone. -/
theorem bare_of_sansRing {d e : Dev} (h : e.sansRing = d.sansRing) :
    e.bare = (d.withRing e.ev.pend e.ev.next e.ev.series e.ev.clear e.nv.flash).bare := by
  rw [bare_eq_withRing, h, withRing_sansRing]

section
variable (d : Dev)

theorem sansRing_setFlash (x : Tab Byte) : (d.setFlash x).sansRing = d.sansRing := rfl
theorem sansRing_nvProg (a : Nat) (bs : List Nat) : (nvProg a bs d).sansRing = d.sansRing := by rw [nvProg_eq, sansRing_setFlash]
theorem sansRing_nvErase (a n : Nat) : (nvErase a n d).sansRing = d.sansRing := by rw [nvErase_eq, sansRing_setFlash]
theorem sansRing_wr (fl : Fld) (v : Nat) : (d.wr fl v).sansRing = d.sansRing := rfl
theorem sansRing_wrB (fl : Fld) (b : Bool) : (d.wrB fl b).sansRing = d.sansRing := rfl
theorem sansRing_pend (l : List (List Nat)) : (d.updEv fun x => { x with pend := l }).sansRing = d.sansRing := rfl
theorem sansRing_clear (g : RecS → List Nat) : (d.updEv fun x => { x with clear := g x }).sansRing = d.sansRing := rfl
theorem sansRing_next (g : RecS → Tab Nat) (n : Nat) : (d.updEv fun x => { x with series := g x, next := n }).sansRing = d.sansRing := rfl

theorem ev_of_bare {d e : Dev} (h : d.bare = e.bare) : d.ev = e.ev := by
  change d.bare.ev = e.bare.ev
  rw [h]

theorem ev_nvProg (a : Nat) (bs : List Nat) : (nvProg a bs d).ev = d.ev := by
  rw [nvProg_eq]
  rfl

theorem ev_nvErase (a n : Nat) : (nvErase a n d).ev = d.ev := rfl

/-! The count of writes of the ring (R384). -/

theorem wseq_bumpWseq (n : Nat) : (bumpWseq n d).rd EV_WSEQ_WSEQ = (d.rd EV_WSEQ_WSEQ + n) % 2 ^ 32 :=
  (rd_wr_eq _ (by decide)).trans (Nat.mod_mod _ _)

theorem rd_bumpWseq {x : Fld} (h : x.apart EV_WSEQ_WSEQ) (n : Nat) : (bumpWseq n d).rd x = d.rd x := rd_wr_apart _ h

theorem bare_bumpWseq (n : Nat) : (bumpWseq n d).bare = d.bare := bare_wr _ _ _

theorem ev_bumpWseq (n : Nat) : (bumpWseq n d).ev = d.ev := Dev.wr_ev _ _ _

theorem nv_bumpWseq (n : Nat) : (bumpWseq n d).nv = d.nv := Dev.wr_nv _ _ _

theorem ev_updEv (g : RecS → RecS) : (d.updEv g).ev = g d.ev := rfl

theorem nv_updEv (g : RecS → RecS) : (d.updEv g).nv = d.nv := rfl

end

/-! Slots of the ring (R385). -/

/-- The fields that writing a record of the ring writes. -/
def ringRegs : List Fld := [EV_HEAD_SEQ, EV_WSEQ_WSEQ, EV_OLDEST_SEQ]

/-- Erased bytes programmed read as they were programmed. -/
theorem nvBytes_nvProg_erased {a : Nat} {l : List Nat} {d : Dev} (he : ∀ j < l.length, d.nvByte (a + j) = 0xFF) (hl : ∀ b ∈ l, b < 256) :
    (nvProg a l d).nvBytes a l.length = l := by
  refine List.ext_getElem (by rw [Dev.nvBytes, List.length_map, List.length_range]) fun j h1 h2 => ?_
  simp only [Dev.nvBytes, List.getElem_map, List.getElem_range]
  rw [nvByte_nvProg_in h2, he j h2, List.getD_eq_getElem?_getD, List.getElem?_eq_getElem h2, Option.getD_some, and_erased (hl _ (List.getElem_mem h2))]

/-- What entering a sector erases is no slot of that sector. -/
theorem slotAddr_enter (n j : Nat) (hj : j < 64) :
    ¬ (evBase + 4096 * sectorOf (n + 16 * 64) ≤ slotAddr n + j ∧ slotAddr n + j < evBase + 4096 * sectorOf (n + 16 * 64) + 4096) := by
  simp only [slotAddr, sectorOf, evBase]
  omega

section
variable (n : Nat) (d : Dev)

theorem enterSector_stays (h : n % 64 ≠ 0) : enterSector n d = d := if_pos h

/-- The device with the 16th sector ahead erased. -/
def Dev.sectorErased (n : Nat) (d : Dev) : Dev := nvErase (evBase + 4096 * sectorOf (n + 16 * 64)) 4096 d

/-- The device with the 16th sector ahead erased, and no sector that the writing enters left to be cleared. -/
def Dev.sectorEntered (n : Nat) (d : Dev) : Dev := (bumpWseq 1 (d.sectorErased n)).updEv fun x =>
  { x with clear := x.clear.filter fun y => y ≠ sectorOf (n + 16 * 64) ∧ y ≠ sectorOf n }

theorem enterSector_enters (h : n % 64 = 0) : enterSector n d = (d.sectorEntered n).wr EV_OLDEST_SEQ
    (max ((d.sectorEntered n).rd EV_OLDEST_SEQ) (oldestAfter n)) := if_neg (not_not_intro h)

theorem sansRing_sectorEntered : (d.sectorEntered n).sansRing = d.sansRing := by
  rw [Dev.sectorEntered, sansRing_clear _ fun x => x.clear.filter _, sansRing_of_bare (bare_bumpWseq _ 1), Dev.sectorErased, sansRing_nvErase]

theorem rd_sectorEntered {x : Fld} (hw : x.apart EV_WSEQ_WSEQ) : (d.sectorEntered n).rd x = d.rd x := by
  rw [Dev.sectorEntered, updEv_rd, rd_bumpWseq _ hw, Dev.sectorErased, rd_nvErase]

theorem wseq_sectorEntered : (d.sectorEntered n).rd EV_WSEQ_WSEQ = (d.rd EV_WSEQ_WSEQ + 1) % 2 ^ 32 := by
  rw [Dev.sectorEntered, updEv_rd, wseq_bumpWseq, Dev.sectorErased, rd_nvErase]

theorem nv_sectorEntered : (d.sectorEntered n).nv = (d.sectorErased n).nv := by rw [Dev.sectorEntered, nv_updEv, nv_bumpWseq]

theorem ev_sectorEntered : (d.sectorEntered n).ev = { d.ev with clear := (d.sectorEntered n).ev.clear } := by
  rw [Dev.sectorEntered, ev_updEv, ev_bumpWseq, Dev.sectorErased, ev_nvErase]

theorem sansRing_enterSector : (enterSector n d).sansRing = d.sansRing := by
  by_cases h : n % 64 = 0
  · rw [enterSector_enters n d h, sansRing_wr, sansRing_sectorEntered]
  · rw [enterSector_stays n d h]

theorem rd_enterSector {x : Fld} (hw : x.apart EV_WSEQ_WSEQ) (ho : x.apart EV_OLDEST_SEQ) : (enterSector n d).rd x = d.rd x := by
  by_cases h : n % 64 = 0
  · rw [enterSector_enters n d h, rd_wr_apart _ ho, rd_sectorEntered _ _ hw]
  · rw [enterSector_stays n d h]

theorem wseq_enterSector : (enterSector n d).rd EV_WSEQ_WSEQ = (d.rd EV_WSEQ_WSEQ + if n % 64 = 0 then 1 else 0) % 2 ^ 32 := by
  by_cases h : n % 64 = 0
  · rw [enterSector_enters n d h, rd_wr_apart _ (by decide), wseq_sectorEntered, if_pos h]
  · have hlt : d.rd EV_WSEQ_WSEQ < 2 ^ 32 := rd_lt EV_WSEQ_WSEQ d
    rw [enterSector_stays n d h, if_neg h, Nat.add_zero, Nat.mod_eq_of_lt hlt]

theorem ev_enterSector : (enterSector n d).ev = { d.ev with clear := (enterSector n d).ev.clear } := by
  by_cases h : n % 64 = 0
  · rw [enterSector_enters n d h, Dev.wr_ev]
    exact ev_sectorEntered n d
  · rw [enterSector_stays n d h]

theorem nvByte_enterSector {j : Nat} (hj : j < 64) : (enterSector n d).nvByte (slotAddr n + j) = d.nvByte (slotAddr n + j) := by
  by_cases h : n % 64 = 0
  · have hflash : (enterSector n d).nv.flash = (d.sectorErased n).nv.flash := by
      rw [enterSector_enters n d h, Dev.wr_nv, nv_sectorEntered]
    rw [nvByte_of_flash hflash, Dev.sectorErased, nvByte_nvErase, if_neg (slotAddr_enter n j hj)]
  · rw [enterSector_stays n d h]

end

/-- R381: the first 56 bytes of a record, with its SEQ. -/
def recBody (n : Nat) (r : List Nat) : List Nat := r.take 4 ++ leBytes 4 n ++ (r.drop 8).take 48

/-- R381: a record as it is written, with the marks of its repeats erased. -/
def recBytes (n : Nat) (r : List Nat) : List Nat := recBody n r ++ leBytes 4 0xFFFFFFFF ++ leBytes 4 (crc32 (recBody n r))

theorem length_recBytes {r : List Nat} (h : r.length = 56) (n : Nat) : (recBytes n r).length = 64 := by
  simp only [recBytes, recBody, List.length_append, List.length_take, List.length_drop, leBytes_length, h]
  decide

theorem recBytes_lt {r : List Nat} (h : ∀ b ∈ r, b < 256) (n : Nat) : ∀ b ∈ recBytes n r, b < 256 := by
  intro b hb
  simp only [recBytes, recBody, List.mem_append] at hb
  rcases hb with ((((hb | hb) | hb) | hb) | hb)
  · exact h b (List.mem_of_mem_take hb)
  · exact leBytes_lt hb
  · exact h b (List.mem_of_mem_drop (List.mem_of_mem_take hb))
  · exact leBytes_lt hb
  · exact leBytes_lt hb

section
variable (r : List Nat) (d : Dev)

theorem putRecord_eq : putRecord r d = ((bumpWseq 1 (nvProg (slotAddr d.ev.next) (recBytes d.ev.next r) (enterSector d.ev.next d))).updEv fun x =>
    { x with series := tput 0 (seriesKey r) (d.ev.next + 1) x.series, next := d.ev.next + 1 }).wr EV_HEAD_SEQ d.ev.next := rfl

theorem sansRing_putRecord : (putRecord r d).sansRing = d.sansRing := by
  rw [putRecord_eq, sansRing_wr, sansRing_next _ fun x => tput 0 (seriesKey r) (d.ev.next + 1) x.series, sansRing_of_bare (bare_bumpWseq _ 1), sansRing_nvProg,
    sansRing_enterSector]

theorem rd_putRecord {x : Fld} (h : ∀ y ∈ ringRegs, x.apart y) : (putRecord r d).rd x = d.rd x := by
  simp only [ringRegs, List.forall_mem_cons] at h
  obtain ⟨hh, hw, ho, -⟩ := h
  rw [putRecord_eq, rd_wr_apart _ hh, updEv_rd, rd_bumpWseq _ hw, rd_nvProg, rd_enterSector _ _ hw ho]

theorem head_putRecord : (putRecord r d).rd EV_HEAD_SEQ = d.ev.next % 2 ^ 32 := by
  rw [putRecord_eq]
  exact rd_wr_eq _ (by decide)

theorem wseq_putRecord : (putRecord r d).rd EV_WSEQ_WSEQ = (d.rd EV_WSEQ_WSEQ + if d.ev.next % 64 = 0 then 2 else 1) % 2 ^ 32 := by
  rw [putRecord_eq, rd_wr_apart _ (by decide), updEv_rd, wseq_bumpWseq, rd_nvProg, wseq_enterSector]
  split <;> omega

theorem ev_putRecord : (putRecord r d).ev = { d.ev with clear := (putRecord r d).ev.clear, series := (putRecord r d).ev.series, next := d.ev.next + 1 } := by
  have h : (nvProg (slotAddr d.ev.next) (recBytes d.ev.next r) (enterSector d.ev.next d)).ev = { d.ev with clear := (enterSector d.ev.next d).ev.clear } := by
    rw [ev_nvProg, ev_enterSector]
  rw [putRecord_eq, Dev.wr_ev, ev_updEv, ev_bumpWseq, h]

theorem flash_putRecord : (putRecord r d).nv.flash = (nvProg (slotAddr d.ev.next) (recBytes d.ev.next r) (enterSector d.ev.next d)).nv.flash := by
  rw [putRecord_eq, Dev.wr_nv, nv_updEv, nv_bumpWseq]

theorem nvByte_putRecord {j : Nat} (hj : j < (recBytes d.ev.next r).length) (hl : (recBytes d.ev.next r).length ≤ 64) :
    (putRecord r d).nvByte (slotAddr d.ev.next + j) = d.nvByte (slotAddr d.ev.next + j) &&& (recBytes d.ev.next r).getD j 0 := by
  rw [nvByte_of_flash (flash_putRecord r d), nvByte_nvProg_in hj, nvByte_enterSector _ _ (by omega)]

theorem slotBytes_putRecord {r : List Nat} {d : Dev} (hr : r.length = 56) (hb : ∀ b ∈ r, b < 256) (he : ∀ j : Fin 64, d.nvByte (slotAddr d.ev.next + j) = 0xFF) :
    (putRecord r d).slotBytes d.ev.next = recBytes d.ev.next r := by
  have hlen := length_recBytes hr d.ev.next
  have h := nvBytes_nvProg_erased (a := slotAddr d.ev.next) (d := enterSector d.ev.next d) (l := recBytes d.ev.next r) (fun j hj => by
    rw [hlen] at hj
    rw [nvByte_enterSector _ _ hj, he ⟨j, hj⟩]) (recBytes_lt hb _)
  rw [hlen] at h
  rw [Dev.slotBytes, nvBytes_of_flash (flash_putRecord r d), h]

end

/-! Records that are pending (R384, R389). -/

section
variable (r : List Nat) (d : Dev)

/-- R384, R389: a record that repeats none is written. -/
def written (r : List Nat) (d : Dev) : Dev := if isClear r then putClear r d else putRecord r d

theorem putClear_eq : putClear r d = (putRecord r d).updEv fun x => { x with clear := (List.range 2047).map fun i => (sectorOf d.ev.next + 1 + i) % 2048 } := rfl

theorem sansRing_putClear : (putClear r d).sansRing = d.sansRing := by
  rw [putClear_eq, sansRing_clear _ fun _ => _, sansRing_putRecord]

theorem rd_putClear (x : Fld) : (putClear r d).rd x = (putRecord r d).rd x := by rw [putClear_eq, updEv_rd]

theorem nv_putClear : (putClear r d).nv = (putRecord r d).nv := by rw [putClear_eq, nv_updEv]

theorem ev_putClear : (putClear r d).ev = { (putRecord r d).ev with clear := (List.range 2047).map fun i => (sectorOf d.ev.next + 1 + i) % 2048 } := by
  rw [putClear_eq, ev_updEv]

theorem sansRing_written : (written r d).sansRing = d.sansRing := by
  unfold written
  split
  · exact sansRing_putClear r d
  · exact sansRing_putRecord r d

theorem rd_written (x : Fld) : (written r d).rd x = (putRecord r d).rd x := by
  unfold written
  split
  · exact rd_putClear r d x
  · rfl

theorem nv_written : (written r d).nv = (putRecord r d).nv := by
  unfold written
  split
  · exact nv_putClear r d
  · rfl

theorem pend_written : (written r d).ev.pend = d.ev.pend := by
  unfold written
  split
  · rw [ev_putClear, ev_putRecord]
  · rw [ev_putRecord]

theorem next_written : (written r d).ev.next = d.ev.next + 1 := by
  unfold written
  split
  · rw [ev_putClear, ev_putRecord]
  · rw [ev_putRecord]

/-- R386: the mark that a shutdown's record is written. -/
def shutMark (r : List Nat) (d : Dev) : Dev := onlyIf (r.getD 0 0 = 6 && r.getD 18 0 = 1) (·.wrB EV_STATUS_SHUT_DONE true) d

theorem rd_shutMark {x : Fld} (h : x.apart EV_STATUS_SHUT_DONE) : (shutMark r d).rd x = d.rd x := rd_onlyIf (rd_wrB_apart true h)

theorem bare_shutMark : (shutMark r d).bare = d.bare := bare_onlyIf (bare_wrB _ _ _)

theorem rd_setPending {x : Fld} (h : x.apart EV_STATUS_PENDING) : (setPending d).rd x = d.rd x := rd_wrB_apart _ h

theorem bare_setPending : (setPending d).bare = d.bare := bare_wrB _ _ _

theorem pending_setPending : (setPending d).rdB EV_STATUS_PENDING = !d.ev.pend.isEmpty := rdB_wrB_eq _ (by decide)

/-- The device whose pending records are l. -/
def Dev.setPend (l : List (List Nat)) (d : Dev) : Dev := d.updEv fun x => { x with pend := l }

@[simp] theorem setPend_rd (l : List (List Nat)) (x : Fld) : (d.setPend l).rd x = d.rd x := rfl
@[simp] theorem setPend_nv (l : List (List Nat)) : (d.setPend l).nv = d.nv := rfl
@[simp] theorem setPend_ev (l : List (List Nat)) : (d.setPend l).ev = { d.ev with pend := l } := rfl
@[simp] theorem setPend_bare (l : List (List Nat)) : (d.setPend l).bare = d.bare.setPend l := rfl

theorem repeatOf_setPend (l : List (List Nat)) : (d.setPend l).repeatOf r = d.repeatOf r := rfl

/-- R384: one more repeat is marked at the record of SEQ n. -/
def Dev.repeatMarked (n : Nat) (d : Dev) : Dev := bumpWseq 1 (nvProg (slotAddr n + 56)
  (leBytes 4 (bytesAt (d.slotBytes n) 56 4 - 2 ^ repeatsOf (d.slotBytes n))) d)

variable {r d} {l : List (List Nat)}

theorem writeOne_writes (hp : d.ev.pend = r :: l) (hr : d.repeatOf r = none) : writeOne d = shutMark r (written r (d.setPend l)) := by
  have hr' : (d.updEv fun x => { x with pend := l }).repeatOf r = none := hr
  rw [writeOne, hp]
  dsimp only
  rw [hr', shutMark, written, Dev.setPend]

theorem writeOne_repeats {n : Nat} (hp : d.ev.pend = r :: l) (hr : d.repeatOf r = some n) (hc : isClear r = false) :
    writeOne d = shutMark r ((d.setPend l).repeatMarked n) := by
  have hr' : (d.updEv fun x => { x with pend := l }).repeatOf r = some n := hr
  rw [writeOne, hp]
  dsimp only
  rw [hr', hc, shutMark, Dev.repeatMarked, Dev.setPend]
  rfl

theorem recordSetWrite_one (h : d.ringReady = true) : recordSetWrite (1 : BitVec 10).toNat d = setPending (writeOne d) := if_pos h

theorem recordSetWrite_unready (h : d.ringReady = false) (n : Nat) : recordSetWrite n d = d := if_neg (by simp [h])

theorem writeOne_empty (h : d.ev.pend = []) : writeOne d = d := by rw [writeOne, h]

theorem iterN_fix {α : Type} {g : α → α} {a : α} (h : g a = a) (n : Nat) : iterN g n a = a := by
  induction n with
  | zero => rfl
  | succ n ih => rw [iterN, h, ih]

theorem recordSetWrite_empty (h : d.ringReady = true) (hp : d.ev.pend = []) (n : Nat) : recordSetWrite n d = setPending d := by
  rw [recordSetWrite, if_pos h, iterN_fix (writeOne_empty hp)]

end

/-! Marks of repeats (R384). -/

theorem repeatsOf_word {b : List Nat} {k : Nat} (hk : k < 32) (h : bytesAt b 56 4 = 2 ^ 32 - 2 ^ k) : repeatsOf b = k := by
  have hall : ∀ k < 32, ((List.range 32).filter fun i => !bitOf (2 ^ 32 - 2 ^ k) i).length = k := by decide +kernel
  rw [repeatsOf, h, hall k hk]

theorem bytesAt_nvBytes (a n off k : Nat) (d : Dev) (h : off + k ≤ n) : bytesAt (d.nvBytes a n) off k = ofBytes (d.nvBytes (a + off) k) := by
  rw [bytesAt]
  congr 1
  refine List.ext_getElem ?_ fun j h1 h2 => ?_
  · simp only [Dev.nvBytes, List.length_take, List.length_drop, List.length_map, List.length_range]
    omega
  · simp only [Dev.nvBytes, List.getElem_take, List.getElem_drop, List.getElem_map, List.getElem_range, Nat.add_assoc]

/-- The bytes that spell a number. -/
theorem leBytes_ofBytes {l : List Nat} (h : ∀ b ∈ l, b < 256) : leBytes l.length (ofBytes l) = l := by
  induction l with
  | nil => rfl
  | cons b l ih =>
    obtain ⟨hb, hl⟩ := List.forall_mem_cons.mp h
    have h1 : (b % 256 + 256 * ofBytes l) % 256 = b := by omega
    have h2 : (b % 256 + 256 * ofBytes l) / 256 = ofBytes l := by omega
    rw [List.length_cons, ofBytes, leBytes, h1, h2, ih hl]

/-- Programming a word over another leaves the bits that both have. -/
theorem nvBytes_nvProg (a : Nat) (l : List Nat) (d : Dev) : (nvProg a l d).nvBytes a l.length = List.zipWith (· &&& ·) (d.nvBytes a l.length) l := by
  refine List.ext_getElem (by simp [Dev.nvBytes]) fun j h1 h2 => ?_
  have hj : j < l.length := by simpa [Dev.nvBytes] using h1
  simp only [Dev.nvBytes, List.getElem_map, List.getElem_range, List.getElem_zipWith]
  rw [nvByte_nvProg_in hj, List.getD_eq_getElem?_getD, List.getElem?_eq_getElem hj, Option.getD_some]

/-- R384: a further repeat clears the next bit of REPEAT. -/
theorem repeat_repeatMarked {d : Dev} {n k : Nat} (hk : k < 32) (h : bytesAt (d.slotBytes n) 56 4 = 2 ^ 32 - 2 ^ k) :
    bytesAt ((d.repeatMarked n).slotBytes n) 56 4 = 2 ^ 32 - 2 ^ (k + 1) := by
  have hnew : 2 ^ 32 - 2 ^ k - 2 ^ k = 2 ^ 32 - 2 ^ (k + 1) := by rw [Nat.pow_succ]; omega
  have hword : ∀ k < 32, ofBytes (List.zipWith (· &&& ·) (leBytes 4 (2 ^ 32 - 2 ^ k)) (leBytes 4 (2 ^ 32 - 2 ^ (k + 1)))) = 2 ^ 32 - 2 ^ (k + 1) := by
    decide +kernel
  have hold : d.nvBytes (slotAddr n + 56) 4 = leBytes 4 (2 ^ 32 - 2 ^ k) := by
    have hw : ofBytes (d.nvBytes (slotAddr n + 56) 4) = 2 ^ 32 - 2 ^ k := (bytesAt_nvBytes _ _ _ _ _ (by decide)).symm.trans h
    have hl : (d.nvBytes (slotAddr n + 56) 4).length = 4 := by rw [Dev.nvBytes, List.length_map, List.length_range]
    have := leBytes_ofBytes (l := d.nvBytes (slotAddr n + 56) 4) fun b hb => by
      obtain ⟨i, -, rfl⟩ := List.mem_map.mp hb
      exact nvByte_lt _ _
    rw [hl, hw] at this
    exact this.symm
  have hflash : (d.repeatMarked n).nv.flash = (nvProg (slotAddr n + 56) (leBytes 4 (2 ^ 32 - 2 ^ (k + 1))) d).nv.flash := by
    rw [Dev.repeatMarked, nv_bumpWseq, repeatsOf_word hk h, h, hnew]
  have hprog := nvBytes_nvProg (slotAddr n + 56) (leBytes 4 (2 ^ 32 - 2 ^ (k + 1))) d
  rw [leBytes_length, hold] at hprog
  rw [Dev.slotBytes, bytesAt_nvBytes _ _ _ _ _ (by decide), nvBytes_of_flash hflash, hprog, hword k hk]

/-! The scan (R379, R385). -/

/-- What a table without a key gives for it. -/
theorem tget_of_no_key {α : Type} (dv : α) {t : Tab α} {k : Nat} (h : ∀ c ∈ t, c.1 ≠ k) : tget dv t k = dv := by
  induction t with
  | nil => rfl
  | cons c t ih =>
    obtain ⟨hc, ht⟩ := List.forall_mem_cons.mp h
    rw [tget, if_neg hc, ih ht]

/-- A field that counts nothing stays. -/
theorem rd_add_zero {fl : Fld} (d : Dev) (x : Fld) : (d.add fl 0).rd x = d.rd x := by
  have hv : satN (2 ^ fl.w - 1) (d.rd fl + 0) = fldGet fl (d.reg fl.addr) := by
    have := rd_lt fl d
    rw [Nat.add_zero, satN, if_neg (by omega), Dev.rd]
  rw [Dev.add, hv, Dev.wr, fldSet_fldGet, rd_setReg_self]

theorem headD_nvBytes {n : Nat} (h : 0 < n) (a z : Nat) (d : Dev) : (d.nvBytes a n).headD z = d.nvByte a := by
  obtain ⟨n, rfl⟩ := Nat.exists_eq_succ_of_ne_zero (Nat.ne_of_gt h)
  rw [Dev.nvBytes, List.range_succ_eq_map]
  rfl

section
variable {d : Dev}

theorem slotSeq_erased {s : Nat} (h : d.slotUsed s = false) : d.slotSeq s = none := by
  have hb : d.nvByte (evBase + 64 * s) = 0xFF := by simpa [Dev.slotUsed] using h
  rw [Dev.slotSeq, headD_nvBytes (by decide), hb]
  exact if_neg fun h => h.1 rfl

theorem slotUsed_of_empty (h : ∀ c ∈ d.nv.flash, c.1 < evBase ∨ evBase + 0x800000 ≤ c.1) {s : Nat} (hs : s < 131072) : d.slotUsed s = false := by
  have hb : d.nvByte (evBase + 64 * s) = 0xFF := by
    rw [Dev.nvByte, tget_of_no_key _ fun c hc => ?_]
    · rfl
    · have := h c hc
      omega
  rw [Dev.slotUsed, hb]
  rfl

/-- R385: the first slots of the sectors. -/
theorem firsts_lt {s : Nat} (h : s ∈ (List.range 2048).map (· * 64)) : s < 131072 := by
  obtain ⟨i, hi, rfl⟩ := List.mem_map.mp h
  have := List.mem_range.mp hi
  omega

theorem filterMap_slotSeq_erased {l : List Nat} (h : ∀ s ∈ l, d.slotUsed s = false) : l.filterMap d.slotSeq = [] :=
  List.filterMap_eq_nil_iff.mpr fun s hs => slotSeq_erased (h s hs)

/-- R379: what a scan counts as bad. -/
def Dev.scanBad (d : Dev) : Nat := (d.scanSlots.filter fun s => d.slotUsed s && (d.slotSeq s).isNone).length

/-- R379: the device whose scan is done. -/
def Dev.scanned (d : Dev) : Dev := (d.add EV_CNT_CRC_BAD d.scanBad).wrB EV_STATUS_SCANNED true

/-- R385: the hours that a scan adds. -/
def Dev.scanHours (newest : Nat) (d : Dev) : Nat := bytesAt (d.slotBytes newest) 8 4 - d.ev.hours0

/-- R385: the device that shows what a scan has found. -/
def Dev.scanShown (newest oldest extra : Nat) (d : Dev) : Dev :=
  ((d.wr EV_HEAD_SEQ newest).wr EV_OLDEST_SEQ oldest).wr EV_HOURS_HOURS (d.rd EV_HOURS_HOURS + extra)

theorem scan_starts (h7 : 7 ≤ d.start.step) (hs : d.rdB EV_STATUS_SCANNED = false) (hg : d.gateOk 9 = true) :
    ¬ (d.start.step < 7 || d.rdB EV_STATUS_SCANNED || !d.gateOk 9) = true := by
  simp [hs, hg, Nat.not_lt.mpr h7]

theorem ringScan_none (h7 : 7 ≤ d.start.step) (hs : d.rdB EV_STATUS_SCANNED = false) (hg : d.gateOk 9 = true)
    (hn : d.scanSlots.filterMap d.slotSeq = []) : ringScan d = d.scanned := by
  rw [ringScan, if_neg (scan_starts h7 hs hg)]
  exact if_pos hn

theorem ringScan_found (h7 : 7 ≤ d.start.step) (hs : d.rdB EV_STATUS_SCANNED = false) (hg : d.gateOk 9 = true)
    (hn : d.scanSlots.filterMap d.slotSeq ≠ []) : ∃ (next : Nat) (since : Nat → Nat), ringScan d =
      (d.scanned.scanShown (maxN (d.scanSlots.filterMap d.slotSeq)) ((minN (d.scanSlots.filterMap d.slotSeq)).getD 0)
        (d.scanned.scanHours (maxN (d.scanSlots.filterMap d.slotSeq)))).updEv fun x => { x with next, since := since x.since } := by
  refine ⟨(d.scanned.scanShown (maxN (d.scanSlots.filterMap d.slotSeq)) ((minN (d.scanSlots.filterMap d.slotSeq)).getD 0)
    (d.scanned.scanHours (maxN (d.scanSlots.filterMap d.slotSeq)))).nextFree 64 (maxN (d.scanSlots.filterMap d.slotSeq) + 1), fun y => y + d.scanned.scanHours (maxN (d.scanSlots.filterMap d.slotSeq)), ?_⟩
  rw [ringScan, if_neg (scan_starts h7 hs hg)]
  exact if_neg hn

theorem rd_scanned {x : Fld} (hc : x.apart EV_CNT_CRC_BAD) (hs : x.apart EV_STATUS_SCANNED) : d.scanned.rd x = d.rd x := by
  rw [Dev.scanned, rd_wrB_apart _ hs, rd_add_apart _ hc]

theorem scanned_scanned : d.scanned.rdB EV_STATUS_SCANNED = true := rdB_wrB_eq true (by decide)

theorem bare_scanned : d.scanned.bare = d.bare := by rw [Dev.scanned, bare_wrB, bare_add]

theorem rd_scanShown {x : Fld} {a b c : Nat} (hh : x.apart EV_HEAD_SEQ) (ho : x.apart EV_OLDEST_SEQ) (ht : x.apart EV_HOURS_HOURS) :
    (d.scanShown a b c).rd x = d.rd x := by
  rw [Dev.scanShown, rd_wr_apart _ ht, rd_wr_apart _ ho, rd_wr_apart _ hh]

theorem bare_scanShown (a b c : Nat) : (d.scanShown a b c).bare = d.bare := by rw [Dev.scanShown, bare_wr, bare_wr, bare_wr]

theorem scanHours_of_bare {d e : Dev} (h : d.bare = e.bare) (n : Nat) : d.scanHours n = e.scanHours n := by
  rw [Dev.scanHours, Dev.slotBytes, nvBytes_of_flash (congrArg NvmS.flash (nv_of_bare h)), ev_of_bare h, Dev.scanHours, Dev.slotBytes]

theorem bare_evFound (d : Dev) (n : Nat) (f : Nat → Nat) : (d.bare.updEv fun x => { x with next := n, since := f x.since }) =
    Dev.bare { d with ev := { d.ev with next := n, since := f d.ev.since } } := rfl

end

/-! Clearing (R389). -/

section
variable {d : Dev}

/-- R389: the sectors that are erased. -/
def eraseSectors (l : List Nat) (d : Dev) : Dev := forL l (fun s d => bumpWseq 1 (nvErase (evBase + 4096 * s) 4096 d)) d

theorem eraseSectors_cons (z : Nat) (l : List Nat) (d : Dev) :
    eraseSectors (z :: l) d = eraseSectors l (bumpWseq 1 (nvErase (evBase + 4096 * z) 4096 d)) := by
  simp only [eraseSectors, forL, List.foldl_cons]

theorem sansRing_eraseSectors (l : List Nat) (d : Dev) : (eraseSectors l d).sansRing = d.sansRing := by
  induction l generalizing d with
  | nil => rfl
  | cons z l ih => rw [eraseSectors_cons, ih, sansRing_of_bare (bare_bumpWseq _ _), sansRing_nvErase]

theorem ev_eraseSectors (l : List Nat) (d : Dev) : (eraseSectors l d).ev = d.ev := by
  induction l generalizing d with
  | nil => rfl
  | cons z l ih => rw [eraseSectors_cons, ih, ev_bumpWseq, ev_nvErase]

theorem rd_eraseSectors {x : Fld} (h : x.apart EV_WSEQ_WSEQ) (l : List Nat) (d : Dev) : (eraseSectors l d).rd x = d.rd x :=
  rd_forL l d fun _ _ => (rd_bumpWseq _ h _).trans (rd_nvErase _ _)

theorem wseq_eraseSectors (l : List Nat) (d : Dev) : (eraseSectors l d).rd EV_WSEQ_WSEQ = (d.rd EV_WSEQ_WSEQ + l.length) % 2 ^ 32 := by
  induction l generalizing d with
  | nil =>
    have hlt : d.rd EV_WSEQ_WSEQ < 2 ^ 32 := rd_lt EV_WSEQ_WSEQ d
    exact (Nat.mod_eq_of_lt hlt).symm
  | cons z l ih =>
    rw [eraseSectors_cons, ih, wseq_bumpWseq, rd_nvErase, List.length_cons, Nat.mod_add_mod, Nat.add_assoc, Nat.add_comm 1]

theorem nvByte_sectorErase (z : Nat) (d : Dev) (a : Nat) : (bumpWseq 1 (nvErase (evBase + 4096 * z) 4096 d)).nvByte a =
    if evBase + 4096 * z ≤ a ∧ a < evBase + 4096 * z + 4096 then 0xFF else d.nvByte a := by
  rw [nvByte_of_bare (bare_bumpWseq _ _), nvByte_nvErase]

theorem nvByte_eraseSectors_out {l : List Nat} {a : Nat} (h : ∀ z ∈ l, a < evBase + 4096 * z ∨ evBase + 4096 * z + 4096 ≤ a) (d : Dev) :
    (eraseSectors l d).nvByte a = d.nvByte a := by
  induction l generalizing d with
  | nil => rfl
  | cons z l ih =>
    obtain ⟨hz, hl⟩ := List.forall_mem_cons.mp h
    rw [eraseSectors_cons, ih hl, nvByte_sectorErase z, if_neg (by omega)]

theorem nvByte_eraseSectors_erased {a : Nat} (h : d.nvByte a = 0xFF) (l : List Nat) : (eraseSectors l d).nvByte a = 0xFF := by
  induction l generalizing d with
  | nil => exact h
  | cons z l ih =>
    rw [eraseSectors_cons]
    refine ih ?_
    rw [nvByte_sectorErase z, h, ite_self]

theorem nvByte_eraseSectors_in {l : List Nat} {z a : Nat} (hz : z ∈ l) (h : evBase + 4096 * z ≤ a) (h' : a < evBase + 4096 * z + 4096) (d : Dev) :
    (eraseSectors l d).nvByte a = 0xFF := by
  induction l generalizing d with
  | nil => exact absurd hz List.not_mem_nil
  | cons y l ih =>
    rw [eraseSectors_cons]
    rcases List.mem_cons.mp hz with rfl | hz
    · exact nvByte_eraseSectors_erased (by rw [nvByte_sectorErase z, if_pos ⟨h, h'⟩]) l
    · exact ih hz _

/-- R389: the oldest record that a clear leaves. -/
def Dev.oldestCleared (d : Dev) : Nat := match tget 0 d.ev.series (7 * 4096 + central) with | n + 1 => n | 0 => d.rd EV_OLDEST_SEQ

/-- R389: a clear that is done. -/
def Dev.clearEnded (n : Nat) (d : Dev) : Dev := (((d.updEv fun x => { x with clear := [] }).wrB EV_STATUS_CLEARING false).wr EV_OLDEST_SEQ n)

theorem recorderClearDone_ends (hc : d.rdB EV_STATUS_CLEARING = true) (hg : d.gateOk 9 = true) (hp : d.ev.pend.any isClear = false) :
    ∃ n, recorderClearDone d = (eraseSectors d.ev.clear d).clearEnded n := by
  have hno : ¬ (!d.rdB EV_STATUS_CLEARING || !d.gateOk 9 || d.ev.pend.any isClear) = true := by
    rw [hc, hg, hp]
    decide
  refine ⟨max (((eraseSectors d.ev.clear d).oldestCleared)) ((eraseSectors d.ev.clear d).rd EV_OLDEST_SEQ), ?_⟩
  rw [recorderClearDone, if_neg hno]
  rfl

theorem rd_clearEnded {x : Fld} {n : Nat} (hc : x.apart EV_STATUS_CLEARING) (ho : x.apart EV_OLDEST_SEQ) : (d.clearEnded n).rd x = d.rd x := by
  rw [Dev.clearEnded, rd_wr_apart _ ho, rd_wrB_apart _ hc, updEv_rd]

theorem bare_clearEnded (n : Nat) : (d.clearEnded n).bare = d.bare.updEv fun x => { x with clear := [] } := by
  rw [Dev.clearEnded, bare_wr, bare_wrB, bare_updEv]

theorem nvByte_clearEnded (n a : Nat) : (d.clearEnded n).nvByte a = d.nvByte a := by
  rw [nvByte_of_bare (d := d.clearEnded n) (e := d.updEv fun x => { x with clear := [] }) (bare_clearEnded n)]
  rfl

end

/-! Reads of records (R388). -/

section
variable {d : Dev}

/-- R388: the window shows a record. -/
def Dev.shown (b : List Nat) (ok : Bool) (d : Dev) : Dev :=
  (((forN 16 (fun k d => d.wr (EV_WIN_WORD k) (bytesAt b (4 * k) 4)) d).wrB EV_WIN_STAT_READY true).wrB EV_WIN_STAT_VALID ok).wr EV_WIN_STAT_REPEATS
    (if ok then repeatsOf b else 0)

theorem recordReadDone_shows {b : List Nat} {ok : Bool} (hr : d.ev.reading = true) (hg : d.gateOk 9 = true) (hd : d.readRecord (d.rd EV_CURSOR_SEQ) = (b, ok))
    (hb : (!ok && !(b.all (· = 0)) && !crcOk b) = false) : recordReadDone d = (d.shown b ok).updEv fun x => { x with reading := false } := by
  rw [recordReadDone, if_neg (by rw [hr, hg]; decide), hd]
  dsimp only
  rw [hb]
  exact rfl

theorem apart_word {x : Fld} (h : x.addr < 0x20060024 ∨ 0x20060080 ≤ x.addr) {k : Nat} (hk : k < 16) : x.apart (EV_WIN_WORD k) := by
  refine .inl ?_
  simp only [EV_WIN_WORD]
  omega

theorem rd_shown {x : Fld} {b : List Nat} {ok : Bool} (h : x.addr < 0x20060024 ∨ 0x20060080 ≤ x.addr) : (d.shown b ok).rd x = d.rd x := by
  have hst (lo w : Nat) : x.apart ⟨0x20060024, lo, w⟩ := .inl (by dsimp only; omega)
  rw [Dev.shown, rd_wr_apart (fl := EV_WIN_STAT_REPEATS) _ (hst 2 6), rd_wrB_apart (fl := EV_WIN_STAT_VALID) _ (hst 1 1),
    rd_wrB_apart (fl := EV_WIN_STAT_READY) _ (hst 0 1)]
  exact forN_keep_lt (fun d => d.rd x) (fun k hk e => rd_wr_apart _ (apart_word h hk)) d

theorem bare_shown (b : List Nat) (ok : Bool) : (d.shown b ok).bare = d.bare := by
  rw [Dev.shown, bare_wr, bare_wrB, bare_wrB]
  exact bare_forN _ (fun _ _ => bare_wr _ _ _) d

theorem word_apart {k : Nat} (lo w : Nat) : (EV_WIN_WORD k).apart ⟨0x20060024, lo, w⟩ := .inl (by simp only [EV_WIN_WORD]; omega)

theorem ofBytes_lt (l : List Nat) : ofBytes l < 256 ^ l.length := by
  induction l with
  | nil => exact Nat.one_pos
  | cons b l ih =>
    rw [ofBytes, List.length_cons, Nat.pow_succ]
    omega

theorem bytesAt_lt (l : List Nat) (off n : Nat) : bytesAt l off n < 256 ^ n :=
  Nat.lt_of_lt_of_le (ofBytes_lt _) (Nat.pow_le_pow_right (by decide) (List.length_take_le _ _))

/-- R388: the words of the window. -/
def showWords (b : List Nat) (d : Dev) : Dev := forN 16 (fun k d => d.wr (EV_WIN_WORD k) (bytesAt b (4 * k) 4)) d

theorem word_showWords {k : Nat} (hk : k < 16) (b : List Nat) : (showWords b d).rd (EV_WIN_WORD k) = bytesAt b (4 * k) 4 := by
  have hset (e : Dev) : (e.wr (EV_WIN_WORD k) (bytesAt b (4 * k) 4)).rd (EV_WIN_WORD k) = bytesAt b (4 * k) 4 := by
    have hw : (EV_WIN_WORD k).w = 32 := rfl
    rw [rd_wr_eq _ (by simp [EV_WIN_WORD]), hw]
    exact Nat.mod_eq_of_lt (bytesAt_lt b (4 * k) 4)
  refine (forN_at (fun d => d.rd (EV_WIN_WORD k)) hk (fun j hj hne e => rd_wr_apart _ (.inl ?_)) (fun e e' _ => ?_) d).trans (hset d)
  · simp only [EV_WIN_WORD]
    omega
  · rw [hset, hset]

theorem word_shown {k : Nat} (hk : k < 16) (b : List Nat) (ok : Bool) : (d.shown b ok).rd (EV_WIN_WORD k) = bytesAt b (4 * k) 4 := by
  rw [Dev.shown, rd_wr_apart (fl := EV_WIN_STAT_REPEATS) _ (word_apart 2 6), rd_wrB_apart (fl := EV_WIN_STAT_VALID) _ (word_apart 1 1),
    rd_wrB_apart (fl := EV_WIN_STAT_READY) _ (word_apart 0 1)]
  exact word_showWords hk b

theorem ready_shown (b : List Nat) (ok : Bool) : (d.shown b ok).rdB EV_WIN_STAT_READY = true := by
  rw [Dev.shown, rdB_wr_apart _ (by decide), rdB_wrB_apart _ (by decide)]
  exact rdB_wrB_eq true (by decide)

theorem valid_shown (b : List Nat) (ok : Bool) : (d.shown b ok).rdB EV_WIN_STAT_VALID = ok := by
  rw [Dev.shown, rdB_wr_apart _ (by decide)]
  exact rdB_wrB_eq ok (by decide)

theorem repeatsOf_le (b : List Nat) : repeatsOf b ≤ 32 :=
  Nat.le_trans (List.length_filter_le _ _) (Nat.le_of_eq List.length_range)

theorem repeats_shown (b : List Nat) (ok : Bool) : (d.shown b ok).rd EV_WIN_STAT_REPEATS = if ok then repeatsOf b else 0 := by
  refine (rd_wr_eq _ (by decide)).trans (Nat.mod_eq_of_lt ?_)
  have h := repeatsOf_le b
  have hw : EV_WIN_STAT_REPEATS.w = 6 := rfl
  rw [hw]
  split <;> omega

end

theorem nv_of_sansRing (d : Dev) (p : List (List Nat)) (n : Nat) (q : Tab Nat) (c : List Nat) (x : Tab Byte) :
    d.withRing p n q c x = { d with ev := { d.ev with pend := p, next := n, series := q, clear := c }, nv := { d.nv with flash := x } } := rfl

/-- R384: what one write of a record leaves. -/
theorem changes_written {s : State} {r : List Nat} {l : List (List Nat)} {d : Dev} (hd : d = setPending (shutMark r (written r (s.dev.setPend l)))) :
    (settle d).ev.pend = l ∧ (settle d).ev.next = s.dev.ev.next + 1 ∧ (settle d).rdB EV_STATUS_PENDING = (!l.isEmpty) ∧
    s.changes { s with dev := settle d } { s.dev with ev := { s.dev.ev with pend := l, next := (settle d).ev.next, series := (settle d).ev.series, clear := (settle d).ev.clear }, nv := { s.dev.nv with flash := (settle d).nv.flash } }
      [EV_HEAD_SEQ, EV_WSEQ_WSEQ, EV_OLDEST_SEQ, EV_STATUS_PENDING, EV_STATUS_SHUT_DONE] := by
  have hbare : d.bare = (written r (s.dev.setPend l)).bare := by rw [hd, bare_setPending, bare_shutMark]
  have hsans : d.sansRing = s.dev.sansRing := by rw [sansRing_of_bare hbare, sansRing_written, Dev.setPend, sansRing_pend]
  have hpend : d.ev.pend = l := by rw [ev_of_bare hbare, pend_written, setPend_ev]
  have hnext : d.ev.next = s.dev.ev.next + 1 := by rw [ev_of_bare hbare, next_written, setPend_ev]
  rw [settle_ev, settle_nv]
  refine ⟨hpend, hnext, ?_, changes_bare ?_ fun x hx => ?_⟩
  · rw [rdB_settle (by decide), hd, pending_setPending, ev_of_bare (bare_shutMark _ _), pend_written, setPend_ev]
  · rw [bare_of_sansRing hsans, hpend, nv_of_sansRing]
  · simp only [List.forall_mem_cons] at hx
    obtain ⟨h1, h2, h3, h4, h5, -⟩ := hx
    rw [hd, rd_setPending _ h4, rd_shutMark _ _ h5, rd_written, rd_putRecord, setPend_rd]
    simp only [ringRegs, List.forall_mem_cons]
    exact ⟨h1, h2, h3, fun _ h => absurd h List.not_mem_nil⟩

theorem record_keyOff (d : Dev) (k df f : Nat) (part : Bool) (pl : List Nat) :
    (d.updEv fun x => { x with keyOk := false }).record k df f part pl = d.record k df f part pl := rfl

theorem ringReady_keyOff (d : Dev) : (d.updEv fun x => { x with keyOk := false }).ringReady = d.ringReady := rfl

/-- R389: the device whose clear key is consumed. -/
def Dev.keyOff (d : Dev) : Dev := d.updEv fun x => { x with keyOk := false }

/-- R389: a clear is accepted. -/
def Dev.mayClear (d : Dev) : Bool := d.ev.keyOk && !d.rdB EV_STATUS_PENDING && !d.rdB EV_STATUS_CLEARING && d.rdB EV_STATUS_SCANNED

/-- R389: the CLEAR record. -/
def Dev.clearRecord (d : Dev) : List Nat := d.record 7 0 central false []

theorem recorderClear_starts {d : Dev} (h : d.mayClear = true) : recorderClear d =
    (if d.ringReady then putClear d.clearRecord d.keyOff else setPending (d.keyOff.setPend [d.clearRecord])).wrB EV_STATUS_CLEARING true := by
  have hno : ¬ (!d.mayClear) = true := by rw [h]; decide
  exact if_neg hno

theorem recorderClear_refused {d : Dev} (h : d.mayClear = false) : recorderClear d = conflict EV_STATUS_STATE_CONFLICT d.keyOff := by
  have hyes : (!d.mayClear) = true := by rw [h]; rfl
  exact if_pos hyes

theorem scanned_of_ringReady {d : Dev} (h : d.ringReady = true) : d.rdB EV_STATUS_SCANNED = true := by
  rw [Dev.ringReady] at h
  simp only [Bool.and_eq_true] at h
  exact h.1.1

theorem length_clearRecord (d : Dev) : d.clearRecord.length = 56 := by
  simp only [Dev.clearRecord, Dev.record, List.length_append, leBytes_length, List.length_cons, List.length_nil, List.nil_append, List.length_take,
    List.length_replicate]
  decide

theorem keyOff_rd (d : Dev) (x : Fld) : d.keyOff.rd x = d.rd x := rfl
theorem keyOff_ev (d : Dev) : d.keyOff.ev = { d.ev with keyOk := false } := rfl
theorem keyOff_nv (d : Dev) : d.keyOff.nv = d.nv := rfl
theorem keyOff_bare (d : Dev) : d.keyOff.bare = d.bare.keyOff := rfl

/-- R389: the first byte of a CLEAR record's slot is programmed with its kind. -/
theorem kind_putClear (d : Dev) : (putClear d.clearRecord d.keyOff).nvByte (slotAddr d.ev.next) = d.nvByte (slotAddr d.ev.next) &&& 7 := by
  have hlen := length_recBytes (length_clearRecord d) d.ev.next
  have hnext : d.keyOff.ev.next = d.ev.next := by rw [keyOff_ev]
  have h := nvByte_putRecord d.clearRecord d.keyOff (j := 0) (by rw [hnext, hlen]; decide) (Nat.le_of_eq (by rw [hnext, hlen]))
  rw [hnext, Nat.add_zero] at h
  rw [nvByte_of_flash (congrArg NvmS.flash (nv_putClear _ _)), h, nvByte_of_flash (congrArg NvmS.flash (keyOff_nv d))]
  rfl

/-- Settles O50. -/
theorem ringWritesAndScan : Obligations.RingWritesAndScan := by
  unfold Obligations.RingWritesAndScan
  refine ⟨fun s r l hs hready hp hr hlen hb hlt he => ?_, fun s r l m k hs hready hp hr hc hk hw => ?_, fun s n hs h => ?_, fun s n hs h hp => ?_,
    fun s hs h7 hsc hg hf => ?_, fun s j n hs h7 hsc hg hj => ?_, fun s hs h => ?_, fun s hs => ?_, fun s hs hkey hpe hcl hready => ?_,
    fun s hs hkey hpe hcl hsc hready => ?_, fun s hs h => ?_, fun s hs hcl hg hp => ?_, fun s hs h => ?_, fun s a hs => ?_, fun s b hs hr hg hd => ?_,
    fun s hs hr hg h => ?_, fun s hs h => ?_⟩
  · have hg : recordSetWrite (1 : BitVec 10).toNat s.dev = setPending (shutMark r (written r (s.dev.setPend l))) := by
      rw [recordSetWrite_one hready, writeOne_writes hp hr]
    obtain ⟨hpend, hnext, hpending, hch⟩ := changes_written (s := s) (r := r) (l := l) rfl
    have hrd {x : Fld} (h4 : x.apart EV_STATUS_PENDING) (h5 : x.apart EV_STATUS_SHUT_DONE) :
        (setPending (shutMark r (written r (s.dev.setPend l)))).rd x = (putRecord r (s.dev.setPend l)).rd x := by
      rw [rd_setPending _ h4, rd_shutMark _ _ h5, rd_written]
    have hnv : (settle (setPending (shutMark r (written r (s.dev.setPend l))))).nv = (putRecord r (s.dev.setPend l)).nv := by
      rw [settle_nv, nv_of_bare (bare_setPending _), nv_of_bare (bare_shutMark _ _), nv_written]
    refine completes_eq rfl hs hg ⟨hpend, hnext, ?_, ?_, ?_, hpending, hch⟩
    · rw [rd_settle (by decide), hrd (by decide) (by decide), head_putRecord, setPend_ev, Nat.mod_eq_of_lt hlt]
    · rw [rd_settle (by decide), hrd (by decide) (by decide), wseq_putRecord, setPend_rd, setPend_ev]
    · rw [Dev.slotBytes, nvBytes_of_flash (congrArg NvmS.flash hnv)]
      exact slotBytes_putRecord (d := s.dev.setPend l) hlen hb he
  · have hg : recordSetWrite (1 : BitVec 10).toNat s.dev = setPending (shutMark r ((s.dev.setPend l).repeatMarked m)) := by
      rw [recordSetWrite_one hready, writeOne_repeats hp hr hc]
    have hbare : (setPending (shutMark r ((s.dev.setPend l).repeatMarked m))).bare = ((s.dev.setPend l).repeatMarked m).bare := by
      rw [bare_setPending, bare_shutMark]
    have hev : ((s.dev.setPend l).repeatMarked m).ev = { s.dev.ev with pend := l } := by
      rw [Dev.repeatMarked, ev_bumpWseq, ev_nvProg, setPend_ev]
    have hrd {x : Fld} (h : x.apart EV_WSEQ_WSEQ) : ((s.dev.setPend l).repeatMarked m).rd x = s.dev.rd x := by
      rw [Dev.repeatMarked, rd_bumpWseq _ h, rd_nvProg, setPend_rd]
    refine completes_eq rfl hs hg ⟨?_, ?_, ?_, ?_, changes_bare ?_ fun x hx => ?_⟩
    · rw [settle_ev, ev_of_bare hbare, hev]
    · rw [Dev.slotBytes, nvBytes_of_flash (congrArg NvmS.flash ((settle_nv _).trans (nv_of_bare hbare)))]
      exact repeat_repeatMarked (d := s.dev.setPend l) hk hw
    · rw [rd_settle (by decide), rd_setPending _ (by decide), rd_shutMark _ _ (by decide), Dev.repeatMarked, wseq_bumpWseq, rd_nvProg, setPend_rd]
    · rw [rdB_settle (by decide), pending_setPending, ev_of_bare (bare_shutMark _ _), hev]
    · rw [settle_nv, nv_of_bare hbare, hbare, Dev.repeatMarked, bare_bumpWseq, nv_bumpWseq, bare_nvProg, setPend_bare]
      generalize (nvProg _ _ _).nv.flash = y
      rfl
    · simp only [List.forall_mem_cons] at hx
      obtain ⟨h1, h2, h3, -⟩ := hx
      rw [rd_setPending _ h2, rd_shutMark _ _ h3, hrd h1]
  · exact completes_unchanged rfl hs (recordSetWrite_unready h _)
  · refine completes_eq rfl hs (recordSetWrite_empty h hp _) ⟨?_, changes_bare (bare_setPending _) fun x hx => rd_setPending _ (hx _ (by simp))⟩
    rw [rdB_settle (by decide), pending_setPending, hp]
    rfl
  · have hfirst : ∀ z ∈ (List.range 2048).map (· * 64), s.dev.slotUsed z = false := fun z hz => slotUsed_of_empty hf (firsts_lt hz)
    have hslots : s.dev.scanSlots = (List.range 2048).map (· * 64) := by
      rw [Dev.scanSlots, if_pos (filterMap_slotSeq_erased hfirst)]
    have hbad : s.dev.scanBad = 0 := by
      rw [Dev.scanBad, hslots, List.length_eq_zero_iff, List.filter_eq_nil_iff]
      intro z hz
      rw [hfirst z hz, Bool.false_and]
      exact Bool.false_ne_true
    have hg : ringScan s.dev = s.dev.scanned := ringScan_none h7 hsc hg (by rw [hslots, filterMap_slotSeq_erased hfirst])
    refine completes_eq rfl hs hg ⟨?_, changes_bare bare_scanned fun x hx => ?_⟩
    · rw [rdB_settle (by decide), scanned_scanned]
    · rw [Dev.scanned, hbad, rd_wrB_apart _ (hx _ (by simp)), rd_add_zero]
  · have hmem : (64 * j.val) ∈ (List.range 2048).map (· * 64) := List.mem_map.mpr ⟨j.val, List.mem_range.mpr j.isLt, Nat.mul_comm _ _⟩
    have hscan : 64 * j.val ∈ s.dev.scanSlots := by
      rw [Dev.scanSlots]
      split
      · exact hmem
      · exact List.mem_append_left _ hmem
    have hne : s.dev.scanSlots.filterMap s.dev.slotSeq ≠ [] := List.ne_nil_of_mem (List.mem_filterMap.mpr ⟨_, hscan, hj⟩)
    obtain ⟨next, since, hg⟩ := ringScan_found h7 hsc hg hne
    rw [scanHours_of_bare bare_scanned] at hg
    generalize hm : maxN (s.dev.scanSlots.filterMap s.dev.slotSeq) = newest at hg ⊢
    generalize (minN (s.dev.scanSlots.filterMap s.dev.slotSeq)).getD 0 = oldest at hg ⊢
    refine completes_eq rfl hs hg ⟨?_, ?_, ?_, ?_, changes_bare ?_ fun x hx => ?_⟩
    · rw [rdB_settle (by decide), updEv_rdB, Dev.rdB, rd_scanShown (by decide) (by decide) (by decide)]
      exact scanned_scanned
    · rw [rd_settle (by decide), updEv_rd, Dev.scanShown, rd_wr_apart _ (by decide), rd_wr_apart _ (by decide)]
      exact rd_wr_eq _ (by decide)
    · rw [rd_settle (by decide), updEv_rd, Dev.scanShown, rd_wr_apart _ (by decide)]
      exact rd_wr_eq _ (by decide)
    · rw [rd_settle (by decide), updEv_rd, Dev.scanShown, rd_scanned (by decide) (by decide)]
      exact rd_wr_eq _ (by decide)
    · rw [settle_ev, ev_updEv, ev_of_bare ((bare_scanShown _ _ _).trans bare_scanned), bare_updEv, bare_scanShown, bare_scanned]
      exact bare_evFound _ _ _
    · simp only [List.forall_mem_cons] at hx
      obtain ⟨h1, h2, h3, h4, h5, -⟩ := hx
      rw [updEv_rd, rd_scanShown h1 h4 h5, rd_scanned h3 h2]
  · refine completes_unchanged rfl hs (if_pos ?_)
    rcases h with h | h | h <;> simp [h]
  · have hw : (askShutdown s.dev.keyOff).bare = Dev.bare { s.dev with ev := { s.dev.ev with shutDue := true, keyOk := false } } := by
      rw [askShutdown, bare_updEv, bare_wrB, keyOff_bare]
      rfl
    refine completes_eq (d := askShutdown s.dev.keyOff) rfl hs rfl ⟨?_, changes_bare hw fun x hx => ?_⟩
    · rw [rdB_settle (by decide), askShutdown, updEv_rdB]
      exact rdB_wrB_eq false (by decide)
    · rw [askShutdown, updEv_rd, rd_wrB_apart _ (hx _ (by simp)), keyOff_rd]
  · have hmay : s.dev.mayClear = true := by rw [Dev.mayClear, hkey, hpe, hcl, scanned_of_ringReady hready]; rfl
    have hg : recorderClear s.dev = (putClear s.dev.clearRecord s.dev.keyOff).wrB EV_STATUS_CLEARING true := by
      rw [recorderClear_starts hmay, if_pos hready]
    have hsans : ((putClear s.dev.clearRecord s.dev.keyOff).wrB EV_STATUS_CLEARING true).sansRing = s.dev.keyOff.sansRing := by
      rw [sansRing_wrB, sansRing_putClear]
    have hpend : (putClear s.dev.clearRecord s.dev.keyOff).ev.pend = s.dev.ev.pend := by rw [ev_putClear, ev_putRecord, keyOff_ev]
    have hrd {x : Fld} (h : x.apart EV_STATUS_CLEARING) : ((putClear s.dev.clearRecord s.dev.keyOff).wrB EV_STATUS_CLEARING true).rd x =
        (putRecord s.dev.clearRecord s.dev.keyOff).rd x := by rw [rd_wrB_apart _ h, rd_putClear]
    refine completes_eq rfl hs hg ⟨?_, ?_, ?_, ?_, ?_, ?_, changes_bare ?_ fun x hx => ?_⟩
    · exact (rdB_settle (by decide)).trans (rdB_wrB_eq true (by decide))
    · rw [settle_ev, Dev.wrB_ev, ev_putClear, keyOff_ev]
    · rw [settle_ev, Dev.wrB_ev, ev_putClear, ev_putRecord, keyOff_ev]
    · rw [rd_settle (by decide), hrd (by decide), head_putRecord, keyOff_ev]
    · rw [rd_settle (by decide), hrd (by decide), wseq_putRecord, keyOff_ev, keyOff_rd]
    · rw [nvByte_of_flash (congrArg NvmS.flash ((settle_nv _).trans (Dev.wrB_nv _ _ _))), kind_putClear]
    · rw [settle_ev, settle_nv, bare_of_sansRing hsans, nv_of_sansRing, Dev.wrB_ev, hpend, keyOff_ev, keyOff_nv]
      rfl
    · simp only [List.forall_mem_cons] at hx
      obtain ⟨h1, h2, h3, h4, -⟩ := hx
      rw [hrd h4, rd_putRecord, keyOff_rd]
      simp only [ringRegs, List.forall_mem_cons]
      exact ⟨h1, h2, h3, fun _ h => absurd h List.not_mem_nil⟩
  · have hmay : s.dev.mayClear = true := by rw [Dev.mayClear, hkey, hpe, hcl, hsc]; rfl
    have hg : recorderClear s.dev = (setPending (s.dev.keyOff.setPend [s.dev.clearRecord])).wrB EV_STATUS_CLEARING true := by
      rw [recorderClear_starts hmay, if_neg (by rw [hready]; decide)]
    have hbare : ((setPending (s.dev.keyOff.setPend [s.dev.clearRecord])).wrB EV_STATUS_CLEARING true).bare = (s.dev.keyOff.setPend [s.dev.clearRecord]).bare := by
      rw [bare_wrB, bare_setPending]
    refine completes_eq rfl hs hg ⟨?_, ?_, ?_, changes_bare ?_ fun x hx => ?_⟩
    · exact (rdB_settle (by decide)).trans (rdB_wrB_eq true (by decide))
    · rw [rdB_settle (by decide), rdB_wrB_apart _ (by decide), pending_setPending, setPend_ev]
      rfl
    · rw [settle_ev, ev_of_bare hbare, setPend_ev, Dev.clearRecord]
    · rw [settle_ev, ev_of_bare hbare, hbare, setPend_ev, setPend_bare, keyOff_bare]
      generalize s.dev.clearRecord = y
      rfl
    · rw [rd_wrB_apart _ (hx _ (by simp)), rd_setPending _ (hx _ (by simp)), setPend_rd, keyOff_rd]
  · have hmay : s.dev.mayClear = false := by
      rw [Dev.mayClear]
      rcases h with h | h | h | h <;> simp [h]
    refine completes_eq rfl hs (recorderClear_refused hmay) ⟨(rdB_settle (by decide)).trans (rdB_wrB_eq true (by decide)), changes_bare ?_ fun x hx => ?_⟩
    · rw [bare_conflict, keyOff_bare]
      rfl
    · exact (rd_wrB_apart true (hx _ (by simp))).trans (keyOff_rd _ _)
  · obtain ⟨n, hg⟩ := recorderClearDone_ends hcl hg hp
    have hnv (a : Nat) : (settle ((eraseSectors s.dev.ev.clear s.dev).clearEnded n)).nvByte a = (eraseSectors s.dev.ev.clear s.dev).nvByte a := by
      rw [nvByte_of_flash (congrArg NvmS.flash (settle_nv _)), nvByte_clearEnded]
    have hb : ((eraseSectors s.dev.ev.clear s.dev).clearEnded n).sansRing = s.dev.sansRing := by
      rw [sansRing_of_bare (e := (eraseSectors s.dev.ev.clear s.dev).updEv fun x => { x with clear := [] }) (bare_clearEnded n), sansRing_clear _ fun _ => [],
        sansRing_eraseSectors]
    have hev : ((eraseSectors s.dev.ev.clear s.dev).clearEnded n).ev = { s.dev.ev with clear := [] } := by
      rw [ev_of_bare (e := (eraseSectors s.dev.ev.clear s.dev).updEv fun x => { x with clear := [] }) (bare_clearEnded n), ev_updEv, ev_eraseSectors]
    refine completes_eq rfl hs hg ⟨?_, ?_, fun z hz j hj => ?_, fun a ha => ?_, changes_bare ?_ fun x hx => ?_⟩
    · rw [rdB_settle (by decide), Dev.clearEnded, rdB_wr_apart _ (by decide)]
      exact rdB_wrB_eq false (by decide)
    · rw [rd_settle (by decide), rd_clearEnded (by decide) (by decide), wseq_eraseSectors]
    · rw [hnv, nvByte_eraseSectors_in hz (by omega) (by omega)]
    · rw [hnv, nvByte_eraseSectors_out ha]
    · rw [settle_nv, bare_of_sansRing hb, nv_of_sansRing, hev]
    · simp only [List.forall_mem_cons] at hx
      obtain ⟨h1, h2, h3, -⟩ := hx
      rw [rd_clearEnded h1 h3, rd_eraseSectors h2]
  · refine completes_unchanged rfl hs (if_pos ?_)
    rcases h with h | h | h <;> simp [h]
  · refine completes_eq (d := recordRead a.toNat s.dev) rfl hs rfl ⟨?_, ?_, changes_bare ?_ fun x hx => ?_⟩
    · rw [rd_settle (by decide), recordRead, updEv_rd, rd_wrB_apart _ (by decide)]
      exact (rd_wr_eq _ (by decide)).trans (Nat.mod_eq_of_lt a.isLt)
    · rw [rdB_settle (by decide), recordRead, updEv_rdB]
      exact rdB_wrB_eq false (by decide)
    · rw [recordRead, bare_updEv, bare_wrB, bare_wr]
      rfl
    · rw [recordRead, updEv_rd, rd_wrB_apart _ (hx _ (by simp)), rd_wr_apart _ (hx _ (by simp))]
  · refine completes_eq rfl hs (recordReadDone_shows hr hg hd (by rfl)) ⟨fun k => ?_, ?_, ?_, ?_, within_bare ?_ fun x hx => ?_⟩
    · rw [rd_settle (.inl (by simp only [EV_WIN_WORD, PM_STATUS_ALERT]; omega)), updEv_rd, word_shown k.isLt]
    · rw [rdB_settle (by decide), updEv_rdB, ready_shown]
    · rw [rdB_settle (by decide), updEv_rdB, valid_shown]
    · rw [rd_settle (by decide), updEv_rd, repeats_shown]
      rfl
    · rw [bare_updEv, bare_shown]
      rfl
    · rw [updEv_rd, rd_shown hx]
  · have hd : s.dev.readRecord (s.dev.rd EV_CURSOR_SEQ) = (List.replicate 64 0, false) := by
      refine if_pos ?_
      rcases h with h | h | h | h <;> simp [h]
    refine completes_eq rfl hs (recordReadDone_shows hr hg hd (by decide)) ⟨fun k => ?_, ?_, ?_, ?_, within_bare ?_ fun x hx => ?_⟩
    · rw [rd_settle (.inl (by simp only [EV_WIN_WORD, PM_STATUS_ALERT]; omega)), updEv_rd, word_shown k.isLt]
      revert k
      decide
    · rw [rdB_settle (by decide), updEv_rdB, ready_shown]
    · rw [rdB_settle (by decide), updEv_rdB, valid_shown]
    · rw [rd_settle (by decide), updEv_rd, repeats_shown]
      rfl
    · rw [bare_updEv, bare_shown]
      rfl
    · rw [updEv_rd, rd_shown hx]
  · refine completes_unchanged rfl hs (if_pos ?_)
    rcases h with h | h <;> simp [h]

end Sys2Proof.Machine
end

section
/-! O49: operating hours and what ends one (R379, R380, R393 to R399). -/

namespace Sys2Proof.Machine

/-! The end of a period (R380). -/

section
variable (d : Dev)

/-- R380: the records of a period that ends. -/
def Dev.periodSet (d : Dev) : List (List Nat) :=
  d.ev.pend.filter isClear ++ d.recordSet (d.ev.cut || decide (d.rd EV_HOURS_HOURS - d.ev.since ≠ 100)) ++ (if d.ev.shutDue then [d.shutRecord] else [])

/-- R380: the accumulators as a period begins. -/
def RecS.begun (x : RecS) (pend : List (List Nat)) (energy since : Nat) (cut : Bool) : RecS := { x with
  pend, hist := [], cnt := [], energy0 := energy, capBolts := 0, deferBolts := 0, holdBolts := 0, caps := none, stops := 0, hSeen := false, cut
  since, shutDue := false }

/-- R380: a set that was still pending is counted as lost. -/
def Dev.lostCounted (d : Dev) : Dev := onlyIf (decide ((d.ev.pend.filter isClear).length < d.ev.pend.length)) (·.inc EV_CNT_LOST_SETS) d

theorem endPeriod_eq (shut : Bool) : endPeriod shut d = setPending (d.lostCounted.updEv fun x =>
    x.begun d.periodSet (d.lostCounted.bud.waferE / 256) (d.lostCounted.rd EV_HOURS_HOURS) shut) := rfl

theorem rd_lostCounted {x : Fld} (h : x.apart EV_CNT_LOST_SETS) : d.lostCounted.rd x = d.rd x := rd_onlyIf (rd_inc_apart h)

theorem bare_lostCounted : d.lostCounted.bare = d.bare := bare_onlyIf (bare_inc _ _)

theorem rd_endPeriod {x : Fld} (h1 : x.apart EV_CNT_LOST_SETS) (h2 : x.apart EV_STATUS_PENDING) (shut : Bool) : (endPeriod shut d).rd x = d.rd x := by
  rw [endPeriod_eq, rd_setPending _ h2, updEv_rd, rd_lostCounted _ h1]

theorem bare_endPeriod (shut : Bool) : (endPeriod shut d).bare =
    d.bare.updEv fun x => x.begun d.periodSet (d.bud.waferE / 256) (d.rd EV_HOURS_HOURS) shut := by
  rw [endPeriod_eq, bare_setPending, bare_updEv, bare_lostCounted, rd_lostCounted _ (by decide), bud_of_bare (bare_lostCounted d)]

theorem ev_endPeriod (shut : Bool) : (endPeriod shut d).ev = d.ev.begun d.periodSet (d.bud.waferE / 256) (d.rd EV_HOURS_HOURS) shut := by
  rw [ev_of_bare (e := d.updEv fun x => x.begun d.periodSet (d.bud.waferE / 256) (d.rd EV_HOURS_HOURS) shut) (bare_endPeriod d shut), ev_updEv]

theorem periodSet_ne_nil : d.periodSet.isEmpty = false := by
  rw [Dev.periodSet, Dev.recordSet]
  simp

theorem pending_endPeriod (shut : Bool) : (endPeriod shut d).rdB EV_STATUS_PENDING = true := by
  rw [endPeriod_eq, pending_setPending, ev_updEv, RecS.begun, periodSet_ne_nil]
  rfl

theorem lost_lostCounted : d.lostCounted.rd EV_CNT_LOST_SETS =
    if d.ev.pend.all isClear then d.rd EV_CNT_LOST_SETS else satN 0xFFFF (d.rd EV_CNT_LOST_SETS + 1) := by
  rw [Dev.lostCounted, onlyIf]
  cases h : d.ev.pend.all isClear
  · have hlt : (d.ev.pend.filter isClear).length < d.ev.pend.length := by
      rw [List.all_eq_false] at h
      exact List.length_filter_lt_length_iff_exists.mpr h
    rw [if_pos (decide_eq_true hlt)]
    exact rd_inc_eq (by decide)
  · have hall : d.ev.pend.filter isClear = d.ev.pend := List.filter_eq_self.mpr (List.all_eq_true.mp h)
    rw [hall, if_neg (by simp)]
    rfl

theorem lost_endPeriod (shut : Bool) : (endPeriod shut d).rd EV_CNT_LOST_SETS =
    if d.ev.pend.all isClear then d.rd EV_CNT_LOST_SETS else satN 0xFFFF (d.rd EV_CNT_LOST_SETS + 1) := by
  rw [endPeriod_eq, rd_setPending _ (by decide), updEv_rd, lost_lostCounted]

end

/-! What the end of an hour changes at most (R393 to R399). -/

/-- The device without what the trends, the re-plans and the retirements at the end of an hour change. -/
def Dev.sansHour (d : Dev) : Dev :=
  { d.bare with pat := [], ev := { d.ev with cnt := [] }, nv := { d.nv with marg := [], margDue := none }, fc := { d.fc with raised := [] }, fld := []
                tile := [], led := { d.led with marks := [] } }

theorem sansHour_of_bare {d e : Dev} (h : d.bare = e.bare) : d.sansHour = e.sansHour := by
  have hb (d : Dev) : d.sansHour = d.bare.sansHour := rfl
  rw [hb, h, ← hb]

theorem sansHour_of_sansHold {d e : Dev} (h : d.sansHold = e.sansHold) : d.sansHour = e.sansHour := by
  have hb (d : Dev) : d.sansHour = d.sansHold.sansHour := rfl
  rw [hb, h, ← hb]

/-- A device with what the end of an hour changes taken from another. -/
def Dev.withHour (e d : Dev) : Dev :=
  { d with pat := e.pat, ev := { d.ev with cnt := e.ev.cnt }, nv := { d.nv with marg := e.nv.marg, margDue := e.nv.margDue }
           fc := { d.fc with raised := e.fc.raised }, fld := e.fld, tile := e.tile, led := { d.led with marks := e.led.marks } }

theorem bare_eq_withHour (d : Dev) : d.bare = Dev.withHour d d.sansHour := rfl

theorem withHour_sansHour (e d : Dev) : Dev.withHour e d.sansHour = (Dev.withHour e d).bare := rfl

/-- What a device that moves as the end of an hour does leaves. -/
theorem bare_of_sansHour {d e : Dev} (h : e.sansHour = d.sansHour) : e.bare = (Dev.withHour e d).bare := by
  rw [bare_eq_withHour, h, withHour_sansHour]

/-- The registers that the re-plan of a patch writes. -/
def replanRegs (f p : Nat) : List Fld := stopRegs f p ++ [ST_OP_PATCH_MOFS f p, ST_OP_PATCH_RETIRE f p, JZ_RET f p, JZ_AGE_STATUS_RSEQ, JZ_AGE_STATUS_RETIRED,
  JZ_AGE_CNT_RAISES, JZ_AGE_CNT_PROPOSED, ST_HINT_DROP2_DRAIN f]

/-- What the trend of a patch is computed from, beside its registers. -/
def Dev.slack (f p : Nat) (d : Dev) : Int × Nat × Bool := ((d.pt f p).slackSum, (d.pt f p).slackN, (d.pt f p).trended)

theorem slack_of_pat {d e : Dev} (h : d.pat = e.pat) (f p : Nat) : d.slack f p = e.slack f p := by
  rw [Dev.slack, Dev.pt, h, Dev.slack, Dev.pt]

theorem pt_updPt_keep {β : Type} (proj : PatchS → β) {g : PatchS → PatchS} (h : ∀ x, proj (g x) = proj x) (f p f' p' : Nat) (d : Dev) :
    proj ((d.updPt f' p' g).pt f p) = proj (d.pt f p) := by
  rw [Dev.pt, Dev.updPt]
  dsimp only
  by_cases hk : pkey f p = pkey f' p'
  · rw [hk, tget_tupd_same, h, Dev.pt, hk]
  · rw [tget_tupd_ne _ _ _ hk, Dev.pt]

theorem slack_updPt {g : PatchS → PatchS} (h : ∀ x, (g x).slackSum = x.slackSum ∧ (g x).slackN = x.slackN ∧ (g x).trended = x.trended) (f p f' p' : Nat)
    (d : Dev) : (d.updPt f' p' g).slack f p = d.slack f p :=
  pt_updPt_keep (fun x => (x.slackSum, x.slackN, x.trended)) (fun x => by
    obtain ⟨h1, h2, h3⟩ := h x
    rw [h1, h2, h3]) f p f' p' d

section
variable (f p f' p' st : Nat) (d : Dev)

theorem slack_dirtyWindow : (dirtyWindow f' p' d).slack f p = d.slack f p := by
  unfold dirtyWindow
  split
  · exact slack_updPt (g := fun x => { x with pmDirty := true }) (fun _ => ⟨rfl, rfl, rfl⟩) f p f' p' d
  · rfl

theorem pat_markOpen (c : Cause) (ps : List Nat) : (d.markOpen c f ps).pat = d.pat := by
  rw [Dev.markOpen, Dev.sendMark]
  split <;> rfl

theorem slack_stopClock : (stopClock st f' p' d).slack f p = d.slack f p := by
  have hbegin : (d.updPt f' p' fun x => { x with starting := none }).slack f p = d.slack f p :=
    slack_updPt (g := fun x => { x with starting := none }) (fun _ => ⟨rfl, rfl, rfl⟩) f p f' p' d
  by_cases h : d.pstate f' p' = psRunning
  · rw [stopClock_running h, slack_dirtyWindow, ← hbegin]
    refine slack_of_pat ?_ f p
    rw [Dev.wrB_pat, Dev.wr_pat, Dev.wrB_pat, Dev.wrB_pat, Dev.wr_pat, pat_markOpen]
  · by_cases h' : d.pstate f' p' = psRetired
    · rw [stopClock_retired h', hbegin]
    · rw [stopClock_idle h h', ← hbegin]
      exact slack_of_pat (Dev.wr_pat _ _ _) f p

theorem slack_retireState : (retireState f' p' d).slack f p = d.slack f p :=
  onlyIf_keep (Dev.slack f p) _ _ (fun e => (slack_of_pat (Dev.wr_pat _ _ _) f p).trans (slack_stopClock f p f' p' _ e)) d

theorem pat_of_retired {d e : Dev} (h : d.bare = (countRec f 6 (margDirty e.bare)).raise .selftest 6 f p) : d.pat = e.pat := by
  change d.bare.pat = _
  rw [h]
  rfl

theorem slack_retireMarks : (retireMarks f' p' d).slack f p = d.slack f p := slack_of_pat (pat_of_retired f' p' (bare_retireMarks d)) f p

end

/-! A field's stop (R367). -/

section
variable (c : FieldStop) (f : Nat) (d : Dev)

/-- R367: what a stop makes of a field that is not stopped. -/
def stoppedField (c : FieldStop) (f : Nat) (d : Dev) : Dev :=
  (drainHints f (forN 4 (stopWadding f) d)).updFd f fun x => { x with stop := c, stopDue := true, shut := true }

theorem stopField_eq : stopField c f d = if (d.fd f).stop ≠ .none then d else stoppedField c f d := rfl

theorem sansTiles_stopsWadding : (forN 4 (stopWadding f) d).sansTiles = d.sansTiles :=
  forN_keep Dev.sansTiles 4 _ (fun k e => sansTiles_stopWadding f k e) d

theorem sansHold_drainHints : (drainHints f d).sansHold = d.sansHold := by
  rw [drainHints, sansHold_updFd, sansHold_of_bare (bare_add _ _ _)]

theorem sansHold_stopField : (stopField c f d).sansHold = d.sansHold := by
  rw [stopField_eq]
  split
  · rfl
  · rw [stoppedField, sansHold_updFd, sansHold_drainHints, sansHold_of_sansTiles (sansTiles_stopsWadding f d)]

theorem pat_of_sansTiles {d e : Dev} (h : d.sansTiles = e.sansTiles) : d.pat = e.pat := by
  change d.sansTiles.pat = e.sansTiles.pat
  rw [h]

theorem pat_stopField : (stopField c f d).pat = d.pat := by
  rw [stopField_eq]
  split
  · rfl
  · rw [stoppedField, Dev.updFd_pat, drainHints, Dev.updFd_pat, Dev.add_pat, pat_of_sansTiles (sansTiles_stopsWadding f d)]

theorem rd_stopField {x : Fld} (h : x.apart (ST_HINT_DROP2_DRAIN f)) : (stopField c f d).rd x = d.rd x := by
  rw [stopField_eq]
  split
  · rfl
  · rw [stoppedField, Dev.updFd_rd, drainHints, Dev.updFd_rd, rd_add_apart _ h, rd_forN _ _ fun k e => rd_stopWadding f k e x]

end

/-! Re-plans (R394 to R398). -/

theorem apart_replanRegs {f p : Nat} {x : Fld} (h : ∀ y ∈ replanRegs f p, x.apart y) : (∀ y ∈ stopRegs f p, x.apart y) ∧ x.apart (ST_OP_PATCH_MOFS f p) ∧
    x.apart (ST_OP_PATCH_RETIRE f p) ∧ x.apart (JZ_RET f p) ∧ x.apart JZ_AGE_STATUS_RSEQ ∧ x.apart JZ_AGE_STATUS_RETIRED ∧ x.apart JZ_AGE_CNT_RAISES ∧
    x.apart JZ_AGE_CNT_PROPOSED ∧ x.apart (ST_HINT_DROP2_DRAIN f) := by
  rw [replanRegs, List.forall_mem_append] at h
  simp only [List.forall_mem_cons] at h
  obtain ⟨hs, h1, h2, h3, h4, h5, h6, h7, h8, -⟩ := h
  exact ⟨hs, h1, h2, h3, h4, h5, h6, h7, h8⟩

section
variable (f p : Nat) (d : Dev)

theorem sansHour_retireMarks : (retireMarks f p d).sansHour = d.sansHour := by
  have hb : (countRec f 6 (margDirty d.bare)).raise .selftest 6 f p = ((countRec f 6 (margDirty d)).raise .selftest 6 f p).bare := rfl
  rw [sansHour_of_bare (d := retireMarks f p d) (e := (countRec f 6 (margDirty d)).raise .selftest 6 f p) (by rw [bare_retireMarks, hb])]
  rfl

theorem sansHour_retireState : (retireState f p d).sansHour = d.sansHour := sansHour_of_sansHold (sansHold_of_sansStops (sansStops_retireState d))

theorem sansHour_raise (c : FClass) (t a b : Nat) : (d.raise c t a b).sansHour = d.sansHour := rfl

theorem sansHour_raiseR (r : Report) : (d.raiseR r).sansHour = d.sansHour := rfl

theorem retirePatch_retired (h : d.retired f p = true) : retirePatch f p d = d := if_pos h

theorem sansHour_retirePatch : (retirePatch f p d).sansHour = d.sansHour := by
  cases h : d.retired f p
  · rw [retirePatch_eq h]
    split
    · rw [sansHour_raise, sansHour_of_sansHold (sansHold_stopField _ _ _), sansHour_retireMarks, sansHour_retireState]
    · rw [sansHour_retireMarks, sansHour_retireState]
  · rw [retirePatch_retired f p d h]

theorem slack_retirePatch (f' p' : Nat) : (retirePatch f p d).slack f' p' = d.slack f' p' := by
  cases h : d.retired f p
  · rw [retirePatch_eq h]
    split
    · rw [slack_of_pat (Dev.raise_pat _ _ _ _ _), slack_of_pat (pat_stopField _ _ _), slack_retireMarks, slack_retireState]
    · rw [slack_retireMarks, slack_retireState]
  · rw [retirePatch_retired f p d h]

theorem rd_retirePatch {x : Fld} (hx : ∀ y ∈ replanRegs f p, x.apart y) : (retirePatch f p d).rd x = d.rd x := by
  obtain ⟨hs, -, hr, hj, hq, ht, -, -, hd⟩ := apart_replanRegs hx
  cases h : d.retired f p
  · rw [retirePatch_eq h]
    split
    · rw [Dev.raise_rd, rd_stopField _ _ _ hd, rd_retireMarks hr hj hq ht, rd_retireState hs]
    · rw [rd_retireMarks hr hj hq ht, rd_retireState hs]
  · rw [retirePatch_retired f p d h]

theorem setPlan_rd (g : MargS → MargS) (x : Fld) : (setPlan f p g d).rd x = d.rd x := rfl
theorem setPlan_pat (g : MargS → MargS) : (setPlan f p g d).pat = d.pat := rfl
theorem sansHour_setPlan (g : MargS → MargS) : (setPlan f p g d).sansHour = d.sansHour := by
  rw [setPlan]
  generalize d.rd EV_HOURS_HOURS = h
  rfl

/-- R396: what a raise of the margin offset notes in the margin area's copy and in the recorder. -/
def mofsNoted (f p : Nat) (d : Dev) : Dev := countRec f 5 (margDirty (setMarg f p (fun m => { m with next := none }) d))

theorem mofsNoted_rd (x : Fld) : (mofsNoted f p d).rd x = d.rd x := rfl
theorem mofsNoted_pat : (mofsNoted f p d).pat = d.pat := rfl
theorem sansHour_countRec (k : Nat) : (countRec f k d).sansHour = d.sansHour := rfl
theorem sansHour_margDirty : (margDirty d).sansHour = d.sansHour := rfl
theorem sansHour_setMarg (g : MargS → MargS) : (setMarg f p g d).sansHour = d.sansHour := rfl
theorem sansHour_mofsNoted : (mofsNoted f p d).sansHour = d.sansHour := by rw [mofsNoted, sansHour_countRec, sansHour_margDirty, sansHour_setMarg]

theorem raiseMofs_eq (n : Nat) : ∃ v, raiseMofs f p n d = mofsNoted f p (d.wr (ST_OP_PATCH_MOFS f p) v) := ⟨_, rfl⟩

theorem rd_raiseMofs {x : Fld} (h : x.apart (ST_OP_PATCH_MOFS f p)) (n : Nat) : (raiseMofs f p n d).rd x = d.rd x := by
  obtain ⟨v, hv⟩ := raiseMofs_eq f p d n
  rw [hv, mofsNoted_rd, rd_wr_apart v h]

theorem raiseMofs_pat (n : Nat) : (raiseMofs f p n d).pat = d.pat := by
  obtain ⟨v, hv⟩ := raiseMofs_eq f p d n
  rw [hv, mofsNoted_pat, Dev.wr_pat]

theorem sansHour_raiseMofs (n : Nat) : (raiseMofs f p n d).sansHour = d.sansHour := by
  obtain ⟨v, hv⟩ := raiseMofs_eq f p d n
  rw [hv, sansHour_mofsNoted, sansHour_of_bare (bare_wr _ _ _)]

/-- R395, R396: a re-plan that raises the margin offset by n, as one that the trend asks for. -/
def replanRaise (f p n : Nat) (g : MargS → MargS) (d : Dev) : Dev := (setPlan f p g (raiseMofs f p n d)).inc JZ_AGE_CNT_RAISES

/-- R394 to R398: what a re-plan does: nothing, a record of the plan, a retirement, a raise, or a proposal to lower. -/
theorem replan_cases : replan f p d = d ∨ (∃ g, replan f p d = setPlan f p g d) ∨ replan f p d = retirePatch f p d ∨
    (∃ n g r, replan f p d = (replanRaise f p n g d).raiseR r) ∨ ∃ g, replan f p d = (setPlan f p g d).inc JZ_AGE_CNT_PROPOSED := by
  rw [replan]
  split
  · exact .inl rfl
  · dsimp only
    split
    · exact .inr (.inl ⟨_, rfl⟩)
    · split
      · split
        · exact .inr (.inr (.inl rfl))
        · exact .inr (.inr (.inr (.inl ⟨_, _, _, rfl⟩)))
      · split
        · exact .inr (.inr (.inr (.inr ⟨_, rfl⟩)))
        · exact .inr (.inl ⟨_, rfl⟩)

theorem sansHour_replan : (replan f p d).sansHour = d.sansHour := by
  rcases replan_cases f p d with h | ⟨g, h⟩ | h | ⟨n, g, r, h⟩ | ⟨g, h⟩
  · rw [h]
  · rw [h, sansHour_setPlan]
  · rw [h, sansHour_retirePatch]
  · rw [h, sansHour_raiseR, replanRaise, sansHour_of_bare (bare_inc _ _), sansHour_setPlan, sansHour_raiseMofs]
  · rw [h, sansHour_of_bare (bare_inc _ _), sansHour_setPlan]

theorem slack_replan (f' p' : Nat) : (replan f p d).slack f' p' = d.slack f' p' := by
  rcases replan_cases f p d with h | ⟨g, h⟩ | h | ⟨n, g, r, h⟩ | ⟨g, h⟩
  · rw [h]
  · rw [h, slack_of_pat (setPlan_pat f p d g)]
  · rw [h, slack_retirePatch]
  · rw [h, slack_of_pat (Dev.raiseR_pat _ _), replanRaise, slack_of_pat (Dev.inc_pat _ _), slack_of_pat (setPlan_pat _ _ _ _), slack_of_pat (raiseMofs_pat f p d n)]
  · rw [h, slack_of_pat (Dev.inc_pat _ _), slack_of_pat (setPlan_pat f p d g)]

theorem rd_replan {x : Fld} (hx : ∀ y ∈ replanRegs f p, x.apart y) : (replan f p d).rd x = d.rd x := by
  have hr := rd_retirePatch f p d hx
  obtain ⟨-, hm, -, -, -, -, ha, ho, -⟩ := apart_replanRegs hx
  rcases replan_cases f p d with h | ⟨g, h⟩ | h | ⟨n, g, r, h⟩ | ⟨g, h⟩
  · rw [h]
  · rw [h, setPlan_rd]
  · rw [h, hr]
  · rw [h, Dev.raiseR_rd, replanRaise, rd_inc_apart ha, setPlan_rd, rd_raiseMofs _ _ _ hm]
  · rw [h, rd_inc_apart ho, setPlan_rd]

end

/-! Trends (R393). -/

/-- What the trend of a patch is computed from, and the trend. -/
structure TrendView where
  trend : Nat
  samples : Nat
  slack : Int × Nat × Bool

def Dev.trendView (f p : Nat) (d : Dev) : TrendView := ⟨d.rd (ST_AGE_PATCH_TREND f p), d.rd (ST_AGE_CFG1_MIN_SAMPLES f), d.slack f p⟩

/-- R393: the hour's mean is taken in. -/
def TrendView.next (v : TrendView) : Int := nextTrend v.slack.2.2 (signedOf 20 v.trend) (divHalfAway v.slack.1 v.slack.2.1)

/-- R393: the end of an hour. -/
def TrendView.hour (v : TrendView) : TrendView :=
  if v.slack.2.1 < orDef v.samples 1 then { v with slack := (0, 0, v.slack.2.2) }
  else { v with trend := unsignedOf 20 v.next % 2 ^ 20, slack := (0, 0, true) }

/-- The device whose patch begins to gather anew. -/
def Dev.slackCleared (f p : Nat) (d : Dev) : Dev := d.updPt f p fun x => { x with slackSum := 0, slackN := 0 }

/-- R393: the device whose patch has the trend v. -/
def Dev.trendSet (f p : Nat) (v : Int) (d : Dev) : Dev :=
  (((d.slackCleared f p).wrS (ST_AGE_PATCH_TREND f p) v).updPt f p fun x => { x with trended := true }).inc (ST_AGE_PATCH_HOURS f p)

section
variable (f p : Nat) (d : Dev)

theorem updateTrend_eq : updateTrend f p d = if (d.pt f p).slackN < orDef (d.rd (ST_AGE_CFG1_MIN_SAMPLES f)) 1 then d.slackCleared f p
    else d.trendSet f p (d.trendView f p).next := rfl

theorem slackCleared_rd (x : Fld) : (d.slackCleared f p).rd x = d.rd x := rfl

theorem slack_slackCleared : (d.slackCleared f p).slack f p = (0, 0, (d.pt f p).trended) := by rw [Dev.slack, Dev.slackCleared, pt_updPt]

theorem slack_trendSet (v : Int) : (d.trendSet f p v).slack f p = (0, 0, true) := by
  rw [Dev.slack, Dev.trendSet, Dev.inc_pt, pt_updPt, Dev.wrS_pt, Dev.slackCleared, pt_updPt]

theorem rd_trendSet {x : Fld} (ht : x.apart (ST_AGE_PATCH_TREND f p)) (hh : x.apart (ST_AGE_PATCH_HOURS f p)) (v : Int) :
    (d.trendSet f p v).rd x = d.rd x := by
  rw [Dev.trendSet, rd_inc_apart hh, Dev.updPt_rd, rd_wrS_apart v ht, slackCleared_rd]

theorem trend_trendSet (v : Int) : (d.trendSet f p v).rd (ST_AGE_PATCH_TREND f p) = unsignedOf 20 v % 2 ^ 20 := by
  rw [Dev.trendSet, rd_inc_apart (.inr (.inl (by simp [ST_AGE_PATCH_TREND, ST_AGE_PATCH_HOURS]))), Dev.updPt_rd]
  exact rd_wr_eq _ (by simp [ST_AGE_PATCH_TREND])

theorem trendView_updateTrend : (updateTrend f p d).trendView f p = (d.trendView f p).hour := by
  have hm : (ST_AGE_CFG1_MIN_SAMPLES f).addr < stBase f + 0x5040 := by simp only [ST_AGE_CFG1_MIN_SAMPLES]; omega
  have ht : (ST_AGE_CFG1_MIN_SAMPLES f).apart (ST_AGE_PATCH_TREND f p) := .inl (by simp only [ST_AGE_PATCH_TREND]; omega)
  have hh : (ST_AGE_CFG1_MIN_SAMPLES f).apart (ST_AGE_PATCH_HOURS f p) := .inl (by simp only [ST_AGE_PATCH_HOURS]; omega)
  by_cases h : (d.pt f p).slackN < orDef (d.rd (ST_AGE_CFG1_MIN_SAMPLES f)) 1
  · have h' : (d.trendView f p).slack.2.1 < orDef (d.trendView f p).samples 1 := h
    rw [updateTrend_eq, if_pos h, TrendView.hour, if_pos h', Dev.trendView, slackCleared_rd, slackCleared_rd, slack_slackCleared]
    rfl
  · have h' : ¬ (d.trendView f p).slack.2.1 < orDef (d.trendView f p).samples 1 := h
    rw [updateTrend_eq, if_neg h, TrendView.hour, if_neg h']
    generalize (d.trendView f p).next = v
    rw [Dev.trendView, trend_trendSet, rd_trendSet f p d ht hh, slack_trendSet]
    rfl

theorem slack_updPt_ne {f p f' p' : Nat} (h : pkey f p ≠ pkey f' p') (g : PatchS → PatchS) (d : Dev) : (d.updPt f' p' g).slack f p = d.slack f p := by
  have hp : (d.updPt f' p' g).pt f p = d.pt f p := tget_tupd_ne _ _ _ h _
  rw [Dev.slack, hp, Dev.slack]

theorem rd_updateTrend {x : Fld} (ht : x.apart (ST_AGE_PATCH_TREND f p)) (hh : x.apart (ST_AGE_PATCH_HOURS f p)) : (updateTrend f p d).rd x = d.rd x := by
  rw [updateTrend_eq]
  split
  · rw [slackCleared_rd]
  · rw [rd_trendSet f p d ht hh]

theorem slack_updateTrend_ne {f' p' : Nat} (h : pkey f' p' ≠ pkey f p) : (updateTrend f p d).slack f' p' = d.slack f' p' := by
  rw [updateTrend_eq]
  split
  · rw [Dev.slackCleared, slack_updPt_ne h]
  · rw [Dev.trendSet, slack_of_pat (Dev.inc_pat _ _), slack_updPt_ne h, slack_of_pat (Dev.wrS_pat _ _ _), Dev.slackCleared, slack_updPt_ne h]

theorem sansHour_updPt (g : PatchS → PatchS) : (d.updPt f p g).sansHour = d.sansHour := rfl

theorem sansHour_updateTrend : (updateTrend f p d).sansHour = d.sansHour := by
  rw [updateTrend_eq]
  split
  · rw [Dev.slackCleared, sansHour_updPt]
  · rw [Dev.trendSet, sansHour_of_bare (bare_inc _ _), sansHour_updPt, sansHour_of_bare (bare_wrS _ _ _), Dev.slackCleared, sansHour_updPt]

/-- R393 to R398: what the end of an hour does at one patch. -/
def hourStep (f p : Nat) (d : Dev) : Dev := replan f p (updateTrend f p d)

/-- R393 to R398: what the end of an hour does at the patches of some fields. -/
def hourSteps (l : List Nat) (d : Dev) : Dev := forL l (fun f => forN 36 (hourStep f)) d

theorem hourEnd_ends {d : Dev} (h : d.hourEnds = true) : hourEnd d = hourSteps (endPeriod false d).enabled (endPeriod false d) := by
  have hno : ¬ (!d.hourEnds) = true := by rw [h]; decide
  rw [hourEnd, if_neg hno]
  rfl

theorem hourEnd_not {d : Dev} (h : d.hourEnds = false) : hourEnd d = d := if_pos (by rw [h]; rfl)

theorem sansHour_hourSteps (l : List Nat) : (hourSteps l d).sansHour = d.sansHour :=
  forL_keep Dev.sansHour l _ (fun f e => forN_keep Dev.sansHour 36 _ (fun p e => (sansHour_replan f p _).trans (sansHour_updateTrend f p e)) e) d

end

/-! The patches of all enabled fields. -/

section
variable {f p f' p' : Nat}

/-- What one patch's re-plan writes is no trend and no count of samples. -/
theorem trend_apart_replan (hf' : f' < 96) (hp : p < 36) (hp' : p' < 36) :
    ∀ y ∈ replanRegs f' p', (ST_AGE_PATCH_TREND f p).apart y ∧ (ST_AGE_CFG1_MIN_SAMPLES f).apart y := by
  intro y hy
  have haddr : (ST_AGE_PATCH_TREND f p).addr ≠ y.addr ∧ (ST_AGE_CFG1_MIN_SAMPLES f).addr ≠ y.addr := by
    simp only [replanRegs, stopRegs, List.cons_append, List.nil_append, List.mem_cons, List.not_mem_nil, or_false] at hy
    rcases hy with rfl | rfl | rfl | rfl | rfl | rfl | rfl | rfl | rfl | rfl | rfl | rfl | rfl <;>
      simp only [ST_AGE_PATCH_TREND, ST_AGE_CFG1_MIN_SAMPLES, ST_OP_PATCH_STATE, PS_STATUS_CLK_ON, PS_STATUS_DD_ARMED, PS_STATUS_STRETCH, ST_OP_PATCH_WAIT,
        ST_OP_PATCH_MOFS, ST_OP_PATCH_RETIRE, JZ_RET, JZ_AGE_STATUS_RSEQ, JZ_AGE_STATUS_RETIRED, JZ_AGE_CNT_RAISES, JZ_AGE_CNT_PROPOSED, ST_HINT_DROP2_DRAIN,
        psBase, stBase] <;>
      omega
  exact ⟨.inl haddr.1, .inl haddr.2⟩

theorem trendView_replan (hf' : f' < 96) (hp : p < 36) (hp' : p' < 36) (d : Dev) : (replan f' p' d).trendView f p = d.trendView f p := by
  rw [Dev.trendView, rd_replan f' p' d fun y hy => (trend_apart_replan hf' hp hp' y hy).1, rd_replan f' p' d fun y hy => (trend_apart_replan hf' hp hp' y hy).2,
    slack_replan, Dev.trendView]

theorem trendView_hourStep (hf : f < 96) (hp : p < 36) (d : Dev) : (hourStep f p d).trendView f p = (d.trendView f p).hour := by
  rw [hourStep, trendView_replan hf hp hp, trendView_updateTrend]

theorem trendView_hourStep_ne (hf' : f' < 96) (hp : p < 36) (hp' : p' < 36) (h : f' ≠ f ∨ p' ≠ p) (d : Dev) :
    (hourStep f' p' d).trendView f p = d.trendView f p := by
  have hk : pkey f p ≠ pkey f' p' := by simp only [pkey]; omega
  have ht : (ST_AGE_PATCH_TREND f p).addr ≠ (ST_AGE_PATCH_TREND f' p').addr := by simp only [ST_AGE_PATCH_TREND, stBase]; omega
  have hm : (ST_AGE_CFG1_MIN_SAMPLES f).addr ≠ (ST_AGE_PATCH_TREND f' p').addr := by simp only [ST_AGE_PATCH_TREND, ST_AGE_CFG1_MIN_SAMPLES, stBase]; omega
  rw [hourStep, trendView_replan hf' hp hp', Dev.trendView, rd_updateTrend f' p' d (.inl ht) (.inl ht), rd_updateTrend f' p' d (.inl hm) (.inl hm),
    slack_updateTrend_ne f' p' d hk, Dev.trendView]

theorem trendView_hourField (hf : f < 96) (hp : p < 36) (d : Dev) : (forN 36 (hourStep f) d).trendView f p = (d.trendView f p).hour :=
  (forN_at (Dev.trendView f p) hp (fun q hq hne e => trendView_hourStep_ne hf hp hq (.inr hne) e)
    (fun e e' h => by rw [trendView_hourStep hf hp, trendView_hourStep hf hp, h]) d).trans (trendView_hourStep hf hp d)

theorem trendView_hourSteps {l : List Nat} (hl : l.Nodup) (hlt : ∀ g ∈ l, g < 96) (hf : f ∈ l) (hp : p < 36) (d : Dev) :
    (hourSteps l d).trendView f p = (d.trendView f p).hour :=
  (forL_at (Dev.trendView f p) hl hf
    (fun g hg hne e => forN_keep_lt (Dev.trendView f p) (fun q hq e => trendView_hourStep_ne (hlt g hg) hp hq (.inl hne) e) e)
    (fun e e' h => by rw [trendView_hourField (hlt f hf) hp, trendView_hourField (hlt f hf) hp, h]) d).trans (trendView_hourField (hlt f hf) hp d)

/-- The recorder's registers are not written by the trends and re-plans. -/
theorem rd_hourSteps {x : Fld} (h1 : 0x20060000 ≤ x.addr) (h2 : x.addr < 0x30000000) {l : List Nat} (hlt : ∀ g ∈ l, g < 96) (d : Dev) :
    (hourSteps l d).rd x = d.rd x := by
  refine forL_keep_mem (fun d => d.rd x) (fun g hg e => forN_keep_lt (fun d => d.rd x) (fun q hq e => ?_) e) d
  have hg := hlt g hg
  have hreg : ∀ y ∈ replanRegs g q, x.apart y := by
    intro y hy
    refine .inl ?_
    simp only [replanRegs, stopRegs, List.cons_append, List.nil_append, List.mem_cons, List.not_mem_nil, or_false] at hy
    rcases hy with rfl | rfl | rfl | rfl | rfl | rfl | rfl | rfl | rfl | rfl | rfl | rfl | rfl <;>
      simp only [ST_OP_PATCH_STATE, PS_STATUS_CLK_ON, PS_STATUS_DD_ARMED, PS_STATUS_STRETCH, ST_OP_PATCH_WAIT,
        ST_OP_PATCH_MOFS, ST_OP_PATCH_RETIRE, JZ_RET, JZ_AGE_STATUS_RSEQ, JZ_AGE_STATUS_RETIRED, JZ_AGE_CNT_RAISES, JZ_AGE_CNT_PROPOSED, ST_HINT_DROP2_DRAIN,
        psBase, stBase] <;>
      omega
  have ht : x.addr ≠ (ST_AGE_PATCH_TREND g q).addr := by simp only [ST_AGE_PATCH_TREND, stBase]; omega
  rw [hourStep, rd_replan g q _ hreg, rd_updateTrend g q e (.inl ht) (.inl ht)]

end

/-! The whole end of an hour. -/

section
variable {d : Dev}

theorem mem_enabled {f : Nat} : f ∈ d.enabled ↔ f < 96 ∧ (d.fd f).enable = true := by
  rw [Dev.enabled, List.mem_filter, List.mem_range]
  rfl

theorem nodup_enabled : d.enabled.Nodup := List.nodup_range.filter _

theorem enabled_of_fld {d e : Dev} (h : d.fld = e.fld) : d.enabled = e.enabled := by
  simp only [Dev.enabled, Dev.fd, h]

theorem fld_updEv (g : RecS → RecS) (d : Dev) : (d.updEv g).fld = d.fld := rfl
theorem pat_updEv (g : RecS → RecS) (d : Dev) : (d.updEv g).pat = d.pat := rfl

theorem enabled_endPeriod (d : Dev) (shut : Bool) : (endPeriod shut d).enabled = d.enabled :=
  enabled_of_fld ((fld_of_bare (e := d.updEv fun x => x.begun d.periodSet (d.bud.waferE / 256) (d.rd EV_HOURS_HOURS) shut) (bare_endPeriod d shut)).trans
    (fld_updEv _ _))

/-- R380: the end of an hour: a period begins, and the patches of the enabled fields are looked at. -/
theorem hourEnd_eq (h : d.hourEnds = true) : hourEnd d = hourSteps d.enabled (endPeriod false d) := by
  rw [hourEnd_ends h, enabled_endPeriod]

theorem trendView_endPeriod (f p : Nat) (shut : Bool) : (endPeriod shut d).trendView f p = d.trendView f p := by
  have hslack : (endPeriod shut d).slack f p = d.slack f p := slack_of_pat
    ((pat_of_bare (e := d.updEv fun x => x.begun d.periodSet (d.bud.waferE / 256) (d.rd EV_HOURS_HOURS) shut) (bare_endPeriod d shut)).trans (pat_updEv _ _)) f p
  have hev (x : Fld) (hx : 0x30000000 ≤ x.addr) : (endPeriod shut d).rd x = d.rd x := by
    refine rd_endPeriod d (.inl ?_) (.inl ?_) shut
    · simp only [EV_CNT_LOST_SETS]
      omega
    · simp only [EV_STATUS_PENDING]
      omega
  have hmin : (endPeriod shut d).rd (ST_AGE_CFG1_MIN_SAMPLES f) = d.rd (ST_AGE_CFG1_MIN_SAMPLES f) :=
    hev _ (by simp only [ST_AGE_CFG1_MIN_SAMPLES, stBase]; omega)
  have htrend : (endPeriod shut d).rd (ST_AGE_PATCH_TREND f p) = d.rd (ST_AGE_PATCH_TREND f p) :=
    hev _ (by simp only [ST_AGE_PATCH_TREND, stBase]; omega)
  rw [Dev.trendView, hmin, htrend, hslack, Dev.trendView]

theorem trendView_hourEnd (h : d.hourEnds = true) {f p : Nat} (hf : f ∈ d.enabled) (hp : p < 36) : (hourEnd d).trendView f p = (d.trendView f p).hour := by
  rw [hourEnd_eq h, trendView_hourSteps nodup_enabled (fun g hg => (mem_enabled.mp hg).1) hf hp, trendView_endPeriod]

theorem rd_hourEnd (h : d.hourEnds = true) {x : Fld} (h1 : 0x20060000 ≤ x.addr) (h2 : x.addr < 0x30000000) :
    (hourEnd d).rd x = (endPeriod false d).rd x := by
  rw [hourEnd_eq h, rd_hourSteps h1 h2 fun g hg => (mem_enabled.mp hg).1]

theorem sansHour_hourEnd (h : d.hourEnds = true) : (hourEnd d).sansHour = (endPeriod false d).sansHour := by rw [hourEnd_eq h, sansHour_hourSteps]

/-- The recorder's part after the end of an hour. -/
theorem ev_hourEnd (h : d.hourEnds = true) :
    (hourEnd d).ev = { d.ev.begun d.periodSet (d.bud.waferE / 256) (d.rd EV_HOURS_HOURS) false with cnt := (hourEnd d).ev.cnt } := by
  have hev : (hourEnd d).ev = { (endPeriod false d).ev with cnt := (hourEnd d).ev.cnt } := by
    change (hourEnd d).bare.ev = _
    rw [bare_of_sansHour (sansHour_hourEnd h)]
    rfl
  rw [ev_endPeriod] at hev
  exact hev

theorem withHour_endPeriod (e d : Dev) (g : RecS → RecS) : (Dev.withHour e (d.updEv g)).bare =
    Dev.bare { d with pat := e.pat, ev := { g d.ev with cnt := e.ev.cnt }, nv := { d.nv with marg := e.nv.marg, margDue := e.nv.margDue },
                      fc := { d.fc with raised := e.fc.raised }, fld := e.fld, tile := e.tile, led := { d.led with marks := e.led.marks } } := rfl

theorem withHour_of_bare {d d' : Dev} (h : d.bare = d'.bare) (e : Dev) : (Dev.withHour e d).bare = (Dev.withHour e d').bare := by
  have hb (d : Dev) : (Dev.withHour e d).bare = Dev.withHour e d.bare := rfl
  rw [hb, h, ← hb]

/-- What the end of an hour leaves beside the registers. -/
theorem bare_hourEnd (h : d.hourEnds = true) : (hourEnd d).bare =
    Dev.bare { d with pat := (hourEnd d).pat, ev := (hourEnd d).ev, nv := { d.nv with marg := (hourEnd d).nv.marg, margDue := (hourEnd d).nv.margDue },
                      fc := { d.fc with raised := (hourEnd d).fc.raised }, fld := (hourEnd d).fld, tile := (hourEnd d).tile,
                      led := { d.led with marks := (hourEnd d).led.marks } } := by
  have hev := ev_hourEnd h
  have hb := bare_of_sansHour (sansHour_hourEnd h)
  generalize hourEnd d = e at hb hev ⊢
  rw [hb, withHour_of_bare (d' := d.updEv fun x => x.begun d.periodSet (d.bud.waferE / 256) (d.rd EV_HOURS_HOURS) false) (bare_endPeriod d false),
    withHour_endPeriod, ← hev]

/-- What the end of an hour moves, taken from one device into another. -/
theorem bare_hourParts (e d : Dev) (h : e.bare = Dev.bare { d with
    pat := e.pat, ev := e.ev, nv := { d.nv with marg := e.nv.marg, margDue := e.nv.margDue }, fc := { d.fc with raised := e.fc.raised }, fld := e.fld
    tile := e.tile, led := { d.led with marks := e.led.marks } }) : e.bare = Dev.bare { d with
    pat := e.pat, ev := e.ev, nv := { d.nv with marg := e.nv.marg, margDue := e.nv.margDue }, fc := e.fc, fld := e.fld, cls := e.cls, inst := e.inst
    dom := e.dom, tile := e.tile, led := { d.led with marks := e.led.marks } } := by
  have hfc : e.fc = { d.fc with raised := e.fc.raised } := by
    change e.bare.fc = _
    rw [h]
    rfl
  have hcls : e.cls = d.cls := by
    change e.bare.cls = _
    rw [h]
    rfl
  have hinst : e.inst = d.inst := by
    change e.bare.inst = _
    rw [h]
    rfl
  have hdom : e.dom = d.dom := by
    change e.bare.dom = _
    rw [h]
    rfl
  rw [hcls, hinst, hdom, hfc]
  exact h

theorem signedOf_unsignedOf20 {z : Int} (h : -2 ^ 19 ≤ z) (h' : z < 2 ^ 19) : signedOf 20 (unsignedOf 20 z % 2 ^ 20) = z := by
  simp only [signedOf, unsignedOf]
  omega

end

/-- Settles O49. -/
theorem operatingHours : Obligations.OperatingHours := by
  unfold Obligations.OperatingHours
  refine ⟨fun s hs hb hh => ?_, fun s hs h => ?_, fun s hs h => ?_, fun s hs h hn => ?_, fun s f p v hs h hf hm hv hlo hhi => ?_, fun s f p hs h hf hm => ?_,
    fun s hs h => completes_unchanged rfl hs (hourEnd_not h)⟩
  · have hg : hourTick s.dev = (s.dev.updEv fun x => { x with hourAt := x.hourAt + 36000000 }).wr EV_HOURS_HOURS ((s.dev.rd EV_HOURS_HOURS + 1) % 2 ^ 32) :=
      if_pos (by rw [hb, Bool.true_and]; exact decide_eq_true hh)
    refine completes_eq rfl hs hg ⟨?_, changes_bare ?_ fun x hx => ?_⟩
    · rw [rd_settle (by decide)]
      exact (rd_wr_eq _ (by decide)).trans (Nat.mod_mod _ _)
    · rw [bare_wr, bare_updEv]
      rfl
    · rw [rd_wr_apart _ (hx _ (by simp)), updEv_rd]
  · refine completes_unchanged rfl hs (if_neg ?_)
    rcases h with h | h
    · rw [h, Bool.false_and]
      exact Bool.false_ne_true
    · rw [Bool.and_eq_true, decide_eq_true_eq]
      omega
  · have hev := ev_hourEnd h
    refine completes_eq (d := hourEnd s.dev) rfl hs rfl ⟨?_, ?_, ?_, ?_, ?_, ?_, ?_, ?_⟩
    · rw [settle_ev, hev, RecS.begun]
    · rw [settle_ev, hev, RecS.begun, Dev.periodSet]
    · rw [settle_ev, hev, RecS.begun]
    · rw [settle_ev, hev, RecS.begun]
    · rw [settle_ev, hev, RecS.begun]
    · rw [rdB_settle (by decide), Dev.rdB, rd_hourEnd h (by decide) (by decide)]
      exact pending_endPeriod s.dev false
    · rw [rd_settle (by decide), rd_hourEnd h (by decide) (by decide), lost_endPeriod]
    · rw [settle_pat, settle_ev, settle_nv, settle_fc, settle_fld, settle_cls, settle_inst, settle_dom, settle_tile, settle_led]
      exact parts_settle (eq_of_bare (bare_hourParts _ _ (bare_hourEnd h)))
  · have hg : hourEnd s.dev = endPeriod false s.dev := by
      rw [hourEnd_eq h, hn]
      rfl
    have hev := ev_endPeriod s.dev false
    refine completes_eq rfl hs hg ⟨?_, ?_, ?_, ?_, ?_, ?_, ?_, ?_, changes_bare ?_ fun x hx => ?_⟩
    · rw [settle_ev, hev, RecS.begun]
    · rw [settle_ev, hev, RecS.begun, Dev.periodSet]
    · rw [settle_ev, hev, RecS.begun]
    · rw [settle_ev, hev, RecS.begun]
    · rw [settle_ev, hev, RecS.begun]
    · rw [rdB_settle (by decide)]
      exact pending_endPeriod s.dev false
    · rw [rd_settle (by decide), lost_endPeriod]
    · rw [settle_ev, hev, RecS.begun]
    · rw [settle_ev, hev, bare_endPeriod]
      generalize s.dev.rd EV_HOURS_HOURS = n
      rfl
    · rw [rd_endPeriod _ (hx _ (by simp)) (hx _ (by simp))]
  · have hview := trendView_hourEnd h hf p.isLt
    have hlong : ¬ (s.dev.trendView f p).slack.2.1 < orDef (s.dev.trendView f p).samples 1 := Nat.not_lt.mpr hm
    have hnext : (s.dev.trendView f p).next = v := hv
    rw [TrendView.hour, if_neg hlong, hnext] at hview
    have htrend : (hourEnd s.dev).rd (ST_AGE_PATCH_TREND f p) = unsignedOf 20 v % 2 ^ 20 := congrArg TrendView.trend hview
    have hslack : (hourEnd s.dev).slack f p = (0, 0, true) := congrArg TrendView.slack hview
    refine completes_eq (d := hourEnd s.dev) rfl hs rfl ⟨?_, ?_, ?_⟩
    · rw [Dev.rdS, rd_settle (apart_alert (by simp only [ST_AGE_PATCH_TREND, stBase]; omega)), htrend]
      exact signedOf_unsignedOf20 hlo hhi
    · rw [pt_settle]
      exact congrArg (fun x => x.2.2) hslack
    · rw [pt_settle]
      exact congrArg (fun x => x.2.1) hslack
  · have hview := trendView_hourEnd h hf p.isLt
    have hshort : (s.dev.trendView f p).slack.2.1 < orDef (s.dev.trendView f p).samples 1 := hm
    rw [TrendView.hour, if_pos hshort] at hview
    have htrend : (hourEnd s.dev).rd (ST_AGE_PATCH_TREND f p) = s.dev.rd (ST_AGE_PATCH_TREND f p) := congrArg TrendView.trend hview
    refine completes_eq (d := hourEnd s.dev) rfl hs rfl ?_
    rw [Dev.rdS, rd_settle (apart_alert (by simp only [ST_AGE_PATCH_TREND, stBase]; omega)), htrend, Dev.rdS]

end Sys2Proof.Machine
end

section
/-! The layer of the peer port (R274 to R287), and O32: the peer table and its groups (R275, R277, R279, R300). -/

namespace Sys2Proof.Machine

/-! A message arrives (R274, R281). -/

section
variable {d : Dev} {t : Nat → Bool} {m : List Nat} {g : Dev → Dev}

theorem receive_bad (hs : d.selStop = false) (hv : d.selfValid = true) (hb : d.badMsg m = true) : receive t m g d = d.inc PP_DROP_FORMAT := by
  simp -implicitDefEqProofs only [receive, hs, hv, hb, Bool.false_eq_true, if_false, if_true, Bool.not_true]

theorem receive_unaddressed (hs : d.selStop = false) (hv : d.selfValid = false) : receive t m g d = d.inc PP_DROP_Y_TABLE := by
  simp -implicitDefEqProofs only [receive, hs, hv, Bool.false_eq_true, if_false, if_true, Bool.not_false]

theorem receive_takes (hs : d.selStop = false) (hv : d.selfValid = true) (hb : d.badMsg m = false) (ht : t (mType m) = true) : receive t m g d = g d := by
  simp -implicitDefEqProofs only [receive, hs, hv, hb, ht, Bool.false_eq_true, if_false, if_true, Bool.not_true]

end

theorem arrive_clean (m : List Byte) (g : List Nat → Dev → Dev) (d : Dev) : arrive ⟨m, false⟩ g d = g (nats m) d := rfl

/-! The parts of the peer port. -/

section
variable {d e : Dev}

theorem pp_of_bare (h : d.bare = e.bare) : d.pp = e.pp := by
  change d.bare.pp = e.bare.pp
  rw [h]

theorem pp_updPP (g : PeerS → PeerS) (d : Dev) : (d.updPP g).pp = g d.pp := rfl
theorem pp_setPeer (i : Nat) (x : Option Peer) (d : Dev) : (d.setPeer i x).pp = { d.pp with tab := tput none i x d.pp.tab } := rfl

theorem peer_of_pp (h : d.pp = e.pp) (i : Nat) : d.peer i = e.peer i := by rw [Dev.peer, h, Dev.peer]

@[simp] theorem peer_settle (d : Dev) (i : Nat) : (settle d).peer i = d.peer i := peer_of_pp (settle_pp d) i

theorem peer_of_tab (h : d.pp.tab = e.pp.tab) (i : Nat) : d.peer i = e.peer i := by rw [Dev.peer, h, Dev.peer]

theorem peer_setPeer (i : Nat) (x : Option Peer) (d : Dev) : (d.setPeer i x).peer i = x := by
  rw [Dev.peer, pp_setPeer]
  exact tget_tput_same _ _ _ _

end

/-! Requests given up (R284, R285). -/

section
variable (l : List TxReq) (d : Dev)

/-- R284, R285: the peer port without the requests of a list and their reservations. -/
def PeerS.without (l : List TxReq) (p : PeerS) : PeerS :=
  { p with tx := p.tx.filter fun x => x ∉ l, resv := p.resv.filter fun r => !l.any fun x => x.peer = r.peer && x.seq = r.seq }

theorem giveUp_eq : giveUp l d = (d.add PP_TX_STATUS_GIVEUP l.length).updPP (PeerS.without l) := rfl

theorem rd_giveUp {x : Fld} (h : x.apart PP_TX_STATUS_GIVEUP) : (giveUp l d).rd x = d.rd x := by rw [giveUp_eq, updPP_rd, rd_add_apart _ h]

theorem bare_giveUp : (giveUp l d).bare = d.bare.updPP (PeerS.without l) := by rw [giveUp_eq, bare_updPP, bare_add]

theorem pp_giveUp : (giveUp l d).pp = d.pp.without l := by rw [pp_of_bare (e := d.updPP (PeerS.without l)) (bare_giveUp l d), pp_updPP]

theorem count_giveUp : (giveUp l d).rd PP_TX_STATUS_GIVEUP = satN 0xFFFF (d.rd PP_TX_STATUS_GIVEUP + l.length) := by
  rw [giveUp_eq, updPP_rd]
  refine (rd_wr_eq _ (by decide)).trans (Nat.mod_eq_of_lt ?_)
  have hw : PP_TX_STATUS_GIVEUP.w = 16 := rfl
  rw [hw, satN]
  split <;> omega

/-- The requests left where some that meet a test are given up. -/
theorem tx_without (q : TxReq → Bool) (p : PeerS) : (p.without (p.tx.filter q)).tx = p.tx.filter fun x => !q x := by
  refine List.filter_congr fun x hx => ?_
  cases hq : q x
  · exact decide_eq_true fun h => by
      rw [List.mem_filter, hq] at h
      exact absurd h.2 Bool.false_ne_true
  · exact decide_eq_false fun h => h (List.mem_filter.mpr ⟨hx, hq⟩)

end

/-! Groups (R279). -/

section
variable {d : Dev} {g i : Nat}

/-- R279: a membership is added. -/
def Dev.joined (g i : Nat) (d : Dev) : Dev := d.updPP fun p => { p with grps := p.grps ++ [(g, i)] }

theorem grpAdd_unready (h : d.ready = false) : grpAdd g d = conflict PP_STATUS_STATE_CONFLICT d := by
  rw [grpAdd]
  exact if_pos (by rw [h]; rfl)

theorem grpAdd_member (h : d.ready = true) (hi : d.peerIx (d.rd PP_GRP_ADDR_ADDR) = some i) (hm : (g, i) ∈ d.pp.grps) : grpAdd g d = grpResult 0 d := by
  have hno : ¬ (!d.ready) = true := by rw [h]; decide
  rw [grpAdd]
  dsimp only
  rw [if_neg hno, hi]
  exact if_pos (List.contains_iff_mem.mpr hm)

theorem grpAdd_full (h : d.ready = true) (hi : d.peerIx (d.rd PP_GRP_ADDR_ADDR) = none) (hg : g ∉ d.groups) (hl : 64 ≤ d.groups.length) :
    grpAdd g d = grpResult 2 d := by
  have hno : ¬ (!d.ready) = true := by rw [h]; decide
  rw [grpAdd]
  dsimp only
  rw [if_neg hno, hi]
  dsimp only
  rw [if_neg Bool.false_ne_true, if_pos ⟨hg, hl⟩]

theorem grpAdd_known (h : d.ready = true) (hi : d.peerIx (d.rd PP_GRP_ADDR_ADDR) = some i) (hm : (g, i) ∉ d.pp.grps)
    (hg : g ∈ d.groups ∨ d.groups.length < 64) (hl : d.pp.grps.length < 4096) : grpAdd g d = grpResult 0 (d.joined g i) := by
  have hno : ¬ (!d.ready) = true := by rw [h]; decide
  have hc : ¬ d.pp.grps.contains (g, i) = true := fun hc => hm (List.contains_iff_mem.mp hc)
  have hroom : ¬ (g ∉ d.groups ∧ 64 ≤ d.groups.length) := fun ⟨h1, h2⟩ => hg.elim h1 (Nat.not_lt.mpr h2)
  rw [grpAdd]
  dsimp only
  rw [if_neg hno, hi]
  dsimp only
  rw [if_neg hc, if_neg hroom, if_neg (Nat.not_le.mpr hl)]
  rfl

theorem peer_joined (g i j : Nat) (d : Dev) : (d.joined g i).peer j = d.peer j := rfl

/-- R275: the entry of an address that is listed. -/
def listedPeer (a : Nat) : Peer :=
  { addr := a, st := .listed, kind := 0, grant := 0, incarn := 0, lastHb := 0, silent := 0, idle := 0, hbNow := false, sent := 0, rcvd := 0 }

theorem grpAdd_unknown (h : d.ready = true) (hi : d.peerIx (d.rd PP_GRP_ADDR_ADDR) = none) (hf : d.freePeer = some i)
    (hg : g ∈ d.groups ∨ d.groups.length < 64) (hl : d.pp.grps.length < 4096) :
    grpAdd g d = grpResult 0 ((d.setPeer i (some (listedPeer (d.rd PP_GRP_ADDR_ADDR)))).joined g i) := by
  have hno : ¬ (!d.ready) = true := by rw [h]; decide
  have hroom : ¬ (g ∉ d.groups ∧ 64 ≤ d.groups.length) := fun ⟨h1, h2⟩ => hg.elim h1 (Nat.not_lt.mpr h2)
  rw [grpAdd]
  dsimp only
  rw [if_neg hno, hi]
  dsimp only
  rw [if_neg Bool.false_ne_true, if_neg hroom, if_neg (Nat.not_le.mpr hl), hf]
  rfl

/-- R279: a change of groups that is done shows result 0. -/
theorem completes_grouped {c : Instr} {s : State} {h : Dev → Dev} {e p : Dev} {r : Nat} (hc : exec c s = done h s) (hs : s.awake)
    (hg : h s.dev = grpResult r e) (hr : r < 4) (hb : e.bare = p.bare) (he : ∀ x, e.rd x = s.dev.rd x) :
    Completes c s fun t => t.dev.rd PP_GRP_STATUS_RESULT = r ∧ t.dev.pp = p.pp ∧ s.changes t p [PP_GRP_STATUS_RESULT] := by
  have hres : (grpResult r e).bare = e.bare := bare_wr _ _ _
  refine completes_eq hc hs hg ⟨?_, ?_, changes_bare (hres.trans hb) fun x hx => ?_⟩
  · rw [rd_settle (by decide)]
    exact (rd_wr_eq _ (by decide)).trans (Nat.mod_eq_of_lt hr)
  · rw [settle_pp, pp_of_bare hres, pp_of_bare hb]
  · exact (rd_wr_apart _ (hx _ (by simp))).trans (he x)

theorem Completes.mono {c : Instr} {s : State} {P Q : State → Prop} (h : Completes c s P) (hpq : ∀ t, P t → Q t) : Completes c s Q := by
  obtain ⟨t, ht, hp⟩ := h
  exact ⟨t, ht, hpq t hp⟩

end

/-- Settles O32. -/
theorem peersAndGroups : Obligations.PeersAndGroups := by
  unfold Obligations.PeersAndGroups
  refine ⟨fun s m c t2 t3 hs hst hv hb hc => ?_, fun s a hs hv h8 ha => ?_, fun s a hs h => ?_, fun s hs hv h8 => ?_, fun s m hs hst hv hb ht => ?_,
    fun s m hs hst hv => ?_, fun s i x hs hx hp hm => ?_, fun s i x hs hx h => ?_, fun s i x hs hx hp hr he => ?_, fun s i x hs hx h => ?_,
    fun s g i hs hr hi hm hg hl => ?_, fun s g i hs hr hi hm => ?_, fun s g i hs hr hi hf hg hl => ?_, fun s g hs hr hi hg hl => ?_, fun s g hs hr => ?_,
    fun s g i hs hr hi hm => ?_, fun s g hs h => ?_, fun s g hs hr hg => ?_, fun s g hs h => ?_, fun s i hs => ?_⟩
  · have hbad (t : Nat → Bool) (g : Dev → Dev) : receive t (nats m) g s.dev = s.dev.inc PP_DROP_FORMAT := receive_bad hst hv hb
    have hexec : ∃ h : Dev → Dev, exec c s = done h s ∧ h s.dev = s.dev.inc PP_DROP_FORMAT := by
      simp only [List.mem_cons, List.not_mem_nil, or_false] at hc
      rcases hc with rfl | rfl | rfl | rfl | rfl | rfl | rfl | rfl | rfl | rfl | rfl | rfl | rfl <;> 
        exact ⟨_, rfl, (arrive_clean _ _ _).trans (hbad _ _)⟩
    obtain ⟨h, hc, hg⟩ := hexec
    refine completes_eq hc hs hg ⟨?_, changes_bare (bare_inc _ _) fun x hx => rd_inc_apart (hx _ (by simp))⟩
    rw [rd_settle (by decide)]
    exact rd_inc_eq (by decide)
  · have hno : ¬ (s.dev.selfValid = true ∨ s.dev.start.step < 8) := by
      rw [hv]
      exact fun h => h.elim Bool.false_ne_true (Nat.not_lt.mpr h8)
    have ha' : a.toNat ≠ 0xFFFF := fun h => ha (BitVec.eq_of_toNat_eq h)
    have hg : ppSelf a.toNat s.dev = (s.dev.wr PP_SELF_ADDR a.toNat).wrB PP_STATUS_SELF_VALID true := by rw [ppSelf, if_neg hno, if_neg ha']
    refine completes_eq rfl hs hg ⟨?_, (rdB_settle (by decide)).trans (rdB_wrB_eq true (by decide)), changes_bare ?_ fun x hx => ?_⟩
    · rw [rd_settle (by decide), rd_wrB_apart _ (by decide)]
      exact (rd_wr_eq _ (by decide)).trans (Nat.mod_eq_of_lt a.isLt)
    · rw [bare_wrB, bare_wr]
    · rw [rd_wrB_apart _ (hx _ (by simp)), rd_wr_apart _ (hx _ (by simp))]
  · exact completes_conflict rfl hs (if_pos h) (by decide) (by decide)
  · refine completes_unchanged rfl hs ((if_neg ?_).trans (if_pos rfl))
    rw [hv]
    exact fun h => h.elim Bool.false_ne_true (Nat.not_lt.mpr h8)
  · have hg : arrive ⟨m, false⟩ heartbeat s.dev = s.dev.updPP fun p => { p with hbs := p.hbs ++
        [{ src := mSrc (nats m), incarn := mBody (nats m) 0 4, grant := mBody (nats m) 4 1, kind := bitsOf (mBody (nats m) 5 1) 2 2 }] } := by
      rw [arrive_clean, heartbeat, receive_takes hst hv hb (by rw [ht]; rfl)]
    refine completes_eq rfl hs hg (changes_bare ?_ fun x _ => updPP_rd _ _ _)
    generalize nats m = l
    rfl
  · refine completes_eq rfl hs ((arrive_clean _ _ _).trans (receive_unaddressed hst hv)) ⟨?_, changes_bare (bare_inc _ _) fun x hx => rd_inc_apart (hx _ (by simp))⟩
    rw [rd_settle (by decide)]
    exact rd_inc_eq (by decide)
  · have hg : peerAbsent i.toNat s.dev = (giveUp (s.dev.pp.tx.filter fun t => t.peer = i.toNat && t.flying)
        (s.dev.setPeer i.toNat (some { x with st := .absent, grant := 0, idle := 0, absentAt := s.dev.time.nbRun }))).raise .peer 1 central i.toNat := by
      rw [peerAbsent, hx]
      exact if_pos ⟨hp, hm⟩
    generalize hnew : ({ x with st := .absent, grant := 0, idle := 0, absentAt := s.dev.time.nbRun } : Peer) = y at hg ⊢
    have hpp : (giveUp (s.dev.pp.tx.filter fun t => t.peer = i.toNat && t.flying) (s.dev.setPeer i.toNat (some y))).pp =
        (s.dev.setPeer i.toNat (some y)).pp.without (s.dev.pp.tx.filter fun t => t.peer = i.toNat && t.flying) := pp_giveUp _ _
    refine completes_eq rfl hs hg ⟨?_, ?_, ?_, changes_bare ?_ fun z hz => ?_⟩
    · rw [peer_settle, peer_of_pp (Dev.raise_pp _ _ _ _ _), peer_of_tab (e := s.dev.setPeer i.toNat (some y)) (by rw [hpp]; rfl), peer_setPeer]
    · rw [settle_pp, Dev.raise_pp, hpp]
      exact tx_without (fun t => t.peer = i.toNat && t.flying) (s.dev.setPeer i.toNat (some y)).pp
    · rw [rd_settle (by decide), Dev.raise_rd, count_giveUp, setPeer_rd]
    · rw [settle_pp, settle_led, Dev.raise_pp, Dev.raise_led, hpp, led_of_bare (e := (s.dev.setPeer i.toNat (some y)).updPP (PeerS.without _)) (bare_giveUp _ _),
        bare_raise, bare_giveUp, bare_setPeer]
      rfl
    · rw [Dev.raise_rd, rd_giveUp _ _ (hz _ (by simp)), setPeer_rd]
  · refine completes_unchanged rfl hs ?_
    rw [peerAbsent, hx]
    refine if_neg fun ⟨h1, h2⟩ => ?_
    rcases h with h | h
    · exact h h1
    · omega
  · have hg : peerEvict i.toNat s.dev = (s.dev.setPeer i.toNat none).updPP fun p =>
        { p with timeReqs := p.timeReqs.filter (·.1 ≠ i.toNat), tx := p.tx.filter (·.peer ≠ i.toNat), resv := p.resv.filter (·.peer ≠ i.toNat) } := by
      rw [peerEvict, hx]
      exact if_pos ⟨hp, hr, he⟩
    refine completes_eq rfl hs hg ⟨?_, changes_bare ?_ fun z _ => ?_⟩
    · rw [peer_settle]
      exact peer_setPeer i.toNat none s.dev
    · rw [settle_pp]
      rfl
    · rw [updPP_rd, setPeer_rd]
  · refine completes_unchanged rfl hs ?_
    rw [peerEvict, hx]
    refine if_neg fun ⟨h1, h2, h3⟩ => ?_
    rcases h with h | h | h
    · exact h1 h
    · exact h h2
    · omega
  · refine (completes_grouped (p := s.dev.joined g.toNat i) rfl hs (grpAdd_known hr hi hm hg hl) (by decide) rfl fun x => updPP_rd _ _ _).mono fun t ht => ?_
    obtain ⟨h1, -, h2⟩ := ht
    exact ⟨h1, h2⟩
  · refine (completes_grouped (p := s.dev) rfl hs (grpAdd_member hr hi hm) (by decide) rfl fun x => rfl).mono fun t ht => ?_
    obtain ⟨h1, -, h2⟩ := ht
    exact ⟨h1, h2⟩
  · refine (completes_grouped (p := (s.dev.setPeer i (some (listedPeer (s.dev.rd PP_GRP_ADDR_ADDR)))).joined g.toNat i) rfl hs
      (grpAdd_unknown hr hi hf hg hl) (by decide) rfl fun x => (updPP_rd _ _ _).trans (setPeer_rd _ _ _ _)).mono fun t ht => ?_
    obtain ⟨h1, hpp, h2⟩ := ht
    refine ⟨h1, (peer_of_pp hpp i).trans (peer_joined g.toNat i i _ |>.trans (peer_setPeer i _ s.dev)), ?_⟩
    rw [hpp]
    exact h2
  · refine (completes_grouped (p := s.dev) rfl hs (grpAdd_full hr hi hg hl) (by decide) rfl fun x => rfl).mono fun t ht => ?_
    obtain ⟨h1, -, h2⟩ := ht
    exact ⟨h1, h2⟩
  · exact completes_conflict rfl hs (grpAdd_unready hr) (by decide) (by decide)
  · have hg : grpRemove g.toNat s.dev = grpResult 0 (s.dev.updPP fun p => { p with grps := p.grps.filter (· ≠ (g.toNat, i)) }) := by
      rw [grpRemove, hi]
      exact if_pos ⟨hr, hm⟩
    refine (completes_grouped (p := s.dev.updPP fun p => { p with grps := p.grps.filter (· ≠ (g.toNat, i)) }) rfl hs hg (by decide) rfl
      fun x => updPP_rd _ _ _).mono fun t ht => ?_
    obtain ⟨h1, -, h2⟩ := ht
    exact ⟨h1, h2⟩
  · refine completes_conflict rfl hs ?_ (by decide) (by decide)
    rw [grpRemove]
    rcases h with h | h
    · split
      · exact if_neg fun h' => by
          rw [h] at h'
          exact Bool.false_ne_true h'.1
      · rfl
    · rw [h]
  · have hg' : grpClear g.toNat s.dev = grpResult 0 (s.dev.updPP fun p => { p with grps := p.grps.filter (·.1 ≠ g.toNat) }) := if_pos ⟨hr, hg⟩
    refine (completes_grouped (p := s.dev.updPP fun p => { p with grps := p.grps.filter (·.1 ≠ g.toNat) }) rfl hs hg' (by decide) rfl
      fun x => updPP_rd _ _ _).mono fun t ht => ?_
    obtain ⟨h1, -, h2⟩ := ht
    exact ⟨h1, h2⟩
  · refine completes_conflict rfl hs (if_neg ?_) (by decide) (by decide)
    rintro ⟨h1, h2⟩
    rcases h with h | h
    · rw [h] at h1
      exact Bool.false_ne_true h1
    · exact h h2
  · refine completes_eq (d := ppPsel i.toNat s.dev) rfl hs rfl ⟨?_, changes_bare ?_ fun x hx => ?_⟩
    · rw [rd_settle (by decide), ppPsel, updPP_rd]
      exact (rd_wr_eq _ (by decide)).trans (Nat.mod_eq_of_lt i.isLt)
    · rw [ppPsel, bare_updPP, bare_wr]
      generalize s.dev.peerWords i.toNat = w
      rfl
    · rw [ppPsel, updPP_rd, rd_wr_apart _ (hx _ (by simp))]

end Sys2Proof.Machine
end

section
/-! O33: requests and messages of the peer port (R280 to R287, R300). -/

namespace Sys2Proof.Machine

/-! What goes out of the port (R280, R309). -/

section
variable (d : Dev)

/-- The device whose peer table is x. -/
def Dev.setTab (x : Tab (Option Peer)) (d : Dev) : Dev := d.updPP fun p => { p with tab := x }

@[simp] theorem setTab_rd (x : Tab (Option Peer)) (y : Fld) : (d.setTab x).rd y = d.rd y := rfl
@[simp] theorem bare_setTab (x : Tab (Option Peer)) : (d.setTab x).bare = d.bare.setTab x := rfl
theorem emit_rd (o : Out) (y : Fld) : (d.emit o).rd y = d.rd y := rfl

theorem countSent_eq (a : Nat) : countSent a d = d.setTab (countSent a d).pp.tab := by
  rw [countSent]
  split <;> rfl

theorem countRcvd_eq (a : Nat) : countRcvd a d = d.setTab (countRcvd a d).pp.tab := by
  rw [countRcvd]
  split <;> rfl

theorem post_sends {o : Out} {d : Dev} (h : d.rd CK_STATUS_SEL ≠ 5) : post o d = d.emit o := if_neg h

theorem post_holds {o : Out} {d : Dev} (h : d.rd CK_STATUS_SEL = 5) : post o d = d.updPP fun p => { p with hold := p.hold ++ [o] } := if_pos h

/-- R280: an entry of the table after one more message to it. -/
def Peer.sentOnce (x : Peer) : Peer := { x with sent := (x.sent + 1) % 2 ^ 32 }

theorem countSent_known {a i : Nat} {x : Peer} {d : Dev} (hi : d.peerIx a = some i) (hx : d.peer i = some x) :
    countSent a d = d.setPeer i (some x.sentOnce) := by
  rw [countSent, hi]
  dsimp only
  rw [Dev.updPeer, hx]
  rfl

end

/-! SEND (R284, R285, R300). -/

section
variable {d : Dev} {i q : Nat} {x : Peer}

/-- R300: the message in the TX buffer may be sent. -/
theorem txBuf_sendable (hf : formOk d.txBuf = true) (hb : bodyOk d.txBuf = true) (h1 : mType d.txBuf ≠ 0x3E) (h2 : mType d.txBuf ≠ 0x3F) :
    ¬ (!formOk d.txBuf || !bodyOk d.txBuf && mType d.txBuf ≠ 7 && mType d.txBuf ≠ 0x0A || mType d.txBuf = 0x3E || mType d.txBuf = 0x3F) = true := by
  simp [hf, hb, h1, h2]

theorem peerSend_malformed (h : formOk d.txBuf = false) : peerSend i q d = txResult 5 d := by
  rw [peerSend]
  exact if_pos (by rw [h]; rfl)

theorem peerSend_unknown (hf : formOk d.txBuf = true) (hb : bodyOk d.txBuf = true) (h1 : mType d.txBuf ≠ 0x3E) (h2 : mType d.txBuf ≠ 0x3F)
    (h : d.peer i = none ∨ d.portUp = false) : peerSend i q d = txResult 3 d := by
  rw [peerSend]
  dsimp only
  rw [if_neg (txBuf_sendable hf hb h1 h2)]
  cases hx : d.peer i with
  | none => rfl
  | some x =>
    rcases h with h | h
    · rw [hx] at h
      exact absurd h (by simp)
    · exact if_pos (by rw [h]; rfl)

theorem port_up (h : d.portUp = true) : ¬ (!d.portUp) = true := by rw [h]; decide

theorem peerSend_plain (hf : formOk d.txBuf = true) (hb : bodyOk d.txBuf = true) (h1 : mType d.txBuf ≠ 0x3E) (h2 : mType d.txBuf ≠ 0x3F)
    (hx : d.peer i = some x) (hp : d.portUp = true) (hr : isRequest (mType d.txBuf) = false) (ht : mType d.txBuf ≠ 2) :
    peerSend i q d = txResult 0 (post (.peerMsg (mType d.txBuf) x.addr (d.filled d.txBuf x.addr q)) (countSent x.addr d)) := by
  rw [peerSend]
  dsimp only
  rw [if_neg (txBuf_sendable hf hb h1 h2), hx]
  dsimp only
  rw [if_neg (port_up hp), if_neg fun h => ht h.1, if_pos (by rw [hr]; rfl)]

theorem request_types (hr : isRequest (mType d.txBuf) = true) : mType d.txBuf ≠ 0x3E ∧ mType d.txBuf ≠ 0x3F ∧ mType d.txBuf ≠ 2 := by
  refine ⟨?_, ?_, ?_⟩ <;>
    · intro h
      rw [h] at hr
      exact absurd hr (by decide)

/-- R284: a request to a PRESENT peer, of which a loan's only where loans may pass. -/
theorem peerSend_request (hf : formOk d.txBuf = true) (hb : bodyOk d.txBuf = true) (hx : d.peer i = some x) (hp : d.portUp = true)
    (hr : isRequest (mType d.txBuf) = true) (hst : x.st = .present) (hl : mType d.txBuf = 1 → d.mayLoan i = true) : peerSend i q d =
      if x.grant ≤ d.flying i then txResult 1 d
      else if d.rd PP_RING_RES_RES_MAX ≤ d.pp.resv.length ∨ d.ringFree ≤ d.pp.resv.length then txResult 2 d
      else if 128 < d.txCells + mCells d.txBuf then txResult 4 d
      else txResult 0 ((post (.peerMsg (mType d.txBuf) x.addr (d.filled d.txBuf x.addr q)) (countSent x.addr d)).updPP fun p => { p with
        tx := p.tx ++ [⟨i, mType d.txBuf, d.nextSeq x.addr, d.filled d.txBuf x.addr q, true, 0, 0⟩]
        resv := p.resv ++ [⟨i, mType d.txBuf, d.nextSeq x.addr, mBody d.txBuf 4 4, mBody d.txBuf 0 4,
          (post (.peerMsg (mType d.txBuf) x.addr (d.filled d.txBuf x.addr q)) (countSent x.addr d)).time.nbRun⟩] }) := by
  obtain ⟨h1, h2, h3⟩ := request_types hr
  have hloan : ¬ (mType d.txBuf = 1 ∧ (!d.mayLoan i) = true) := fun ⟨h, h'⟩ => by
    rw [hl h] at h'
    exact absurd h' (by decide)
  rw [peerSend]
  dsimp only
  rw [if_neg (txBuf_sendable hf hb h1 h2), hx]
  dsimp only
  rw [if_neg (port_up hp), if_neg fun h => h3 h.1, if_neg (by rw [hr]; decide), if_neg (not_not_intro hst), if_neg hloan]

theorem bare_txResult (r : Nat) (e : Dev) : (txResult r e).bare = e.bare := bare_wr _ _ _

theorem rd_txResult {y : Fld} (h : y.apart PP_TX_STATUS_RESULT) (r : Nat) (e : Dev) : (txResult r e).rd y = e.rd y := rd_wr_apart _ h

/-- A SEND that shows result r. -/
theorem completes_txResult {c : Instr} {s : State} {h : Dev → Dev} {e p : Dev} {r : Nat} {Q : State → Prop} (hc : exec c s = done h s) (hs : s.awake)
    (hg : h s.dev = txResult r e) (hr : r < 8) (hb : e.bare = p.bare) (he : ∀ x, e.rd x = s.dev.rd x)
    (hq : ∀ t : State, t.dev.pp = p.pp → t.dev.out = p.out → t.dev.rd PP_TX_STATUS_RESULT = r → s.changes t p [PP_TX_STATUS_RESULT] → Q t) :
    Completes c s Q := by
  refine completes_eq hc hs hg (hq _ ?_ ?_ ?_ (changes_bare ((bare_txResult r e).trans hb) fun x hx => ?_))
  · rw [settle_pp, pp_of_bare (bare_txResult r e), pp_of_bare hb]
  · rw [settle_out]
    change (txResult r e).bare.out = p.bare.out
    rw [bare_txResult, hb]
  · rw [rd_settle (by decide)]
    exact (rd_wr_eq _ (by decide)).trans (Nat.mod_eq_of_lt hr)
  · exact (rd_txResult (hx _ (by simp)) r e).trans (he x)

theorem peer_of_tabs {d e : Dev} {i : Nat} {y : Option Peer} (h : d.pp.tab = (e.setPeer i y).pp.tab) : d.peer i = y :=
  (peer_of_tab h i).trans (peer_setPeer i y e)

end

/-- R287: a request after a NACK of a peer for a SEQ. -/
def Dev.nacked (i n : Nat) (d : Dev) (x : TxReq) : TxReq :=
  if x.peer = i ∧ x.seq = n ∧ x.flying then { x with flying := false, nackAt := d.time.nbRun } else x

/-- Settles O33. -/
theorem requestsAreSent : Obligations.RequestsAreSent := by
  unfold Obligations.RequestsAreSent
  refine ⟨fun s i q hs hf => ?_, fun s i q hs hf hb h1 h2 h => ?_, fun s i q x hs hf hb hx hi hp hr ht h1 h2 hsel => ?_,
    fun s i q x hs hf hb hx hi hp hr hst hl hgr hres hfree hcells hsel => ?_, fun s i q x hs hf hb hx hi hp hr hst hl hgr => ?_,
    fun s i q x hs hf hb hx hi hp hr hst hl hgr hres => ?_, fun s i x hs htx hp hfl => ?_, fun s i hs h => ?_, fun s m i hs hst hv hb ht hi => ?_,
    fun s m i hs hst hv hb ht hi => ?_, fun s i q x y hs htx hp hq hfl hy hex hn hport hgr hsel => ?_, fun s i q x y hs htx hp hq hfl hy hex hn => ?_,
    fun s i q hs h => ?_, fun s i q hs => ?_, fun s i q x hs hf hb hx hi hp hr ht h1 h2 hsel => ?_⟩
  · exact completes_txResult (p := s.dev) rfl hs (peerSend_malformed hf) (by decide) rfl (fun _ => rfl) fun t _ _ h h' => ⟨h, h'⟩
  · exact completes_txResult (p := s.dev) rfl hs (peerSend_unknown hf hb h1 h2 h) (by decide) rfl (fun _ => rfl) fun t _ _ h h' => ⟨h, h'⟩
  · have hg := peerSend_plain (q := q.toNat) hf hb h1 h2 hx hp hr ht
    rw [countSent_known hi hx, post_sends (by rw [setPeer_rd]; exact hsel)] at hg
    refine completes_txResult rfl hs hg (by decide) rfl (fun y => (emit_rd _ _ _).trans (setPeer_rd _ _ _ _)) fun t hpp hout h h' => ?_
    refine ⟨h, peer_of_tabs (e := s.dev) (by rw [hpp]; rfl), hout, ?_⟩
    rw [hpp, hout]
    exact h'
  · have hg := peerSend_request (q := q.toNat) hf hb hx hp hr hst hl
    rw [if_neg (Nat.not_le.mpr hgr), if_neg (by omega), if_neg (by omega), countSent_known hi hx, post_sends (by rw [setPeer_rd]; exact hsel)] at hg
    refine completes_txResult rfl hs hg (by decide) rfl (fun y => (updPP_rd _ _ _).trans ((emit_rd _ _ _).trans (setPeer_rd _ _ _ _))) fun t hpp hout h h' => ?_
    refine ⟨h, peer_of_tabs (e := s.dev) (by rw [hpp]; rfl), hout, by rw [hpp]; rfl, by rw [hpp]; rfl, ?_⟩
    rw [hpp, hout]
    exact h'
  · exact completes_txResult (p := s.dev) rfl hs ((peerSend_request hf hb hx hp hr hst hl).trans (if_pos hgr)) (by decide) rfl (fun _ => rfl)
      fun t _ _ h h' => ⟨h, h'⟩
  · exact completes_txResult (p := s.dev) rfl hs ((peerSend_request hf hb hx hp hr hst hl).trans ((if_neg (Nat.not_le.mpr hgr)).trans (if_pos hres)))
      (by decide) rfl (fun _ => rfl) fun t _ _ h h' => ⟨h, h'⟩
  · have hg : peerSendCancel i.toNat s.dev = giveUp [x] s.dev := by
      rw [peerSendCancel, htx, List.find?_cons_of_pos (by simp [hp, hfl])]
    refine completes_eq rfl hs hg ⟨?_, changes_bare ?_ fun z hz => rd_giveUp _ _ (hz _ (by simp))⟩
    · rw [rd_settle (by decide), count_giveUp]
      rfl
    · rw [bare_giveUp]
      have hw : s.dev.pp.without [x] = { s.dev.pp with tx := [], resv := s.dev.pp.resv.filter fun r => !(x.peer = r.peer && x.seq = r.seq) } := by
        rw [PeerS.without, htx]
        simp
      exact (congrArg (fun p => ({ s.dev.bare with pp := p } : Dev)) hw).trans rfl
  · refine completes_conflict rfl hs ?_ (by decide) (by decide)
    have hnone : s.dev.pp.tx.find? (fun x => x.peer = i.toNat && !x.flying) = none := by
      refine List.find?_eq_none.mpr fun x hx hq => ?_
      rw [Bool.and_eq_true, decide_eq_true_eq] at hq
      rw [h x hx hq.1] at hq
      exact absurd hq.2 (by decide)
    rw [peerSendCancel, hnone]
  · have hg : arrive ⟨m, false⟩ dlv s.dev = s.dev.updPP fun p =>
        { p with tx := p.tx.filter fun x => !(x.peer = i && x.seq = mBody (nats m) 0 2 && x.flying) } := by
      rw [arrive_clean, dlv, receive_takes hst hv hb (by rw [ht]; rfl), hi]
    refine completes_eq rfl hs hg (changes_bare ?_ fun x _ => updPP_rd _ _ _)
    generalize nats m = l
    rfl
  · have hg : arrive ⟨m, false⟩ nack s.dev = s.dev.updPP fun p => { p with tx := p.tx.map (s.dev.nacked i (mBody (nats m) 0 2)) } := by
      rw [arrive_clean, nack, receive_takes hst hv hb (by rw [ht]; rfl), hi]
      rfl
    refine completes_eq rfl hs hg (changes_bare ?_ fun x _ => updPP_rd _ _ _)
    generalize nats m = l
    rfl
  · have hfind : s.dev.pp.tx.find? (fun x => x.peer = i.toNat && x.seq = q.toNat && !x.flying) = some x := by
      rw [htx, List.find?_cons_of_pos (by simp [hp, hq, hfl])]
    have hslot : s.dev.flying i.toNat < y.grant := by
      rw [Dev.flying, htx, List.filter_cons_of_neg (by simp [hfl])]
      exact hgr
    have hg : peerResend i.toNat q.toNat s.dev = (s.dev.updPP fun p =>
        { p with tx := p.tx.map fun z => if z = x then { x with flying := true, resends := x.resends + 1 } else z }).emit (.peerMsg x.typ y.addr x.bytes) := by
      rw [peerResend, hfind, hy]
      dsimp only
      rw [if_neg (by rw [hex]; decide), if_neg (Nat.not_le.mpr hn), if_pos ⟨hport, hslot⟩, post_sends (by rw [updPP_rd]; exact hsel)]
    refine completes_eq rfl hs hg (changes_bare ?_ fun z _ => ?_)
    · rw [bare_emit, bare_updPP]
      have hmap : (s.dev.pp.tx.map fun z => if z = x then { x with flying := true, resends := x.resends + 1 } else z) =
          [{ x with flying := true, resends := x.resends + 1 }] := by rw [htx, List.map_singleton, if_pos rfl]
      exact (congrArg (fun l => ({ s.dev.bare with pp := { s.dev.pp with tx := l }, out := .peerMsg x.typ y.addr x.bytes :: s.dev.out } : Dev)) hmap).trans rfl
    · rw [emit_rd, updPP_rd]
  · have hfind : s.dev.pp.tx.find? (fun x => x.peer = i.toNat && x.seq = q.toNat && !x.flying) = some x := by
      rw [htx, List.find?_cons_of_pos (by simp [hp, hq, hfl])]
    have hg : peerResend i.toNat q.toNat s.dev = (giveUp [x] s.dev).raise .peer 4 central i.toNat := by
      rw [peerResend, hfind, hy]
      dsimp only
      rw [if_neg (by rw [hex]; decide), if_pos hn]
    refine completes_eq rfl hs hg ⟨?_, changes_bare ?_ fun z hz => ?_⟩
    · rw [rd_settle (by decide), Dev.raise_rd, count_giveUp]
      rfl
    · rw [bare_raise, bare_giveUp]
      have hw : s.dev.pp.without [x] = { s.dev.pp with tx := [], resv := s.dev.pp.resv.filter fun r => !(x.peer = r.peer && x.seq = r.seq) } := by
        rw [PeerS.without, htx]
        simp
      exact (congrArg (fun p => (({ s.dev.bare with pp := p } : Dev).raise .peer 4 central i.toNat)) hw).trans rfl
    · rw [Dev.raise_rd, rd_giveUp _ _ (hz _ (by simp))]
  · refine completes_unchanged rfl hs ?_
    have hnone : s.dev.pp.tx.find? (fun x => x.peer = i.toNat && x.seq = q.toNat && !x.flying) = none := by
      refine List.find?_eq_none.mpr fun x hx hq => ?_
      rw [Bool.and_eq_true, Bool.and_eq_true, decide_eq_true_eq, decide_eq_true_eq] at hq
      rw [h x hx hq.1.1 hq.1.2] at hq
      exact absurd hq.2 (by decide)
    rw [peerResend, hnone]
  · exact completes_eq (d := resvExpire i.toNat q.toNat s.dev) rfl hs rfl (changes_bare rfl fun x _ => updPP_rd _ _ _)
  · have hg := peerSend_plain (q := q.toNat) hf hb h1 h2 hx hp hr ht
    rw [countSent_known hi hx, post_holds (by rw [setPeer_rd]; exact hsel)] at hg
    refine completes_txResult rfl hs hg (by decide) rfl (fun y => (updPP_rd _ _ _).trans (setPeer_rd _ _ _ _)) fun t hpp _ h h' => ?_
    refine ⟨h, peer_of_tabs (e := s.dev) (by rw [hpp]; rfl), by rw [hpp]; rfl, ?_⟩
    rw [hpp]
    exact h'

end Sys2Proof.Machine
end

section
/-! O36: loans, the rack cap hand-over and the time cross-check (R191, R291 to R298). -/

namespace Sys2Proof.Machine

/-! A value of the rack's cap that is not urgent is a further value of the deferral that the tray's source runs (R191): the tray's
source notes it. -/

/-- A deferral of the tray's source with one window open. -/
def trayDeferral : CapDefer := { val := 150, wins := [(0, 0)], due := 5000, again := false }

/-- A CAP_SET of the value 200, passed by the signature engine. -/
def capPass : SigPass := { purpose := 1, key := 0, counter := 1, stamp := 0, value := 200, urgent := false, len := 0 }

/-- At reset, but for the deferral and the pass. -/
def trayDeferringState : State :=
  { State.reset with dev := (Dev.init.updBud fun b => { b with tray := { b.tray with defer := some trayDeferral } }).updPP fun p => { p with pass := some capPass } }

/-- Refutes O36: its clause of PP_RACK_CAP leaves the tray's source of the cap as it was, where R191 asks that a further value which
comes during the deferral of the other source be noted there (`CapSrc.heed`): at `trayDeferringState` the tray's deferral changes. -/
theorem not_loansAndTime : ¬ Obligations.LoansAndTime := by
  unfold Obligations.LoansAndTime
  rintro ⟨-, -, -, -, -, -, -, -, -, -, -, -, hcap, -⟩
  have hs : trayDeferringState.awake := by decide +kernel
  have hnew : trayDeferringState.dev.newCounter capPass.key capPass.counter = true := by decide +kernel
  have hfresh : trayDeferringState.dev.freshStamp capPass.stamp = true := by decide +kernel
  have hrange : trayDeferringState.dev.capRange (200 : BitVec 16).toNat = true := by decide +kernel
  obtain ⟨t, ht, -, -, -, -, -, hparts, -⟩ := hcap trayDeferringState 200 false capPass hs rfl rfl rfl rfl hnew hfresh hrange
  have htray : t.dev.bud.tray = trayDeferringState.dev.bud.tray := by
    rw [State.parts] at hparts
    rw [hparts]
  have hdefer : (ppRackCap (200 : BitVec 16).toNat false trayDeferringState.dev).bud.tray.defer = some { trayDeferral with again := true } := by decide +kernel
  rw [dev_of_next (c := .ppRackCap 200 false) rfl hs ht, settle_bud] at htray
  rw [htray] at hdefer
  have hbefore : trayDeferringState.dev.bud.tray.defer = some trayDeferral := by decide +kernel
  rw [hbefore] at hdefer
  exact absurd hdefer (by decide)

end Sys2Proof.Machine
end

section
/-! O34: the inbound ring and staging (R288 to R290). -/

namespace Sys2Proof.Machine

/-! Messages put in the ring (R288). -/

section
variable (pos : Nat) (m : List Nat) (skip : Bool) (d : Dev)

/-- R288: the bytes of a message put at a cell of the ring. -/
def Dev.ringBytes (pos : Nat) (m : List Nat) (d : Dev) : Dev := putBytes (d.ringBase + 64 * pos) m d

/-- R288: what the ring holds after a message put at a cell. -/
def Dev.ringHolds (pos : Nat) (m : List Nat) (skip : Bool) (d : Dev) : Dev :=
  (d.updPP fun p => { p with ring := p.ring ++ [⟨pos, divUp m.length 64, skip⟩] }).emit (.interrupt false)

theorem ringPut_eq : ringPut pos m skip d =
    Dev.ringHolds pos m skip ((d.ringBytes pos m).wr PP_RING_TAIL_TAIL ((pos + divUp m.length 64) % 4096)) := rfl

theorem ringHolds_rd (x : Fld) : (d.ringHolds pos m skip).rd x = d.rd x := rfl
theorem bare_ringHolds : (d.ringHolds pos m skip).bare = d.bare.ringHolds pos m skip := rfl

/-- The device with an SRAM. -/
def Dev.setSram (x : Tab Byte) (d : Dev) : Dev := { d with sram := x }

theorem ringBytes_eq : d.ringBytes pos m = d.setSram (d.ringBytes pos m).sram := putBytes_eq _ _ _

theorem setSram_rd (x : Tab Byte) (y : Fld) : (d.setSram x).rd y = d.rd y := rfl

theorem rd_ringBytes (x : Fld) : (d.ringBytes pos m).rd x = d.rd x := by rw [ringBytes_eq, setSram_rd]

theorem rd_ringPut {x : Fld} (h : x.apart PP_RING_TAIL_TAIL) : (ringPut pos m skip d).rd x = d.rd x := by
  rw [ringPut_eq, ringHolds_rd, rd_wr_apart _ h, rd_ringBytes]

theorem tail_ringPut : (ringPut pos m skip d).rd PP_RING_TAIL_TAIL = (pos + divUp m.length 64) % 4096 := by
  rw [ringPut_eq, ringHolds_rd]
  refine (rd_wr_eq _ (by decide)).trans (Nat.mod_eq_of_lt ?_)
  have hw : PP_RING_TAIL_TAIL.w = 12 := rfl
  rw [hw]
  omega

theorem sram_of_bare {d e : Dev} (h : d.bare = e.bare) : d.sram = e.sram := by
  change d.bare.sram = e.bare.sram
  rw [h]

theorem bare_setSram (x : Tab Byte) : (d.setSram x).bare = d.bare.setSram x := rfl

theorem bare_ringPut_bytes : (ringPut pos m skip d).bare = (d.bare.setSram (d.ringBytes pos m).sram).ringHolds pos m skip := by
  rw [ringPut_eq, bare_ringHolds, bare_wr, ringBytes_eq, bare_setSram]
  rfl

theorem sram_ringHolds_setSram (x : Tab Byte) : ((d.setSram x).ringHolds pos m skip).sram = x := rfl

theorem sram_ringPut : (ringPut pos m skip d).sram = (d.ringBytes pos m).sram :=
  (sram_of_bare (e := (d.setSram (d.ringBytes pos m).sram).ringHolds pos m skip) ((bare_ringPut_bytes pos m skip d).trans
    (by rw [bare_ringHolds, bare_setSram]))).trans (sram_ringHolds_setSram _ _ _ _ _)

/-- R288, R407: what a message put in the ring leaves beside the registers. -/
theorem bare_ringPut : (ringPut pos m skip d).bare = (d.bare.setSram (ringPut pos m skip d).sram).ringHolds pos m skip := by
  rw [sram_ringPut, bare_ringPut_bytes]

theorem byte_of_sram {d e : Dev} (h : d.sram = e.sram) (o : Nat) : d.byte o = e.byte o := by rw [Dev.byte, h, Dev.byte]

/-- R14, R288: the bytes of the SRAM after a message put in the ring. -/
theorem byte_ringPut (o : Nat) : (ringPut pos m skip d).byte o = if d.ringBase + 64 * pos ≤ o ∧ o < d.ringBase + 64 * pos + m.length
    then BitVec.ofNat 8 (m.getD (o - (d.ringBase + 64 * pos)) 0) else d.byte o := by
  rw [byte_of_sram (sram_ringPut pos m skip d), Dev.ringBytes]
  split
  next h =>
    obtain ⟨i, rfl⟩ := Nat.exists_eq_add_of_le h.1
    rw [byte_putBytes_in _ _ _ (by omega), Nat.add_sub_cancel_left]
  next h => exact byte_putBytes_out _ _ _ (by omega)

end

/-! Messages placed, and answered (R287, R288). -/

section
variable {d : Dev} {m : List Nat}

theorem ringPlace_fits (h : divUp m.length 64 + d.pp.resv.length ≤ d.ringFree) (h' : divUp m.length 64 ≤ 4096 - d.ringTail) :
    ringPlace m d = some (ringPut d.ringTail m false d) := if_pos ⟨h', h⟩

theorem ringPlace_full (h : d.ringFree < divUp m.length 64 + d.pp.resv.length) : ringPlace m d = none := by
  rw [ringPlace, if_neg (by omega), if_neg (by omega)]

/-- A message that the port takes is as long as its cells. -/
theorem cells_of_received (h : d.badMsg m = false) : divUp m.length 64 = mCells m := by
  have hform : formOk m = true := by
    rw [Dev.badMsg] at h
    simp only [Bool.or_eq_false_iff, Bool.not_eq_false'] at h
    exact h.1.1.1.1.1
  have hlen : m.length = 64 * mCells m := by
    rw [formOk] at hform
    split at hform
    · simp only [Bool.and_eq_true, decide_eq_true_eq] at hform
      exact hform.1.1.1.1
    · cases hform
  rw [hlen, divUp]
  omega

/-- The device that has let something out. -/
def Dev.setOut (l : List Out) (d : Dev) : Dev := { d with out := l }

theorem setOut_rd (l : List Out) (d : Dev) (x : Fld) : (d.setOut l).rd x = d.rd x := rfl

/-- A port cell sent, if any, goes out. -/
theorem sendCell_sends {d : Dev} (h : d.rd CK_STATUS_SEL ≠ 5) (t a n q r : Nat) : sendCell t a n q r d = d.setOut (sendCell t a n q r d).out := by
  rw [sendCell]
  split
  · rw [post_sends h]
    rfl
  · rfl

/-- R309: a port cell sent in WAIT is held. -/
theorem sendCell_holds {d : Dev} (h : d.rd CK_STATUS_SEL = 5) (hp : d.portUp = true) (t a n q r : Nat) :
    ∃ o, sendCell t a n q r d = d.updPP fun p => { p with hold := p.hold ++ [o] } := by
  rw [sendCell, if_pos hp]
  exact ⟨_, post_holds h⟩

theorem portUp_of_rd {d e : Dev} (h1 : d.rd PP_STATUS_SELF_VALID = e.rd PP_STATUS_SELF_VALID) (h2 : d.selStop = e.selStop) : d.portUp = e.portUp := by
  rw [Dev.portUp, Dev.selfValid, Dev.rdB, h1, h2, Dev.portUp, Dev.selfValid, Dev.rdB]

end

/-! A request that fits (R284, R288). -/

section
variable {d : Dev} {m : List Nat}

/-- A request that the port takes. -/
theorem ringArrive_takes (hst : d.selStop = false) (hv : d.selfValid = true) (hb : d.badMsg m = false) (hr : isRequest (mType m) = true) :
    ringArrive m d = if (d.peerIx (mSrc m)).isNone ∨ d.rd PP_CFG0_GRANT_OFFER ≤ (d.pp.staged.filter (·.src = mSrc m)).length then
      answerNack m 3 (d.inc PP_DROP_X_GRANT)
    else match ringPlace m d with
      | some d => answerDlv m (countRcvd (mSrc m) d)
      | none =>
        if d.stagedCells + mCells m ≤ 64 then d.updPP fun p => { p with staged := p.staged ++ [{ src := mSrc m, seq := mSeq m, bytes := m, at_ := d.time.nbRun }] }
        else answerNack m 2 (d.inc PP_DROP_X_FULL) := receive_takes hst hv hb hr

theorem offered (hi : (d.peerIx (mSrc m)).isSome = true) (ho : (d.pp.staged.filter (·.src = mSrc m)).length < d.rd PP_CFG0_GRANT_OFFER) :
    ¬ ((d.peerIx (mSrc m)).isNone = true ∨ d.rd PP_CFG0_GRANT_OFFER ≤ (d.pp.staged.filter (·.src = mSrc m)).length) := by
  intro h
  rcases h with h | h
  · rw [Option.isNone_iff_eq_none] at h
    rw [h] at hi
    cases hi
  · omega

/-- R288, R299: the device that has a message in its ring, counted at its sender. -/
def landed (src : Nat) (m : List Nat) (d : Dev) : Dev := countRcvd src (ringPut d.ringTail m false d)

theorem rd_landed {x : Fld} (h : x.apart PP_RING_TAIL_TAIL) (src : Nat) : (landed src m d).rd x = d.rd x := by
  rw [landed, countRcvd_eq, setTab_rd, rd_ringPut _ _ _ _ h]

theorem tail_landed (src : Nat) : (landed src m d).rd PP_RING_TAIL_TAIL = (d.ringTail + divUp m.length 64) % 4096 := by
  rw [landed, countRcvd_eq, setTab_rd, tail_ringPut]

theorem sram_setTab (x : Tab (Option Peer)) (d : Dev) : (d.setTab x).sram = d.sram := rfl

theorem byte_landed (src o : Nat) : (landed src m d).byte o = if d.ringBase + 64 * d.ringTail ≤ o ∧ o < d.ringBase + 64 * d.ringTail + m.length
    then BitVec.ofNat 8 (m.getD (o - (d.ringBase + 64 * d.ringTail)) 0) else d.byte o := by
  rw [landed, countRcvd_eq, byte_of_sram (sram_setTab _ _), byte_ringPut]

/-- R288, R299: what a message that lands leaves beside the registers. -/
theorem bare_landed (src : Nat) : (landed src m d).bare =
    ((d.bare.setSram (landed src m d).sram).ringHolds d.ringTail m false).setTab (landed src m d).pp.tab := by
  rw [landed, countRcvd_eq, bare_setTab, bare_ringPut]
  rfl

theorem pp_landed (src : Nat) : (landed src m d).pp =
    { d.pp with ring := d.pp.ring ++ [⟨d.ringTail, divUp m.length 64, false⟩], tab := (landed src m d).pp.tab } := by
  change (landed src m d).bare.pp = _
  rw [bare_landed]
  rfl

/-- The parts that a message in the ring moves, taken from the device that has it. -/
theorem landed_parts (l : List RingMsg) {e d : Dev} {x : Tab Byte} {y : Tab (Option Peer)} {n : Nat}
    (h : e.bare = ((d.bare.setSram x).ringHolds n m false).setTab y) (hl : l = d.pp.ring ++ [⟨n, divUp m.length 64, false⟩]) (o : List Out) :
    (e.setOut o).bare = Dev.bare { d with pp := { d.pp with ring := l, tab := e.pp.tab }, sram := e.sram, out := o } := by
  have hpp : e.pp.tab = y := by
    change e.bare.pp.tab = y
    rw [h]
    rfl
  have hsram : e.sram = x := by
    change e.bare.sram = x
    rw [h]
    rfl
  have hb : (e.setOut o).bare = e.bare.setOut o := rfl
  rw [hb, h, hpp, hsram, hl]
  rfl

end

/-! Messages refused (R284, R287, R289). -/

theorem bare_setOut (l : List Out) (d : Dev) : (d.setOut l).bare = d.bare.setOut l := rfl

theorem out_settle_setOut (l : List Out) (d : Dev) : (settle (d.setOut l)).out = l := settle_out _

/-- A message dropped, counted at a 16-bit counter, and answered. -/
theorem completes_dropped {c : Instr} {s : State} {h : Dev → Dev} {fl : Fld} {e p : Dev} {l : List Out} (hc : exec c s = done h s) (hs : s.awake)
    (hg : h s.dev = (e.inc fl).setOut l) (hfl : fl.w = 16 ∧ fl.fits) (ha : fl.apart PM_STATUS_ALERT) (hb : (e.setOut l).bare = p.bare)
    (he : ∀ x, e.rd x = s.dev.rd x) : Completes c s fun t => t.dev.rd fl = satN 0xFFFF (s.dev.rd fl + 1) ∧ t.dev.out = l ∧ s.changes t p [fl] := by
  obtain ⟨hw, hf⟩ := hfl
  refine completes_eq hc hs hg ⟨?_, out_settle_setOut _ _, changes_bare ?_ fun x hx => ?_⟩
  · rw [rd_settle ha, setOut_rd, rd_inc_eq hf, hw]
    exact congrArg (fun n => satN 0xFFFF (n + 1)) (he fl)
  · rw [bare_setOut, bare_inc, ← bare_setOut, hb]
  · rw [setOut_rd, rd_inc_apart (hx _ (by simp)), he]

/-- The device whose staged messages are l. -/
def Dev.setStaged (l : List Staged) (d : Dev) : Dev := d.updPP fun p => { p with staged := l }

theorem setStaged_rd (l : List Staged) (d : Dev) (x : Fld) : (d.setStaged l).rd x = d.rd x := rfl
theorem setStaged_self (d : Dev) : d.setStaged d.pp.staged = d := rfl

/-- R289: a staged message has waited too long. -/
def Dev.overdue (d : Dev) (x : Staged) : Bool := d.expired x.at_ (orDef (d.rd PP_CFG1_STAGE_LIMIT) 1)

theorem stageExpire_eq (d : Dev) : stageExpire d = forL (d.pp.staged.filter d.overdue) (fun x d => answerNack x.bytes 1 (d.inc PP_DROP_STAGED))
    (d.setStaged (d.pp.staged.filter fun x => !d.overdue x)) := rfl

theorem forL_one {α : Type} (g : α → Dev → Dev) (a : α) (d : Dev) : forL [a] g d = g a d := rfl

theorem ring_hold {d e : Dev} {o : Out} {x : Tab Byte} {y : Tab (Option Peer)} {n k : Nat}
    (h : e.bare = ((d.bare.setSram x).ringHolds n m false).setTab y) (hk : divUp m.length 64 = k) :
    (e.updPP fun p => { p with hold := p.hold ++ [o] }).bare = Dev.bare { d with
      pp := { d.pp with ring := (e.updPP fun p => { p with hold := p.hold ++ [o] }).pp.ring, tab := (e.updPP fun p => { p with hold := p.hold ++ [o] }).pp.tab
                        hold := (e.updPP fun p => { p with hold := p.hold ++ [o] }).pp.hold }
      sram := (e.updPP fun p => { p with hold := p.hold ++ [o] }).sram, out := (e.updPP fun p => { p with hold := p.hold ++ [o] }).out } ∧
    e.pp.ring = d.pp.ring ++ [⟨n, k, false⟩] ∧ e.pp.hold = d.pp.hold := by
  have he : (e.updPP fun p => { p with hold := p.hold ++ [o] }).bare = e.bare.updPP fun p => { p with hold := p.hold ++ [o] } := rfl
  have hpp : e.pp = (((d.setSram x).ringHolds n m false).setTab y).pp := by
    change e.bare.pp = _
    rw [h]
    rfl
  have hsram : e.sram = x := by
    change e.bare.sram = x
    rw [h]
    rfl
  have hout : e.out = ((d.setSram x).ringHolds n m false).out := by
    change e.bare.out = _
    rw [h]
    rfl
  refine ⟨?_, ?_, ?_⟩
  · rw [he, h]
    change _ = Dev.bare { d with pp := { d.pp with ring := e.pp.ring, tab := e.pp.tab, hold := e.pp.hold ++ [o] }, sram := e.sram, out := e.out }
    rw [hpp, hsram, hout]
    rfl
  · rw [hpp, ← hk]
    rfl
  · rw [hpp]
    rfl

/-- Settles O34. -/
theorem ringAndStaging : Obligations.RingAndStaging := by
  unfold Obligations.RingAndStaging
  refine ⟨fun s m hs hst hv hb hr hi ho hfree htail hsel => ?_, fun s m hs hst hv hb hr hi ho hfull hroom => ?_,
    fun s m hs hst hv hb hr hi ho hfull hroom hsel => ?_, fun s m hs hst hv hb hr ho hsel => ?_, fun s x l hs hl hfree htail hsel => ?_,
    fun s hs hl => ?_, fun s x hs hl hex hsel => ?_, fun s hs hex => ?_, fun s v k hs hk => ?_, fun s v hs hk => ?_,
    fun s m hs hst hv hb hr hi ho hsel hfree htail => ?_⟩
  · have hcells := cells_of_received hb
    have hg : arrive ⟨m, false⟩ ringArrive s.dev = answerDlv (nats m) (landed (mSrc (nats m)) (nats m) s.dev) := by
      rw [arrive_clean, ringArrive_takes hst hv hb hr, if_neg (offered hi ho), ringPlace_fits (by rw [hcells]; exact hfree) (by rw [hcells]; exact htail)]
      rfl
    have hsel' : (landed (mSrc (nats m)) (nats m) s.dev).rd CK_STATUS_SEL ≠ 5 := by rw [rd_landed (by decide)]; exact hsel
    rw [answerDlv, sendCell_sends hsel'] at hg
    generalize (sendCell 62 _ 0 _ 0 _).out = o at hg
    have hbare := bare_landed (d := s.dev) (m := nats m) (mSrc (nats m))
    have hpp := pp_landed (d := s.dev) (m := nats m) (mSrc (nats m))
    refine completes_eq rfl hs hg ⟨?_, ?_, fun a => ?_, changes_bare ?_ fun y hy => ?_⟩
    · rw [rd_settle (by decide), setOut_rd, tail_landed, hcells]
    · rw [settle_pp]
      change (landed (mSrc (nats m)) (nats m) s.dev).pp.ring = _
      rw [hpp, hcells]
    · rw [byte_of_sram (settle_sram _)]
      exact byte_landed _ _
    · rw [settle_pp, settle_sram, out_settle_setOut]
      refine landed_parts _ hbare ?_ o
      change (landed (mSrc (nats m)) (nats m) s.dev).pp.ring = _
      rw [hpp]
    · rw [setOut_rd, rd_landed (hy _ (by simp))]
  · have hcells := cells_of_received hb
    have hg : arrive ⟨m, false⟩ ringArrive s.dev = s.dev.updPP fun p =>
        { p with staged := p.staged ++ [⟨mSrc (nats m), mSeq (nats m), nats m, s.dev.time.nbRun⟩] } := by
      rw [arrive_clean, ringArrive_takes hst hv hb hr, if_neg (offered hi ho), ringPlace_full (by rw [hcells]; exact hfull)]
      exact if_pos hroom
    refine completes_eq rfl hs hg (changes_bare ?_ fun y _ => updPP_rd _ _ _)
    generalize nats m = l
    rfl
  · have hcells := cells_of_received hb
    have hg : arrive ⟨m, false⟩ ringArrive s.dev = answerNack (nats m) 2 (s.dev.inc PP_DROP_X_FULL) := by
      rw [arrive_clean, ringArrive_takes hst hv hb hr, if_neg (offered hi ho), ringPlace_full (by rw [hcells]; exact hfull)]
      exact if_neg (Nat.not_le.mpr hroom)
    rw [answerNack, sendCell_sends (by rw [rd_inc_apart (by decide)]; exact hsel)] at hg
    generalize (sendCell 63 _ 0 _ 2 _).out = o at hg
    refine (completes_dropped (p := s.dev.setOut o) rfl hs hg (by decide) (by decide) rfl fun _ => rfl).mono fun t ht => ?_
    obtain ⟨h1, h2, h3⟩ := ht
    exact ⟨h1, by rw [h2]; exact h3⟩
  · have hg : arrive ⟨m, false⟩ ringArrive s.dev = answerNack (nats m) 3 (s.dev.inc PP_DROP_X_GRANT) := by
      rw [arrive_clean, ringArrive_takes hst hv hb hr]
      exact if_pos (.inr ho)
    rw [answerNack, sendCell_sends (by rw [rd_inc_apart (by decide)]; exact hsel)] at hg
    generalize (sendCell 63 _ 0 _ 3 _).out = o at hg
    refine (completes_dropped (p := s.dev.setOut o) rfl hs hg (by decide) (by decide) rfl fun _ => rfl).mono fun t ht => ?_
    obtain ⟨h1, h2, h3⟩ := ht
    exact ⟨h1, by rw [h2]; exact h3⟩
  · have hg : stagingPlace s.dev = answerDlv x.bytes (countRcvd x.src ((ringPut s.dev.ringTail x.bytes false s.dev).updPP fun p => { p with staged := l })) := by
      rw [stagingPlace, hl]
      dsimp only
      rw [ringPlace_fits hfree htail]
    have hrd (y : Fld) (hy : y.apart PP_RING_TAIL_TAIL) :
        (countRcvd x.src ((ringPut s.dev.ringTail x.bytes false s.dev).updPP fun p => { p with staged := l })).rd y = s.dev.rd y := by
      rw [countRcvd_eq, setTab_rd, updPP_rd, rd_ringPut _ _ _ _ hy]
    rw [answerDlv, sendCell_sends (by rw [hrd _ (by decide)]; exact hsel)] at hg
    generalize (sendCell 62 _ 0 _ 0 _).out = o at hg
    rw [countRcvd_eq] at hg
    generalize (countRcvd _ _).pp.tab = y at hg
    have hbare : (((((ringPut s.dev.ringTail x.bytes false s.dev).updPP fun p => { p with staged := l }).setTab y).setOut o)).bare =
        ((((s.dev.bare.setSram (ringPut s.dev.ringTail x.bytes false s.dev).sram).ringHolds s.dev.ringTail x.bytes false).updPP fun p =>
          { p with staged := l }).setTab y).setOut o := by
      rw [bare_setOut, bare_setTab, bare_updPP, bare_ringPut]
    refine completes_eq rfl hs hg ⟨?_, changes_bare ?_ fun z hz => ?_⟩
    · rw [rd_settle (by decide), setOut_rd, setTab_rd, updPP_rd, tail_ringPut]
    · rw [settle_sram, settle_pp, out_settle_setOut, hbare]
      rfl
    · rw [setOut_rd, setTab_rd, updPP_rd, rd_ringPut _ _ _ _ (hz _ (by simp))]
  · refine completes_unchanged rfl hs ?_
    rw [stagingPlace, hl]
  · have hover : s.dev.overdue x = true := hex
    have hold : s.dev.pp.staged.filter s.dev.overdue = [x] := by
      rw [hl]
      simp [hover]
    have hnew : s.dev.pp.staged.filter (fun x => !s.dev.overdue x) = [] := by
      rw [hl]
      simp [hover]
    have hg : stageExpire s.dev = answerNack x.bytes 1 ((s.dev.setStaged []).inc PP_DROP_STAGED) := by rw [stageExpire_eq, hold, hnew, forL_one]
    rw [answerNack, sendCell_sends (by rw [rd_inc_apart (by decide), setStaged_rd]; exact hsel)] at hg
    generalize (sendCell 63 _ 0 _ 1 _).out = o at hg
    refine (completes_dropped (p := (s.dev.setStaged []).setOut o) rfl hs hg (by decide) (by decide) rfl fun y => setStaged_rd _ _ _).mono fun t ht => ?_
    obtain ⟨h1, h2, h3⟩ := ht
    exact ⟨h1, by rw [h2]; exact h3⟩
  · have hold : s.dev.pp.staged.filter s.dev.overdue = [] :=
      List.filter_eq_nil_iff.mpr fun x hx => by rw [Dev.overdue, hex x hx]; decide
    have hnew : s.dev.pp.staged.filter (fun x => !s.dev.overdue x) = s.dev.pp.staged :=
      List.filter_eq_self.mpr fun x hx => by rw [Dev.overdue, hex x hx]; rfl
    refine completes_unchanged rfl hs ?_
    rw [stageExpire_eq, hold, hnew, setStaged_self]
    rfl
  · have hg : ringHeadWrite v.toNat s.dev = (s.dev.wr PP_RING_HEAD_HEAD v.toNat).updPP fun p => { p with ring := p.ring.drop k } := by
      rw [ringHeadWrite, hk]
    refine completes_eq rfl hs hg ⟨?_, changes_bare ?_ fun x hx => ?_⟩
    · rw [rd_settle (by decide), updPP_rd]
      exact (rd_wr_eq _ (by decide)).trans (Nat.mod_eq_of_lt v.isLt)
    · rw [bare_updPP, bare_wr]
      rfl
    · rw [updPP_rd, rd_wr_apart _ (hx _ (by simp))]
  · refine completes_conflict rfl hs ?_ (by decide) (by decide)
    rw [ringHeadWrite, hk]
  · have hcells := cells_of_received hb
    have hg : arrive ⟨m, false⟩ ringArrive s.dev = answerDlv (nats m) (landed (mSrc (nats m)) (nats m) s.dev) := by
      rw [arrive_clean, ringArrive_takes hst hv hb hr, if_neg (offered hi ho), ringPlace_fits (by rw [hcells]; exact hfree) (by rw [hcells]; exact htail)]
      rfl
    have hsel' : (landed (mSrc (nats m)) (nats m) s.dev).rd CK_STATUS_SEL = 5 := by rw [rd_landed (by decide)]; exact hsel
    have hport : (landed (mSrc (nats m)) (nats m) s.dev).portUp = true := by
      have hstop : (landed (mSrc (nats m)) (nats m) s.dev).selStop = s.dev.selStop := by
        rw [Dev.selStop, Dev.selState, rd_landed (by decide), Dev.selStop, Dev.selState]
      rw [portUp_of_rd (rd_landed (by decide) _) hstop, Dev.portUp, hv, hst]
      rfl
    obtain ⟨o, hhold⟩ := sendCell_holds hsel' hport 62 (mSrc (nats m)) 0 (mSeq (nats m)) 0
    rw [answerDlv, hhold] at hg
    have hbare := bare_landed (d := s.dev) (m := nats m) (mSrc (nats m))
    obtain ⟨hparts, hring, hlen⟩ := ring_hold (o := o) hbare hcells
    refine completes_eq rfl hs hg ⟨?_, ?_, ?_, fun a => ?_, changes_bare ?_ fun y hy => ?_⟩
    · rw [rd_settle (by decide), updPP_rd, tail_landed, hcells]
    · rw [settle_pp]
      exact hring
    · rw [settle_pp, pp_updPP, List.length_append, hlen]
      rfl
    · rw [byte_of_sram (settle_sram _)]
      exact byte_landed _ _
    · rw [settle_pp, settle_sram, settle_out]
      exact hparts
    · rw [updPP_rd, rd_landed (hy _ (by simp))]

end Sys2Proof.Machine
end

section
/-! O30: host notices and records that lapse (R219, R220, R235, R237, R242, R243). -/

namespace Sys2Proof.Machine

/-! A record given up in WAIT poisons its entry, which owes its destinations an UNPICK (R210, R222): the port holds the notice
until boundaries resume (R309). -/

/-- A peer of the table that is present. -/
def presentPeer : Peer :=
  { addr := 7, st := .present, kind := 0, grant := 0, incarn := 0, lastHb := 0, silent := 0, idle := 0, hbNow := false, sent := 0, rcvd := 0 }

/-- An entry BASTED with one destination. -/
def bastedEntry : Entry := { Dev.init.newEntry 1 1 0 0 with st := .basted, ended := true, dests := [⟨0, 0, none⟩] }

/-- A record of entry 0, handed off at the first boundary and without a verdict. -/
def handedRecord : RRec :=
  { entry := 0, phase := .queued, audit := false, orig := ⟨0, [], 0⟩, rep := none, tie := none, run := none
    marked := [], full := false, rWrong := [], oWrong := [], verdict := .none, dR := 0, dT := 0, reqPick := 0, handPick := 0
    runs := 0, job := 1, seq := 1, foot := 0, handAt := some 0, pR := [], pT := [], kR := 0, kT := 0
    judged := none, winP := [], jPos := [], repAt := none }

/-- At reset, but in WAIT, with the port up, one peer, one entry BASTED towards it, and its record due to be given up. -/
def handedInWaitState : State :=
  { State.reset with dev :=
    (((((Dev.init.setPeer 0 (some presentPeer)).setEnt 0 (some bastedEntry)).setRecd 0 (some handedRecord)).updTime fun x =>
      { x with nbRun := 2 ^ 40 }).wrB PP_STATUS_SELF_VALID true).wr CK_STATUS_SEL 5 }

/-- Refutes O30: its clause of VERDICT_GIVEUP lets nothing of the peer port but its table change, and does not ask that the PLL be
out of WAIT: at `handedInWaitState` the UNPICK that the POISONED entry owes is held by the port (R309). -/
theorem not_noticesAndLapses : ¬ Obligations.NoticesAndLapses := by
  unfold Obligations.NoticesAndLapses
  rintro ⟨-, -, -, -, -, -, -, -, -, hgiveup, -⟩
  have hs : handedInWaitState.awake := by decide +kernel
  have hrec : handedInWaitState.dev.recd (0 : BitVec 10).toNat = some handedRecord := by decide +kernel
  have hdue : handedInWaitState.dev.passed 0 (1000 * orDef (handedInWaitState.dev.rd LG_RP_CFG0_GIVEUP) 1) = true := by decide +kernel
  have hent : handedInWaitState.dev.ent handedRecord.entry = some bastedEntry := by decide +kernel
  have hrun : handedInWaitState.dev.stopped = false := by decide +kernel
  obtain ⟨t, ht, -, -, -, hparts⟩ := hgiveup handedInWaitState 0 handedRecord 0 bastedEntry hs hrun hrec rfl rfl hdue rfl hent rfl
  have hhold : t.dev.pp.hold = handedInWaitState.dev.pp.hold := by
    rw [State.parts] at hparts
    rw [hparts]
  have hheld : (verdictGiveup (0 : BitVec 10).toNat handedInWaitState.dev).pp.hold.length = 1 := by decide +kernel
  rw [dev_of_next (c := .verdictGiveup 0) rfl hs ht, settle_pp] at hhold
  rw [hhold] at hheld
  exact absurd hheld (by decide +kernel)

end Sys2Proof.Machine
end

section
/-! The layer of the ledger's entries and notices (R209 to R226), and O35: notices between ledgers (R188, R194, R222 to R225, R286). -/

namespace Sys2Proof.Machine

/-! The parts that the ledger's notices move: its entries, the list of those that changed, and what goes out. -/

section
variable {d e : Dev} {i : Nat}

/-- The device whose ledger holds the entries x, of which c changed at this boundary, and that has let o out. -/
def Dev.setLedger (x : Tab (Option Entry)) (c : List Nat) (o : List Out) (d : Dev) : Dev :=
  { d with led := { d.led with ents := x, changed := c }, out := o }

/-- The device without its entries, and without what goes out. -/
def Dev.sansLedger (d : Dev) : Dev := d.setLedger [] [] []

theorem eq_of_sansLedger (h : e.sansLedger = d.sansLedger) : e = d.setLedger e.led.ents e.led.changed e.out :=
  calc e = e.sansLedger.setLedger e.led.ents e.led.changed e.out := rfl
    _ = d.sansLedger.setLedger e.led.ents e.led.changed e.out := by rw [h]
    _ = d.setLedger e.led.ents e.led.changed e.out := rfl

theorem setLedger_rd (x : Tab (Option Entry)) (c : List Nat) (o : List Out) (y : Fld) : (d.setLedger x c o).rd y = d.rd y := rfl
theorem bare_setLedger (x : Tab (Option Entry)) (c : List Nat) (o : List Out) : (d.setLedger x c o).bare = d.bare.setLedger x c o := rfl
theorem ent_setLedger (x : Tab (Option Entry)) (c : List Nat) (o : List Out) : (d.setLedger x c o).ent i = tget none x i := rfl

theorem sansLedger_setEnt (x : Option Entry) : (d.setEnt i x).sansLedger = d.sansLedger := rfl
theorem sansLedger_emit (o : Out) : (d.emit o).sansLedger = d.sansLedger := rfl
theorem sansLedger_changed (c : List Nat) : (d.updLed fun l => { l with changed := l.changed ++ c }).sansLedger = d.sansLedger := rfl

theorem rd_of_sansLedger (h : e.sansLedger = d.sansLedger) (x : Fld) : e.rd x = d.rd x := by
  rw [eq_of_sansLedger h, setLedger_rd]

theorem ent_of_ents (h : d.led.ents = e.led.ents) (i : Nat) : d.ent i = e.ent i := by rw [Dev.ent, h, Dev.ent]

/-! One entry. -/

theorem updEnt_of {x : Entry} (g : Entry → Entry) (h : d.ent i = some x) : updEnt i g d = d.setEnt i (some (g x)) := by rw [updEnt, h]

theorem ent_updEnt (g : Entry → Entry) : (updEnt i g d).ent i = (d.ent i).map g := by
  cases h : d.ent i with
  | none => rw [updEnt, h, h, Option.map_none]
  | some x => rw [updEnt_of g h, ent_setEnt, Option.map_some]

theorem sansLedger_updEnt (g : Entry → Entry) : (updEnt i g d).sansLedger = d.sansLedger := by
  rw [updEnt]
  split
  · exact sansLedger_setEnt _
  · rfl

theorem sansLedger_onlyIf {b : Bool} {g : Dev → Dev} (h : (g d).sansLedger = d.sansLedger) : (onlyIf b g d).sansLedger = d.sansLedger := by
  unfold onlyIf
  split
  · exact h
  · rfl

theorem sansLedger_emits {α : Type} (l : List α) (o : α → Out) : (forL l (fun k d => d.emit (o k)) d).sansLedger = d.sansLedger :=
  forL_keep Dev.sansLedger l (fun k d => d.emit (o k)) (fun _ _ => rfl) d

theorem ent_emits {α : Type} (l : List α) (o : α → Out) (i : Nat) : (forL l (fun k d => d.emit (o k)) d).ent i = d.ent i :=
  forL_keep (fun d => d.ent i) l (fun k d => d.emit (o k)) (fun _ _ => rfl) d

/-! Host notices (R219). -/

/-- R219: the job notices of an entry, offered. -/
def offerJob (i : Nat) (x : Entry) (d : Dev) : Dev :=
  if x.notes ≠ [] ∧ d.takes (d.qhandle x.job) then
    (forL x.notes (fun k e => e.emit (.hostNotice (d.qhandle x.job) (noteWord0 k x.job x.seq x.gen x.cause) 0)) d).setEnt i
      (some { x with notes := [], reDone := x.reDone || x.notes.contains .reexec })
  else d

/-- R219: the WITHDRAWN notice of an entry, offered. -/
def offerWithdrawn (i : Nat) (x : Entry) (d : Dev) : Dev :=
  if x.wdraw ∧ d.takes (d.rd LG_HOSTQ_QHANDLE) then
    updEnt i (fun e => { e with wdraw := false })
      (d.emit (.hostNotice (d.rd LG_HOSTQ_QHANDLE) (noteWord0 .withdrawn x.job x.seq x.wgen x.cause) (withdrawnWord1 i x)))
  else d

theorem offerNotes_stopped (h : d.stopped = true) : offerNotes i d = d := by
  unfold offerNotes
  exact if_pos h

theorem offerNotes_none (h : d.ent i = none) : offerNotes i d = d := by
  unfold offerNotes
  rw [h]
  exact ite_self _

/-- The queue handle of a job stands while its notices go out. -/
theorem offerNotes_eq {x : Entry} (hs : d.stopped = false) (h : d.ent i = some x) : offerNotes i d = offerWithdrawn i x (offerJob i x d) := by
  have hn : ¬ d.stopped = true := by rw [hs]; decide
  unfold offerNotes
  rw [if_neg hn, h]
  rfl

/-- An entry that owes its host nothing is offered no notice. -/
theorem offerNotes_silent {x : Entry} (h : d.ent i = some x) (hn : x.notes = []) (hw : x.wdraw = false) : offerNotes i d = d := by
  cases hs : d.stopped with
  | true => exact offerNotes_stopped hs
  | false =>
    have hjob : offerJob i x d = d := if_neg fun h => h.1 hn
    rw [offerNotes_eq hs h, hjob, offerWithdrawn, hw]
    exact if_neg fun h => Bool.false_ne_true h.1

theorem sansLedger_offerJob (x : Entry) : (offerJob i x d).sansLedger = d.sansLedger := by
  rw [offerJob]
  split
  · rw [sansLedger_setEnt]
    exact sansLedger_emits x.notes _
  · rfl

theorem sansLedger_offerWithdrawn (x : Entry) : (offerWithdrawn i x d).sansLedger = d.sansLedger := by
  rw [offerWithdrawn]
  split
  · rw [sansLedger_updEnt, sansLedger_emit]
  · rfl

theorem sansLedger_offerNotes (i : Nat) (d : Dev) : (offerNotes i d).sansLedger = d.sansLedger := by
  cases hs : d.stopped with
  | true => rw [offerNotes_stopped hs]
  | false =>
    cases h : d.ent i with
    | none => rw [offerNotes_none h]
    | some x => rw [offerNotes_eq hs h, sansLedger_offerWithdrawn, sansLedger_offerJob]

/-- What is offered leaves all of the entry but what it owes its host. -/
theorem map_offerNotes {α : Type} {f : Entry → α} (hj : ∀ x n r, f { x with notes := n, reDone := r } = f x) (hw : ∀ x b, f { x with wdraw := b } = f x)
    (i : Nat) (d : Dev) : ((offerNotes i d).ent i).map f = (d.ent i).map f := by
  cases hs : d.stopped with
  | true => rw [offerNotes_stopped hs]
  | false =>
    cases h : d.ent i with
    | none => rw [offerNotes_none h, h]
    | some x =>
      have hjob : ((offerJob i x d).ent i).map f = some (f x) := by
        rw [offerJob]
        split
        · rw [ent_setEnt]
          exact congrArg some (hj x _ _)
        · rw [h]
          rfl
      rw [offerNotes_eq hs h, offerWithdrawn]
      refine Eq.trans ?_ hjob
      split
      · rw [ent_updEnt, Dev.emit_ent, Option.map_map]
        exact congrArg (Option.map · _) (funext fun y => hw y false)
      · rfl

theorem st_offerNotes (i : Nat) (d : Dev) : ((offerNotes i d).ent i).map (·.st) = (d.ent i).map (·.st) :=
  map_offerNotes (fun _ _ _ => rfl) (fun _ _ => rfl) i d

/-! What the ledger tells its peers (R222, R280): the notices move the peer table too. -/

/-- The device without its entries, without what goes out, and without the peer table. -/
def Dev.sansPost (d : Dev) : Dev := d.sansLedger.setTab []

theorem sansPost_of_sansLedger (h : e.sansLedger = d.sansLedger) : e.sansPost = d.sansPost := by rw [Dev.sansPost, h, Dev.sansPost]

theorem sansPost_setTab (x : Tab (Option Peer)) : (d.setTab x).sansPost = d.sansPost := rfl
theorem sansPost_emit (o : Out) : (d.emit o).sansPost = d.sansPost := rfl
theorem sansPost_countRcvd (a : Nat) : (countRcvd a d).sansPost = d.sansPost := by rw [countRcvd_eq, sansPost_setTab]
theorem sansPost_countSent (a : Nat) : (countSent a d).sansPost = d.sansPost := by rw [countSent_eq, sansPost_setTab]

theorem rd_of_sansPost (h : e.sansPost = d.sansPost) (x : Fld) : e.rd x = d.rd x := by
  change e.sansPost.rd x = d.sansPost.rd x
  rw [h]

/-- Outside WAIT a message leaves all but the table and what goes out. -/
theorem sansPost_sendMsg (h : d.rd CK_STATUS_SEL ≠ 5) (t a n : Nat) (b : List Nat) : (sendMsg t a n b d).sansPost = d.sansPost := by
  have hsel : (countSent a d).rd CK_STATUS_SEL ≠ 5 := by
    rw [countSent_eq, setTab_rd]
    exact h
  rw [sendMsg]
  split
  · rw [post_sends hsel, sansPost_emit, sansPost_countSent]
  · rfl

theorem bare_of_sansPost (h : e.sansPost = d.sansPost) : e.bare =
    Dev.bare { d with led := { d.led with ents := e.led.ents, changed := e.led.changed }, pp := { d.pp with tab := e.pp.tab }, out := e.out } :=
  calc e.bare = ((e.sansPost.setLedger e.led.ents e.led.changed e.out).setTab e.pp.tab).bare := rfl
    _ = ((d.sansPost.setLedger e.led.ents e.led.changed e.out).setTab e.pp.tab).bare := by rw [h]
    _ = _ := rfl

theorem ent_sendMsg (t a n : Nat) (b : List Nat) (i : Nat) : (sendMsg t a n b d).ent i = d.ent i := by
  have hcount : (countSent a d).ent i = d.ent i := by
    rw [countSent_eq]
    exact ent_of_ents rfl i
  rw [sendMsg]
  split
  · rw [post]
    split
    · exact hcount
    · exact hcount
  · rfl

theorem ent_countRcvd (a i : Nat) : (countRcvd a d).ent i = d.ent i := by
  rw [countRcvd_eq]
  exact ent_of_ents rfl i

/-- A message to an address outside the table has no count. -/
theorem sendMsg_unlisted {t a n : Nat} {b : List Nat} (hp : d.portUp = true) (hi : d.peerIx a = none) (h : d.rd CK_STATUS_SEL ≠ 5) :
    sendMsg t a n b d = d.emit (.peerMsg t a (d.message t a (d.nextSeq a) n b)) := by
  have hcount : countSent a d = d := by rw [countSent, hi]
  rw [sendMsg, if_pos hp, hcount]
  exact post_sends h

theorem countRcvd_unlisted {a : Nat} (hi : d.peerIx a = none) : countRcvd a d = d := by rw [countRcvd, hi]

/-- R222: an entry that owes no notice sends none. -/
theorem sendOwed_nothing {x : Entry} {due : Dest → Bool} {r : Bool} (h : d.ent i = some x) (ho : x.owes = none) : sendOwed i due r d = d := by
  rw [sendOwed, h]
  dsimp only
  rw [ho]
  exact ite_self _

theorem owes_open {x : Entry} (h : x.st = .open_) : x.owes = none := by
  rw [Entry.owes, h]
  exact ite_self _

/-! A proxy moves (R224). -/

theorem sansLedger_tellSewn (i : Nat) (x : Entry) (d : Dev) : (tellSewn i x d).sansLedger = d.sansLedger := rfl
theorem ent_tellSewn (i k : Nat) (x : Entry) (d : Dev) : (tellSewn i x d).ent k = d.ent k := rfl

theorem ent_onlyIf {b : Bool} {g : Dev → Dev} {k : Nat} (h : (g d).ent k = d.ent k) : (onlyIf b g d).ent k = d.ent k := by
  unfold onlyIf
  split
  · exact h
  · rfl

theorem ent_changed (c : List Nat) (k : Nat) : (d.updLed fun l => { l with changed := l.changed ++ c }).ent k = d.ent k := rfl

theorem sansLedger_moveProxy (i : Nat) (st : EState) (g : Nat) (c : Cause) (w : Option Nat) (d : Dev) : (moveProxy i st g c w d).sansLedger = d.sansLedger := by
  rw [moveProxy, sansLedger_offerNotes, sansLedger_changed]
  split
  · rw [sansLedger_onlyIf (sansLedger_tellSewn _ _ _), sansLedger_updEnt]
  · rw [sansLedger_updEnt]

theorem st_moveProxy {x : Entry} {st : EState} {g : Nat} {c : Cause} {w : Option Nat} (h : d.ent i = some x) :
    ((moveProxy i st g c w d).ent i).map (·.st) = some st := by
  rw [moveProxy, st_offerNotes, ent_changed]
  split
  · rw [ent_onlyIf (ent_tellSewn _ _ _ _), ent_updEnt, h]
    rfl
  · rw [ent_updEnt, h]
    rfl

end

section
variable {d : Dev} {t : OutTag} {i c : Nat} {e : Entry}

/-- R224: a SEW of the proxy of a BASTED producer, at its generation. -/
theorem actNotice_sew (hi : d.proxyIx t = some i) (he : d.ent i = some e) (hb : e.st = .basted) (hg : t.gen = e.gen) :
    actNotice t 1 c d = moveProxy i .sewn e.gen e.cause none d := by
  rw [actNotice, hi]
  dsimp only
  rw [he]
  dsimp only
  rw [if_neg (by omega), if_neg (by decide), if_pos rfl, if_pos ⟨hb, hg⟩]

/-- The entry that a tag names. -/
theorem not_another (hr : e.remote = false) (hj : e.job = t.job) (hq : e.seq % 2 ^ 32 = t.seq % 2 ^ 32) :
    ¬ (e.remote = true ∨ e.job ≠ t.job ∨ e.seq % 2 ^ 32 ≠ t.seq % 2 ^ 32) := by
  rw [hr]
  exact fun h => h.elim Bool.false_ne_true fun h => h.elim (· hj) (· hq)

/-- R222: a DEST-ACK of an UNPICK that is owed. -/
theorem destAck_unpicked {a p : Nat} (hp : d.peerIx a = some p) (he : d.ent t.index = some e) (hr : e.remote = false) (hj : e.job = t.job)
    (hq : e.seq % 2 ^ 32 = t.seq % 2 ^ 32) (ho : e.st = .unpicked ∨ e.st = .poisoned) (hg : e.wgen = t.gen) : destAck a t 2 d =
      d.setEnt t.index (some { e with dests := e.dests.map fun x => if x.peer = p then { x with dack := max x.dack 1 } else x }) := by
  have hown : ¬ (e.remote = true ∨ e.job ≠ t.job ∨ e.seq % 2 ^ 32 ≠ t.seq % 2 ^ 32) := not_another hr hj hq
  rw [destAck, he, hp]
  dsimp only
  rw [if_neg hown, if_pos ⟨rfl, ho, hg.symm⟩, updEnt_of _ he]

/-- R225: a QUERY of an entry that is free is answered FREED. -/
theorem ledgerQuery_freed (a : Nat) (he : d.ent t.index = none) :
    ledgerQuery a t d = sendMsg 0x10 a 0 (d.noticeBody (outTag t.index t.gen t.seq t.job) 1 0 0 true) d := by rw [ledgerQuery, he]

/-- R225: a QUERY of an entry that owes no notice records its sender. -/
theorem ledgerQuery_recorded {a p : Nat} (hp : d.peerIx a = some p) (he : d.ent t.index = some e) (hr : e.remote = false) (hj : e.job = t.job)
    (hq : e.seq % 2 ^ 32 = t.seq % 2 ^ 32) (ho : e.st = .open_) (hd : e.dests.any (·.peer = p) = false) (hl : e.dests.length < 16) :
    ledgerQuery a t d = d.setEnt t.index (some { e with dests := e.dests ++ [⟨p, 0, none⟩] }) := by
  have hown : ¬ (e.remote = true ∨ e.job ≠ t.job ∨ e.seq % 2 ^ 32 ≠ t.seq % 2 ^ 32) := not_another hr hj hq
  have hno : ¬ e.dests.any (·.peer = p) = true := by rw [hd]; decide
  rw [ledgerQuery, he]
  dsimp only
  rw [if_neg hown, hp]
  dsimp only
  rw [if_neg hno, if_pos hl, updEnt_of _ he]
  exact sendOwed_nothing (ent_setEnt _ _ _) (owes_open ho)

end

/-! LEDGER messages (R208, R228, R286). -/

/-- R208: the device at whose boundary the notices of ledgers, of class 5, are applied. -/
def Dev.atNotices (d : Dev) : Dev := d.updLed fun l => { l with cls := 5 }

theorem atNotices_rd (d : Dev) (x : Fld) : d.atNotices.rd x = d.rd x := rfl
theorem atNotices_message (d : Dev) (t a q n : Nat) (b : List Nat) : d.atNotices.message t a q n b = d.message t a q n b := rfl
theorem atNotices_noticeBody (d : Dev) (t k a c : Nat) (b : Bool) : d.atNotices.noticeBody t k a c b = d.noticeBody t k a c b := rfl
theorem atNotices_nextSeq (d : Dev) (a : Nat) : d.atNotices.nextSeq a = d.nextSeq a := rfl
theorem atNotices_ent (d : Dev) (i : Nat) : d.atNotices.ent i = d.ent i := rfl

section
variable {d : Dev} {m : List Nat} {ok : Nat → Nat → Bool}

theorem ledgerMsg_takes (hst : d.selStop = false) (hv : d.selfValid = true) (hb : d.badMsg m = false) (ht : mType m = 0x10) (hk : ok (mBody m 8 1) (mBody m 9 1) = true)
    (hs : d.stopped = false) (hc : d.led.cls ≤ 5) : ledgerMsg ok m d = countRcvd (mSrc m) (ledgerBody (mSrc m) m d.atNotices) := by
  have hno : ¬ (!ok (mBody m 8 1) (mBody m 9 1)) = true := by rw [hk]; decide
  have hnow : ¬ (d.stopped = true ∨ 5 < d.led.cls) := by
    rw [hs]
    exact fun h => h.elim Bool.false_ne_true (Nat.not_lt.mpr hc)
  rw [ledgerMsg, receive_takes hst hv hb (decide_eq_true ht), if_neg hno, if_neg hnow]
  rfl

theorem ledgerMsg_waits (hst : d.selStop = false) (hv : d.selfValid = true) (hb : d.badMsg m = false) (ht : mType m = 0x10) (hk : ok (mBody m 8 1) (mBody m 9 1) = true)
    (hs : d.stopped = true ∨ 5 < d.led.cls) : ledgerMsg ok m d =
      if d.pp.ledQ.length < 256 then countRcvd (mSrc m) (d.updPP fun p => { p with ledQ := p.ledQ ++ [(mSrc m, m)] }) else d.inc PP_DROP_Y_LEDGER := by
  have hno : ¬ (!ok (mBody m 8 1) (mBody m 9 1)) = true := by rw [hk]; decide
  rw [ledgerMsg, receive_takes hst hv hb (decide_eq_true ht), if_neg hno, if_pos hs]

end

/-! Barrier and slack notices (R188, R194, R286). -/

section
variable {d : Dev} {m : List Nat}

theorem barrierNotice_takes (hst : d.selStop = false) (hv : d.selfValid = true) (hb : d.badMsg m = false) (ht : mType m = 4) :
    barrierNotice m d = if !d.rdB TB_STATUS_RACK_FEAT then d
      else if (d.pp.grpsEff.any (·.1 = mBody m 0 2)) || d.armedGroups.contains (mBody m 0 2) then countRcvd (mSrc m) (barrierHear (mSrc m) (mBody m 0 2) d)
      else d.inc PP_DROP_Z_STATE := receive_takes hst hv hb (decide_eq_true ht)

theorem slackNotice_takes (hst : d.selStop = false) (hv : d.selfValid = true) (hb : d.badMsg m = false) (ht : mType m = 5) :
    slackNotice m d = if !d.rdB TB_STATUS_RACK_FEAT then d
      else if d.pp.grpsEff.any (·.1 = mBody m 0 2) || d.openWins.any (·.2.group = mBody m 0 2) then
        countRcvd (mSrc m) (slackHear (mSrc m) (mBody m 0 2) (mBody m 2 1) d)
      else d.inc PP_DROP_Z_STATE := receive_takes hst hv hb (decide_eq_true ht)

theorem barrierHear_listed {a g i : Nat} {b : BarGroup} (h : d.barList.find? (fun x => x.2.group = g) = some (i, b)) :
    barrierHear a g d = d.updBud fun s => { s with bars := tput none i (some { b with heard := (b.heard.filter (·.1 ≠ a)) ++ [(a, 0)] }) s.bars } := by
  rw [barrierHear, h]

theorem bud_countRcvd (a : Nat) : (countRcvd a d).bud = d.bud := by rw [countRcvd_eq]; rfl

/-- A notice heard moves a part of the budgets, and its sender's count. -/
theorem changes_heard {s : State} {a : Nat} {x : BudgetS} (h : d = { s.dev with bud := x }) :
    s.changes { s with dev := settle (countRcvd a d) } { s.dev with bud := x, pp := { s.dev.pp with tab := (settle (countRcvd a d)).pp.tab } } [] := by
  rw [settle_pp]
  refine changes_bare ?_ fun y _ => ?_
  · rw [countRcvd_eq, h]
    generalize (countRcvd a _).pp.tab = z
    rfl
  · rw [countRcvd_eq, setTab_rd, h]
    rfl

end

/-- What the ledger's notices change at a boundary, beside registers. -/
theorem changes_noticed {s : State} {e : Dev} (h : e.sansPost = s.dev.atNotices.sansPost) :
    s.changes { s with dev := settle e } { s.dev with
      led := { s.dev.led with cls := 5, ents := (settle e).led.ents, changed := (settle e).led.changed }
      pp := { s.dev.pp with tab := (settle e).pp.tab }, out := (settle e).out } [] := by
  rw [settle_led, settle_pp, settle_out]
  refine changes_bare ((bare_of_sansPost h).trans ?_) fun x _ => ?_
  · generalize e.led.ents = x, e.led.changed = y, e.pp.tab = z, e.out = o
    rfl
  · rw [rd_of_sansPost h, atNotices_rd]

/-- A message dropped and counted at a 16-bit counter. -/
theorem completes_counted {c : Instr} {s : State} {h : Dev → Dev} {fl : Fld} (hc : exec c s = done h s) (hs : s.awake) (hg : h s.dev = s.dev.inc fl)
    (hfl : fl.w = 16 ∧ fl.fits) (ha : fl.apart PM_STATUS_ALERT) :
    Completes c s fun t => t.dev.rd fl = satN 0xFFFF (s.dev.rd fl + 1) ∧ s.changes t s.dev [fl] := by
  obtain ⟨hw, hf⟩ := hfl
  refine completes_eq hc hs hg ⟨?_, changes_bare (bare_inc _ _) fun x hx => rd_inc_apart (hx _ (by simp))⟩
  exact (rd_settle ha).trans ((rd_inc_eq hf).trans (by simp [hw]))

/-- A message from a peer that writes one entry. -/
theorem completes_entered {c : Instr} {s : State} {h : Dev → Dev} {a k : Nat} {x : Option Entry} (hc : exec c s = done h s) (hs : s.awake)
    (hg : h s.dev = countRcvd a (s.dev.atNotices.setEnt k x)) : Completes c s fun t => t.dev.ent k = x ∧ s.changes t
      { s.dev with led := { s.dev.led with cls := 5, ents := t.dev.led.ents }, pp := { s.dev.pp with tab := t.dev.pp.tab } } [] := by
  refine completes_eq hc hs hg ⟨?_, ?_⟩
  · rw [ent_settle, ent_countRcvd, ent_setEnt]
  · rw [settle_led, settle_pp, countRcvd_eq]
    generalize (countRcvd _ _).pp.tab = y
    exact changes_bare rfl fun z _ => rfl

/-- Settles O35. -/
theorem noticesBetweenLedgers : Obligations.NoticesBetweenLedgers := by
  unfold Obligations.NoticesBetweenLedgers
  refine ⟨fun s m i p e hs hst hv hb ht hk hrun hcls hp hi he hbast hgen hck => ?_, fun s m hs hst hv hb ht hk hw hl => ?_, fun s m hs hst hv hb ht hk hw hl => ?_,
    fun s m p e hs hst hv hb ht hk ha hrun hcls hp he hr hj hq hout hgen => ?_, fun s m hs hst hv hb ht hk ha hrun hcls he hp hck => ?_,
    fun s m p e hs hst hv hb ht hk ha hrun hcls hp he hr hj hq ho hd hl => ?_, fun s m i b hs hst hv hb ht hrack hg hbar => ?_,
    fun s m hs hst hv hb ht hrack hg ha => ?_, fun s m hs hst hv hb ht hrack => ?_, fun s m i w hs hst hv hb ht hrack hw => ?_,
    fun s m hs hst hv hb ht hrack hg ha => ?_⟩
  · have hmove : actNotice (mTag (nats m)) 1 (mBody (nats m) 10 1) s.dev.atNotices = moveProxy i .sewn e.gen e.cause none s.dev.atNotices :=
      actNotice_sew hi he hbast hgen.symm
    have hg : arrive ⟨m, false⟩ (ledgerMsg fun k _ => k ≠ 4) s.dev =
        countRcvd (mSrc (nats m)) (ledgerNotice (mTag (nats m)) 1 (mBody (nats m) 10 1) s.dev.atNotices) := by
      rw [arrive_clean, ledgerMsg_takes hst hv hb ht (by rw [hk]; rfl) hrun hcls, ledgerBody, hk]
      rfl
    rw [ledgerNotice, hmove] at hg
    have hmoved : (moveProxy i .sewn e.gen e.cause none s.dev.atNotices).sansLedger = s.dev.atNotices.sansLedger := sansLedger_moveProxy _ _ _ _ _ _
    have hsel : (moveProxy i .sewn e.gen e.cause none s.dev.atNotices).rd CK_STATUS_SEL ≠ 5 := by
      rw [rd_of_sansLedger hmoved]
      exact hck
    have hst : ((moveProxy i .sewn e.gen e.cause none s.dev.atNotices).ent i).map (·.st) = some .sewn := st_moveProxy (x := e) he
    generalize moveProxy i .sewn e.gen e.cause none s.dev.atNotices = y at hg hmoved hsel hst
    generalize Dev.noticeBody _ _ 4 1 0 false = body at hg
    refine completes_eq rfl hs hg ⟨?_, changes_noticed ?_⟩
    · rw [ent_settle, ent_countRcvd, ent_sendMsg]
      exact hst
    · rw [sansPost_countRcvd, sansPost_sendMsg hsel, sansPost_of_sansLedger hmoved]
  · have hg : arrive ⟨m, false⟩ (ledgerMsg fun k _ => k ≠ 4) s.dev =
        countRcvd (mSrc (nats m)) (s.dev.updPP fun p => { p with ledQ := p.ledQ ++ [(mSrc (nats m), nats m)] }) := by
      rw [arrive_clean, ledgerMsg_waits hst hv hb ht (decide_eq_true hk) hw, if_pos hl]
    refine completes_eq rfl hs hg (changes_bare ?_ fun x _ => ?_)
    · rw [settle_pp, countRcvd_eq]
      generalize (countRcvd _ _).pp.tab = y
      generalize nats m = l
      rfl
    · rw [countRcvd_eq, setTab_rd, updPP_rd]
  · have hg : arrive ⟨m, false⟩ (ledgerMsg fun k _ => k ≠ 4) s.dev = s.dev.inc PP_DROP_Y_LEDGER := by
      rw [arrive_clean, ledgerMsg_waits hst hv hb ht (decide_eq_true hk) hw, if_neg (Nat.not_lt.mpr hl)]
    exact completes_counted rfl hs hg (by decide) (by decide)
  · have hg : arrive ⟨m, false⟩ (ledgerMsg fun k a => k = 4 && a ≠ 0) s.dev =
        countRcvd (mSrc (nats m)) (destAck (mSrc (nats m)) (mTag (nats m)) 2 s.dev.atNotices) := by
      rw [arrive_clean, ledgerMsg_takes hst hv hb ht (by rw [hk, ha]; rfl) hrun hcls, ledgerBody, hk, ha]
      rfl
    rw [destAck_unpicked (d := s.dev.atNotices) hp he hr hj hq hout hgen] at hg
    exact completes_entered rfl hs hg
  · have hg : arrive ⟨m, false⟩ (ledgerMsg fun k a => k = 4 && a = 0) s.dev = countRcvd (mSrc (nats m)) (ledgerQuery (mSrc (nats m)) (mTag (nats m)) s.dev.atNotices) := by
      rw [arrive_clean, ledgerMsg_takes hst hv hb ht (by rw [hk, ha]; rfl) hrun hcls, ledgerBody, hk, ha]
      rfl
    have hport : s.dev.atNotices.portUp = true := by
      have hup : s.dev.portUp = true := by rw [Dev.portUp, hv, hst]; rfl
      exact hup
    rw [ledgerQuery_freed (d := s.dev.atNotices) _ he, sendMsg_unlisted hport hp hck, countRcvd_unlisted (d := Dev.emit _ s.dev.atNotices) hp, atNotices_message, atNotices_noticeBody,
      atNotices_nextSeq] at hg
    generalize Out.peerMsg _ _ _ = o at hg ⊢
    refine completes_eq rfl hs hg ⟨settle_out _, ?_⟩
    rw [settle_out]
    exact changes_bare rfl fun x _ => rfl
  · have hg : arrive ⟨m, false⟩ (ledgerMsg fun k a => k = 4 && a = 0) s.dev = countRcvd (mSrc (nats m)) (ledgerQuery (mSrc (nats m)) (mTag (nats m)) s.dev.atNotices) := by
      rw [arrive_clean, ledgerMsg_takes hst hv hb ht (by rw [hk, ha]; rfl) hrun hcls, ledgerBody, hk, ha]
      rfl
    rw [ledgerQuery_recorded (d := s.dev.atNotices) hp he hr hj hq ho hd hl] at hg
    exact completes_entered rfl hs hg
  · have hg' : arrive ⟨m, false⟩ barrierNotice s.dev = countRcvd (mSrc (nats m)) (barrierHear (mSrc (nats m)) (mBody (nats m) 0 2) s.dev) := by
      rw [arrive_clean, barrierNotice_takes hst hv hb ht, if_neg (by rw [hrack]; decide), if_pos (by rw [hg]; rfl)]
    rw [barrierHear_listed hbar] at hg'
    refine completes_eq rfl hs hg' ⟨?_, ?_⟩
    · rw [settle_bud, bud_countRcvd]
      rw [Dev.updBud]
      dsimp only
      rw [tget_tput_same]
    · rw [settle_bud, bud_countRcvd]
      exact changes_heard rfl
  · refine completes_counted rfl hs ?_ (by decide) (by decide)
    rw [arrive_clean, barrierNotice_takes hst hv hb ht, if_neg (by rw [hrack]; decide), if_neg (by rw [hg, ha]; decide)]
  · refine completes_unchanged rfl hs ?_
    rw [arrive_clean, barrierNotice_takes hst hv hb ht, if_pos (by rw [hrack]; rfl)]
  · have hany : s.dev.openWins.any (·.2.group = mBody (nats m) 0 2) = true := by
      have hmem : (i, w) ∈ s.dev.openWins.filter (fun x => x.2.group = mBody (nats m) 0 2) := by rw [hw]; exact List.mem_singleton.mpr rfl
      rw [List.mem_filter] at hmem
      exact List.any_eq_true.mpr ⟨_, hmem⟩
    have hg : arrive ⟨m, false⟩ slackNotice s.dev = countRcvd (mSrc (nats m)) (s.dev.setWin i (some
        { w with heard := (w.heard.filter (·.1 ≠ mSrc (nats m))) ++ [(mSrc (nats m), mBody (nats m) 2 1)] })) := by
      rw [arrive_clean, slackNotice_takes hst hv hb ht, if_neg (by rw [hrack]; decide), if_pos (by rw [hany, Bool.or_true]), slackHear,
        if_neg (by rw [hrack]; decide), hw, forL_one]
    refine completes_eq rfl hs hg ⟨?_, ?_⟩
    · rw [Dev.win, settle_bud, bud_countRcvd]
      rw [Dev.setWin, Dev.updBud]
      dsimp only
      rw [tget_tput_same]
    · rw [settle_bud, bud_countRcvd]
      exact changes_heard rfl
  · refine completes_counted rfl hs ?_ (by decide) (by decide)
    rw [arrive_clean, slackNotice_takes hst hv hb ht, if_neg (by rw [hrack]; decide), if_neg (by rw [hg, ha]; decide)]

end Sys2Proof.Machine
end

section
/-! O31: reports of destinations, notices sent again, destinations given up, REPLACED, and the windows of the ledger (R208, R210, R221,
R222, R226, R229, R241, R252). -/

namespace Sys2Proof.Machine

/-! Events in the order of their classes (R208). -/

section
variable {d : Dev} {x : LEvent} {g : Dev → Dev}

/-- R208: the device at whose boundary an event of a class is applied. -/
def Dev.atClass (n : Nat) (d : Dev) : Dev := d.updLed fun l => { l with cls := n }

theorem atClass_rd (n : Nat) (d : Dev) (y : Fld) : (d.atClass n).rd y = d.rd y := rfl
theorem atClass_ent (n : Nat) (d : Dev) (i : Nat) : (d.atClass n).ent i = d.ent i := rfl

theorem inOrder_now (h : d.eventWaits x = false) : inOrder x g d = g (d.atClass x.cls) := by
  rw [inOrder, if_neg (by rw [h]; decide)]
  rfl

theorem inOrder_waits (h : d.eventWaits x = true) : inOrder x g d = d.updLed fun l => { l with later := l.later ++ [x] } := by
  rw [inOrder, if_pos h]

theorem running_of_now (h : d.eventWaits x = false) : d.stopped = false := by
  rw [Dev.eventWaits, Bool.or_assoc] at h
  exact (Bool.or_eq_false_iff.mp h).1

theorem not_stopped (h : d.stopped = false) : ¬ d.stopped = true := by
  rw [h]
  exact Bool.false_ne_true

/-- Where no replay record is in use, the scheduler has nothing to do. -/
theorem schedule_idle (h : d.recList = []) : schedule d = d := by
  rw [schedule, h]
  dsimp only [forL, List.foldl_nil]
  rw [h]
  exact ite_self _

end

/-! The states of an entry (R210, R214). -/

section
variable {d : Dev} {i : Nat} {e : Entry} {st : EState} {c : Cause}

/-- R210: UNPICKED and POISONED withdraw what an entry gave. -/
def EState.out (st : EState) : Bool := st = .unpicked || st = .poisoned

/-- R210, R214: an entry after a change of its state at the present boundary. -/
def Entry.moved (d : Dev) (st : EState) (c : Cause) (e : Entry) : Entry :=
  { e with
    st, cause := c, spick := d.time.count % 2 ^ 32, since := d.time.nbRun, nbAt := d.time.nb
    closed := e.closed && st.basty, prods := if st = .sewn then [] else e.prods, reDone := false
    gen := if st.out then satN 15 (e.gen + 1) else e.gen, wgen := if st.out then e.gen else e.wgen, wdraw := e.wdraw || st.out
    dests := if st.out && !e.remote then e.dests.map fun x => { x with dack := 0, sentAt := none } else e.dests
    held := e.held && st ≠ .sewn && !st.out
    notes := (if st = .poisoned then [.poisoned] else if st = .unpicked ∧ c = .replaced then [.replace] else [])
      ++ (if st.basty then e.notes.filter (· = .closed) else []) }

/-- The device in which an entry has its new state. -/
def Dev.entered (i : Nat) (x : Entry) (d : Dev) : Dev := (d.setEnt i (some x)).updLed fun l => { l with changed := l.changed ++ [i] }

/-- R205, R221: what the sentinels and the endpoint are told of a new state. -/
def toldState (i : Nat) (st : EState) (held : Bool) (x : Entry) (d : Dev) : Dev :=
  onlyIf (decide (st = EState.sewn)) (tellSewn i x) (onlyIf (st = .sewn || st.out) (tellTiles i x) (onlyIf (st = .sewn && held) (·.emit (.entrySewn i)) d))

theorem moveEnt_eq (h : d.ent i = some e) (hne : e.st ≠ st) : moveEnt i st c d =
    offerNotes i (sendOwed i (fun x => x.sentAt.isNone || st = .sewn) false (toldState i st e.held (e.moved d st c) (d.entered i (e.moved d st c)))) := by
  rw [moveEnt, h]
  exact if_neg hne

theorem sansLedger_toldState (held : Bool) (x : Entry) (d : Dev) : (toldState i st held x d).sansLedger = d.sansLedger := by
  have htiles (y : Dev) : (tellTiles i x y).sansLedger = y.sansLedger := sansLedger_emits _ _
  rw [toldState, sansLedger_onlyIf (sansLedger_tellSewn _ _ _), sansLedger_onlyIf (htiles _), sansLedger_onlyIf (sansLedger_emit _)]

theorem ent_toldState (held : Bool) (x : Entry) (d : Dev) (k : Nat) : (toldState i st held x d).ent k = d.ent k := by
  have htiles (y : Dev) : (tellTiles i x y).ent k = y.ent k := ent_emits _ _ _
  rw [toldState, ent_onlyIf (ent_tellSewn _ _ _ _), ent_onlyIf (htiles _), ent_onlyIf (Dev.emit_ent _ _ _)]

theorem ent_entered (i : Nat) (x : Entry) (d : Dev) : (d.entered i x).ent i = some x := ent_setEnt i (some x) d

theorem sansLedger_entered (i : Nat) (x : Entry) (d : Dev) : (d.entered i x).sansLedger = d.sansLedger := rfl

/-- An entry without destinations is told nowhere. -/
theorem sendOwed_undirected {x : Entry} {due : Dest → Bool} {r : Bool} (h : d.ent i = some x) (hd : x.dests = []) :
    sendOwed i due r d = d ∨ sendOwed i due r d = d.setEnt i (some x) := by
  rw [sendOwed, h]
  split
  · exact .inl rfl
  · dsimp only
    split
    · exact .inl rfl
    · rw [hd]
      refine .inr ((updEnt_of _ h).trans ?_)
      rw [hd]
      cases x
      cases hd
      rfl

theorem moved_dests (hd : e.dests = []) : (e.moved d st c).dests = [] := by
  rw [Entry.moved, hd]
  exact ite_self _

/-- An entry without destinations moves: its new state, and what the wafer's own tiles and endpoint are told. -/
theorem moveEnt_undirected (h : d.ent i = some e) (hne : e.st ≠ st) (hd : e.dests = []) : ∃ y : Dev, moveEnt i st c d = offerNotes i y ∧
    y.ent i = some (e.moved d st c) ∧ y.sansLedger = d.sansLedger ∧ y.out = (toldState i st e.held (e.moved d st c) (d.entered i (e.moved d st c))).out := by
  have hent : (toldState i st e.held (e.moved d st c) (d.entered i (e.moved d st c))).ent i = some (e.moved d st c) := by
    rw [ent_toldState, ent_entered]
  have hsans : (toldState i st e.held (e.moved d st c) (d.entered i (e.moved d st c))).sansLedger = d.sansLedger := by
    rw [sansLedger_toldState, sansLedger_entered]
  rw [moveEnt_eq h hne]
  rcases sendOwed_undirected (r := false) (due := fun x => x.sentAt.isNone || st = .sewn) hent (moved_dests hd) with hsend | hsend
  · rw [hsend]
    exact ⟨_, rfl, hent, hsans, rfl⟩
  · rw [hsend]
    exact ⟨_, rfl, ent_setEnt _ _ _, (sansLedger_setEnt _).trans hsans, rfl⟩

/-- An entry without destinations that owes its host nothing after its move. -/
theorem moveEnt_quiet (h : d.ent i = some e) (hne : e.st ≠ st) (hd : e.dests = []) (hn : (e.moved d st c).notes = []) (hw : (e.moved d st c).wdraw = false) :
    (moveEnt i st c d).ent i = some (e.moved d st c) ∧ (moveEnt i st c d).sansLedger = d.sansLedger ∧
      (moveEnt i st c d).out = (toldState i st e.held (e.moved d st c) (d.entered i (e.moved d st c))).out := by
  obtain ⟨y, hy, hent, hsans, hout⟩ := moveEnt_undirected (c := c) h hne hd
  rw [hy, offerNotes_silent hent hn hw]
  exact ⟨hent, hsans, hout⟩

/-- An entry that owes nothing to its host and holds no data, when it is sewn. -/
theorem moved_sewn (hn : e.notes = []) (hw : e.wdraw = false) (hh : e.held = false) : e.moved d .sewn c =
    { e with st := .sewn, cause := c, spick := d.time.count % 2 ^ 32, since := d.time.nbRun, nbAt := d.time.nb, closed := false, prods := [], reDone := false } := by
  simp [Entry.moved, EState.out, EState.basty, hn, hw, hh]

theorem bare_of_sansLedger {y : Dev} (h : y.sansLedger = d.sansLedger) :
    y.bare = Dev.bare { d with led := { d.led with ents := y.led.ents, changed := y.led.changed }, out := y.out } := by
  conv => lhs; rw [eq_of_sansLedger h]
  rfl

theorem recList_of_sansLedger {y : Dev} (h : y.sansLedger = d.sansLedger) : y.recList = d.recList := by
  change y.sansLedger.recList = d.sansLedger.recList
  rw [h]

theorem tagSewn_toldState {x : Entry} (hr : x.remote = false) (held : Bool) (d : Dev) :
    .tagSewn (outTag i x.gen x.seq x.job) x.src ∈ (toldState i .sewn held x d).out := by
  have h : .tagSewn (outTag (if x.remote then x.rIndex else i) x.gen x.seq x.job) x.src ∈ (toldState i .sewn held x d).out := List.mem_cons_self
  rw [hr] at h
  exact h

end

/-! Destinations (R221, R222, R226). -/

section
variable {d : Dev} {t : OutTag} {a p : Nat} {e : Entry}

theorem reportNow_unknown (h : d.ent t.index = none) : reportNow t a d = d.emit (.destAnswer t.index a true) := by rw [reportNow, h]

theorem reportNow_known (h : d.ent t.index = some e) (hr : e.remote = false) (hj : e.job = t.job) (hq : e.seq % 2 ^ 32 = t.seq % 2 ^ 32)
    (hp : d.peerIx a = some p) (hd : e.dests.any (·.peer = p) = false) : reportNow t a d =
      if e.dests.length < 16 then sendOwed t.index (·.peer = p) false
          ((updEnt t.index (fun e => { e with dests := e.dests ++ [⟨p, 0, none⟩] }) d).emit (.destAnswer t.index a true))
        else holdData t.index a e d := by
  have hno : ¬ e.dests.any (·.peer = p) = true := by rw [hd]; decide
  rw [reportNow, h]
  dsimp only
  rw [if_neg (not_another hr hj hq), hp]
  dsimp only
  rw [if_neg hno]

theorem owes_unpicked (hr : e.remote = false) (hst : e.st = .unpicked) : e.owes = some (2, e.wgen, 1) := by
  rw [Entry.owes, hr, hst]
  rfl

/-- Outside WAIT a message to a peer of the table goes out, and is counted. -/
theorem sendPeer_sends {i n : Nat} {b : List Nat} {y : Peer} (hy : d.peer i = some y) (hp : d.portUp = true) (hck : d.rd CK_STATUS_SEL ≠ 5) :
    sendPeer n i b d = (countSent y.addr d).emit (.peerMsg n y.addr (d.message n y.addr (d.nextSeq y.addr) 0 b)) := by
  have hsel : (countSent y.addr d).rd CK_STATUS_SEL ≠ 5 := by
    rw [countSent_eq, setTab_rd]
    exact hck
  rw [sendPeer, hy]
  dsimp only
  rw [sendMsg, if_pos hp]
  exact post_sends hsel

/-- R222: the UNPICK that an entry owes its only destination is sent again. -/
theorem noticeResend_due {i : Nat} {x : Dest} {y : Peer} (hrun : d.stopped = false) (he : d.ent i = some e) (hr : e.remote = false) (hst : e.st = .unpicked)
    (hd : e.dests = [x]) (hx : x.dack = 0) (hdue : d.resendDue x = true) (hy : d.peer x.peer = some y) (habs : y.st ≠ .absent) (hp : d.portUp = true)
    (hck : d.rd CK_STATUS_SEL ≠ 5) : noticeResend i d =
      (evt 4 ((countSent y.addr d).emit (.peerMsg 0x10 y.addr (d.message 0x10 y.addr (d.nextSeq y.addr) 0 (d.owedBody i e 2 e.wgen))))).setEnt i
        (some { e with dests := [{ x with sentAt := some d.time.nbRun }] }) := by
  have hreach : d.reachable x.peer = true := by
    rw [Dev.reachable, hy]
    exact decide_eq_true habs
  have hgo : (decide (x.dack < 1) && d.reachable x.peer && d.resendDue x) = true := by rw [hx, hreach, hdue]; rfl
  have hdests : (e.dests.filter fun x => decide (x.dack < 1) && d.reachable x.peer && d.resendDue x) = [x] := by
    rw [hd]
    simp only [List.filter_cons, List.filter_nil, hgo, if_true]
  rw [noticeResend, sendOwed, if_neg (not_stopped hrun), he]
  dsimp only
  rw [owes_unpicked hr hst]
  dsimp only
  rw [hdests, forL_one, sendPeer_sends hy hp hck, countSent_eq]
  have hent (z : Tab (Option Peer)) (o : Out) : (onlyIf true (evt 4) ((d.setTab z).emit o)).ent i = some e := he
  rw [updEnt_of _ (hent _ _), hd]
  simp only [List.map_cons, List.map_nil, hgo, if_true]
  rfl

theorem giveup_dests {x : Dest} (hr : e.remote = false) (hd : e.dests = [x]) (hx : x.peer = p) (hk : x.dack ≠ 2) :
    (e.dests.map fun y => if y.peer = p && y.dack ≠ 2 && !e.remote then { y with dack := 2 } else y) = [{ x with dack := 2 }] := by
  simp [hr, hd, hx, hk]

/-- R226: the only destination of an entry, absent too long, is given up. -/
theorem destGiveup_due {i : Nat} {x : Dest} (hrun : d.stopped = false) (he : d.ent i = some e) (hr : e.remote = false) (hd : e.dests = [x]) (hx : x.peer = p)
    (hk : x.dack ≠ 2) (hl : d.longAbsent p = true) : destGiveup i p d =
      (evt 5 (d.setEnt i (some { e with dests := [{ x with dack := 2 }] }))).raiseR { d.report .ledger 2 central p with addr := i, master := 7 } := by
  have hany : e.dests.any (fun x => x.peer = p && x.dack ≠ 2 && !e.remote) = true := by simp [hr, hd, hx, hk]
  rw [destGiveup, he]
  dsimp only
  rw [hany, if_pos (by rw [hrun, hl]; rfl), updEnt_of _ he, giveup_dests hr hd hx hk]
  rfl

end

/-! REPLACED (R210, R241). -/

section
variable {d : Dev} {w k : Nat} {e : Entry}

theorem replacedNow_refused (h : ((d.ent k).any fun e => e.st = .unpicked && e.cause = .replaced && d.ownsJob w e.job) = false) :
    replacedNow w k d = conflict LG_STATUS_STATE_CONFLICT d := by
  rw [replacedNow]
  cases he : d.ent k with
  | none => rfl
  | some e =>
    rw [he] at h
    have hno : ¬ (e.st = .unpicked && e.cause = .replaced && d.ownsJob w e.job) = true := fun h' => Bool.false_ne_true (h.symm.trans h')
    exact if_neg hno

theorem replacedNow_sewn (he : d.ent k = some e) (ho : e.st = .unpicked) (hc : e.cause = .replaced) (hown : d.ownsJob w e.job = true) (hr : e.rslot = none)
    (hidle : (moveEnt k .sewn .none d).recList = []) : replacedNow w k d = moveEnt k .sewn .none d := by
  have hyes : (e.st = .unpicked && e.cause = .replaced && d.ownsJob w e.job) = true := by rw [ho, hc, hown]; rfl
  rw [replacedNow, he]
  dsimp only
  rw [if_pos hyes, hr]
  exact schedule_idle hidle

end

/-- Settles O31. -/
theorem destinationsAndReplacement : Obligations.DestinationsAndReplacement := by
  unfold Obligations.DestinationsAndReplacement
  refine ⟨fun s tag a hs hw => ?_, fun s tag a hs hw he => ?_, fun s tag a p e hs hw he hr hj hq hp hd hl ho => ?_, fun s tag a p e hs hw he hr hj hq hp hd hl ho => ?_,
    fun s tag a p e hs hw he hr hj hq hp hd hl ho => ?_, fun s k e x y hs hrun he hr ho hd hx hdue hy habs hport hck => ?_, fun s k e hs hrun he ho => ?_,
    fun s k e p x hs hrun he hr hd hx hdack hlong => ?_, fun s who k e hs hready hidle hw he ho hc hown hr hslot hd hn hwd hheld => ?_, fun s who k hs hready => ?_,
    fun s who k hs hready hw he => ?_, fun s who k hs hready hw => ?_, fun s k hs => ?_, fun s i hs => ?_⟩
  · refine completes_eq rfl hs (inOrder_waits hw) (changes_bare ?_ fun x _ => updLed_rd _ _ _)
    rfl
  · have hg : destReport (outTagOf ⟨tag, 0xFFFF⟩) a.toNat s.dev = (s.dev.atClass 4).emit (.destAnswer (outTagOf ⟨tag, 0xFFFF⟩).index a.toNat true) :=
      (inOrder_now hw).trans (reportNow_unknown (d := s.dev.atClass 4) he)
    refine completes_eq rfl hs hg (changes_bare ?_ fun x _ => ?_)
    · rfl
    · rw [emit_rd, atClass_rd]
  · have hg : destReport (outTagOf ⟨tag, 0xFFFF⟩) a.toNat s.dev = ((s.dev.atClass 4).setEnt (outTagOf ⟨tag, 0xFFFF⟩).index
        (some { e with dests := e.dests ++ [⟨p, 0, none⟩] })).emit (.destAnswer (outTagOf ⟨tag, 0xFFFF⟩).index a.toNat true) := by
      refine (inOrder_now hw).trans ((reportNow_known (d := s.dev.atClass 4) he hr hj hq hp hd).trans ?_)
      rw [if_pos hl, updEnt_of (d := s.dev.atClass 4) _ he]
      exact sendOwed_nothing ((Dev.emit_ent _ _ _).trans (ent_setEnt _ _ _)) ho
    generalize (outTagOf ⟨tag, 0xFFFF⟩).index = k at hg ⊢
    refine completes_eq rfl hs hg ⟨?_, settle_out _, ?_⟩
    · rw [ent_settle, Dev.emit_ent, ent_setEnt]
    · rw [settle_led, settle_out]
      exact changes_bare rfl fun x _ => rfl
  · have hg : destReport (outTagOf ⟨tag, 0xFFFF⟩) a.toNat s.dev = ((s.dev.atClass 4).emit (.destAnswer (outTagOf ⟨tag, 0xFFFF⟩).index a.toNat false)).setEnt
        (outTagOf ⟨tag, 0xFFFF⟩).index (some { e with held := true }) := by
      refine (inOrder_now hw).trans ((reportNow_known (d := s.dev.atClass 4) he hr hj hq hp hd).trans ?_)
      rw [if_neg (Nat.not_lt.mpr hl), holdData, if_neg ho]
    generalize (outTagOf ⟨tag, 0xFFFF⟩).index = k at hg ⊢
    refine completes_eq rfl hs hg ⟨?_, settle_out _, ?_⟩
    · rw [ent_settle, ent_setEnt]
    · rw [settle_led, settle_out]
      exact changes_bare rfl fun x _ => rfl
  · have hg : destReport (outTagOf ⟨tag, 0xFFFF⟩) a.toNat s.dev = ((s.dev.atClass 4).emit (.destAnswer (outTagOf ⟨tag, 0xFFFF⟩).index a.toNat false)).emit
        (.entrySewn (outTagOf ⟨tag, 0xFFFF⟩).index) := by
      refine (inOrder_now hw).trans ((reportNow_known (d := s.dev.atClass 4) he hr hj hq hp hd).trans ?_)
      rw [if_neg (Nat.not_lt.mpr hl), holdData, if_pos ho]
    generalize (outTagOf ⟨tag, 0xFFFF⟩).index = k at hg ⊢
    exact completes_eq rfl hs hg (changes_bare rfl fun x _ => rfl)
  · have hg : noticeResend k.toNat s.dev = _ := noticeResend_due hrun he hr ho hd hx hdue hy habs hport hck
    generalize Out.peerMsg _ _ _ = o at hg ⊢
    rw [countSent_eq] at hg
    generalize (countSent _ _).pp.tab = z at hg
    refine completes_eq rfl hs hg ⟨?_, ?_, ?_, ?_⟩
    · rw [settle_out]
      rfl
    · rw [ent_settle, ent_setEnt]
    · rw [rd_settle (by decide), Dev.setEnt_rd, evt, rd_inc_eq (by decide)]
      rfl
    · rw [settle_led, settle_pp, settle_out]
      refine changes_bare ?_ fun y hy => ?_
      · rw [bare_setEnt, evt, bare_inc, Dev.setEnt_pp, Dev.setEnt_out, Dev.inc_pp, Dev.inc_out]
        rfl
      · rw [Dev.setEnt_rd, evt, rd_inc_apart (hy _ (by simp)), emit_rd, setTab_rd]
  · exact completes_unchanged rfl hs (sendOwed_nothing he ho)
  · have hg : destGiveup k.toNat p.toNat s.dev = (evt 5 (s.dev.setEnt k.toNat (some { e with dests := [{ x with dack := 2 }] }))).raiseR
        { s.dev.report .ledger 2 central p.toNat with addr := k.toNat, master := 7 } := destGiveup_due hrun he hr hd hx hdack hlong
    refine completes_eq rfl hs hg ⟨?_, ?_, ?_⟩
    · rw [ent_settle, Dev.raiseR_ent, evt, Dev.inc_ent, ent_setEnt]
    · rw [rd_settle (by decide), Dev.raiseR_rd, evt, rd_inc_eq (by decide), Dev.setEnt_rd]
      rfl
    · rw [settle_led]
      refine changes_bare ?_ fun y hy => ?_
      · rw [bare_raiseR, evt, bare_inc, Dev.raiseR_led, Dev.inc_led]
        generalize s.dev.report .ledger 2 central p.toNat = r
        rfl
      · rw [Dev.raiseR_rd, evt, rd_inc_apart (hy _ (by simp)), Dev.setEnt_rd]
  · obtain ⟨hent, hsans, hout⟩ := moveEnt_quiet (d := s.dev.atClass 7) (st := .sewn) (c := .none) he (by rw [ho]; decide) hd
      (by rw [Entry.moved]; rfl) (by rw [Entry.moved, hwd]; rfl)
    have hg : replaced who.val k.toNat s.dev = moveEnt k.toNat .sewn .none (s.dev.atClass 7) := by
      rw [replaced, if_neg (by rw [hready]; decide), inOrder_now hw]
      exact replacedNow_sewn (d := s.dev.atClass 7) he ho hc hown hslot ((recList_of_sansLedger hsans).trans hidle)
    refine completes_eq rfl hs hg ⟨?_, ?_, ?_⟩
    · rw [ent_settle, hent, moved_sewn hn hwd hheld]
      rfl
    · rw [settle_out, hout]
      exact tagSewn_toldState (x := e.moved (s.dev.atClass 7) .sewn .none) hr _ _
    · rw [settle_led, settle_out]
      exact changes_bare (bare_of_sansLedger hsans) fun x _ => (rd_of_sansLedger hsans x).trans (atClass_rd _ _ _)
  · refine completes_conflict rfl hs ?_ (by decide) (by decide)
    exact if_pos (by rw [hready]; rfl)
  · have hg : replaced who.val k.toNat s.dev = conflict LG_STATUS_STATE_CONFLICT (s.dev.atClass 7) := by
      rw [replaced, if_neg (by rw [hready]; decide), inOrder_now hw]
      exact replacedNow_refused (d := s.dev.atClass 7) he
    refine completes_eq rfl hs hg ⟨?_, changes_bare ?_ fun x hx => ?_⟩
    · rw [rdB_settle (by decide)]
      exact rdB_wrB_eq _ (by decide)
    · rw [bare_conflict]
      rfl
    · rw [conflict, rd_wrB_apart _ (hx _ (by simp)), atClass_rd]
  · have hg : replaced who.val k.toNat s.dev = s.dev.updLed fun l => { l with later := l.later ++ [.replaced who.val k.toNat] } := by
      rw [replaced, if_neg (by rw [hready]; decide), inOrder_waits hw]
    exact completes_eq rfl hs hg (changes_bare rfl fun x _ => updLed_rd _ _ _)
  · refine completes_eq (d := lgSel k.toNat s.dev) rfl hs rfl ⟨?_, changes_bare ?_ fun x hx => ?_⟩
    · rw [rd_settle (by decide), lgSel, updLed_rd]
      exact (rd_wr_eq _ (by decide)).trans (Nat.mod_eq_of_lt k.isLt)
    · rw [lgSel, bare_updLed, bare_wr]
      rfl
    · rw [lgSel, updLed_rd, rd_wr_apart _ (hx _ (by simp))]
  · refine completes_eq (d := lgRpSel i.toNat s.dev) rfl hs rfl ⟨?_, changes_bare ?_ fun x hx => ?_⟩
    · rw [rd_settle (by decide), lgRpSel, updRp_rd]
      exact (rd_wr_eq _ (by decide)).trans (Nat.mod_eq_of_lt i.isLt)
    · rw [lgRpSel, bare_updRp, bare_wr]
      rfl
    · rw [lgRpSel, updRp_rd, rd_wr_apart _ (hx _ (by simp))]

end Sys2Proof.Machine
end

section
/-! O28: begin markers applied, waiting and discarded (R206, R207, R210, R212, R227). -/

namespace Sys2Proof.Machine

/-! The entry of a key, among the live ones (R210). -/

section
variable {d : Dev} {k j q : Nat} {x : Entry}

theorem mem_tins {α : Type} {k : Nat} {v : α} {t : Tab α} {y : Nat × α} : y ∈ tins k v t ↔ y = (k, v) ∨ y ∈ t := by
  induction t with
  | nil => simp [tins]
  | cons z t ih =>
    rw [tins]
    split
    · simp
    · rw [List.mem_cons, ih, List.mem_cons]
      exact or_left_comm

theorem mem_live {y : Nat × Entry} : y ∈ d.live ↔ (y.1, some y.2) ∈ d.led.ents := by
  rw [Dev.live, List.mem_filterMap]
  constructor
  · rintro ⟨⟨n, e⟩, hn, hy⟩
    obtain ⟨z, rfl, rfl⟩ := Option.map_eq_some_iff.mp hy
    exact hn
  · exact fun h => ⟨_, h, rfl⟩

theorem ents_setEnt (x : Entry) : (d.setEnt k (some x)).led.ents = tins k (some x) (tdel k d.led.ents) := by
  change tput none k (some x) d.led.ents = _
  rw [tput, if_neg (by simp)]

theorem mem_live_setEnt {y : Nat × Entry} : y ∈ (d.setEnt k (some x)).live ↔ y = (k, x) ∨ (y ∈ d.live ∧ y.1 ≠ k) := by
  rw [mem_live, ents_setEnt, mem_tins, mem_live, tdel, List.mem_filter]
  obtain ⟨n, e⟩ := y
  simp

theorem live_of_ent {i : Nat} (h : d.ent i = some x) : (i, x) ∈ d.live := by
  have hmem {α : Type} (t : Tab (Option α)) (i : Nat) (x : α) (h : tget none t i = some x) : (i, some x) ∈ t := by
    induction t with
    | nil => cases h
    | cons z t ih =>
      rw [tget] at h
      split at h
      · next hz =>
        obtain ⟨n, v⟩ := z
        rw [← hz, ← h]
        exact List.mem_cons_self
      · exact List.mem_cons_of_mem _ (ih h)
  exact mem_live.mpr (hmem _ _ _ h)

/-- The live entry of a key is at k, if anywhere. -/
def Dev.keyOnly (d : Dev) (j q k : Nat) : Prop := ∀ y ∈ d.live, y.2.remote = false → y.2.job = j → y.2.seq = q → y.1 = k

theorem keyOnly_of_none (h : d.keyIx j q = none) : d.keyOnly j q k := by
  intro y hy hr hj hq
  rw [Dev.keyIx, Option.map_eq_none_iff, List.find?_eq_none] at h
  exact absurd (by rw [hr, hj, hq]; simp) (h y hy)

theorem keyOnly_setEnt (h : d.keyOnly j q k) : (d.setEnt k (some x)).keyOnly j q k := by
  intro y hy hr hj hq
  rcases mem_live_setEnt.mp hy with rfl | ⟨hy, -⟩
  · rfl
  · exact h y hy hr hj hq

theorem keyIx_of_only (h : d.keyOnly j q k) (hk : (k, x) ∈ d.live) (hr : x.remote = false) (hj : x.job = j) (hq : x.seq = q) : d.keyIx j q = some k := by
  rw [Dev.keyIx]
  cases hf : d.live.find? fun x => !x.2.remote && x.2.job = j && x.2.seq = q with
  | none =>
    rw [List.find?_eq_none] at hf
    exact absurd (by rw [hr, hj, hq]; simp) (hf _ hk)
  | some y =>
    have hp := List.find?_some hf
    simp only [Bool.and_eq_true, Bool.not_eq_true', decide_eq_true_eq] at hp
    obtain ⟨⟨hyr, hyj⟩, hyq⟩ := hp
    exact congrArg some (h y (List.mem_of_find?_eq_some hf) hyr hyj hyq)

theorem keyOnly_of_ents {e : Dev} (he : e.led.ents = d.led.ents) (h : d.keyOnly j q k) : e.keyOnly j q k := by
  intro y hy
  rw [mem_live, he, ← mem_live] at hy
  exact h y hy

/-! The proxy of a tag stands where another entry is written (R224). -/

/-- The live entries of a table. -/
def liveOf (t : Tab (Option Entry)) : List (Nat × Entry) := t.filterMap fun (k, e) => e.map (k, ·)

theorem liveOf_none (t : Tab (Option Entry)) : liveOf ((k, none) :: t) = liveOf t := rfl
theorem liveOf_some (t : Tab (Option Entry)) : liveOf ((k, some x) :: t) = (k, x) :: liveOf t := rfl

theorem find?_tins {P : Nat × Entry → Bool} (hP : P (k, x) = false) (t : Tab (Option Entry)) : (liveOf (tins k (some x) t)).find? P = (liveOf t).find? P := by
  induction t with
  | nil => simp [tins, liveOf, hP]
  | cons z t ih =>
    rw [tins]
    split
    · rw [liveOf_some, List.find?_cons_of_neg (by rw [hP]; decide)]
    · obtain ⟨n, e⟩ := z
      cases e with
      | none =>
        rw [liveOf_none, liveOf_none]
        exact ih
      | some e =>
        rw [liveOf_some, liveOf_some, List.find?_cons, List.find?_cons]
        split
        · rfl
        · exact ih

theorem find?_tdel {P : Nat × Entry → Bool} {y : Nat × Entry} (hy : y.1 ≠ k) (t : Tab (Option Entry)) (h : (liveOf t).find? P = some y) :
    (liveOf (tdel k t)).find? P = some y := by
  induction t with
  | nil => cases h
  | cons z t ih =>
    obtain ⟨n, e⟩ := z
    cases e with
    | none =>
      rw [liveOf_none] at h
      rw [tdel, List.filter_cons]
      split
      · rw [liveOf_none]
        exact ih h
      · exact ih h
    | some e =>
      rw [liveOf_some, List.find?_cons] at h
      rw [tdel, List.filter_cons]
      split at h
      · next hP =>
        obtain rfl : (n, e) = y := Option.some.inj h
        rw [if_pos (decide_eq_true hy), liveOf_some, List.find?_cons_of_pos hP]
      · next hP =>
        split
        · rw [liveOf_some, List.find?_cons_of_neg (by rw [hP]; decide)]
          exact ih h
        · exact ih h

theorem proxyIx_setEnt {t : OutTag} {i : Nat} (hr : x.remote = false) (hi : i ≠ k) (h : d.proxyIx t = some i) : (d.setEnt k (some x)).proxyIx t = some i := by
  rw [Dev.proxyIx, Option.map_eq_some_iff] at h ⊢
  obtain ⟨y, hy, rfl⟩ := h
  refine ⟨y, ?_, rfl⟩
  change (liveOf (d.setEnt k (some x)).led.ents).find? _ = _
  rw [ents_setEnt, find?_tins (by simp [hr])]
  exact find?_tdel hi _ hy

end

/-! A reserve large enough for a footprint (R232). -/

theorem le_maxN {l : List Nat} {n : Nat} (h : n ∈ l) : n ≤ maxN l := by
  have hle (l : List Nat) (a : Nat) : a ≤ l.foldl max a ∧ ∀ n ∈ l, n ≤ l.foldl max a := by
    induction l generalizing a with
    | nil => exact ⟨Nat.le_refl _, fun n hn => absurd hn List.not_mem_nil⟩
    | cons x l ih =>
      obtain ⟨h1, h2⟩ := ih (max a x)
      refine ⟨Nat.le_trans (Nat.le_max_left a x) h1, fun n hn => ?_⟩
      rcases List.mem_cons.mp hn with rfl | hn
      · exact Nat.le_trans (Nat.le_max_right a n) h1
      · exact h2 n hn
  exact (hle l 0).2 n h

theorem reserve_le (d : Dev) (g : Fin 96) : (d.reserveOf g).length ≤ d.rsvMax :=
  le_maxN (List.mem_map.mpr ⟨g.val, List.mem_range.mpr g.isLt, rfl⟩)

/-! The first begin of a step (R207, R210). -/

section
variable {d : Dev} {m : BeginM} {k : Nat}

/-- R210: the entry of a step that one tile has begun. -/
def Dev.begunEntry (d : Dev) (m : BeginM) : Entry :=
  { d.newEntry (tagJob m.tag) (tagSeq m.tag) (tagFoot m.tag) m.field with begun := 1, begTiles := [m.patch * 256 + m.tile] }

/-- R210: the device in which the first begin of a step has its entry and its tile. -/
def Dev.begun (k : Nat) (m : BeginM) (d : Dev) : Dev :=
  ((noteFree (d.setEnt k (some (d.newEntry (tagJob m.tag) (tagSeq m.tag) (tagFoot m.tag) m.field)))).setEnt k (some (d.begunEntry m))).updTi m.field m.patch m.tile
    fun x => { x with cur := some (tagJob m.tag, tagSeq m.tag), job := some (tagJob m.tag) }

/-- R207, R212: what the first begin of a step asks, for which no begin is a protocol error. -/
structure Dev.mayBegin (d : Dev) (m : BeginM) (g : Fin 96) (k : Nat) : Prop where
  new : d.keyIx (tagJob m.tag) (tagSeq m.tag) = none
  prev : d.prevRef none m = none
  tiles : footTiles (tagFoot m.tag) ≠ 0
  room : footSpan (tagFoot m.tag) + 1 ≤ (d.reserveOf g).length
  idle : (d.ti m.field m.patch m.tile).cur = none
  waits : (d.led.waits.any fun w => w.field = m.field && w.patch = m.patch && w.tile = m.tile) = false
  unwatched : tget 0 d.rp.watch (m.field * 4096 + tagJob m.tag) = 0
  free : d.freeEnt = some k

theorem ent_noteFree (d : Dev) (i : Nat) : (noteFree d).ent i = d.ent i := Dev.wr_ent _ _ _ _

theorem applyBegin_new {g : Fin 96} (h : d.mayBegin m g k) : applyBegin m d =
    earlyMarks (tagJob m.tag) (tagSeq m.tag) (evalEnt k (showTag m (forL m.tags (addTag k) (d.begun k m)))) := by
  obtain ⟨hnew, hprev, htiles, hroom, hidle, hwaits, hwatch, hfree⟩ := h
  have hmax : ¬ d.rsvMax < footSpan (tagFoot m.tag) + 1 := Nat.not_lt.mpr (Nat.le_trans hroom (reserve_le d g))
  have hent (x : Entry) : (noteFree (d.setEnt k (some x))).ent k = some x := (ent_noteFree _ _).trans (ent_setEnt k (some x) d)
  rw [applyBegin]
  simp only [hnew, hidle, hwaits, hfree, hprev, takeWatch, hwatch, Option.bind_none, Option.getD_some, decide_eq_false htiles, decide_eq_false hmax,
    Option.isSome_none, Bool.or_false, Bool.false_eq_true, if_false, if_true]
  rw [updEnt_of _ (hent _)]
  rfl

/-! What a first begin moves: entries, the list of those that changed, tiles, what goes out, and the fewest free entries. -/

/-- The device without what the markers of a begin move. -/
def Dev.sansBegin (d : Dev) : Dev := { d.sansLedger.bare with tile := [] }

theorem sansBegin_of_sansLedger {e : Dev} (h : e.sansLedger = d.sansLedger) : e.sansBegin = d.sansBegin := by rw [Dev.sansBegin, h, Dev.sansBegin]

theorem sansBegin_setEnt (x : Option Entry) : (d.setEnt k x).sansBegin = d.sansBegin := rfl
theorem sansBegin_emit (o : Out) : (d.emit o).sansBegin = d.sansBegin := rfl
theorem sansBegin_updTi (f p t : Nat) (g : TileS → TileS) : (d.updTi f p t g).sansBegin = d.sansBegin := rfl
theorem sansBegin_wr (x : Fld) (n : Nat) : (d.wr x n).sansBegin = d.sansBegin := rfl
theorem sansBegin_noteFree : (noteFree d).sansBegin = d.sansBegin := by
  rw [noteFree, sansBegin_wr]

theorem bare_of_sansBegin {e : Dev} (h : e.sansBegin = d.sansBegin) :
    e.bare = Dev.bare { d with led := { d.led with ents := e.led.ents, changed := e.led.changed }, tile := e.tile, out := e.out } :=
  calc e.bare = { e.sansBegin.setLedger e.led.ents e.led.changed e.out with tile := e.tile } := rfl
    _ = { d.sansBegin.setLedger e.led.ents e.led.changed e.out with tile := e.tile } := by rw [h]
    _ = _ := rfl

theorem sansBegin_begun : (d.begun k m).sansBegin = d.sansBegin := by
  rw [Dev.begun, sansBegin_updTi, sansBegin_setEnt, sansBegin_noteFree, sansBegin_setEnt]

theorem rd_noteFree {x : Fld} (h : x.apart LG_MINFREE_MIN) : (noteFree d).rd x = d.rd x := rd_wr_apart _ h

theorem rd_begun {x : Fld} (h : x.apart LG_MINFREE_MIN) : (d.begun k m).rd x = d.rd x := by
  rw [Dev.begun, Dev.updTi_rd, Dev.setEnt_rd, rd_noteFree h, Dev.setEnt_rd]

theorem ent_begun : (d.begun k m).ent k = some (d.begunEntry m) := by
  rw [Dev.begun, Dev.updTi_ent, ent_setEnt]

theorem ent_begun_ne {i : Nat} (h : i ≠ k) : (d.begun k m).ent i = d.ent i := by
  rw [Dev.begun, Dev.updTi_ent, ent_setEnt_ne _ _ h, ent_noteFree, ent_setEnt_ne _ _ h]

theorem ti_begun : (d.begun k m).ti m.field m.patch m.tile =
    { d.ti m.field m.patch m.tile with cur := some (tagJob m.tag, tagSeq m.tag), job := some (tagJob m.tag) } := by
  rw [Dev.begun, ti_updTi, Dev.setEnt_ti, noteFree, Dev.wr_ti, Dev.setEnt_ti]

theorem out_begun : (d.begun k m).out = d.out := by
  rw [Dev.begun, Dev.updTi_out, Dev.setEnt_out, noteFree, Dev.wr_out, Dev.setEnt_out]

theorem early_of_sansBegin {e : Dev} (h : e.sansBegin = d.sansBegin) : e.led.early = d.led.early := by
  change e.sansBegin.led.early = d.sansBegin.led.early
  rw [h]

theorem recList_of_sansBegin {e : Dev} (h : e.sansBegin = d.sansBegin) : e.recList = d.recList := by
  change e.sansBegin.recList = d.sansBegin.recList
  rw [h]

theorem keyOnly_begun (h : d.keyIx (tagJob m.tag) (tagSeq m.tag) = none) : (d.begun k m).keyOnly (tagJob m.tag) (tagSeq m.tag) k := by
  have hnote (x : Entry) : (noteFree (d.setEnt k (some x))).keyOnly (tagJob m.tag) (tagSeq m.tag) k :=
    keyOnly_of_ents (by rw [noteFree, Dev.wr_led]) (keyOnly_setEnt (keyOnly_of_none h))
  exact keyOnly_of_ents (by rw [Dev.begun, Dev.updTi_led]) (keyOnly_setEnt (hnote _))

/-- The sentinel shows the tile of a begin the tag of its entry, which is not sewn. -/
theorem showTag_begun {e : Dev} {x : Entry} (hcur : (e.ti m.field m.patch m.tile).cur = some (tagJob m.tag, tagSeq m.tag))
    (hk : e.keyOnly (tagJob m.tag) (tagSeq m.tag) k) (hx : e.ent k = some x) (hr : x.remote = false) (hj : x.job = tagJob m.tag)
    (hq : x.seq = tagSeq m.tag) (hst : x.st ≠ .sewn) :
    showTag m e = e.emit (.outTag m.field m.patch m.tile (outTag k x.gen (tagSeq m.tag) (tagJob m.tag)) true) := by
  have htag : e.tileTag m.field m.patch m.tile = some (outTag k x.gen (tagSeq m.tag) (tagJob m.tag)) := by
    rw [Dev.tileTag, Dev.lastStep, hcur, Option.some_or, Option.bind_some, keyIx_of_only hk (live_of_ent hx) hr hj hq, Option.bind_some, hx, Option.bind_some, if_neg hst, hj, hq]
  rw [showTag, htag]

theorem updLed_self {g : LedgerS → LedgerS} (h : g d.led = d.led) : d.updLed g = d := by rw [Dev.updLed, h]

/-- R199: where no mark waits, none is applied. -/
theorem earlyMarks_none {j q : Nat} (h : d.led.early = []) : earlyMarks j q d = d := by
  have hself : d.updLed (fun l => { l with early := l.early.filter fun m => !m.steps.contains (j, q) }) = d := by
    refine updLed_self ?_
    rw [h, List.filter_nil, ← h]
  have hnone : (d.led.early.filter fun m : Mark => m.steps.contains (j, q)) = [] := by rw [h, List.filter_nil]
  rw [earlyMarks]
  dsimp only
  rw [hself, hnone]
  rfl

/-! Re-evaluation (R210, R214). -/

/-- An open entry without producers is sewn once it has ended. -/
theorem evalEnt_open {x : Entry} (h : d.ent k = some x) (hr : x.remote = false) (hst : x.st = .open_) (hp : x.prods = []) :
    evalEnt k d = if x.ended then moveEnt k .sewn x.cause d else d := by
  have hmove : ¬ (x.remote = true ∨ x.st = .sewn ∨ x.st = .poisoned) := by rw [hr, hst]; decide
  rw [evalEnt, h]
  dsimp only
  rw [if_neg hmove, hp]
  simp only [List.filterMap_nil, List.any_nil, List.all_nil, Bool.false_eq_true, and_false, and_true, if_false, h, hst, reduceCtorEq, if_true, closeIf]

/-- R210: an open entry with a BASTED producer at its generation becomes TAINTED. -/
theorem evalEnt_tainted {x y : Entry} {j : Nat} (h : d.ent k = some x) (hr : x.remote = false) (hst : x.st = .open_) (hp : x.prods = [(j, y.gen)])
    (hy : d.ent j = some y) (hb : y.st = .basted) (hc : y.closed = false) : evalEnt k d = moveEnt k .tainted x.cause d := by
  have hmove : ¬ (x.remote = true ∨ x.st = .sewn ∨ x.st = .poisoned) := by rw [hr, hst]; decide
  have hpoisons : y.poisons = false := by simp [Entry.poisons, hb]
  have htaints : y.taints = true := by simp [Entry.taints, hb]
  rw [evalEnt, h]
  dsimp only
  rw [if_neg hmove, hp]
  simp only [List.filterMap_cons, List.filterMap_nil, hy, Option.map_some, List.any_cons, List.any_nil, hpoisons, htaints, hc, Bool.or_false, Nat.lt_irrefl,
    decide_false, Bool.false_eq_true, and_false, if_false, h, hst, reduceCtorEq, if_true, closeIf]

/-! A begin without tags, and one with the tag of a BASTED producer. -/

/-- The device after the first begin of a step without tags: its entry OPEN, its tile told the tag. -/
theorem applyBegin_untagged {g : Fin 96} (h : d.mayBegin m g k) (ht : m.tags = []) (he : d.led.early = []) :
    applyBegin m d = (d.begun k m).emit (.outTag m.field m.patch m.tile (outTag k 0 (tagSeq m.tag) (tagJob m.tag)) true) := by
  have hcur : ((d.begun k m).ti m.field m.patch m.tile).cur = some (tagJob m.tag, tagSeq m.tag) := by rw [ti_begun]
  have hshow := showTag_begun (e := d.begun k m) hcur (keyOnly_begun h.new) ent_begun rfl rfl rfl (fun h => nomatch h)
  rw [applyBegin_new h, ht]
  dsimp only [forL, List.foldl_nil]
  rw [hshow, evalEnt_open (x := d.begunEntry m) ((Dev.emit_ent _ _ _).trans ent_begun) rfl rfl rfl]
  refine (earlyMarks_none ?_).trans rfl
  exact (early_of_sansBegin ((sansBegin_emit _).trans sansBegin_begun)).trans he

theorem localTag_begun {t : OutTag} : (d.begun k m).localTag t = d.localTag t := by
  rw [Dev.localTag, Dev.localTag, Dev.selfValid, Dev.selfValid, Dev.selfAddr, Dev.selfAddr, Dev.rdB, Dev.rdB, rd_begun (by decide), rd_begun (by decide)]

theorem proxyIx_begun {t : OutTag} {j : Nat} (hj : j ≠ k) (h : d.proxyIx t = some j) : (d.begun k m).proxyIx t = some j :=
  proxyIx_setEnt (d := noteFree (d.setEnt k _)) rfl hj (proxyIx_setEnt (d := d) rfl hj h)

/-- R212, R224: the entry that a tag finds. -/
def Dev.found (d : Dev) (t : OutTag) : Option (Nat × Entry) :=
  if d.localTag t then
    (match d.ent t.index with
      | some e => if !e.remote ∧ e.job = t.job ∧ e.seq % 2 ^ 32 = t.seq then some (t.index, e) else none
      | none => none)
  else (d.proxyIx t).bind fun k => (d.ent k).map (k, ·)

theorem tagRef_eq (own : Option Nat) (t : OutTag) : d.tagRef own t = match d.found t with
    | none => none
    | some (k, e) => if some k = own ∨ (e.st = .sewn ∧ (e.gen = t.gen ∨ (!e.remote ∧ e.gen < t.gen))) then none else some (k, t.gen) := rfl

theorem tagRef_of_found {own : Option Nat} {t : OutTag} {j : Nat} {y : Entry} (hf : d.found t = some (j, y)) (ho : some j ≠ own) (hy : y.st ≠ .sewn) :
    d.tagRef own t = some (j, t.gen) := by
  rw [tagRef_eq, hf]
  exact if_neg fun h => h.elim ho fun h => hy h.1

theorem ent_of_found {t : OutTag} {j : Nat} {y : Entry} (h : d.found t = some (j, y)) : d.ent j = some y := by
  rw [Dev.found] at h
  split at h
  · split at h
    · next e he =>
      split at h
      · obtain ⟨rfl, rfl⟩ := Prod.mk.inj (Option.some.inj h)
        exact he
      · cases h
    · cases h
  · obtain ⟨n, -, hn⟩ := Option.bind_eq_some_iff.mp h
    obtain ⟨e, he, hne⟩ := Option.map_eq_some_iff.mp hn
    obtain ⟨rfl, rfl⟩ := Prod.mk.inj hne
    exact he

theorem found_of_tagRef {own : Option Nat} {t : OutTag} {j g : Nat} (h : d.tagRef own t = some (j, g)) : t.gen = g ∧ ∃ y, d.found t = some (j, y) := by
  rw [tagRef_eq] at h
  split at h
  · cases h
  · next k e hf =>
    split at h
    · cases h
    · obtain ⟨rfl, rfl⟩ := Prod.mk.inj (Option.some.inj h)
      exact ⟨rfl, e, hf⟩

/-- The entry that a tag finds is found still where another entry has been begun. -/
theorem found_begun {t : OutTag} {j : Nat} {y : Entry} (hj : j ≠ k) (h : d.found t = some (j, y)) :
    (d.begun k m).found t = some (j, y) ∧ (d.begun k m).needsProxy t = false := by
  have hent : (d.begun k m).ent j = d.ent j := ent_begun_ne hj
  rw [Dev.found, Dev.needsProxy, localTag_begun]
  rw [Dev.found] at h
  cases hl : d.localTag t with
  | true =>
    rw [hl, if_pos rfl] at h
    refine ⟨?_, rfl⟩
    have hi : t.index = j := by
      split at h
      · split at h
        · exact (Prod.mk.inj (Option.some.inj h)).1
        · cases h
      · cases h
    have hent' : (d.begun k m).ent t.index = d.ent t.index := ent_begun_ne fun h => hj (hi.symm.trans h)
    rw [if_pos rfl, hent']
    exact h
  | false =>
    rw [hl, if_neg Bool.false_ne_true] at h
    obtain ⟨n, hn, hny⟩ := Option.bind_eq_some_iff.mp h
    obtain ⟨e, he, hne⟩ := Option.map_eq_some_iff.mp hny
    obtain ⟨rfl, rfl⟩ := Prod.mk.inj hne
    rw [if_neg Bool.false_ne_true, proxyIx_begun hj hn, Option.bind_some, hent, he]
    exact ⟨rfl, rfl⟩

/-- R212: the reference that the tag of a BASTED producer adds to a new entry. -/
theorem addTag_basted {t : OutTag} {j : Nat} {y : Entry} (hj : j ≠ k) (ht : d.tagRef none t = some (j, y.gen)) (hy : d.ent j = some y) (hb : y.st = .basted) :
    addTag k t (d.begun k m) = (d.begun k m).setEnt k (some { d.begunEntry m with prods := [(j, y.gen)] }) := by
  obtain ⟨hg, z, hf⟩ := found_of_tagRef ht
  obtain rfl : y = z := Option.some.inj (hy.symm.trans (ent_of_found hf))
  obtain ⟨hf', hn⟩ := found_begun (m := m) hj hf
  have href : (d.begun k m).tagRef (some k) t = some (j, y.gen) := by
    rw [tagRef_of_found hf' (fun h => hj (Option.some.inj h)) (by rw [hb]; decide), hg]
  rw [addTag, if_neg (by rw [hn]; decide), href]
  dsimp only
  rw [ent_of_found hf']
  dsimp only
  rw [if_neg fun h => Nat.lt_irrefl _ h.2, addRef, updEnt_of _ ent_begun]
  rfl

theorem time_of_sansBegin {e : Dev} (h : e.sansBegin = d.sansBegin) : e.time = d.time := by
  change e.sansBegin.time = d.sansBegin.time
  rw [h]

/-- R210: the entry of a step that one tile has begun with the tag of a BASTED producer. -/
def Dev.taintedEntry (d : Dev) (m : BeginM) (p : Nat × Nat) : Entry := { d.begunEntry m with st := .tainted, prods := [p] }

theorem moved_tainted {e : Dev} {p : Nat × Nat} (h : e.time = d.time) :
    Entry.moved e .tainted .none { d.begunEntry m with prods := [p] } = d.taintedEntry m p := by
  rw [Entry.moved, h]
  rfl

/-- What the first begin of a step leaves. -/
structure Dev.Begins (d : Dev) (m : BeginM) (k : Nat) (x : Entry) (e : Dev) : Prop where
  entry : e.ent k = some x
  tile : e.ti m.field m.patch m.tile = { d.ti m.field m.patch m.tile with cur := some (tagJob m.tag, tagSeq m.tag), job := some (tagJob m.tag) }
  told : e.out = .outTag m.field m.patch m.tile (outTag k 0 (tagSeq m.tag) (tagJob m.tag)) true :: d.out
  parts : e.sansBegin = d.sansBegin
  regs : ∀ x : Fld, x.apart LG_MINFREE_MIN → e.rd x = d.rd x

theorem begins_untagged {g : Fin 96} (h : d.mayBegin m g k) (ht : m.tags = []) (he : d.led.early = []) : d.Begins m k (d.begunEntry m) (applyBegin m d) := by
  rw [applyBegin_untagged h ht he]
  refine ⟨(Dev.emit_ent _ _ _).trans ent_begun, (Dev.emit_ti _ _ _ _ _).trans ti_begun, ?_, (sansBegin_emit _).trans sansBegin_begun, fun x hx => ?_⟩
  · exact congrArg (_ :: ·) out_begun
  · rw [emit_rd, rd_begun hx]

theorem begins_tagged {g : Fin 96} {t : OutTag} {j : Nat} {y : Entry} (h : d.mayBegin m g k) (ht : m.tags = [t]) (he : d.led.early = [])
    (hj : j ≠ k) (href : d.tagRef none t = some (j, y.gen)) (hy : d.ent j = some y) (hb : y.st = .basted) (hc : y.closed = false) :
    d.Begins m k (d.taintedEntry m (j, y.gen)) (applyBegin m d) := by
  have hshow : showTag m ((d.begun k m).setEnt k (some { d.begunEntry m with prods := [(j, y.gen)] })) =
      ((d.begun k m).setEnt k (some { d.begunEntry m with prods := [(j, y.gen)] })).emit
        (.outTag m.field m.patch m.tile (outTag k 0 (tagSeq m.tag) (tagJob m.tag)) true) := by
    refine showTag_begun (x := { d.begunEntry m with prods := [(j, y.gen)] }) ?_ (keyOnly_setEnt (keyOnly_begun h.new)) (ent_setEnt _ _ _) rfl rfl rfl fun h => nomatch h
    rw [Dev.setEnt_ti, ti_begun]
  have hk : (((d.begun k m).setEnt k (some { d.begunEntry m with prods := [(j, y.gen)] })).emit
      (.outTag m.field m.patch m.tile (outTag k 0 (tagSeq m.tag) (tagJob m.tag)) true)).ent k = some { d.begunEntry m with prods := [(j, y.gen)] } :=
    (Dev.emit_ent _ _ _).trans (ent_setEnt _ _ _)
  have hj' : (((d.begun k m).setEnt k (some { d.begunEntry m with prods := [(j, y.gen)] })).emit
      (.outTag m.field m.patch m.tile (outTag k 0 (tagSeq m.tag) (tagJob m.tag)) true)).ent j = some y :=
    (Dev.emit_ent _ _ _).trans ((ent_setEnt_ne _ _ hj).trans ((ent_begun_ne hj).trans hy))
  have hparts : (((d.begun k m).setEnt k (some { d.begunEntry m with prods := [(j, y.gen)] })).emit
      (.outTag m.field m.patch m.tile (outTag k 0 (tagSeq m.tag) (tagJob m.tag)) true)).sansBegin = d.sansBegin := by
    rw [sansBegin_emit, sansBegin_setEnt, sansBegin_begun]
  have htile : (((d.begun k m).setEnt k (some { d.begunEntry m with prods := [(j, y.gen)] })).emit
      (.outTag m.field m.patch m.tile (outTag k 0 (tagSeq m.tag) (tagJob m.tag)) true)).tile = (d.begun k m).tile := by
    rw [Dev.emit_tile, Dev.setEnt_tile]
  have hregs (x : Fld) (hx : x.apart LG_MINFREE_MIN) : (((d.begun k m).setEnt k (some { d.begunEntry m with prods := [(j, y.gen)] })).emit
      (.outTag m.field m.patch m.tile (outTag k 0 (tagSeq m.tag) (tagJob m.tag)) true)).rd x = d.rd x := by
    rw [emit_rd, Dev.setEnt_rd, rd_begun hx]
  have hout : (((d.begun k m).setEnt k (some { d.begunEntry m with prods := [(j, y.gen)] })).emit
      (.outTag m.field m.patch m.tile (outTag k 0 (tagSeq m.tag) (tagJob m.tag)) true)).out =
      .outTag m.field m.patch m.tile (outTag k 0 (tagSeq m.tag) (tagJob m.tag)) true :: d.out :=
    congrArg (_ :: ·) ((Dev.setEnt_out _ _ _).trans out_begun)
  rw [applyBegin_new h, ht, forL_one, addTag_basted hj href hy hb, hshow]
  generalize Dev.emit _ (Dev.setEnt _ _ _) = e at hk hj' hparts htile hregs hout ⊢
  rw [evalEnt_tainted hk rfl rfl rfl hj' hb hc]
  have hmoved : Entry.moved e .tainted .none { d.begunEntry m with prods := [(j, y.gen)] } = d.taintedEntry m (j, y.gen) := moved_tainted (time_of_sansBegin hparts)
  obtain ⟨hent, hsans, hto⟩ := moveEnt_quiet (st := .tainted) (c := .none) hk (fun h => nomatch h) rfl (by rw [hmoved]; rfl) (by rw [hmoved]; rfl)
  rw [hmoved] at hent hto
  change d.Begins m k (d.taintedEntry m (j, y.gen)) (earlyMarks _ _ (moveEnt k .tainted .none e))
  have hb' : (moveEnt k .tainted .none e).sansBegin = d.sansBegin := (sansBegin_of_sansLedger hsans).trans hparts
  have ht' : (moveEnt k .tainted .none e).tile = e.tile := by
    change (moveEnt k .tainted .none e).sansLedger.tile = e.sansLedger.tile
    rw [hsans]
  rw [earlyMarks_none ((early_of_sansBegin hb').trans he)]
  refine ⟨hent, ?_, hto.trans hout, hb', fun x hx => (rd_of_sansLedger hsans x).trans (hregs x hx)⟩
  rw [← ti_begun (k := k), Dev.ti, ht', htile, Dev.ti]

end

/-! BEGIN and BEGIN_GO (R206, R208). -/

section
variable {d : Dev} {m : BeginM}

theorem begin_routed (h : d.runOf m.field m.patch m.tag = none) : begin_ m d = inOrder (.begin_ m) (beginNow m) d := by
  rw [begin_, h]
  exact if_neg Bool.false_ne_true

theorem runOf_idle {f p t : Nat} (h : d.recList = []) : d.runOf f p t = none := by rw [Dev.runOf, h, List.findSome?_nil]

theorem beginNow_discards (h : d.discards m.field m.patch m.tag = true) : beginNow m d = evt 7 d := by rw [beginNow, if_pos h]

theorem beginNow_waits (h : d.discards m.field m.patch m.tag = false) (hw : d.beginWaits m = true) : beginNow m d =
    (evt 2 (d.updLed fun l => { l with waits := l.waits ++ [m] })).emit (.stepAnswer m.field m.patch m.tile false) := by
  rw [beginNow, if_neg (by rw [h]; decide), if_pos hw]

theorem beginNow_applies (h : d.discards m.field m.patch m.tag = false) (hw : d.beginWaits m = false) (hs : (applyBegin m d).recList = []) : beginNow m d =
    if m.tags ≠ [] || d.grantMode || d.creditOut m.field then (applyBegin m d).emit (.stepAnswer m.field m.patch m.tile true) else applyBegin m d := by
  rw [beginNow, if_neg (by rw [h]; decide), if_neg (by rw [hw]; decide)]
  dsimp only
  rw [schedule_idle hs]

/-- R206: the one begin that waits goes on. -/
theorem retryWaits_one (hrun : d.stopped = false) (hl : d.led.waits = [m]) (hw : (d.updLed fun l => { l with waits := [] }).beginWaits m = false)
    (hs : (applyBegin m (d.updLed fun l => { l with waits := [] })).recList = []) :
    retryWaits d = (applyBegin m (d.updLed fun l => { l with waits := [] })).emit (.stepAnswer m.field m.patch m.tile true) := by
  rw [retryWaits, if_neg (not_stopped hrun), hl]
  dsimp only
  rw [forL_one, if_neg (by rw [hw]; decide)]
  exact schedule_idle hs

end

/-- What a first begin changes, where b tells whether its tile is told to go. -/
theorem completes_begins {c : Instr} {s : State} {h : Dev → Dev} {m : BeginM} {k : Nat} {x : Entry} {d e : Dev} {b : Bool} {u : LedgerS → LedgerS}
    (hc : exec c s = done h s) (hs : s.awake) (hd : d = s.dev.updLed u) (he : d.Begins m k x e)
    (hg : h s.dev = if b then e.emit (.stepAnswer m.field m.patch m.tile true) else e) : Completes c s fun t =>
      t.dev.ent k = some x ∧ t.dev.ti m.field m.patch m.tile =
        { s.dev.ti m.field m.patch m.tile with cur := some (tagJob m.tag, tagSeq m.tag), job := some (tagJob m.tag) } ∧
      t.dev.out = (if b then [.stepAnswer m.field m.patch m.tile true, .outTag m.field m.patch m.tile (outTag k 0 (tagSeq m.tag) (tagJob m.tag)) true] ++ s.dev.out
        else .outTag m.field m.patch m.tile (outTag k 0 (tagSeq m.tag) (tagJob m.tag)) true :: s.dev.out) ∧
      s.changes t { d with led := { d.led with ents := t.dev.led.ents, changed := t.dev.led.changed }, tile := t.dev.tile, out := t.dev.out } [LG_MINFREE_MIN] := by
  obtain ⟨hent, hti, hout, hparts, hregs⟩ := he
  have hout' : e.out = .outTag m.field m.patch m.tile (outTag k 0 (tagSeq m.tag) (tagJob m.tag)) true :: s.dev.out := by
    rw [hout, hd]
    rfl
  have hti' : e.ti m.field m.patch m.tile = { s.dev.ti m.field m.patch m.tile with cur := some (tagJob m.tag, tagSeq m.tag), job := some (tagJob m.tag) } := by
    rw [hti, hd]
    rfl
  have hregs' (z : Fld) (hz : z.apart LG_MINFREE_MIN) : e.rd z = s.dev.rd z := by rw [hregs z hz, hd, updLed_rd]
  cases b with
  | true =>
    rw [if_pos rfl] at hg ⊢
    refine completes_eq hc hs hg ⟨?_, ?_, ?_, ?_⟩
    · rw [ent_settle, Dev.emit_ent, hent]
    · rw [ti_settle, Dev.emit_ti, hti']
    · rw [settle_out]
      exact congrArg (_ :: ·) hout'
    · rw [settle_led, settle_tile, settle_out]
      exact changes_bare (bare_of_sansBegin ((sansBegin_emit _).trans hparts)) fun z hz => (emit_rd _ _ _).trans (hregs' z (hz _ (by simp)))
  | false =>
    rw [if_neg Bool.false_ne_true] at hg ⊢
    refine completes_eq hc hs hg ⟨?_, ?_, ?_, ?_⟩
    · rw [ent_settle, hent]
    · rw [ti_settle, hti']
    · rw [settle_out, hout']
    · rw [settle_led, settle_tile, settle_out]
      exact changes_bare (bare_of_sansBegin hparts) fun z hz => hregs' z (hz _ (by simp))

/-- Settles O28. -/
theorem beginsAreApplied : Obligations.BeginsAreApplied := by
  unfold Obligations.BeginsAreApplied
  refine ⟨fun s f p n tag stamp g k hs hw hidle hearly hdisc hbusy hwait hnew hprev htiles hroom hcur hwatch hfree => ?_,
    fun s f p n tag stamp o g k j y x hs hw hidle hearly hdisc hbusy hwait hnew hprev htiles hroom hcur hwatch hfree hproxy href hkj hx hb hc hgen => ?_,
    fun s f p n tag stamp l hs hw hrun hdisc hwait => ?_, fun s f p n tag stamp l hs hw hrun hdisc => ?_, fun s f p n tag stamp l hs hrun hw => ?_,
    fun s f p n tag stamp g k hs hstop hidle hearly hwaits hwait hnew hprev htiles hroom hcur hwatch hfree => ?_⟩
  · have hmay : (s.dev.atClass 1).mayBegin (beginM f p n tag [] stamp) g k := ⟨hnew, hprev, htiles, hroom, hcur, hbusy, hwatch, hfree⟩
    have hbegins := begins_untagged hmay rfl hearly
    have hg : begin_ (beginM f p n tag [] stamp) s.dev = if s.dev.grantMode || s.dev.creditOut f then
        (applyBegin (beginM f p n tag [] stamp) (s.dev.atClass 1)).emit (.stepAnswer f p n.toNat true) else applyBegin (beginM f p n tag [] stamp) (s.dev.atClass 1) :=
      (begin_routed (runOf_idle hidle)).trans ((inOrder_now hw).trans
        (beginNow_applies (d := s.dev.atClass 1) hdisc hwait ((recList_of_sansBegin hbegins.parts).trans hidle)))
    refine (completes_begins (u := fun l => { l with cls := 1 }) rfl hs rfl hbegins hg).mono fun t ht => ?_
    simp only [Bool.or_eq_true] at ht
    exact ht
  · have hmay : (s.dev.atClass 1).mayBegin (beginM f p n tag [o] stamp) g k := ⟨hnew, hprev, htiles, hroom, hcur, hbusy, hwatch, hfree⟩
    have hbegins := begins_tagged (t := outTagOf o) hmay rfl hearly (Ne.symm hkj) (hgen ▸ href) hx hb hc
    have hg : begin_ (beginM f p n tag [o] stamp) s.dev = if true then
        (applyBegin (beginM f p n tag [o] stamp) (s.dev.atClass 1)).emit (.stepAnswer f p n.toNat true) else applyBegin (beginM f p n tag [o] stamp) (s.dev.atClass 1) :=
      (begin_routed (runOf_idle hidle)).trans ((inOrder_now hw).trans
        (beginNow_applies (d := s.dev.atClass 1) hdisc hwait ((recList_of_sansBegin hbegins.parts).trans hidle)))
    rw [hgen] at hbegins
    refine (completes_begins (u := fun l => { l with cls := 1 }) rfl hs rfl hbegins hg).mono fun t ht => ?_
    rw [if_pos rfl] at ht
    exact ht
  · have hg : begin_ (beginM f p n tag l stamp) s.dev = (evt 2 ((s.dev.atClass 1).updLed fun x => { x with waits := x.waits ++ [beginM f p n tag l stamp] })).emit
        (.stepAnswer f p n.toNat false) :=
      (begin_routed hrun).trans ((inOrder_now hw).trans (beginNow_waits (d := s.dev.atClass 1) hdisc hwait))
    refine completes_eq rfl hs hg ⟨?_, ?_, ?_, ?_⟩
    · rw [settle_led]
      rfl
    · rw [settle_out]
      rfl
    · rw [rd_settle (by decide), emit_rd, evt, rd_inc_eq (by decide), updLed_rd, atClass_rd]
      rfl
    · rw [settle_led, settle_out]
      refine changes_bare ?_ fun y hy => ?_
      · rw [bare_emit, evt, bare_inc]
        rfl
      · rw [emit_rd, evt, rd_inc_apart (hy _ (by simp)), updLed_rd, atClass_rd]
  · have hg : begin_ (beginM f p n tag l stamp) s.dev = evt 7 (s.dev.atClass 1) :=
      (begin_routed hrun).trans ((inOrder_now hw).trans (beginNow_discards (d := s.dev.atClass 1) hdisc))
    refine completes_eq rfl hs hg ⟨?_, changes_bare ?_ fun y hy => ?_⟩
    · rw [rd_settle (by decide), evt, rd_inc_eq (by decide), atClass_rd]
      rfl
    · rw [evt, bare_inc]
      rfl
    · rw [evt, rd_inc_apart (hy _ (by simp)), atClass_rd]
  · refine completes_eq rfl hs ((begin_routed hrun).trans (inOrder_waits hw)) ⟨?_, ?_⟩
    · rw [settle_led]
      rfl
    · rw [settle_led]
      exact changes_bare rfl fun y _ => updLed_rd _ _ _
  · have hmay : (s.dev.updLed fun l => { l with waits := [] }).mayBegin (beginM f p n tag [] stamp) g k :=
      ⟨hnew, hprev, htiles, hroom, hcur, rfl, hwatch, hfree⟩
    have hbegins := begins_untagged hmay rfl hearly
    have hg : retryWaits s.dev = if true then (applyBegin (beginM f p n tag [] stamp) (s.dev.updLed fun l => { l with waits := [] })).emit (.stepAnswer f p n.toNat true)
        else applyBegin (beginM f p n tag [] stamp) (s.dev.updLed fun l => { l with waits := [] }) :=
      retryWaits_one hstop hwaits hwait ((recList_of_sansBegin hbegins.parts).trans hidle)
    refine (completes_begins (u := fun l => { l with waits := [] }) rfl hs rfl hbegins hg).mono fun t ht => ?_
    rw [if_pos rfl] at ht
    obtain ⟨h1, h2, h3, h4⟩ := ht
    refine ⟨h1, h2, ?_, h3, h4⟩
    obtain ⟨hparts, -⟩ := h4
    exact congrArg (fun x : State => x.dev.led.waits) hparts

end Sys2Proof.Machine
end

section
/-! O29: end markers, suspect marks, and the markers of a run (R200, R202, R210, R215, R234, R235, R237). -/

namespace Sys2Proof.Machine

/-! END (R202, R210). -/

section
variable {d : Dev} {m : EndM} {k : Nat} {e : Entry}

/-- R208: where no mark is on its way, none is applied before an end. -/
theorem marksFor_none {f p : Nat} (h : d.led.marks = []) : marksFor f p d = d := by
  have hself : d.updLed (fun l => { l with marks := l.marks.filter fun m => !(m.field = f && m.patches.contains p) }) = d := by
    refine updLed_self ?_
    rw [h, List.filter_nil, ← h]
  have hnone : (d.led.marks.filter fun m : Mark => m.field = f && m.patches.contains p) = [] := by rw [h, List.filter_nil]
  rw [marksFor]
  dsimp only
  rw [hself, hnone]
  rfl

theorem end_unmarked (hr : d.runOf m.field m.patch m.tag = none) (hm : d.led.marks = []) (hw : d.eventWaits (.end_ m) = false) : end_ m d = endNow m (d.atClass 3) := by
  have hno : ¬ (3 ≤ d.led.cls ∧ (d.led.marks.any fun x => x.field = m.field && x.patches.contains m.patch) = true) := by
    rw [hm]
    exact fun h => Bool.false_ne_true h.2
  rw [end_, hr, if_neg (by decide), if_neg hno, inOrder_now hw]
  exact congrArg (endNow m) (marksFor_none (d := d.atClass 3) hm)

theorem end_waits (hr : d.runOf m.field m.patch m.tag = none) (hw : d.eventWaits (.end_ m) = true) :
    end_ m d = d.updLed fun l => { l with later := l.later ++ [.end_ m] } := by
  rw [end_, hr, if_neg (by decide), inOrder_waits hw]
  exact ite_self _

/-- R202, R210: an end that its entry takes. -/
structure Dev.takesEnd (d : Dev) (m : EndM) (k : Nat) (e : Entry) : Prop where
  kept : d.discards m.field m.patch m.tag = false
  key : d.keyIx (tagJob m.tag) (tagSeq m.tag) = some k
  entry : d.ent k = some e
  field : e.field = m.field
  begun : e.begTiles.contains (m.patch * 256 + m.tile) = true
  open_ : e.endTiles.contains (m.patch * 256 + m.tile) = false
  foot : e.foot = tagFoot m.tag
  state : e.st = .open_
  room : e.endCnt < footTiles e.foot
  stats : e.stats = none

/-- R210: an entry without statistics that takes one more end. -/
def Entry.counted (m : EndM) (e : Entry) : Entry :=
  { e with endCnt := e.endCnt + 1, endTiles := e.endTiles ++ [m.patch * 256 + m.tile], digest := (e.digest + m.digest) % 2 ^ 64
           ended := e.endCnt + 1 = footTiles e.foot, stats := none }

/-- R210: the device in which an end is counted, and its tile free. -/
def Dev.countedEnd (k : Nat) (m : EndM) (e : Entry) (d : Dev) : Dev :=
  ((d.setEnt k (some (e.counted m))).updTi m.field m.patch m.tile fun x => { x with cur := none, prev := some (tagJob m.tag, tagSeq m.tag) }).updPt m.field m.patch
    fun x => { x with stepsEnded := distinct (x.stepsEnded ++ [(tagJob m.tag, tagSeq m.tag)]) }

theorem endNow_takes (h : d.takesEnd m k e) : endNow m d =
    schedule (evalEnt k (auditSelect k m.patch (if m.poison then poisonEnt k .poison (d.countedEnd k m e) else d.countedEnd k m e))) := by
  obtain ⟨hkept, hkey, hent, hfield, hbeg, hopen, hfoot, hst, hroom, hstats⟩ := h
  have hok : ¬ (e.field ≠ m.field ∨ (!e.begTiles.contains (m.patch * 256 + m.tile)) = true ∨ e.endTiles.contains (m.patch * 256 + m.tile) = true ∨
      footTiles e.foot ≤ e.endCnt ∨ e.foot ≠ tagFoot m.tag ∨ e.st = .sewn) := by
    rw [hfield, hbeg, hopen, hfoot, hst]
    rw [hfoot] at hroom
    simp [Nat.not_le.mpr hroom]
  rw [endNow]
  simp only
  rw [if_neg (by rw [hkept]; decide), hkey]
  simp only
  rw [hent]
  simp only
  rw [if_neg hok, hstats]
  rw [Option.map_none]
  split
  · next hsome => cases hsome
  · rfl

theorem counted_open (hs : e.stats = none) (hl : e.endCnt + 1 < footTiles e.foot) : e.counted m = { e with
    ended := false, endCnt := e.endCnt + 1, endTiles := e.endTiles ++ [m.patch * 256 + m.tile], digest := (e.digest + m.digest) % 2 ^ 64 } := by
  rw [Entry.counted, decide_eq_false (Nat.ne_of_lt hl), ← hs]

theorem counted_sewn {y : Dev} {c : Cause} (ht : y.time = d.time) (hp : e.prods = []) (hs : e.stats = none) (hn : e.notes = []) (hw : e.wdraw = false) (hh : e.held = false)
    (hl : e.endCnt + 1 = footTiles e.foot) : Entry.moved y .sewn c (e.counted m) = { e with
      st := .sewn, cause := c, ended := true, endCnt := e.endCnt + 1, endTiles := e.endTiles ++ [m.patch * 256 + m.tile]
      digest := (e.digest + m.digest) % 2 ^ 64, spick := d.time.count % 2 ^ 32, since := d.time.nbRun, nbAt := d.time.nb, closed := false, reDone := false } := by
  rw [moved_sewn (e := e.counted m) hn hw hh, ht, Entry.counted, decide_eq_true hl, ← hs]
  dsimp only
  rw [← hp]

/-! What an end moves: entries, the list of those that changed, tiles, patches, and what goes out. -/

/-- The device without what the marker of an end moves. -/
def Dev.sansEnd (d : Dev) : Dev := { d.sansLedger with tile := [], pat := [] }

theorem sansEnd_of_sansLedger {e : Dev} (h : e.sansLedger = d.sansLedger) : e.sansEnd = d.sansEnd := by rw [Dev.sansEnd, h, Dev.sansEnd]

theorem sansEnd_countedEnd : (d.countedEnd k m e).sansEnd = d.sansEnd := rfl

theorem bare_of_sansEnd {e : Dev} (h : e.sansEnd = d.sansEnd) : e.bare =
    Dev.bare { d with led := { d.led with ents := e.led.ents, changed := e.led.changed }, tile := e.tile, pat := e.pat, out := e.out } :=
  calc e.bare = Dev.bare { e.sansEnd.setLedger e.led.ents e.led.changed e.out with tile := e.tile, pat := e.pat } := rfl
    _ = Dev.bare { d.sansEnd.setLedger e.led.ents e.led.changed e.out with tile := e.tile, pat := e.pat } := by rw [h]
    _ = _ := rfl

theorem rd_of_sansEnd {e : Dev} (h : e.sansEnd = d.sansEnd) (x : Fld) : e.rd x = d.rd x := by
  change e.sansEnd.rd x = d.sansEnd.rd x
  rw [h]

theorem recList_of_sansEnd {e : Dev} (h : e.sansEnd = d.sansEnd) : e.recList = d.recList := by
  change e.sansEnd.recList = d.sansEnd.recList
  rw [h]

theorem time_of_sansEnd {e : Dev} (h : e.sansEnd = d.sansEnd) : e.time = d.time := by
  change e.sansEnd.time = d.sansEnd.time
  rw [h]

theorem ent_countedEnd : (d.countedEnd k m e).ent k = some (e.counted m) := by
  rw [Dev.countedEnd, Dev.updPt_ent, Dev.updTi_ent, ent_setEnt]

theorem ti_countedEnd : (d.countedEnd k m e).ti m.field m.patch m.tile =
    { d.ti m.field m.patch m.tile with cur := none, prev := some (tagJob m.tag, tagSeq m.tag) } := by
  rw [Dev.countedEnd, Dev.updPt_ti, ti_updTi, Dev.setEnt_ti]

theorem pt_countedEnd : (d.countedEnd k m e).pt m.field m.patch =
    { d.pt m.field m.patch with stepsEnded := distinct ((d.pt m.field m.patch).stepsEnded ++ [(tagJob m.tag, tagSeq m.tag)]) } := by
  rw [Dev.countedEnd, pt_updPt, Dev.updTi_pt, Dev.setEnt_pt]

/-- R247: a step that has not ended, or is not chosen, is not audited. -/
theorem auditSelect_not {p : Nat} {x : Entry} (h : d.ent k = some x) (ha : x.ended = false ∨ d.audited x.job x.seq = false) : auditSelect k p d = d := by
  rw [auditSelect, h]
  refine if_neg fun h' => ?_
  obtain ⟨h1, -, -, h2⟩ := h'
  rcases ha with ha | ha
  · exact Bool.false_ne_true (ha.symm.trans h1)
  · exact Bool.false_ne_true (ha.symm.trans h2)

theorem audited_of_sansEnd {e : Dev} (h : e.sansEnd = d.sansEnd) (j q : Nat) : e.audited j q = d.audited j q := by
  change e.sansEnd.audited j q = d.sansEnd.audited j q
  rw [h]

theorem evalEnt_remote {x : Entry} (h : d.ent k = some x) (hr : x.remote = true) : evalEnt k d = d := by
  rw [evalEnt, h]
  exact if_pos (.inl hr)

/-- R210: an end that is not its step's last is counted. -/
theorem endNow_counts (h : d.takesEnd m k e) (hp : m.poison = false) (hidle : d.recList = []) (hprods : e.prods = [])
    (hlast : e.endCnt + 1 < footTiles e.foot) : endNow m d = d.countedEnd k m e := by
  have hended : (e.counted m).ended = false := decide_eq_false (Nat.ne_of_lt hlast)
  have heval : evalEnt k (d.countedEnd k m e) = d.countedEnd k m e := by
    cases hr : e.remote with
    | true => exact evalEnt_remote ent_countedEnd hr
    | false => rw [evalEnt_open ent_countedEnd hr h.state hprods, hended, if_neg Bool.false_ne_true]
  rw [endNow_takes h, hp, if_neg Bool.false_ne_true, auditSelect_not ent_countedEnd (.inl hended), heval,
    schedule_idle ((recList_of_sansEnd sansEnd_countedEnd).trans hidle)]

/-- R210: the last end of a clean step without producers sews its entry. -/
theorem endNow_sews (h : d.takesEnd m k e) (hp : m.poison = false) (hprods : e.prods = []) (hr : e.remote = false)
    (hlast : e.endCnt + 1 = footTiles e.foot) (ha : d.audited e.job e.seq = false) (hidle : (moveEnt k .sewn e.cause (d.countedEnd k m e)).recList = []) :
    endNow m d = moveEnt k .sewn e.cause (d.countedEnd k m e) := by
  have hended : (e.counted m).ended = true := decide_eq_true hlast
  have haud : (d.countedEnd k m e).audited e.job e.seq = false := (audited_of_sansEnd sansEnd_countedEnd _ _).trans ha
  rw [endNow_takes h, hp, if_neg Bool.false_ne_true, auditSelect_not ent_countedEnd (.inr haud), evalEnt_open ent_countedEnd hr h.state hprods, hended, if_pos rfl]
  exact schedule_idle hidle

/-- A poisoned entry is not re-evaluated. -/
theorem evalEnt_poisoned {x : Entry} (h : d.ent k = some x) (hst : x.st = .poisoned) : evalEnt k d = d := by
  rw [evalEnt, h]
  exact if_pos (.inr (.inr hst))

end

section
variable {d : Dev} {m : EndM}

/-- R215: an end without an entry is a protocol error. -/
theorem endNow_unknown (h : d.discards m.field m.patch m.tag = false) (hk : d.keyIx (tagJob m.tag) (tagSeq m.tag) = none) : endNow m d =
    evt 7 (d.raiseR { d.report .ledger 1 m.field m.patch with
      job := some (tagJob m.tag), addr := 0xFFFF + m.field * 2 ^ 16 + m.patch * 2 ^ 24, master := Master.ledger.code }) := by
  rw [endNow]
  simp only
  rw [if_neg (by rw [h]; decide), hk]
  rfl

end

section
variable {d : Dev} {m : EndM} {k : Nat} {e : Entry}

theorem atClass_report (n : Nat) (d : Dev) (c : FClass) (t f i : Nat) : (d.atClass n).report c t f i = d.report c t f i := rfl

theorem report_of_sansEnd {y : Dev} (h : y.sansEnd = d.sansEnd) (c : FClass) (t f n : Nat) : y.report c t f n = d.report c t f n := by
  change y.sansEnd.report c t f n = d.sansEnd.report c t f n
  rw [h]

/-- R215: an end that poisons its entry, which has no destinations. -/
theorem endNow_poisons (h : d.takesEnd m k e) (hp : m.poison = true) (hidle : d.recList = []) (hlast : e.endCnt + 1 < footTiles e.foot) (hd : e.dests = []) :
    ∃ z : Dev, endNow m d = tellPoison k e.job z ∧ z.sansEnd = d.sansEnd ∧ z.tile = (d.countedEnd k m e).tile ∧ z.pat = (d.countedEnd k m e).pat ∧
      ∃ x : Entry, z.ent k = some x ∧ x.st = .poisoned ∧ x.cause = .poison ∧ x.wgen = e.gen ∧ x.gen = satN 15 (e.gen + 1) ∧ x.endCnt = e.endCnt + 1 := by
  have hst : (e.counted m).st = .open_ := h.state
  have hended : (e.counted m).ended = false := decide_eq_false (Nat.ne_of_lt hlast)
  obtain ⟨y, hy, hent, hsans, -⟩ := moveEnt_undirected (st := .poisoned) (c := .poison) (ent_countedEnd (d := d) (m := m)) (fun h => nomatch hst.symm.trans h) hd
  have hmap := map_offerNotes (f := fun x : Entry => (x.st, x.cause, x.wgen, x.gen, x.endCnt, x.ended)) (fun _ _ _ => rfl) (fun _ _ => rfl) k y
  rw [hent, Option.map_some, Option.map_eq_some_iff] at hmap
  obtain ⟨x, hx, hfields⟩ := hmap
  simp only [Prod.mk.injEq] at hfields
  obtain ⟨hxst, hxc, hxw, hxg, hxn, hxe⟩ := hfields
  have hparts : (offerNotes k y).sansLedger = (d.countedEnd k m e).sansLedger := (sansLedger_offerNotes k y).trans hsans
  have hkeep : (offerNotes k y).tile = (d.countedEnd k m e).tile ∧ (offerNotes k y).pat = (d.countedEnd k m e).pat := by
    rw [eq_of_sansLedger hparts]
    exact ⟨rfl, rfl⟩
  obtain ⟨htile, hpat⟩ := hkeep
  refine ⟨offerNotes k y, ?_, (sansEnd_of_sansLedger hparts).trans sansEnd_countedEnd, htile, hpat, x, hx, hxst, hxc, hxw, hxg, hxn⟩
  have hpoison : poisonEnt k .poison (d.countedEnd k m e) = tellPoison k e.job (offerNotes k y) := by
    have hno : ¬ ((e.counted m).st = .sewn ∨ (e.counted m).st = .poisoned) := by rw [hst]; decide
    rw [poisonEnt, ent_countedEnd]
    dsimp only
    rw [if_neg hno, hy]
    rfl
  have hx' : (tellPoison k e.job (offerNotes k y)).ent k = some x := (Dev.raiseR_ent _ _ _).trans hx
  rw [endNow_takes h, hp, if_pos rfl, hpoison, auditSelect_not hx' (.inl (hxe.trans hended)), evalEnt_poisoned hx' hxst]
  exact schedule_idle ((recList_of_sansEnd ((sansEnd_of_sansLedger hparts).trans sansEnd_countedEnd)).trans hidle)

end

/-! RUN_MARKER (R237). -/

section
variable {d : Dev} {m : RunM} {i : Nat} {r : RRec} {run : Run}

theorem runNow_unknown (h : d.runOf m.field m.patch m.tag = none) : runNow m d = evt 7 d := by
  rw [runNow, h]

theorem runNow_early (h : d.runOf m.field m.patch m.tag = some (i, r, run)) (hf : tagFoot m.tag = r.foot) (he : m.isEnd = false) (hm : d.runMayStart run = false) :
    runNow m d = d.updLed fun l => { l with later := l.later ++ [.run m] } := by
  rw [runNow, h]
  dsimp only
  rw [if_neg (not_not_intro hf), he, hm]
  rfl

end

section
variable {d : Dev} {m : RunM} {i : Nat} {r : RRec} {run : Run}

theorem updRec_of (g : RRec → RRec) (h : d.recd i = some r) : updRec i g d = d.setRecd i (some (g r)) := by rw [updRec, h]

/-- R237: a begin of a tile that its run has not begun. -/
theorem runNow_begins {n : Nat} (h : d.runOf m.field m.patch m.tag = some (i, r, run)) (hi : d.recd i = some r) (hf : tagFoot m.tag = r.foot) (he : m.isEnd = false)
    (hm : d.runMayStart run = true) (hk : run.kind ≠ 1) (hn : n = (run.reg.patches.findIdx? (· = m.patch)).getD 0) (hb : run.beg.contains (n * 256 + m.tile) = false)
    (hl : run.beg.length < footTiles r.foot) : runNow m d = d.setRecd i (some { r with run := some { run with beg := run.beg ++ [n * 256 + m.tile] } }) := by
  subst hn
  rw [runNow, h]
  dsimp only
  rw [if_neg (not_not_intro hf), he, hm, if_pos (show (!false) = true from rfl), if_neg (by decide), hb, if_neg (by simp [Nat.not_le.mpr hl]), updRec_of _ hi]
  split
  · exact if_neg fun h => hk h.1
  · rfl

/-- R237: an end that is not its run's last. -/
theorem runNow_ends {n : Nat} (h : d.runOf m.field m.patch m.tag = some (i, r, run)) (hi : d.recd i = some r) (hf : tagFoot m.tag = r.foot) (he : m.isEnd = true)
    (hp : m.poison = false) (hn : n = (run.reg.patches.findIdx? (· = m.patch)).getD 0) (hb : run.beg.contains (n * 256 + m.tile) = true)
    (hfin : run.fin.contains (n * 256 + m.tile) = false) (hl : run.fin.length + 1 ≠ footTiles r.foot) : runNow m d = d.setRecd i (some
      { r with run := some { run with fin := run.fin ++ [n * 256 + m.tile], sums := run.sums.set n ((run.sums.getD n 0 + m.digest) % 2 ^ 64) } }) := by
  subst hn
  have hl' : ¬ (run.fin ++ [(run.reg.patches.findIdx? (· = m.patch)).getD 0 * 256 + m.tile]).length = footTiles r.foot := by rwa [List.length_append]
  rw [runNow, h]
  dsimp only
  rw [if_neg (not_not_intro hf), he, if_neg (by decide), hb, hfin, if_neg (by decide), hp, if_neg (by decide), if_neg hl', updRec_of _ hi]

end

/-- What a marker of a run changes in its record. -/
theorem completes_run {c : Instr} {s : State} {h : Dev → Dev} {i : Nat} {r : Option RRec} (hc : exec c s = done h s) (hs : s.awake)
    (hg : h s.dev = (s.dev.atClass 6).setRecd i r) : Completes c s fun t => t.dev.recd i = r ∧
      s.changes t { s.dev with rp := { s.dev.rp with recs := t.dev.rp.recs }, led := { s.dev.led with cls := 6 } } [] := by
  refine completes_eq hc hs hg ⟨?_, ?_⟩
  · rw [recd_settle, recd_setRecd]
  · rw [settle_rp]
    exact changes_bare rfl fun x _ => rfl

/-! MARK_APPLY (R200, R210, R234). -/

section
variable {d : Dev} {k i : Nat} {e : Entry} {c : Cause} {l : List (Nat × Nat)}

/-- R234: the record of an entry. -/
def Entry.record (k : Nat) (audit full : Bool) (e : Entry) : RRec :=
  { entry := k, phase := .queued, audit, orig := ⟨e.field, e.footprint, e.oFidx.getD 0⟩, rep := none, tie := none, run := none
    marked := e.marked, full, rWrong := [], oWrong := [], verdict := .none, dR := 0, dT := 0, reqPick := 0, handPick := 0
    runs := 0, job := e.job, seq := e.seq, foot := e.foot, handAt := none, pR := [], pT := [], kR := 0, kT := 0
    judged := none, winP := [], jPos := [], repAt := none }

theorem allocRec_free {a b : Bool} (h : d.ent k = some e) (hf : freeKey 1024 d.rp.recs = some i) :
    allocRec k a b d = (d.setRecd i (some (e.record k a b))).setEnt k (some { e with rslot := some i }) := by
  rw [allocRec, h]
  dsimp only
  rw [hf]
  exact updEnt_of _ ((Dev.setRecd_ent _ _ _ _).trans h)

theorem recList_setRecd (h : d.recList = []) (r : RRec) : (d.setRecd i (some r)).recList = [(i, r)] := by
  have hins (t : Tab (Option RRec)) (ht : (t.filterMap fun (k, r) => r.map (k, ·)) = []) :
      ((tins i (some r) t).filterMap fun (k, r) => r.map (k, ·)) = [(i, r)] := by
    induction t with
    | nil => rfl
    | cons z t ih =>
      obtain ⟨n, x⟩ := z
      cases x with
      | some x => exact absurd ht (List.cons_ne_nil _ _)
      | none =>
        rw [tins]
        split
        · exact congrArg ((i, r) :: ·) ht
        · exact ih ht
  have hdel : ((tdel i d.rp.recs).filterMap fun (k, r) => r.map (k, ·)) = [] := by
    rw [Dev.recList, List.filterMap_eq_nil_iff] at h
    exact List.filterMap_eq_nil_iff.mpr fun x hx => h x (List.mem_filter.mp hx).1
  change ((tput none i (some r) d.rp.recs).filterMap fun (k, r) => r.map (k, ·)) = _
  rw [tput, if_neg (by simp)]
  exact hins _ hdel

/-- R214: an entry that owes nothing becomes BASTED; nobody is told. -/
theorem moveEnt_basted (h : d.ent k = some e) (hst : e.st ≠ .basted) (hn : e.notes = []) (hw : e.wdraw = false) :
    moveEnt k .basted c d = d.entered k (e.moved d .basted c) := by
  have howes : (e.moved d .basted c).owes = none := by
    rw [Entry.owes]
    exact ite_self _
  rw [moveEnt_eq h hst]
  have htold : toldState k .basted e.held (e.moved d .basted c) (d.entered k (e.moved d .basted c)) = d.entered k (e.moved d .basted c) := rfl
  rw [htold, sendOwed_nothing (ent_entered _ _ _) howes]
  refine offerNotes_silent (ent_entered _ _ _) ?_ ?_
  · rw [Entry.moved, hn]
    rfl
  · rw [Entry.moved, hw]
    rfl

/-- R214: a basted entry without producers stays as it is. -/
theorem evalEnt_basted (h : d.ent k = some e) (hr : e.remote = false) (hst : e.st = .basted) (hp : e.prods = []) : evalEnt k d = d := by
  have hmove : ¬ (e.remote = true ∨ e.st = .sewn ∨ e.st = .poisoned) := by rw [hr, hst]; decide
  rw [evalEnt, h]
  dsimp only
  rw [if_neg hmove, hp]
  simp only [List.filterMap_nil, List.any_nil, List.all_nil, Bool.false_eq_true, and_false, and_true, if_false, h, hst, reduceCtorEq, closeIf]

/-- R210: a record whose entry has not ended waits in its queue. -/
theorem schedule_queued {r : RRec} (h : d.recList = [(i, r)]) (hi : d.recd i = some r) (hp : r.phase = .queued) (ha : r.handAt = none) (hr : r.run = none)
    (he : d.ent r.entry = some e) (hend : e.ended = false) : schedule d = d := by
  have hready : ¬ handReady d e = true := by simp [handReady, hend]
  have hwants : d.wantsRun r = none := by
    rw [Dev.wantsRun, hr, hp, ha]
    rfl
  have htry : tryRun i d = d := by
    rw [tryRun, hi]
    dsimp only
    rw [hwants]
  have hhand (y : Entry) (hy : d.recEnt r = some y) : y = e := by
    rw [Dev.recEnt, he] at hy
    dsimp only at hy
    split at hy
    · exact (Option.some.inj hy).symm
    · cases hy
  rw [schedule, h]
  split
  · rfl
  · rw [forL_one]
    split
    · next y hy =>
      rw [if_neg fun hc => hready (hhand y hy ▸ hc.2.2)]
      dsimp only
      rw [h]
      exact htry
    · dsimp only
      rw [h]
      exact htry

end

section
variable {d : Dev} {k i : Nat} {e : Entry} {c : Cause} {l : List (Nat × Nat)}

/-- R234: an entry marked suspect on some patches, each with its F-index. -/
def Entry.suspected (l : List (Nat × Nat)) (e : Entry) : Entry := { e with suspect := true, oFidx := some (e.markFidx l), marked := distinct (e.marked ++ l.map (·.1)) }

/-- R200, R210, R234: an open entry after a suspect mark. -/
def Dev.markedEntry (d : Dev) (c : Cause) (l : List (Nat × Nat)) (i : Nat) (e : Entry) : Entry :=
  { e.suspected l with st := .basted, cause := c, spick := d.time.count % 2 ^ 32, since := d.time.nbRun, nbAt := d.time.nb, reDone := false, rslot := some i }

/-- R200, R210, R234: the device in which an entry, y before its move, is x and has a record r. -/
def Dev.suspects (k i : Nat) (y x : Entry) (r : RRec) (d : Dev) : Dev :=
  (((d.setEnt k (some y)).entered k x).setRecd i (some r)).setEnt k (some { x with rslot := some i })

/-- The entry that a mark moves. -/
def Dev.movedMark (d : Dev) (c : Cause) (l : List (Nat × Nat)) (e : Entry) : Entry := (e.suspected l).moved d .basted c

theorem suspectEnt_open (h : d.ent k = some e) (hr : e.remote = false) (hst : e.st = .open_) (hn : e.notes = []) (hw : e.wdraw = false)
    (hf : freeKey 1024 d.rp.recs = some i) : suspectEnt k c l d = d.suspects k i (e.suspected l) (d.movedMark c l e) ((d.movedMark c l e).record k (c = .audit) false) := by
  have hne : (e.suspected l).st ≠ .basted := fun h => nomatch hst.symm.trans h
  rw [suspectEnt, h]
  dsimp only
  rw [if_neg (by rw [hr]; decide), if_pos (.inl hst)]
  change allocRec k (decide (c = .audit)) false (moveEnt k .basted c (d.setEnt k (some (e.suspected l)))) = _
  rw [moveEnt_basted (ent_setEnt _ _ _) hne hn hw]
  exact allocRec_free (ent_entered _ _ _) hf

theorem movedMark_eq (hn : e.notes = []) (hw : e.wdraw = false) (hh : e.held = false) : { d.movedMark c l e with rslot := some i } = d.markedEntry c l i e := by
  simp [Dev.movedMark, Entry.moved, Dev.markedEntry, Entry.suspected, EState.out, EState.basty, hn, hw, hh]

variable {x y : Entry} {r : RRec}

theorem ent_suspects : (d.suspects k i y x r).ent k = some { x with rslot := some i } := ent_setEnt _ _ _

theorem rp_entered (k : Nat) (x : Entry) (d : Dev) : (d.entered k x).rp = d.rp := rfl

theorem recList_of_rp {z : Dev} (h : z.rp = d.rp) : z.recList = d.recList := by rw [Dev.recList, h, Dev.recList]

theorem recList_suspects (h : d.recList = []) : (d.suspects k i y x r).recList = [(i, r)] := by
  have hentered : ((d.setEnt k (some y)).entered k x).recList = [] := by
    rw [recList_of_rp (rp_entered _ _ _), recList_of_rp (Dev.setEnt_rp _ _ _), h]
  rw [Dev.suspects, recList_of_rp (Dev.setEnt_rp _ _ _), recList_setRecd hentered]

theorem recd_suspects : (d.suspects k i y x r).recd i = some r := by
  rw [Dev.suspects, Dev.recd, Dev.setEnt_rp]
  exact recd_setRecd i (some r) _

/-- The device with the records x. -/
def Dev.setRecs (x : Tab (Option RRec)) (d : Dev) : Dev := { d with rp := { d.rp with recs := x } }

/-- The device without what a mark moves: entries, the list of those that changed, records. -/
def Dev.sansMark (d : Dev) : Dev := d.sansLedger.setRecs []

theorem sansMark_setEnt (x : Option Entry) : (d.setEnt k x).sansMark = d.sansMark := rfl
theorem sansMark_setRecd (r : Option RRec) : (d.setRecd i r).sansMark = d.sansMark := rfl
theorem sansMark_entered : (d.entered k x).sansMark = d.sansMark := by
  rw [Dev.sansMark, sansLedger_entered, Dev.sansMark]

theorem sansMark_suspects : (d.suspects k i y x r).sansMark = d.sansMark := by
  rw [Dev.suspects, sansMark_setEnt, sansMark_setRecd, sansMark_entered, sansMark_setEnt]

theorem out_entered : (d.entered k x).out = d.out := rfl

theorem out_suspects : (d.suspects k i y x r).out = d.out := by
  rw [Dev.suspects, Dev.setEnt_out, Dev.setRecd_out, out_entered, Dev.setEnt_out]

/-- The parts that a mark moves. -/
theorem eq_of_sansMark {z : Dev} (h : z.sansMark = d.sansMark) : z = (d.setLedger z.led.ents z.led.changed z.out).setRecs z.rp.recs :=
  calc z = (z.sansMark.setLedger z.led.ents z.led.changed z.out).setRecs z.rp.recs := rfl
    _ = (d.sansMark.setLedger z.led.ents z.led.changed z.out).setRecs z.rp.recs := by rw [h]
    _ = (d.setLedger z.led.ents z.led.changed z.out).setRecs z.rp.recs := rfl

/-- R200: what the counters of a mark leave of the ledger, the records and the other registers. -/
def marksCounted (f : Nat) (d : Dev) : Dev := evt 0 (countRec f 2 (dbInc (DB_FCNT_MARKS f) d))

theorem bare_dbInc (fl : Fld) (d : Dev) : (dbInc fl d).bare = d.bare := by
  rw [dbInc]
  split
  · exact bare_inc _ _
  · rfl

theorem rd_dbInc {fl z : Fld} (h : z.apart fl) (d : Dev) : (dbInc fl d).rd z = d.rd z := by
  rw [dbInc]
  split
  · exact rd_inc_apart h
  · rfl

theorem bare_marksCounted (f : Nat) : (marksCounted f d).bare = countRec f 2 d.bare := by
  rw [marksCounted, evt, bare_inc, bare_countRec, bare_dbInc]

theorem rd_marksCounted {f : Nat} {z : Fld} (h0 : z.apart (LG_EVT 0)) (h : z.apart (DB_FCNT_MARKS f)) : (marksCounted f d).rd z = d.rd z := by
  rw [marksCounted, evt, rd_inc_apart h0, countRec_rd, rd_dbInc h]

theorem rp_marksCounted (f : Nat) : (marksCounted f d).rp = d.rp := by
  change (marksCounted f d).bare.rp = _
  rw [bare_marksCounted]
  rfl

theorem ev_marksCounted (f : Nat) : (marksCounted f d).ev = { d.ev with cnt := tupd 0 (f * 9 + 2) (fun n => satN 0xFFFFFFFF (n + 1)) d.ev.cnt } := by
  change (marksCounted f d).bare.ev = _
  rw [bare_marksCounted]
  rfl

theorem led_of_marksCounted (f : Nat) : (marksCounted f d).led = d.led := by
  change (marksCounted f d).bare.led = _
  rw [bare_marksCounted]
  rfl

theorem ent_marksCounted (f n : Nat) : (marksCounted f d).ent n = d.ent n := by
  refine ent_of_ents ?_ n
  change (marksCounted f d).bare.led.ents = _
  rw [bare_marksCounted]
  rfl

theorem marks_apart (f : Nat) : (LG_EVT 0).apart (DB_FCNT_MARKS f) := by
  refine Or.inl ?_
  rw [LG_EVT, DB_FCNT_MARKS]
  dsimp only
  omega

theorem marks_marksCounted (f : Nat) : (marksCounted f d).rd (LG_EVT 0) = satN 0xFFFF (d.rd (LG_EVT 0) + 1) := by
  rw [marksCounted, evt, rd_inc_eq (by decide), countRec_rd, rd_dbInc (marks_apart f)]
  exact congrArg (fun n => satN n (d.rd (LG_EVT 0) + 1)) (by decide)

/-- R200, R208, R210: a mark on one open step that has not ended, and has no producers. -/
theorem markApply_open {j q : Nat} {m : Mark} {ms : List Mark} (hrun : d.stopped = false) (hcls : d.led.cls ≤ 2) (hidle : d.recList = []) (hm : d.led.marks = m :: ms)
    (hs : m.steps = [(j, q)]) (hk : d.keyIx j q = some k) (h : d.ent k = some e) (hst : e.st = .open_) (hend : e.ended = false) (hp : e.prods = [])
    (hn : e.notes = []) (hw : e.wdraw = false) (hr : e.remote = false) (hf : freeKey 1024 d.rp.recs = some i) : markApply d =
      marksCounted m.field ((d.updLed fun x => { x with marks := ms, cls := 2 }).suspects k i (e.suspected (m.patches.zip m.fidx))
        (d.movedMark m.cause (m.patches.zip m.fidx) e) ((d.movedMark m.cause (m.patches.zip m.fidx) e).record k (m.cause = .audit) false)) := by
  have hnow : ¬ (d.stopped = true ∨ 2 < d.led.cls) := fun h => h.elim (not_stopped hrun) (Nat.not_lt.mpr hcls)
  have hent : (d.updLed fun x => { x with marks := ms, cls := 2 }).ent k = some e := h
  have hstep : markStep m (j, q) (d.updLed fun x => { x with marks := ms, cls := 2 }) =
      evalEnt k (marksCounted m.field (suspectEnt k m.cause (m.patches.zip m.fidx) (d.updLed fun x => { x with marks := ms, cls := 2 }))) := by
    have hkey : (d.updLed fun x => { x with marks := ms, cls := 2 }).keyIx j q = some k := hk
    rw [markStep]
    simp only
    rw [hkey]
    simp only
    rw [hent]
    simp only
    rw [if_pos (.inl hst)]
    rfl
  rw [markApply, if_neg hnow, hm]
  dsimp only
  rw [markNow, hs, forL_one, hstep, suspectEnt_open hent hr hst hn hw hf]
  have hx : (d.movedMark m.cause (m.patches.zip m.fidx) e).st = .basted ∧ (d.movedMark m.cause (m.patches.zip m.fidx) e).prods = e.prods ∧
      (d.movedMark m.cause (m.patches.zip m.fidx) e).remote = e.remote ∧ (d.movedMark m.cause (m.patches.zip m.fidx) e).ended = e.ended := ⟨rfl, rfl, rfl, rfl⟩
  obtain ⟨hxst, hxp, hxr, hxe⟩ := hx
  change schedule (evalEnt k (marksCounted m.field ((d.updLed fun x => { x with marks := ms, cls := 2 }).suspects k i (e.suspected (m.patches.zip m.fidx))
    (d.movedMark m.cause (m.patches.zip m.fidx) e) ((d.movedMark m.cause (m.patches.zip m.fidx) e).record k (m.cause = .audit) false)))) = _
  generalize d.movedMark m.cause (m.patches.zip m.fidx) e = x at hxst hxp hxr hxe ⊢
  have hidle' : (d.updLed fun x => { x with marks := ms, cls := 2 }).recList = [] := hidle
  generalize d.updLed (fun x => { x with marks := ms, cls := 2 }) = z at hidle'
  have hz : (marksCounted m.field (z.suspects k i (e.suspected (m.patches.zip m.fidx)) x (x.record k (m.cause = .audit) false))).ent k =
      some { x with rslot := some i } := by
    rw [ent_marksCounted, ent_suspects]
  rw [evalEnt_basted hz (hxr.trans hr) hxst (hxp.trans hp)]
  refine schedule_queued (i := i) (r := x.record k (m.cause = .audit) false) ?_ ?_ rfl rfl rfl hz (hxe.trans hend)
  · rw [recList_of_rp (rp_marksCounted _), recList_suspects hidle']
  · rw [Dev.recd, rp_marksCounted]
    exact recd_suspects

end

/-- What the end of a step changes. -/
theorem changes_end {s : State} {e : Dev} (h : e.sansEnd = (s.dev.atClass 3).sansEnd) : s.changes { s with dev := settle e } { s.dev with
    led := { s.dev.led with ents := (settle e).led.ents, changed := (settle e).led.changed, cls := 3 }
    tile := (settle e).tile, pat := (settle e).pat, out := (settle e).out } [] := by
  rw [settle_led, settle_tile, settle_pat, settle_out]
  exact changes_bare (bare_of_sansEnd h) fun x _ => (rd_of_sansEnd h x).trans (atClass_rd _ _ _)

/-- What the end of a step changes, with a report. -/
theorem changes_endReported {s : State} {e : Dev} {r : Report} (h : e.sansEnd = (s.dev.atClass 3).sansEnd) :
    s.changes { s with dev := settle (e.raiseR r) } { s.dev with
      led := { s.dev.led with ents := (settle (e.raiseR r)).led.ents, changed := (settle (e.raiseR r)).led.changed, cls := 3 }
      tile := (settle (e.raiseR r)).tile, pat := (settle (e.raiseR r)).pat, out := (settle (e.raiseR r)).out
      fc := { s.dev.fc with raised := s.dev.fc.raised ++ [r] } } [] := by
  rw [settle_led, settle_tile, settle_pat, settle_out, Dev.raiseR_led, Dev.raiseR_tile, Dev.raiseR_pat, Dev.raiseR_out]
  refine changes_bare ?_ fun y _ => ?_
  · rw [bare_raiseR, bare_of_sansEnd h]
    rfl
  · rw [Dev.raiseR_rd, rd_of_sansEnd h, atClass_rd]

/-- What the end of one tile of a step changes. -/
theorem changes_countedEnd {s : State} {k : Nat} {m : EndM} {e : Entry} : s.changes { s with dev := settle ((s.dev.atClass 3).countedEnd k m e) } { s.dev with
    led := { s.dev.led with ents := (settle ((s.dev.atClass 3).countedEnd k m e)).led.ents, cls := 3 }
    tile := (settle ((s.dev.atClass 3).countedEnd k m e)).tile, pat := (settle ((s.dev.atClass 3).countedEnd k m e)).pat } [] := by
  rw [settle_led, settle_tile, settle_pat]
  exact changes_bare rfl fun _ _ => rfl

/-- What a mark changes. -/
theorem changes_mark {s : State} {l : List Mark} {f : Nat} {z : Dev} (h : z.sansMark = (s.dev.updLed fun x => { x with marks := l, cls := 2 }).sansMark)
    (hout : z.out = s.dev.out) (hev : z.ev = s.dev.ev) (hrd : ∀ w, z.rd w = s.dev.rd w) : s.changes { s with dev := settle (marksCounted f z) } { s.dev with
    led := { s.dev.led with marks := l, cls := 2, ents := (settle (marksCounted f z)).led.ents, changed := (settle (marksCounted f z)).led.changed }
    rp := { s.dev.rp with recs := (settle (marksCounted f z)).rp.recs }, ev := { s.dev.ev with cnt := (settle (marksCounted f z)).ev.cnt } }
    [LG_EVT 0, DB_FCNT_MARKS f] := by
  rw [settle_led, settle_rp, settle_ev, led_of_marksCounted, rp_marksCounted, ev_marksCounted, hev]
  refine changes_bare ?_ fun w hw => ?_
  · rw [bare_marksCounted, eq_of_sansMark h, hout]
    rfl
  · rw [rd_marksCounted (hw _ (by simp)) (hw _ (by simp)), hrd]

/-- Settles O29. -/
theorem endsAndMarksApply : Obligations.EndsAndMarksApply := by
  unfold Obligations.EndsAndMarksApply
  refine ⟨fun s f p n tag stamp dg o k e hs hw hmarks hidle hdisc hkey he hfield hbeg hend hfoot hst hprods hstats hlast haud hsus hdests hnotes hwd hheld hr => ?_,
    fun s f p n tag stamp dg o k e hs hw hmarks hidle hdisc hkey he hfield hbeg hend hfoot hst hprods hstats hlast => ?_,
    fun s f p n tag stamp dg o k e hs hw hmarks hidle hdisc hkey he hfield hbeg hend hfoot hst hprods hstats hlast hdests hr => ?_,
    fun s f p n tag stamp dg b o hs hw hmarks hrun hdisc hkey => ?_, fun s f p n tag stamp dg b o hs hrun hw => ?_,
    fun s k e m l j q i hs hstop hcls hidle hmarks hsteps hkey he hst hended hprods hslot hnotes hwd hr hheld hfree => ?_, fun s hs h => ?_,
    fun s f p n tag stamp dg b i r run hs hw hrun hrec hr hkind hmay hfoot hbeg hlen => ?_,
    fun s f p n tag stamp dg i j r run hs hw hrun hrec hr hfoot hj hbeg hfin hlen => ?_, fun s f p n tag stamp x dg b hs hw hrun => ?_,
    fun s f p n tag stamp x dg b hs hw => ?_, fun s f p n tag stamp dg b i r run hs hw hrun hfoot hmay => ?_⟩
  · have htakes : (s.dev.atClass 3).takesEnd (endM f p n tag dg false o stamp) k e :=
      ⟨hdisc, hkey, he, hfield, hbeg, hend, hfoot, hst, hlast ▸ Nat.lt_succ_self _, hstats⟩
    have hpart : ((s.dev.atClass 3).countedEnd k (endM f p n tag dg false o stamp) e).sansEnd = (s.dev.atClass 3).sansEnd := sansEnd_countedEnd
    have hent : ((s.dev.atClass 3).countedEnd k (endM f p n tag dg false o stamp) e).ent k = some (e.counted (endM f p n tag dg false o stamp)) := ent_countedEnd
    have hti := ti_countedEnd (d := s.dev.atClass 3) (m := endM f p n tag dg false o stamp) (k := k) (e := e)
    have hpt := pt_countedEnd (d := s.dev.atClass 3) (m := endM f p n tag dg false o stamp) (k := k) (e := e)
    have hg : end_ (endM f p n tag dg false o stamp) s.dev = endNow (endM f p n tag dg false o stamp) (s.dev.atClass 3) := end_unmarked (runOf_idle hidle) hmarks hw
    have hsews := endNow_sews htakes rfl hprods hr hlast haud
    generalize hD : (s.dev.atClass 3).countedEnd k (endM f p n tag dg false o stamp) e = D at hpart hent hti hpt hsews
    obtain ⟨hmoved, hsans, hout⟩ := moveEnt_quiet (st := .sewn) (c := e.cause) hent (fun h => nomatch hst.symm.trans h) hdests
      (by rw [Entry.moved]; rfl) (by rw [Entry.moved]; exact (Bool.or_false _).trans hwd)
    have hparts : (moveEnt k .sewn e.cause D).sansEnd = (s.dev.atClass 3).sansEnd := (sansEnd_of_sansLedger hsans).trans hpart
    have hkeep : (moveEnt k .sewn e.cause D).tile = D.tile ∧ (moveEnt k .sewn e.cause D).pat = D.pat := by
      rw [eq_of_sansLedger hsans]
      exact ⟨rfl, rfl⟩
    obtain ⟨htile, hpat⟩ := hkeep
    refine completes_eq rfl hs (hg.trans (hsews ((recList_of_sansEnd hparts).trans hidle))) ⟨?_, ?_, ?_, ?_, changes_end hparts⟩
    · rw [ent_settle, hmoved, counted_sewn (time_of_sansEnd hpart) hprods hstats hnotes hwd hheld hlast]
      rfl
    · rw [ti_settle, Dev.ti, htile]
      exact hti
    · rw [pt_settle, Dev.pt, hpat]
      exact hpt
    · rw [settle_out, hout]
      exact tagSewn_toldState (x := Entry.moved D .sewn e.cause (e.counted (endM f p n tag dg false o stamp))) hr _ _
  · have htakes : (s.dev.atClass 3).takesEnd (endM f p n tag dg false o stamp) k e :=
      ⟨hdisc, hkey, he, hfield, hbeg, hend, hfoot, hst, Nat.lt_of_succ_lt hlast, hstats⟩
    have hg : end_ (endM f p n tag dg false o stamp) s.dev = _ := (end_unmarked (runOf_idle hidle) hmarks hw).trans
      (endNow_counts htakes rfl hidle hprods hlast)
    refine completes_eq rfl hs hg ⟨?_, ?_, ?_, ?_⟩
    · rw [ent_settle, ent_countedEnd, counted_open hstats hlast]
      rfl
    · rw [ti_settle]
      exact ti_countedEnd
    · rw [pt_settle]
      exact pt_countedEnd
    · exact changes_countedEnd
  · have htakes : (s.dev.atClass 3).takesEnd (endM f p n tag dg true o stamp) k e :=
      ⟨hdisc, hkey, he, hfield, hbeg, hend, hfoot, hst, Nat.lt_of_succ_lt hlast, hstats⟩
    obtain ⟨z, hz, hparts, htile, hpat, x, hx, hxst, hxc, hxw, hxg, hxn⟩ := endNow_poisons htakes rfl hidle hlast hdests
    have hg : end_ (endM f p n tag dg true o stamp) s.dev = tellPoison k e.job z := (end_unmarked (runOf_idle hidle) hmarks hw).trans hz
    rw [tellPoison, report_of_sansEnd hparts, atClass_report] at hg
    refine completes_eq rfl hs hg ⟨⟨x, ?_, hxst, hxc, hxw, hxg, hxn⟩, ?_, ?_, ?_⟩
    · rw [ent_settle, Dev.raiseR_ent, hx]
    · rw [ti_settle, Dev.raiseR_ti, Dev.ti, htile]
      exact ti_countedEnd
    · rw [pt_settle, Dev.raiseR_pt, Dev.pt, hpat]
      exact pt_countedEnd
    · exact changes_endReported hparts
  · have hg : end_ (endM f p n tag dg b o stamp) s.dev = evt 7 ((s.dev.atClass 3).raiseR { s.dev.report .ledger 1 f p with
        job := some (tagJob tag.toNat), addr := 0xFFFF + f * 2 ^ 16 + p * 2 ^ 24, master := 7 }) :=
      (end_unmarked hrun hmarks hw).trans (endNow_unknown (d := s.dev.atClass 3) hdisc hkey)
    refine completes_eq rfl hs hg ⟨?_, changes_bare ?_ fun x hx => ?_⟩
    · rw [rd_settle (by decide), evt, rd_inc_eq (by decide), Dev.raiseR_rd, atClass_rd]
      rfl
    · rw [evt, bare_inc]
      generalize s.dev.report .ledger 1 f p = r
      rfl
    · rw [evt, rd_inc_apart (hx _ (by simp)), Dev.raiseR_rd, atClass_rd]
  · refine completes_eq rfl hs (end_waits hrun hw) ⟨?_, ?_⟩
    · rw [settle_led]
      rfl
    · rw [settle_led]
      exact changes_bare rfl fun x _ => updLed_rd _ _ _
  · have hg : markApply s.dev = _ := markApply_open hstop hcls hidle hmarks hsteps hkey he hst hended hprods hnotes hwd hr hfree
    have hrec : ((s.dev.movedMark m.cause (m.patches.zip m.fidx) e).record k (m.cause = .audit) false).orig =
        ⟨e.field, e.footprint, e.markFidx (m.patches.zip m.fidx)⟩ := rfl
    have hent : { s.dev.movedMark m.cause (m.patches.zip m.fidx) e with rslot := some i } = s.dev.markedEntry m.cause (m.patches.zip m.fidx) i e :=
      movedMark_eq hnotes hwd hheld
    have hentry : ((s.dev.movedMark m.cause (m.patches.zip m.fidx) e).record k (m.cause = .audit) false).entry = k := rfl
    have hphase : ((s.dev.movedMark m.cause (m.patches.zip m.fidx) e).record k (m.cause = .audit) false).phase = .queued := rfl
    generalize s.dev.movedMark m.cause (m.patches.zip m.fidx) e = x at hg hrec hent hentry hphase
    generalize x.record k (m.cause = .audit) false = r at hg hrec hentry hphase
    generalize e.suspected (m.patches.zip m.fidx) = y at hg
    generalize hz : (s.dev.updLed fun x => { x with marks := l, cls := 2 }).suspects k i y x r = z at hg
    have hzent : z.ent k = some { x with rslot := some i } := by rw [← hz, ent_suspects]
    have hzrec : z.recd i = some r := by rw [← hz, recd_suspects]
    have hzparts : z.sansMark = (s.dev.updLed fun x => { x with marks := l, cls := 2 }).sansMark := by rw [← hz, sansMark_suspects]
    have hzout : z.out = s.dev.out := by
      rw [← hz, out_suspects]
      rfl
    have hzrd (w : Fld) : z.rd w = s.dev.rd w := by
      rw [eq_of_sansMark hzparts]
      rfl
    have hzev : z.ev = s.dev.ev := by
      rw [eq_of_sansMark hzparts]
      rfl
    refine completes_eq rfl hs hg ⟨?_, ?_, ?_, ?_, ?_, ?_, ?_⟩
    · rw [ent_settle, ent_marksCounted, hzent, hent]
      rfl
    · rw [recd_settle, Dev.recd, rp_marksCounted]
      exact (congrArg (Option.map (·.entry)) hzrec).trans (congrArg some hentry)
    · rw [recd_settle, Dev.recd, rp_marksCounted]
      exact (congrArg (Option.map (·.phase)) hzrec).trans (congrArg some hphase)
    · rw [recd_settle, Dev.recd, rp_marksCounted]
      exact (congrArg (Option.map (·.orig)) hzrec).trans (congrArg some hrec)
    · rw [rd_settle (by decide), marks_marksCounted, hzrd]
    · rw [settle_ev, ev_marksCounted, hzev]
      dsimp only
      rw [tget_tupd_same]
    · exact changes_mark hzparts hzout hzev hzrd
  · refine completes_unchanged rfl hs ?_
    rw [markApply]
    by_cases hw : s.dev.stopped = true ∨ 2 < s.dev.led.cls
    · rw [if_pos hw]
    · rw [if_neg hw, (or_assoc.mpr h).resolve_left hw]
  · exact completes_run rfl hs ((inOrder_now hw).trans (runNow_begins (d := s.dev.atClass 6) hrun hrec hfoot rfl hmay hkind rfl hbeg hlen))
  · exact completes_run rfl hs ((inOrder_now hw).trans (runNow_ends (d := s.dev.atClass 6) hrun hrec hfoot rfl rfl hj hbeg hfin hlen))
  · have hg : runMarker (runM f p n tag x dg b stamp) s.dev = evt 7 (s.dev.atClass 6) := (inOrder_now hw).trans (runNow_unknown (d := s.dev.atClass 6) hrun)
    refine completes_eq rfl hs hg ⟨?_, changes_bare ?_ fun y hy => ?_⟩
    · rw [rd_settle (by decide), evt, rd_inc_eq (by decide), atClass_rd]
      rfl
    · rw [evt, bare_inc]
      rfl
    · rw [evt, rd_inc_apart (hy _ (by simp)), atClass_rd]
  · refine completes_eq rfl hs (inOrder_waits hw) ⟨?_, ?_⟩
    · rw [settle_led]
      rfl
    · rw [settle_led]
      exact changes_bare rfl fun y _ => updLed_rd _ _ _
  · have hg : runMarker (runM f p n tag false dg b stamp) s.dev =
        (s.dev.atClass 6).updLed fun l => { l with later := l.later ++ [.run (runM f p n tag false dg b stamp)] } :=
      (inOrder_now hw).trans (runNow_early (d := s.dev.atClass 6) hrun hfoot rfl hmay)
    refine completes_eq rfl hs hg ⟨?_, ?_⟩
    · rw [settle_led]
      rfl
    · rw [settle_led]
      exact changes_bare rfl fun y _ => rfl

end Sys2Proof.Machine
end

section
/-! O39: images over the peer plane (R295, R297, R324, R326, R335). -/

namespace Sys2Proof.Machine

/-! The verdict of a verification that ends in WAIT is held by the port until boundaries resume (R309). -/

/-- A peer that sends an image. -/
def imageSender : Peer :=
  { addr := 600, st := .present, kind := 1, grant := 0, incarn := 0, lastHb := 0, silent := 0, idle := 0, hbNow := false, sent := 0, rcvd := 0 }

/-- The least image: a header, and a FIELD_MAP without entries. -/
def leastImage : List Nat :=
  [(4, 0x4D495A4A), (2, 1), (2, 96), (4, 240), (4, 3), (8, 7), (8, 1), (4, 2), (4, 48), (4, 0), (4, crc32 [])].flatMap fun x => leBytes x.1 x.2

/-- The sender's session on slot A, complete and being verified. -/
def verifyingSession : Session :=
  { peer := true, sender := some 600, slotB := false, len := 240, next := 240, last := 0, verifying := true }

/-- At reset, but in WAIT, with the port up, the sender in the table, and its image in slot A being verified; no root key is fused. -/
def verifyingInWaitState : State :=
  { State.reset with dev :=
    (((nvProg 0x100000 leastImage (Dev.init.updNv fun x => { x with session := some verifyingSession })).setPeer 0
      (some imageSender)).wrB PP_STATUS_SELF_VALID true).wr CK_STATUS_SEL 5 }

/-- Refutes O39: its clause of IMAGE_VERIFY_DONE for a failed check lets nothing of the peer port but its table change, and does not
ask that the PLL be out of WAIT: at `verifyingInWaitState` the verdict sent to the image's sender is held by the port (R309). -/
theorem not_imageSessions : ¬ Obligations.ImageSessions := by
  unfold Obligations.ImageSessions
  rintro ⟨-, -, -, -, -, -, -, -, -, -, hfails⟩
  have hs : verifyingInWaitState.awake := by decide +kernel
  have hses : verifyingInWaitState.dev.nv.session = some verifyingSession := by decide +kernel
  have hcheck : verifyingInWaitState.dev.imgFails verifyingInWaitState.fuses false 240 ⟨5, true⟩ true = some 4 := by decide +kernel
  obtain ⟨t, ht, -, -, -, hparts, -⟩ := hfails verifyingInWaitState ⟨5, true⟩ 5 verifyingSession hs hses rfl hcheck
  have hhold : t.dev.pp.hold = verifyingInWaitState.dev.pp.hold := by
    rw [State.parts] at hparts
    rw [hparts]
  have hheld : (imageVerifyDone verifyingInWaitState.fuses ⟨5, true⟩ (5 : BitVec 12).toNat verifyingInWaitState.dev).pp.hold.length = 1 := by
    decide +kernel
  rw [dev_of_next (c := .imageVerifyDone ⟨5, true⟩ 5) rfl hs ht, settle_pp] at hhold
  rw [hhold] at hheld
  exact absurd hheld (by decide +kernel)

end Sys2Proof.Machine
end

section
/-! O41: the PLL, its inputs and WAIT (R303, R304, R306, R307, R309, R310, R317). -/

namespace Sys2Proof.Machine

/-! A field that is written with what it holds. -/

section
variable {d : Dev} {fl : Fld}

theorem rd_wr_rd (x : Fld) : (d.wr fl (d.rd fl)).rd x = d.rd x := by
  have hw : fldSet fl (d.rd fl) (d.reg fl.addr) = d.reg fl.addr := fldSet_fldGet _ _
  refine rd_eq_of_reg ?_
  rw [Dev.wr, hw]
  by_cases h : x.addr = fl.addr
  · rw [h, reg_setReg_same]
  · exact reg_setReg_ne _ _ h

theorem rd_wrB_rdB (h : fl.w = 1) (x : Fld) : (d.wrB fl (d.rdB fl)).rd x = d.rd x := by
  have hb : b01 (d.rdB fl) = d.rd fl := by
    have hlt : d.rd fl < 2 := by simpa [h] using rd_lt fl d
    by_cases h0 : d.rd fl = 0
    · simp [Dev.rdB, b01, h0]
    · simp [Dev.rdB, b01, show d.rd fl = 1 by omega]
  rw [Dev.wrB, hb, rd_wr_rd]

end

/-! The selector (R306). -/

section
variable {d : Dev} {sel : Nat} {tb : Bool} {x : Fld}

theorem bare_pllTo : (pllTo sel tb d).bare = d.bare := by rw [pllTo, bare_wrB, bare_wrB, bare_wr]

theorem rd_pllTo (hs : x.apart CK_STATUS_SEL) (hsrc : x.apart CK_STATUS_PLL_SRC) (hl : x.apart CK_STATUS_PLL_LOCK) :
    (pllTo sel tb d).rd x = d.rd x := by
  rw [pllTo, rd_wrB_apart _ hl, rd_wrB_apart _ hsrc, rd_wr_apart _ hs]

/-- R306: LOCKING or HOLDING, on an input, without lock. -/
theorem pllTo_shows (h : sel < 8) : (pllTo sel tb d).ckSel = sel ∧ (pllTo sel tb d).rdB CK_STATUS_PLL_SRC = tb ∧
    (pllTo sel tb d).rdB CK_STATUS_PLL_LOCK = false := by
  refine ⟨?_, ?_, ?_⟩
  · rw [Dev.ckSel, pllTo, rd_wrB_apart _ (by decide), rd_wrB_apart _ (by decide), rd_wr_eq _ (by decide)]
    exact Nat.mod_eq_of_lt h
  · rw [pllTo, rdB_wrB_apart _ (by decide), rdB_wrB_eq _ (by decide)]
  · rw [pllTo, rdB_wrB_eq _ (by decide)]

theorem bare_noteLoss (src : Nat) : (noteLoss src d).bare = d.bare := by rw [noteLoss, bare_wrB, bare_wrB, bare_wr]

theorem rd_noteLoss {src : Nat} (hs : x.apart CK_LOSS_SRC) (hv : x.apart CK_LOSS_VALID) (hw : x.apart CK_LOSS_TO_WAIT) :
    (noteLoss src d).rd x = d.rd x := by
  rw [noteLoss, rd_wrB_apart _ hw, rd_wrB_apart _ hv, rd_wr_apart _ hs]

theorem noteLoss_shows {src : Nat} (h : src < 4) : (noteLoss src d).rd CK_LOSS_SRC = src ∧ (noteLoss src d).rdB CK_LOSS_VALID = true ∧
    (noteLoss src d).rdB CK_LOSS_TO_WAIT = false := by
  refine ⟨?_, ?_, ?_⟩
  · rw [noteLoss, rd_wrB_apart _ (by decide), rd_wrB_apart _ (by decide), rd_wr_eq _ (by decide)]
    exact Nat.mod_eq_of_lt h
  · rw [noteLoss, rdB_wrB_apart _ (by decide), rdB_wrB_eq _ (by decide)]
  · rw [noteLoss, rdB_wrB_eq _ (by decide)]

theorem bare_pllOn : (pllOn d).bare = d.bare := by rw [pllOn, bare_inc, bare_wrB, bare_wr]

theorem rd_pllOn (hs : x.apart CK_STATUS_SEL) (hl : x.apart CK_STATUS_PLL_LOCK) (he : x.apart CK_EVT_SWITCHES) : (pllOn d).rd x = d.rd x := by
  rw [pllOn, rd_inc_apart he, rd_wrB_apart _ hl, rd_wr_apart _ hs]

/-- R306: MCLK from the PLL. -/
theorem pllOn_shows : (pllOn d).ckSel = (if d.rdB CK_STATUS_PLL_SRC = true then ckOnTb else ckOnRef) ∧
    (pllOn d).rdB CK_STATUS_PLL_LOCK = true ∧ (pllOn d).rd CK_EVT_SWITCHES = satN 0xFFFF (d.rd CK_EVT_SWITCHES + 1) := by
  refine ⟨?_, ?_, ?_⟩
  · rw [Dev.ckSel, pllOn, rd_inc_apart (by decide), rd_wrB_apart _ (by decide), rd_wr_eq _ (by decide)]
    split <;> rfl
  · rw [pllOn, rdB_inc_apart (by decide), rdB_wrB_eq _ (by decide)]
  · rw [pllOn, rd_inc_eq (by decide), rd_wrB_apart _ (by decide), rd_wr_apart _ (by decide)]
    rfl

theorem sourceBack_held (h : d.mode = NO_SOURCE) : sourceBack d = d.wr TB_STATUS_MODE d.time.heldMode := if_pos h
theorem sourceBack_other (h : d.mode ≠ NO_SOURCE) : sourceBack d = d := if_neg h

theorem stepSix_eq : stepSix d = { d with start := if d.start.step = 5 then { d.start with step := 6, since := d.time.nb } else d.start } := by
  unfold stepSix
  split <;> rfl

theorem stepSix_rd (d : Dev) (x : Fld) : (stepSix d).rd x = d.rd x := by
  rw [stepSix_eq]
  rfl

theorem bare_stepSix (d : Dev) : (stepSix d).bare = stepSix d.bare := by
  rw [stepSix_eq, stepSix_eq]
  rfl

end

/-! WAIT (R307, R309). -/

/-- The device without what WAIT changes beside the registers, the selvedge's note and the reports. -/
def Dev.sansWait (d : Dev) : Dev :=
  { d.bare with time := TimeS.init, dom := [], clk := ClkS.init, pat := [], fld := [], cls := [], inst := [], tile := [], led := { d.led with marks := [] } }

theorem parts_of_sansWait {s : State} {d e : Dev} (h : d.sansWait = e.sansWait) : s.parts { s with dev := settle d }
    { e with time := (settle d).time, dom := (settle d).dom, clk := (settle d).clk, pat := (settle d).pat, fld := (settle d).fld, cls := (settle d).cls, inst := (settle d).inst, tile := (settle d).tile, led := { e.led with marks := (settle d).led.marks } } := by
  rw [settle_time, settle_dom, settle_clk, settle_pat, settle_fld, settle_cls, settle_inst, settle_tile, settle_led]
  refine parts_settle ?_
  calc d = { d.sansWait with regs := d.regs, time := d.time, dom := d.dom, clk := d.clk, pat := d.pat, fld := d.fld, cls := d.cls, inst := d.inst, tile := d.tile, led := { d.sansWait.led with marks := d.led.marks } } := rfl
    _ = _ := by rw [h]; rfl

section
variable {d : Dev} {x : Fld}

theorem sansWait_of_bare {e : Dev} (h : d.bare = e.bare) : d.sansWait = e.sansWait := by
  change { d.bare with time := TimeS.init, dom := [], clk := ClkS.init, pat := [], fld := [], cls := [], inst := [], tile := [], led := { d.bare.led with marks := [] } } = { e.bare with time := TimeS.init, dom := [], clk := ClkS.init, pat := [], fld := [], cls := [], inst := [], tile := [], led := { e.bare.led with marks := [] } }
  rw [h]

theorem sansWait_of_sansHold {e : Dev} (h : d.sansHold = e.sansHold) : d.sansWait = e.sansWait := by
  change { d.sansHold with time := TimeS.init, dom := [], clk := ClkS.init, cls := [], inst := [] } = { e.sansHold with time := TimeS.init, dom := [], clk := ClkS.init, cls := [], inst := [] }
  rw [h]

theorem bare_held_of_sansHold {e : Dev} {b : Bool} (h : d.sansHold = e.sansHold) : (d.setHeld b).bare = Dev.bare
    { e with dom := (d.setHeld b).dom, clk := (d.setHeld b).clk, pat := (d.setHeld b).pat, fld := (d.setHeld b).fld, cls := (d.setHeld b).cls, inst := (d.setHeld b).inst, tile := (d.setHeld b).tile, led := { e.led with marks := (d.setHeld b).led.marks } } :=
  calc (d.setHeld b).bare = { d.sansHold with dom := d.dom, clk := { d.clk with held := b }, pat := d.pat, fld := d.fld, cls := d.cls, inst := d.inst, tile := d.tile, led := { d.sansHold.led with marks := d.led.marks } } := rfl
    _ = _ := by rw [h]; rfl

theorem rd_holdSafeEnter (h : x.addr < 0x30000000 ∨ 0x36000000 ≤ x.addr) (d : Dev) : (holdSafeEnter d).rd x = d.rd x := by
  change (forN 96 holdSafeField d).rd x = d.rd x
  refine forN_keep_lt (fun e => e.rd x) (fun g hg e => rd_holdSafeField (holdSpares_outside ?_) e) d
  simp only [stBase]
  omega

/-- R307: hold-safe shows at every steward that serves. -/
theorem holdSafeEnter_serving {f : Nat} (h : f ∈ d.serving) : (holdSafeEnter d).rdB (ST_OP_STATUS_HOLD_SAFE f) = true := by
  obtain ⟨hf, hin⟩ := List.mem_filter.mp h
  change (forN 96 holdSafeField d).rdB (ST_OP_STATUS_HOLD_SAFE f) = true
  cases hno : d.rdB (ST_OP_STATUS_HOLD_SAFE f) with
  | true => exact (holdSafeEnter_keeps (List.mem_range.mp hf) (by rw [hno]; rfl)).trans hno
  | false =>
    have hup : (d.fd f).up = true := (Bool.and_eq_true_iff.mp hin).1
    exact (holdSafeEnter_asserts (List.mem_range.mp hf) (p := 0) (by decide) hup hno).1

theorem sansWait_holdSafeEnter (d : Dev) : (holdSafeEnter d).sansWait = d.sansWait :=
  sansWait_of_sansHold (d := forN 96 holdSafeField d) (forN_keep Dev.sansHold _ _ sansHold_holdSafeField d)

theorem rd_linksStand (d : Dev) (x : Fld) : (linksStand d).rd x = d.rd x :=
  rd_forL _ _ fun _ e => rd_forN _ e fun _ _ => rd_onlyIf rfl

theorem fld_linksStand (d : Dev) : (linksStand d).fld = d.fld := by
  refine forL_keep Dev.fld _ _ (fun f e => forN_keep Dev.fld _ _ (fun k e' => ?_) e) d
  unfold onlyIf
  split <;> rfl

theorem sansWait_linksStand (d : Dev) : (linksStand d).sansWait = d.sansWait := by
  refine forL_keep Dev.sansWait _ _ (fun f e => forN_keep Dev.sansWait _ _ (fun k e' => ?_) e) d
  unfold onlyIf
  split <;> rfl

theorem serving_of_fld {e : Dev} (h : d.fld = e.fld) : d.serving = e.serving := by
  have hin : d.inService = e.inService := funext fun f => by rw [Dev.inService, Dev.inService, Dev.fd, Dev.fd, h]
  rw [Dev.serving, Dev.serving, hin]

/-- R30: the note that MCLK comes from ROSC and the report of the loss of every source, where the mode was another. -/
def Dev.noSourceNoted (m : Nat) (d : Dev) : Dev :=
  { d with
    sel := { d.sel with onRosc := d.sel.onRosc || decide (m ≠ NO_SOURCE) }
    fc := { d.fc with raised := d.fc.raised ++ (if m = NO_SOURCE then [] else [d.report .clock 6 central 0]) } }

theorem bare_noSourceNoted (m : Nat) (d : Dev) : (d.noSourceNoted m).bare = d.bare.noSourceNoted m := rfl

theorem sansWait_noSource (d : Dev) : (noSource d).sansWait = (d.noSourceNoted d.mode).sansWait := by
  unfold noSource
  by_cases h : d.mode = NO_SOURCE
  · rw [if_pos h]
    simp [Dev.sansWait, Dev.noSourceNoted, Dev.bare, h]
  · rw [if_neg h]
    simp [Dev.sansWait, Dev.noSourceNoted, Dev.bare, h, Dev.raise, Dev.raiseR, Dev.wr, Dev.setReg, Dev.updSel, Dev.updTime, Dev.report]

theorem rd_noSource (h : x.apart TB_STATUS_MODE) (d : Dev) : (noSource d).rd x = d.rd x := by
  unfold noSource
  split
  · rfl
  · exact rd_wr_apart _ h

theorem mode_noSource (d : Dev) : (noSource d).mode = NO_SOURCE := by
  unfold noSource
  split
  · next h => exact h
  · exact rd_wr_eq _ (by decide)

theorem fld_noSource (d : Dev) : (noSource d).fld = d.fld := by
  unfold noSource
  split <;> rfl

/-- R307: the selector in WAIT. -/
def inWait (d : Dev) : Dev := ((d.wr CK_STATUS_SEL ckWait).wrB CK_STATUS_PLL_LOCK false).inc CK_EVT_WAITS

theorem toWait_eq (d : Dev) : toWait d = holdSafeEnter (linksStand (noSource (inWait d))) := rfl

theorem rd_toWait (ha : x.addr < 0x30000000) (hm : x.apart TB_STATUS_MODE) (d : Dev) : (toWait d).rd x = (inWait d).rd x := by
  rw [toWait_eq, rd_holdSafeEnter (.inl ha), rd_linksStand, rd_noSource hm]

/-- R307, R309: what WAIT shows. -/
theorem toWait_shows (d : Dev) : (toWait d).ckSel = ckWait ∧ (toWait d).rd CK_EVT_WAITS = satN 0xFFFF (d.rd CK_EVT_WAITS + 1) ∧
    (toWait d).mode = NO_SOURCE ∧ (toWait d).rdB CK_STATUS_PLL_LOCK = false ∧ ∀ f ∈ d.serving, (toWait d).rdB (ST_OP_STATUS_HOLD_SAFE f) = true := by
  refine ⟨?_, ?_, ?_, ?_, fun f hf => ?_⟩
  · rw [Dev.ckSel, rd_toWait (by decide) (by decide), inWait, rd_inc_apart (by decide), rd_wrB_apart _ (by decide), rd_wr_eq _ (by decide)]
    rfl
  · rw [rd_toWait (by decide) (by decide), inWait, rd_inc_eq (by decide), rd_wrB_apart _ (by decide), rd_wr_apart _ (by decide)]
    rfl
  · rw [Dev.mode, toWait_eq, rd_holdSafeEnter (.inl (by decide)), rd_linksStand]
    exact mode_noSource _
  · rw [Dev.rdB, rd_toWait (by decide) (by decide), inWait, rd_inc_apart (by decide), ← Dev.rdB, rdB_wrB_eq _ (by decide)]
  · refine holdSafeEnter_serving ?_
    rwa [serving_of_fld ((fld_linksStand _).trans ((fld_noSource _).trans (Dev.inc_fld _ _))), serving_of_fld (Dev.wrB_fld _ _ _), serving_of_fld (Dev.wr_fld _ _ _)]

theorem bare_inWait (d : Dev) : (inWait d).bare = d.bare := by rw [inWait, bare_inc, bare_wrB, bare_wr]

theorem sansWait_toWait (d : Dev) : (toWait d).sansWait = (d.noSourceNoted d.mode).sansWait := by
  have hmode : (inWait d).mode = d.mode := by
    rw [Dev.mode, inWait, rd_inc_apart (by decide), rd_wrB_apart _ (by decide), rd_wr_apart _ (by decide), Dev.mode]
  rw [toWait_eq, sansWait_holdSafeEnter, sansWait_linksStand, sansWait_noSource, hmode]
  exact sansWait_of_bare (by rw [bare_noSourceNoted, bare_inWait, bare_noSourceNoted])

end

/-! The commands (R303, R304, R306). -/

/-- R440: in ACQUIRING, the first boundary waits for REFCLK. -/
def Dev.acquiring (d : Dev) : Dev :=
  d.updTime fun t => { t with acqFrom := if (d.mode = ACQUIRING ∨ (d.mode = NO_SOURCE ∧ d.time.heldMode = ACQUIRING)) ∧ d.time.acqFrom = none then some d.time.nb else d.time.acqFrom }

section
variable {d : Dev} {us : Nat}

theorem refQualify_not (h : d.rdB CK_STATUS_REF_Q = true ∨ d.rdB CK_STATUS_ROSC_RUN = false) : refQualify us d = d := by
  rw [refQualify, if_pos (h.imp_right fun hr => by rw [hr]; rfl)]

/-- R303: REFCLK is shown as qualified, before the selector acts on it. -/
theorem refQualify_qualifies (hq : d.rdB CK_STATUS_REF_Q = false) (hr : d.rdB CK_STATUS_ROSC_RUN = true) : refQualify us d =
    (if d.ckSel = ckWait then pllTo ckLocking false (waitEnds us (d.acquiring.wrB CK_STATUS_REF_Q true))
      else if d.ckSel = ckBoot then sourceBack (d.acquiring.wrB CK_STATUS_REF_Q true) else d.acquiring.wrB CK_STATUS_REF_Q true) := by
  have hmode : (d.wrB CK_STATUS_REF_Q true).mode = d.mode := rd_wrB_apart _ (by decide)
  have hsel : (d.acquiring.wrB CK_STATUS_REF_Q true).ckSel = d.ckSel := rd_wrB_apart _ (by decide)
  have hacq : onlyIf ((decide ((d.wrB CK_STATUS_REF_Q true).mode = ACQUIRING) || (decide ((d.wrB CK_STATUS_REF_Q true).mode = NO_SOURCE) &&
      decide ((d.wrB CK_STATUS_REF_Q true).time.heldMode = ACQUIRING))) && (d.wrB CK_STATUS_REF_Q true).time.acqFrom.isNone)
      (·.updTime fun t => { t with acqFrom := some t.nb }) (d.wrB CK_STATUS_REF_Q true) = d.acquiring.wrB CK_STATUS_REF_Q true := by
    rw [hmode, Dev.wrB_time, Dev.acquiring]
    by_cases h : (d.mode = ACQUIRING ∨ (d.mode = NO_SOURCE ∧ d.time.heldMode = ACQUIRING)) ∧ d.time.acqFrom = none
    · rw [onlyIf, if_pos (by simpa using h)]
      simp only [if_pos h]
      rfl
    · rw [onlyIf, if_neg (by simpa using h)]
      simp only [if_neg h]
      rfl
  rw [refQualify, if_neg (by simp [hq, hr])]
  dsimp only
  rw [hacq, hsel]

/-- R304: TBCLK is shown as qualified, before the selector acts on it. -/
theorem tbQualify_qualifies (hq : d.rdB CK_STATUS_TB_Q = false) (hr : d.rdB CK_STATUS_ROSC_RUN = true) (hl : d.time.laneOff = false) :
    tbQualify us d = (if d.ckSel = ckWait then
        pllTo ckLocking true (waitEnds us ({ d with clk := { d.clk with tbQualAt := d.time.nb } }.wrB CK_STATUS_TB_Q true))
      else if d.ckSel = ckBoot then sourceBack ({ d with clk := { d.clk with tbQualAt := d.time.nb } }.wrB CK_STATUS_TB_Q true)
      else { d with clk := { d.clk with tbQualAt := d.time.nb } }.wrB CK_STATUS_TB_Q true) := by
  have hsel : ({ d with clk := { d.clk with tbQualAt := d.time.nb } }.wrB CK_STATUS_TB_Q true).ckSel = d.ckSel := rd_wrB_apart _ (by decide)
  have hclk : ({ d.wrB CK_STATUS_TB_Q true with clk := { d.clk with tbQualAt := d.time.nb } } : Dev) =
      { d with clk := { d.clk with tbQualAt := d.time.nb } }.wrB CK_STATUS_TB_Q true := rfl
  rw [tbQualify, if_neg (by simp [hq, hr, hl])]
  dsimp only
  rw [hclk, hsel]

theorem waitEnds_waiting {d : Dev} (h : d.ckSel = ckWait) : waitEnds us d = d.wr CK_WAIT_TIME_US us := by
  rw [waitEnds, onlyIf, if_pos (decide_eq_true h)]

/-- R306, R309: an input qualified ends WAIT. -/
theorem waitEnded_shows {tb : Bool} {fl : Fld} (h : us < 2 ^ 32) (hs : fl.apart CK_STATUS_SEL) (hsrc : fl.apart CK_STATUS_PLL_SRC)
    (hl : fl.apart CK_STATUS_PLL_LOCK) (hw : fl.apart CK_WAIT_TIME_US) (hq : d.rdB fl = true) :
    (pllTo ckLocking tb (d.wr CK_WAIT_TIME_US us)).rdB fl = true ∧ (pllTo ckLocking tb (d.wr CK_WAIT_TIME_US us)).rd CK_WAIT_TIME_US = us := by
  refine ⟨?_, ?_⟩
  · rw [Dev.rdB, rd_pllTo hs hsrc hl, rd_wr_apart _ hw]
    exact hq
  · rw [rd_pllTo (by decide) (by decide) (by decide), rd_wr_eq _ (by decide)]
    exact Nat.mod_eq_of_lt h

/-- R306: the fault NO_SOURCE of a loss that leaves no input, and the note that MCLK comes from ROSC. -/
def Dev.lossNoted (m : Nat) (d : Dev) : Dev :=
  { d with sel := { d.sel with onRosc := d.sel.onRosc || decide (m ≠ NO_SOURCE) }, fc := { d.fc with raised := d.fc.raised ++ [d.report .clock 6 central 0] } }

theorem bare_lossNoted (m : Nat) (d : Dev) : (d.lossNoted m).bare = d.bare.lossNoted m := rfl

/-- R306: the fault that WAIT does not raise itself. -/
def lossReported (d : Dev) : Dev := onlyIf (d.mode = NO_SOURCE) (·.raise .clock 6 central 0) (d.wrB CK_LOSS_TO_WAIT true)

theorem rd_lossReported (x : Fld) (d : Dev) : (lossReported d).rd x = (d.wrB CK_LOSS_TO_WAIT true).rd x := rd_onlyIf rfl

theorem fld_lossReported (d : Dev) : (lossReported d).fld = d.fld := by
  unfold lossReported onlyIf
  split <;> rfl

theorem bare_lossReported (d : Dev) : (lossReported d).bare.noSourceNoted d.mode = d.bare.lossNoted d.mode := by
  unfold lossReported onlyIf
  by_cases h : d.mode = NO_SOURCE
  · rw [if_pos (decide_eq_true h), h]
    simp [Dev.noSourceNoted, Dev.lossNoted, Dev.raise, Dev.raiseR, Dev.bare, Dev.wrB, Dev.wr, Dev.setReg, Dev.report]
  · rw [if_neg (by simpa using h)]
    simp [Dev.noSourceNoted, Dev.lossNoted, Dev.bare, h, Dev.wrB, Dev.wr, Dev.setReg]

theorem lossToWait_eq (d : Dev) : lossToWait d = toWait (lossReported d) := rfl

/-- R306, R307: what WAIT after a loss shows. -/
theorem lossToWait_shows (d : Dev) : (lossToWait d).ckSel = ckWait ∧ (lossToWait d).rd CK_EVT_WAITS = satN 0xFFFF (d.rd CK_EVT_WAITS + 1) ∧
    (lossToWait d).mode = NO_SOURCE ∧ (lossToWait d).rdB CK_STATUS_PLL_LOCK = false ∧
    (∀ f ∈ d.serving, (lossToWait d).rdB (ST_OP_STATUS_HOLD_SAFE f) = true) ∧ (lossToWait d).rdB CK_LOSS_TO_WAIT = true := by
  obtain ⟨hsel, hwaits, hmode, hlock, hheld⟩ := toWait_shows (lossReported d)
  rw [rd_lossReported, rd_wrB_apart _ (by decide)] at hwaits
  refine ⟨hsel, hwaits, hmode, hlock, fun f hf => hheld f ?_, ?_⟩
  · rwa [serving_of_fld (fld_lossReported d)]
  · rw [lossToWait_eq, Dev.rdB, rd_toWait (by decide) (by decide), inWait, rd_inc_apart (by decide), rd_wrB_apart _ (by decide), rd_wr_apart _ (by decide),
      rd_lossReported, ← Dev.rdB, rdB_wrB_eq _ (by decide)]

theorem sansWait_lossToWait (d : Dev) : (lossToWait d).sansWait = (d.lossNoted d.mode).sansWait := by
  have hmode : (lossReported d).mode = d.mode := (rd_lossReported _ _).trans (rd_wrB_apart _ (by decide))
  rw [lossToWait_eq, sansWait_toWait, hmode]
  exact sansWait_of_bare (by rw [bare_noSourceNoted, bare_lossReported, bare_lossNoted])

/-- R306: the loss of an input is noted. -/
def lostNoted (tb : Bool) (d : Dev) : Dev := noteLoss (b01 tb) (d.wrB (if tb then CK_STATUS_TB_Q else CK_STATUS_REF_Q) false)

theorem bare_lostNoted (tb : Bool) (d : Dev) : (lostNoted tb d).bare = d.bare := by rw [lostNoted, bare_noteLoss, bare_wrB]

theorem rd_lostNoted {tb : Bool} {x : Fld} (hq : x.apart (if tb then CK_STATUS_TB_Q else CK_STATUS_REF_Q)) (hs : x.apart CK_LOSS_SRC) (hv : x.apart CK_LOSS_VALID)
    (hw : x.apart CK_LOSS_TO_WAIT) (d : Dev) : (lostNoted tb d).rd x = d.rd x := by
  rw [lostNoted, rd_noteLoss hs hv hw, rd_wrB_apart _ hq]

theorem rdB_lostNoted {tb : Bool} {x : Fld} (hq : x.apart (if tb then CK_STATUS_TB_Q else CK_STATUS_REF_Q)) (hs : x.apart CK_LOSS_SRC) (hv : x.apart CK_LOSS_VALID)
    (hw : x.apart CK_LOSS_TO_WAIT) (d : Dev) : (lostNoted tb d).rdB x = d.rdB x := by
  rw [Dev.rdB, rd_lostNoted hq hs hv hw, Dev.rdB]

theorem lostNoted_shows (tb : Bool) (d : Dev) : (lostNoted tb d).rdB (if tb then CK_STATUS_TB_Q else CK_STATUS_REF_Q) = false ∧
    (lostNoted tb d).rd CK_LOSS_SRC = b01 tb ∧ (lostNoted tb d).rdB CK_LOSS_VALID = true ∧ (lostNoted tb d).rdB CK_LOSS_TO_WAIT = false := by
  refine ⟨?_, noteLoss_shows (by cases tb <;> decide)⟩
  rw [lostNoted, Dev.rdB, rd_noteLoss (by split <;> decide) (by split <;> decide) (by split <;> decide), ← Dev.rdB, rdB_wrB_eq _ (by split <;> decide)]

theorem qualified_tb : d.qualified true = d.rdB CK_STATUS_TB_Q := rfl

theorem qualified_ref : d.qualified false = d.rdB CK_STATUS_REF_Q := rfl

theorem ckLost_not {tb : Bool} (h : d.qualified tb = false) : ckLost tb d = d := by rw [ckLost, if_pos (by rw [h]; rfl)]

theorem onPll_locking (h : d.onPll = true) : d.ckSel ≠ ckLocking := by
  intro hl
  rw [Dev.onPll, hl] at h
  exact absurd h (by decide)

/-- R306: an input is lost while the PLL runs. -/
theorem ckLost_running {tb : Bool} {n : Nat} (hn : (if tb then 7 else 8) = n) (hq : d.qualified tb = true) (hon : d.onPll = true) : ckLost tb d =
    (if d.rdB CK_STATUS_PLL_SRC = tb then
      if d.qualified (!tb) = true then (pllTo ckHolding (!tb) (lostNoted tb d)).raise .clock n central 0 else lossToWait (lostNoted tb d)
    else (lostNoted tb d).raise .clock n central 0) := by
  have hsrc : (lostNoted tb d).rdB CK_STATUS_PLL_SRC = d.rdB CK_STATUS_PLL_SRC :=
    rdB_lostNoted (by cases tb <;> decide) (by decide) (by decide) (by decide) d
  have hsel : (lostNoted tb d).ckSel = d.ckSel := rd_lostNoted (by cases tb <;> decide) (by decide) (by decide) (by decide) d
  have hon' : (lostNoted tb d).onPll = d.onPll := by rw [Dev.onPll, hsel, Dev.onPll]
  have hother : (lostNoted tb d).qualified (!tb) = d.qualified (!tb) := by
    cases tb with
    | false => exact rdB_lostNoted (tb := false) (x := CK_STATUS_TB_Q) (by decide) (by decide) (by decide) (by decide) d
    | true => exact rdB_lostNoted (tb := true) (x := CK_STATUS_REF_Q) (by decide) (by decide) (by decide) (by decide) d
  have hboot : d.ckSel ≠ ckBoot := by
    intro hb
    rw [Dev.onPll, hb] at hon
    exact absurd hon (by decide)
  rw [ckLost, if_neg (by rw [hq]; decide), hn]
  have hnoted : noteLoss (b01 tb) (d.wrB (if tb then CK_STATUS_TB_Q else CK_STATUS_REF_Q) false) = lostNoted tb d := rfl
  dsimp only
  rw [hnoted]
  generalize lostNoted tb d = e at hsrc hsel hon' hother
  rw [hsrc, hsel, hon', hother, hon, if_neg fun h => onPll_locking hon h.1]
  by_cases hu : d.rdB CK_STATUS_PLL_SRC = tb
  · rw [if_pos ⟨rfl, hu⟩, if_pos hu]
  · rw [if_neg fun h => hu h.2, if_neg hu, onlyIf, if_neg (by simp [hboot])]

end

/-! The clauses. -/

section
variable {s : State}

/-- A change of the PLL's selector beside others, settled. -/
theorem pllTo_settles {d : Dev} {sel : Nat} {tb : Bool} (h : sel < 8) : (settle (pllTo sel tb d)).ckSel = sel ∧
    (settle (pllTo sel tb d)).rdB CK_STATUS_PLL_SRC = tb ∧ (settle (pllTo sel tb d)).rdB CK_STATUS_PLL_LOCK = false := by
  obtain ⟨hsel, hsrc, hlock⟩ := pllTo_shows (d := d) (tb := tb) h
  exact ⟨(rd_settle (by decide)).trans hsel, (rdB_settle (by decide)).trans hsrc, (rdB_settle (by decide)).trans hlock⟩

/-- A command that enters WAIT. -/
theorem toWait_settles (d : Dev) : (settle (toWait d)).ckSel = ckWait ∧ (settle (toWait d)).rd CK_EVT_WAITS = satN 0xFFFF (d.rd CK_EVT_WAITS + 1) ∧
    (settle (toWait d)).mode = NO_SOURCE ∧ (settle (toWait d)).rdB CK_STATUS_PLL_LOCK = false ∧
    ∀ f ∈ d.serving, (settle (toWait d)).rdB (ST_OP_STATUS_HOLD_SAFE f) = true := by
  obtain ⟨hsel, hwaits, hmode, hlock, hheld⟩ := toWait_shows d
  exact ⟨(rd_settle (by decide)).trans hsel, (rd_settle (by decide)).trans hwaits, (rd_settle (by decide)).trans hmode,
    (rdB_settle (by decide)).trans hlock, fun f hf => (rdB_settle (apart_alert (stBase_le f _))).trans (hheld f hf)⟩

theorem lossToWait_settles (d : Dev) : (settle (lossToWait d)).ckSel = ckWait ∧ (settle (lossToWait d)).rd CK_EVT_WAITS = satN 0xFFFF (d.rd CK_EVT_WAITS + 1) ∧
    (settle (lossToWait d)).mode = NO_SOURCE ∧ (settle (lossToWait d)).rdB CK_STATUS_PLL_LOCK = false ∧
    (∀ f ∈ d.serving, (settle (lossToWait d)).rdB (ST_OP_STATUS_HOLD_SAFE f) = true) ∧ (settle (lossToWait d)).rdB CK_LOSS_TO_WAIT = true := by
  obtain ⟨hsel, hwaits, hmode, hlock, hheld, hloss⟩ := lossToWait_shows d
  exact ⟨(rd_settle (by decide)).trans hsel, (rd_settle (by decide)).trans hwaits, (rd_settle (by decide)).trans hmode,
    (rdB_settle (by decide)).trans hlock, fun f hf => (rdB_settle (apart_alert (stBase_le f _))).trans (hheld f hf), (rdB_settle (by decide)).trans hloss⟩

theorem pllOn_settles {d e : Dev} (h : ∀ x : Fld, x.apart TB_STATUS_MODE → e.rd x = (pllOn d).rd x) :
    (settle e).ckSel = (if d.rdB CK_STATUS_PLL_SRC = true then ckOnTb else ckOnRef) ∧
    (settle e).rdB CK_STATUS_PLL_LOCK = true ∧ (settle e).rd CK_EVT_SWITCHES = satN 0xFFFF (d.rd CK_EVT_SWITCHES + 1) := by
  obtain ⟨hsel, hlock, hswitches⟩ := pllOn_shows (d := d)
  refine ⟨(rd_settle (by decide)).trans ((h _ (by decide)).trans hsel), ?_, (rd_settle (by decide)).trans ((h _ (by decide)).trans hswitches)⟩
  rw [rdB_settle (by decide), Dev.rdB, h _ (by decide)]
  exact hlock

/-- R303, R309: REFCLK qualifies in WAIT. -/
theorem refclkQualify_waiting {u : BitVec 32} (hs : s.awake) (hq : s.dev.rdB CK_STATUS_REF_Q = false) (hr : s.dev.rdB CK_STATUS_ROSC_RUN = true) (hw : s.dev.ckSel = ckWait) :
    Completes (.refclkQualify u) s fun t => t.dev.ckSel = ckLocking ∧ t.dev.rdB CK_STATUS_PLL_SRC = false ∧ t.dev.rdB CK_STATUS_PLL_LOCK = false ∧ t.dev.rdB CK_STATUS_REF_Q = true ∧ t.dev.rd CK_WAIT_TIME_US = u.toNat ∧ (s.changes t { s.dev with time := { s.dev.time with acqFrom := if (s.dev.mode = ACQUIRING ∨ (s.dev.mode = NO_SOURCE ∧ s.dev.time.heldMode = ACQUIRING)) ∧ s.dev.time.acqFrom = none then some s.dev.time.nb else s.dev.time.acqFrom } } [CK_STATUS_REF_Q, CK_STATUS_SEL, CK_STATUS_PLL_SRC, CK_STATUS_PLL_LOCK, CK_WAIT_TIME_US]) := by
  have hg := refQualify_qualifies (us := u.toNat) hq hr
  have hin : (s.dev.acquiring.wrB CK_STATUS_REF_Q true).ckSel = ckWait := (rd_wrB_apart _ (by decide)).trans hw
  rw [if_pos hw, waitEnds_waiting hin] at hg
  obtain ⟨hq', hus⟩ := waitEnded_shows (tb := false) u.isLt (by decide) (by decide) (by decide) (by decide)
    (rdB_wrB_eq (x := CK_STATUS_REF_Q) (d := s.dev.acquiring) true (by decide))
  obtain ⟨hsel, hsrc, hlock⟩ := pllTo_settles (d := (s.dev.acquiring.wrB CK_STATUS_REF_Q true).wr CK_WAIT_TIME_US u.toNat) (tb := false) (sel := ckLocking) (by decide)
  refine completes_eq rfl hs hg ⟨hsel, hsrc, hlock, (rdB_settle (by decide)).trans hq', (rd_settle (by decide)).trans hus, changes_bare ?_ fun x hx => ?_⟩
  · rw [bare_pllTo, bare_wr, bare_wrB]
    rfl
  · rw [rd_pllTo (hx _ (by simp)) (hx _ (by simp)) (hx _ (by simp)), rd_wr_apart _ (hx _ (by simp)), rd_wrB_apart _ (hx _ (by simp))]
    rfl

theorem refclkQualify_elsewhere {u : BitVec 32} (hs : s.awake) (hq : s.dev.rdB CK_STATUS_REF_Q = false) (hr : s.dev.rdB CK_STATUS_ROSC_RUN = true) (hw : s.dev.ckSel ≠ ckWait)
    (hb : s.dev.ckSel ≠ ckBoot ∨ s.dev.mode ≠ NO_SOURCE) :
    Completes (.refclkQualify u) s fun t => t.dev.rdB CK_STATUS_REF_Q = true ∧ (s.changes t { s.dev with time := { s.dev.time with acqFrom := if (s.dev.mode = ACQUIRING ∨ (s.dev.mode = NO_SOURCE ∧ s.dev.time.heldMode = ACQUIRING)) ∧ s.dev.time.acqFrom = none then some s.dev.time.nb else s.dev.time.acqFrom } } [CK_STATUS_REF_Q]) := by
  have hg := refQualify_qualifies (us := u.toNat) hq hr
  rw [if_neg hw] at hg
  have hback : (if s.dev.ckSel = ckBoot then sourceBack (s.dev.acquiring.wrB CK_STATUS_REF_Q true) else s.dev.acquiring.wrB CK_STATUS_REF_Q true) =
      s.dev.acquiring.wrB CK_STATUS_REF_Q true := by
    have hmode : (s.dev.acquiring.wrB CK_STATUS_REF_Q true).mode = s.dev.mode := rd_wrB_apart _ (by decide)
    split
    · next h => exact sourceBack_other (hmode ▸ hb.resolve_left fun h' => h' h)
    · rfl
  rw [hback] at hg
  refine completes_eq rfl hs hg ⟨(rdB_settle (by decide)).trans (rdB_wrB_eq _ (by decide)), changes_bare (bare_wrB _ _ _) fun x hx => ?_⟩
  rw [rd_wrB_apart _ (hx _ (by simp))]
  rfl

theorem refclkQualify_boot {u : BitVec 32} (hs : s.awake) (hq : s.dev.rdB CK_STATUS_REF_Q = false) (hr : s.dev.rdB CK_STATUS_ROSC_RUN = true) (hb : s.dev.ckSel = ckBoot) (hm : s.dev.mode = NO_SOURCE) :
    Completes (.refclkQualify u) s fun t => t.dev.rdB CK_STATUS_REF_Q = true ∧ t.dev.mode = s.dev.time.heldMode % 8 ∧ (s.changes t { s.dev with time := { s.dev.time with acqFrom := if (s.dev.mode = ACQUIRING ∨ (s.dev.mode = NO_SOURCE ∧ s.dev.time.heldMode = ACQUIRING)) ∧ s.dev.time.acqFrom = none then some s.dev.time.nb else s.dev.time.acqFrom } } [CK_STATUS_REF_Q, TB_STATUS_MODE]) := by
  have hg := refQualify_qualifies (us := u.toNat) hq hr
  have hmode : (s.dev.acquiring.wrB CK_STATUS_REF_Q true).mode = NO_SOURCE := (rd_wrB_apart _ (by decide)).trans hm
  rw [if_neg (by rw [hb]; decide), if_pos hb, sourceBack_held hmode] at hg
  refine completes_eq rfl hs hg ⟨?_, ?_, changes_bare ?_ fun x hx => ?_⟩
  · rw [rdB_settle (by decide), rdB_wr_apart _ (by decide), rdB_wrB_eq _ (by decide)]
  · exact (rd_settle (by decide)).trans (rd_wr_eq _ (by decide))
  · rw [bare_wr, bare_wrB]
    rfl
  · rw [rd_wr_apart _ (hx _ (by simp)), rd_wrB_apart _ (hx _ (by simp))]
    rfl

/-- R304, R309: TBCLK qualifies in WAIT. -/
theorem tbclkQualify_waiting {u : BitVec 32} (hs : s.awake) (hq : s.dev.rdB CK_STATUS_TB_Q = false) (hr : s.dev.rdB CK_STATUS_ROSC_RUN = true) (hl : s.dev.time.laneOff = false)
    (hw : s.dev.ckSel = ckWait) :
    Completes (.tbclkQualify u) s fun t => t.dev.ckSel = ckLocking ∧ t.dev.rdB CK_STATUS_PLL_SRC = true ∧ t.dev.rdB CK_STATUS_PLL_LOCK = false ∧ t.dev.rdB CK_STATUS_TB_Q = true ∧ t.dev.rd CK_WAIT_TIME_US = u.toNat ∧ s.changes t { s.dev with clk := { s.dev.clk with tbQualAt := s.dev.time.nb } } [CK_STATUS_TB_Q, CK_STATUS_SEL, CK_STATUS_PLL_SRC, CK_STATUS_PLL_LOCK, CK_WAIT_TIME_US] := by
  have hg := tbQualify_qualifies (us := u.toNat) hq hr hl
  have hin : ({ s.dev with clk := { s.dev.clk with tbQualAt := s.dev.time.nb } }.wrB CK_STATUS_TB_Q true).ckSel = ckWait := (rd_wrB_apart _ (by decide)).trans hw
  rw [if_pos hw, waitEnds_waiting hin] at hg
  obtain ⟨hq', hus⟩ := waitEnded_shows (tb := true) u.isLt (by decide) (by decide) (by decide) (by decide)
    (rdB_wrB_eq (x := CK_STATUS_TB_Q) (d := { s.dev with clk := { s.dev.clk with tbQualAt := s.dev.time.nb } }) true (by decide))
  obtain ⟨hsel, hsrc, hlock⟩ := pllTo_settles (d := ({ s.dev with clk := { s.dev.clk with tbQualAt := s.dev.time.nb } }.wrB CK_STATUS_TB_Q true).wr CK_WAIT_TIME_US u.toNat) (tb := true) (sel := ckLocking) (by decide)
  refine completes_eq rfl hs hg ⟨hsel, hsrc, hlock, (rdB_settle (by decide)).trans hq', (rd_settle (by decide)).trans hus, changes_bare ?_ fun x hx => ?_⟩
  · rw [bare_pllTo, bare_wr, bare_wrB]
  · rw [rd_pllTo (hx _ (by simp)) (hx _ (by simp)) (hx _ (by simp)), rd_wr_apart _ (hx _ (by simp)), rd_wrB_apart _ (hx _ (by simp))]
    rfl

theorem tbclkQualify_elsewhere {u : BitVec 32} (hs : s.awake) (hq : s.dev.rdB CK_STATUS_TB_Q = false) (hr : s.dev.rdB CK_STATUS_ROSC_RUN = true) (hl : s.dev.time.laneOff = false)
    (hw : s.dev.ckSel ≠ ckWait) (hb : s.dev.ckSel ≠ ckBoot ∨ s.dev.mode ≠ NO_SOURCE) :
    Completes (.tbclkQualify u) s fun t => t.dev.rdB CK_STATUS_TB_Q = true ∧ s.changes t { s.dev with clk := { s.dev.clk with tbQualAt := s.dev.time.nb } } [CK_STATUS_TB_Q] := by
  have hg := tbQualify_qualifies (us := u.toNat) hq hr hl
  rw [if_neg hw] at hg
  have hback : (if s.dev.ckSel = ckBoot then sourceBack ({ s.dev with clk := { s.dev.clk with tbQualAt := s.dev.time.nb } }.wrB CK_STATUS_TB_Q true)
      else { s.dev with clk := { s.dev.clk with tbQualAt := s.dev.time.nb } }.wrB CK_STATUS_TB_Q true) =
      { s.dev with clk := { s.dev.clk with tbQualAt := s.dev.time.nb } }.wrB CK_STATUS_TB_Q true := by
    have hmode : ({ s.dev with clk := { s.dev.clk with tbQualAt := s.dev.time.nb } }.wrB CK_STATUS_TB_Q true).mode = s.dev.mode := rd_wrB_apart _ (by decide)
    split
    · next h => exact sourceBack_other (hmode ▸ hb.resolve_left fun h' => h' h)
    · rfl
  rw [hback] at hg
  refine completes_eq rfl hs hg ⟨(rdB_settle (by decide)).trans (rdB_wrB_eq _ (by decide)), changes_bare (bare_wrB _ _ _) fun x hx => ?_⟩
  rw [rd_wrB_apart _ (hx _ (by simp))]
  rfl

/-- R306: the PLL locks, and boundaries resume. -/
theorem pllLock_back (hs : s.awake) (hl : s.dev.ckSel = ckLocking) (hm : s.dev.mode = NO_SOURCE) :
    Completes .pllLock s fun t => t.dev.ckSel = (if s.dev.rdB CK_STATUS_PLL_SRC = true then ckOnTb else ckOnRef) ∧ t.dev.rdB CK_STATUS_PLL_LOCK = true ∧ t.dev.rd CK_EVT_SWITCHES = satN 0xFFFF (s.dev.rd CK_EVT_SWITCHES + 1) ∧ t.dev.mode = s.dev.time.heldMode % 8 ∧ s.changes t { s.dev with start := if s.dev.start.step = 5 then { s.dev.start with step := 6, since := s.dev.time.nb } else s.dev.start } [CK_STATUS_SEL, CK_STATUS_PLL_LOCK, CK_EVT_SWITCHES, TB_STATUS_MODE] := by
  have hmode : (pllOn s.dev).mode = NO_SOURCE := (rd_pllOn (by decide) (by decide) (by decide)).trans hm
  have hg : pllLock s.dev = stepSix ((pllOn s.dev).wr TB_STATUS_MODE (pllOn s.dev).time.heldMode) := by rw [pllLock, if_pos hl, sourceBack_held hmode]
  have htime : (pllOn s.dev).time = s.dev.time := time_of_bare bare_pllOn
  rw [htime] at hg
  obtain ⟨hsel, hlock, hsw⟩ := pllOn_settles (d := s.dev) (e := stepSix ((pllOn s.dev).wr TB_STATUS_MODE s.dev.time.heldMode))
    fun x hx => (stepSix_rd _ _).trans (rd_wr_apart _ hx)
  refine completes_eq rfl hs hg ⟨hsel, hlock, hsw, ?_, changes_bare ?_ fun x hx => ?_⟩
  · exact (rd_settle (by decide)).trans ((stepSix_rd _ _).trans (rd_wr_eq _ (by decide)))
  · rw [bare_stepSix, bare_wr, bare_pllOn]
    exact (bare_stepSix _).symm.trans (congrArg Dev.bare (stepSix_eq (d := s.dev)))
  · rw [stepSix_rd, rd_wr_apart _ (hx _ (by simp)), rd_pllOn (hx _ (by simp)) (hx _ (by simp)) (hx _ (by simp))]

theorem pllLock_going (hs : s.awake) (hl : s.dev.ckSel = ckLocking) (hm : s.dev.mode ≠ NO_SOURCE) :
    Completes .pllLock s fun t => t.dev.ckSel = (if s.dev.rdB CK_STATUS_PLL_SRC = true then ckOnTb else ckOnRef) ∧ t.dev.rdB CK_STATUS_PLL_LOCK = true ∧ t.dev.rd CK_EVT_SWITCHES = satN 0xFFFF (s.dev.rd CK_EVT_SWITCHES + 1) ∧ s.changes t { s.dev with start := if s.dev.start.step = 5 then { s.dev.start with step := 6, since := s.dev.time.nb } else s.dev.start } [CK_STATUS_SEL, CK_STATUS_PLL_LOCK, CK_EVT_SWITCHES] := by
  have hmode : (pllOn s.dev).mode ≠ NO_SOURCE := fun h => hm ((rd_pllOn (by decide) (by decide) (by decide)).symm.trans h)
  have hg : pllLock s.dev = stepSix (pllOn s.dev) := by rw [pllLock, if_pos hl, sourceBack_other hmode]
  obtain ⟨hsel, hlock, hsw⟩ := pllOn_settles (d := s.dev) (e := stepSix (pllOn s.dev)) fun x _ => stepSix_rd _ _
  refine completes_eq rfl hs hg ⟨hsel, hlock, hsw, changes_bare ?_ fun x hx => ?_⟩
  · rw [bare_stepSix, bare_pllOn]
    exact (bare_stepSix _).symm.trans (congrArg Dev.bare (stepSix_eq (d := s.dev)))
  · rw [stepSix_rd, rd_pllOn (hx _ (by simp)) (hx _ (by simp)) (hx _ (by simp))]

end

/-- R306: TBCLK is lost and the PLL holds to REFCLK. -/
theorem tbclkLost_holds :
    ∀ (s : State), s.awake → s.dev.rdB CK_STATUS_TB_Q = true → s.dev.onPll = true → s.dev.rdB CK_STATUS_PLL_SRC = true →
      s.dev.rdB CK_STATUS_REF_Q = true → Completes .tbclkLost s fun t => t.dev.ckSel = ckHolding ∧ t.dev.rdB
      CK_STATUS_PLL_SRC = false ∧ t.dev.rdB CK_STATUS_PLL_LOCK = false ∧ t.dev.rdB CK_STATUS_TB_Q = false ∧ t.dev.rd
      CK_LOSS_SRC = 1 ∧ t.dev.rdB CK_LOSS_VALID = true ∧ t.dev.rdB CK_LOSS_TO_WAIT = false ∧ s.changes t
      { s.dev with fc := { s.dev.fc with raised := s.dev.fc.raised ++ [s.dev.report .clock 7 central 0] } }
      [CK_STATUS_TB_Q, CK_STATUS_SEL, CK_STATUS_PLL_SRC, CK_STATUS_PLL_LOCK, CK_LOSS_SRC, CK_LOSS_VALID, CK_LOSS_TO_WAIT] := by
  intro s hs hq hon hsrc hr
  have hg := ckLost_running (d := s.dev) (tb := true) (n := 7) rfl (qualified_tb.trans hq) hon
  rw [if_pos hsrc, Bool.not_true, if_pos (qualified_ref.trans hr)] at hg
  obtain ⟨hsel, hsrc', hlock⟩ := pllTo_shows (d := lostNoted true s.dev) (tb := false) (sel := ckHolding) (by decide)
  obtain ⟨hq', hlsrc, hval, hwait⟩ := lostNoted_shows true s.dev
  have hkeep {x : Fld} (h1 : x.apart CK_STATUS_SEL) (h2 : x.apart CK_STATUS_PLL_SRC) (h3 : x.apart CK_STATUS_PLL_LOCK) :
      ((pllTo ckHolding false (lostNoted true s.dev)).raise .clock 7 central 0).rd x = (lostNoted true s.dev).rd x :=
    (Dev.raise_rd _ _ _ _ _ _).trans (rd_pllTo h1 h2 h3)
  refine completes_eq rfl hs hg ⟨(rd_settle (by decide)).trans ((Dev.raise_rd _ _ _ _ _ _).trans hsel), (rdB_settle (by decide)).trans ((Dev.raise_rdB _ _ _ _ _ _).trans hsrc'),
    (rdB_settle (by decide)).trans ((Dev.raise_rdB _ _ _ _ _ _).trans hlock), ?_, ?_, ?_, ?_, changes_bare ?_ fun x hx => ?_⟩
  · rw [rdB_settle (by decide), Dev.rdB, hkeep (by decide) (by decide) (by decide)]
    exact hq'
  · rw [rd_settle (by decide), hkeep (by decide) (by decide) (by decide)]
    exact hlsrc
  · rw [rdB_settle (by decide), Dev.rdB, hkeep (by decide) (by decide) (by decide)]
    exact hval
  · rw [rdB_settle (by decide), Dev.rdB, hkeep (by decide) (by decide) (by decide)]
    exact hwait
  · rw [bare_raise, bare_pllTo, bare_lostNoted]
    rfl
  · rw [hkeep (hx _ (by simp)) (hx _ (by simp)) (hx _ (by simp))]
    exact rd_lostNoted (hx _ (by simp)) (hx _ (by simp)) (hx _ (by simp)) (hx _ (by simp)) _

/-- R306, R307: TBCLK is lost and no input remains. -/
theorem tbclkLost_waits :
    ∀ (s : State), s.awake → s.dev.rdB CK_STATUS_TB_Q = true → s.dev.onPll = true → s.dev.rdB CK_STATUS_PLL_SRC = true →
      s.dev.rdB CK_STATUS_REF_Q = false → Completes .tbclkLost s fun t => t.dev.ckSel = ckWait ∧ t.dev.rd CK_EVT_WAITS =
      satN 0xFFFF (s.dev.rd CK_EVT_WAITS + 1) ∧ t.dev.mode = NO_SOURCE ∧ t.dev.rdB CK_STATUS_PLL_LOCK = false ∧ (∀ f ∈
      s.dev.serving, t.dev.rdB (ST_OP_STATUS_HOLD_SAFE f) = true) ∧ t.dev.rdB CK_LOSS_TO_WAIT = true ∧ s.parts t
      { s.dev with sel := { s.dev.sel with onRosc := s.dev.sel.onRosc || decide (s.dev.mode ≠ NO_SOURCE) }, time := t.dev.time, dom := t.dev.dom, clk := t.dev.clk, pat := t.dev.pat, fld := t.dev.fld, cls := t.dev.cls, inst := t.dev.inst, tile := t.dev.tile, led := { s.dev.led with marks := t.dev.led.marks }, fc := { s.dev.fc with raised := s.dev.fc.raised ++ [s.dev.report .clock 6 central 0] } } := by
  intro s hs hq hon hsrc hr
  have hg := ckLost_running (d := s.dev) (tb := true) (n := 7) rfl (qualified_tb.trans hq) hon
  have hno : ¬ s.dev.qualified false = true := fun h => absurd (h.symm.trans hr) (by decide)
  rw [if_pos hsrc, Bool.not_true, if_neg hno] at hg
  have hserve : (lostNoted true s.dev).serving = s.dev.serving := serving_of_fld (fld_of_bare (bare_lostNoted _ _))
  have hmode : (lostNoted true s.dev).mode = s.dev.mode := rd_lostNoted (by decide) (by decide) (by decide) (by decide) _
  have hev : (lostNoted true s.dev).rd CK_EVT_WAITS = s.dev.rd CK_EVT_WAITS := rd_lostNoted (by decide) (by decide) (by decide) (by decide) _
  obtain ⟨hsel, hwaits, hm, hlock, hheld, hloss⟩ := lossToWait_settles (lostNoted true s.dev)
  rw [hev] at hwaits
  rw [hserve] at hheld
  have hsans : (lossToWait (lostNoted true s.dev)).sansWait = (s.dev.lossNoted s.dev.mode).sansWait := by
    rw [sansWait_lossToWait, hmode]
    exact sansWait_of_bare (by rw [bare_lossNoted, bare_lostNoted, ← bare_lossNoted])
  exact completes_eq rfl hs hg ⟨hsel, hwaits, hm, hlock, hheld, hloss, parts_of_sansWait hsans⟩

/-- R306: REFCLK is lost while TBCLK is in use. -/
theorem refclkLost_unused :
    ∀ (s : State), s.awake → s.dev.rdB CK_STATUS_REF_Q = true → s.dev.onPll = true → s.dev.rdB CK_STATUS_PLL_SRC = true →
      Completes .refclkLost s fun t => t.dev.rdB CK_STATUS_REF_Q = false ∧ t.dev.rd CK_LOSS_SRC = 0 ∧ t.dev.rdB
      CK_LOSS_VALID = true ∧ t.dev.rdB CK_LOSS_TO_WAIT = false ∧ s.changes t
      { s.dev with fc := { s.dev.fc with raised := s.dev.fc.raised ++ [s.dev.report .clock 8 central 0] } }
      [CK_STATUS_REF_Q, CK_LOSS_SRC, CK_LOSS_VALID, CK_LOSS_TO_WAIT] := by
  intro s hs hq hon hsrc
  have hg := ckLost_running (d := s.dev) (tb := false) (n := 8) rfl (qualified_ref.trans hq) hon
  rw [if_neg (show ¬ s.dev.rdB CK_STATUS_PLL_SRC = false by rw [hsrc]; decide)] at hg
  obtain ⟨hq', hlsrc, hval, hwait⟩ := lostNoted_shows false s.dev
  refine completes_eq rfl hs hg ⟨(rdB_settle (by decide)).trans ((Dev.raise_rdB _ _ _ _ _ _).trans hq'), (rd_settle (by decide)).trans ((Dev.raise_rd _ _ _ _ _ _).trans hlsrc),
    (rdB_settle (by decide)).trans ((Dev.raise_rdB _ _ _ _ _ _).trans hval), (rdB_settle (by decide)).trans ((Dev.raise_rdB _ _ _ _ _ _).trans hwait), changes_bare ?_ fun x hx => ?_⟩
  · rw [bare_raise, bare_lostNoted]
    rfl
  · rw [Dev.raise_rd]
    exact rd_lostNoted (hx _ (by simp)) (hx _ (by simp)) (hx _ (by simp)) (hx _ (by simp)) _

/-- R306: the PLL unlocks. -/
theorem pllUnlock_holds :
    ∀ (s : State), s.awake → (s.dev.ckSel = ckOnTb ∨ s.dev.ckSel = ckOnRef) → Completes .pllUnlock s fun t => t.dev.ckSel
      = ckHolding ∧ t.dev.rdB CK_STATUS_PLL_LOCK = false ∧ t.dev.rd CK_LOSS_SRC = 2 ∧ s.changes t
      { s.dev with fc := { s.dev.fc with raised := s.dev.fc.raised ++ [s.dev.report .clock 10 central 0] } }
      [CK_STATUS_SEL, CK_STATUS_PLL_LOCK, CK_LOSS_SRC, CK_LOSS_VALID, CK_LOSS_TO_WAIT] := by
  intro s hs hon
  have hsrc : (noteLoss 2 s.dev).rdB CK_STATUS_PLL_SRC = s.dev.rdB CK_STATUS_PLL_SRC := by
    rw [Dev.rdB, rd_noteLoss (by decide) (by decide) (by decide), Dev.rdB]
  have hg : pllUnlock s.dev = (pllTo ckHolding (s.dev.rdB CK_STATUS_PLL_SRC) (noteLoss 2 s.dev)).raise .clock 10 central 0 := by
    rw [pllUnlock, if_pos hon]
  obtain ⟨hsel, -, hlock⟩ := pllTo_shows (d := noteLoss 2 s.dev) (tb := s.dev.rdB CK_STATUS_PLL_SRC) (sel := ckHolding) (by decide)
  refine completes_eq rfl hs hg ⟨(rd_settle (by decide)).trans ((Dev.raise_rd _ _ _ _ _ _).trans hsel),
    (rdB_settle (by decide)).trans ((Dev.raise_rdB _ _ _ _ _ _).trans hlock), ?_, changes_bare ?_ fun x hx => ?_⟩
  · rw [rd_settle (by decide), Dev.raise_rd]
    exact (rd_pllTo (by decide) (by decide) (by decide)).trans (noteLoss_shows (d := s.dev) (src := 2) (by decide)).1
  · rw [bare_raise, bare_pllTo, bare_noteLoss]
    rfl
  · have hself : ((noteLoss 2 s.dev).wr CK_STATUS_SEL ckHolding).rdB CK_STATUS_PLL_SRC = s.dev.rdB CK_STATUS_PLL_SRC :=
      (rdB_wr_apart _ (by decide)).trans hsrc
    rw [Dev.raise_rd, pllTo, ← hself, rd_wrB_apart _ (hx _ (by simp)), rd_wrB_rdB (by decide), rd_wr_apart _ (hx _ (by simp)),
      rd_noteLoss (hx _ (by simp)) (hx _ (by simp)) (hx _ (by simp))]

/-- Settles O41. -/
theorem pllAndInputs : Obligations.PllAndInputs := by
  unfold Obligations.PllAndInputs
  refine ⟨fun s u hs hq hr hw => ?_, fun s u hs hq hr hw hb => ?_, fun s u hs hq hr hb hm => ?_, fun s u hs h => ?_, fun s u hs hq hr hl hw => ?_,
    fun s u hs hq hr hl hw hb => ?_, fun s b hs hb hp => ?_, fun s hs hb hp => ?_, fun s hs hb => ?_, fun s hs hl hm => ?_, fun s hs hl hm => ?_,
    fun s hs hl => ?_, fun s b hs hl hsrc hq => ?_, fun s hs hl hq => ?_, fun s hs hq hon hsrc hr => ?_, fun s hs hq hon hsrc hr => ?_,
    fun s hs hq hon hsrc => ?_, fun s hs hq => ?_, fun s hs hq => ?_, fun s hs hon => ?_, fun s hs hh => ?_, fun s hs hh => ?_, fun s hs hh => ?_,
    fun s hs hon hbolt hpref hq hdue => ?_, fun s hs hon => ?_, fun s hs => ?_⟩
  · exact refclkQualify_waiting hs hq hr hw
  · exact refclkQualify_elsewhere hs hq hr hw hb
  · exact refclkQualify_boot hs hq hr hb hm
  · exact completes_unchanged rfl hs (refQualify_not h)
  · exact tbclkQualify_waiting hs hq hr hl hw
  · exact tbclkQualify_elsewhere hs hq hr hl hw hb
  · have hg : pllEn s.dev = pllTo ckLocking b s.dev := by rw [pllEn, if_neg (fun h => h hb), hp]
    obtain ⟨hsel, hsrc, hlock⟩ := pllTo_settles (d := s.dev) (tb := b) (sel := ckLocking) (by decide)
    exact completes_eq rfl hs hg ⟨hsel, hsrc, hlock, changes_bare bare_pllTo fun x hx => rd_pllTo (hx _ (by simp)) (hx _ (by simp)) (hx _ (by simp))⟩
  · have hg : pllEn s.dev = toWait s.dev := by rw [pllEn, if_neg (fun h => h hb), hp]
    obtain ⟨hsel, hwaits, hmode, hlock, hheld⟩ := toWait_settles s.dev
    refine completes_eq rfl hs hg ⟨hsel, hwaits, hmode, hlock, hheld, ?_⟩
    exact parts_of_sansWait (sansWait_toWait _)
  · exact completes_conflict rfl hs (if_pos hb) (by decide) (by decide)
  · exact pllLock_back hs hl hm
  · exact pllLock_going hs hl hm
  · exact completes_unchanged rfl hs (if_neg hl)
  · have hq' : (s.dev.raise .clock 9 central 0).qualified (!b) = true := hq
    have hg : pllNolock s.dev = pllTo ckLocking (!b) (s.dev.raise .clock 9 central 0) := by rw [pllNolock, if_pos hl, hsrc, noLock, if_pos hq']
    obtain ⟨hsel, hsrc', hlock⟩ := pllTo_settles (d := s.dev.raise .clock 9 central 0) (tb := !b) (sel := ckLocking) (by decide)
    refine completes_eq rfl hs hg ⟨hsel, hsrc', hlock, changes_bare (bare_pllTo.trans rfl) fun x hx => ?_⟩
    exact rd_pllTo (hx _ (by simp)) (hx _ (by simp)) (hx _ (by simp))
  · have hq' : (s.dev.raise .clock 9 central 0).qualified (!s.dev.rdB CK_STATUS_PLL_SRC) ≠ true := fun h => absurd (h.symm.trans hq) (by decide)
    have hg : pllNolock s.dev = toWait (s.dev.raise .clock 9 central 0) := by rw [pllNolock, if_pos hl, noLock, if_neg hq']
    obtain ⟨hsel, hwaits, hmode, hlock, hheld⟩ := toWait_settles (s.dev.raise .clock 9 central 0)
    exact completes_eq rfl hs hg ⟨hsel, hwaits, hmode, hlock, hheld, parts_of_sansWait (sansWait_toWait _)⟩
  · exact tbclkLost_holds s hs hq hon hsrc hr
  · exact tbclkLost_waits s hs hq hon hsrc hr
  · exact refclkLost_unused s hs hq hon hsrc
  · exact completes_unchanged rfl hs (ckLost_not (qualified_ref.trans hq))
  · exact completes_unchanged rfl hs (ckLost_not (qualified_tb.trans hq))
  · exact pllUnlock_holds s hs hon
  · have hg : pllRelock s.dev = pllOn s.dev := if_pos hh
    obtain ⟨hsel, hlock, hsw⟩ := pllOn_settles (d := s.dev) (e := pllOn s.dev) fun x _ => rfl
    exact completes_eq rfl hs hg ⟨hsel, hlock, hsw, changes_bare bare_pllOn fun x hx => rd_pllOn (hx _ (by simp)) (hx _ (by simp)) (hx _ (by simp))⟩
  · have hg : pllHoldTimeout s.dev = lossToWait s.dev := if_pos hh
    obtain ⟨hsel, hwaits, hmode, hlock, hheld, hloss⟩ := lossToWait_settles s.dev
    exact completes_eq rfl hs hg ⟨hsel, hwaits, hmode, hlock, hheld, hloss, parts_of_sansWait (sansWait_lossToWait _)⟩
  · exact completes_unchanged rfl hs (if_neg hh)
  · have hg : tbReturn s.dev = pllTo ckHolding true s.dev := if_pos ⟨hon, hbolt, hpref, hq, hdue⟩
    obtain ⟨hsel, hsrc, hlock⟩ := pllTo_settles (d := s.dev) (tb := true) (sel := ckHolding) (by decide)
    exact completes_eq rfl hs hg ⟨hsel, hsrc, hlock, changes_bare bare_pllTo fun x hx => rd_pllTo (hx _ (by simp)) (hx _ (by simp)) (hx _ (by simp))⟩
  · exact completes_unchanged rfl hs (if_neg fun h => hon h.1)
  · have hg : roscStop s.dev = holdSafeEnter (s.dev.wrB CK_STATUS_ROSC_RUN false) := rfl
    have hserve : (s.dev.wrB CK_STATUS_ROSC_RUN false).serving = s.dev.serving := serving_of_fld (Dev.wrB_fld _ _ _)
    refine completes_eq rfl hs hg ⟨?_, fun f hf => ?_, ?_⟩
    · rw [rdB_settle (by decide), Dev.rdB, rd_holdSafeEnter (.inl (by decide)), ← Dev.rdB, rdB_wrB_eq _ (by decide)]
    · exact (rdB_settle (apart_alert (stBase_le f _))).trans (holdSafeEnter_serving (hserve ▸ hf))
    · rw [settle_dom, settle_clk, settle_pat, settle_fld, settle_cls, settle_inst, settle_tile, settle_led]
      have hsans : (forN 96 holdSafeField (s.dev.wrB CK_STATUS_ROSC_RUN false)).sansHold = s.dev.sansHold :=
        (forN_keep Dev.sansHold _ _ sansHold_holdSafeField _).trans (sansHold_of_bare (bare_wrB _ _ _))
      exact parts_settle (eq_of_bare (bare_held_of_sansHold hsans))

end Sys2Proof.Machine
end

section
/-! O37: the selvedge stops the wafer (R257 to R267, R272). -/

namespace Sys2Proof.Machine

/-! Commands that the selvedge takes in reset too (R263). -/

section
variable {c : Instr} {s : State} {g : Dev → Dev} {d : Dev}

theorem selvedge_silent (h : (g d).fc = d.fc) : selvedge g d = g d := by
  rw [selvedge]
  split
  · rfl
  · rw [← h]

theorem updSel_congr {x y : SelS → SelS} (h : x d.sel = y d.sel) : d.updSel x = d.updSel y := by rw [Dev.updSel, h, Dev.updSel]

/-- A command of the selvedge while Jenuz is awake. -/
theorem completes_awake {Q : State → Prop} (hc : exec c s = always (selvedge g) s) (hs : s.awake) (hg : g s.dev = d) (hq : Q { s with dev := settle d }) :
    Completes c s Q := completes_always hc ((if_pos hs.resetN).trans hg) hq

/-- A command of the selvedge that reports nothing. -/
theorem completes_silent {Q : State → Prop} (hc : exec c s = always (selvedge g) s) (hg : g s.dev = d) (hf : d.fc = s.dev.fc) (hq : Q { s with dev := settle d }) :
    Completes c s Q := completes_always hc ((selvedge_silent (hg ▸ hf)).trans hg) hq

/-- A command of the selvedge that changes nothing. -/
theorem completes_idle (hc : exec c s = always (selvedge g) s) (hg : g s.dev = s.dev) : Completes c s fun t => s.changes t s.dev [] :=
  completes_silent hc hg rfl (changes_settle rfl fun _ _ => rfl)

end

/-- What every change of a list keeps holds after the list. -/
theorem forL_preserves {α : Type} {P : Dev → Prop} {l : List α} {g : α → Dev → Dev} (hkeep : ∀ b ∈ l, ∀ d, P d → P (g b d)) {d : Dev} (h : P d) :
    P (forL l g d) := by
  induction l generalizing d with
  | nil => exact h
  | cons a l ih => exact ih (fun b hb => hkeep b (List.mem_cons_of_mem _ hb)) (hkeep a List.mem_cons_self d h)

/-! The wafer stopped (R258). -/

/-- The device without what a stop of the wafer changes beside the registers and the counts. -/
def Dev.sansWafer (d : Dev) : Dev := { d.bare with pat := [], tile := [], led := { d.led with marks := [] }, sel := SelS.init }

section
variable {d e : Dev} {x : Fld} {f p : Nat}

theorem sansWafer_of_bare (h : d.bare = e.bare) : d.sansWafer = e.sansWafer := by
  change { d.bare with pat := [], tile := [], led := { d.bare.led with marks := [] }, sel := SelS.init } =
    { e.bare with pat := [], tile := [], led := { e.bare.led with marks := [] }, sel := SelS.init }
  rw [h]

theorem sansWafer_of_sansStops (h : d.sansStops = e.sansStops) : d.sansWafer = e.sansWafer := by
  change { d.sansStops with tile := [], sel := SelS.init } = { e.sansStops with tile := [], sel := SelS.init }
  rw [h]

theorem sansWafer_of_sansTiles (h : d.sansTiles = e.sansTiles) : d.sansWafer = e.sansWafer := by
  change { d.sansTiles with pat := [], led := { d.sansTiles.led with marks := [] }, sel := SelS.init } =
    { e.sansTiles with pat := [], led := { e.sansTiles.led with marks := [] }, sel := SelS.init }
  rw [h]

/-- A stop of the wafer, settled, with what it counts and reports. -/
theorem parts_of_sansWafer {s : State} (h : d.sansWafer = e.sansWafer) : s.parts { s with dev := settle d }
    { e with pat := (settle d).pat, tile := (settle d).tile, led := { e.led with marks := (settle d).led.marks }, sel := (settle d).sel } := by
  rw [settle_pat, settle_tile, settle_led, settle_sel]
  refine parts_settle ?_
  calc d = { d.sansWafer with regs := d.regs, pat := d.pat, tile := d.tile, led := { d.sansWafer.led with marks := d.led.marks }, sel := d.sel } := rfl
    _ = _ := by rw [h]; rfl

theorem time_of_sansWafer (h : d.sansWafer = e.sansWafer) : d.time = e.time := by
  change d.sansWafer.time = e.sansWafer.time
  rw [h]

/-- R258: the stop of one field. -/
def stopPatches (f : Nat) (d : Dev) : Dev := forN 36 (stopClock psStopped f) (forN 4 (stopWadding f) d)

theorem stopWafer_eq (d : Dev) : stopWafer d = forL d.enabled stopPatches d := rfl

theorem sansWafer_stopPatches (f : Nat) (d : Dev) : (stopPatches f d).sansWafer = d.sansWafer := by
  rw [stopPatches, forN_keep Dev.sansWafer 36 _ fun p e => sansWafer_of_sansStops (sansStops_stopClock _ _ _ _)]
  exact sansWafer_of_sansTiles (sansTiles_stopsWadding f d)

theorem sansWafer_stopWafer (d : Dev) : (stopWafer d).sansWafer = d.sansWafer := forL_keep Dev.sansWafer _ _ sansWafer_stopPatches d

theorem rd_stopPatches (h : ∀ p, ∀ y ∈ stopRegs f p, x.apart y) (d : Dev) : (stopPatches f d).rd x = d.rd x := by
  rw [stopPatches, rd_forN _ _ fun p e => rd_stopClock (h p) e]
  exact rd_forN _ _ fun k e => rd_stopWadding _ _ _ _

theorem rd_stopWafer (h : x.addr < 0x30000000) (d : Dev) : (stopWafer d).rd x = d.rd x :=
  rd_forL _ _ fun _ e => rd_stopPatches (fun _ => apart_stopRegs h) e

/-- The patch does not run. -/
def Dev.still (d : Dev) (f p : Nat) : Prop := d.pstate f p ≠ psRunning

theorem still_stopClock (hp : p < 36) (d : Dev) : (stopClock psStopped f p d).still f p := by
  rw [Dev.still, pstate_stopClock hp (by decide)]
  split <;> decide

theorem still_stopClock_of (hp : p < 36) {g q : Nat} (_hq : q < 36) (h : d.still f p) : (stopClock psStopped g q d).still f p := by
  by_cases hsame : g = f ∧ q = p
  · obtain ⟨rfl, rfl⟩ := hsame
    exact still_stopClock hp d
  · rw [Dev.still, Dev.pstate, rd_stopClock fun y hy => .inl ?_]
    · exact h
    · simp only [stopRegs, List.mem_cons, List.not_mem_nil, or_false] at hy
      rcases hy with rfl | rfl | rfl | rfl | rfl <;>
        simp only [ST_OP_PATCH_STATE, PS_STATUS_CLK_ON, PS_STATUS_DD_ARMED, PS_STATUS_STRETCH, ST_OP_PATCH_WAIT, psBase, stBase] <;> omega

theorem still_stopPatches (hp : p < 36) (d : Dev) : (stopPatches f d).still f p :=
  forL_of_mem (P := fun e => e.still f p) (List.mem_range.mpr hp) (still_stopClock hp)
    (fun _ hq _ h => still_stopClock_of hp (List.mem_range.mp hq) h) _

theorem still_stopPatches_of (hp : p < 36) (g : Nat) (h : d.still f p) : (stopPatches g d).still f p := by
  refine forL_preserves (P := fun e => e.still f p) (fun q hq e he => still_stopClock_of hp (List.mem_range.mp hq) he) ?_
  rw [Dev.still, Dev.pstate, rd_forN _ _ fun k e => rd_stopWadding _ _ _ _]
  exact h

/-- R258: no patch of an enabled field runs. -/
theorem still_stopWafer (h : f ∈ d.enabled) (hp : p < 36) : (stopWafer d).still f p :=
  forL_of_mem (P := fun e => e.still f p) h (still_stopPatches hp) (fun g _ _ hst => still_stopPatches_of hp g hst) _

/-! The tripping patches and the first of them (R258, R272). -/

/-- A register that is not one of the tripping patches. -/
def NoTrip (x : Fld) : Prop := ∀ f, x.addr ≠ stBase f + 0x4000 ∧ x.addr ≠ stBase f + 0x4004

theorem noTrip_of_lt (h : x.addr < 0x30000000) : NoTrip x := fun f => by
  simp only [stBase]
  omega

theorem noTrip_pstate (f p : Nat) (_hp : p < 36) : NoTrip (ST_OP_PATCH_STATE f p) := fun g => by
  simp only [ST_OP_PATCH_STATE, stBase]
  omega

theorem bare_latchTrips (l : List (Nat × Nat)) (d : Dev) : (latchTrips l d).bare = d.bare := by
  rw [latchTrips]
  rw [bare_forL _ fun x e => bare_wrB _ _ _, bare_forL _ fun f e => ?_]
  rw [bare_wr, bare_wr]

theorem rd_latchTrips {l : List (Nat × Nat)} (hl : ∀ y ∈ l, y.2 < 36) (h : NoTrip x) (d : Dev) : (latchTrips l d).rd x = d.rd x := by
  rw [latchTrips]
  rw [forL_keep_mem (fun e => e.rd x) fun y hy e => ?_, rd_forL _ _ fun f e => ?_]
  · rw [rd_wr_apart _ (.inl (h f).2), rd_wr_apart _ (.inl (h f).1)]
  · refine rd_wrB_apart _ (.inl ?_)
    have hy := hl y hy
    obtain ⟨h0, h4⟩ := h y.1
    simp only [ST_TH_TRIP]
    omega

theorem latchTrips_one (_hp : p < 36) (d : Dev) : (latchTrips [(f, p)] d).rdB (ST_TH_TRIP f p) = true := by
  rw [latchTrips]
  rw [forL_one, rdB_wrB_eq _ ⟨rfl, by simp only [Fld.fits, ST_TH_TRIP]; omega⟩]

/-! The stop as it is latched (R258, R265, R272). -/

/-- R265: the state that a stop leads to. -/
def Dev.stopTo (d : Dev) : Nat := if orDef (d.rd JZ_SEL_TIME1_TRIP_LIMIT) 1 ≤ d.recentStops.length + 1 then selLatched else selStopped

/-- R258: the registers of a stop. -/
def stopShown (st : Nat) (d : Dev) : Dev :=
  ((((d.wr JZ_SEL_STATUS_STATE st).wrB JZ_SEL_STATUS_TRIP_PIN true).inc JZ_SEL_FIRST_STOPS)).wrB JZ_SEL_STATUS_OFF false

theorem bare_stopShown (st : Nat) (d : Dev) : (stopShown st d).bare = d.bare := by rw [stopShown, bare_wrB, bare_inc, bare_wrB, bare_wr]

theorem rd_stopShown (hst : x.apart JZ_SEL_STATUS_STATE) (hpin : x.apart JZ_SEL_STATUS_TRIP_PIN) (hn : x.apart JZ_SEL_FIRST_STOPS)
    (hoff : x.apart JZ_SEL_STATUS_OFF) (st : Nat) (d : Dev) : (stopShown st d).rd x = d.rd x := by
  rw [stopShown, rd_wrB_apart _ hoff, rd_inc_apart hn, rd_wrB_apart _ hpin, rd_wr_apart _ hst]

theorem stopShown_shows {st : Nat} (h : st < 8) (d : Dev) : (stopShown st d).rd JZ_SEL_STATUS_STATE = st ∧ (stopShown st d).rdB JZ_SEL_STATUS_TRIP_PIN = true ∧
    (stopShown st d).rd JZ_SEL_FIRST_STOPS = satN 0xFF (d.rd JZ_SEL_FIRST_STOPS + 1) := by
  refine ⟨?_, ?_, ?_⟩
  · rw [stopShown, rd_wrB_apart _ (by decide), rd_inc_apart (by decide), rd_wrB_apart _ (by decide), rd_wr_eq _ (by decide)]
    exact Nat.mod_eq_of_lt h
  · rw [stopShown, rdB_wrB_apart _ (by decide), rdB_inc_apart (by decide), rdB_wrB_eq _ (by decide)]
  · rw [stopShown, rd_wrB_apart _ (by decide), rd_inc_eq (by decide), rd_wrB_apart _ (by decide), rd_wr_apart _ (by decide)]
    rfl

/-- R258, R265: what a stop counts. -/
def Dev.stopCounted (d : Dev) : Dev :=
  { d with sel := { d.sel with coolFor := none, stops := d.recentStops ++ [d.rd EV_HOURS_HOURS] }, ev := { d.ev with stops := d.ev.stops + 1 } }

theorem selStopNow_eq (d : Dev) : selStopNow d = (stopShown d.stopTo (stopWafer d)).stopCounted := by
  have hst : (if decide (orDef (d.rd JZ_SEL_TIME1_TRIP_LIMIT) 1 ≤ d.recentStops.length + 1) then selLatched else selStopped) = d.stopTo := by
    rw [Dev.stopTo]
    by_cases h : orDef (d.rd JZ_SEL_TIME1_TRIP_LIMIT) 1 ≤ d.recentStops.length + 1
    · rw [if_pos (decide_eq_true h), if_pos h]
    · rw [if_neg (by simpa using h), if_neg h]
  rw [selStopNow, stopShown, Dev.stopCounted]
  dsimp only
  rw [hst]

theorem stopTo_lt (d : Dev) : d.stopTo < 8 := by
  rw [Dev.stopTo]
  split <;> decide

theorem stopCounted_rd (d : Dev) (x : Fld) : d.stopCounted.rd x = d.rd x := rfl

/-- One stop more in the recorder's count. -/
def Dev.stopMore (d : Dev) : Dev := { d with ev := { d.ev with stops := d.ev.stops + 1 } }

theorem sansWafer_counted (d : Dev) : d.stopMore.sansWafer = d.sansWafer.stopMore := rfl

theorem sansWafer_stopCounted (d : Dev) : d.stopCounted.sansWafer = d.sansWafer.stopMore := rfl

/-- R272: the stamp of a stop and its first patch. -/
def stopMarked (sub : Nat) (first : Option (Nat × Nat × Bool)) (d : Dev) : Dev := setFirst first (stampStop sub d)

theorem bare_setFirst (first : Option (Nat × Nat × Bool)) (d : Dev) : (setFirst first d).bare = d.bare := by
  rcases first with _ | ⟨f, p, b⟩
  · change ((((d.wr JZ_SEL_FIRST_FIELD 0).wr JZ_SEL_FIRST_PATCH 0).wrB JZ_SEL_FIRST_SUSPECT_RULE false).wrB JZ_SEL_FIRST_VALID false).bare = _
    rw [bare_wrB, bare_wrB, bare_wr, bare_wr]
  · change ((((d.wr JZ_SEL_FIRST_FIELD f).wr JZ_SEL_FIRST_PATCH p).wrB JZ_SEL_FIRST_SUSPECT_RULE b).wrB JZ_SEL_FIRST_VALID true).bare = _
    rw [bare_wrB, bare_wrB, bare_wr, bare_wr]

theorem bare_stopMarked (sub : Nat) (first : Option (Nat × Nat × Bool)) (d : Dev) : (stopMarked sub first d).bare = d.bare := by
  have hstamp : (stampStop sub d).bare = d.bare := by rw [stampStop, bare_wrB, putStamp, bare_wr, bare_wr]
  rw [stopMarked, bare_setFirst, hstamp]

theorem setFirst_some (f p : Nat) (b : Bool) (d : Dev) : setFirst (some (f, p, b)) d =
    (((d.wr JZ_SEL_FIRST_FIELD f).wr JZ_SEL_FIRST_PATCH p).wrB JZ_SEL_FIRST_SUSPECT_RULE b).wrB JZ_SEL_FIRST_VALID true := rfl

theorem setFirst_none (d : Dev) : setFirst none d =
    (((d.wr JZ_SEL_FIRST_FIELD 0).wr JZ_SEL_FIRST_PATCH 0).wrB JZ_SEL_FIRST_SUSPECT_RULE false).wrB JZ_SEL_FIRST_VALID false := rfl

/-- A register that is none of the first tripping patch. -/
def NoFirst (x : Fld) : Prop :=
  x.apart JZ_SEL_FIRST_FIELD ∧ x.apart JZ_SEL_FIRST_PATCH ∧ x.apart JZ_SEL_FIRST_SUSPECT_RULE ∧ x.apart JZ_SEL_FIRST_VALID

theorem rd_setFirst (h : NoFirst x) (first : Option (Nat × Nat × Bool)) (d : Dev) : (setFirst first d).rd x = d.rd x := by
  obtain ⟨hf, hp, hs, hv⟩ := h
  rcases first with _ | ⟨f, p, b⟩
  · rw [setFirst_none, rd_wrB_apart _ hv, rd_wrB_apart _ hs, rd_wr_apart _ hp, rd_wr_apart _ hf]
  · rw [setFirst_some, rd_wrB_apart _ hv, rd_wrB_apart _ hs, rd_wr_apart _ hp, rd_wr_apart _ hf]

theorem setFirst_shows {b : Bool} (hf : f < 128) (hp : p < 64) (d : Dev) : (setFirst (some (f, p, b)) d).rd JZ_SEL_FIRST_FIELD = f ∧
    (setFirst (some (f, p, b)) d).rd JZ_SEL_FIRST_PATCH = p ∧ (setFirst (some (f, p, b)) d).rdB JZ_SEL_FIRST_VALID = true ∧
    (setFirst (some (f, p, b)) d).rdB JZ_SEL_FIRST_SUSPECT_RULE = b := by
  rw [setFirst_some]
  refine ⟨?_, ?_, ?_, ?_⟩
  · rw [rd_wrB_apart _ (by decide), rd_wrB_apart _ (by decide), rd_wr_apart _ (by decide), rd_wr_eq _ (by decide)]
    exact Nat.mod_eq_of_lt hf
  · rw [rd_wrB_apart _ (by decide), rd_wrB_apart _ (by decide), rd_wr_eq _ (by decide)]
    exact Nat.mod_eq_of_lt hp
  · rw [rdB_wrB_eq _ (by decide)]
  · rw [rdB_wrB_apart _ (by decide), rdB_wrB_eq _ (by decide)]

theorem setFirst_none_shows (d : Dev) : (setFirst none d).rdB JZ_SEL_FIRST_VALID = false := by rw [setFirst_none, rdB_wrB_eq _ (by decide)]

/-- A register that is none of the stamp of a stop. -/
def NoStamp (x : Fld) : Prop :=
  x.apart ⟨JZ_SEL_STAMP_LO_SUB.addr, 0, 32⟩ ∧ x.apart ⟨JZ_SEL_STAMP_HI_PICK_H.addr, 0, 32⟩ ∧ x.apart JZ_SEL_STATUS_STAMP_H

theorem rd_stampStop (h : NoStamp x) (sub : Nat) (d : Dev) : (stampStop sub d).rd x = d.rd x := by
  obtain ⟨hlo, hhi, hs⟩ := h
  rw [stampStop, rd_wrB_apart _ hs, putStamp, rd_wr_apart _ hhi, rd_wr_apart _ hlo]

theorem rd_stopMarked (hf : NoFirst x) (hs : NoStamp x) (sub : Nat) (first : Option (Nat × Nat × Bool)) (d : Dev) :
    (stopMarked sub first d).rd x = d.rd x := by
  rw [stopMarked, rd_setFirst hf, rd_stampStop hs]

/-- R258: the stop of the wafer for the patches l, the first of them as given. -/
def waferStopped (sub : Nat) (l : List (Nat × Nat)) (first : Option (Nat × Nat × Bool)) (d : Dev) : Dev := stopMarked sub first (latchTrips l (selStopNow d))

variable {l : List (Nat × Nat)} {first : Option (Nat × Nat × Bool)} {sub : Nat}

theorem waferStopped_eq (d : Dev) : waferStopped sub l first d = setFirst first (stampStop sub (latchTrips l (selStopNow d))) := rfl

theorem bare_waferStopped (d : Dev) : (waferStopped sub l first d).bare = (selStopNow d).bare := by rw [waferStopped, bare_stopMarked, bare_latchTrips]

theorem sansWafer_waferStopped (d : Dev) : (waferStopped sub l first d).sansWafer = d.stopMore.sansWafer := by
  rw [sansWafer_of_bare (bare_waferStopped d), selStopNow_eq]
  have hshown : (stopShown d.stopTo (stopWafer d)).sansWafer = d.sansWafer := (sansWafer_of_bare (bare_stopShown _ _)).trans (sansWafer_stopWafer d)
  rw [sansWafer_stopCounted, hshown]
  exact (sansWafer_counted d).symm

theorem rd_waferStopped (hl : ∀ y ∈ l, y.2 < 36) (ht : NoTrip x) (hf : NoFirst x) (hs : NoStamp x) (d : Dev) :
    (waferStopped sub l first d).rd x = (stopShown d.stopTo (stopWafer d)).rd x := by
  rw [waferStopped, rd_stopMarked hf hs, rd_latchTrips hl ht, selStopNow_eq, stopCounted_rd]

theorem sel_of_sansStops (h : d.sansStops = e.sansStops) : d.sel = e.sel := by
  change d.sansStops.sel = e.sansStops.sel
  rw [h]

theorem sel_of_sansTiles (h : d.sansTiles = e.sansTiles) : d.sel = e.sel := by
  change d.sansTiles.sel = e.sansTiles.sel
  rw [h]

theorem sel_of_bare (h : d.bare = e.bare) : d.sel = e.sel := by
  change d.bare.sel = e.bare.sel
  rw [h]

theorem sel_stopPatches (f : Nat) (d : Dev) : (stopPatches f d).sel = d.sel := by
  rw [stopPatches, forN_keep Dev.sel 36 _ fun p e => sel_of_sansStops (sansStops_stopClock _ _ _ _)]
  exact sel_of_sansTiles (sansTiles_stopsWadding f d)

theorem sel_stopWafer (d : Dev) : (stopWafer d).sel = d.sel := forL_keep Dev.sel _ _ sel_stopPatches d

theorem sel_waferStopped (d : Dev) : (waferStopped sub l first d).sel.stops = d.recentStops ++ [d.rd EV_HOURS_HOURS] := by
  have hrd {y : Fld} (ha : y.addr < 0x30000000) (hst : y.apart JZ_SEL_STATUS_STATE) (hpin : y.apart JZ_SEL_STATUS_TRIP_PIN)
      (hn : y.apart JZ_SEL_FIRST_STOPS) (hoff : y.apart JZ_SEL_STATUS_OFF) : (stopShown d.stopTo (stopWafer d)).rd y = d.rd y := by
    rw [rd_stopShown hst hpin hn hoff, rd_stopWafer ha]
  have hh := hrd (y := EV_HOURS_HOURS) (by decide) (by decide) (by decide) (by decide) (by decide)
  have hw := hrd (y := JZ_SEL_TIME1_TRIP_WINDOW) (by decide) (by decide) (by decide) (by decide) (by decide)
  have hsel : (stopShown d.stopTo (stopWafer d)).sel = d.sel := (sel_of_bare (bare_stopShown _ _)).trans (sel_stopWafer d)
  have hcount : (waferStopped sub l first d).sel = (selStopNow d).sel := sel_of_bare (bare_waferStopped d)
  rw [hcount, selStopNow_eq]
  generalize stopShown d.stopTo (stopWafer d) = e at hh hw hsel
  have hrecent : e.recentStops = d.recentStops := by rw [Dev.recentStops, Dev.recentStops, hh, hw, hsel]
  change e.recentStops ++ [e.rd EV_HOURS_HOURS] = _
  rw [hrecent, hh]

/-- R258, R265: what a stop of the wafer shows. -/
theorem waferStopped_shows (hl : ∀ y ∈ l, y.2 < 36) (d : Dev) : (waferStopped sub l first d).rd JZ_SEL_STATUS_STATE = d.stopTo ∧
    (waferStopped sub l first d).rdB JZ_SEL_STATUS_TRIP_PIN = true ∧ (waferStopped sub l first d).rd JZ_SEL_FIRST_STOPS = satN 0xFF (d.rd JZ_SEL_FIRST_STOPS + 1) ∧
    ∀ g ∈ d.enabled, ∀ q : Fin 36, (waferStopped sub l first d).pstate g q ≠ psRunning := by
  have hkeep {y : Fld} (ha : y.addr < 0x30000000) (hf : NoFirst y) (hs : NoStamp y) :=
    rd_waferStopped (x := y) (sub := sub) (first := first) hl (noTrip_of_lt ha) hf hs d
  obtain ⟨hst, hpin, hn⟩ := stopShown_shows (stopTo_lt d) (stopWafer d)
  refine ⟨(hkeep (by decide) (by unfold NoFirst; decide) (by unfold NoStamp; decide)).trans hst, ?_, ?_, fun g hg q => ?_⟩
  · rw [Dev.rdB, hkeep (by decide) (by unfold NoFirst; decide) (by unfold NoStamp; decide)]
    exact hpin
  · rw [hkeep (by decide) (by unfold NoFirst; decide) (by unfold NoStamp; decide), hn, rd_stopWafer (by decide)]
  · have hfar (y : Fld) (hy : y.addr < 0x30000000) : (ST_OP_PATCH_STATE g q).apart y := by
      refine .inl ?_
      simp only [ST_OP_PATCH_STATE, stBase]
      omega
    rw [Dev.pstate, rd_waferStopped hl (noTrip_pstate g q q.isLt) ⟨hfar _ (by decide), hfar _ (by decide), hfar _ (by decide), hfar _ (by decide)⟩
      ⟨hfar _ (by decide), hfar _ (by decide), hfar _ (by decide)⟩, rd_stopShown (hfar _ (by decide)) (hfar _ (by decide)) (hfar _ (by decide)) (hfar _ (by decide))]
    exact still_stopWafer hg q.isLt

theorem latched_waferStopped (hp : p < 36) (d : Dev) : (waferStopped sub [(f, p)] first d).rdB (ST_TH_TRIP f p) = true := by
  have hfar (y : Fld) (hy : y.addr < 0x30000000) : (ST_TH_TRIP f p).apart y := by
    refine .inl ?_
    simp only [ST_TH_TRIP, stBase]
    omega
  rw [waferStopped, Dev.rdB, rd_stopMarked ⟨hfar _ (by decide), hfar _ (by decide), hfar _ (by decide), hfar _ (by decide)⟩
    ⟨hfar _ (by decide), hfar _ (by decide), hfar _ (by decide)⟩]
  exact latchTrips_one hp _

/-! The trip rule (R257). -/

variable {c0 c1 : Bool}

/-- The comparators of one patch are latched. -/
def Dev.heard (f p : Nat) (c0 c1 : Bool) (d : Dev) : Dev := d.updSel fun x => { x with hot := [(f, p, c0, c1)] }

theorem stopTo_heard : (d.heard f p c0 c1).stopTo = d.stopTo := rfl
theorem recentStops_heard : (d.heard f p c0 c1).recentStops = d.recentStops := rfl
theorem enabled_heard : (d.heard f p c0 c1).enabled = d.enabled := rfl
theorem heard_rd (x : Fld) : (d.heard f p c0 c1).rd x = d.rd x := rfl
theorem sansWafer_heard : (d.heard f p c0 c1).sansWafer = d.sansWafer := rfl

theorem tripping_heard : (d.heard f p c0 c1).tripping = if d.trips f p c0 c1 = true then [(f, p, c0, c1)] else [] := by
  have htrips : (d.heard f p c0 c1).trips f p c0 c1 = d.trips f p c0 c1 := rfl
  rw [Dev.tripping]
  change List.filter _ [(f, p, c0, c1)] = _
  rw [List.filter_cons, htrips]
  rfl

theorem thermalTrip_not (h : d.trips f p c0 c1 = false) : thermalTrip [(f, p, c0, c1)] sub d = d.heard f p c0 c1 := by
  have hl : (d.heard f p c0 c1).tripping = [] := by rw [tripping_heard, h]; rfl
  change tripEval sub (d.heard f p c0 c1) = _
  rw [tripEval, hl]
  rfl

/-- R257, R258, R268: the patch that meets the rule. -/
theorem thermalTrip_trips (hp : p < 36) (h : d.trips f p c0 c1 = true) : thermalTrip [(f, p, c0, c1)] sub d =
    if d.selStop = true then
      if d.rdB JZ_SEL_STATUS_CAUSE_TRIP = true then d.heard f p c0 c1
      else (latchTrips [(f, p)] ((setFirst (some (f, p, !(c0 && c1))) ((d.heard f p c0 c1).wrB JZ_SEL_STATUS_CAUSE_TRIP true)).raise .therm 1 f p)).updSel
        fun x => { x with coolFor := none }
    else ((waferStopped sub [(f, p)] (some (f, p, !(c0 && c1))) (d.heard f p c0 c1)).wrB JZ_SEL_STATUS_CAUSE_TRIP true).raise .therm 1 f p := by
  have hl : (d.heard f p c0 c1).tripping = [(f, p, c0, c1)] := by rw [tripping_heard, if_pos h]
  have hdiv : pkey f p / 36 = f := by
    rw [pkey]
    omega
  have hmod : pkey f p % 36 = p := by
    rw [pkey]
    omega
  have hstop : (d.heard f p c0 c1).selStop = d.selStop := rfl
  have hcause : (d.heard f p c0 c1).rdB JZ_SEL_STATUS_CAUSE_TRIP = d.rdB JZ_SEL_STATUS_CAUSE_TRIP := rfl
  change tripEval sub (d.heard f p c0 c1) = _
  rw [tripEval, hl]
  simp only [List.map_cons, List.map_nil, minN, List.foldl_nil, hdiv, hmod, hstop, hcause, List.any_cons, List.any_nil, Bool.or_false, decide_true,
    Bool.true_and]
  rfl

/-! Lost coolant (R261, R267). -/

theorem coolantStop_flowing (h : d.pins.coolOk = true) : coolantStop sub d = d := if_pos h

/-- R261: COOL_OK is shown low, and its count is dropped. -/
def Dev.uncooled (d : Dev) : Dev := (d.wrB JZ_SEL_STATUS_COOL_OK false).updSel fun x => { x with okFor := none }

theorem selState_uncooled (d : Dev) : d.uncooled.selState = d.selState := by
  rw [Dev.selState, Dev.uncooled, updSel_rd, rd_wrB_apart _ (by decide), Dev.selState]

theorem selStop_of_selState (h : e.selState = d.selState) : e.selStop = d.selStop := by rw [Dev.selStop, h, Dev.selStop]

theorem uncooled_rd (h : x.apart JZ_SEL_STATUS_COOL_OK) : d.uncooled.rd x = d.rd x := by
  rw [Dev.uncooled, updSel_rd, rd_wrB_apart _ h]

theorem bare_uncooled : d.uncooled.bare = { d.bare with sel := { d.sel with okFor := none } } := by
  rw [Dev.uncooled, bare_updSel, bare_wrB]
  rfl

theorem sansWafer_uncooled : d.uncooled.sansWafer = d.sansWafer := by
  rw [sansWafer_of_bare (d := d.uncooled) (e := { d with sel := { d.sel with okFor := none } }) bare_uncooled]
  rfl

theorem recentStops_uncooled : d.uncooled.recentStops = d.recentStops := by
  have hsel : d.uncooled.sel.stops = d.sel.stops := rfl
  rw [Dev.recentStops, Dev.recentStops, hsel, uncooled_rd (by decide), uncooled_rd (by decide)]

theorem stopTo_uncooled : d.uncooled.stopTo = d.stopTo := by rw [Dev.stopTo, Dev.stopTo, recentStops_uncooled, uncooled_rd (by decide)]

theorem enabled_uncooled : d.uncooled.enabled = d.enabled := rfl

theorem coolantStop_waiting (h : d.pins.coolOk = false) (hw : d.selState = selWait) : coolantStop sub d = d.uncooled := by
  have hst : d.uncooled.selState = selWait := (selState_uncooled d).trans hw
  have hstop : d.uncooled.selStop = false := by
    rw [Dev.selStop, hst]
    rfl
  rw [coolantStop, if_neg (by rw [h]; decide)]
  change (if d.uncooled.selStop = true then _ else if d.uncooled.selState = selWait then d.uncooled else _) = _
  rw [if_neg (by rw [hstop]; decide), if_pos hst]

theorem coolantStop_stops (h : d.pins.coolOk = false) (hr : d.selState = selRun ∨ d.selState = selRestart) : coolantStop sub d =
    ((waferStopped sub [] none d.uncooled).wrB JZ_SEL_STATUS_CAUSE_COOL true).raise .therm 2 central 0 := by
  have hst : d.uncooled.selState = selRun ∨ d.uncooled.selState = selRestart := by rwa [selState_uncooled]
  have hstop : d.uncooled.selStop = false := by
    rw [Dev.selStop]
    rcases hst with h | h <;> rw [h] <;> rfl
  have hwait : d.uncooled.selState ≠ selWait := by rcases hst with h | h <;> rw [h] <;> decide
  rw [coolantStop, if_neg (by rw [h]; decide)]
  change (if d.uncooled.selStop = true then _ else if d.uncooled.selState = selWait then d.uncooled else _) = _
  rw [if_neg (by rw [hstop]; decide), if_neg hwait]
  rfl

/-! The selvedge's restart (R264, R266). -/

/-- The words of L-CAP's instance. -/
def capWords : List Fld := (List.range 20).map fun k => (⟨capRef.inst + 4 * k, 0, 32⟩ : Fld)

/-- What is apart from a whole word is apart from its fields. -/
theorem apart_capWords (h : ∀ y ∈ capWords, x.apart y) {y : Fld} (k : Nat) (hk : k < 20) (ha : y.addr = capRef.inst + 4 * k) (hw : y.lo + y.w ≤ 32) :
    x.apart y := by
  have hx := h _ (List.mem_map.mpr ⟨k, List.mem_range.mpr hk, rfl⟩)
  simp only [Fld.apart] at hx ⊢
  omega

theorem restartLoop_eq (l : LoopRef) (sp : Int) (d : Dev) : ∃ v : Int, restartLoop l sp d =
    ((((((zeroStates l d).wrS l.u v).wrS l.uNext v).wr l.pcnt 0).wrB l.frozen false).wrB l.rearmPend false).updLins l fun _ => { InstS.init with uPrev := v } :=
  ⟨_, rfl⟩

/-- R101: the words of L-CAP's states. -/
theorem capStates_apart (h : ∀ y ∈ capWords, x.apart y) : ∀ y ∈ capRef.states, x.apart y := by
  intro y hy
  simp only [LoopRef.states, List.mem_cons, List.not_mem_nil, or_false] at hy
  rcases hy with rfl | rfl | rfl | rfl | rfl | rfl | rfl | rfl | rfl | rfl | rfl | rfl
  · exact apart_capWords h 4 (by decide) rfl (by decide)
  · exact apart_capWords h 5 (by decide) rfl (by decide)
  · exact apart_capWords h 6 (by decide) rfl (by decide)
  · exact apart_capWords h 7 (by decide) rfl (by decide)
  · exact apart_capWords h 8 (by decide) rfl (by decide)
  · exact apart_capWords h 9 (by decide) rfl (by decide)
  · exact apart_capWords h 10 (by decide) rfl (by decide)
  · exact apart_capWords h 11 (by decide) rfl (by decide)
  · exact apart_capWords h 12 (by decide) rfl (by decide)
  · exact apart_capWords h 13 (by decide) rfl (by decide)
  · exact apart_capWords h 14 (by decide) rfl (by decide)
  · exact apart_capWords h 15 (by decide) rfl (by decide)

theorem rd_restartCap (h : ∀ y ∈ capWords, x.apart y) (sp : Int) (d : Dev) : (restartLoop capRef sp d).rd x = d.rd x := by
  obtain ⟨v, hv⟩ := restartLoop_eq capRef sp d
  rw [hv, updLins_rd, rd_wrB_apart _ (apart_capWords h 0 (by decide) rfl (by decide)), rd_wrB_apart _ (apart_capWords h 0 (by decide) rfl (by decide)),
    rd_wr_apart _ (apart_capWords h 0 (by decide) rfl (by decide)), rd_wrS_apart _ (apart_capWords h 19 (by decide) rfl (by decide)),
    rd_wrS_apart _ (apart_capWords h 2 (by decide) rfl (by decide)), rd_zeroStates_apart (capStates_apart h)]

theorem bare_restartLoop (l : LoopRef) (sp : Int) (d : Dev) : ∃ y, (restartLoop l sp d).bare = { d.bare with inst := y } := by
  obtain ⟨v, hv⟩ := restartLoop_eq l sp d
  refine ⟨tupd InstS.init l.key (fun _ => { InstS.init with uPrev := v }) d.inst, ?_⟩
  rw [hv, bare_updLins, bare_wrB, bare_wrB, bare_wr, bare_wrS, bare_wrS, bare_zeroStates]
  rfl

/-- R266: L-CAP starts afresh. -/
theorem restartCap_shows (sp : Int) (d : Dev) : ((restartLoop capRef sp d).lins capRef).exempt = true ∧ ((restartLoop capRef sp d).lins capRef).hasLast = false ∧
    ((restartLoop capRef sp d).lins capRef).hasRegion = false ∧ (restartLoop capRef sp d).rdB capRef.frozen = false := by
  obtain ⟨v, hv⟩ := restartLoop_eq capRef sp d
  rw [hv, lins_updLins_same]
  refine ⟨rfl, rfl, rfl, ?_⟩
  rw [updLins_rdB, rdB_wrB_apart _ (by decide), rdB_wrB_eq _ (by decide)]

/-- The device without what the start of stress tests changes beside the registers. -/
def Dev.sansStress (d : Dev) : Dev := { d.bare with test := { d.test with stress := [] }, fld := [] }

theorem sansStress_of_bare (h : d.bare = e.bare) : d.sansStress = e.sansStress := by
  change { d.bare with test := { d.bare.test with stress := [] }, fld := [] } = { e.bare with test := { e.bare.test with stress := [] }, fld := [] }
  rw [h]

theorem bare_of_sansStress (h : d.sansStress = e.sansStress) : d.bare = Dev.bare { e with test := { e.test with stress := d.test.stress }, fld := d.fld } :=
  calc d.bare = { d.sansStress with test := { d.sansStress.test with stress := d.test.stress }, fld := d.fld } := rfl
    _ = _ := by rw [h]; rfl

theorem updStress_rd (f : Nat) (g : Stress → Stress) (d : Dev) : (updStress f g d).rd x = d.rd x := rfl
theorem updStress_fld (f : Nat) (g : Stress → Stress) (d : Dev) : (updStress f g d).fld = d.fld := rfl
theorem sansStress_updStress (f : Nat) (g : Stress → Stress) (d : Dev) : (updStress f g d).sansStress = d.sansStress := rfl

theorem sansStress_stressBegin (b : Bool) (f : Nat) (d : Dev) : (stressBegin b f d).sansStress = d.sansStress := by
  rw [stressBegin, sansStress_updStress, forN_keep Dev.sansStress 4 _ fun k e => sansStress_of_bare (bare_wr _ _ _)]
  rfl

theorem rd_stressBegin (b : Bool) (h : ∀ k < 4, x.apart (ST_LINK_CMD_MODE_REQ f k)) (d : Dev) : (stressBegin b f d).rd x = d.rd x := by
  rw [stressBegin, updStress_rd, forN_keep_lt (fun e => e.rd x) fun k hk e => rd_wr_apart _ (h k hk), Dev.updFd_rd]

theorem fld_stressBegin (b : Bool) (f : Nat) (d : Dev) : (stressBegin b f d).fld = (d.updFd f fun x => { x with up := false, passed := false }).fld := by
  rw [stressBegin, updStress_fld, forN_keep Dev.fld 4 _ fun _ _ => Dev.wr_fld _ _ _]

theorem stressOf_updStress (f g : Nat) (h : Stress → Stress) (d : Dev) : (updStress g h d).stressOf f = if f = g then h (d.stressOf f) else d.stressOf f := by
  rw [Dev.stressOf, updStress, Dev.updTest]
  dsimp only
  split
  · next hf => rw [hf, tget_tupd_same, Dev.stressOf]
  · next hf => rw [tget_tupd_ne _ _ _ hf, Dev.stressOf]

theorem stressOf_of_test (h : d.test = e.test) (f : Nat) : d.stressOf f = e.stressOf f := by rw [Dev.stressOf, h, Dev.stressOf]

/-- R351: a stress test of the field has begun, and the field does not serve. -/
def Dev.stressed (d : Dev) (f : Nat) : Prop := (d.stressOf f).phase = 1 ∧ (d.fd f).up = false

theorem stressed_stressBegin (b : Bool) (f : Nat) (d : Dev) : (stressBegin b f d).stressed f := by
  refine ⟨?_, ?_⟩
  · rw [stressBegin, stressOf_updStress, if_pos rfl]
  · rw [Dev.fd, fld_stressBegin, ← Dev.fd, fd_updFd]

theorem stressed_stressBegin_of (b : Bool) (g : Nat) (h : d.stressed f) : (stressBegin b g d).stressed f := by
  by_cases hg : f = g
  · subst hg
    exact stressed_stressBegin b f d
  · obtain ⟨hph, hup⟩ := h
    refine ⟨?_, ?_⟩
    · rw [stressBegin, stressOf_updStress, if_neg hg, stressOf_of_test (forN_keep Dev.test 4 _ (fun _ _ => Dev.wr_test _ _ _) _), stressOf_of_test (Dev.updFd_test _ _ _)]
      exact hph
    · rw [Dev.fd, fld_stressBegin, ← Dev.fd, fd_updFd_ne _ _ hg]
      exact hup

/-! The clauses. -/

theorem bare_updSel_self {g : SelS → SelS} (h : d.bare = e.bare) : (d.updSel g).bare = Dev.bare { e with sel := (d.updSel g).sel } :=
  calc (d.updSel g).bare = { d.bare with sel := (d.updSel g).sel } := rfl
    _ = _ := by rw [h]; rfl

theorem report_of_time (h : d.time = e.time) (c : FClass) (t f n : Nat) : d.report c t f n = e.report c t f n := by rw [Dev.report, h, Dev.report]

theorem sansWafer_raise (c : FClass) (t f n : Nat) (d : Dev) : (d.raise c t f n).sansWafer = d.sansWafer.raiseR (d.report c t f n) := rfl

theorem sansWafer_raiseR (r : Report) (d : Dev) : (d.raiseR r).sansWafer = d.sansWafer.raiseR r := rfl

/-- A stop of the wafer with its cause and its report. -/
theorem sansWafer_reported {fl : Fld} {b : Bool} {c : FClass} {t a n : Nat} (h : d.sansWafer = e.sansWafer) :
    ((d.wrB fl b).raise c t a n).sansWafer = (e.raiseR (e.report c t a n)).sansWafer := by
  have hd : (d.wrB fl b).sansWafer = e.sansWafer := (sansWafer_of_bare (bare_wrB _ _ _)).trans h
  generalize d.wrB fl b = w at hd
  rw [sansWafer_raise, hd, report_of_time (time_of_sansWafer hd), sansWafer_raiseR]

end

/-- R258: a patch that meets the trip rule stops the wafer. -/
theorem thermalTrip_stops :
    ∀ (s : State) (f : Fin 96) (p : Fin 36) (c0 c1 : Bool) (q : BitVec 12), s.awake → s.dev.trips f p c0 c1 = true →
      s.dev.selStop = false → Completes (.thermalTrip [⟨f, p, c0, c1⟩] q) s fun t => t.dev.rd JZ_SEL_STATUS_STATE = (if
      orDef (s.dev.rd JZ_SEL_TIME1_TRIP_LIMIT) 1 ≤ s.dev.recentStops.length + 1 then selLatched else selStopped) ∧
      t.dev.rdB JZ_SEL_STATUS_TRIP_PIN = true ∧ t.dev.rd JZ_SEL_FIRST_STOPS = satN 0xFF (s.dev.rd JZ_SEL_FIRST_STOPS + 1)
      ∧ (∀ g ∈ s.dev.enabled, ∀ q : Fin 36, t.dev.pstate g q ≠ psRunning) ∧ t.dev.sel.stops = s.dev.recentStops ++
      [s.dev.rd EV_HOURS_HOURS] ∧ t.dev.rdB JZ_SEL_STATUS_CAUSE_TRIP = true ∧ t.dev.rd JZ_SEL_FIRST_FIELD = f ∧ t.dev.rd
      JZ_SEL_FIRST_PATCH = p ∧ t.dev.rdB JZ_SEL_FIRST_VALID = true ∧ t.dev.rdB JZ_SEL_FIRST_SUSPECT_RULE = !(c0 && c1) ∧
      t.dev.rdB (ST_TH_TRIP f p) = true ∧ s.parts t
      { s.dev with pat := t.dev.pat, tile := t.dev.tile, led := { s.dev.led with marks := t.dev.led.marks }, ev := { s.dev.ev with stops := s.dev.ev.stops + 1 }, sel := t.dev.sel, fc := { s.dev.fc with raised := s.dev.fc.raised ++ [s.dev.report .therm 1 f p] } } := by
  intro s f p c0 c1 q hs htrips hrun
  have hg := thermalTrip_trips (sub := q.toNat) p.isLt htrips
  rw [if_neg (by rw [hrun]; decide)] at hg
  have hl : ∀ y ∈ [(f.val, p.val)], y.2 < 36 := fun y hy => List.mem_singleton.mp hy ▸ p.isLt
  obtain ⟨hst, hpin, hn, hstill⟩ := waferStopped_shows (sub := q.toNat) (first := some (f.val, p.val, !(c0 && c1))) hl (s.dev.heard f p c0 c1)
  have hstops := sel_waferStopped (sub := q.toNat) (l := [(f.val, p.val)]) (first := some (f.val, p.val, !(c0 && c1))) (s.dev.heard f p c0 c1)
  have hlatch := latched_waferStopped (sub := q.toNat) (f := f.val) (first := some (f.val, p.val, !(c0 && c1))) p.isLt (s.dev.heard f p c0 c1)
  obtain ⟨hff, hfp, hfv, hfs⟩ := setFirst_shows (b := !(c0 && c1)) (f := f.val) (p := p.val) (by omega) (by omega)
    (stampStop q.toNat (latchTrips [(f.val, p.val)] (selStopNow (s.dev.heard f p c0 c1))))
  have hsans : (waferStopped q.toNat [(f.val, p.val)] (some (f.val, p.val, !(c0 && c1))) (s.dev.heard f p c0 c1)).sansWafer = s.dev.stopMore.sansWafer := by
    rw [sansWafer_waferStopped, sansWafer_counted, sansWafer_heard, sansWafer_counted]
  rw [← waferStopped_eq] at hff hfp hfv hfs
  rw [stopTo_heard] at hst
  rw [heard_rd] at hn
  rw [enabled_heard] at hstill
  rw [recentStops_heard, heard_rd] at hstops
  generalize waferStopped q.toNat [(f.val, p.val)] (some (f.val, p.val, !(c0 && c1))) (s.dev.heard f p c0 c1) = D at hg hst hpin hn hstill hstops hlatch hff hfp hfv hfs hsans
  have hrd {x : Fld} (h : x.apart JZ_SEL_STATUS_CAUSE_TRIP) (ha : x.apart PM_STATUS_ALERT) :
      (settle ((D.wrB JZ_SEL_STATUS_CAUSE_TRIP true).raise .therm 1 f p)).rd x = D.rd x := by
    rw [rd_settle ha, Dev.raise_rd, rd_wrB_apart _ h]
  have hfar {x : Fld} (h : 0x30000000 ≤ x.addr) : x.apart JZ_SEL_STATUS_CAUSE_TRIP ∧ x.apart PM_STATUS_ALERT := by
    refine ⟨.inl ?_, apart_alert h⟩
    simp only [JZ_SEL_STATUS_CAUSE_TRIP]
    omega
  refine completes_awake rfl hs hg ⟨?_, ?_, ?_, fun g hg' r => ?_, ?_, ?_, ?_, ?_, ?_, ?_, ?_, parts_of_sansWafer (sansWafer_reported hsans)⟩
  · exact (hrd (by decide) (by decide)).trans hst
  · rw [Dev.rdB, hrd (by decide) (by decide)]
    exact hpin
  · exact (hrd (by decide) (by decide)).trans hn
  · obtain ⟨h1, h2⟩ := hfar (x := ST_OP_PATCH_STATE g r) (by simp only [ST_OP_PATCH_STATE, stBase]; omega)
    rw [Dev.pstate, hrd h1 h2]
    exact hstill g hg' r
  · rw [settle_sel, Dev.raise_sel, Dev.wrB_sel]
    exact hstops
  · rw [rdB_settle (by decide), Dev.raise_rdB, rdB_wrB_eq _ (by decide)]
  · exact (hrd (by decide) (by decide)).trans hff
  · exact (hrd (by decide) (by decide)).trans hfp
  · rw [Dev.rdB, hrd (by decide) (by decide)]
    exact hfv
  · rw [Dev.rdB, hrd (by decide) (by decide)]
    exact hfs
  · obtain ⟨h1, h2⟩ := hfar (x := ST_TH_TRIP f p) (by simp only [ST_TH_TRIP, stBase]; omega)
    rw [Dev.rdB, hrd h1 h2]
    exact hlatch

/-- R258: a patch that meets the trip rule while the wafer is stopped for its coolant. -/
theorem thermalTrip_joins :
    ∀ (s : State) (f : Fin 96) (p : Fin 36) (c0 c1 : Bool) (q : BitVec 12), s.awake → s.dev.trips f p c0 c1 = true →
      s.dev.selStop = true → s.dev.rdB JZ_SEL_STATUS_CAUSE_TRIP = false → Completes (.thermalTrip [⟨f, p, c0, c1⟩] q) s
      fun t => t.dev.rdB JZ_SEL_STATUS_CAUSE_TRIP = true ∧ t.dev.rd JZ_SEL_FIRST_FIELD = f ∧ t.dev.rd JZ_SEL_FIRST_PATCH =
      p ∧ t.dev.rdB JZ_SEL_FIRST_VALID = true ∧ t.dev.rdB (ST_TH_TRIP f p) = true ∧ t.dev.rd JZ_SEL_STATUS_STATE =
      s.dev.selState ∧ t.dev.sel.coolFor = none ∧ s.parts t
      { s.dev with sel := t.dev.sel, fc := { s.dev.fc with raised := s.dev.fc.raised ++ [s.dev.report .therm 1 f p] } } := by
  intro s f p c0 c1 q hs htrips hstop hcause
  have hg := thermalTrip_trips (sub := q.toNat) p.isLt htrips
  rw [if_pos hstop, if_neg (by rw [hcause]; decide)] at hg
  obtain ⟨hff, hfp, hfv, -⟩ := setFirst_shows (b := !(c0 && c1)) (f := f.val) (p := p.val) (by omega) (by omega)
    ((s.dev.heard f p c0 c1).wrB JZ_SEL_STATUS_CAUSE_TRIP true)
  have hbare : (setFirst (some (f.val, p.val, !(c0 && c1))) ((s.dev.heard f p c0 c1).wrB JZ_SEL_STATUS_CAUSE_TRIP true)).bare = (s.dev.heard f p c0 c1).bare := by
    rw [bare_setFirst, bare_wrB]
  have hfirst {x : Fld} (h : NoFirst x) := rd_setFirst h (some (f.val, p.val, !(c0 && c1))) ((s.dev.heard f p c0 c1).wrB JZ_SEL_STATUS_CAUSE_TRIP true)
  generalize setFirst (some (f.val, p.val, !(c0 && c1))) ((s.dev.heard f p c0 c1).wrB JZ_SEL_STATUS_CAUSE_TRIP true) = D at hg hff hfp hfv hbare hfirst
  have hl : ∀ y ∈ [(f.val, p.val)], y.2 < 36 := fun y hy => List.mem_singleton.mp hy ▸ p.isLt
  have hrd {x : Fld} (h : x.addr < 0x30000000) (ha : x.apart PM_STATUS_ALERT) :
      (settle ((latchTrips [(f.val, p.val)] (D.raise .therm 1 f p)).updSel fun x => { x with coolFor := none })).rd x = D.rd x := by
    rw [rd_settle ha, updSel_rd, rd_latchTrips hl (noTrip_of_lt h), Dev.raise_rd]
  have hcause' : D.rdB JZ_SEL_STATUS_CAUSE_TRIP = true := by
    rw [Dev.rdB, hfirst (by unfold NoFirst; decide), ← Dev.rdB, rdB_wrB_eq _ (by decide)]
  have hst : D.rd JZ_SEL_STATUS_STATE = s.dev.selState := by
    rw [hfirst (by unfold NoFirst; decide), rd_wrB_apart _ (by decide), heard_rd, Dev.selState]
  have hrep : D.report .therm 1 f p = s.dev.report .therm 1 f p := report_of_time (time_of_bare hbare) _ _ _ _
  refine completes_awake rfl hs hg ⟨?_, ?_, ?_, ?_, ?_, ?_, ?_, ?_⟩
  · rw [Dev.rdB, hrd (by decide) (by decide)]
    exact hcause'
  · exact (hrd (by decide) (by decide)).trans hff
  · exact (hrd (by decide) (by decide)).trans hfp
  · rw [Dev.rdB, hrd (by decide) (by decide)]
    exact hfv
  · rw [rdB_settle (apart_alert (by simp only [ST_TH_TRIP, stBase]; omega)), updSel_rdB]
    exact latchTrips_one p.isLt _
  · exact (hrd (by decide) (by decide)).trans hst
  · rw [settle_sel]
    rfl
  · rw [settle_sel]
    refine parts_settle (eq_of_bare (bare_updSel_self (e := (s.dev.heard f p c0 c1).raiseR (s.dev.report .therm 1 f p)) ?_))
    rw [bare_latchTrips, Dev.raise, hrep, bare_raiseR, hbare, ← bare_raiseR]

/-- R261, R267: coolant lost in service stops the wafer. -/
theorem coolantStop_stopped :
    ∀ (s : State) (q : BitVec 12), s.awake → s.dev.pins.coolOk = false → (s.dev.selState = selRun ∨ s.dev.selState =
      selRestart) → Completes (.coolantStop q) s fun t => t.dev.rd JZ_SEL_STATUS_STATE = (if orDef (s.dev.rd
      JZ_SEL_TIME1_TRIP_LIMIT) 1 ≤ s.dev.recentStops.length + 1 then selLatched else selStopped) ∧ t.dev.rdB
      JZ_SEL_STATUS_TRIP_PIN = true ∧ t.dev.rd JZ_SEL_FIRST_STOPS = satN 0xFF (s.dev.rd JZ_SEL_FIRST_STOPS + 1) ∧ (∀ g ∈
      s.dev.enabled, ∀ q : Fin 36, t.dev.pstate g q ≠ psRunning) ∧ t.dev.sel.stops = s.dev.recentStops ++ [s.dev.rd
      EV_HOURS_HOURS] ∧ t.dev.rdB JZ_SEL_STATUS_CAUSE_COOL = true ∧ t.dev.rdB JZ_SEL_STATUS_COOL_OK = false ∧ t.dev.rdB
      JZ_SEL_FIRST_VALID = false ∧ s.parts t
      { s.dev with pat := t.dev.pat, tile := t.dev.tile, led := { s.dev.led with marks := t.dev.led.marks }, ev := { s.dev.ev with stops := s.dev.ev.stops + 1 }, sel := t.dev.sel, fc := { s.dev.fc with raised := s.dev.fc.raised ++ [s.dev.report .therm 2 central 0] } } := by
  intro s q hs hcool hrun
  have hg := coolantStop_stops (sub := q.toNat) hcool hrun
  obtain ⟨hst, hpin, hn, hstill⟩ := waferStopped_shows (l := []) (sub := q.toNat) (first := none) (fun _ hy => absurd hy List.not_mem_nil) s.dev.uncooled
  have hstops := sel_waferStopped (sub := q.toNat) (l := []) (first := none) s.dev.uncooled
  have hfv := setFirst_none_shows (stampStop q.toNat (latchTrips [] (selStopNow s.dev.uncooled)))
  have hok : (waferStopped q.toNat [] none s.dev.uncooled).rdB JZ_SEL_STATUS_COOL_OK = false := by
    rw [Dev.rdB, rd_waferStopped (fun _ hy => absurd hy List.not_mem_nil) (noTrip_of_lt (by decide)) (by unfold NoFirst; decide) (by unfold NoStamp; decide),
      rd_stopShown (by decide) (by decide) (by decide) (by decide), rd_stopWafer (by decide), ← Dev.rdB, Dev.uncooled, updSel_rdB, rdB_wrB_eq _ (by decide)]
  have hsans : (waferStopped q.toNat [] none s.dev.uncooled).sansWafer = s.dev.stopMore.sansWafer := by
    rw [sansWafer_waferStopped, sansWafer_counted, sansWafer_uncooled, sansWafer_counted]
  rw [← waferStopped_eq] at hfv
  rw [stopTo_uncooled] at hst
  rw [uncooled_rd (by decide)] at hn
  rw [enabled_uncooled] at hstill
  rw [recentStops_uncooled, uncooled_rd (by decide)] at hstops
  generalize waferStopped q.toNat [] none s.dev.uncooled = D at hg hst hpin hn hstill hstops hfv hok hsans
  have hrd {x : Fld} (h : x.apart JZ_SEL_STATUS_CAUSE_COOL) (ha : x.apart PM_STATUS_ALERT) :
      (settle ((D.wrB JZ_SEL_STATUS_CAUSE_COOL true).raise .therm 2 central 0)).rd x = D.rd x := by
    rw [rd_settle ha, Dev.raise_rd, rd_wrB_apart _ h]
  refine completes_awake rfl hs hg ⟨?_, ?_, ?_, fun g hg' r => ?_, ?_, ?_, ?_, ?_, parts_of_sansWafer (sansWafer_reported hsans)⟩
  · exact (hrd (by decide) (by decide)).trans hst
  · rw [Dev.rdB, hrd (by decide) (by decide)]
    exact hpin
  · exact (hrd (by decide) (by decide)).trans hn
  · rw [Dev.pstate, hrd (.inl (by simp only [ST_OP_PATCH_STATE, JZ_SEL_STATUS_CAUSE_COOL, stBase]; omega))
      (apart_alert (by simp only [ST_OP_PATCH_STATE, stBase]; omega))]
    exact hstill g hg' r
  · rw [settle_sel, Dev.raise_sel, Dev.wrB_sel]
    exact hstops
  · rw [rdB_settle (by decide), Dev.raise_rdB, rdB_wrB_eq _ (by decide)]
  · rw [Dev.rdB, hrd (by decide) (by decide)]
    exact hok
  · rw [Dev.rdB, hrd (by decide) (by decide)]
    exact hfv

theorem inst_of_sansStress {d e : Dev} (h : d.sansStress = e.sansStress) : d.inst = e.inst := by
  change d.sansStress.inst = e.sansStress.inst
  rw [h]

theorem testable_of_fld {d e : Dev} (h : d.fld = e.fld) : d.testable = e.testable := by
  have hfd (f : Nat) : d.fd f = e.fd f := by rw [Dev.fd, h, Dev.fd]
  rw [Dev.testable, Dev.testable, Dev.enabled, Dev.enabled]
  simp only [hfd]

/-- R264: L-CAP as the restart leaves it. -/
def restarted (d : Dev) : Dev := restartLoop capRef d.sp (d.wr JZ_SEL_STATUS_STATE selRestart)

section
variable {d : Dev} {x : Fld}

theorem bare_inst_self {e : Dev} {y : Tab InstS} (h : e.bare = { d.bare with inst := y }) : e.bare = { d.bare with inst := e.inst } := by
  have hinst : e.bare.inst = y := by rw [h]
  rw [h]
  exact congrArg (fun z => { d.bare with inst := z }) hinst.symm

theorem kept_of_bareInst {e : Dev} (h : e.bare = { d.bare with inst := e.inst }) : e.start = d.start ∧ e.fld = d.fld := by
  have hs : e.bare.start = d.bare.start := by rw [h]
  have hf : e.bare.fld = d.bare.fld := by rw [h]
  exact ⟨hs, hf⟩

theorem bare_restarted (d : Dev) : (restarted d).bare = { d.bare with inst := (restarted d).inst } := by
  obtain ⟨y, hy⟩ := bare_restartLoop capRef d.sp (d.wr JZ_SEL_STATUS_STATE selRestart)
  rw [bare_wr] at hy
  exact bare_inst_self hy

theorem rd_restarted (h : ∀ y ∈ capWords, x.apart y) (hs : x.apart JZ_SEL_STATUS_STATE) (d : Dev) : (restarted d).rd x = d.rd x := by
  rw [restarted, rd_restartCap h, rd_wr_apart _ hs]

theorem capWords_sel : ∀ y ∈ capWords, JZ_SEL_STATUS_STATE.apart y := by decide

theorem bare_stress_of_bareInst {e : Dev} (h : e.bare = { d.bare with inst := e.inst }) (y : Tab Stress) (z : Tab FieldS) :
    Dev.bare { e with test := { e.test with stress := y }, fld := z } = Dev.bare { d with test := { d.test with stress := y }, fld := z, inst := e.inst } :=
  calc Dev.bare { e with test := { e.test with stress := y }, fld := z } = { e.bare with test := { e.bare.test with stress := y }, fld := z } := rfl
    _ = _ := by rw [h]; rfl

theorem state_restarted (d : Dev) : (restarted d).rd JZ_SEL_STATUS_STATE = selRestart := by
  rw [restarted, rd_restartCap capWords_sel, rd_wr_eq _ (by decide)]
  rfl

theorem start_restarted (d : Dev) : (restarted d).start = d.start := (kept_of_bareInst (bare_restarted d)).1

theorem fld_restarted (d : Dev) : (restarted d).fld = d.fld := (kept_of_bareInst (bare_restarted d)).2

theorem selvedgeRestart_eq (h : d.mayRestart = true) :
    selvedgeRestart d = if d.start.step = 9 then forL (restarted d).testable (stressBegin false) (restarted d) else restarted d := by
  have hstart : (restarted d).start.step = d.start.step := by rw [start_restarted]
  rw [selvedgeRestart, if_pos h]
  change (if (restarted d).start.step = 9 then _ else _) = _
  rw [hstart]
  rfl

end

/-- R264: the restart in service. -/
theorem selvedgeRestart_service :
    ∀ (s : State), s.awake → s.dev.mayRestart = true → s.dev.start.step ≠ 9 → Completes .selvedgeRestart s fun t =>
      t.dev.rd JZ_SEL_STATUS_STATE = selRestart ∧ (t.dev.lins capRef).exempt = true ∧ (t.dev.lins capRef).hasLast = false
      ∧ (t.dev.lins capRef).hasRegion = false ∧ t.dev.rdB capRef.frozen = false ∧ (s.changes t
      { s.dev with inst := t.dev.inst } (JZ_SEL_STATUS_STATE :: (List.range 20).map fun k => (⟨capRef.inst + 4 * k, 0, 32⟩
      : Fld))) := by
  intro s hs hmay hstep
  have hg := selvedgeRestart_eq hmay
  rw [if_neg hstep] at hg
  obtain ⟨hex, hlast, hreg, hfr⟩ := restartCap_shows s.dev.sp (s.dev.wr JZ_SEL_STATUS_STATE selRestart)
  refine completes_eq rfl hs hg ⟨(rd_settle (by decide)).trans (state_restarted _), ?_, ?_, ?_, (rdB_settle (by decide)).trans hfr, ?_⟩
  · rw [lins_settle]
    exact hex
  · rw [lins_settle]
    exact hlast
  · rw [lins_settle]
    exact hreg
  · rw [settle_inst]
    refine changes_bare (bare_restarted _) fun x hx => rd_restarted (fun y hy => hx y (List.mem_cons_of_mem _ hy)) (hx _ List.mem_cons_self) _

/-- R264, R338: the restart after READY tests the fields anew. -/
theorem selvedgeRestart_ready :
    ∀ (s : State), s.awake → s.dev.mayRestart = true → s.dev.start.step = 9 → Completes .selvedgeRestart s fun t =>
      t.dev.rd JZ_SEL_STATUS_STATE = selRestart ∧ (∀ f ∈ s.dev.testable, (t.dev.stressOf f).phase = 1 ∧ (t.dev.fd f).up =
      false) ∧ (t.dev.lins capRef).exempt = true ∧ (t.dev.lins capRef).hasLast = false ∧ (t.dev.lins capRef).hasRegion =
      false ∧ t.dev.rdB capRef.frozen = false ∧ (s.changes t
      { s.dev with test := { s.dev.test with stress := t.dev.test.stress }, fld := t.dev.fld, inst := t.dev.inst }
      (JZ_SEL_STATUS_STATE :: ((s.dev.testable.flatMap fun f => (List.range 4).map fun k => ST_LINK_CMD_MODE_REQ f k) ++
      (List.range 20).map fun k => (⟨capRef.inst + 4 * k, 0, 32⟩ : Fld)))) := by
  intro s hs hmay hstep
  have hg := selvedgeRestart_eq hmay
  rw [if_pos hstep] at hg
  have htest : (restarted s.dev).testable = s.dev.testable := testable_of_fld (fld_restarted _)
  rw [htest] at hg
  obtain ⟨hex, hlast, hreg, hfr⟩ := restartCap_shows s.dev.sp (s.dev.wr JZ_SEL_STATUS_STATE selRestart)
  have hstress : ∀ f ∈ s.dev.testable, (forL s.dev.testable (stressBegin false) (restarted s.dev)).stressed f := fun f hf =>
    forL_of_mem (P := fun e => e.stressed f) hf (stressed_stressBegin false f) (fun g _ _ h => stressed_stressBegin_of false g h) _
  have hsans : (forL s.dev.testable (stressBegin false) (restarted s.dev)).sansStress = (restarted s.dev).sansStress :=
    forL_keep Dev.sansStress _ _ (fun f e => sansStress_stressBegin false f e) _
  have hrd {x : Fld} (h : ∀ f ∈ s.dev.testable, ∀ k < 4, x.apart (ST_LINK_CMD_MODE_REQ f k)) :
      (forL s.dev.testable (stressBegin false) (restarted s.dev)).rd x = (restarted s.dev).rd x :=
    forL_keep_mem (fun e => e.rd x) (fun f hf e => rd_stressBegin false (h f hf) e) _
  have hfar {x : Fld} (h : x.addr < 0x30000000) (f : Nat) (_ : f ∈ s.dev.testable) (k : Nat) (_ : k < 4) : x.apart (ST_LINK_CMD_MODE_REQ f k) := by
    refine .inl ?_
    simp only [ST_LINK_CMD_MODE_REQ, stBase]
    omega
  have hlins : (forL s.dev.testable (stressBegin false) (restarted s.dev)).lins capRef = (restarted s.dev).lins capRef := by
    rw [Dev.lins, inst_of_sansStress hsans, Dev.lins]
  generalize forL s.dev.testable (stressBegin false) (restarted s.dev) = D at hg hstress hsans hrd hlins
  refine completes_eq rfl hs hg ⟨?_, fun f hf => ?_, ?_, ?_, ?_, ?_, ?_⟩
  · rw [rd_settle (by decide), hrd (hfar (by decide)), state_restarted]
  · rw [stressOf_of_test (settle_test D), fd_settle]
    exact hstress f hf
  · rw [lins_settle, hlins]
    exact hex
  · rw [lins_settle, hlins]
    exact hlast
  · rw [lins_settle, hlins]
    exact hreg
  · rw [rdB_settle (by decide), Dev.rdB, hrd (hfar (by decide))]
    exact hfr
  · rw [settle_test, settle_fld, settle_inst]
    refine changes_bare ?_ fun x hx => ?_
    · rw [inst_of_sansStress hsans, bare_of_sansStress hsans]
      exact bare_stress_of_bareInst (bare_restarted _) _ _
    · have hapart : ∀ f ∈ s.dev.testable, ∀ k < 4, x.apart (ST_LINK_CMD_MODE_REQ f k) := fun f hf k hk =>
        hx _ (List.mem_cons_of_mem _ (List.mem_append_left _ (List.mem_flatMap.mpr ⟨f, hf, List.mem_map.mpr ⟨k, List.mem_range.mpr hk, rfl⟩⟩)))
      rw [hrd hapart]
      exact rd_restarted (fun y hy => hx y (List.mem_cons_of_mem _ (List.mem_append_right _ hy))) (hx _ List.mem_cons_self) _

/-! The end of a restart (R266, R267). -/

/-- R267: what the selvedge shows in RUN. -/
def restartShown (d : Dev) : Dev :=
  ((((d.wr JZ_SEL_STATUS_STATE selRun).wrB JZ_SEL_STATUS_OFF false).wrB JZ_SEL_STATUS_CAUSE_TRIP false).wrB JZ_SEL_STATUS_CAUSE_COOL false).wrB JZ_SEL_STATUS_TRIP_PIN false

theorem bare_restartShown (d : Dev) : (restartShown d).bare = d.bare := by rw [restartShown, bare_wrB, bare_wrB, bare_wrB, bare_wrB, bare_wr]

theorem rd_restartShown {x : Fld} (d : Dev) (h1 : x.apart JZ_SEL_STATUS_STATE) (h2 : x.apart JZ_SEL_STATUS_OFF) (h3 : x.apart JZ_SEL_STATUS_CAUSE_TRIP)
    (h4 : x.apart JZ_SEL_STATUS_CAUSE_COOL) (h5 : x.apart JZ_SEL_STATUS_TRIP_PIN) : (restartShown d).rd x = d.rd x := by
  rw [restartShown, rd_wrB_apart _ h5, rd_wrB_apart _ h4, rd_wrB_apart _ h3, rd_wrB_apart _ h2, rd_wr_apart _ h1]

theorem restartShown_shows (d : Dev) : (restartShown d).rd JZ_SEL_STATUS_STATE = selRun ∧ (restartShown d).rdB JZ_SEL_STATUS_OFF = false ∧
    (restartShown d).rdB JZ_SEL_STATUS_CAUSE_TRIP = false ∧ (restartShown d).rdB JZ_SEL_STATUS_CAUSE_COOL = false ∧
    (restartShown d).rdB JZ_SEL_STATUS_TRIP_PIN = false := by
  refine ⟨?_, ?_, ?_, ?_, ?_⟩
  · rw [restartShown, rd_wrB_apart _ (by decide), rd_wrB_apart _ (by decide), rd_wrB_apart _ (by decide), rd_wrB_apart _ (by decide), rd_wr_eq _ (by decide)]
    rfl
  · rw [restartShown, rdB_wrB_apart _ (by decide), rdB_wrB_apart _ (by decide), rdB_wrB_apart _ (by decide), rdB_wrB_eq _ (by decide)]
  · rw [restartShown, rdB_wrB_apart _ (by decide), rdB_wrB_apart _ (by decide), rdB_wrB_eq _ (by decide)]
  · rw [restartShown, rdB_wrB_apart _ (by decide), rdB_wrB_eq _ (by decide)]
  · rw [restartShown, rdB_wrB_eq _ (by decide)]

theorem bare_sinceNow {d e : Dev} (h : e.bare = d.bare) :
    Dev.bare (Dev.raise .therm 4 central 0 { e with start := { e.start with since := e.time.nb } }) =
      Dev.bare { d with start := { d.start with since := d.time.nb }, fc := { d.fc with raised := d.fc.raised ++ [d.report .therm 4 central 0] } } :=
  calc _ = { e.bare with start := { e.bare.start with since := e.bare.time.nb }, fc := { e.bare.fc with raised := e.bare.fc.raised ++ [e.bare.report .therm 4 central 0] } } := rfl
    _ = _ := by rw [h]; rfl

/-- R267: the restart is complete. -/
theorem completes_restart (s : State) (hs : s.awake) (h : s.dev.selState = selRestart) (hr : s.dev.restarted = true) : Completes .restartComplete s fun t =>
    t.dev.rd JZ_SEL_STATUS_STATE = selRun ∧ t.dev.rdB JZ_SEL_STATUS_OFF = false ∧ t.dev.rdB JZ_SEL_STATUS_CAUSE_TRIP = false ∧
    t.dev.rdB JZ_SEL_STATUS_CAUSE_COOL = false ∧ t.dev.rdB JZ_SEL_STATUS_TRIP_PIN = false ∧ s.changes t
    { s.dev with start := { s.dev.start with since := s.dev.time.nb }, fc := { s.dev.fc with raised := s.dev.fc.raised ++ [s.dev.report .therm 4 central 0] } }
    [JZ_SEL_STATUS_STATE, JZ_SEL_STATUS_OFF, JZ_SEL_STATUS_CAUSE_TRIP, JZ_SEL_STATUS_CAUSE_COOL, JZ_SEL_STATUS_TRIP_PIN] := by
  have hg : restartComplete s.dev = _ := if_pos ⟨h, hr⟩
  have hbare := bare_restartShown s.dev
  have hshow := restartShown_shows s.dev
  have hrd {x : Fld} := rd_restartShown (x := x) s.dev
  change restartComplete s.dev = Dev.raise .therm 4 central 0 { restartShown s.dev with start := { (restartShown s.dev).start with since := (restartShown s.dev).time.nb } } at hg
  generalize restartShown s.dev = D at hg hbare hshow hrd
  obtain ⟨h1, h2, h3, h4, h5⟩ := hshow
  refine completes_eq rfl hs hg ⟨(rd_settle (by decide)).trans h1, (rdB_settle (by decide)).trans h2, (rdB_settle (by decide)).trans h3,
    (rdB_settle (by decide)).trans h4, (rdB_settle (by decide)).trans h5, changes_bare (bare_sinceNow hbare) fun x hx => ?_⟩
  exact hrd (hx _ (by simp)) (hx _ (by simp)) (hx _ (by simp)) (hx _ (by simp)) (hx _ (by simp))

/-- Settles O37. -/
theorem selvedgeStops : Obligations.SelvedgeStops := by
  unfold Obligations.SelvedgeStops
  refine ⟨thermalTrip_stops, fun s f p c0 c1 q hs h => ?_, fun s f p c0 c1 q hs hstop hc => ?_, thermalTrip_joins, coolantStop_stopped,
    fun s q hs hok hw => ?_, fun s q hs hok => ?_, fun s f p x hs hstop hoff hsus hrail => ?_, fun s f p x hs h => ?_, fun s b => ?_,
    fun s hok hn => ?_, fun s n hok hn => ?_, fun s hok => ?_, fun s hw hok hb ht => ?_, fun s hw hok hr hf ht => ?_, fun s h => ?_,
    selvedgeRestart_service, selvedgeRestart_ready, fun s hs h => ?_, completes_restart, fun s hs h => ?_, fun s hs h => ?_, fun s hs h => ?_⟩
  · exact completes_awake rfl hs (thermalTrip_not h) (changes_settle rfl fun _ _ => rfl)
  · have hg : thermalTrip [(f.val, p.val, c0, c1)] q.toNat s.dev = s.dev.heard f p c0 c1 := by
      cases h : s.dev.trips f p c0 c1 with
      | false => exact thermalTrip_not h
      | true => rw [thermalTrip_trips p.isLt h, if_pos hstop, if_pos hc]
    exact completes_awake rfl hs hg (changes_settle rfl fun _ _ => rfl)
  · refine completes_awake rfl hs (coolantStop_waiting hok hw) ⟨?_, changes_bare bare_uncooled fun x hx => uncooled_rd (hx _ (by simp))⟩
    rw [rdB_settle (by decide), Dev.uncooled, updSel_rdB, rdB_wrB_eq _ (by decide)]
  · exact completes_idle rfl (coolantStop_flowing hok)
  · have hg : tripOff f p x s.dev = ((s.dev.updSel fun y => { y with off := distinct (y.off ++ [(f.val, p.val, x.val)]) }).wrB JZ_SEL_STATUS_OFF true).raise .therm 3 f p := by
      have hall : (s.dev.selStop && !s.dev.rdB JZ_SEL_STATUS_OFF && !s.dev.suspect f p x && s.dev.railRetained f (domOf p)) = true := by
        rw [hstop, hoff, hsus, hrail]
        rfl
      exact if_pos hall
    refine completes_awake rfl hs hg ⟨?_, changes_bare ?_ fun y hy => ?_⟩
    · rw [rdB_settle (by decide), Dev.raise_rdB, rdB_wrB_eq _ (by decide)]
    · rw [bare_raise, bare_wrB]
      rfl
    · rw [Dev.raise_rd, rd_wrB_apart _ (hy _ (by simp))]
      rfl
  · have hg : tripOff f p x s.dev = s.dev.updSel fun y => { y with off := distinct (y.off ++ [(f.val, p.val, x.val)]) } := by
      refine if_neg fun hall => ?_
      simp only [Bool.and_eq_true, Bool.not_eq_true'] at hall
      obtain ⟨⟨⟨h1, h2⟩, h3⟩, h4⟩ := hall
      have h1' : s.dev.selStop = true := h1
      have h2' : s.dev.rdB JZ_SEL_STATUS_OFF = false := h2
      have h3' : s.dev.suspect f p x = false := h3
      have h4' : s.dev.railRetained f (domOf p) = true := h4
      simp [h1', h2', h3', h4'] at h
    exact completes_awake rfl hs hg (changes_settle rfl fun _ _ => rfl)
  · exact completes_silent rfl rfl rfl (changes_settle rfl fun _ _ => rfl)
  · have hg : coolOkHigh s.dev = (s.dev.wrB JZ_SEL_STATUS_COOL_OK true).updSel fun x =>
        { x with okFor := some 0, onRosc := decide (s.dev.time.nb = 0) || decide (s.dev.mode = NO_SOURCE) } := by
      rw [coolOkHigh, if_pos hok]
      refine updSel_congr ?_
      simp only [Dev.wrB_sel, hn]
    refine completes_silent rfl hg rfl ⟨?_, changes_bare ?_ fun x hx => ?_⟩
    · rw [rdB_settle (by decide), updSel_rdB, rdB_wrB_eq _ (by decide)]
    · rw [bare_updSel, bare_wrB]
      rfl
    · rw [updSel_rd, rd_wrB_apart _ (hx _ (by simp))]
  · have hg : coolOkHigh s.dev = s.dev.wrB JZ_SEL_STATUS_COOL_OK true := by
      rw [coolOkHigh, if_pos hok, Dev.updSel, Dev.wrB_sel, hn, ← Dev.wrB_sel s.dev]
    exact completes_silent rfl hg rfl ⟨(rdB_settle (by decide)).trans (rdB_wrB_eq _ (by decide)), changes_bare (bare_wrB _ _ _) fun x hx => rd_wrB_apart _ (hx _ (by simp))⟩
  · exact completes_idle rfl (if_neg (by rw [hok]; decide))
  · have hg : coolStartDone s.dev = s.dev.wr JZ_SEL_STATUS_STATE selRun := if_pos (by simp [hw, hok, hb, ht])
    exact completes_silent rfl hg rfl ⟨(rd_settle (by decide)).trans (rd_wr_eq _ (by decide)), changes_bare (bare_wr _ _ _) fun x hx => rd_wr_apart _ (hx _ (by simp))⟩
  · have hg : coolStartDone s.dev = s.dev.wr JZ_SEL_STATUS_STATE selRun := if_pos (by simp [hw, hok, hr, Option.isSome_iff_ne_none.mpr hf, ht])
    exact completes_silent rfl hg rfl ⟨(rd_settle (by decide)).trans (rd_wr_eq _ (by decide)), changes_bare (bare_wr _ _ _) fun x hx => rd_wr_apart _ (hx _ (by simp))⟩
  · refine completes_idle rfl (if_neg fun hall => ?_)
    simp only [Bool.and_eq_true, decide_eq_true_eq, Bool.or_eq_true, List.isEmpty_iff] at hall
    obtain ⟨⟨⟨hw, hok⟩, hcount⟩, ht⟩ := hall
    rcases h with h | h | h | ⟨hb, h⟩
    · exact h hw
    · exact absurd (h.symm.trans hok) (by decide)
    · exact h ht
    · rcases hcount with hc | ⟨hr, hf⟩
      · exact absurd (hb.symm.trans hc) (by decide)
      · rcases h with h | h
        · exact absurd (h.symm.trans hr) (by decide)
        · rw [h] at hf
          exact absurd hf (by decide)
  · exact completes_unchanged rfl hs (if_neg (by rw [h]; decide))
  · refine completes_unchanged rfl hs (if_neg fun hall => ?_)
    rcases h with h | h
    · exact h hall.1
    · exact absurd (h.symm.trans hall.2) (by decide)
  · have hg : selRelease s.dev = s.dev.wr JZ_SEL_STATUS_STATE selStopped := if_pos h
    exact completes_eq rfl hs hg ⟨(rd_settle (by decide)).trans (rd_wr_eq _ (by decide)), changes_bare (bare_wr _ _ _) fun x hx => rd_wr_apart _ (hx _ (by simp))⟩
  · exact completes_conflict rfl hs (if_neg h) (by decide) (by decide)

end Sys2Proof.Machine
end

section
/-! O25: admission of jobs (R164, R167, R217, R227). -/

namespace Sys2Proof.Machine

/-! A job that is released while a watermark notice is owed to its queue discards the notice, and the discard is counted (R227). -/

/-- A job of one field, with a watermark that its queue has not been told. -/
def owedJob : JobE :=
  { job := 1, owner := none, fields := [0], waferMean := 0, phases := [], phase := 0, tight := false, misses := 0, missTold := false, wm := 1, wmTold := 0, shift := 0 }

/-- At reset, but READY, with that job in entry 0. -/
def owedJobState : State := { State.reset with dev := (Dev.init.wrB JZ_STATUS_READY true).setJob 0 (some owedJob) }

/-- Refutes O25: its clause of RELEASE lets no register but QHANDLE and the fields' F_PLAN change, where the release of a job with an
owed watermark counts a notice discarded (`endJob`): at `owedJobState` NOTE_DISC goes from 0 to 1. -/
theorem not_admissionAndCaps : ¬ Obligations.AdmissionAndCaps := by
  unfold Obligations.AdmissionAndCaps
  rintro ⟨-, -, -, hrelease, -⟩
  have hs : owedJobState.awake := by decide +kernel
  have hready : owedJobState.dev.ready = true := by decide +kernel
  have hjob : owedJobState.dev.jobNo (1 : BitVec 12).toNat = some (0, owedJob) := by decide +kernel
  have hent : owedJobState.dev.job 0 = some owedJob := by decide +kernel
  obtain ⟨t, ht, -, -, -, -, -, -, hregs⟩ := hrelease owedJobState 8 1 0 owedJob hs rfl hready hjob (.inl rfl) hent
  have hsame : t.dev.rd LG_EVT3_NOTE_DISC = owedJobState.dev.rd LG_EVT3_NOTE_DISC := hregs _ (by decide) (by decide)
  have hcounted : (release (8 : Fin 9).val (1 : BitVec 12).toNat owedJobState.dev).rd LG_EVT3_NOTE_DISC = 1 := by decide +kernel
  rw [dev_of_next (c := .release 8 1) rfl hs ht, rd_settle (by decide), hcounted] at hsame
  exact absurd hsame (by decide +kernel)

end Sys2Proof.Machine
end

section
/-! O26: waits of tiles, floors and counted domains (R171, R172, R174, R175, R181, R186). -/

namespace Sys2Proof.Machine

section
variable {s : State} {c : Instr} {g : Dev → Dev} {f p n : Nat}

/-- A command that changes one tile alone. -/
theorem completes_tile {h : TileS → TileS} {x : TileS} (hc : exec c s = done g s) (hs : s.awake) (hg : g s.dev = s.dev.updTi f p n h)
    (hx : h (s.dev.ti f p n) = x) : Completes c s fun t => t.dev.ti f p n = x ∧ s.changes t { s.dev with tile := t.dev.tile } [] := by
  refine completes_eq hc hs hg ⟨?_, ?_⟩
  · rw [ti_settle, ti_updTi, hx]
  · rw [settle_tile]
    exact changes_bare rfl fun _ _ => rfl

/-- A command that changes one domain's own state alone. -/
theorem completes_domain {k : Nat} {h : DomS → DomS} {x : DomS} (hc : exec c s = done g s) (hs : s.awake) (hg : g s.dev = s.dev.updDm f k h)
    (hx : h (s.dev.dm f k) = x) : Completes c s fun t => t.dev.dm f k = x ∧ s.changes t { s.dev with dom := t.dev.dom } [] := by
  refine completes_eq hc hs hg ⟨?_, ?_⟩
  · rw [dm_settle, dm_updDm, hx]
  · rw [settle_dom]
    exact changes_bare rfl fun _ _ => rfl

end

/-! A tile enters or leaves its wait (R172, R181). -/

section
variable {d : Dev} {f p n : Nat} {b : Bool} {a : TileArm}

/-- R172: the kind of a wait. -/
def waitKind (b : Bool) : WaitKind := if b then .barrier else .other

theorem waitEnter_wads (ha : (d.ti f p n).arm = some a) (h : a.light = true ∨ b = true) : waitEnter f p n b d = d.updTi f p n fun x =>
    let x := { x with wait := waitKind b, wads := !d.heddleShut f (domOf p) && !d.wadHeld f p, paused := !(!d.heddleShut f (domOf p) && !d.wadHeld f p), wt := a.level }
    if a.light ∧ a.level = 0 then x.off else x := by
  rw [waitEnter]
  dsimp only
  rw [ha]
  exact if_pos ((Bool.or_eq_true _ _).mpr h)

theorem waitEnter_stays (ha : (d.ti f p n).arm = some a) (hl : a.light = false) (hb : b = false) :
    waitEnter f p n b d = d.updTi f p n fun x => { x with wait := .other } := by
  subst hb
  rw [waitEnter]
  dsimp only
  rw [ha]
  dsimp only
  rw [hl]
  rfl

/-- R172: an unarmed entry into barrier wait is counted. -/
def unarmedEntry (f p n : Nat) (d : Dev) : Dev := (d.updTi f p n fun x => { x with wait := .barrier }).inc (ST_HED_SUM_UNARMED f (domOf p))

theorem unarmed_fits (f k : Nat) : (ST_HED_SUM_UNARMED f k).fits := by simp [Fld.fits, ST_HED_SUM_UNARMED]

theorem rd_unarmedEntry : (unarmedEntry f p n d).rd (ST_HED_SUM_UNARMED f (domOf p)) = satN 0xFFFF (d.rd (ST_HED_SUM_UNARMED f (domOf p)) + 1) := by
  rw [unarmedEntry, rd_inc_eq (unarmed_fits f (domOf p)), Dev.updTi_rd]
  rfl

theorem unarmed_alert (f k : Nat) : (ST_HED_SUM_UNARMED f k).apart PM_STATUS_ALERT :=
  apart_alert (by simp only [ST_HED_SUM_UNARMED, stBase]; omega)

theorem waitEnter_unarmed (ha : (d.ti f p n).arm = none) : waitEnter f p n true d =
    match (d.ti f p n).job.bind d.jobNo with
    | some (j, e) => if e.tight then missHint j (unarmedEntry f p n d) else unarmedEntry f p n d
    | none => unarmedEntry f p n d := by
  have hjob : (unarmedEntry f p n d).jobNo = d.jobNo := rfl
  rw [waitEnter]
  dsimp only
  rw [ha]
  change (match (d.ti f p n).job.bind (unarmedEntry f p n d).jobNo with
    | some (j, e) => if e.tight then missHint j (unarmedEntry f p n d) else unarmedEntry f p n d
    | none => unarmedEntry f p n d) = _
  rw [hjob]

theorem missHint_untold {j : Nat} {e : JobE} (hj : d.job j = some e) (ht : e.missTold = false) : missHint j d =
    (d.setJob j (some { e with misses := satN 127 (e.misses + 1), missTold := true })).raiseR { d.report .ctrl 3 central 0 with job := some e.job } := by
  rw [missHint, hj]
  exact if_neg (by rw [ht]; decide)

theorem waitLeave_other (h : ((d.ti f p n).barrierArm && decide ((d.ti f p n).wait = .barrier)) = false) :
    waitLeave f p n d = d.updTi f p n fun x => { x with wait := .none, wads := false, paused := false } :=
  if_neg (by rw [h]; decide)

theorem waitLeave_gated (hb : (d.ti f p n).barrierArm = true) (hw : (d.ti f p n).wait = .barrier) (hp : d.plan f (domOf p) ≠ plRamp) :
    waitLeave f p n d = d.updTi f p n fun x => { x with wait := .none, gated := true } := by
  have hn : decide (d.plan f (domOf p) = plRamp) = false := decide_eq_false hp
  rw [waitLeave]
  dsimp only
  rw [if_pos (by rw [hb, hw]; rfl), hn, Bool.false_and, Bool.false_and, if_neg (by simp)]
  rfl

theorem waitLeave_starts (hb : (d.ti f p n).barrierArm = true) (hw : (d.ti f p n).wait = .barrier) (hp : d.plan f (domOf p) = plRamp)
    (hr : shedIx p (shedOf n) ∈ (d.dm f (domOf p)).released) (hs : (d.dm f (domOf p)).toStart = []) (hh : d.startHeld f (domOf p) = false)
    (hsh : d.heddleShut f (domOf p) = false) :
    waitLeave f p n d = d.updTi f p n fun x => { x with wait := .none, arm := none, wads := false, paused := false, wt := 0 } := by
  rw [waitLeave]
  dsimp only
  rw [if_pos (by rw [hb, hw]; rfl), if_pos ⟨by simp [hp, hr, hs], hh, hsh⟩]

/-! The floor (R174, R175). -/

variable {k : Nat} {x : Fld}

theorem rd_floorZero (h1 : x.apart (ST_HED_STATE_STATE f k)) (h2 : x.apart (ST_HED_STATE_FLOOR_ZERO f k)) : (floorZero f k d).rd x = d.rd x := by
  rw [floorZero, Dev.updDm_rd, rd_wr_apart _ h1, rd_wrB_apart _ h2]

theorem bare_floorZero : (floorZero f k d).bare = (d.updDm f k fun x => { x with iFloor := 0 }).bare := by
  rw [floorZero, bare_updDm, bare_wr, bare_wrB, bare_updDm]

theorem dm_floorZero : (floorZero f k d).dm f k = { d.dm f k with iFloor := 0 } := by
  rw [floorZero, dm_updDm]
  rfl

/-- R174: the planner after its floor has fallen. -/
theorem floorZero_shows : (settle (floorZero f k d)).plan f k = plDecay ∧ (settle (floorZero f k d)).rdB (ST_HED_STATE_FLOOR_ZERO f k) = true := by
  have hfar (y : Fld) (h : y = ST_HED_STATE_STATE f k ∨ y = ST_HED_STATE_FLOOR_ZERO f k) : y.apart PM_STATUS_ALERT := by
    refine apart_alert ?_
    rcases h with rfl | rfl <;> simp only [ST_HED_STATE_STATE, ST_HED_STATE_FLOOR_ZERO, stBase] <;> omega
  refine ⟨?_, ?_⟩
  · rw [Dev.plan, rd_settle (hfar _ (.inl rfl)), floorZero, Dev.updDm_rd, rd_wr_eq _ (by simp [Fld.fits, ST_HED_STATE_STATE])]
    rfl
  · rw [rdB_settle (hfar _ (.inr rfl)), floorZero, Dev.updDm_rdB, rdB_wr_apart _ (.inr (.inr (by simp [ST_HED_STATE_STATE, ST_HED_STATE_FLOOR_ZERO]))),
      rdB_wrB_eq _ ⟨rfl, by simp [Fld.fits, ST_HED_STATE_FLOOR_ZERO]⟩]

theorem floorExpire_passes (h : d.relPasses f k = true) : floorExpire f k d =
    onlyIf (decide (d.plan f k = plFloor) || decide (d.plan f k = plDecay)) (floorZero f k) (d.updDm f k fun x => { x with relPast := true }) := if_pos h

theorem floorExpire_stands (h : d.relPasses f k = false) : floorExpire f k d =
    if d.plan f k = plFloor ∧ d.rdB (ST_HED_STATE_KIND f k) = true then floorZero f k d else d := if_neg (by rw [h]; decide)

end

/-- Settles O26. -/
theorem barriersAndFloors : Obligations.BarriersAndFloors := by
  unfold Obligations.BarriersAndFloors
  refine ⟨fun s f p n b a hs ha h => ?_, fun s f p n b a hs ha hl hb => ?_, fun s f p n b hs ha hb hj => ?_, fun s f p n b j e hs ha hb hj ht he hm => ?_,
    fun s f p n hs hb hw hp => ?_, fun s f p n hs h => ?_, fun s f p n hs hb hw hp hr hst hh hsh => ?_, fun s f k e hs hpast he hdue hpl => ?_,
    fun s f k hs hrel hf hd => ?_, fun s f k hs hrel hpl hkind => ?_, fun s f k hs hrel h => ?_, fun s f k hs ha hc => ?_, fun s f k hs h => ?_⟩
  · exact completes_tile rfl hs (waitEnter_wads ha h) rfl
  · exact completes_tile rfl hs (waitEnter_stays ha hl hb) rfl
  · subst hb
    have hg := waitEnter_unarmed ha
    have hquiet : waitEnter f p n.toNat true s.dev = unarmedEntry f p n.toNat s.dev := by
      cases hjob : (s.dev.ti f p n.toNat).job.bind s.dev.jobNo with
      | none => rw [hg, hjob]
      | some x =>
        obtain ⟨j, e⟩ := x
        rw [hjob] at hj
        have ht : e.tight = false := by simpa using hj
        rw [hg, hjob]
        exact if_neg (by rw [ht]; decide)
    refine completes_eq rfl hs hquiet ⟨?_, (rd_settle (unarmed_alert _ _)).trans rd_unarmedEntry, ?_⟩
    · rw [ti_settle, unarmedEntry, Dev.inc_ti, ti_updTi]
    · rw [settle_tile]
      refine changes_bare (bare_inc _ _) fun x hx => ?_
      rw [unarmedEntry, rd_inc_apart (hx _ (by simp)), Dev.updTi_rd]
  · subst hb
    have hg := waitEnter_unarmed ha
    have he' : (unarmedEntry f p n.toNat s.dev).job j = some e := he
    rw [hj] at hg
    have hmiss : waitEnter f p n.toNat true s.dev = _ := (hg.trans (if_pos ht)).trans (missHint_untold he' hm)
    refine completes_eq rfl hs hmiss ⟨?_, ?_, ?_⟩
    · rw [job_settle, Dev.raiseR_job, job_setJob]
    · rw [rd_settle (unarmed_alert _ _), Dev.raiseR_rd, Dev.setJob_rd, rd_unarmedEntry]
    · rw [settle_tile, settle_bud]
      refine changes_bare ?_ fun x hx => ?_
      · rw [bare_raiseR, bare_setJob, unarmedEntry, bare_inc]
        rfl
      · rw [Dev.raiseR_rd, Dev.setJob_rd, unarmedEntry, rd_inc_apart (hx _ (by simp)), Dev.updTi_rd]
  · exact completes_tile rfl hs (waitLeave_gated hb hw hp) rfl
  · refine completes_tile rfl hs (waitLeave_other ?_) rfl
    rcases h with h | h
    · rw [h, Bool.false_and]
    · rw [decide_eq_false h, Bool.and_false]
  · exact completes_tile rfl hs (waitLeave_starts hb hw hp hr hst hh hsh) rfl
  · have hrel : s.dev.relPasses f k = true := by
      rw [Dev.relPasses, hpast, he]
      exact decide_eq_true hdue
    have hcond : (decide (s.dev.plan f k = plFloor) || decide (s.dev.plan f k = plDecay)) = true := by simpa using hpl
    have hg := floorExpire_passes hrel
    rw [hcond, onlyIf, if_pos rfl] at hg
    obtain ⟨hplan, hzero⟩ := floorZero_shows (d := s.dev.updDm f k fun x => { x with relPast := true }) (f := f.val) (k := k.val)
    refine completes_eq rfl hs hg ⟨hplan, hzero, ?_, ?_⟩
    · rw [dm_settle, dm_floorZero, dm_updDm]
    · rw [settle_dom]
      exact changes_bare bare_floorZero fun x hx => rd_floorZero (hx _ (by simp)) (hx _ (by simp))
  · have hg := floorExpire_passes hrel
    rw [decide_eq_false hf, decide_eq_false hd] at hg
    exact completes_domain rfl hs hg rfl
  · have hg := floorExpire_stands hrel
    rw [if_pos ⟨hpl, hkind⟩] at hg
    obtain ⟨hplan, hzero⟩ := floorZero_shows (d := s.dev) (f := f.val) (k := k.val)
    refine completes_eq rfl hs hg ⟨hplan, hzero, by rw [dm_settle, dm_floorZero], ?_⟩
    rw [settle_dom]
    exact changes_bare bare_floorZero fun x hx => rd_floorZero (hx _ (by simp)) (hx _ (by simp))
  · refine completes_unchanged rfl hs ((floorExpire_stands hrel).trans (if_neg fun hall => ?_))
    rcases h with h | h
    · exact h hall.1
    · exact absurd (h.symm.trans hall.2) (by decide)
  · have hg : nDomAdd f k s.dev = _ := if_pos ⟨ha, hc⟩
    refine completes_eq rfl hs hg ⟨?_, ?_, ?_⟩
    · rw [dm_settle, Dev.emit_dm]
      have hdm : (s.dev.updDm f k fun x => { x with counted := true }).dm f k = { s.dev.dm f k with counted := true } := dm_updDm _ _ _ _
      exact congrArg DomS.counted hdm
    · rw [settle_bud]
      rfl
    · rw [settle_dom]
      exact changes_bare rfl fun _ _ => rfl
  · refine completes_unchanged rfl hs (if_neg fun hall => ?_)
    rcases h with h | h
    · exact absurd (h.symm.trans hall.1) (by decide)
    · exact absurd (h.symm.trans hall.2) (by decide)

end Sys2Proof.Machine
end

section
/-! O23 and O24: hints, their queue, their reader and their effect (R156 to R160, R171, R175, R190, R249). -/

namespace Sys2Proof.Machine

/-- A value that is not the unlisted one stands in the table. -/
theorem mem_of_tget {α : Type} {dv : α} {t : Tab α} {k : Nat} (h : tget dv t k ≠ dv) : (k, tget dv t k) ∈ t := by
  induction t with
  | nil => exact absurd rfl h
  | cons x t ih =>
    obtain ⟨a, v⟩ := x
    rw [tget] at h ⊢
    by_cases ha : a = k
    · rw [if_pos ha, ha]
      exact List.mem_cons_self
    · rw [if_neg ha] at h ⊢
      exact List.mem_cons_of_mem _ (ih h)

section
variable {d : Dev} {f job : Nat}

/-- A tile with a job is among the tiles of its domain. -/
theorem mem_tilesOfDom {p : Fin 36} {n : Fin 256} (h : (d.ti f p n).job = some job) : (p.val, n.val, d.ti f p n) ∈ d.tilesOfDom f (domOf p) := by
  have hne : d.ti f p n ≠ TileS.init := by
    intro h0
    rw [h0] at h
    exact nomatch h
  refine List.mem_flatMap.mpr ⟨p, mem_patchesOf rfl, List.mem_map.mpr ⟨(n.val, d.ti f p n), List.mem_filterMap.mpr ⟨_, mem_of_tget hne, ?_⟩, rfl⟩⟩
  have hdiv : tkey f p n / 256 = pkey f p := by
    simp only [tkey, pkey]
    omega
  have hmod : tkey f p n % 256 = n := by
    simp only [tkey]
    omega
  simp only [hdiv, hmod, if_true]
  rfl

/-- R171: the arming of one tile. -/
def armTile (f : Nat) (a : TileArm) (x : Nat × Nat × TileS) (d : Dev) : Dev := d.updTi f x.1 x.2.1 fun t => { t with arm := some a }

/-- R171: the arming of a job's tiles in one domain. -/
def armDom (f : Nat) (a : TileArm) (k : Nat) (d : Dev) : Dev := forL ((d.tilesOfDom f k).filter fun x => x.2.2.job = some a.job) (armTile f a) d

theorem armTiles_eq (f job : Nat) (ks : List Nat) (light : Bool) (level group : Nat) (d : Dev) :
    armTiles f job ks light level group d = forL ks (armDom f ⟨job, light, level, group⟩) d := rfl

variable {a : TileArm} {p : Fin 36} {n : Fin 256}

theorem ti_armTile (x : Nat × Nat × TileS) (d : Dev) : (armTile f a x d).ti f p n = d.ti f p n ∨ (armTile f a x d).ti f p n = { d.ti f p n with arm := some a } := by
  by_cases hkey : tkey f p n = tkey f x.1 x.2.1
  · refine .inr ?_
    rw [armTile, Dev.ti, Dev.updTi, hkey, tget_tupd_same, Dev.ti, hkey]
  · refine .inl ?_
    rw [armTile, Dev.ti, Dev.updTi, tget_tupd_ne _ _ _ hkey, Dev.ti]

theorem job_armTile (x : Nat × Nat × TileS) (h : (d.ti f p n).job = some job) : ((armTile f a x d).ti f p n).job = some job := by
  rcases ti_armTile (a := a) (p := p) (n := n) (f := f) x d with hx | hx <;> rw [hx] <;> exact h

theorem arm_armTile (x : Nat × Nat × TileS) (h : (d.ti f p n).arm = some a) : ((armTile f a x d).ti f p n).arm = some a := by
  rcases ti_armTile (a := a) (p := p) (n := n) (f := f) x d with hx | hx <;> rw [hx]
  exact h

theorem job_armDom (k : Nat) (h : (d.ti f p n).job = some job) : ((armDom f a k d).ti f p n).job = some job :=
  forL_preserves (P := fun e => (e.ti f p n).job = some job) (fun x _ _ he => job_armTile x he) h

theorem arm_armDom (k : Nat) (h : (d.ti f p n).arm = some a) : ((armDom f a k d).ti f p n).arm = some a :=
  forL_preserves (P := fun e => (e.ti f p n).arm = some a) (fun x _ _ he => arm_armTile x he) h

theorem armed_armDom (h : (d.ti f p n).job = some a.job) : ((armDom f a (domOf p) d).ti f p n).arm = some a := by
  refine forL_of_mem (P := fun e => (e.ti f p n).arm = some a) (List.mem_filter.mpr ⟨mem_tilesOfDom h, decide_eq_true h⟩) (fun e => ?_)
    (fun x _ _ he => arm_armTile x he) _
  rw [armTile, ti_updTi]

/-- R171: the arming that every tile of the job in the domains gets. -/
theorem arm_armTiles {ks : List Nat} {light : Bool} {level group : Nat} (hk : domOf p ∈ ks) (hj : (d.ti f p n).job = some job) :
    ((armTiles f job ks light level group d).ti f p n).arm = some ⟨job, light, level, group⟩ := by
  rw [armTiles_eq]
  induction ks generalizing d with
  | nil => exact absurd hk List.not_mem_nil
  | cons k ks ih =>
    rcases List.mem_cons.mp hk with h | h
    · subst h
      have h0 : ((armDom f ⟨job, light, level, group⟩ (domOf p) d).ti f p n).arm = some ⟨job, light, level, group⟩ := armed_armDom hj
      exact forL_preserves (P := fun e => (e.ti f p n).arm = some ⟨job, light, level, group⟩) (fun k _ e he => arm_armDom (a := ⟨job, light, level, group⟩) (d := e) k he) (d := armDom f ⟨job, light, level, group⟩ (domOf p) d) h0
    · exact ih h (job_armDom k hj)

theorem sansTiles_armTile (x : Nat × Nat × TileS) (d : Dev) : (armTile f a x d).sansTiles = d.sansTiles := rfl

theorem sansTiles_armDom (k : Nat) (d : Dev) : (armDom f a k d).sansTiles = d.sansTiles :=
  forL_keep Dev.sansTiles _ _ (fun x e => sansTiles_armTile x e) d

theorem sansTiles_armTiles (f job : Nat) (ks : List Nat) (light : Bool) (level group : Nat) (d : Dev) :
    (armTiles f job ks light level group d).sansTiles = d.sansTiles :=
  forL_keep Dev.sansTiles _ _ (fun k e => sansTiles_armDom k e) d

theorem rd_armTiles (f job : Nat) (ks : List Nat) (light : Bool) (level group : Nat) (d : Dev) (x : Fld) :
    (armTiles f job ks light level group d).rd x = d.rd x := by
  rw [armTiles_eq]
  exact rd_forL _ _ fun k e => rd_forL _ _ fun y e' => rfl

end

/-! The reader (R156, R158, R159). -/

section
variable {d : Dev} {f op : Nat} {h : HintE} {g : HintE → Dev → Dev}

theorem readHint_legal (hn : d.nextHint f = some h) (ho : hintOp h.word = op) (hl : d.hintDrops f h.word = none) :
    readHint f op g d = g h (takeHint f d) := by
  rw [readHint, hn]
  exact if_pos ⟨ho, by rw [hl]; rfl⟩

/-- R156: what the reader leaves of a steward's state. -/
def FieldS.taken (x : FieldS) : FieldS := { x with hints := x.hints.tail, read := x.read + 1 }

theorem takeHint_eq (f : Nat) (d : Dev) : takeHint f d = d.updFd f FieldS.taken := rfl

theorem fd_takeHint (f : Nat) (d : Dev) : (takeHint f d).fd f = (d.fd f).taken := by rw [takeHint_eq, fd_updFd]

end

/-- R158: a hint whose effect waits: it leaves the queue and falls due at its effect pick. -/
theorem completes_deferred {s : State} {c : Instr} {f op : Nat} {h : HintE} (hc : exec c s = done (readHint f op (defer_ f)) s) (hs : s.awake)
    (hn : s.dev.nextHint f = some h) (ho : hintOp h.word = op) (hl : s.dev.hintDrops f h.word = none) :
    Completes c s fun t => (t.dev.fd f).hints = (s.dev.fd f).hints.tail ∧ (t.dev.fd f).read = (s.dev.fd f).read + 1 ∧
      (t.dev.fd f).due = (s.dev.fd f).due ++ [⟨s.dev.hintAt h, h⟩] ∧ s.changes t { s.dev with fld := t.dev.fld } [] := by
  have hfd : (defer_ f h (takeHint f s.dev)).fd f = { (s.dev.fd f).taken with due := (s.dev.fd f).due ++ [⟨s.dev.hintAt h, h⟩] } := by
    rw [defer_, fd_updFd, fd_takeHint]
    rfl
  refine completes_eq hc hs (readHint_legal hn ho hl) ⟨?_, ?_, ?_, ?_⟩
  · rw [fd_settle, hfd]
    rfl
  · rw [fd_settle, hfd]
    rfl
  · rw [fd_settle, hfd]
  · rw [settle_fld]
    exact changes_bare rfl fun _ _ => rfl

section
variable {d : Dev} {f w : Nat} {h : HintE} {c : Fld}

/-- R159: a dropped hint is counted in a counter of its steward. -/
theorem fits_of_hintDrops (hd : d.hintDrops f w = some c) : c.fits ∧ c.apart PM_STATUS_ALERT := by
  have hfar (x : Fld) (hx : x = ST_HINT_DROP0_RESERVED f ∨ x = ST_HINT_DROP0_JOB_UNKNOWN f ∨ x = ST_HINT_DROP1_STATE f) : x.fits ∧ x.apart PM_STATUS_ALERT := by
    refine ⟨?_, apart_alert ?_⟩
    · rcases hx with rfl | rfl | rfl <;> simp [Fld.fits, ST_HINT_DROP0_RESERVED, ST_HINT_DROP0_JOB_UNKNOWN, ST_HINT_DROP1_STATE]
    · rcases hx with rfl | rfl | rfl <;> simp only [ST_HINT_DROP0_RESERVED, ST_HINT_DROP0_JOB_UNKNOWN, ST_HINT_DROP1_STATE, stBase] <;> omega
  refine hfar c ?_
  rw [Dev.hintDrops] at hd
  split at hd
  · exact .inl (Option.some.inj hd).symm
  · split at hd
    · exact .inr (.inl (Option.some.inj hd).symm)
    · split at hd
      · exact .inr (.inr (Option.some.inj hd).symm)
      · exact nomatch hd

theorem hintDrop_drops (hn : d.nextHint f = some h) (hd : d.hintDrops f h.word = some c) : hintDrop f d = takeHint f (d.inc c) := by
  rw [hintDrop, hn]
  dsimp only
  rw [hd]

theorem hintDrop_stands (hn : d.nextHint f = some h) (hd : d.hintDrops f h.word = none) : hintDrop f d = d := by
  rw [hintDrop, hn]
  dsimp only
  rw [hd]

/-- R158, R160: the pre-positions of a hint read now. -/
def Dev.preposOf (d : Dev) (f : Nat) (h : HintE) : List Prepos := (hintDoms h).map fun k =>
  ⟨k, hintJob h.word, hintLevel h.word, d.time.count + 1, d.hintAt h + d.rd (ST_HINT_CFG_HINT_HOLD f)⟩

theorem heavyAhead_rail (hn : d.nextHint f = some h) (ho : hintOp h.word = 1) (hl : d.hintDrops f h.word = none) (ht : isTileRail (hintClass h.word) = true) :
    heavyAhead f d = (takeHint f d).updFd f fun x => { x with prepos := x.prepos ++ d.preposOf f h } :=
  (readHint_legal hn ho hl).trans (if_pos ht)

theorem heavyAhead_other (hn : d.nextHint f = some h) (ho : hintOp h.word = 1) (hl : d.hintDrops f h.word = none) (ht : isTileRail (hintClass h.word) = false) :
    heavyAhead f d = takeHint f d := (readHint_legal hn ho hl).trans (if_neg (by rw [ht]; decide))

/-! R171, R175: a BARRIER_AHEAD. -/

/-- The domains of a field with tiles of a job. -/
def Dev.domsWith (d : Dev) (f job : Nat) : List Nat := (List.range 4).filter fun k => (d.tilesOfDom f k).any fun x => x.2.2.job = some job

/-- R175: a domain's expected release by a hint. -/
def relDom (f : Nat) (h : HintE) (k : Nat) (d : Dev) : Dev := d.updDm f k fun x => { x with
  eRel := some (h.recv + hintLead h.word), lead0 := decide (hintLead h.word = 0), relPast := false }

/-- R171, R175: the effect of a BARRIER_AHEAD. -/
def barrierSet (f : Nat) (h : HintE) (ks : List Nat) (d : Dev) : Dev :=
  forL ks (relDom f h) (armTiles f (hintJob h.word) ks false (hintLevel h.word) (hintArg h.word) d)

theorem barrierAhead_eq (hn : d.nextHint f = some h) (ho : hintOp h.word = 3) (hl : d.hintDrops f h.word = none) :
    barrierAhead f d = barrierSet f h ((takeHint f d).domsWith f (hintJob h.word)) (takeHint f d) := readHint_legal hn ho hl

theorem mem_domsWith {job : Nat} {p : Fin 36} {n : Fin 256} (hj : (d.ti f p n).job = some job) : domOf p ∈ d.domsWith f job := by
  refine List.mem_filter.mpr ⟨List.mem_range.mpr ?_, List.any_eq_true.mpr ⟨_, mem_tilesOfDom hj, decide_eq_true hj⟩⟩
  have hp := p.isLt
  rw [domOf]
  split <;> split <;> omega

variable {ks : List Nat}

theorem fld_barrierSet : (barrierSet f h ks d).fld = d.fld :=
  (forL_keep Dev.fld ks (relDom f h) (fun _ _ => rfl) _).trans
    (fld_of_sansTiles (sansTiles_armTiles f (hintJob h.word) ks false (hintLevel h.word) (hintArg h.word) d))

theorem fd_barrierSet : (barrierSet f h ks d).fd f = d.fd f := by rw [Dev.fd, fld_barrierSet, Dev.fd]

theorem arm_barrierSet {p : Fin 36} {n : Fin 256} (hk : domOf p ∈ ks) (hj : (d.ti f p n).job = some (hintJob h.word)) :
    ((barrierSet f h ks d).ti f p n).arm = some ⟨hintJob h.word, false, hintLevel h.word, hintArg h.word⟩ := by
  have h1 : (barrierSet f h ks d).ti f p n = (armTiles f (hintJob h.word) ks false (hintLevel h.word) (hintArg h.word) d).ti f p n :=
    forL_keep (fun e => e.ti f p n) ks (relDom f h) (fun _ _ => rfl) _
  rw [h1]
  exact arm_armTiles hk hj

theorem eRel_relDom {k j : Nat} (hd : (d.dm f k).eRel = some (h.recv + hintLead h.word)) : ((relDom f h j d).dm f k).eRel = some (h.recv + hintLead h.word) := by
  by_cases hk : dkey f k = dkey f j
  · rw [relDom, Dev.dm, Dev.updDm, hk, tget_tupd_same]
  · rw [relDom, Dev.dm, Dev.updDm, tget_tupd_ne _ _ _ hk]
    exact hd

theorem eRel_barrierSet {k : Nat} (hk : k ∈ ks) : ((barrierSet f h ks d).dm f k).eRel = some (h.recv + hintLead h.word) :=
  forL_of_mem (P := fun e => (e.dm f k).eRel = some (h.recv + hintLead h.word)) hk (fun e => by rw [relDom, dm_updDm]) (fun _ _ _ he => eRel_relDom he) _

/-- A device with its tiles and domains blanked. -/
def Dev.sansArms (d : Dev) : Dev := { d.bare with tile := [], dom := [] }

theorem bare_of_sansArms {d e : Dev} (h : d.sansArms = e.sansArms) : d.bare = { e.bare with tile := d.tile, dom := d.dom } :=
  calc d.bare = { d.sansArms with tile := d.tile, dom := d.dom } := rfl
    _ = { e.sansArms with tile := d.tile, dom := d.dom } := by rw [h]

theorem sansArms_of_sansTiles {d e : Dev} (h : d.sansTiles = e.sansTiles) : d.sansArms = e.sansArms :=
  congrArg (fun x : Dev => { x with dom := [] }) h

theorem sansArms_barrierSet : (barrierSet f h ks d).sansArms = d.sansArms :=
  (forL_keep Dev.sansArms ks (relDom f h) (fun _ _ => rfl) _).trans
    (sansArms_of_sansTiles (sansTiles_armTiles f (hintJob h.word) ks false (hintLevel h.word) (hintArg h.word) d))

theorem bare_of_taken {e : Dev} (hb : e.sansArms = (takeHint f d).sansArms) : e.bare = ({ d with fld := e.fld, tile := e.tile, dom := e.dom } : Dev).bare := by
  have hf : e.sansArms.fld = (takeHint f d).sansArms.fld := congrArg Dev.fld hb
  change e.fld = (takeHint f d).fld at hf
  rw [hf]
  exact bare_of_sansArms hb

theorem rd_barrierSet (x : Fld) : (barrierSet f h ks d).rd x = d.rd x :=
  (rd_forL ks (g := relDom f h) _ fun _ _ => rfl).trans (rd_armTiles f (hintJob h.word) ks false (hintLevel h.word) (hintArg h.word) d x)

end

/-- Settles O24. -/
theorem hintsAreRead : Obligations.HintsAreRead := by
  unfold Obligations.HintsAreRead
  refine ⟨fun s f h c hs hn hd => ?_, fun s f h hs hn hd => ?_, fun s f h hs hn ho hl ht => ?_, fun s f h hs hn ho hl ht => ?_, fun s f h hs hn ho hl => ?_,
    fun s f h hs hn ho hl => ?_, fun s f h hs hn ho hl => ?_, fun s f h hs hn ho hl => ?_, fun s f h hs hn ho hl => ?_, fun s f h hs hn ho hl => ?_⟩
  · obtain ⟨hfit, hfar⟩ := fits_of_hintDrops hd
    have hfd : (takeHint f (s.dev.inc c)).fd f = (s.dev.fd f).taken := fd_takeHint f _
    refine completes_eq rfl hs (hintDrop_drops hn hd) ⟨?_, ?_, ?_, ?_⟩
    · rw [rd_settle hfar]
      exact rd_inc_eq hfit
    · rw [fd_settle, hfd]
      rfl
    · rw [fd_settle, hfd]
      rfl
    · rw [settle_fld]
      exact changes_bare rfl fun x hx => rd_inc_apart (hx _ (by simp))
  · exact completes_unchanged rfl hs (hintDrop_stands hn hd)
  · have hfd : ((takeHint f s.dev).updFd f fun x => { x with prepos := x.prepos ++ s.dev.preposOf f h }).fd f =
        { (s.dev.fd f).taken with prepos := (s.dev.fd f).prepos ++ s.dev.preposOf f h } := by
      rw [fd_updFd, fd_takeHint]
      rfl
    refine completes_eq rfl hs (heavyAhead_rail hn ho hl ht) ⟨?_, ?_, ?_, ?_⟩
    · rw [fd_settle, hfd]
      rfl
    · rw [fd_settle, hfd]
      rfl
    · rw [fd_settle, hfd]
      rfl
    · rw [settle_fld]
      exact changes_bare rfl fun _ _ => rfl
  · have hfd := fd_takeHint f s.dev
    refine completes_eq rfl hs (heavyAhead_other hn ho hl ht) ⟨?_, ?_, ?_, ?_⟩
    · rw [fd_settle, hfd]
      rfl
    · rw [fd_settle, hfd]
      rfl
    · rw [fd_settle, hfd]
      rfl
    · rw [settle_fld]
      exact changes_bare rfl fun _ _ => rfl
  · have hfd := fd_takeHint f s.dev
    refine completes_eq rfl hs (barrierAhead_eq hn ho hl) ⟨?_, ?_, fun p n hj => ⟨?_, ?_⟩, ?_⟩
    · rw [fd_settle, fd_barrierSet, hfd]
      rfl
    · rw [fd_settle, fd_barrierSet, hfd]
      rfl
    · rw [ti_settle]
      exact arm_barrierSet (mem_domsWith hj) hj
    · rw [dm_settle]
      exact eRel_barrierSet (mem_domsWith (d := takeHint f s.dev) hj)
    · rw [settle_fld, settle_tile, settle_dom]
      exact changes_bare (bare_of_taken sansArms_barrierSet) fun x _ => rd_barrierSet x
  · exact completes_deferred rfl hs hn ho hl
  · exact completes_deferred rfl hs hn ho hl
  · exact completes_deferred rfl hs hn ho hl
  · exact completes_deferred rfl hs hn ho hl
  · exact completes_deferred rfl hs hn ho hl

/-! Hints are queued and take effect (R156, R158, R160). -/

section
variable {d : Dev} {f a : Nat} {h : HintE}

theorem hintWrite_drain {p w : Nat} (hd : d.draining f = true) : hintWrite f p w d = d.inc (ST_HINT_DROP2_DRAIN f) := if_pos hd

theorem hintWrite_full {p w : Nat} (hd : d.draining f = false) (hl : 64 ≤ (d.fd f).hints.length) : hintWrite f p w d = d.inc (ST_HINT_DROP1_FULL f) :=
  (if_neg (by rw [hd]; decide)).trans (if_pos hl)

theorem hintWrite_queues {p w : Nat} (hd : d.draining f = false) (hl : (d.fd f).hints.length < 64) :
    hintWrite f p w d = d.updFd f fun x => { x with hints := x.hints ++ [⟨w, d.time.count, p⟩] } :=
  (if_neg (by rw [hd]; decide)).trans (if_neg (Nat.not_le_of_lt hl))

/-- R158: the hints whose effect pick has come are no longer due. -/
def effected (f : Nat) (d : Dev) : Dev := d.updFd f fun x => { x with due := x.due.filter fun y => d.time.count < y.at_ }

theorem hintEffect_one (hr : d.rdB TB_STATUS_STOPPED = false) (hd : (d.fd f).due = [⟨a, h⟩]) (ha : a ≤ d.time.count) :
    hintEffect f d = hintEffect1 f h (effected f d) := by
  have hnow : (((d.fd f).due.filter fun x => x.at_ ≤ d.time.count).foldl (fun l x => insertDue x l) []) = [⟨a, h⟩] := by
    rw [hd, List.filter_cons_of_pos (by exact decide_eq_true ha)]
    rfl
  rw [hintEffect, Dev.stopped, hr, if_neg (by decide), hnow]
  rfl

theorem fd_effected (hd : (d.fd f).due = [⟨a, h⟩]) (ha : a ≤ d.time.count) : (effected f d).fd f = { d.fd f with due := [] } := by
  rw [effected, fd_updFd, hd, List.filter_cons_of_neg (by simpa using ha)]
  rfl

/-- R158, R160, R171: a LIGHT_AHEAD at its effect pick. -/
def lightSet (f : Nat) (h : HintE) (d : Dev) : Dev :=
  armTiles f (hintJob h.word) (hintDoms h) true (hintLevel h.word) 0
    (d.updFd f fun x => { x with prepos := x.prepos.filter fun y => !(y.job = hintJob h.word && y.dom ∈ hintDoms h) })

theorem hintEffect1_light (hj : (d.hintJobHere f h.word).isSome = true) (ho : hintOp h.word = 2) : hintEffect1 f h d = lightSet f h d := by
  obtain ⟨x, hx⟩ := Option.isSome_iff_exists.mp hj
  rw [hintEffect1]
  dsimp only
  rw [hx]
  exact if_pos ho

theorem hintEffect1_begin (hj : (d.hintJobHere f h.word).isSome = true) (ho : hintOp h.word = 4) :
    hintEffect1 f h d = collBegin f (hintJob h.word) (hintArg h.word) d := by
  obtain ⟨x, hx⟩ := Option.isSome_iff_exists.mp hj
  rw [hintEffect1]
  dsimp only
  rw [hx]
  exact (if_neg (by rw [ho]; decide)).trans (if_pos ho)

/-- R249: a WATCH at its effect pick. -/
def watchSet (f : Nat) (h : HintE) (d : Dev) : Dev := d.updRp fun r => { r with
  watch := tupd 0 (f * 4096 + hintJob h.word) (fun n => satN 65535 (n + max 1 (hintArg h.word))) r.watch }

theorem watch_watchSet : tget 0 (watchSet f h d).rp.watch (f * 4096 + hintJob h.word) =
    satN 65535 (tget 0 d.rp.watch (f * 4096 + hintJob h.word) + max 1 (hintArg h.word)) := by
  rw [watchSet, Dev.updRp, tget_tupd_same]

theorem hintEffect1_watch (hj : (d.hintJobHere f h.word).isSome = true) (ho : hintOp h.word = 7) : hintEffect1 f h d = watchSet f h d := by
  obtain ⟨x, hx⟩ := Option.isSome_iff_exists.mp hj
  rw [hintEffect1]
  dsimp only
  rw [hx]
  exact (if_neg (by rw [ho]; decide)).trans ((if_neg (by rw [ho]; decide)).trans ((if_neg (by rw [ho]; decide)).trans (if_neg (by rw [ho]; decide))))

/-- R190: the window that a field's COLLECTIVE_BEGIN opens. -/
def Dev.newWin (d : Dev) (f job group : Nat) : Win :=
  { job, group, open_ := true, began := [f], ended := [], fSlow := d.fSlow [f], sent := d.fSlow [f], heard := [], m := none, matching := false }

theorem collBegin_opens {job group i : Nat} (hw : d.winOf job group = none) (hi : freeKey 32 d.bud.wins = some i) :
    collBegin f job group d = d.setWin i (some (d.newWin f job group)) := by
  rw [collBegin, hw]
  dsimp only
  rw [hi]
  rfl

theorem win_setWin (i : Nat) (w : Option Win) (d : Dev) : (d.setWin i w).win i = w := tget_tput_same _ _ _ _

theorem fd_lightSet : (lightSet f h d).fd f = { d.fd f with prepos := (d.fd f).prepos.filter fun y => !(y.job = hintJob h.word && y.dom ∈ hintDoms h) } := by
  have hfld := fld_of_sansTiles (sansTiles_armTiles f (hintJob h.word) (hintDoms h) true (hintLevel h.word) 0
    (d.updFd f fun x => { x with prepos := x.prepos.filter fun y => !(y.job = hintJob h.word && y.dom ∈ hintDoms h) }))
  rw [lightSet, Dev.fd, hfld, ← Dev.fd, fd_updFd]

theorem bare_of_effected {g : FieldS → FieldS} {e : Dev} (hb : e.sansTiles = ((effected f d).updFd f g).sansTiles) :
    e.bare = ({ d with fld := e.fld, tile := e.tile } : Dev).bare := by
  have hf : e.fld = ((effected f d).updFd f g).fld := fld_of_sansTiles hb
  rw [hf]
  exact bare_of_sansTiles hb

end

/-- Settles O23. -/
theorem hintsQueueAndAct : Obligations.HintsQueueAndAct := by
  unfold Obligations.HintsQueueAndAct
  refine ⟨fun s f p w hs hd hl => ?_, fun s f p w hs hd hl => ?_, fun s f p w hs hd => ?_, fun s f h a hs hd ha hr hj ho => ?_,
    fun s f h a i hs hd ha hr hj ho hw hi => ?_, fun s f h a hs hd ha hr hj ho => ?_, fun s f hs hr => ?_, fun s f hs hr => ?_⟩
  · have hfd : (s.dev.updFd f fun x => { x with hints := x.hints ++ [⟨w.toNat, s.dev.time.count, p⟩] }).fd f =
        { s.dev.fd f with hints := (s.dev.fd f).hints ++ [⟨w.toNat, s.dev.time.count, p⟩] } := fd_updFd _ _ _
    refine completes_eq rfl hs (hintWrite_queues hd hl) ⟨?_, fun g hg => ?_, ?_⟩
    · rw [fd_settle, hfd]
    · rw [fd_settle, fd_updFd_ne _ _ (fun h => hg (Fin.ext h))]
    · rw [settle_fld]
      exact changes_bare rfl fun _ _ => rfl
  · exact completes_counted rfl hs (hintWrite_full hd hl) ⟨rfl, by simp [Fld.fits, ST_HINT_DROP1_FULL]⟩
      (apart_alert (by simp only [ST_HINT_DROP1_FULL, stBase]; omega))
  · exact completes_counted rfl hs (hintWrite_drain hd) ⟨rfl, by simp [Fld.fits, ST_HINT_DROP2_DRAIN]⟩
      (apart_alert (by simp only [ST_HINT_DROP2_DRAIN, stBase]; omega))
  · have hfd := fd_effected hd ha
    refine completes_eq rfl hs ((hintEffect_one hr hd ha).trans (hintEffect1_light hj ho)) ⟨?_, fun p n hk hjob => ?_, ?_, ?_⟩
    · rw [fd_settle, fd_lightSet, hfd]
    · rw [ti_settle]
      exact arm_armTiles hk hjob
    · rw [fd_settle, fd_lightSet, hfd]
    · rw [settle_fld, settle_tile]
      exact changes_bare (bare_of_effected (sansTiles_armTiles _ _ _ _ _ _ _)) fun x _ => rd_armTiles _ _ _ _ _ _ _ x
  · have hfd := fd_effected hd ha
    refine completes_eq rfl hs (((hintEffect_one hr hd ha).trans (hintEffect1_begin hj ho)).trans (collBegin_opens hw hi)) ⟨?_, ?_, ?_⟩
    · rw [fd_settle]
      exact congrArg FieldS.due hfd
    · refine ⟨(effected f s.dev).newWin f (hintJob h.word) (hintArg h.word), ?_, rfl, rfl, rfl, rfl, rfl, rfl⟩
      rw [Dev.win, settle_bud]
      exact win_setWin i _ _
    · rw [settle_fld, settle_bud]
      exact changes_bare rfl fun _ _ => rfl
  · have hfd := fd_effected hd ha
    refine completes_eq rfl hs ((hintEffect_one hr hd ha).trans (hintEffect1_watch hj ho)) ⟨?_, ?_, ?_⟩
    · rw [fd_settle]
      exact congrArg FieldS.due hfd
    · rw [settle_rp]
      exact watch_watchSet (d := effected f s.dev)
    · rw [settle_fld, settle_rp]
      exact changes_bare rfl fun _ _ => rfl
  · have hg : preposExpire f s.dev = s.dev.updFd f fun x => { x with prepos := x.prepos.filter fun y => s.dev.time.count < y.until_ } :=
      if_neg (by rw [Dev.stopped, hr]; decide)
    refine completes_eq rfl hs hg ⟨?_, ?_⟩
    · rw [fd_settle, fd_updFd]
    · rw [settle_fld]
      exact changes_bare rfl fun _ _ => rfl
  · exact completes_unchanged rfl hs (if_pos hr)

end Sys2Proof.Machine
end

section
/-! What ledger, replay scheduler, budgets and peer plane leave of the timebase unit, of TB_STATUS and of the L4 record. -/

namespace Sys2Proof.Machine

/-- What only the timebase unit, the start and the collector's L4 change. -/
structure Beat where
  time : TimeS
  tb : Word
  jz : Word
  l4 : Option Nat
  l4Bolts : Nat
  readyBolts : Nat

/-- R19, R318, R370: the count, the status registers of the timebase and of the start, and the L4 record. -/
def Dev.beat (d : Dev) : Beat := ⟨d.time, d.reg 0x20010000, d.reg 0x20000004, d.fc.l4, d.fc.l4Bolts, d.fc.readyBolts⟩

section
variable {d : Dev} {fl : Fld}

/-- A field of another register than the two status registers. -/
def Fld.far (fl : Fld) : Prop := fl.addr ≠ 0x20010000 ∧ fl.addr ≠ 0x20000004

theorem far_of_ne {a l w : Nat} (h1 : a ≠ 0x20010000) (h2 : a ≠ 0x20000004) : (Fld.mk a l w).far := ⟨h1, h2⟩

theorem far_of_le {a l w : Nat} (h : 0x20010000 < a) : (Fld.mk a l w).far :=
  ⟨Nat.ne_of_gt h, Nat.ne_of_gt (Nat.lt_trans (by decide) h)⟩

theorem far_st (f c l w : Nat) : (Fld.mk (stBase f + c) l w).far := far_of_le (by rw [stBase]; omega)
theorem far_st_add (f c i l w : Nat) : (Fld.mk (stBase f + c + i) l w).far := far_of_le (by rw [stBase]; omega)
theorem far_lit_add {a : Nat} (h : 0x20010000 < a) (i l w : Nat) : (Fld.mk (a + i) l w).far := far_of_le (Nat.lt_add_right i h)
theorem far_lit_add_add {a : Nat} (h : 0x20010000 < a) (i j l w : Nat) : (Fld.mk (a + i + j) l w).far :=
  far_of_le (Nat.lt_add_right j (Nat.lt_add_right i h))
theorem far_ps_base (f p l w : Nat) : (Fld.mk (psBase f p) l w).far := far_of_le (by rw [psBase, stBase]; omega)
theorem far_ps (f p c l w : Nat) : (Fld.mk (psBase f p + c) l w).far := far_of_le (by rw [psBase, stBase]; omega)

@[simp] theorem far_BU_SHARE_N : (BU_SHARE_N).far := far_of_ne (by decide) (by decide)
@[simp] theorem far_BU_SHARE_SHARE : (BU_SHARE_SHARE).far := far_of_ne (by decide) (by decide)
@[simp] theorem far_DB_FCNT_MARKS (g : Nat) : (DB_FCNT_MARKS g).far := far_lit_add (by decide) _ _ _
@[simp] theorem far_LG_EVT (k : Nat) : (LG_EVT k).far := far_lit_add (by decide) _ _ _
@[simp] theorem far_LG_MINFREE_MIN : (LG_MINFREE_MIN).far := far_of_ne (by decide) (by decide)
@[simp] theorem far_PS_STATUS_REPLAY (f : Nat) (p : Nat) : (PS_STATUS_REPLAY f p).far := far_ps_base _ _ _ _
@[simp] theorem far_ST_OP_PATCH_SENT (f : Nat) (p : Nat) : (ST_OP_PATCH_SENT f p).far := far_st_add _ _ _ _ _
@[simp] theorem far_ST_RSV_BUSY (f : Nat) (p : Nat) : (ST_RSV_BUSY f p).far := far_st_add _ _ _ _ _

@[simp] theorem beat_wr (v : Nat) (h : fl.far) : (d.wr fl v).beat = d.beat := by
  have h1 : (d.wr fl v).reg 0x20010000 = d.reg 0x20010000 := reg_setReg_ne _ _ h.1.symm
  have h2 : (d.wr fl v).reg 0x20000004 = d.reg 0x20000004 := reg_setReg_ne _ _ h.2.symm
  rw [Dev.beat, h1, h2]
  rfl

@[simp] theorem beat_wrB (b : Bool) (h : fl.far) : (d.wrB fl b).beat = d.beat := beat_wr _ h
@[simp] theorem beat_wrS (z : Int) (h : fl.far) : (d.wrS fl z).beat = d.beat := beat_wr _ h
@[simp] theorem beat_add (n : Nat) (h : fl.far) : (d.add fl n).beat = d.beat := beat_wr _ h
@[simp] theorem beat_inc (h : fl.far) : (d.inc fl).beat = d.beat := beat_wr _ h
@[simp] theorem beat_conflict (h : fl.far) : (conflict fl d).beat = d.beat := beat_wr _ h

@[simp] theorem beat_ite {p : Prop} [Decidable p] {e : Dev} : (if p then d else e).beat = if p then d.beat else e.beat := apply_ite Dev.beat p d e

@[simp] theorem beat_onlyIf {b : Bool} {g : Dev → Dev} (h : (g d).beat = d.beat) : (onlyIf b g d).beat = d.beat := by
  cases b
  · rfl
  · exact h

@[simp] theorem beat_forL {α : Type} (l : List α) {g : α → Dev → Dev} (h : ∀ a d, (g a d).beat = d.beat) (d : Dev) : (forL l g d).beat = d.beat :=
  forL_keep Dev.beat l g h d

@[simp] theorem beat_forN (n : Nat) {g : Nat → Dev → Dev} (h : ∀ i d, (g i d).beat = d.beat) (d : Dev) : (forN n g d).beat = d.beat :=
  forL_keep Dev.beat _ g h d

end

/-! Functions of the units that are at work before the boundary is counted, and at a bolt boundary. -/

@[simp] theorem beat_updPt (f p : Nat) (g : PatchS → PatchS) (d : Dev) : (Dev.updPt f p g d).beat = d.beat := rfl
@[simp] theorem beat_updDm (f k : Nat) (g : DomS → DomS) (d : Dev) : (Dev.updDm f k g d).beat = d.beat := rfl
@[simp] theorem beat_updFd (f : Nat) (g : FieldS → FieldS) (d : Dev) : (Dev.updFd f g d).beat = d.beat := rfl
@[simp] theorem beat_updTi (f p t : Nat) (g : TileS → TileS) (d : Dev) : (Dev.updTi f p t g d).beat = d.beat := rfl
@[simp] theorem beat_setEnt (k : Nat) (e : Option Entry) (d : Dev) : (Dev.setEnt k e d).beat = d.beat := rfl
@[simp] theorem beat_setRecd (k : Nat) (r : Option RRec) (d : Dev) : (Dev.setRecd k r d).beat = d.beat := rfl
@[simp] theorem beat_setJob (j : Nat) (e : Option JobE) (d : Dev) : (Dev.setJob j e d).beat = d.beat := rfl
@[simp] theorem beat_emit (o : Out) (d : Dev) : (Dev.emit o d).beat = d.beat := rfl
@[simp] theorem beat_raiseR (r : Report) (d : Dev) : (Dev.raiseR r d).beat = d.beat := rfl
@[simp] theorem beat_countRec (f k : Nat) (d : Dev) : (countRec f k d).beat = d.beat := rfl

@[simp] theorem beat_dbInc {fl : Fld} (h : fl.far) (d : Dev) : (dbInc fl d).beat = d.beat := by simp [dbInc, h]

@[simp] theorem beat_updLins (l : LoopRef) (g : InstS → InstS) (d : Dev) : (Dev.updLins l g d).beat = d.beat := rfl
@[simp] theorem beat_exemptNext (l : LoopRef) (d : Dev) : (exemptNext l d).beat = d.beat := rfl

@[simp] theorem beat_forLoops (f : Nat) {g : LoopRef → Dev → Dev} (h : ∀ l d, (g l d).beat = d.beat) (d : Dev) : (forLoops f g d).beat = d.beat := by
  simp [forLoops, h]

@[simp] theorem beat_mofsApply (f p : Nat) (d : Dev) : (mofsApply f p d).beat = d.beat := by simp [mofsApply]

@[simp] theorem beat_setPeer (i : Nat) (x : Option Peer) (d : Dev) : (Dev.setPeer i x d).beat = d.beat := rfl
@[simp] theorem beat_updPeer (i : Nat) (g : Peer → Peer) (d : Dev) : (Dev.updPeer i g d).beat = d.beat := rfl
@[simp] theorem beat_updPP (g : PeerS → PeerS) (d : Dev) : (Dev.updPP g d).beat = d.beat := rfl

@[simp] theorem beat_post (o : Out) (d : Dev) : (post o d).beat = d.beat := by simp [post]

@[simp] theorem beat_postHeld (d : Dev) : (postHeld d).beat = d.beat := by
  unfold postHeld
  dsimp only
  split
  · rfl
  · exact (beat_onlyIf (beat_forL _ (fun o d => beat_emit o d) _)).trans (beat_updPP _ d)

@[simp] theorem beat_countSent (dst : Nat) (d : Dev) : (countSent dst d).beat = d.beat := by
  rw [countSent]
  split <;> simp

@[simp] theorem beat_sendMsg (t dst sub : Nat) (body : List Nat) (d : Dev) : (sendMsg t dst sub body d).beat = d.beat := by simp [sendMsg]

@[simp] theorem beat_sendPeer (t i : Nat) (body : List Nat) (d : Dev) : (sendPeer t i body d).beat = d.beat := by
  rw [sendPeer]
  split <;> simp

@[simp] theorem beat_updLed (g : LedgerS → LedgerS) (d : Dev) : (Dev.updLed g d).beat = d.beat := rfl

@[simp] theorem beat_updEnt (i : Nat) (g : Entry → Entry) (d : Dev) : (updEnt i g d).beat = d.beat := by
  rw [updEnt]
  split <;> simp

@[simp] theorem beat_evt (k : Nat) (d : Dev) : (evt k d).beat = d.beat := by simp [evt]

@[simp] theorem beat_offerNotes (i : Nat) (d : Dev) : (offerNotes i d).beat = d.beat := by
  unfold offerNotes
  split
  · rfl
  · split
    · rfl
    · dsimp only
      have h1 (h : Nat) (e : Entry) : (forL e.notes (fun k d => d.emit (.hostNotice h (noteWord0 k e.job e.seq e.gen e.cause) 0)) d).beat = d.beat :=
        beat_forL _ (fun _ d => beat_emit _ d) d
      simp [h1]

@[simp] theorem beat_sendOwed (i : Nat) (due : Dest → Bool) (resend : Bool) (d : Dev) : (sendOwed i due resend d).beat = d.beat := by
  unfold sendOwed
  dsimp only
  (repeat' split) <;> simp

@[simp] theorem beat_tellTiles (i : Nat) (e : Entry) (d : Dev) : (tellTiles i e d).beat = d.beat := by
  unfold tellTiles
  exact beat_forL _ (fun _ d => beat_emit _ d) d

@[simp] theorem beat_tellSewn (i : Nat) (e : Entry) (d : Dev) : (tellSewn i e d).beat = d.beat := rfl

@[simp] theorem beat_moveEnt (i : Nat) (st : EState) (c : Cause) (d : Dev) : (moveEnt i st c d).beat = d.beat := by
  unfold moveEnt
  split
  · rfl
  · split
    · rfl
    · dsimp only
      rw [beat_offerNotes, beat_sendOwed, beat_onlyIf (beat_tellSewn _ _ _), beat_onlyIf (beat_tellTiles _ _ _), beat_onlyIf (beat_emit _ _)]
      rfl

@[simp] theorem beat_tellPoison (i job : Nat) (d : Dev) : (tellPoison i job d).beat = d.beat := rfl

@[simp] theorem beat_poisonEnt (i : Nat) (c : Cause) (d : Dev) : (poisonEnt i c d).beat = d.beat := by
  rw [poisonEnt]
  split <;> simp

@[simp] theorem beat_closeEnt (i : Nat) (d : Dev) : (closeEnt i d).beat = d.beat := by
  unfold closeEnt
  (repeat' split) <;> simp_all

@[simp] theorem beat_closeIf (i : Nat) (ps : List (Entry × Nat)) (d : Dev) : (closeIf i ps d).beat = d.beat := by simp [closeIf]

@[simp] theorem beat_evalEnt (i : Nat) (d : Dev) : (evalEnt i d).beat = d.beat := by
  unfold evalEnt
  dsimp only
  (repeat' split) <;> simp

@[simp] theorem beat_releaseSewn (i : Nat) (d : Dev) : (releaseSewn i d).beat = d.beat := by simp [releaseSewn]

@[simp] theorem beat_reevaluate (d : Dev) : (reevaluate d).beat = d.beat := by simp [reevaluate]

@[simp] theorem beat_noteFree (d : Dev) : (noteFree d).beat = d.beat := by simp [noteFree]

@[simp] theorem beat_newProxy (t : OutTag) (st : EState) (gen : Nat) (d : Dev) : (newProxy t st gen d).1.beat = d.beat := by
  rw [newProxy]
  split <;> simp

@[simp] theorem beat_sendQuery (t : OutTag) (d : Dev) : (sendQuery t d).beat = d.beat := by simp [sendQuery]

@[simp] theorem beat_moveProxy (i : Nat) (st : EState) (gen : Nat) (c : Cause) (wd : Option Nat) (d : Dev) : (moveProxy i st gen c wd d).beat = d.beat := by
  rw [moveProxy]
  split <;> simp

@[simp] theorem beat_noticeResend (i : Nat) (d : Dev) : (noticeResend i d).beat = d.beat := by simp [noticeResend]

@[simp] theorem beat_watermark (j : Nat) (d : Dev) : (watermark j d).beat = d.beat := by
  rw [watermark]
  split <;> simp

@[simp] theorem beat_offerAll (d : Dev) : (offerAll d).beat = d.beat := by simp [offerAll]

@[simp] theorem beat_updRp (g : ReplayS → ReplayS) (d : Dev) : (Dev.updRp g d).beat = d.beat := rfl

@[simp] theorem beat_updRec (i : Nat) (g : RRec → RRec) (d : Dev) : (updRec i g d).beat = d.beat := by
  rw [updRec]
  split <;> simp

@[simp] theorem beat_takePatch (f p i kind fidx : Nat) (d : Dev) : (takePatch f p i kind fidx d).beat = d.beat := by
  unfold takePatch
  dsimp only
  rw [beat_updPt, beat_wrB _ (far_PS_STATUS_REPLAY f p), beat_wrB _ (far_ST_OP_PATCH_SENT f p), beat_wrB _ (far_ST_RSV_BUSY f p), beat_updRp]

@[simp] theorem beat_writeReq (q : RunReq) (d : Dev) : (writeReq q d).beat = d.beat := by simp [writeReq]

@[simp] theorem beat_allocRec (k : Nat) (audit full : Bool) (d : Dev) : (allocRec k audit full d).beat = d.beat := by
  unfold allocRec
  dsimp only
  (repeat' split) <;> simp

@[simp] theorem beat_startRun (i kind : Nat) (g : Region) (d : Dev) : (startRun i kind g d).beat = d.beat := by
  rw [startRun]
  split <;> simp

@[simp] theorem beat_tryRun (i : Nat) (d : Dev) : (tryRun i d).beat = d.beat := by
  unfold tryRun
  dsimp only
  (repeat' split) <;> simp

@[simp] theorem beat_schedule (d : Dev) : (schedule d).beat = d.beat := by
  unfold schedule
  split
  · rfl
  · refine (beat_forL _ (fun (x : Nat × RRec) d => beat_tryRun x.1 d) _).trans (beat_forL _ (fun x d => ?_) d)
    split
    · split <;> simp
    · rfl

@[simp] theorem beat_suspectEnt (k : Nat) (c : Cause) (l : List (Nat × Nat)) (d : Dev) : (suspectEnt k c l d).beat = d.beat := by
  unfold suspectEnt
  dsimp only
  (repeat' split) <;> simp

@[simp] theorem beat_protoErr (f p job : Nat) (k : Option Nat) (d : Dev) : (protoErr f p job k d).beat = d.beat := by
  unfold protoErr
  dsimp only
  split <;> simp

@[simp] theorem beat_addRef (k : Nat) (x : Nat × Nat) (d : Dev) : (addRef k x d).beat = d.beat := by simp [addRef]

@[simp] theorem beat_addTag (k : Nat) (t : OutTag) (d : Dev) : (addTag k t d).beat = d.beat := by
  unfold addTag
  split
  · have h := beat_newProxy t .basted t.gen d
    generalize newProxy t .basted t.gen d = x at h
    obtain ⟨e, _ | i⟩ := x
    · exact h
    · exact ((beat_addRef _ _ _).trans (beat_sendQuery t e)).trans h
  · (repeat' split) <;> simp

@[simp] theorem beat_markStep (m : Mark) (s : Nat × Nat) (d : Dev) : (markStep m s d).beat = d.beat := by
  unfold markStep
  dsimp only
  have h1 (b : Bool) (e : LedgerS → LedgerS) : (onlyIf b (·.updLed e) d).beat = d.beat := beat_onlyIf (beat_updLed _ _)
  split
  · exact h1 _ _
  · split
    · rfl
    · split
      · simp
      · exact beat_onlyIf (h1 _ _)

@[simp] theorem beat_markNow (m : Mark) (d : Dev) : (markNow m d).beat = d.beat := by simp [markNow]

@[simp] theorem beat_earlyMarks (job seq : Nat) (d : Dev) : (earlyMarks job seq d).beat = d.beat := by simp [earlyMarks]

@[simp] theorem beat_takeWatch (f job : Nat) (d : Dev) : (takeWatch f job d).1.beat = d.beat := by
  rw [takeWatch]
  split <;> simp

@[simp] theorem beat_showTag (m : BeginM) (d : Dev) : (showTag m d).beat = d.beat := by
  rw [showTag]
  split <;> simp

@[simp] theorem beat_applyBegin (m : BeginM) (d : Dev) : (applyBegin m d).beat = d.beat := by
  unfold applyBegin
  dsimp only
  (repeat' split) <;> simp

@[simp] theorem beat_retryWaits (d : Dev) : (retryWaits d).beat = d.beat := by simp [retryWaits]

@[simp] theorem beat_updBud (g : BudgetS → BudgetS) (d : Dev) : (Dev.updBud g d).beat = d.beat := rfl
@[simp] theorem beat_setWin (i : Nat) (w : Option Win) (d : Dev) : (Dev.setWin i w d).beat = d.beat := rfl

@[simp] theorem beat_slackCeilings (d : Dev) : (slackCeilings d).beat = d.beat := by
  unfold slackCeilings
  exact beat_forL _ (fun _ d => beat_updFd _ _ d) _

@[simp] theorem beat_slackWin (i : Nat) (d : Dev) : (slackWin i d).beat = d.beat := by
  unfold slackWin
  split
  · rfl
  · split
    · rfl
    · exact (beat_onlyIf (beat_forL _ (fun _ d => beat_sendPeer _ _ _ d) _)).trans (beat_setWin _ _ d)

@[simp] theorem beat_slackBolt (d : Dev) : (slackBolt d).beat = d.beat := by simp [slackBolt]

@[simp] theorem beat_barsBolt (d : Dev) : (barsBolt d).beat = d.beat := by
  unfold barsBolt
  refine (beat_forL _ (fun g d => ?_) _).trans (beat_updBud _ d)
  split
  · rfl
  · split <;> simp

theorem beat_setDom (x : Tab DomS) (d : Dev) : ({ d with dom := x } : Dev).beat = d.beat := rfl

@[simp] theorem beat_shareUpdate (d : Dev) : (shareUpdate d).beat = d.beat := by
  unfold shareUpdate
  dsimp only
  rw [beat_emit, beat_updBud, beat_forL _ (fun k d => beat_updDm _ _ _ d), beat_setDom, beat_wr _ far_BU_SHARE_SHARE, beat_wr _ far_BU_SHARE_N, beat_updBud]

@[simp] theorem beat_barrierSend (d : Dev) : (barrierSend d).beat = d.beat := by simp [barrierSend]

@[simp] theorem beat_heartbeatSend (d : Dev) : (heartbeatSend d).beat = d.beat := by simp [heartbeatSend]

@[simp] theorem beat_groupsBolt (d : Dev) : (groupsBolt d).beat = d.beat := rfl

@[simp] theorem beat_timeReqSend (d : Dev) : (timeReqSend d).beat = d.beat := by simp [timeReqSend]

@[simp] theorem beat_updCls (c : Nat) (g : ClassS → ClassS) (d : Dev) : (updCls c g d).beat = d.beat := rfl

@[simp] theorem beat_offerFault (o : Owed) (d : Dev) : (offerFault o d).beat = d.beat := by
  unfold offerFault
  dsimp only
  split <;> rfl

@[simp] theorem beat_offerFaults (d : Dev) : (offerFaults d).beat = d.beat := by
  unfold offerFaults
  exact beat_forL _ (fun o d => beat_offerFault o d) _

@[simp] theorem beat_exemptAll (d : Dev) : (exemptAll d).beat = d.beat := by
  unfold exemptAll
  rw [beat_exemptNext]
  exact beat_forL _ (fun f d => beat_forLoops f (fun l d => beat_exemptNext l d) d) d

@[simp] theorem beat_ledgerClose (d : Dev) : (ledgerClose d).beat = d.beat := by simp [ledgerClose]

@[simp] theorem beat_missesBolt (d : Dev) : (missesBolt d).beat = d.beat := rfl

@[simp] theorem beat_rackBolt (d : Dev) : (rackBolt d).beat = d.beat := by simp [rackBolt]

@[simp] theorem beat_noticesBolt (d : Dev) : (noticesBolt d).beat = d.beat := by simp [noticesBolt]

@[simp] theorem beat_offsetsBolt (d : Dev) : (offsetsBolt d).beat = d.beat := by simp [offsetsBolt]

@[simp] theorem beat_runningBolt (d : Dev) : (runningBolt d).beat = d.beat := by simp [runningBolt]

/-! O8: the bolt boundary (R21, R370). -/

section
variable {d : Dev}

/-- R21: the units' work at a bolt boundary, ahead of the fault collector's. -/
def boltWork (d : Dev) : Dev := timeReqSend (heartbeatSend (if d.stopped then d else runningBolt d))

theorem beat_boltWork (d : Dev) : (boltWork d).beat = d.beat := by
  rw [boltWork, beat_timeReqSend, beat_heartbeatSend, beat_ite, beat_runningBolt, ite_self]

theorem boltBoundary_works (hb : d.boundaries = true) (hd : d.time.boltDone = false) (hc : d.time.count % 1000 = 0) : boltBoundary d =
    (startBolt (replaceBolt (recordBolt (faultBolt (boltWork (d.updTime fun t => { t with boltDone := true })))))).emit (.interrupt true) :=
  if_neg (by simp [hb, hd, hc])

theorem boltBoundary_stands (h : d.boundaries = false ∨ d.time.boltDone = true ∨ d.time.count % 1000 ≠ 0) : boltBoundary d = d := by
  refine if_pos ?_
  rcases h with h | h | h
  · rw [h]
    rfl
  · rw [h, Bool.or_true, Bool.true_or]
  · rw [decide_eq_true h, Bool.or_true]

theorem ready_of_beat {e : Dev} (h : e.beat = d.beat) : e.ready = d.ready := by
  have hj : e.reg 0x20000004 = d.reg 0x20000004 := congrArg Beat.jz h
  have hr : e.rd JZ_STATUS_READY = d.rd JZ_STATUS_READY := rd_eq_of_reg hj
  rw [Dev.ready, Dev.rdB, hr, Dev.ready, Dev.rdB]

/-- R369: the collector's work at a bolt boundary, ahead of its counts. -/
def collectorWork (d : Dev) : Dev :=
  forN 12 (fun c d => if (d.fcls c).joining then updCls c (fun x => { x with joining := false }) d else d) (offerFaults d)

theorem beat_collectorWork (d : Dev) : (collectorWork d).beat = d.beat := by simp [collectorWork]

/-- R370: the bolts counted for a due L4 and for the end of its count. -/
def l4Bolt (d : Dev) : Dev := { d with fc := { d.fc with
  l4Bolts := if d.fc.l4.isSome then d.fc.l4Bolts + 1 else 0
  readyBolts := if d.ready ∧ d.fc.l4 = none then satN 100000 (d.fc.readyBolts + 1) else d.fc.readyBolts } }

theorem faultBolt_eq (d : Dev) : faultBolt d = l4Bolt (collectorWork d) := by
  unfold faultBolt l4Bolt collectorWork
  generalize forN 12 _ _ = e
  rfl

theorem startBolt_time (d : Dev) : (startBolt d).time = d.time ∧ (startBolt d).fc = d.fc := by
  have hwr (e : Dev) : (reenterL4 e).time = e.time ∧ (reenterL4 e).fc = e.fc := by
    rw [reenterL4]
    split <;> exact ⟨rfl, rfl⟩
  have hpass (e : Dev) : (kernelPass e).time = e.time ∧ (kernelPass e).fc = e.fc := by
    rw [kernelPass]
    split
    · exact hwr _
    · exact ⟨rfl, rfl⟩
  rw [startBolt]
  split
  · exact ⟨rfl, rfl⟩
  · split
    · split
      · exact hpass d
      · exact ⟨rfl, rfl⟩
    · exact ⟨rfl, rfl⟩

theorem replaceBolt_time (d : Dev) : (replaceBolt d).time = d.time ∧ (replaceBolt d).fc = d.fc := by
  rw [replaceBolt]
  split <;> exact ⟨rfl, rfl⟩

end

/-- Settles O8. -/
theorem boltBoundaryInterrupts : Obligations.BoltBoundaryInterrupts := by
  unfold Obligations.BoltBoundaryInterrupts
  refine ⟨fun s hs hb hd hc => ?_, fun s hs h => completes_unchanged rfl hs (boltBoundary_stands h)⟩
  have hbeat := (beat_collectorWork (boltWork (s.dev.updTime fun t => { t with boltDone := true }))).trans (beat_boltWork _)
  have hready := ready_of_beat hbeat
  refine completes_eq rfl hs (boltBoundary_works hb hd hc) ?_
  rw [faultBolt_eq]
  generalize collectorWork (boltWork (s.dev.updTime fun t => { t with boltDone := true })) = e at hbeat hready
  obtain ⟨htime, hfc⟩ := startBolt_time (replaceBolt (recordBolt (l4Bolt e)))
  obtain ⟨htime', hfc'⟩ := replaceBolt_time (recordBolt (l4Bolt e))
  have ht : e.time = { s.dev.time with boltDone := true } := congrArg Beat.time hbeat
  have h4 : e.fc.l4 = s.dev.fc.l4 := congrArg Beat.l4 hbeat
  have hb4 : e.fc.l4Bolts = s.dev.fc.l4Bolts := congrArg Beat.l4Bolts hbeat
  have hbr : e.fc.readyBolts = s.dev.fc.readyBolts := congrArg Beat.readyBolts hbeat
  have hend : (startBolt (replaceBolt (recordBolt (l4Bolt e)))).time = { s.dev.time with boltDone := true } := (htime.trans htime').trans ht
  have hendf : (startBolt (replaceBolt (recordBolt (l4Bolt e)))).fc = (l4Bolt e).fc := hfc.trans hfc'
  refine ⟨?_, ?_, ?_, ?_, ?_⟩
  · rw [settle_out]
    rfl
  · rw [settle_time, Dev.emit_time, hend]
  · rw [settle_time, Dev.emit_time, hend]
  · rw [settle_fc, Dev.emit_fc, hendf]
    rw [← h4, ← hb4]
    rfl
  · rw [settle_fc, Dev.emit_fc, hendf]
    have hr : s.dev.ready = e.ready := hready.symm
    rw [← h4, ← hbr, hr]
    rfl

end Sys2Proof.Machine
end

section
/-! O9: the global resume (R48). -/

namespace Sys2Proof.Machine

/-! The events that a resume applies may end the confirmation of a replay record, which retires patches of the record's field. The
model bounds that field nowhere: the RET word of a field 8000 stands at the address of TB_STATUS, and its bit 10 is STOPPED. -/

/-- An UNPICKED entry that is to be replaced, with record 0. -/
def replacedEntry : Entry := { Dev.init.newEntry 1 0 0 0 with st := .unpicked, cause := .replaced, rslot := some 0 }

/-- A record in confirmation, of a job that has ended, that judges patch 10 of field 8000. -/
def wideRecord : RRec :=
  { entry := 0, phase := .confirm, audit := false, orig := ⟨0, [], 0⟩, rep := none, tie := none, run := none, marked := [], full := false
    rWrong := [], oWrong := [], verdict := .origRight, dR := 0, dT := 0, reqPick := 0, handPick := 0, runs := 0, job := 2, seq := 0, foot := 0
    handAt := none, pR := [], pT := [], kR := 0, kT := 0, judged := some ⟨8000, [10], 0⟩, winP := [], jPos := [0], repAt := none }

/-- A stopped manager with its resume armed, in which a REPLACED of that entry waits. -/
def cutState : State := { State.reset with dev :=
  ((((((Dev.init.wrB JZ_STATUS_READY true).wrB TB_STATUS_STOPPED true).wrB TB_STATUS_RESUME_ARMED true).setEnt 0 (some replacedEntry)).setRecd 0
    (some wideRecord)).updLed fun l => { l with later := [.replaced 8 0] }) }

/-- Refutes O9: its clause of GLOBAL_RESUME has the manager run again at the resume pick, whatever the state: at `cutState` the
resume clears STOPPED, and the REPLACED it then applies retires patch 10 of field 8000 (`recordSettle`, `lapseRepeat`), which sets
the same bit again. -/
theorem not_globalStops : ¬ Obligations.GlobalStops := by
  unfold Obligations.GlobalStops
  rintro ⟨-, -, -, -, -, -, hresume⟩
  have hs : cutState.awake := by decide +kernel
  obtain ⟨t, ht, hrun, -⟩ := hresume cutState hs (by decide +kernel) (by decide +kernel) (by decide +kernel) (by decide +kernel)
  have hstops : (globalResume cutState.fuses cutState.dev).rdB TB_STATUS_STOPPED = true := by decide +kernel
  rw [dev_of_next (c := .globalResume) rfl hs ht, rdB_settle (by decide), hstops] at hrun
  exact absurd hrun (by decide)

end Sys2Proof.Machine
end

section
/-! O27: the division of the cap (R147 to R150). -/

namespace Sys2Proof.Machine

/-! Sums of lists. -/

theorem sumN_eq_sum (l : List Nat) : sumN l = l.sum := List.sum_eq_foldl_nat.symm

/-- Shares of a grant in proportion to weights, each rounded down, are no more than the grant. -/
theorem sum_shares_le {α : Type} (g : Nat) (w : α → Nat) (l : List α) : sumN (l.map fun x => g * w x / max 1 (sumN (l.map w))) ≤ g := by
  have hmul (m : Nat) (l : List α) : (l.map fun x => g * w x / m).sum * m ≤ g * (l.map w).sum := by
    induction l with
    | nil => simp
    | cons x l ih =>
      simp only [List.map_cons, List.sum_cons, Nat.add_mul, Nat.mul_add]
      exact Nat.add_le_add (Nat.div_mul_le_self _ _) ih
  rw [sumN_eq_sum, sumN_eq_sum]
  refine Nat.le_of_mul_le_mul_right (Nat.le_trans (hmul (max 1 (l.map w).sum) l) (Nat.mul_le_mul_left g (Nat.le_max_right 1 _))) ?_
  omega

theorem sumN_le_sumN {α : Type} {u v : α → Nat} {l : List α} (h : ∀ x ∈ l, u x ≤ v x) : sumN (l.map u) ≤ sumN (l.map v) := by
  rw [sumN_eq_sum, sumN_eq_sum]
  induction l with
  | nil => exact Nat.le_refl _
  | cons x l ih =>
    simp only [List.map_cons, List.sum_cons]
    exact Nat.add_le_add (h x List.mem_cons_self) (ih fun y hy => h y (List.mem_cons_of_mem _ hy))

section
variable {d : Dev} {f c a : Nat} {x : Fld}

/-- R150: a field's tile-rail allotment as it stands from the next pick on. -/
def Dev.allotNext (d : Dev) (f : Nat) : Nat := ((d.fd f).allotRise).getD (d.rd (BU_FIELD_ALLOT f))

/-! A class allotment. -/

theorem fd_setAllot (h : Nat) : (setAllot f c a d).fd h = d.fd h := by
  rw [setAllot]
  split <;> rw [Dev.fd, Dev.updCl_fld]
  · rw [Dev.wr_fld, Dev.fd]
  · rw [Dev.fd]

theorem bud_setAllot : (setAllot f c a d).bud = d.bud := by
  rw [setAllot]
  split <;> rw [Dev.updCl_bud]
  rw [Dev.wr_bud]

theorem rd_setAllot (h : x.apart (ST_BUD_CLS_ALLOT f c)) : (setAllot f c a d).rd x = d.rd x := by
  rw [setAllot]
  split <;> rw [Dev.updCl_rd]
  exact rd_wr_apart _ h

/-! The tile-rail allotment of a field. -/

/-- R150: a rise that waits for the next pick. -/
def FieldS.rising (r : Option Nat) (x : FieldS) : FieldS := { x with allotRise := r }

theorem setFieldAllot_falls (h : a < d.rd (BU_FIELD_ALLOT f)) : setFieldAllot f a d = (d.wr (BU_FIELD_ALLOT f) a).updFd f (FieldS.rising none) := if_pos h

theorem setFieldAllot_rises (h : ¬ a < d.rd (BU_FIELD_ALLOT f)) :
    setFieldAllot f a d = d.updFd f (FieldS.rising (if d.rd (BU_FIELD_ALLOT f) < a then some a else none)) := if_neg h

theorem allotNext_setFieldAllot : (setFieldAllot f a d).allotNext f ≤ a := by
  by_cases h : a < d.rd (BU_FIELD_ALLOT f)
  · rw [setFieldAllot_falls h, Dev.allotNext, fd_updFd, Dev.updFd_rd, rd_wr_eq _ (by simp [Fld.fits, BU_FIELD_ALLOT])]
    exact Nat.mod_le _ _
  · rw [setFieldAllot_rises h, Dev.allotNext, fd_updFd, Dev.updFd_rd, FieldS.rising]
    dsimp only
    split <;> simp only [Option.getD_some, Option.getD_none] <;> omega

/-! What the division reads of a field's own state. -/

/-- R148, R270: the part of a field's state that its weight and its fixed allotments depend on. -/
def FieldS.rank (x : FieldS) : Bool × FieldStop × Nat × Option Nat × Bool := (x.up, x.stop, x.wt, x.memaCut, x.optEng)

theorem rank_updFd {g : FieldS → FieldS} (hg : ∀ x, (g x).rank = x.rank) (d : Dev) (f h : Nat) : ((d.updFd f g).fd h).rank = (d.fd h).rank := by
  by_cases hf : h = f
  · rw [hf, fd_updFd, hg]
  · rw [fd_updFd_ne _ _ hf]

theorem rank_rising (r : Option Nat) (x : FieldS) : (x.rising r).rank = x.rank := rfl

theorem fd_wr (y : Fld) (v h : Nat) (d : Dev) : (d.wr y v).fd h = d.fd h := by rw [Dev.fd, Dev.wr_fld, Dev.fd]

theorem rank_setFieldAllot (h : Nat) : ((setFieldAllot f a d).fd h).rank = (d.fd h).rank := by
  by_cases hlt : a < d.rd (BU_FIELD_ALLOT f)
  · rw [setFieldAllot_falls hlt, rank_updFd (rank_rising none), fd_wr]
  · rw [setFieldAllot_rises hlt, rank_updFd (rank_rising _)]

theorem fd_setFieldAllot_ne {h : Nat} (hf : h ≠ f) : (setFieldAllot f a d).fd h = d.fd h := by
  by_cases hlt : a < d.rd (BU_FIELD_ALLOT f)
  · rw [setFieldAllot_falls hlt, fd_updFd_ne _ _ hf, fd_wr]
  · rw [setFieldAllot_rises hlt, fd_updFd_ne _ _ hf]

theorem bud_setFieldAllot : (setFieldAllot f a d).bud = d.bud := by
  by_cases hlt : a < d.rd (BU_FIELD_ALLOT f)
  · rw [setFieldAllot_falls hlt, Dev.updFd_bud, Dev.wr_bud]
  · rw [setFieldAllot_rises hlt, Dev.updFd_bud]

theorem rd_setFieldAllot (h : x.apart (BU_FIELD_ALLOT f)) : (setFieldAllot f a d).rd x = d.rd x := by
  by_cases hlt : a < d.rd (BU_FIELD_ALLOT f)
  · rw [setFieldAllot_falls hlt, Dev.updFd_rd, rd_wr_apart _ h]
  · rw [setFieldAllot_rises hlt, Dev.updFd_rd]

/-! The allotment of OPTICS. -/

/-- R170: OPTICS is cut below its fixed value. -/
def FieldS.opticsCut (b : Bool) (x : FieldS) : FieldS := { x with optCut := x.optCut || b }

theorem setOptics_eq (f : Nat) (d : Dev) : setOptics f d = (setAllot f 5 (d.optNow f) d).updFd f (FieldS.opticsCut (decide (d.optNow f < d.fixOpt f))) := rfl

theorem rank_opticsCut (b : Bool) (x : FieldS) : (x.opticsCut b).rank = x.rank := rfl

theorem rank_setOptics (h : Nat) : ((setOptics f d).fd h).rank = (d.fd h).rank := by
  rw [setOptics_eq, rank_updFd (rank_opticsCut _), fd_setAllot]

theorem fd_setOptics_ne {h : Nat} (hf : h ≠ f) : (setOptics f d).fd h = d.fd h := by rw [setOptics_eq, fd_updFd_ne _ _ hf, fd_setAllot]

theorem bud_setOptics : (setOptics f d).bud = d.bud := by rw [setOptics_eq, Dev.updFd_bud, bud_setAllot]

theorem rd_setOptics (h : x.apart (ST_BUD_CLS_ALLOT f 5)) : (setOptics f d).rd x = d.rd x := by rw [setOptics_eq, Dev.updFd_rd, rd_setAllot h]

/-! The bobbin. -/

theorem fd_bobTrim (h : Nat) : (bobTrim f d).fd h = d.fd h := by
  rw [bobTrim]
  split
  · exact fd_wr _ _ _ _
  · rfl

theorem bud_bobTrim : (bobTrim f d).bud = d.bud := by
  rw [bobTrim]
  split
  · rw [Dev.wr_bud]
  · rfl

theorem rd_bobTrim (h : x.apart (ST_BUD_BOBBIN_LEVEL f)) : (bobTrim f d).rd x = d.rd x := by
  rw [bobTrim]
  split
  · exact rd_wr_apart _ h
  · rfl

/-! The division of one field (R149). -/

/-- R149: the allotments of a field's classes. -/
def divideClasses (gf f : Nat) (d : Dev) : Dev :=
  let d := forL tileClasses (fun c d => setAllot f c (if c = 0 ∧ d.stressRuns f then d.stressAllot f else gf * d.share f c / 256) d) d
  setOptics f (setAllot f 3 (d.fixMemb f) (setAllot f 2 (d.memaNow f) d))

/-- R149: the share of the grant that a field gets. -/
def Dev.shareOf (d : Dev) (g ws f : Nat) : Nat := min (d.rd BU_FIELD_LIM_FIELD_MAX) (g * d.weight f / max 1 ws)

theorem divideField_eq (g ws f : Nat) (d : Dev) : divideField g ws f d =
    let d' := divideClasses (d.shareOf g ws f) f d
    bobTrim f (setFieldAllot f (d.shareOf g ws f) (d'.wrB (BU_FIELD_INSERVICE f) (d'.inService f && !d'.selStop))) := rfl

theorem rank_divideClasses (gf h : Nat) : ((divideClasses gf f d).fd h).rank = (d.fd h).rank := by
  rw [divideClasses, rank_setOptics, fd_setAllot, fd_setAllot]
  exact congrArg FieldS.rank (forL_keep (fun d => d.fd h) _ _ (fun c d => fd_setAllot h) d)

theorem fd_divideClasses_ne {gf h : Nat} (hf : h ≠ f) : (divideClasses gf f d).fd h = d.fd h := by
  rw [divideClasses, fd_setOptics_ne hf, fd_setAllot, fd_setAllot]
  exact forL_keep (fun d => d.fd h) _ _ (fun c d => fd_setAllot h) d

theorem bud_divideClasses (gf : Nat) : (divideClasses gf f d).bud = d.bud := by
  rw [divideClasses, bud_setOptics, bud_setAllot, bud_setAllot]
  exact forL_keep Dev.bud _ _ (fun c d => bud_setAllot) d

theorem rd_divideClasses {gf : Nat} (h : ∀ c < 8, x.apart (ST_BUD_CLS_ALLOT f c)) : (divideClasses gf f d).rd x = d.rd x := by
  rw [divideClasses, rd_setOptics (h 5 (by decide)), rd_setAllot (h 3 (by decide)), rd_setAllot (h 2 (by decide))]
  refine forL_keep_mem (fun d => d.rd x) (fun c hc d => rd_setAllot (h c ?_)) d
  have hlt : ∀ c ∈ tileClasses, c < 8 := by decide
  exact hlt c hc

/-- The fields of registers that the division of a field may write. -/
def divRegs (f : Nat) : List Fld :=
  (List.range 8).map (ST_BUD_CLS_ALLOT f) ++ [BU_FIELD_INSERVICE f, BU_FIELD_ALLOT f, ST_BUD_BOBBIN_LEVEL f]

theorem fd_wrB (y : Fld) (b : Bool) (h : Nat) (d : Dev) : (d.wrB y b).fd h = d.fd h := fd_wr _ _ _ _

variable {g ws : Nat}

theorem rank_divideField (h : Nat) : ((divideField g ws f d).fd h).rank = (d.fd h).rank := by
  rw [divideField_eq]
  dsimp only
  rw [fd_bobTrim, rank_setFieldAllot, fd_wrB, rank_divideClasses]

theorem bud_divideField : (divideField g ws f d).bud = d.bud := by
  rw [divideField_eq]
  dsimp only
  rw [bud_bobTrim, bud_setFieldAllot, Dev.wrB_bud, bud_divideClasses]

theorem rd_divideField (h : ∀ y ∈ divRegs f, x.apart y) : (divideField g ws f d).rd x = d.rd x := by
  have h1 (y : Fld) (hy : y ∈ [BU_FIELD_INSERVICE f, BU_FIELD_ALLOT f, ST_BUD_BOBBIN_LEVEL f]) : x.apart y := h y (List.mem_append_right _ hy)
  have h2 (c : Nat) (hc : c < 8) : x.apart (ST_BUD_CLS_ALLOT f c) := h _ (List.mem_append_left _ (List.mem_map.mpr ⟨c, List.mem_range.mpr hc, rfl⟩))
  rw [divideField_eq]
  dsimp only
  rw [rd_bobTrim (h1 _ (by simp)), rd_setFieldAllot (h1 _ (by simp)), rd_wrB_apart _ (h1 _ (by simp)), rd_divideClasses h2]

/-- R150: the field's allotment is no more than its share. -/
theorem allotNext_divideField : (divideField g ws f d).allotNext f ≤ g * d.weight f / max 1 ws := by
  rw [divideField_eq]
  dsimp only
  rw [Dev.allotNext, fd_bobTrim, rd_bobTrim (by simp [Fld.apart, BU_FIELD_ALLOT, ST_BUD_BOBBIN_LEVEL, stBase]; omega), ← Dev.allotNext]
  exact Nat.le_trans allotNext_setFieldAllot (Nat.min_le_right _ _)

/-- R150: the other fields' allotments stand. -/
theorem allotNext_divideField_ne {h : Nat} (hf : h ≠ f) (hlf : f < 96) (hlh : h < 96) : (divideField g ws f d).allotNext h = d.allotNext h := by
  have hfd : (divideField g ws f d).fd h = d.fd h := by
    rw [divideField_eq]
    dsimp only
    rw [fd_bobTrim, fd_setFieldAllot_ne hf, fd_wrB, fd_divideClasses_ne hf]
  have hrd : (divideField g ws f d).rd (BU_FIELD_ALLOT h) = d.rd (BU_FIELD_ALLOT h) := rd_divideField fun y hy => .inl ?_
  · rw [Dev.allotNext, hfd, hrd, Dev.allotNext]
  · rcases List.mem_append.mp hy with hy | hy
    · obtain ⟨c, -, rfl⟩ := List.mem_map.mp hy
      simp only [BU_FIELD_ALLOT, ST_BUD_CLS_ALLOT, stBase]
      omega
    · rcases List.mem_cons.mp hy with rfl | hy
      · simp only [BU_FIELD_ALLOT, BU_FIELD_INSERVICE]
        omega
      · rcases List.mem_cons.mp hy with rfl | hy
        · simp only [BU_FIELD_ALLOT]
          omega
        · rw [List.mem_singleton.mp hy]
          simp only [BU_FIELD_ALLOT, ST_BUD_BOBBIN_LEVEL, stBase]
          omega

end

/-! The division of all fields. -/

/-- A field of a register that no division of a field writes. -/
def Fld.undivided (x : Fld) : Prop := ∀ f < 96, ∀ y ∈ divRegs f, x.apart y

/-- What the division reads but does not change: the fields' states, the budget unit's own, and the other registers but the grant's. -/
structure Dev.SameTerms (d e : Dev) : Prop where
  rank : ∀ h, (e.fd h).rank = (d.fd h).rank
  bud : e.bud = d.bud
  rd : ∀ x : Fld, x.undivided → x.addr ≠ BU_GRANT_G.addr → e.rd x = d.rd x

section
variable {d e : Dev} {f g ws : Nat} {x : Fld}

/-- A field below the fields' registers of the budget unit is written by none of its divisions. -/
theorem undivided_of_lt (h : x.addr < 0x20030100) : x.undivided := by
  intro f hf y hy
  refine .inl ?_
  rcases List.mem_append.mp hy with hy | hy
  · obtain ⟨c, -, rfl⟩ := List.mem_map.mp hy
    simp only [ST_BUD_CLS_ALLOT, stBase]
    omega
  · simp only [List.mem_cons, List.not_mem_nil, or_false] at hy
    rcases hy with rfl | rfl | rfl <;> simp only [BU_FIELD_ALLOT, BU_FIELD_INSERVICE, ST_BUD_BOBBIN_LEVEL, stBase] <;> omega

/-- A steward's registers of its fixed allotments are written by no division. -/
theorem undivided_fixed {h k : Nat} (ha : x.addr = stBase h + 0x1014 + k) (hk : k ≤ 4) : x.undivided := by
  intro f hf y hy
  refine .inl ?_
  rw [stBase] at ha
  rcases List.mem_append.mp hy with hy | hy
  · obtain ⟨c, hc, rfl⟩ := List.mem_map.mp hy
    have hc8 := List.mem_range.mp hc
    simp only [ST_BUD_CLS_ALLOT, stBase]
    omega
  · simp only [List.mem_cons, List.not_mem_nil, or_false] at hy
    rcases hy with rfl | rfl | rfl <;> simp only [BU_FIELD_ALLOT, BU_FIELD_INSERVICE, ST_BUD_BOBBIN_LEVEL, stBase] <;> omega

theorem fixed_ne (h k : Nat) : stBase h + 0x1014 + k ≠ BU_GRANT_G.addr := by
  have : BU_GRANT_G.addr = 0x20030014 := rfl
  rw [this, stBase]
  omega

theorem sameTerms_divideField (hf : f < 96) (h : d.SameTerms e) : d.SameTerms (divideField g ws f e) where
  rank k := (rank_divideField k).trans (h.rank k)
  bud := bud_divideField.trans h.bud
  rd x hx hg := (rd_divideField (hx f hf)).trans (h.rd x hx hg)

theorem Dev.SameTerms.weight (h : d.SameTerms e) (f : Nat) : e.weight f = d.weight f := by
  have hr := h.rank f
  simp only [FieldS.rank, Prod.mk.injEq] at hr
  obtain ⟨hup, hstop, hwt, -, -⟩ := hr
  have hsel : e.rd JZ_SEL_STATUS_STATE = d.rd JZ_SEL_STATUS_STATE := h.rd _ (undivided_of_lt (by decide)) (by decide)
  rw [Dev.weight, Dev.inService, Dev.selStop, Dev.selState, hup, hstop, hwt, hsel, Dev.weight, Dev.inService, Dev.selStop, Dev.selState]

theorem Dev.SameTerms.sp (h : d.SameTerms e) : e.sp = d.sp := by
  have hmax : e.rd BU_CAP_LIMITS_CAP_MAX = d.rd BU_CAP_LIMITS_CAP_MAX := h.rd _ (undivided_of_lt (by decide)) (by decide)
  have hres : e.rd BU_RESERVE_RESERVE = d.rd BU_RESERVE_RESERVE := h.rd _ (undivided_of_lt (by decide)) (by decide)
  rw [Dev.sp, Dev.cap, h.bud, hmax, hres, Dev.sp, Dev.cap]

theorem Dev.SameTerms.newFix (h : d.SameTerms e) : e.newFix = d.newFix := by
  have hterm (f : Nat) : e.memaNow f + e.fixMemb f + e.optNow f = d.memaNow f + d.fixMemb f + d.optNow f := by
    have hr := h.rank f
    simp only [FieldS.rank, Prod.mk.injEq] at hr
    obtain ⟨-, -, -, hmema, heng⟩ := hr
    have h1 : e.rd (ST_BUD_FIXED0_MEMA f) = d.rd (ST_BUD_FIXED0_MEMA f) := h.rd _ (undivided_fixed (h := f) (k := 0) rfl (by decide)) (fixed_ne f 0)
    have h2 : e.rd (ST_BUD_FIXED0_MEMB f) = d.rd (ST_BUD_FIXED0_MEMB f) := h.rd _ (undivided_fixed (h := f) (k := 0) rfl (by decide)) (fixed_ne f 0)
    have h3 : e.rd (ST_BUD_FIXED1_OPTICS f) = d.rd (ST_BUD_FIXED1_OPTICS f) := h.rd _ (undivided_fixed (h := f) (k := 4) rfl (by decide)) (fixed_ne f 4)
    have h4 : e.rd (ST_BUD_FIXED1_OPT_FLOOR f) = d.rd (ST_BUD_FIXED1_OPT_FLOOR f) := h.rd _ (undivided_fixed (h := f) (k := 4) rfl (by decide)) (fixed_ne f 4)
    rw [Dev.memaNow, Dev.fixMema, Dev.fixMemb, Dev.optNow, Dev.optFloor, Dev.fixOpt, hmema, heng, h1, h2, h3, h4, h.bud,
      Dev.memaNow, Dev.fixMema, Dev.fixMemb, Dev.optNow, Dev.optFloor, Dev.fixOpt]
  rw [Dev.newFix, Dev.newFix]
  exact congrArg sumN (List.map_congr_left fun f _ => hterm f)

/-- R149, R150: each field divided gets no more than its share of the grant; the terms of the division stand. -/
theorem divided {l : List Nat} (hl : ∀ f ∈ l, f < 96) (h : d.SameTerms e) : d.SameTerms (forL l (divideField g ws) e) ∧
    ∀ k < 96, k ∈ l ∨ e.allotNext k ≤ g * d.weight k / max 1 ws → (forL l (divideField g ws) e).allotNext k ≤ g * d.weight k / max 1 ws := by
  induction l generalizing e with
  | nil => exact ⟨h, fun k _ hk => hk.elim (fun hk => absurd hk List.not_mem_nil) id⟩
  | cons f l ih =>
    have hf := hl f List.mem_cons_self
    obtain ⟨hsame, hall⟩ := ih (fun k hk => hl k (List.mem_cons_of_mem _ hk)) (sameTerms_divideField (g := g) (ws := ws) hf h)
    refine ⟨hsame, fun k hk96 hk => hall k hk96 ?_⟩
    by_cases hkf : k = f
    · refine .inr ?_
      rw [hkf, ← h.weight f]
      exact allotNext_divideField
    · rcases hk with hk | hk
      · exact .inl ((List.mem_cons.mp hk).resolve_left hkf)
      · refine .inr ?_
        rw [allotNext_divideField_ne hkf hf hk96]
        exact hk

end

/-- R149: the grant of a division. -/
def Dev.grant (d : Dev) : Nat := (min (d.cmd capRef) ((d.sp : Int) - d.newFix)).toNat

/-- R148, R439: what the division notes before it grants. -/
def divideTerms (d : Dev) : Dev :=
  opticsRoomCut (forL allFields (fun f d => d.updFd f fun x => { x with optEng := d.engineOut f, wt := min 256 (d.rd (BU_FIELD_WT f)) }) d)

theorem budgetDivide_eq (d : Dev) : budgetDivide d = let e := divideTerms d
    forL allFields (divideField e.grant e.weights) (e.wr BU_GRANT_G e.grant) := rfl

/-- R91, R107: the grant fits its register. -/
theorem grant_lt (d : Dev) : d.grant < 2 ^ 18 := by
  have h : d.rd capRef.u < 2 ^ 18 := rd_lt _ _
  have hc : d.cmd capRef = (d.rd capRef.u : Int) := rfl
  rw [Dev.grant, hc]
  omega

/-- Settles O27. -/
theorem divisionStaysWithinTheCap : Obligations.DivisionStaysWithinTheCap := by
  unfold Obligations.DivisionStaysWithinTheCap
  intro d t ht
  rw [budgetDivide_eq] at ht
  dsimp only at ht
  generalize divideTerms d = e at ht
  have hgrant : (e.wr BU_GRANT_G e.grant).rd BU_GRANT_G = e.grant := (rd_wr_eq _ (by decide)).trans (Nat.mod_eq_of_lt (grant_lt e))
  have hsame : e.SameTerms (e.wr BU_GRANT_G e.grant) :=
    ⟨fun h => by rw [fd_wr], by rw [Dev.wr_bud], fun x _ hx => rd_wr_apart _ (.inl hx)⟩
  obtain ⟨hterms, hall⟩ := divided (g := e.grant) (ws := e.weights) (l := allFields) (fun f hf => List.mem_range.mp hf) hsame
  have hkept : t.rd BU_GRANT_G = e.grant := by
    rw [ht]
    refine (forL_keep_mem (fun d => d.rd BU_GRANT_G) (l := allFields) (g := divideField e.grant e.weights) (fun f hf d => ?_) _).trans hgrant
    exact rd_divideField (undivided_of_lt (by decide) f (List.mem_range.mp hf))
  rw [← ht] at hterms hall
  refine ⟨?_, ?_⟩
  · rw [hkept]
    refine Nat.le_trans (sumN_le_sumN fun f hf => hall f (List.mem_range.mp hf) (.inl hf)) ?_
    exact sum_shares_le e.grant e.weight allFields
  · rw [hkept, hterms.sp, hterms.newFix, Dev.grant]
    omega

end Sys2Proof.Machine
end
